-- ==== Sys2Proof/Word.lean ====
section
/-! DEFINITION. The word types of the model and their plainest arithmetic: bytes, little-endian
fields (R7), sorted tables with a default value, and bounded lists. -/

namespace Sys2Proof

abbrev Byte := BitVec 8
abbrev U16 := BitVec 16
abbrev U32 := BitVec 32
abbrev U64 := BitVec 64

/-- A table from numbers to values, kept as a list of pairs in strictly rising order that lists no
entry equal to the table's default. -/
abbrev Tab (V : Type) := List (Nat × V)

namespace Tab

/-- The value at `k`: the first listed one, else the default `d`. -/
def get {V : Type} (d : V) : Tab V → Nat → V
  | [], _ => d
  | (j, v) :: m, k => if j = k then v else get d m k

/-- The table without key `k`. -/
def drop {V : Type} : Tab V → Nat → Tab V
  | [], _ => []
  | (j, v) :: m, k => if j = k then drop m k else (j, v) :: drop m k

/-- `k ↦ v` placed before the first larger key. -/
def place {V : Type} : Tab V → Nat → V → Tab V
  | [], k, v => [(k, v)]
  | (j, w) :: m, k, v => if k < j then (k, v) :: (j, w) :: m else (j, w) :: place m k v

/-- Writing `v` at `k`; writing the default removes the entry. -/
def set {V : Type} [DecidableEq V] (d : V) (m : Tab V) (k : Nat) (v : V) : Tab V :=
  if v = d then drop m k else place (drop m k) k v

/-- Changing the value at `k` by a function. -/
def upd {V : Type} [DecidableEq V] (d : V) (m : Tab V) (k : Nat) (f : V → V) : Tab V :=
  set d m k (f (get d m k))

/-- The canonical form: keys strictly rising from `lo`, no entry equal to the default. -/
def wfFrom {V : Type} [DecidableEq V] (d : V) : Nat → Tab V → Bool
  | _, [] => true
  | lo, (j, v) :: m => decide (lo ≤ j) && decide (v ≠ d) && wfFrom d (j + 1) m

/-- The canonical form of a whole table. -/
def wf {V : Type} [DecidableEq V] (d : V) (m : Tab V) : Bool := wfFrom d 0 m

end Tab

/-- The first `n` elements of a list, with `d` where the list is shorter. -/
def padTo {α : Type} (d : α) : Nat → List α → List α
  | 0, _ => []
  | n + 1, [] => d :: padTo d n []
  | n + 1, a :: l => a :: padTo d n l

/-- A list with one more element at its end, cut to its newest `n` elements. -/
def pushKeep {α : Type} (n : Nat) (l : List α) (a : α) : List α :=
  (l ++ [a]).drop ((l.length + 1) - n)

/-- The list with the element at `i` changed by `f`. -/
def modAt {α : Type} (f : α → α) : List α → Nat → List α
  | [], _ => []
  | a :: l, 0 => f a :: l
  | a :: l, i + 1 => a :: modAt f l i

/-- The list without its element at `i`. -/
def removeAt {α : Type} : List α → Nat → List α
  | [], _ => []
  | _ :: l, 0 => l
  | a :: l, i + 1 => a :: removeAt l i

/-- The numbers below `n`, rising. -/
def upTo (n : Nat) : List Nat := List.range n

/-- Rounding up to a whole multiple of `m`. -/
def ceilMul (x m : Nat) : Nat := if m = 0 then x else ((x + (m - 1)) / m) * m

/-- Ceiling division. -/
def ceilDiv (x m : Nat) : Nat := if m = 0 then 0 else (x + (m - 1)) / m

/-- Signed division rounded to the nearest whole number, halves away from zero. -/
def roundDiv (a : Int) (b : Nat) : Int :=
  if b = 0 then 0
  else if a ≥ 0 then ((2 * a.toNat + b) / (2 * b) : Nat)
  else -(((2 * (-a).toNat + b) / (2 * b) : Nat) : Int)

/-- An integer held within bounds. -/
def clampInt (lo hi x : Int) : Int := if x < lo then lo else if x > hi then hi else x

end Sys2Proof
end

