-- ==== Sys2Proof/Syntax.lean ====
section
/-! DEFINITION. The commands of the block: one constructor of `Instr` for every row of the
operation and event table, with the row's operands. The first operand of every command, `dt`, is
the number of gaffer clocks of 2 ns (R242) that pass between the command before it and this one. -/

namespace Sys2Proof

/-- A mailbox request as the host writes it into the request area before REQ (R511): TAG, LENGTH,
SEQUENCE, the 20 bytes at 0x0C to 0x1F of the header, and the body bytes. -/
structure Req where
  tag : U16
  len : U32
  seq : U32
  rsv : List Byte
  body : List Byte
deriving DecidableEq, Repr

/-- The two strands (R12). -/
inductive Strand where
  | time | pace
deriving DecidableEq, Repr

/-- The three lists of a strand table (R57). -/
inductive GList where
  | a | b | spine
deriving DecidableEq, Repr

/-- Where an issued action comes from: an entry of the parison in force, or the pending one-off
action that is issued next in time order (R520). -/
inductive ActSrc where
  | entry (st : Strand) (l : GList) (ix : Nat)
  | oneOff
deriving DecidableEq, Repr

/-- The SecTAG of a received frame: association number, packet number, the address part of its SCI,
and whether the ICV verifies under the installed key (R159, R161). -/
structure SecTag where
  an : BitVec 2
  pn : U32
  sci : BitVec 48
  icvOk : Bool
deriving DecidableEq, Repr

/-- A frame as a MAC takes it from the line: the bytes from the destination address to the last one
before the FCS, without SecTAG and ICV; its SecTAG if it carries one; whether it held a code error;
whether its FCS is right (R99 to R101). -/
structure RxFrame where
  port : Fin 24
  bytes : List Byte
  tag : Option SecTag
  symErr : Bool
  fcsOk : Bool
deriving DecidableEq, Repr

/-- A host receive descriptor as the device reads it (R115): OWN (true = device) and ADDR. -/
structure RxDesc where
  own : Bool
  addr : U64
deriving DecidableEq, Repr

/-- A host transmit descriptor as the device reads it (R118); `rsvZero` says that its reserved fields
are zero. -/
structure TxDesc where
  own : Bool
  sof : Bool
  eof : Bool
  ledger : Bool
  len : U16
  port : Byte
  queue : Byte
  rsvZero : Bool
deriving DecidableEq, Repr

/-- A node of a topology: its MAC address and whether its direction-1 side faces the far end of the
list (R219, R221). -/
structure TopoNode where
  mac : BitVec 48
  flipped : Bool
deriving DecidableEq, Repr

/-- A received TOPOLOGY frame: its sender, the sender's state (0 UNNUMBERED, 1 NUMBERED,
2 INHIBITED), whether it announces inhibition and fast mode, the etbTopoCnt it announces, and the
ordered node lists of line A and line B as this node's view stands with this frame. -/
structure TopoMsg where
  src : BitVec 48
  state : Fin 3
  inhibit : Bool
  fast : Bool
  etbTopo : U32
  lineA : List TopoNode
  lineB : List TopoNode
deriving DecidableEq, Repr

/-- What every received time message shows: port, source address, sequence number, and whether it
carries an AUTHENTICATION TLV whose ICV verifies (R253). -/
structure TimeHdr where
  port : Fin 24
  src : BitVec 48
  seqId : U16
  icvOk : Bool
deriving DecidableEq, Repr

/-- A Sync or Follow_Up: two-step flag, precise or announced origin time in ns, and correction in ns. -/
structure SyncMsg where
  hdr : TimeHdr
  twoStep : Bool
  origin : Nat
  corr : Int
deriving DecidableEq, Repr

/-- An Announce: the grandmaster data set, steps removed, and the time properties. -/
structure AnnounceMsg where
  hdr : TimeHdr
  gmId : U64
  prio1 : Byte
  cls : Byte
  accuracy : Byte
  variance : U16
  prio2 : Byte
  steps : U16
  utcOffset : U16
  leap61 : Bool
  leap59 : Bool
  utcValid : Bool
deriving DecidableEq, Repr

/-- A Pdelay_Resp or Pdelay_Resp_Follow_Up: two-step flag, its timestamp in ns and its correction. -/
structure PdelayMsg where
  hdr : TimeHdr
  twoStep : Bool
  stamp : Nat
  corr : Int
deriving DecidableEq, Repr

/-- The time messages a port sends (R244). -/
inductive TimeKind where
  | sync | pdelayReq | pdelayResp | announce | signaling
deriving DecidableEq, Repr

/-- The kinds of error of ISO 11898-1, in the order of LAST_ERROR (R522). -/
inductive CanErr where
  | stuff | form | ack | bit1 | bit0 | crc
deriving DecidableEq, Repr

/-- A CAN frame on the bus. -/
structure CanFrame where
  id : BitVec 29
  ide : Bool
  fdf : Bool
  brs : Bool
  esi : Bool
  rtr : Bool
  dlc : BitVec 4
  data : List Byte
deriving DecidableEq, Repr

/-- One write of a task, at a KX32 address (R368). -/
structure TaskWrite where
  addr : U32
  data : List Byte
deriving DecidableEq, Repr

/-- The kinds of result the comparator compares (R373). -/
inductive CmpKind where
  | reg | store | branch
deriving DecidableEq, Repr

/-- A comparison that found a difference: instruction address, kind, and the value of each slot. -/
structure MismatchRec where
  addr : U32
  kind : CmpKind
  v0 : U64
  v1 : U64
  v2 : U64
deriving DecidableEq, Repr

/-- The roles of a twin (R397). -/
inductive Role where
  | solo | active | standby | orphaned
deriving DecidableEq, Repr

/-- A heartbeat (R404), with the boundary a planned switch-over names (R414) and whether it
authenticates under the escrow key (R495). -/
structure Heartbeat where
  role : Role
  pref : Bool
  parison : List Byte
  seq : U64
  takeback : Bool
  time : Nat
  planned : Option Nat
  authOk : Bool
deriving DecidableEq, Repr

/-- A twin beacon (R406). -/
structure Beacon where
  mac : BitVec 48
  peer : BitVec 48
  pref : Bool
  seq : U64
  secured : Bool
deriving DecidableEq, Repr

/-- A monitor reading of the lehr: unit code (R524), margin in percent, whether raising the voltage
raises it, the domain whose feed it hangs on (0 A, 1 B, 2 spine), and whether a column of the unit's
array had corrected errors in three or more scrub passes (R437, R438). -/
structure MarginReading where
  unit : Byte
  margin : Nat
  voltage : Bool
  domain : Fin 3
  wornColumn : Bool
deriving DecidableEq, Repr

/-- The responses of an FLB target (R462). -/
inductive FlbResp where
  | dtack | retry | err
deriving DecidableEq, Repr

/-- A complete keying message (R493, R494): the link (0 to 23 a port, 24 the escrow link), source
address, session number and body. -/
structure KeyMsg where
  link : Fin 25
  src : BitVec 48
  session : U32
  body : List Byte
deriving DecidableEq, Repr

/-- The commands. -/
inductive Instr where
  /-- MB_IDENTIFY (R519): Returns the device identity record. -/
  | mbIdentify (dt : Nat) (r : Req)
  /-- DOORBELL_ACK (R512): The host writes ACK to hand the response area back, which clears RESP_VALID. -/
  | doorbellAck (dt : Nat)
  /-- INT_STATUS_CLEAR (R510): A write-1-to-clear of HIF_INT_STATUS bits, which re-enables MSI-X messages for those vectors. -/
  | intStatusClear (dt : Nat) (v : U32)
  /-- INT_MASK_WRITE (R510): A write of HIF_INT_MASK enables or disables vectors and the HOST_INT_N pin. -/
  | intMaskWrite (dt : Nat) (v : U32)
  /-- PORT_WINDOW_PIN (R198): A write of HIF_PORT_WINDOW with PIN 1 releases any earlier pin and pins the LATEST slot of PORT as HELD. -/
  | portWindowPin (dt : Nat) (port : BitVec 12)
  /-- PORT_WINDOW_RELEASE (R197): A write of HIF_PORT_WINDOW with PIN 0 releases the pinned slot. -/
  | portWindowRelease (dt : Nat)
  /-- REGISTER_WRITE (R507): A host write to a window register or area that has no row of its own. -/
  | registerWrite (dt : Nat) (off : U16) (data : List Byte)
  /-- MB_TALLY_READ (R529): Reads and clears live or snapshot tallies of one group and unit. -/
  | mbTallyRead (dt : Nat) (r : Req)
  /-- MB_DAYBOOK_READ (R531): Returns daybook entries of one class from a given entry number, without removing them. -/
  | mbDaybookRead (dt : Nat) (r : Req)
  /-- MB_PARISON_STAGE (R73): Stages a chunk of a parison image at a byte offset. -/
  | mbParisonStage (dt : Nat) (r : Req)
  /-- MB_PARISON_COMMIT (R74): Checks the staged image step by step and makes it the committed parison or refuses it. -/
  | mbParisonCommit (dt : Nat) (r : Req)
  /-- MB_PARISON_ACTIVATE (R79): Schedules activation of the committed parison at T, or at the earliest valid T with NEXT. -/
  | mbParisonActivate (dt : Nat) (r : Req)
  /-- PARISON_ACTIVATE_CANCEL (R82): The CANCEL option withdraws a pending activation, or completes LATE if it is too close. -/
  | parisonActivateCancel (dt : Nat) (r : Req)
  /-- MB_ACT_AT (R520): Places a one-off time-strand action at a named instant of network time. -/
  | mbActAt (dt : Nat) (r : Req)
  /-- MB_MAC_CONFIG (R96): Writes or reads a port record, or the host ring configuration for port 24. -/
  | mbMacConfig (dt : Nat) (r : Req)
  /-- MB_MDIO (R98): Starts one Clause 22 or Clause 45 MDIO operation on a master. -/
  | mbMdio (dt : Nat) (r : Req)
  /-- MDIO_FRAME_COMPLETE (R98): An MDIO frame ends, and MB_MDIO completes with its data or ABSENT. -/
  | mdioFrameComplete (dt : Nat) (master : Fin 2) (ack : Bool) (data : U16)
  /-- MB_LEDGER_READ (R142): Returns a ledger entry by slot or by key, with its bank. -/
  | mbLedgerRead (dt : Nat) (r : Req)
  /-- MB_PORT_READ (R195): Returns a port's LATEST slot and status, optionally clearing counts. -/
  | mbPortRead (dt : Nat) (r : Req)
  /-- MB_PORT_WRITE (R196): Writes and commits a whole value to a publish port of SOURCE HOST. -/
  | mbPortWrite (dt : Nat) (r : Req)
  /-- MB_PD_RING (R199): Configures the process-data host ring. -/
  | mbPdRing (dt : Nat) (r : Req)
  /-- MB_INAUG_CONFIG (R218): Writes the inauguration configuration. -/
  | mbInaugConfig (dt : Nat) (r : Req)
  /-- MB_INAUG_STATUS (R238): Returns the node's numbering, counters and line states. -/
  | mbInaugStatus (dt : Nat) (r : Req)
  /-- MB_TIME_CONFIG (R246): Writes the time configuration and reruns the best master clock algorithm where needed. -/
  | mbTimeConfig (dt : Nat) (r : Req)
  /-- MB_TIME_STATUS (R262): Returns the time state, offsets and port time status. -/
  | mbTimeStatus (dt : Nat) (r : Req)
  /-- RESTEP_MASTER (R258): A warranted MB_TIME_RESTEP with option MASTER schedules a step to the master at the next valid offset. -/
  | restepMaster (dt : Nat) (r : Req)
  /-- RESTEP_SET (R258): A warranted MB_TIME_RESTEP with option SET schedules a step to a given time at a 125 µs boundary. -/
  | restepSet (dt : Nat) (r : Req)
  /-- MB_CAN_WRITE (R294): Replaces the data of a HOST transmit buffer. -/
  | mbCanWrite (dt : Nat) (r : Req)
  /-- MB_CAN_READ (R290): Removes and returns up to 32 entries of a HOST FIFO with converted stamps. -/
  | mbCanRead (dt : Nat) (r : Req)
  /-- MB_CAN_CANCEL (R280): Cancels a transmit buffer and completes when its outcome is known. -/
  | mbCanCancel (dt : Nat) (r : Req)
  /-- MB_CAN_RECOVER (R284): Starts bus-off recovery of a controller. -/
  | mbCanRecover (dt : Nat) (r : Req)
  /-- MB_CAN_STATUS (R295): Returns the controller, buffer and FIFO status. -/
  | mbCanStatus (dt : Nat) (r : Req)
  /-- MB_WAKE_CONFIG (R308): Writes the wake configuration, and the KA die keeps a copy. -/
  | mbWakeConfig (dt : Nat) (r : Req)
  /-- SLEEP_CONSENT_STATUS (R318): MB_SLEEP_CONSENT STATUS returns the consent and wake state. -/
  | sleepConsentStatus (dt : Nat) (r : Req)
  /-- VOTE_READY (R311): MB_SLEEP_CONSENT VOTE_READY sets the node's vote READY, which can reach agreement. -/
  | voteReady (dt : Nat) (r : Req)
  /-- VOTE_AWAKE (R314): MB_SLEEP_CONSENT VOTE_AWAKE sets the vote AWAKE, and aborts the sleep if AGREED. -/
  | voteAwake (dt : Nat) (r : Req)
  /-- MB_MEAS_READ (R356): Returns a measurement unit's current record or its last capture. -/
  | mbMeasRead (dt : Nat) (r : Req)
  /-- MB_MEAS_WHEEL (R357): Sets the wheel diameter of a tachometer input. -/
  | mbMeasWheel (dt : Nat) (r : Req)
  /-- MB_TRIAD_STATUS (R389): Returns the triad mode, members and mismatch state. -/
  | mbTriadStatus (dt : Nat) (r : Req)
  /-- MB_TRIAD_RESTART (R389): Arms a reload of all members to leave SILENT. -/
  | mbTriadRestart (dt : Nat) (r : Req)
  /-- MB_TWIN_CONFIG (R396): Writes the twin configuration, which can change the role. -/
  | mbTwinConfig (dt : Nat) (r : Req)
  /-- MB_TWIN_STATUS (R523): Returns the twin role, witness, lanes and epoch state. -/
  | mbTwinStatus (dt : Nat) (r : Req)
  /-- MB_TWIN_DRILL (R416): Starts a planned swap of roles for DWELL_S. -/
  | mbTwinDrill (dt : Nat) (r : Req)
  /-- MB_FEED_STATUS (R523): Returns feed states, rail values and minimums, and clears the minimums. -/
  | mbFeedStatus (dt : Nat) (r : Req)
  /-- MB_LEHR_CONFIG (R443): Writes the lehr configuration. -/
  | mbLehrConfig (dt : Nat) (r : Req)
  /-- MB_LEHR_REPORT (R523): Returns lehr margins, spares and retirements. -/
  | mbLehrReport (dt : Nat) (r : Req)
  /-- MB_BRIDGE_CONFIG (R466): Writes the bridge configuration. -/
  | mbBridgeConfig (dt : Nat) (r : Req)
  /-- MB_FLB_READ (R463): Reads 1, 2 or 4 bytes from the FLB or through an inbound window. -/
  | mbFlbRead (dt : Nat) (r : Req)
  /-- MB_FLB_WRITE (R461): Posts an outbound FLB write, or writes through an inbound window. -/
  | mbFlbWrite (dt : Nat) (r : Req)
  /-- MB_DISHONOUR_READ (R465): Removes and returns up to 16 dishonour log entries. -/
  | mbDishonourRead (dt : Nat) (r : Req)
  /-- MB_PIN_BEHAVIOUR (R473): With a warrant, stores or removes a behaviour revision pin. -/
  | mbPinBehaviour (dt : Nat) (r : Req)
  /-- ENROL_GENERATE (R491): MB_ENROL GENERATE writes the root key and identity seed and enters ENROLLED. -/
  | enrolGenerate (dt : Nat) (r : Req)
  /-- ENROL_CERT (R492): MB_ENROL CERT stages the identity certificate and stores it if it verifies. -/
  | enrolCert (dt : Nat) (r : Req)
  /-- ENROL_READ_CERT (R525): MB_ENROL READ_CERT returns part of the stored certificate. -/
  | enrolReadCert (dt : Nat) (r : Req)
  /-- WARRANT_CHALLENGE (R487): MB_WARRANT CHALLENGE returns a fresh nonce. -/
  | warrantChallenge (dt : Nat) (r : Req)
  /-- WARRANT_STAGE (R487): MB_WARRANT STAGE stages a chunk of a warrant. -/
  | warrantStage (dt : Nat) (r : Req)
  /-- WARRANT_APPLY (R488): MB_WARRANT APPLY consumes a LIFECYCLE or COUNTER warrant. -/
  | warrantApply (dt : Nat) (r : Req)
  /-- WARRANT_CLEAR (R487): MB_WARRANT CLEAR discards the staged warrant. -/
  | warrantClear (dt : Nat) (r : Req)
  /-- ATTEST_SIGN (R499): MB_ATTEST SIGN starts signing a quote over the host's nonce. -/
  | attestSign (dt : Nat) (r : Req)
  /-- ATTEST_READ (R525): MB_ATTEST READ returns part of the held quote. -/
  | attestRead (dt : Nat) (r : Req)
  /-- MB_LINK_POLICY (R497): Writes the link policy of open ports and the rekey period. -/
  | mbLinkPolicy (dt : Nat) (r : Req)
  /-- MB_FW_STAGE (R552): Stages a chunk of a firmware image into the slot that is not running. -/
  | mbFwStage (dt : Nat) (r : Req)
  /-- MB_FW_SWAP (R553): Checks the staged firmware and schedules the swap at boundary S. -/
  | mbFwSwap (dt : Nat) (r : Req)
  /-- MB_SEED_ARM (R526): Arms a seed of a given type for DURATION_S. -/
  | mbSeedArm (dt : Nat) (r : Req)
  /-- MB_SEED_CLEAR (R565): Clears one seed or all seeds. -/
  | mbSeedClear (dt : Nat) (r : Req)
  /-- NOP (R55): Issue of a NOP action, which only occupies a slot. -/
  | nop (dt : Nat) (src : ActSrc)
  /-- OPEN_GATE (R156): Issue of OPEN_GATE opens the named egress gates. -/
  | openGate (dt : Nat) (src : ActSrc)
  /-- CLOSE_GATE (R158): Issue of CLOSE_GATE closes gates and discards copies left in scheduled queues. -/
  | closeGate (dt : Nat) (src : ActSrc)
  /-- PUBLISH_PORT (R189): Issue of PUBLISH_PORT builds and enqueues a publication, or suppresses it. -/
  | publishPort (dt : Nat) (src : ActSrc)
  /-- SAMPLE_PORT (R193): Issue of SAMPLE_PORT copies LATEST into the PENDING snapshot. -/
  | samplePort (dt : Nat) (src : ActSrc)
  /-- CAN_ARM (R276): Issue of CAN_ARM arms the named transmit buffers, with PORT_TO_CAN maps copying new values. -/
  | canArm (dt : Nat) (src : ActSrc)
  /-- SD_CAPTURE (R345): Issue of SD_CAPTURE commits a channel or pair record to a port. -/
  | sdCapture (dt : Nat) (src : ActSrc)
  /-- TACH_LATCH (R345): Issue of TACH_LATCH commits a tachometer record. -/
  | tachLatch (dt : Nat) (src : ActSrc)
  /-- DIN_SAMPLE (R344): Issue of DIN_SAMPLE takes the filtered discrete inputs into a record. -/
  | dinSample (dt : Nat) (src : ActSrc)
  /-- DOUT_DRIVE (R372): Issue of DOUT_DRIVE drives operand or voted levels, or holds them. -/
  | doutDrive (dt : Nat) (src : ActSrc)
  /-- TASK_RELEASE (R364): Issue of TASK_RELEASE queues a triad task, drops it, or begins it. -/
  | taskRelease (dt : Nat) (src : ActSrc)
  /-- ESCROW_SEAL (R399): Issue of ESCROW_SEAL requests a snapshot of the escrow set. -/
  | escrowSeal (dt : Nat) (src : ActSrc)
  /-- TALLY_SNAP (R527): Issue of TALLY_SNAP moves live tallies of the named groups into snapshots. -/
  | tallySnap (dt : Nat) (src : ActSrc)
  /-- MARK (R55): Issue of MARK writes a daybook MARK event. -/
  | mark (dt : Nat) (src : ActSrc)
  /-- ZERO_CROSSING (R20): A positive-going crossing of the tracked voltage is accepted, refused or taken as a reference. -/
  | zeroCrossing (dt : Nat) (trk : Fin 2)
  /-- PACE_HOLD_END (R25): The measured phase reaches the held position and the strand advances again. -/
  | paceHoldEnd (dt : Nat)
  /-- CROSSING_TIMEOUT (R24): No crossing within 1.25 periods: the LOCKED strand enters COASTING. -/
  | crossingTimeout (dt : Nat)
  /-- COASTING_LIMIT_EXPIRY (R24): Time coasting reaches the coasting limit: the strand enters SUBSTITUTED. -/
  | coastingLimitExpiry (dt : Nat)
  /-- DC_RULE_EXPIRY (R24): Three nominal cycles of present voltage with no crossing: the strand enters SUBSTITUTED. -/
  | dcRuleExpiry (dt : Nat)
  /-- TACH_EDGE (R29): A tachometer edge advances the AXLE pace and the distance counts. -/
  | tachEdge (dt : Nat) (inp : Fin 8) (forward legal : Bool)
  /-- TACH_REJOIN (R31): An excluded input has agreed for 1 s and rejoins. -/
  | tachRejoin (dt : Nat) (inp : Fin 8)
  /-- TACH_SILENCE_TIMEOUT (R32): No edge for four edge intervals: the input is faulted, or the strand coasts. -/
  | tachSilenceTimeout (dt : Nat) (inp : Fin 8)
  /-- STANDSTILL_TIMEOUT (R32): The standstill time ends: the rate becomes zero and the pace holds. -/
  | standstillTimeout (dt : Nat)
  /-- TIME_STRAND_RESUME (R40): After a time step, time-strand issue resumes at the first round boundary two rounds later. -/
  | timeStrandResume (dt : Nat)
  /-- ACTIVATION (R83): At T, the committed parison becomes the parison in force, warm or cold. -/
  | activation (dt : Nat)
  /-- PARISON_LOAD_COMPLETE (R84): The teller finishes loading the new parison during a cold activation. -/
  | parisonLoadComplete (dt : Nat)
  /-- COLD_STRAND_START (R84): After a cold activation, the new time strand begins at its boundary after the load. -/
  | coldStrandStart (dt : Nat)
  /-- FRAME_RECEIVE (R130): A frame ends at a MAC and is checked, classified, looked up, policed and enqueued. -/
  | frameReceive (dt : Nat) (f : RxFrame)
  /-- LEDGER_REWRITE_COMPLETE (R141): The teller has rewritten a ledger entry that had an uncorrectable error. -/
  | ledgerRewriteComplete (dt : Nat) (way : Fin 4) (bucket : BitVec 12)
  /-- PD_FRAME_ARRIVAL (R182): A frame delivered to a process-data port is checked and committed. -/
  | pdFrameArrival (dt : Nat)
  /-- SINK_TIMEOUT (R188): A sink timer expires and the port acts under HOLD or ZERO. -/
  | sinkTimeout (dt : Nat) (port : BitVec 12)
  /-- FRAME_TX_END (R147): A frame's transmission ends, and the blocks are freed when it was the last copy. -/
  | frameTxEnd (dt : Nat) (port : Fin 25)
  /-- HRX_DESCRIPTOR_REREAD (R117): The re-read of a cached receive descriptor returns, and the frame continues or is dropped. -/
  | hrxDescriptorReread (dt : Nat) (ring : Fin 8) (descs : List RxDesc)
  /-- HOST_RX_COMPLETE (R116): A frame's DMA to a host receive ring ends, and OWN is cleared last to first. -/
  | hostRxComplete (dt : Nat) (ring : Fin 8)
  /-- HOST_TX_POLL (R121): The poll interval of a transmit ring expires and the ring is read again. -/
  | hostTxPoll (dt : Nat) (ring : Fin 8) (descs : List TxDesc)
  /-- HOST_TX_FETCH_COMPLETE (R120): A host transmit frame has been fetched and is taken in or refused with DONE. -/
  | hostTxFetchComplete (dt : Nat) (ring : Fin 8) (data : List Byte)
  /-- HOST_TX_RESUME (R150): A paused source resumes when room returns in the pool or queue. -/
  | hostTxResume (dt : Nat)
  /-- MSIX_HOLDOFF_EXPIRY (R121): HOLDOFF expires and a pending ring vector is raised. -/
  | msixHoldoffExpiry (dt : Nat) (ring : Fin 17)
  /-- LINK_UP (R216): A port's physical link comes up. -/
  | linkUp (dt : Nat) (port : Fin 24) (mbps : Nat)
  /-- LINK_DOWN (R123): A port loses its link: queues are flushed, and the line state becomes DOWN. -/
  | linkDown (dt : Nat) (port : Fin 24) (cause : Fin 3)
  /-- RELAY_SETTLE_EXPIRY (R215): RELAY_MS after insertion ends, and the teller takes the line state as it finds it. -/
  | relaySettleExpiry (dt : Nat) (line : Fin 2)
  /-- HELLO_SEND (R217): The HELLO period expires, and HELLO and TOPOLOGY frames are sent. -/
  | helloSend (dt : Nat) (port : Fin 4)
  /-- HELLO_RX (R216): A valid HELLO is received and moves the line state. -/
  | helloRx (dt : Nat) (port : Fin 4) (mac : BitVec 48) (periodMs : Nat) (fast : Bool)
  /-- HELLO_LOSS (R216): No HELLO for three announced periods: the port becomes DOWN. -/
  | helloLoss (dt : Nat) (port : Fin 4)
  /-- TOPOLOGY_RX (R222): A TOPOLOGY frame is received and updates the view and agreement. -/
  | topologyRx (dt : Nat) (port : Fin 4) (t : TopoMsg)
  /-- SETTLE_EXPIRY (R222): The view has been unchanged for SETTLE_MS, and the numbering is computed. -/
  | settleExpiry (dt : Nat)
  /-- REBINDING (R230): At boundary B, the new P, addresses and counters take effect, and new links are keyed. -/
  | rebinding (dt : Nat)
  /-- FAST_MODE_EXIT (R217): SETTLE_MS after B with no change: the node leaves fast mode. -/
  | fastModeExit (dt : Nat)
  /-- OPTRN_APPLY (R228): The configured opTrnTopoCnt takes effect at a round boundary. -/
  | optrnApply (dt : Nat)
  /-- SYNC_RX (R254): A Sync yields an offset that updates the servo and the time state. -/
  | syncRx (dt : Nat) (m : SyncMsg)
  /-- FOLLOW_UP_RX (R244): A Follow_Up completes a two-step Sync. -/
  | followUpRx (dt : Nat) (m : SyncMsg)
  /-- ANNOUNCE_RX (R244): An Announce is received and the best master clock algorithm runs. -/
  | announceRx (dt : Nat) (m : AnnounceMsg)
  /-- PDELAY_REQ_RX (R250): A Pdelay_Req is received and a Pdelay_Resp is scheduled. -/
  | pdelayReqRx (dt : Nat) (m : TimeHdr)
  /-- PDELAY_RESP_RX (R256): A Pdelay_Resp updates the path delay, and can detect a path-delay jump. -/
  | pdelayRespRx (dt : Nat) (m : PdelayMsg)
  /-- PDELAY_RESP_FOLLOW_UP_RX (R244): A Pdelay_Resp_Follow_Up completes a delay exchange. -/
  | pdelayRespFollowUpRx (dt : Nat) (m : PdelayMsg)
  /-- SIGNALING_RX (R244): A Signaling message for interval requests is received. -/
  | signalingRx (dt : Nat) (m : TimeHdr) (logSync logPdelay : Int)
  /-- DELAY_REQ_RX (R244): A received Delay_Req is discarded and counted. -/
  | delayReqRx (dt : Nat) (m : TimeHdr)
  /-- TIME_MESSAGE_DUE (R249): A Sync, Pdelay_Req or Announce falls due and a departure instant is chosen. -/
  | timeMessageDue (dt : Nat) (port : Fin 24) (kind : TimeKind)
  /-- TIME_MESSAGE_DEPARTURE (R249): A time event message starts at its chosen instant D. -/
  | timeMessageDeparture (dt : Nat) (port : Fin 24)
  /-- ANNOUNCE_TIMEOUT (R252): The announce receipt timeout expires and the state becomes HOLDOVER. -/
  | announceTimeout (dt : Nat)
  /-- SYNC_TIMEOUT (R252): No Sync for three intervals: the state becomes HOLDOVER. -/
  | syncTimeout (dt : Nat)
  /-- FROZEN_END (R256): Eight Sync intervals in FROZEN end, and the state becomes LOCKED or UNUSABLE. -/
  | frozenEnd (dt : Nat)
  /-- RESTEP_SET_BOUNDARY (R258): A SET re-step steps network time at its boundary. -/
  | restepSetBoundary (dt : Nat)
  /-- RTC_WRITE (R260): Once a second the network seconds are written into the real-time counter. -/
  | rtcWrite (dt : Nat)
  /-- TICK_125US (R259): At each 125 µs boundary of network time, each domain latches its CAN counter pair. -/
  | tick125us (dt : Nat)
  /-- TWIN_ACT_TIMEOUT (R393): No refresh for 250 µs: the KA die drops TWIN_ACT. -/
  | twinActTimeout (dt : Nat)
  /-- CAN_COMMIT_POINT (R277): At the commit point the controller locks the best pending buffer and starts its frame. -/
  | canCommitPoint (dt : Nat) (c : Fin 8)
  /-- CAN_ARBITRATION_LOST (R278): A frame loses arbitration and its buffer returns to PENDING or ends. -/
  | canArbitrationLost (dt : Nat) (c : Fin 8)
  /-- CAN_TX_COMPLETE (R278): A frame is sent and acknowledged, and its buffer becomes IDLE. -/
  | canTxComplete (dt : Nat) (c : Fin 8) (tdc : Nat)
  /-- CAN_FRAME_ERROR (R281): An error in a frame updates TEC and REC and the error state. -/
  | canFrameError (dt : Nat) (c : Fin 8) (kind : CanErr) (sending dominantSeen : Bool) (tdc : Nat)
  /-- CAN_FRAME_RECEIVE (R287): A valid received frame is filtered, mapped and entered into a FIFO. -/
  | canFrameReceive (dt : Nat) (c : Fin 8) (f : CanFrame) (age : Nat)
  /-- CAN_RECOVERY_COMPLETE (R284): 128 runs of 11 recessive bits end recovery, and the controller is ERROR_ACTIVE. -/
  | canRecoveryComplete (dt : Nat) (c : Fin 8)
  /-- CAN_BUS_JOIN (R297): After 11 recessive bits a reloaded controller joins the bus. -/
  | canBusJoin (dt : Nat) (c : Fin 8)
  /-- ACQUIRE_READ (R292): An FLB read of ACQUIRE acquires the head entry (SHADOW) or returns HEAD (CHECK). -/
  | acquireRead (dt : Nat) (c : Fin 8) (fifo : Fin 2)
  /-- RELEASE_WRITE (R293): A write of RELEASE removes the head entry in CHECK mode. -/
  | releaseWrite (dt : Nat) (c : Fin 8) (fifo : Fin 2) (v : U32)
  /-- CONSENT_VOTE_RX (R312): A consent VOTE is received and counted towards agreement. -/
  | consentVoteRx (dt : Nat)
  /-- CONSENT_COMMIT_RX (R313): A COMMIT with the current ROUND makes the member AGREED, aborts or excludes it. -/
  | consentCommitRx (dt : Nat)
  /-- CONSENT_ABORT_RX (R314): An ABORT before the commit point ends AGREED, and the coordinator advances ROUND. -/
  | consentAbortRx (dt : Nat)
  /-- SLEEP_COMMIT (R319): The commit point passes and the node goes down into standby. -/
  | sleepCommit (dt : Nat)
  /-- STAY_AWAKE_EXPIRY (R316): The stay-awake timer reaches MAX_AWAKE_MIN and unready members are excluded. -/
  | stayAwakeExpiry (dt : Nat)
  /-- SOLO_FALLBACK (R317): A member hears no consent frame for 10 periods and acts as SOLO. -/
  | soloFallback (dt : Nat)
  /-- WAKE_PATTERN (R305): A CAN wake-up pattern is detected. -/
  | wakePattern (dt : Nat) (x : Fin 4)
  /-- WAKE_FRAME (R306): A matching wake-up frame is detected. -/
  | wakeFrame (dt : Nat) (x : Fin 4) (f : CanFrame)
  /-- WAKE_FRAME_ERR (R305): The frame error counter passes its threshold. -/
  | wakeFrameErr (dt : Nat) (x : Fin 4)
  /-- WAKE_PIN (R305): An enabled filtered edge arrives on a WAKE_IN pin. -/
  | wakePin (dt : Nat) (pin : Fin 4) (rising : Bool)
  /-- WAKE_ALARM (R305): The real-time counter reaches ALARM. -/
  | wakeAlarm (dt : Nat)
  /-- LATCHED_WAKE_RELEASE (R319): A wake latched after a commit point proceeds after 20 ms of FEED_EN low. -/
  | latchedWakeRelease (dt : Nat)
  /-- T_VALID_EXPIRY (R320): T_VALID_MS ends without a valid frame, and the wake is judged false. -/
  | tValidExpiry (dt : Nat) (x : Fin 4)
  /-- VKA_LOSS (R304): VKA falls below range, and the keep-alive domain resets and loses its wake state. -/
  | vkaLoss (dt : Nat)
  /-- SD_FILTER_OUTPUT (R332): A sinc3 output is produced, scaled, clipped and integrated for energy. -/
  | sdFilterOutput (dt : Nat) (ch : Fin 8) (raw : Int)
  /-- SD_STUCK (R334): A bitstream stays at one level for 64 clocks and is marked FAULT. -/
  | sdStuck (dt : Nat) (ch : Fin 8)
  /-- SD_RECOVERY (R334): A stuck channel sees transitions for 1,024 clocks, and recovers after settling. -/
  | sdRecovery (dt : Nat) (ch : Fin 8)
  /-- GRID_SAMPLE (R335): A grid instant is reached and a sample is interpolated. -/
  | gridSample (dt : Nat)
  /-- ENERGY_SAVE (R355): Every 60 s the energy and distance values are written to flash. -/
  | energySave (dt : Nat)
  /-- TASK_END (R366): The trailing member retires the end instruction, and the voted writes commit. -/
  | taskEnd (dt : Nat) (writes : List TaskWrite)
  /-- TASK_DEADLINE (R366): A task's deadline passes first: it is stopped as an overrun. -/
  | taskDeadline (dt : Nat)
  /-- TRIAD_MISMATCH (R374): The comparator finds differing results, halts an odd core or falls silent. -/
  | triadMismatch (dt : Nat) (m : MismatchRec)
  /-- RESYNC_START (R375): Resync of a waiting core begins at a qualifying instant in a RESYNC window. -/
  | resyncStart (dt : Nat)
  /-- RESYNC_SELFTEST_FAIL (R378): The target fails self-test and is retired. -/
  | resyncSelftestFail (dt : Nat)
  /-- RESYNC_CHECK_FAIL (R378): The TCM readback differs, and the attempt ends. -/
  | resyncCheckFail (dt : Nat)
  /-- TRIAD_RESYNC (R376): Resync completes and the core is ready in its slot. -/
  | triadResync (dt : Nat)
  /-- ASSAY (R383): Every 1,024 cycles one comparator check is assayed with an injected difference. -/
  | assay (dt : Nat) (reported : Bool)
  /-- ESCROW_SNAPSHOT (R399): At the first instant with no task running, the escrow set is snapshot and the epoch is sent. -/
  | escrowSnapshot (dt : Nat)
  /-- EPOCH_RECEIVE (R403): A received epoch ends and is applied or discarded. -/
  | epochReceive (dt : Nat) (bytes : List Byte) (complete : Bool)
  /-- HEARTBEAT_RX (R404): A heartbeat arrives from the peer. -/
  | heartbeatRx (dt : Nat) (h : Heartbeat)
  /-- BOUNDARY_JUDGEMENT (R408): At b + 20 µs the standby judges the heartbeat and witness and acts on three boundaries. -/
  | boundaryJudgement (dt : Nat) (peerAct : Bool)
  /-- TAKEOVER_COMPLETE (R412): Restoration ends, TWIN_ACT goes active and the role becomes ACTIVE. -/
  | takeoverComplete (dt : Nat)
  /-- BEACON_SEND (R406): Every 10 ms the active sends a twin beacon on each open backbone port. -/
  | beaconSend (dt : Nat)
  /-- BEACON_RX (R410): A twin beacon is received and is checked for a double claim. -/
  | beaconRx (dt : Nat) (port : Fin 4) (b : Beacon)
  /-- PLANNED_SWITCHOVER (R414): At S the roles swap, or the switch-over is abandoned. -/
  | plannedSwitchover (dt : Nat)
  /-- TAKEBACK_TIMER (R415): TAKEBACK_S of clean operation passes and the preferred standby requests take-back. -/
  | takebackTimer (dt : Nat)
  /-- DRILL_DWELL_EXPIRY (R416): DWELL_S of a drill passes and take-back follows. -/
  | drillDwellExpiry (dt : Nat)
  /-- PAIR_WAIT_EXPIRY (R411): PAIR_WAIT_MS after the first activation passes and takeover becomes possible. -/
  | pairWaitExpiry (dt : Nat)
  /-- TWIN_LANE (R402): An escrow lane fails or returns. -/
  | twinLane (dt : Nat) (lane : Fin 2) (up : Bool)
  /-- FEED_WARN (R424): A monitored rail stays below its warning level, and the feed enters warning. -/
  | feedWarn (dt : Nat) (feed : Fin 2) (rail : Fin 3) (mv : U16)
  /-- FEED_WARN_END (R423): The rails stay above warning plus 10 mV for 50 µs, and the warning ends. -/
  | feedWarnEnd (dt : Nat) (feed : Fin 2)
  /-- FEED_LOSS (R426): A rail falls below its reset level, and the domain is isolated. -/
  | feedLoss (dt : Nat) (feed : Fin 2) (rail : Fin 3)
  /-- BOTH_FEEDS_LOST (R429): Both feeds are below reset and the main die is reset. -/
  | bothFeedsLost (dt : Nat)
  /-- FEED_RETURN_START (R431): The rails of a lost feed have been good for 10 ms, and the return begins. -/
  | feedReturnStart (dt : Nat) (feed : Fin 2)
  /-- RETURN_ABANDON (R431): A rail falls below reset before step 4, and the return is abandoned. -/
  | returnAbandon (dt : Nat) (feed : Fin 2)
  /-- FEED_RETURN (R431): The returning gaffer issues its lists from its boundary, and the domain rejoins. -/
  | feedReturn (dt : Nat) (feed : Fin 2)
  /-- SPINE_HANDOVER (R427): The surviving gaffer takes the spine list over at a strand's round boundary. -/
  | spineHandover (dt : Nat) (st : Strand)
  /-- GAFFER_RETIRE_HANDOVER (R441): A worn gaffer hands over the spine list at a boundary and its domain is isolated. -/
  | gafferRetireHandover (dt : Nat) (st : Strand)
  /-- LEHR_RUN (R436): The lehr runs, reads monitors and acts on margins. -/
  | lehrRun (dt : Nat) (readings : List MarginReading)
  /-- VOLTAGE_CONFIRM (R439): READ_VOUT confirms a PMBus request or 5 ms pass, and the request is kept or reverted. -/
  | voltageConfirm (dt : Nat) (feed : Fin 2) (ack : Bool) (readMv statusWord : U16)
  /-- LEDGER_BANK_SWITCH (R140): A spare ledger bank copy completes and the mapping switches. -/
  | ledgerBankSwitch (dt : Nat)
  /-- SCRUB_PASS (R434): The scrubber reads and corrects a word of its memories. -/
  | scrubPass (dt : Nat) (mem : Fin 20) (addr : Nat) (bitsInError : Nat)
  /-- MEM_UNCORR (R435): An uncorrectable memory error is detected and handled by memory. -/
  | memUncorr (dt : Nat) (mem : Fin 20) (addr : Nat) (reader : Byte)
  /-- TELLER_RESTART_COMPLETE (R517): The teller is serving again, and a caught command completes with RESTARTED. -/
  | tellerRestartComplete (dt : Nat)
  /-- FLB_INBOUND_READ (R455): An FLB read to a window is served, retried or starts a fetch. -/
  | flbInboundRead (dt : Nat) (addr : BitVec 24) (be : BitVec 2) (lock : Bool)
  /-- FLB_INBOUND_WRITE (R454): An FLB write to a window is posted or retried. -/
  | flbInboundWrite (dt : Nat) (addr : BitVec 24) (be : BitVec 2) (data : U16) (lock : Bool)
  /-- PAGE_SWAP (R471): An FLB write to an FLB page's control word swaps the page and commits it to its port. -/
  | pageSwap (dt : Nat)
  /-- FLB_FETCH_COMPLETE (R455): A delayed-read fetch completes and its slot is HELD. -/
  | flbFetchComplete (dt : Nat) (slot : Fin 4)
  /-- FLB_SLOT_EXPIRY (R456): A held slot's 64 µs expire, and a SIDE_EFFECT slot is logged. -/
  | flbSlotExpiry (dt : Nat) (slot : Fin 4)
  /-- FLB_WRITE_DELIVERY (R454): A queued inbound write reaches its target, or is logged on ABSENT. -/
  | flbWriteDelivery (dt : Nat)
  /-- FLB_BUS_GRANT (R448): FLB_BG_N arrives and the device runs up to BURST outbound transfers. -/
  | flbBusGrant (dt : Nat)
  /-- FLB_OUTBOUND_RESPONSE (R462): An outbound transfer ends with DTACK, RETRY or ERR. -/
  | flbOutboundResponse (dt : Nat) (resp : FlbResp) (data : U16)
  /-- FLB_OUTBOUND_TIMEOUT (R462): An outbound transfer gets no response within TIMEOUT. -/
  | flbOutboundTimeout (dt : Nat)
  /-- FLB_LOCK (R459): The lock semaphore is held for LOCK_US and is released. -/
  | flbLock (dt : Nat)
  /-- FLB_SIDEBAND (R467): An enabled filtered edge on a side-band input is raised. -/
  | flbSideband (dt : Nat) (inp : Fin 4) (level : Bool)
  /-- FLB_POLL (R468): Every POLL_MS the polled registers are read and changes are raised. -/
  | flbPoll (dt : Nat) (entry : Fin 8) (result : Option U16) (cause : Fin 3)
  /-- TRAFFIC_STORE_PRESENTATION (R470): At each PERIOD, PORT_TO_FLB maps present new values on their pages. -/
  | trafficStorePresentation (dt : Nat)
  /-- KEY_INIT_RX (R494): A complete INIT message arrives at the responder. -/
  | keyInitRx (dt : Nat) (m : KeyMsg)
  /-- KEY_RESP_RX (R494): A complete RESP message arrives at the initiator. -/
  | keyRespRx (dt : Nat) (m : KeyMsg)
  /-- KEY_CONFIRM_RX (R495): A complete CONFIRM arrives, and the responder verifies SIG_I. -/
  | keyConfirmRx (dt : Nat) (m : KeyMsg)
  /-- KEY_DONE_RX (R495): DONE verifies, and the initiator installs its associations. -/
  | keyDoneRx (dt : Nat) (m : KeyMsg)
  /-- KEY_NEXT_RX (R496): A NEXT message installs the next receive association. -/
  | keyNextRx (dt : Nat) (m : KeyMsg)
  /-- KEY_NEXT_ACK_RX (R496): NEXT_ACK moves transmission to the new association. -/
  | keyNextAckRx (dt : Nat) (m : KeyMsg)
  /-- KEY_ABORT_RX (R498): The peer's ABORT fails the session. -/
  | keyAbortRx (dt : Nat) (m : KeyMsg)
  /-- VAULT_OPERATION_COMPLETE (R498): A queued SLH-DSA or ML-KEM vault operation completes and the protocol proceeds. -/
  | vaultOperationComplete (dt : Nat) (ix : Fin 2)
  /-- KEYING_RETRANSMIT_TIMEOUT (R495): No expected message in 200 ms: the last message is repeated, or the session fails. -/
  | keyingRetransmitTimeout (dt : Nat) (link : Fin 25)
  /-- KEYING_RETRY (R498): The back-off after a failed session expires, and keying starts again. -/
  | keyingRetry (dt : Nat) (link : Fin 25)
  /-- REKEY_TIMER (R496): REKEY_H hours pass and the initiator runs a fresh session. -/
  | rekeyTimer (dt : Nat) (link : Fin 25)
  /-- SEC_TRNG (R502): A TRNG health test fails and randomness is refused until reset. -/
  | secTrng (dt : Nat) (test : Fin 3)
  /-- DRBG_RESEED (R500): The DRBG is reseeded from the TRNG. -/
  | drbgReseed (dt : Nat)
  /-- PORST_N_ASSERT (R550): PORST_N is asserted and the whole main die is reset. -/
  | porstNAssert (dt : Nat) (lowNs : Nat)
  /-- PORST_N_RELEASE (R538): PORST_N is released: straps are sampled and the vault ROM starts the boot. -/
  | porstNRelease (dt : Nat) (bootSrc hostsel : BitVec 2) (pref : Bool) (sfdp : Bool)
  /-- SYSRST_N_ASSERT (R551): SYSRST_N is held low and the main die is warm reset. -/
  | sysrstNAssert (dt : Nat) (lowNs : Nat)
  /-- SYSRST_N_RELEASE (R550): SYSRST_N is released and the warm start begins. -/
  | sysrstNRelease (dt : Nat)
  /-- BOOT (R547): The verified teller starts, applies records, sets READY and loads the default parison. -/
  | boot (dt : Nat)
  /-- DEFAULT_PARISON (R548): The default parison's commit completes, and it is activated with NEXT or the failure is recorded. -/
  | defaultParison (dt : Nat)
  /-- FW_SWAP (R554): At S the old teller hands over, and the vault loads and verifies the new image. -/
  | fwSwap (dt : Nat)
  /-- FW_SWAP_COMPLETE (R554): The new teller takes the handover state, sets READY and updates boot control. -/
  | fwSwapComplete (dt : Nat)
  /-- FW_REVERT (R556): The new teller is not ready within 500 ms, and the vault starts the other slot. -/
  | fwRevert (dt : Nat)
  /-- SEED_END (R565): A seed's DURATION_S passes and the seed ends. -/
  | seedEnd (dt : Nat) (ix : Fin 8)
  /-- BACKPRESSURE_HOLD (R563): Every PERIOD_US, a BACKPRESSURE seed holds off egress choice on its ports. -/
  | backpressureHold (dt : Nat) (ix : Fin 8)
  /-- SEED_FEED_WARN_START (R563): A FEED_WARN seed puts its feed into a simulated warning. -/
  | seedFeedWarnStart (dt : Nat) (ix : Fin 8)
  /-- SEED_FEED_WARN_END (R563): LENGTH_US passes and the simulated warning ends. -/
  | seedFeedWarnEnd (dt : Nat) (feed : Fin 2)
  /-- FLB_LOCK_RELEASE (R459): FLB_LOCK_N goes inactive while the bus is idle, and the bridge releases its semaphore. -/
  | flbLockRelease (dt : Nat)
  /-- WAKE_VALID (R320): The waking transceiver's detector receives a valid Classical frame within T_VALID_MS, so the wake is valid and the consecutive false-wake count resets. -/
  | wakeValid (dt : Nat) (x : Fin 4)
  /-- FEED_GOOD (R322): After FEED_EN is raised on a wake, a feed becomes good and the KA die releases the main die to start as from SYSRST_N. -/
  | feedGood (dt : Nat) (feed : Fin 2)
  /-- TELLER_TAKES_FRAME (R153): The teller takes a frame from its 256-frame queue at the pace of its firmware, freeing its control-pool blocks. -/
  | tellerTakesFrame (dt : Nat)
  /-- GAFFER_WORD_REWRITE (R435): The teller rewrites a gaffer action-memory word with an uncorrectable error in that gaffer's next LEHR window, so the action is issued again. -/
  | gafferWordRewrite (dt : Nat) (g : Fin 2)
  /-- VAULT_RESTART (R504): The vault finishes its restart after an uncorrectable vault-memory error, is no longer absent, and starts fresh sessions on every secured link. -/
  | vaultRestart (dt : Nat)
  /-- TRIAD_RESTART_LOAD (R389): At the first instant that meets R375 after MB_TRIAD_RESTART, every member is loaded with the images and the triad leaves SILENT. -/
  | triadRestartLoad (dt : Nat)
  /-- PORT_WINDOW_READY (R198): The pinned HELD slot becomes readable and READY of HIF_PORT_WINDOW becomes 1, about 100 ns after the pin. -/
  | portWindowReady (dt : Nat)
  /-- BLOCK_LOSS (R123): A port loses 10GBASE-R block lock or 1000BASE-X or SGMII synchronisation, reports it within 10 µs and recovers without link down, which counts in BLOCK_LOSS. -/
  | blockLoss (dt : Nat) (port : Fin 24)
deriving DecidableEq, Repr

end Sys2Proof
end

