-- ==== Sys2Proof/Config.lean ====
section
/-! DEFINITION. The constants an implementation fixes and the values the manual leaves open.
Every constant here has no body: nothing can evaluate it, so a claim holds whatever it is. -/

namespace Sys2Proof.Config

/-- A fresh open value of `w` bits; applied to the counter `Clk.free`, which every use advances. -/
opaque freeValue : (w : Nat) → Nat → BitVec w

/-- DEVICE_UID and NODE_MAC as written at Keltum's production test (R479). -/
opaque deviceUid : Nat
/-- NODE_MAC, the node's MAC address with its first octet most significant (R479). -/
opaque nodeMac : BitVec 48
/-- DEVICE_SECRET, 32 bytes (R479). -/
opaque deviceSecret : Nat → Byte
/-- The SHA-256 digest of Keltum's firmware release key, held in the vault ROM (R483). -/
opaque releaseKeyDigest : Nat → Byte
/-- The release public key whose digest the ROM holds (R483). -/
opaque releaseKey : List Byte
/-- SHA-256 of the vault ROM (R499). -/
opaque romHash : Nat → Byte

/-- SLH-DSA verification: public key, message, signature (FIPS 205; R52, R483, R485, R492, R494). -/
opaque slhVerify : List Byte → List Byte → List Byte → Bool
/-- The 17,088 bytes of an SLH-DSA-SHA2-128f signature under the identity seed (R494, R499). -/
opaque slhSign : List Byte → List Byte → List Byte
/-- The identity public key that FIPS 205 derives from ID_SEED (R491). -/
opaque idPublic : List Byte → List Byte
/-- ML-KEM-768: the encapsulation key of a session's seed (R494). -/
opaque kemPublic : Nat → List Byte
/-- ML-KEM-768: ciphertext for an encapsulation key and a seed (R494). -/
opaque kemCipher : List Byte → Nat → List Byte
/-- ML-KEM-768: the shared secret the responder obtains from the encapsulation key and its seed. -/
opaque kemSharedEnc : List Byte → Nat → List Byte
/-- ML-KEM-768: the shared secret the initiator obtains from its seed and the ciphertext. -/
opaque kemSharedDec : Nat → List Byte → List Byte
/-- HKDF-SHA256: input key material, salt, info string; 32 bytes (R494). -/
opaque hkdf : List Byte → List Byte → List Byte → List Byte
/-- CTR_DRBG output: the n-th draw, of a number of bytes (R500). -/
opaque drbg : Nat → Nat → List Byte
/-- Whether an authentication code over a time message or a control message verifies is computed by
the crypto units; here HMAC-SHA256 over a message under a key (R253, R480, R494). -/
opaque hmac : List Byte → List Byte → List Byte

/-- The TRDP header FCS of IEC 61375-2-3 over the header bytes before it (R168). -/
opaque trdpFcs : List Byte → U32
/-- etbTopoCnt as IEC 61375-2-5 computes it from the agreed list of nodes and
their orientations (R227). -/
opaque etbTopoCnt : List (BitVec 48 × Bool) → U32
/-- The IPv4 address that the plan of IEC 61375-2-5 gives a node number on an ETB number (R227). -/
opaque planIp : Nat → Nat → U32
/-- The IPv4 address of an unnumbered node, which the manual does not give. -/
opaque bootIp : U32
/-- Whether bytes are a TTDP HELLO or TOPOLOGY frame as IEC 61375-2-5 identifies them (R212). -/
opaque isTtdp : List Byte → Bool
/-- The announce interval of a profile in ns, which the manual names and does not give (R252). -/
opaque announceNs : Nat → Nat
/-- The clockIdentity this node announces (R245). -/
opaque clockId : Nat
/-- clockAccuracy and offsetScaledLogVariance this node announces. -/
opaque clockQuality : Nat × Nat
/-- The filtered mean path delay of a port: filtered mean before, new measurement, in ns (R256). -/
opaque pathFilter : Int → Int → Int
/-- The frequency term in parts per 10^12 that follows a measured rate ratio: the term before, the
measured ratio (R254). -/
opaque freqFollow : Int → Int → Int
/-- The data-set comparison of the best master clock algorithm: profile (1 or 2), two data sets;
true when the first is the better (R244). -/
opaque bmcBetter : Nat → List Nat → List Nat → Bool
/-- The TEC and REC rules of ISO 11898-1 for an error in a frame: kind of error, whether this node
sends, whether a dominant bit followed its flag, TEC, REC; the new TEC and REC (R281). -/
opaque canErrorCount : Nat → Bool → Bool → Nat → Nat → Nat × Nat
/-- The REC rule of ISO 11898-1 for a frame received without error: the new REC (R281). -/
opaque canRxCount : Nat → Nat
/-- The TEC rule of ISO 11898-1 for a frame sent: the new TEC (R281). -/
opaque canTxCount : Nat → Nat
/-- Whether a bit error can be forced at a bit position of a frame: it lies neither in the arbitration
field nor in the acknowledgement slot nor beyond the frame, with the stuff bits and CRC of ISO 11898-1
(R563): identifier, IDE, FDF, data, position. -/
opaque canForceable : BitVec 29 → Bool → Bool → List Byte → Nat → Bool

end Sys2Proof.Config
end

