-- ==== Sys2Proof/Machine/State.lean ====
section
/-! DEFINITION. The state of the ZN740 as plain data, grouped by the chapter that names it, with the
queue of waiting commands, and the state at reset. Times named `...At`, `due` or `until` without a
word on their scale are local nanoseconds (2 for each gaffer clock); a time marked `net` is network
time in nanoseconds from the zero of its scale. -/

namespace Sys2Proof.Machine

/-- A memory of the block: (address, byte) pairs, strictly rising, none equal to 0. Every area reads
as zero until it is written (R534, R431). -/
abbrev Mem := List Host.Cell

/-- Reasons a step can stop with a fault. No command of the block stops with one: the manual gives
every command an effect, and an event whose condition does not hold has none. -/
inductive Fault where
  /-- A copy of this model whose state breaks its own invariant; raised by nothing, safe. -/
  | brokenState
deriving DecidableEq, Repr

/-- Reasons a step can refuse. -/
inductive Refusal where
  /-- A command that the model has no meaning for yet; raised by its arm of `exec`, safe. -/
  | notModelled (mnemonic : String)
deriving DecidableEq, Repr

/-! ### Clocks (R242, R13) and open values -/

/-- The clocks. `loc` counts gaffer clocks of 2 ns; `net` is network time and `run` the same clock
without its steps (R34), both in units of 2^-48 ns; `free` is the model's own counter of open values
taken. -/
structure Clk where
  loc : Nat
  net : Nat
  run : Nat
  free : Nat
deriving DecidableEq, Repr

/-! ### Host window, mailbox, tallies, daybook (chapter 16) -/

/-- A command held in EXEC whose completion waits for an event (R512, R517). -/
structure Held where
  op : Nat
  tag : Nat
  seq : Nat
  body : List Byte
deriving DecidableEq, Repr

/-- The host window (R507 to R510, R512). `hostInt` says that the HOST_INT_N pin is
asserted; `latch` holds bytes 1 to 3 of registers as written singly (R508). -/
structure Hif where
  req : Mem
  resp : Mem
  mbxSeq : U32
  ready : Bool
  reqBusy : Bool
  exec : Bool
  respValid : Bool
  lastStatus : U16
  intStatus : Byte
  intMask : Byte
  hostInt : Bool
  held : Option Held
  latch : Tab Byte
deriving DecidableEq, Repr

/-- The tallies (R527, R528): live values and snapshots keyed by group, unit and index, and the
network time in ns plus 1 of each group's last TALLY_SNAP. -/
structure Tly where
  live : Tab Nat
  snap : Tab Nat
  snapAt : Tab Nat
deriving DecidableEq, Repr

/-- A daybook entry (R531). -/
structure DayEv where
  num : Nat
  code : Nat
  persist : Bool
  args : List Byte
  time : Nat
  boot : Nat
deriving DecidableEq, Repr

/-- An event as a unit raises it: code, content and network time. -/
structure RawEv where
  code : Nat
  args : List Byte
  time : Nat
deriving DecidableEq, Repr

/-- The daybook (R530, R531): the volatile class with the number of its next entry, the persistent
class in flash with its own, the count of starts since enrolment, the spine queue of events raised
while the teller is stopped (R555), the count of entries discarded since the last entry written
(R425), and when each rate-limited event was last raised (local ns plus 1). -/
structure Day where
  vol : List DayEv
  volNext : Nat
  per : List DayEv
  perNext : Nat
  boot : Nat
  held : List RawEv
  lost : Nat
  last : Tab Nat
deriving DecidableEq, Repr

/-- What the device sends out of its package. The record is the model's own. -/
inductive Sent where
  /-- MSI-X message of a vector (R510). -/
  | msix (v : Nat)
  /-- A frame on a port, from its destination address to the byte before its FCS. -/
  | frame (port : Nat) (bytes : List Byte)
  /-- A message of the device's own engines on a port or link: a chapter's kind and its content. -/
  | msg (port : Nat) (kind : Nat) (body : List Byte)
  /-- Bytes written into a host ring, at an index of ring `ring` (R116, R200). -/
  | ring (ring : Nat) (index : Nat) (bytes : List Byte)
  /-- A CAN frame a controller starts. -/
  | can (ctl : Nat) (f : CanFrame)
  /-- A transfer on the forerunner bus: address, write or read, data (R447, R462). -/
  | flb (addr : Nat) (write : Bool) (data : List Byte)
  /-- A PMBus request: feed and millivolts (R439). -/
  | pmbus (feed : Nat) (mv : Nat)
  /-- An MDIO frame of a master (R97). -/
  | mdio (master : Nat) (op prtad reg data : Nat)
  /-- The value that a read by the forerunner side returned, with what was read. -/
  | value (what : Nat) (v : Nat)
deriving DecidableEq, Repr

/-! ### Start, reset, flash (chapter 17) -/

/-- Where the start-up stands: held in reset, vault ROM at work, loader, teller being started, teller
serving, teller restarting under R435, teller swapped (R554), node in standby (R319), main die
without feeds (R429). -/
inductive Stage where
  | reset | rom | loader | teller | up | restart | swap | standby | dark
deriving DecidableEq, Repr

/-- A write that waits while a feed is in warning (R425). -/
inductive Deferred where
  | day (e : DayEv)
  | conf (key : Nat) (bytes : List Byte)
  | energy
  | boot (off : Nat) (bytes : List Byte)
deriving DecidableEq, Repr

/-- The vault record (R480): generation, lifecycle (0 BLANK, 1 ENROLLED, 2 SERVICE, 3 WORKSHOP), the
three counters, the pin (0 none), the link policy bytes, and whether its authentication holds. -/
structure VaultRec where
  gen : Nat
  life : Nat
  fw : Nat
  par : Nat
  warrant : Nat
  pin : Nat
  policy : List Byte
  valid : Bool
deriving DecidableEq, Repr

/-- The external flash (R542): firmware slots, vault record copies, identity certificate, boot
control copies, configuration records by unit, energy and distance values, parison regions. The
persistent daybook stands in `Day.per`. -/
structure Flash where
  fw0 : List Byte
  fw1 : List Byte
  rec0 : VaultRec
  rec1 : VaultRec
  cert : List Byte
  boot0 : List Byte
  boot1 : List Byte
  conf : Tab (List Byte)
  energy : Tab Nat
  pr : Tab (List Byte)
  defer : List Deferred
deriving DecidableEq, Repr

/-- A pending firmware swap: S in network ns, the new slot; while the swap runs, the local time it
began at. -/
structure FwSwap where
  net : Nat
  slot : Nat
  began : Option Nat
deriving DecidableEq, Repr

/-- Start-up and firmware state: the reset pins, the straps (R538), whether the flash returns a valid SFDP
table (R541), the stage, the cause of the start
(R559), the loader cause (0 LOADER, 1 NO_IMAGE, 2 FLASH) not yet reported, the running slot and the
slot that failed at this start, the running image's VERSION, REVISIONS and digest, whether the
default load runs (R548), the pending swap, the bytes staged into the other slot, and the retired
units by R524 code with their causes (R441). -/
structure Sys where
  porst : Bool
  sysrst : Bool
  bootSrc : BitVec 2
  hostsel : BitVec 2
  pref : Bool
  sfdp : Bool
  stage : Stage
  cause : Nat
  loader : Option Nat
  slot : Nat
  failed : Option Nat
  version : U32
  revisions : List Byte
  fwHash : List Byte
  behav : Byte
  defaultLoad : Bool
  swap : Option FwSwap
  fwStaged : Nat
  retired : Tab Nat
  tellerFrom : Option Nat
deriving DecidableEq, Repr

/-! ### Feeds and wear (chapter 13) -/

/-- A domain: present, isolated, or returning after step 2 of R431. -/
inductive Dom where
  | present | isolated | returning
deriving DecidableEq, Repr

/-- A feed and its domain (R421 to R431). `warn` is the monitored warning, `sim` the local times
at which the simulated ones end (R563); `mins` holds the lowest value reported of each rail since the last read (R443), none where no
excursion was reported; `vreq` is the voltage requested; `lostNet` when the domain was lost and
`issueNet` the boundary from which a returning gaffer issues its time list; `warnTill` when the last
warning ended (local ns plus 1). -/
structure Feed where
  warn : Bool
  sim : List Nat
  dom : Dom
  below : Bool
  mins : Tab Nat
  vreq : Nat
  lostNet : Nat
  lostAt : Nat
  issueNet : Nat
  warnings : Nat
  losses : Nat
  warnTill : Nat
deriving DecidableEq, Repr

/-- A PMBus request awaiting READ_VOUT: the value before, the request, when it was placed (R439);
the last result for MB_LEHR_REPORT. -/
structure Pmbus where
  prev : Nat
  want : Nat
  at_ : Nat
deriving DecidableEq, Repr

/-- The result of a feed's last PMBus request (R523): request, READ_VOUT, STATUS_WORD, result. -/
structure PmbusRes where
  want : Nat
  read : Nat
  word : Nat
  result : Nat
deriving DecidableEq, Repr

/-- Who issues one strand's spine list (R427). During a takeover `wait` is the boundary from which the
gaffer issues it (network ns or pace position; 0 on the pace strand until the time strand's takeover),
`missed` the point up to which missed actions have been counted, `lost` how many. While a worn gaffer
still issues the list, `missed` is the boundary of its handover (R441; 0 on the pace strand until
then). -/
structure SpineHold where
  gaf : Nat
  wait : Option Nat
  missed : Nat
  lost : Nat
deriving DecidableEq, Repr

/-- The lehr and the memories: configuration record, when it last ran (network and local), unit margins and states,
spares in use by unit, runs in a row with 40% or more per feed, PMBus requests and results, memory
words with uncorrectable errors in the gaffer action memories, corrected-error counts by column, a
ledger bank being copied. -/
structure Lehr where
  conf : List Byte
  lastNet : Option Nat
  lastAt : Nat
  margin : Tab Nat
  unitState : Tab Nat
  spare : Tab Nat
  good : Tab Nat
  vstop : Tab Nat
  pendA : Option Pmbus
  pendB : Option Pmbus
  resA : PmbusRes
  resB : PmbusRes
  gafBad : Tab Nat
  gafRetire : Option Nat
  bankCopy : Option Nat
deriving DecidableEq, Repr

/-! ### Parison (chapter 2) -/

/-- An action entry (R53): OFFSET, OPCODE, TARGET, FLAGS, OPERAND. -/
structure Act where
  off : Nat
  op : Nat
  tgt : Nat
  flags : Nat
  opnd : Nat
deriving DecidableEq, Repr

/-- A relocation record (R61). -/
structure Reloc where
  cls : Nat
  base : Nat
  stride : Nat
deriving DecidableEq, Repr

/-- A slack record (R63). -/
structure Slack where
  kind : Nat
  gaf : Nat
  start : Nat
  len : Nat
deriving DecidableEq, Repr

/-- A triad task record (R65). -/
structure TaskRec where
  task : Nat
  entry : Nat
  wcet : Nat
  deadline : Nat
deriving DecidableEq, Repr

/-- An escrow record (R67). -/
structure EscRec where
  space : Nat
  loc : Nat
  len : Nat
deriving DecidableEq, Repr

/-- The sections of one loaded parison: header fields (R49), the six action lists (R57), the pace
parameter block (empty without a pace strand), the manifest, and every record section as records of
bytes, with the triad images (R66). `region` is the flash region that holds the image. -/
structure Par where
  hash : List Byte
  codeHash : List Byte
  serial : Nat
  rollback : Nat
  signed : Bool
  timeN : Nat
  maxNodes : Nat
  spineGaf : Nat
  minBehav : Nat
  timeA : List Act
  timeB : List Act
  timeS : List Act
  paceA : List Act
  paceB : List Act
  paceS : List Act
  pace : List Byte
  manifest : List Byte
  reloc : List Reloc
  slack : List Slack
  tasks : List TaskRec
  imgI : List Byte
  imgD : List Byte
  escrow : List EscRec
  ledHead : List Byte
  policers : List (List Byte)
  ledger : List (List Byte)
  ports : List (List Byte)
  maps : List (List Byte)
  canCtl : List (List Byte)
  canBuf : List (List Byte)
  canFil : List (List Byte)
  windows : List (List Byte)
  sdClk : Nat
  meas : List (List Byte)
  region : Nat
deriving DecidableEq, Repr

/-- A pending activation (R79): T in network ns. -/
structure Activ where
  net : Nat
deriving DecidableEq, Repr

/-- A cold activation in its gap (R84): T, the parison being loaded, and the boundary of the new time
strand once the load has completed. -/
structure ColdGap where
  net : Nat
  par : Par
  start : Option Nat
deriving DecidableEq, Repr

/-- A one-off action placed by MB_ACT_AT: due network time, entry. -/
structure OneOff where
  net : Nat
  act : Act
deriving DecidableEq, Repr

/-- The parison machinery: staged image and its flash region, the committed parison with its COLD
option, the parison in force, the pending activation, a cold gap, and the pending one-off actions in
time order. -/
structure ParSt where
  staged : List Byte
  stagedReg : Nat
  committed : Option Par
  cold : Bool
  force : Option Par
  activ : Option Activ
  gap : Option ColdGap
  oneOffs : List OneOff
deriving DecidableEq, Repr

/-! ### Strands and pace (chapter 1) -/

/-- The states of a pace strand. -/
inductive PaceState where
  | locked | coasting | substituted
deriving DecidableEq, Repr

/-- A LINE tracker (R20 to R23, R590, R593): the SD inputs declared, the one in use, the acquisition
begun (reference crossing and valid periods since), lock, the last accepted crossing, the latest
accepted period, the filter outputs that can still be the largest of the last nominal cycle, since
when the voltage is present, INVERT, NOMINAL and ABSENCE. -/
structure Tracker where
  prim : Nat
  alt : Nat
  src : Option Nat
  ref : Option Nat
  periods : List Nat
  locked : Bool
  last : Option Nat
  period : Nat
  hist : List (Nat × Nat)
  present : Bool
  presentAt : Nat
  nominal : Nat
  absence : Nat
deriving DecidableEq, Repr

/-- A tachometer input as the AXLE pace follows it (R29 to R33): whether the input is excluded and
why, the last edge, the last two intervals, edges in a row more than 5% from the median, since when
an excluded input has agreed, edges counted while the strand coasts. -/
structure AxleIn where
  inp : Nat
  excluded : Bool
  edgeAt : Option Nat
  interval : Nat
  prevInt : Nat
  off5 : Nat
  agreeAt : Option Nat
  cnt : Nat
deriving DecidableEq, Repr

/-- The pace strand in force. The position counts units of 2^-32 pace unit from the strand's start:
`pos` at elapsed time `run0` ns, advancing at `rate` (2^-48 pace unit per ns) until `slewEnd`, then at
`rate2`; never beyond `cap`; while `holding`, not before `holdEnd`. `lineFreq` is the rate measured
from the latest accepted period, `edges` the position of the edge from which `cnt` counts (R33). -/
structure PaceSt where
  kind : Nat
  started : Bool
  waitStart : Option Nat
  state : PaceState
  pos : Nat
  run0 : Nat
  rate : Nat
  rate2 : Nat
  slewEnd : Nat
  cap : Option Nat
  holdEnd : Nat
  holding : Bool
  coastAt : Nat
  lineFreq : Nat
  axle : List AxleIn
  edges : Nat
  still : Bool
  standAt : Option Nat
deriving DecidableEq, Repr

/-- Which action of a strand table: strand (0 time, 1 pace), list (0 A, 1 B, 2 spine), index. -/
structure ActRef where
  st : Nat
  l : Nat
  ix : Nat
deriving DecidableEq, Repr

/-- Why an action waits to be issued out of its due time. -/
inductive WaitKind where
  /-- MISS_RUN catch-up after a jump (R37). -/
  | caughtUp
  /-- Passed over by an early edge (R29). -/
  | edge
  /-- Deferred behind a time-strand action or behind catch-up (R19, R38). -/
  | deferred
  /-- Held by a GAFFER_DELAY seed or rewritten after a memory error (R435). -/
  | rewritten
deriving DecidableEq, Repr

/-- An action waiting to be issued. -/
structure Waiting where
  ref : ActRef
  kind : WaitKind
  since : Nat
deriving DecidableEq, Repr

/-- The gaffers' issue state: when the time strand pauses, the boundary at which it resumes (R40);
the round in which each action was last issued (round plus 1, keyed by strand, list and index); the
waiting pace actions; the local time plus 1 at which each target last received an action of each
strand; the pace actions issued by each gaffer in its current clock; the spine list's issuer per
strand; each gaffer's first boundary after its domain's return; the network time of the step whose
due actions are still to be counted. -/
structure Gaf where
  active : Bool
  startNet : Nat
  paused : Option Nat
  issued : Tab Nat
  waiting : List Waiting
  lastT : Tab Nat
  lastP : Tab Nat
  slotAt : Tab Nat
  slotN : Tab Nat
  spineT : SpineHold
  spineP : SpineHold
  paceFrom : Tab Nat
deriving DecidableEq, Repr

/-- The trackers: the one in force and the one of a committed parison. -/
structure Trackers where
  force : Option Tracker
  next : Option Tracker
deriving DecidableEq, Repr

/-! ### Frame ports, host rings (chapter 3) -/

/-- A frame port: its record (R93) with the records before it and when each ended, which judge a frame
already in reception (R95), its link and speed. -/
structure Port where
  conf : List Byte
  past : List (Nat × List Byte)
  up : Bool
  mbps : Nat
deriving DecidableEq, Repr

/-- A host receive ring (R113 to R117): next descriptor, the descriptors cached from it on, the frame
being written with the descriptors it has filled, the interrupt hold-off. -/
structure RxRing where
  index : Nat
  cached : List RxDesc
  cur : Option Nat
  filled : Nat
  lastVec : Option Nat
  vecWait : Bool
deriving DecidableEq, Repr

/-- A host transmit ring (R118 to R121): next descriptor, the descriptors of the frame being fetched,
whether the source is paused with its frame (R150), the poll timer, the hold-off. -/
structure TxRing where
  index : Nat
  descs : List TxDesc
  fetching : Bool
  paused : Option (List Byte)
  pollAt : Nat
  lastVec : Option Nat
  vecWait : Bool
deriving DecidableEq, Repr

/-- An MDIO request of a master, in order of arrival (R97). -/
structure MdioReq where
  op : Nat
  prtad : Nat
  reg : Nat
  data : Nat
deriving DecidableEq, Repr

/-- The ports and host paths: port table, ring record of port 24, rings, MDIO queues, the requests
for insertion of lines A and B (R92, R214). -/
structure Ports where
  tab : Tab Port
  ringConf : List Byte
  rx : Tab RxRing
  tx : Tab TxRing
  pdVecLast : Option Nat
  mdio0 : List MdioReq
  mdio1 : List MdioReq
  insReqA : Bool
  insReqB : Bool
deriving DecidableEq, Repr

/-! ### Fabric, ledger, gates (chapter 4) -/

/-- A stored frame (R147): its bytes before the FCS, MAC length, pool (0 control, 1 scheduled, 2
best-effort), whether it came from a host ring, ingress port, stamp (network ns), tag and class as a
receive descriptor reports them (R115). -/
structure Frame where
  id : Nat
  bytes : List Byte
  len : Nat
  pool : Nat
  host : Bool
  port : Nat
  stamp : Nat
  tagged : Bool
  secured : Bool
  miss : Bool
  tci : Nat
  cls : Nat
deriving DecidableEq, Repr

/-- A copy waiting in an egress queue, oldest first in the list of all copies; port 25 is the
teller's queue (R153). -/
structure Copy where
  port : Nat
  queue : Nat
  frame : Nat
  blocks : Nat
deriving DecidableEq, Repr

/-- A frame in transmission: the frame, its queue, whether it was treated as scheduled when chosen,
and when its inter-packet gap ends, in tenths of a nanosecond. -/
structure TxNow where
  frame : Nat
  queue : Nat
  sched : Bool
  endAt : Nat
deriving DecidableEq, Repr

/-- The secure channel pair of a link (R159): whether its keys are installed, the transmit
association and its packet number, the receive associations as (association number, last packet
number plus 1), whether the next association was asked for, and whether a frame is withheld. -/
structure Sa where
  secured : Bool
  txAn : Nat
  txPn : Nat
  rx : List (Nat × Nat)
  asked : Bool
  held : Bool
deriving DecidableEq, Repr

/-- The ledger (R133 to R141): slots keyed by 4,096 × way + bucket, the live generation, slots whose
word holds an uncorrectable error, the logical banks that lie elsewhere than in the physical bank of
their number. -/
structure Ledger where
  slots : Tab Nat
  live : Nat
  bad : List Nat
  bank : Tab Nat
deriving DecidableEq, Repr

/-- A policer's bucket (R145): level in 2^-32 of a bit, and when it was computed. -/
structure Bucket where
  level : Nat
  at_ : Nat
deriving DecidableEq, Repr

/-- The fabric. Gates as masks per port, ports 0 to 24. -/
structure Fab where
  frames : List Frame
  nextId : Nat
  copies : List Copy
  gates : Tab Nat
  tx : Tab (Option TxNow)
  sa : Tab Sa
  ledger : Ledger
  buckets : Tab Bucket
  schedBuf : Nat
  failAt : Tab Nat
deriving DecidableEq, Repr

/-! ### Process-data ports (chapter 5) -/

/-- A slot or snapshot copy (R175): source time in network ns, SEQ, COMMITS, quality, KIND, the
topology counters and the payload. -/
structure Slot where
  time : Nat
  seq : Nat
  commits : Nat
  quality : Byte
  kind : Nat
  etb : U32
  optrn : U32
  data : List Byte
deriving DecidableEq, Repr

/-- A defined port (R170, R174, R177): its 48-byte record, its three slots and which of them hold the
roles LATEST and WRITE, the snapshot copies, the sequenceCounter of its next publication, the sink
timer (when it expires; whether it has), the count of expiries, the last refusal, the last accepted
frame's source and sequenceCounter (R185). -/
structure PdPort where
  conf : List Byte
  slot0 : Slot
  slot1 : Slot
  slot2 : Slot
  latest : Nat
  write : Nat
  pending : Slot
  visible : Slot
  sampled : Bool
  seq : Nat
  lastSeq : Nat
  sinkAt : Option Nat
  expired : Bool
  expiries : Nat
  lastStep : Nat
  lastSrc : U32
  dup : Option (Nat × Nat)
deriving DecidableEq, Repr

/-- A frame on its way to a port (R182): port index, the frame's bytes, its receive stamp, and the
record under which it was delivered. -/
structure Delivery where
  port : Nat
  bytes : List Byte
  stamp : Nat
  conf : List Byte
deriving DecidableEq, Repr

/-- The pinned port of HIF_PORT_WINDOW and the physical slot that is HELD (R197, R198). -/
structure Pin where
  port : Nat
  slot : Nat
deriving DecidableEq, Repr

/-- The port store: defined ports, deliveries in order, host window (pin; PIN as it reads, READY,
STATUS, PORT),
the process-data ring's record and next entry, the remembered COMMITS plus 1 of each outbound map by
its index, ports whose stored word failed (R435). -/
structure Pd where
  ports : Tab (Option PdPort)
  arriving : List Delivery
  pin : Option Pin
  winPin : Bool
  winReady : Bool
  winStatus : Nat
  winPort : BitVec 12
  ring : List Byte
  ringIx : Nat
  ringVec : Option Nat
  ringWait : Bool
  carried : Tab Nat
  bad : List Nat
deriving DecidableEq, Repr

/-! ### Inauguration (chapter 6) -/

/-- A backbone port's line state (R216). -/
inductive LineState where
  | down | pending | up
deriving DecidableEq, Repr

/-- What the inauguration hardware keeps for a backbone port: line state, neighbour, valid HELLOs in a
row, the last one's arrival and announced period, when the next HELLO is due, whether its link went
down since the last agreed numbering and the neighbour it then held (R235). -/
structure BbPort where
  line : LineState
  nbr : BitVec 48
  count : Nat
  lastAt : Nat
  period : Nat
  sendAt : Nat
  wentDown : Bool
  agreedNbr : Option (BitVec 48)
deriving DecidableEq, Repr

/-- What a node's TOPOLOGY frames have last shown: state, inhibition, etbTopoCnt, and how many in a
row carried it. -/
structure NodeSeen where
  mac : BitVec 48
  state : Nat
  inhibit : Bool
  etbTopo : U32
  inRow : Nat
deriving DecidableEq, Repr

/-- A numbering: N, P, orientation inverse, etbTopoCnt, and the list it numbers. -/
structure Numbering where
  n : Nat
  p : Nat
  inverse : Bool
  etbTopo : U32
  list : List TopoNode
deriving DecidableEq, Repr

/-- Inauguration: configuration record (R218); backbone ports; fast mode and when it ends; the views
of lines A and B; nodes seen; when the settle time ends; a numbering computed and
awaiting agreement; a numbering pending for its boundary (network ns); the numbering in force; whether
a topology change followed the last agreement; the counters; a pending opTrnTopoCnt with its boundary;
the last boundary; the ETB number of the addresses in force; relay settle ends per line; inhibition and INVALID as reported; OVERCOUNT. -/
structure Inaug where
  conf : List Byte
  bb : Tab BbPort
  fast : Bool
  fastEnd : Option Nat
  viewA : List TopoNode
  viewB : List TopoNode
  seen : List NodeSeen
  settleAt : Option Nat
  computed : Option Numbering
  pending : Option (Nat × Numbering)
  numbered : Option Numbering
  changed : Bool
  etbTopo : U32
  optrn : U32
  optrnAt : Option (Nat × U32)
  lastB : Nat
  etbNo : Nat
  relayA : Option Nat
  relayB : Option Nat
  inhibited : Bool
  invalid : Bool
  overcount : Bool
  opening : List (Nat × Nat)
  insA : Bool
  insB : Bool
deriving DecidableEq, Repr

/-! ### Network time (chapter 7) -/

/-- The time states of R251. -/
inductive TimeState where
  | free | grandmaster | acquiring | locked | frozen | holdover | unusable
deriving DecidableEq, Repr

/-- What a port's time unit keeps: the master it hears (data set in the order of `AnnounceMsg`),
its last Announce, its last Sync (stamp and sequence number of a two-step one awaiting Follow_Up), the
Pdelay exchange in flight (sequence number, D + TX_LAT, then the response's stamp), the path delay
last measured and filtered, when it was measured, the messages due and departing, and the intervals
asked for by Signaling. -/
structure TPort where
  master : List Nat
  announceAt : Option Nat
  syncAt : Option Nat
  syncSeq : Nat
  syncStamp : Option Nat
  syncCorr : Int
  reqSeq : Nat
  reqAt : Option Nat
  respSeq : Option Nat
  respStamp : Nat
  respCorr : Int
  respRx : Nat
  delay : Int
  filtered : Option Int
  delayAt : Option Nat
  reqRx : List (Nat × Nat)
  dep : List (Nat × Nat × Nat)
  dueSync : Nat
  duePdelay : Nat
  dueAnnounce : Nat
  ivSync : Option Int
  ivPdelay : Option Int
deriving DecidableEq, Repr

/-- A pending re-step (R258): to the master at the next valid offset, or to a given time at a
boundary. -/
inductive Restep where
  | master
  | set (boundary : Nat) (time : Nat)
deriving DecidableEq, Repr

/-- A domain's CAN counter pairs (R259): the latest pair and the one before, as 48-bit counter value
and network ns. -/
structure CanPair where
  c : Nat
  t : Nat
  c0 : Nat
  t0 : Nat
deriving DecidableEq, Repr

/-- Network time: configuration record (R245); state; rate terms in parts per 10^12; whether first
lock has occurred; offsets collected; last offset; slave port; per-port units; pending re-step; the
FROZEN measurement (its end, old delay and port, offsets measured); when the state was entered; the
last upstream Sync's stamp and correction; asymmetry estimate;
grandmaster as last selected; UTC offset and leap flags; CAN pairs of domains A and B; the real-time
counter's seconds and the local time they hold for; the last Sync's stamp and the master's time for
the rate ratio. -/
structure TimeSt where
  conf : List Byte
  state : TimeState
  freq : Int
  slew : Int
  firstLock : Bool
  offsets : List Int
  theta : Int
  slave : Option Nat
  ports : Tab TPort
  restep : Option Restep
  frozenAt : Nat
  stateAt : Nat
  upStamp : Nat
  upCorr : Int
  oldDelay : Int
  oldSlave : Nat
  frozenOffs : List Int
  asym : Int
  gm : List Nat
  utc : Nat
  leap : Nat
  pairA : CanPair
  pairB : CanPair
  tickNet : Nat
  rtcSec : Nat
  rtcAt : Nat
  ratio : Option (Nat × Nat)
  ratioNow : Int
deriving DecidableEq, Repr

/-! ### CAN FD controllers (chapter 8) -/

/-- Transmit-buffer states (R275). A locked buffer is ACTIVE from its start-of-frame stamp on. -/
inductive BufState where
  | idle | pending | locked
deriving DecidableEq, Repr

/-- A transmit buffer: its record in force, state, last outcome (R279), data, whether the host has
written it (R276), a cancel request, a new definition to take at the end of its frame (R297), its last start-of-frame stamp (48 bits plus 1; 0 none). -/
structure CanBuf where
  conf : List Byte
  state : BufState
  outcome : Nat
  data : List Byte
  written : Bool
  cancel : Bool
  next : Option (List Byte)
  stamp : Nat
deriving DecidableEq, Repr

/-- A FIFO entry (R289): SEQ, the frame, its 48-bit stamp, the filter pair, NEW. -/
structure CanEnt where
  seq : Nat
  frame : CanFrame
  stamp : Nat
  filter : Nat
  isNew : Bool
deriving DecidableEq, Repr

/-- A receive FIFO (R288, R291): entries by physical index 0 to 63, head, count, OVF, shadow. -/
structure CanFifo where
  ents : Tab (Option CanEnt)
  head : Nat
  count : Nat
  ovf : Bool
  shadow : Option CanEnt
deriving DecidableEq, Repr

/-- Error states (R281). -/
inductive CanErrState where
  | active | passive | busOff
deriving DecidableEq, Repr

/-- A controller: record in force, error state, recovery, counters, last error code, measured delay,
whether it waits to join the bus, buffers, FIFOs, SEQ, the new record to take when its frame ends. -/
structure CanCtl where
  conf : List Byte
  err : CanErrState
  recovering : Bool
  tec : Nat
  rec_ : Nat
  lastErr : Nat
  tdc : Nat
  joining : Bool
  bufs : Tab (Option CanBuf)
  fifo0 : CanFifo
  fifo1 : CanFifo
  seq : Nat
  next : Option (List Byte)
deriving DecidableEq, Repr

/-! ### Sleep and wake (chapter 9), the keep-alive die -/

/-- The wake record (R322). -/
structure WakeRec where
  cause : Nat
  source : Nat
  latched : Bool
  rtcSec : Nat
  rtcFrac : Nat
  lost : Nat
deriving DecidableEq, Repr

/-- What the coordinator knows of a member (R312, R316): its last VOTE and its last READY vote. -/
structure Member where
  voteAt : Nat
  ready : Bool
  round : Nat
  readyNet : Option Nat
deriving DecidableEq, Repr

/-- What the consent buffer carries next (R310). -/
inductive ConsentTx where
  | vote | commit | abort (cause : Nat)
deriving DecidableEq, Repr

/-- A wake being judged (R320): transceiver, cause, until when. -/
structure Judged where
  xcvr : Nat
  cause : Nat
  until_ : Nat
deriving DecidableEq, Repr

/-- Sleep state. Keep-alive die: configuration copy, wake record, false-wake counts and consecutive
ones per transceiver, FEED_EN pins, hold latches, latched wake, when FEED_EN went low, wakes being
judged, false wakes to report, TWIN_ACT. Teller: vote, ROUND held, AGREED with its commit point, the
excluded members, what members voted, the stay-awake timer and whether it has run out, the member
known as coordinator, the last consent frame heard, the buffer's
content, whether sources are armed. -/
structure Sleep where
  conf : List Byte
  record : WakeRec
  falseCnt : Tab Nat
  consec : Tab Nat
  feedEnA : Bool
  feedEnB : Bool
  latches : BitVec 16
  latched : Option WakeRec
  lowAt : Nat
  judging : List Judged
  falseRep : List (Nat × Nat)
  frameOnly : List Nat
  wakePending : Bool
  vka : Bool
  votedReady : Bool
  round : Option Nat
  agreed : Bool
  commitNet : Option Nat
  excluded : U32
  members : Tab (Option Member)
  stayAt : Option Nat
  heardAt : Nat
  solo : Bool
  coord : Nat
  stayOver : Bool
  tx : ConsentTx
  txWait : Bool
  armed : Bool
  asleep : Bool
deriving DecidableEq, Repr

/-! ### Measurement (chapter 10) -/

/-- A grid sample (R333): value, grid instant in network ns, pace position or none, whether COASTED,
on the fixed grid, clipped, in a feed warning. -/
structure GSample where
  v : Int
  t : Nat
  pos : Option Nat
  coast : Bool
  fixed : Bool
  clip : Bool
  warn : Bool
deriving DecidableEq, Repr

/-- What waits in a channel for filter outputs: a grid instant to interpolate, or the close of a cycle
with its number and whether it is SHORT. -/
inductive GWait where
  | sample (t : Nat) (pos : Option Nat) (coast fixed warn : Bool)
  | close (cycle : Nat) (short_ : Bool)
deriving DecidableEq, Repr

/-- A closed cycle of a channel: number, SHORT, samples oldest first. -/
structure GCycle where
  num : Nat
  short_ : Bool
  samples : List GSample
deriving DecidableEq, Repr

/-- A channel (R332 to R336): record it runs under, SD_CLK code it runs at, whether it runs for a
committed tracker alone, the last two outputs with their stamps, whether either was clipped, the
waiting grid instants, samples not yet current with the local time at which each becomes so, the
current sample, the cycle in progress, the last closed cycle and the one before, when its last sample
is current, stuck, settling until (local), last capture. -/
structure Chan where
  conf : List Byte
  clk : Nat
  only : Bool
  out1 : Option (Nat × Int × Bool)
  out0 : Option (Nat × Int × Bool)
  waits : List GWait
  soon : List (Nat × GSample)
  cur : Option GSample
  cyc : List GSample
  last : Option GCycle
  lastAt : Nat
  prev : Option GCycle
  stuck : Bool
  goodFrom : Nat
  cap : List Byte
deriving DecidableEq, Repr

/-- The results of a pair's cycle (R338). -/
structure PairRes where
  num : Nat
  short_ : Bool
  n : Nat
  lastT : Nat
  freq : Nat
  vrms : Nat
  irms : Nat
  vmean : Int
  imean : Int
  p : Int
  q : Int
  flags : Nat
  eImp : Nat
  eExp : Nat
  currentAt : Nat
deriving DecidableEq, Repr

/-- A pair (R338 to R340): record, results current and before, energy of the cycle in progress and of
the one before in mV·mA·ns (10^-15 J), whether that one awaits its last outputs, the last outputs of
its channels with their stamps, last capture. -/
structure Pair where
  conf : List Byte
  res : Option PairRes
  resOld : Option PairRes
  eCur : Int
  ePrev : Int
  wait : Bool
  vOut : Option (Nat × Int)
  iOut : Option (Nat × Int)
  cap : List Byte
deriving DecidableEq, Repr

/-- A tachometer input (R341 to R343): record with the diameter at work, edges of the present
direction newest first (local ns), direction of the last edge, edges since the last reversal, its
network time, the last interval between edges, FAULT until, last capture. -/
structure Tach where
  conf : List Byte
  edges : List Nat
  forward : Bool
  since : Nat
  lastNet : Option Nat
  lastInt : Option Nat
  faultUntil : Nat
  cap : List Byte
deriving DecidableEq, Repr

/-- The measurement units: channels, pairs, tachometers; the grid (fixed or pace, index of the next
instant, cycle number, instant of this cycle's sample 0, when the next fixed instant is due, whether
the cycle is SHORT); discrete inputs' stable levels and last captures; when energy was last written;
the accumulators of each pair number in 10^-15 J and the counters of each tachometer number in
10^-12 mm. -/
structure Meas where
  chans : Tab (Option Chan)
  pairs : Tab (Option Pair)
  tachs : Tab (Option Tach)
  fixed : Bool
  k : Nat
  cycle : Nat
  start0 : Nat
  nextNet : Nat
  short_ : Bool
  din : Tab Nat
  dinCap : Tab (List Byte)
  savedAt : Nat
  savedNet : Nat
  imp : Tab Nat
  exp_ : Tab Nat
  odo : Tab Nat
  dist : Tab Int
deriving DecidableEq, Repr

/-! ### The control triad (chapter 11) -/

/-- The modes of R363. -/
inductive TriMode where
  | idle | triplex | duplex | waiting | silent
deriving DecidableEq, Repr

/-- A core: cause of its retirement (R523; 0 none), its slot while a member, whether it runs, whether
it is ready after resync, attributed mismatch times of the last second, failed TCM checks in a row,
its instruction image and data TCM. -/
structure Core where
  retired : Nat
  slot : Option Nat
  running : Bool
  ready : Bool
  misses : List Nat
  checks : Nat
  itcm : List Byte
  dtcm : Mem
deriving DecidableEq, Repr

/-- A released task (R364, R365): task, its release edge in thirds of a local nanosecond (a triad clock
is 5/3 ns), the TASK_RELEASE's pace mark, the index of its entry in its list if it is an entry, and the snapshot
copies handed over to it (R193). -/
structure Release where
  task : Nat
  edge : Nat
  mark : Nat
  entry : Option Nat
  snaps : List (Nat × Slot)
deriving DecidableEq, Repr

/-- The running task: its release, when it began, whether the comparator was unassayed at some instant
of it. -/
structure Running where
  rel : Release
  began : Nat
  unguarded : Bool
deriving DecidableEq, Repr

/-- A resync in progress (R376). -/
structure Resync where
  core : Nat
  source : Nat
  began : Nat
deriving DecidableEq, Repr

/-- A voted output register (R368, R372): levels, whether the defining activation has been followed by
a commit. -/
structure VoteReg where
  levels : Byte
  valid : Bool
deriving DecidableEq, Repr

/-- A mismatch record as reported (R374, R523). -/
structure LastMis where
  task : Nat
  kind : Nat
  slots : Nat
  cores : Nat
  addr : U32
  v0 : U64
  v1 : U64
  v2 : U64
deriving DecidableEq, Repr

/-- The triad: mode; cores; waiting releases; running task; resync in progress; the check assayed last
and when, in thirds of a local nanosecond; failed checks with the assays each has passed since; last
mismatch; voted registers; an accepted MB_TRIAD_RESTART; whether SILENT is for lack of cores alone. -/
structure Triad where
  mode : TriMode
  cores : Tab Core
  queue : List Release
  running : Option Running
  resync : Option Resync
  snaps : List (Nat × Slot)
  assayIx : Nat
  assayAt : Nat
  failed : List (Nat × Nat)
  last : LastMis
  regA : VoteReg
  regB : VoteReg
  restart : Bool
  lack : Bool
deriving DecidableEq, Repr

/-! ### Twin nodes (chapter 12) -/

/-- A boundary as judged (R407, R408): missed, witness, the peer's claim (0 none). -/
structure Judged3 where
  missed : Bool
  witness : Bool
  claim : Nat
deriving DecidableEq, Repr

/-- A planned switch-over (R414): S in network ns, whether its epoch has been sealed or applied, the
length of the drill it belongs to. -/
structure Planned where
  net : Nat
  sealed : Bool
  drill : Option Nat
deriving DecidableEq, Repr

/-- Twin state: configuration record, role, TWIN_ACT with its last refresh, lanes up and retired, the
last applied epoch with the escrow set it was laid out by, last sealed and applied SEQ, a seal waiting
for the triad, last heartbeat from the peer with its network time, the last three judged boundaries,
mirrored, since when epochs and boundaries have been clean, epochs the peer has applied in a row, a
take-back request, planned switch-over, drill end with the drill's start and swap (network ns), pair
wait end and whether it has passed, a takeover or promotion under way (network time from which it can
complete, whether it restores), when the next beacon is due. -/
structure Twin where
  conf : List Byte
  role : Role
  act : Bool
  refreshAt : Nat
  lane0 : Bool
  lane1 : Bool
  retired0 : Bool
  retired1 : Bool
  epoch : Option (List Byte)
  epochSet : List EscRec
  sealed : Nat
  applied : Nat
  sealWait : Bool
  hb : Option Heartbeat
  hbNet : Nat
  lastB : Nat
  window : List Judged3
  mirrored : Bool
  cleanSince : Nat
  appliedRow : Nat
  wantBack : Bool
  planned : Option Planned
  drillEnd : Option Nat
  drillFrom : Nat
  drillSwap : Nat
  pairWait : Option Nat
  pairOver : Bool
  taking : Option Nat
  restores : Bool
  beaconAt : Nat
deriving DecidableEq, Repr

/-! ### Forerunner bridge (chapter 14) -/

/-- An inbound write accepted and not yet delivered (R454): window (16 host block) with its record,
word address, byte enables, data as on FLB_D, when a BRIDGE_LATENCY seed lets it go. -/
structure InWrite where
  win : Nat
  conf : List Byte
  addr : Nat
  be : Nat
  data : Nat
  readyAt : Nat
deriving DecidableEq, Repr

/-- A delayed-read slot (R455): window with its record, byte address, byte enables, whether HELD,
whether its fetch failed, the bytes from the address (SIDE_EFFECT) or of the line (PREFETCH), when its
hold ends, whether an activation changed its window meanwhile, how many inbound writes must first be
delivered. -/
structure RdSlot where
  win : Nat
  conf : List Byte
  addr : Nat
  be : Nat
  isHeld : Bool
  failed : Bool
  bytes : List Byte
  endAt : Nat
  doomed : Bool
  waitFor : Nat
  readyAt : Nat
deriving DecidableEq, Repr

/-- An outbound transfer (R461 to R463): window, FLB word address, posted write or read of the
MB_FLB_READ in EXEC, byte enables, data, TIMEOUT in µs, retries so far. -/
structure OutXfer where
  win : Nat
  addr : Nat
  write : Bool
  be : Nat
  data : Nat
  timeout : Nat
  retries : Nat
deriving DecidableEq, Repr

/-- A dishonour log entry (R464). -/
structure Dish where
  kind : Nat
  cause : Nat
  win : Nat
  be : Nat
  addr : Nat
  data : Nat
  net : Nat
  num : Nat
deriving DecidableEq, Repr

/-- The lock semaphore (R459): window held, address and local time of the first locked transfer. -/
structure Sema where
  win : Nat
  addr : Nat
  at_ : Nat
deriving DecidableEq, Repr

/-- Bridge state: configuration record, inbound writes, the four slots, outbound transfers, bus
request and grant with the transfers run in it and when the present one started, semaphore, dishonour
log with its next entry number, poll references and when each entry was last polled, the side-band
levels, the traffic store, the presentation instant last served (network ns), the bytes the
MB_FLB_READ in EXEC has gathered by FLB address. -/
structure Bridge where
  conf : List Byte
  inW : List InWrite
  slots : Tab (Option RdSlot)
  out : List OutXfer
  request : Bool
  granted : Bool
  ran : Nat
  startAt : Nat
  sema : Option Sema
  dish : List Dish
  dishNext : Nat
  polls : Tab (Option Nat)
  pollAt : Tab Nat
  sb : Nat
  store : Mem
  presented : Nat
  gather : Tab Byte
deriving DecidableEq, Repr

/-! ### Vault (chapter 15) -/

/-- Where a keying session stands. -/
inductive KeyStage where
  | idle | verifyInit | signResp | waitConfirm | verifyConfirm | waitResp | verifyResp | signConfirm
  | waitDone | backoff
deriving DecidableEq, Repr

/-- A link's keying session (R493 to R498): stage, role, SESSION, peer MAC and certificate SERIAL, the
seed number of its ML-KEM draw, nonces, transcript pieces held, last message sent (type and body),
repeats, when the next repeat or retry is due, the current back-off, keys of the secured link
(confirmation, next, time, escrow), k of NEXT, when secured, whether the policy leaves the link open, whether keying was asked for. -/
structure KeyLink where
  stage : KeyStage
  initiator : Bool
  session : U32
  peer : BitVec 48
  serial : List Byte
  draw : Nat
  initBody : List Byte
  respBody : List Byte
  h2 : List Byte
  secret : List Byte
  lastType : Nat
  lastBody : List Byte
  repeats : Nat
  due : Option Nat
  wait : Nat
  ikm : List Byte
  salt : List Byte
  nextK : Nat
  keyedAt : Option Nat
  isOpen : Bool
  keyed : Bool
deriving DecidableEq, Repr

/-- An operation the vault runs (R498): its link (25 for a quote) and what follows it. -/
structure VaultOp where
  link : Nat
  kind : Nat
deriving DecidableEq, Repr

/-- The vault: OTP (operator root key, identity seed number, RECORD_GEN bits used), the record's
state (lifecycle and counters stand in the flash copies; `recordBad` is R482's), staged warrant and
certificate, nonce, sessions, operations in order, quote held or being signed, TRNG failure, draws
taken from the DRBG, whether the vault is restarting. -/
structure Sec where
  rootPk : Option (List Byte)
  idSeed : Option (List Byte)
  genUsed : Nat
  life : Nat
  fw : Nat
  par : Nat
  warrant : Nat
  pin : Nat
  policy : List Byte
  recordBad : Bool
  stagedW : List Byte
  stagedC : List Byte
  nonce : Option (List Byte)
  links : Tab KeyLink
  ops : List VaultOp
  quote : List Byte
  quotePend : Option (List Byte)
  trngFailed : Bool
  draws : Nat
  reseedAt : Nat
  requests : Nat
  restarting : Bool
deriving DecidableEq, Repr

/-! ### Seeds (chapter 18) -/

/-- An armed seed (R560 to R565): number, type, the 24 PARAMS bytes, when it ends, matching
occurrences counted, hits, when SEED_HIT was last raised, when its next periodic effect is due. -/
structure Seed where
  id : Nat
  kind : Nat
  params : List Byte
  endAt : Nat
  count : Nat
  hits : Nat
  lastEv : Option Nat
  nextAt : Nat
deriving DecidableEq, Repr

/-- Seeds: the armed ones, the next SEED_ID, until when each egress port makes no choice. -/
structure Seeds where
  armed : List Seed
  nextId : Nat
  holdUntil : Tab Nat
deriving DecidableEq, Repr

/-! ### The whole state -/

/-- The state of the block. -/
structure State where
  pending : List Instr
  clk : Clk
  hif : Hif
  tly : Tly
  day : Day
  sent : List Sent
  sys : Sys
  flash : Flash
  feedA : Feed
  feedB : Feed
  lehr : Lehr
  par : ParSt
  trk : Trackers
  pace : PaceSt
  gaf : Gaf
  ports : Ports
  fab : Fab
  pd : Pd
  inaug : Inaug
  time : TimeSt
  can : Tab (Option CanCtl)
  sleep : Sleep
  meas : Meas
  triad : Triad
  twin : Twin
  bridge : Bridge
  sec : Sec
  seeds : Seeds
deriving DecidableEq, Repr

/-! ### Reset values -/

/-- `n` zero bytes. -/
def zeros (n : Nat) : List Byte := List.replicate n 0

/-- The default port record (R94). -/
def portConf0 : List Byte := [0, 0, 0xF2, 0x05, 1, 0, 0, 0, 0xFF] ++ zeros 567
/-- A port that has never been configured. -/
def port0 : Port := { conf := portConf0, past := [], up := false, mbps := 0 }
/-- The ring record of port 24: every ring disabled, POLL at its default of 4 µs (R113). -/
def ringConf0 : List Byte :=
  zeros 256 ++ (List.replicate 8 (zeros 13 ++ [4] ++ zeros 18)).flatten
/-- A receive ring that has never run. -/
def rxRing0 : RxRing :=
  { index := 0, cached := [], cur := none, filled := 0, lastVec := none, vecWait := false }
/-- A transmit ring that has never run. -/
def txRing0 : TxRing :=
  { index := 0, descs := [], fetching := false, paused := none, pollAt := 0, lastVec := none
    vecWait := false }
/-- A link without keys. -/
def sa0 : Sa :=
  { secured := false, txAn := 0, txPn := 0, rx := [], asked := false, held := false }
/-- The default inauguration record (R218). -/
def inaugConf0 : List Byte :=
  [100, 0, 10, 0, 80, 0, 20, 0, 6] ++ zeros 23
/-- A backbone port before any link. -/
def bb0 : BbPort :=
  { line := .down, nbr := 0, count := 0, lastAt := 0, period := 0, sendAt := 0, wentDown := false
    agreedNbr := none }
/-- The default time record (R245). -/
def timeConf0 : List Byte :=
  [1, 128, 128, 0, 248, 0] ++ zeros 26 ++ (List.replicate 4 ([1, 1, 0xFD] ++ zeros 13)).flatten ++
    (List.replicate 20 ([0, 1, 0xFD] ++ zeros 13)).flatten
/-- A port's time unit before any message. -/
def tport0 : TPort :=
  { master := [], announceAt := none, syncAt := none, syncSeq := 0, syncStamp := none, syncCorr := 0
    reqSeq := 0, reqAt := none, respSeq := none, respStamp := 0, respCorr := 0, respRx := 0
    delay := 0, filtered := none, delayAt := none, reqRx := [], dep := [], dueSync := 0
    duePdelay := 0, dueAnnounce := 0, ivSync := none, ivPdelay := none }
/-- The default wake record (R307). -/
def wakeConf0 : List Byte :=
  [0, 0, 0xFF, 0, 0, 0, 0xF4, 0x01] ++ zeros 8 ++ [100, 0, 0xF4, 0x01, 30, 0] ++ zeros 170
/-- The default twin record (R395). -/
def twinConf0 : List Byte := [0, 0, 10, 0, 0xD0, 0x07] ++ zeros 26
/-- The default lehr record (R443). -/
def lehrConf0 : List Byte := [0xFF, 0xFF, 0x38, 0x03, 0] ++ zeros 11
/-- The default bridge record (R466). -/
def bridgeConf0 : List Byte :=
  [100, 0, 0, 10, 8, 64, 100, 0] ++
    (List.replicate 8 [0xFF, 0xFF, 0xFF, 0xFF, 0, 0, 0, 0]).flatten ++ zeros 8
/-- The default link policy (R497). -/
def policy0 : List Byte := [0, 0, 0, 0, 24, 0] ++ zeros 10
/-- A keying session that has not begun. -/
def keyLink0 : KeyLink :=
  { stage := .idle, initiator := false, session := 0, peer := 0, serial := [], draw := 0
    initBody := [], respBody := [], h2 := [], secret := [], lastType := 0, lastBody := [], repeats := 0
    due := none, wait := 0, ikm := [], salt := [], nextK := 0, keyedAt := none
    isOpen := false, keyed := false }
/-- The vault record as shipped (R6, R480): BLANK. -/
def vaultRec0 : VaultRec :=
  { gen := 0, life := 0, fw := 0, par := 0, warrant := 0, pin := 0, policy := policy0, valid := true }
/-- The other copy of the vault record, never written. -/
def vaultRecX : VaultRec := { vaultRec0 with valid := false }
/-- A feed within its levels (R421). -/
def feed0 : Feed :=
  { warn := false, sim := [], dom := .present, below := false, mins := [], vreq := 800, lostNet := 0
    lostAt := 0, issueNet := 0, warnings := 0, losses := 0, warnTill := 0 }
/-- No PMBus request made yet (R523). -/
def pmbus0 : PmbusRes := { want := 0, read := 0, word := 0, result := 3 }
/-- A halted core that is not a member. -/
def coreX : Core :=
  { retired := 0, slot := none, running := false, ready := false, misses := [], checks := 0
    itcm := [], dtcm := [] }
/-- A pair of stamps not yet latched. -/
def canPair0 : CanPair := { c := 0, t := 0, c0 := 0, t0 := 0 }
/-- No pace strand. -/
def pace0 : PaceSt :=
  { kind := 0, started := false, waitStart := none, state := .substituted, pos := 0, run0 := 0
    rate := 0, rate2 := 0, slewEnd := 0, cap := none, holdEnd := 0, holding := false, coastAt := 0
    lineFreq := 0, axle := [], edges := 0, still := false, standAt := none }
/-- The spine list with gaffer A. -/
def spineHold0 : SpineHold := { gaf := 0, wait := none, missed := 0, lost := 0 }
/-- Gaffers with nothing to issue. -/
def gaf0 : Gaf :=
  { active := false, startNet := 0, paused := none, issued := [], waiting := [], lastT := []
    lastP := [], slotAt := [], slotN := [], spineT := spineHold0
    spineP := spineHold0, paceFrom := [] }
/-- The fabric with every pool free and every gate closed (R154). -/
def fab0 : Fab :=
  { frames := [], nextId := 0, copies := [], gates := [], tx := [], sa := []
    ledger := { slots := [], live := 0, bad := [], bank := [] }, buckets := [], schedBuf := 0
    failAt := [] }
/-- No port defined, no pin (R209). -/
def pd0 : Pd :=
  { ports := [], arriving := [], pin := none, winPin := false, winReady := false, winStatus := 0, winPort := 0
    ring := zeros 16, ringIx := 0, ringVec := none, ringWait := false, carried := [], bad := [] }
/-- UNNUMBERED, every line DOWN (R238). -/
def inaug0 : Inaug :=
  { conf := inaugConf0, bb := [], fast := false, fastEnd := none, viewA := [], viewB := []
    seen := [], settleAt := none, computed := none, pending := none, numbered := none
    changed := false, etbTopo := 0, optrn := 0, optrnAt := none, lastB := 0, etbNo := 0, relayA := none
    relayB := none, inhibited := false, invalid := false, overcount := false, opening := []
    insA := false, insB := false }
/-- FREE, zero seconds (R260). -/
def time0 : TimeSt :=
  { conf := timeConf0, state := .free, freq := 0, slew := 0, firstLock := false
    offsets := [], theta := 0, slave := none, ports := [], restep := none, frozenAt := 0, stateAt := 0, upStamp := 0, upCorr := 0
    oldDelay := 0, oldSlave := 0, frozenOffs := [], asym := 0, gm := [], utc := 0, leap := 0
    pairA := canPair0, pairB := canPair0, tickNet := 0, rtcSec := 0, rtcAt := 0, ratio := none
    ratioNow := 0 }
/-- The keep-alive die after VKA has come up, and a node that is awake. -/
def sleep0 : Sleep :=
  { conf := wakeConf0
    record := { cause := 0, source := 0, latched := false, rtcSec := 0, rtcFrac := 0, lost := 0 }
    falseCnt := [], consec := [], feedEnA := true, feedEnB := true, latches := 0, latched := none
    lowAt := 0, judging := [], falseRep := [], frameOnly := [], wakePending := false, vka := true
    votedReady := false, round := none, agreed := false, commitNet := none, excluded := 0
    members := [], stayAt := none, heardAt := 0, solo := false, coord := 0, stayOver := false, tx := .vote, txWait := false
    armed := false, asleep := false }
/-- Every measurement unit off (R354). -/
def meas0 : Meas :=
  { chans := [], pairs := [], tachs := [], fixed := true, k := 0, cycle := 0, start0 := 0
    nextNet := 0, short_ := false, din := [], dinCap := [], savedAt := 0, savedNet := 0, imp := []
    exp_ := [], odo := [], dist := [] }
/-- The triad at power-on (R360, R361, R387): T0 to T2 hold slots 0 to 2, halted; mode IDLE. -/
def triad0 : Triad :=
  { mode := .idle
    cores := [(0, { coreX with slot := some 0 }), (1, { coreX with slot := some 1 }),
      (2, { coreX with slot := some 2 })]
    queue := [], running := none, resync := none, snaps := [], assayIx := 0, assayAt := 0, failed := []
    last := { task := 0, kind := 0, slots := 0, cores := 0, addr := 0, v0 := 0, v1 := 0, v2 := 0 }
    regA := { levels := 0, valid := false }, regB := { levels := 0, valid := false }
    restart := false, lack := false }
/-- SOLO, both lanes down (R396). -/
def twin0 : Twin :=
  { conf := twinConf0, role := .solo, act := false, refreshAt := 0, lane0 := false, lane1 := false
    retired0 := false, retired1 := false, epoch := none, epochSet := [], sealed := 0, applied := 0
    sealWait := false, hb := none, hbNet := 0, lastB := 0, window := [], mirrored := false
    cleanSince := 0, appliedRow := 0, wantBack := false, planned := none, drillEnd := none
    drillFrom := 0, drillSwap := 0, pairWait := none, pairOver := false, taking := none
    restores := false, beaconAt := 0 }
/-- No window, an idle bus. -/
def bridge0 : Bridge :=
  { conf := bridgeConf0, inW := [], slots := [], out := [], request := false, granted := false
    ran := 0, startAt := 0, sema := none, dish := [], dishNext := 0, polls := [], pollAt := []
    sb := 0, store := [], presented := 0, gather := [] }
/-- The vault before the first start. -/
def sec0 : Sec :=
  { rootPk := none, idSeed := none, genUsed := 0, life := 0, fw := 0, par := 0, warrant := 0
    pin := 0, policy := policy0, recordBad := false, stagedW := [], stagedC := [], nonce := none
    links := [], ops := [], quote := [], quotePend := none, trngFailed := false, draws := 0
    reseedAt := 0, requests := 0, restarting := false }
/-- Every register of the host window at its reset value (R509, R510, R534). -/
def hif0 : Hif :=
  { req := [], resp := [], mbxSeq := 0, ready := false, reqBusy := false, exec := false
    respValid := false, lastStatus := 0, intStatus := 0, intMask := 0, hostInt := false, held := none, latch := [] }
/-- A flash as fitted by an integrator who has stored nothing in it but the vault record. -/
def flash0 : Flash :=
  { fw0 := [], fw1 := [], rec0 := vaultRec0, rec1 := vaultRecX, cert := [], boot0 := [], boot1 := []
    conf := [], energy := [], pr := [], defer := [] }
/-- PORST_N asserted, straps not yet sampled. -/
def sys0 : Sys :=
  { porst := true, sysrst := false, bootSrc := 0, hostsel := 0, pref := false, sfdp := true, stage := .reset
    cause := 0, loader := none, slot := 0, failed := none, version := 0, revisions := zeros 32
    fwHash := zeros 32, behav := 0, defaultLoad := false, swap := none, fwStaged := 0, retired := []
    tellerFrom := none }
/-- The lehr before its first run. -/
def lehr0 : Lehr :=
  { conf := lehrConf0, lastNet := none, lastAt := 0, margin := [], unitState := [], spare := [], good := []
    vstop := [], pendA := none, pendB := none, resA := pmbus0, resB := pmbus0, gafBad := []
    gafRetire := none, bankCopy := none }

/-- The block right after reset: PORST_N held low, every register at the value the manual gives for
reset, every other at the value named in the assumption log, no command waiting. -/
def State.reset : State :=
  { pending := []
    clk := { loc := 0, net := 0, run := 0, free := 0 }
    hif := hif0
    tly := { live := [], snap := [], snapAt := [] }
    day := { vol := [], volNext := 0, per := [], perNext := 0, boot := 0, held := [], lost := 0
             last := [] }
    sent := []
    sys := sys0
    flash := flash0
    feedA := feed0
    feedB := feed0
    lehr := lehr0
    par := { staged := [], stagedReg := 0, committed := none, cold := false, force := none
             activ := none, gap := none, oneOffs := [] }
    trk := { force := none, next := none }
    pace := pace0
    gaf := gaf0
    ports := { tab := [], ringConf := ringConf0, rx := [], tx := [], pdVecLast := none, mdio0 := []
               mdio1 := [], insReqA := false, insReqB := false }
    fab := fab0
    pd := pd0
    inaug := inaug0
    time := time0
    can := []
    sleep := sleep0
    meas := meas0
    triad := triad0
    twin := twin0
    bridge := bridge0
    sec := sec0
    seeds := { armed := [], nextId := 1, holdUntil := [] } }

end Sys2Proof.Machine
end

