-- ==== Sys2Proof/Machine/Operands.lean ====
section
/-! DEFINITION. Operand forms: little-endian byte fields (R7), records read by field, the byte
memories, the parison's CRC-32C and SHA-256, and the fields of action entries and mailbox bodies. -/

namespace Sys2Proof.Machine

/-! ### Bytes -/

/-- `n` bytes of a number, least significant first (R7). -/
def le : Nat → Nat → List Byte
  | 0, _ => []
  | n + 1, v => BitVec.ofNat 8 v :: le n (v / 256)

/-- `n` bytes of a signed number in two's complement, least significant first. -/
def leInt (n : Nat) (v : Int) : List Byte := le n (v % (2 ^ (8 * n) : Nat)).toNat

/-- A number from bytes, least significant first. -/
def ofLe : List Byte → Nat
  | [] => 0
  | b :: l => b.toNat + 256 * ofLe l

/-- A number from bytes, most significant first. -/
def ofBe (l : List Byte) : Nat := ofLe l.reverse

/-- `n` bytes of a number, most significant first. -/
def be (n v : Nat) : List Byte := (le n v).reverse

/-- The bytes from `o` on, `n` of them, short where the list ends. -/
def slice (l : List Byte) (o n : Nat) : List Byte := (l.drop o).take n

/-- A little-endian field of `n` bytes at `o`; bytes beyond the end read as zero. -/
def fld (l : List Byte) (o n : Nat) : Nat := ofLe (slice l o n)

/-- A little-endian signed field. -/
def fldInt (l : List Byte) (o n : Nat) : Int :=
  let v := fld l o n
  if v < 2 ^ (8 * n - 1) then (v : Int) else (v : Int) - (2 ^ (8 * n) : Nat)

/-- A big-endian field. -/
def fldBe (l : List Byte) (o n : Nat) : Nat := ofBe (slice l o n)

/-- Bit `i` of a number. -/
def bit (v i : Nat) : Bool := v / 2 ^ i % 2 == 1

/-- Bits `hi` to `lo` of a number. -/
def bits (v hi lo : Nat) : Nat := v / 2 ^ lo % 2 ^ (hi + 1 - lo)

/-- Whether `n` bytes from `o` on are zero. -/
def zeroAt (l : List Byte) (o n : Nat) : Bool := (slice l o n).all (· == 0)

/-- Whether every byte is zero. -/
def allZero (l : List Byte) : Bool := l.all (· == 0)

/-- `b` as a number. -/
def bnat (b : Bool) : Nat := if b then 1 else 0

/-- The bytes of `l` with `d` written over them from `o` on. -/
def overlay (l : List Byte) (o : Nat) (d : List Byte) : List Byte :=
  (padTo 0 o l ++ d) ++ l.drop (o + d.length)

/-- A list cut into pieces of `n` bytes. -/
def chunks (n : Nat) : Nat → List Byte → List (List Byte)
  | 0, _ => []
  | k + 1, l => l.take n :: chunks n k (l.drop n)

/-- `(seconds, nanoseconds)` of a network time, as u64 and u32 (R241). -/
def secNs (t : Nat) : List Byte := le 8 (t / 1000000000) ++ le 4 (t % 1000000000)

/-- A network time from its fields at `o`. -/
def timeAt (l : List Byte) (o : Nat) : Nat := fld l o 8 * 1000000000 + fld l (o + 8) 4

/-- The six bytes of a MAC address, first octet first. -/
def macBytes (m : BitVec 48) : List Byte := be 6 m.toNat

/-- A MAC address from six bytes at `o`. -/
def macAt (l : List Byte) (o : Nat) : BitVec 48 := BitVec.ofNat 48 (fldBe l o 6)

/-! ### Byte memories -/

/-- The byte at an address; an unlisted address reads as zero. -/
def memGet (m : Mem) (a : Nat) : Byte := Tab.get 0 m a

/-- Writing one byte; writing zero removes the entry. -/
def memSet (m : Mem) (a : Nat) (b : Byte) : Mem := Tab.set 0 m a b

/-- Writing bytes from `a` on. -/
def memWrite (m : Mem) : Nat → List Byte → Mem
  | _, [] => m
  | a, b :: l => memWrite (memSet m a b) (a + 1) l

/-- `n` bytes from `a` on. -/
def memRead (m : Mem) (a n : Nat) : List Byte := (List.range n).map fun i => memGet m (a + i)

/-- A memory that lists nothing but these bytes from address 0. -/
def memOf (l : List Byte) : Mem := memWrite [] 0 l

/-- The canonical form of a memory. -/
def Mem.wf (m : Mem) : Bool := Tab.wf 0 m

/-! ### CRC-32C (R52, R138, R400, R543) -/

/-- Eight shifts of the reflected Castagnoli polynomial. -/
def crcShift : Nat → BitVec 32 → BitVec 32
  | 0, c => c
  | n + 1, c => crcShift n (if c &&& 1 == 1 then (c >>> 1) ^^^ 0x82F63B78 else c >>> 1)

/-- The CRC register after the bytes, from register value `c`. -/
def crcRun (c : BitVec 32) : List Byte → BitVec 32
  | [] => c
  | b :: l => crcRun (crcShift 8 (c ^^^ b.setWidth 32)) l

/-- CRC-32C with a given initial register value; bytes least significant bit first, final XOR. -/
def crc32cFrom (c : BitVec 32) (l : List Byte) : BitVec 32 := crcRun c l ^^^ 0xFFFFFFFF

/-- The standard CRC-32C. -/
def crc32c (l : List Byte) : BitVec 32 := crc32cFrom 0xFFFFFFFF l

/-! ### SHA-256 (R52, R66, R494; FIPS 180-4) -/

/-- The round constants. -/
def shaK : List (BitVec 32) :=
  [0x428a2f98, 0x71374491, 0xb5c0fbcf, 0xe9b5dba5, 0x3956c25b, 0x59f111f1, 0x923f82a4, 0xab1c5ed5,
   0xd807aa98, 0x12835b01, 0x243185be, 0x550c7dc3, 0x72be5d74, 0x80deb1fe, 0x9bdc06a7, 0xc19bf174,
   0xe49b69c1, 0xefbe4786, 0x0fc19dc6, 0x240ca1cc, 0x2de92c6f, 0x4a7484aa, 0x5cb0a9dc, 0x76f988da,
   0x983e5152, 0xa831c66d, 0xb00327c8, 0xbf597fc7, 0xc6e00bf3, 0xd5a79147, 0x06ca6351, 0x14292967,
   0x27b70a85, 0x2e1b2138, 0x4d2c6dfc, 0x53380d13, 0x650a7354, 0x766a0abb, 0x81c2c92e, 0x92722c85] ++
  [0xa2bfe8a1, 0xa81a664b, 0xc24b8b70, 0xc76c51a3, 0xd192e819, 0xd6990624, 0xf40e3585, 0x106aa070,
   0x19a4c116, 0x1e376c08, 0x2748774c, 0x34b0bcb5, 0x391c0cb3, 0x4ed8aa4a, 0x5b9cca4f, 0x682e6ff3,
   0x748f82ee, 0x78a5636f, 0x84c87814, 0x8cc70208, 0x90befffa, 0xa4506ceb, 0xbef9a3f7, 0xc67178f2]

/-- The initial hash value. -/
def shaH : List (BitVec 32) :=
  [0x6a09e667, 0xbb67ae85, 0x3c6ef372, 0xa54ff53a, 0x510e527f, 0x9b05688c, 0x1f83d9ab, 0x5be0cd19]

/-- Rotation right. -/
def ror (x : BitVec 32) (n : Nat) : BitVec 32 := x.rotateRight n

/-- The message schedule, newest word first, from the sixteen words newest first. -/
def shaSched : Nat → List (BitVec 32) → List (BitVec 32)
  | 0, w => w
  | n + 1, w =>
    let w2 := w.getD 1 0
    let w7 := w.getD 6 0
    let w15 := w.getD 14 0
    let w16 := w.getD 15 0
    let s0 := ror w15 7 ^^^ ror w15 18 ^^^ (w15 >>> 3)
    let s1 := ror w2 17 ^^^ ror w2 19 ^^^ (w2 >>> 10)
    shaSched n ((w16 + s0 + w7 + s1) :: w)

/-- The compression rounds over (constant, word) pairs; the state as eight words. -/
def shaRounds (h : List (BitVec 32)) : List (BitVec 32 × BitVec 32) → List (BitVec 32)
  | [] => h
  | (k, w) :: l =>
    match h with
    | [a, b, c, d, e, f, g, hh] =>
      let t1 := hh + (ror e 6 ^^^ ror e 11 ^^^ ror e 25) + ((e &&& f) ^^^ (~~~e &&& g)) + k + w
      let t2 := (ror a 2 ^^^ ror a 13 ^^^ ror a 22) + ((a &&& b) ^^^ (a &&& c) ^^^ (b &&& c))
      shaRounds [t1 + t2, a, b, c, d + t1, e, f, g] l
    | other => shaRounds other l

/-- One block of 64 bytes. -/
def shaBlock (h : List (BitVec 32)) (blk : List Byte) : List (BitVec 32) :=
  let w := ((chunks 4 16 blk).map fun q => BitVec.ofNat 32 (ofBe q)).reverse
  let sched := (shaSched 48 w).reverse
  List.zipWith (· + ·) h (shaRounds h (shaK.zip sched))

/-- The blocks of a padded message. -/
def shaBlocks : Nat → List (BitVec 32) → List Byte → List (BitVec 32)
  | 0, h, _ => h
  | n + 1, h, l => shaBlocks n (shaBlock h (l.take 64)) (l.drop 64)

/-- The SHA-256 digest, 32 bytes. -/
def sha256 (m : List Byte) : List Byte :=
  let pad := (119 - m.length % 64) % 64
  let p := m ++ [0x80] ++ zeros pad ++ be 8 (8 * m.length)
  ((shaBlocks (p.length / 64) shaH p).map fun w => be 4 w.toNat).flatten

/-! ### Action entries (R53, R54) -/

/-- An action entry from its 16 bytes. -/
def actOf (l : List Byte) : Act :=
  { off := fld l 12 4, op := fld l 11 1, tgt := fld l 10 1, flags := fld l 8 2, opnd := fld l 0 8 }

/-- The strand bit. -/
def Act.strand (a : Act) : Nat := bits a.flags 15 15
/-- The DOMAIN field. -/
def Act.domain (a : Act) : Nat := bits a.flags 14 13
/-- Whether MISS is MISS_RUN. -/
def Act.missRun (a : Act) : Bool := bit a.flags 12
/-- The relocation class. -/
def Act.rclass (a : Act) : Nat := bits a.flags 11 8
/-- The WINDOW bit. -/
def Act.window (a : Act) : Bool := bit a.flags 7

/-- The domain of a target code (R56): 0 A, 1 B, 2 spine, 3 unassigned. -/
def targetDomain (t : Nat) : Nat :=
  if t ≤ 1 then 0 else if t ≤ 3 then 1 else if t ≤ 13 then 0 else if t ≤ 23 then 1
  else if t = 0x18 then 2
  else if t = 0x20 ∨ t = 0x21 ∨ t = 0x24 ∨ t = 0x25 then 0
  else if 0x22 ≤ t ∧ t ≤ 0x27 then 1
  else if 0x28 ≤ t ∧ t ≤ 0x2B then 0 else if 0x2C ≤ t ∧ t ≤ 0x2F then 1
  else if 0x30 ≤ t ∧ t ≤ 0x33 then 0 else if 0x34 ≤ t ∧ t ≤ 0x37 then 1
  else if t = 0x38 then 0 else if t = 0x39 then 1 else if t = 0x3A then 0 else if t = 0x3B then 1
  else if 0x40 ≤ t ∧ t ≤ 0x44 then 2 else 3

/-- The domain of a frame port (R88). -/
def portDomain (p : Nat) : Nat := targetDomain p

/-- The domain of a CAN controller (R265). -/
def canDomain (c : Nat) : Nat := targetDomain (0x20 + c)

/-- The domain of an SD or TA input. -/
def inputDomain (n : Nat) : Nat := if n < 4 then 0 else 1

end Sys2Proof.Machine
end

