-- ==== Sys2Proof/Machine/Flags.lean ====
section
/-! DEFINITION. The numbering of tallies (R528), daybook events (R532), interrupt vectors (R510),
status codes (R513), and the quality bits of values (R179, R346). -/

namespace Sys2Proof.Machine

/-! ### Status codes (R513) -/

/-- Status OK. -/
def stOk : Nat := 0
/-- Status BUSY. -/
def stBusy : Nat := 1
/-- Status UNKNOWN. -/
def stUnknown : Nat := 2
/-- Status MALFORMED. -/
def stMalformed : Nat := 3
/-- Status LATE. -/
def stLate : Nat := 4
/-- Status CONTRACT. -/
def stContract : Nat := 5
/-- Status WARRANT. -/
def stWarrant : Nat := 6
/-- Status RESTARTED. -/
def stRestarted : Nat := 7
/-- Status ABSENT. -/
def stAbsent : Nat := 8
/-- Status DENIED. -/
def stDenied : Nat := 9
/-- Status FULL. -/
def stFull : Nat := 10
/-- Status STALE. -/
def stStale : Nat := 11

/-! ### Tallies (R528) -/

/-- The key of tally `i` of unit `u` of group `g`. -/
def tly (g u i : Nat) : Nat := g * 2 ^ 32 + u * 2 ^ 16 + i

/-- A port's tally (group 0). -/
def tlPort (p i : Nat) : Nat := tly 0 p i
/-- RX_FRAMES of R126; the other MAC tallies follow in its order. -/
def mRxFrames : Nat := 0
/-- RX_OCTETS. -/
def mRxOctets : Nat := 1
/-- RX_UCAST; RX_MCAST and RX_BCAST follow. -/
def mRxUcast : Nat := 2
/-- RX_TAGGED. -/
def mRxTagged : Nat := 5
/-- RX_64, the first size bin. -/
def mRx64 : Nat := 6
/-- RUNT. -/
def mRunt : Nat := 13
/-- OVERSIZE. -/
def mOversize : Nat := 14
/-- SYMBOL. -/
def mSymbol : Nat := 15
/-- FCS. -/
def mFcs : Nat := 16
/-- MACCTL. -/
def mMacctl : Nat := 17
/-- CLOSED. -/
def mClosed : Nat := 18
/-- NOBUF. -/
def mNobuf : Nat := 19
/-- CLASS_DROP. -/
def mClassDrop : Nat := 20
/-- MISS_DROP. -/
def mMissDrop : Nat := 21
/-- TX_FRAMES. -/
def mTxFrames : Nat := 22
/-- TX_OCTETS. -/
def mTxOctets : Nat := 23
/-- TX_UCAST; TX_MCAST and TX_BCAST follow. -/
def mTxUcast : Nat := 24
/-- TX_SCHED. -/
def mTxSched : Nat := 27
/-- TX_BEST. -/
def mTxBest : Nat := 28
/-- TX_HOST. -/
def mTxHost : Nat := 29
/-- TX_PAD. -/
def mTxPad : Nat := 30
/-- TX_OVERSIZE. -/
def mTxOversize : Nat := 31
/-- TX_FLUSH. -/
def mTxFlush : Nat := 32
/-- LINK_DOWN. -/
def mLinkDown : Nat := 33
/-- AN_RESTART. -/
def mAnRestart : Nat := 34
/-- AN_FAULT. -/
def mAnFault : Nat := 35
/-- BLOCK_LOSS. -/
def mBlockLoss : Nat := 36
/-- HI_BER. -/
def mHiBer : Nat := 37
/-- SEC_NOTAG (R165 rows with a port). -/
def mSecNotag : Nat := 38
/-- SEC_NOSA. -/
def mSecNosa : Nat := 39
/-- SEC_REPLAY. -/
def mSecReplay : Nat := 40
/-- SEC_ICV. -/
def mSecIcv : Nat := 41
/-- SEC_PN_EXHAUST. -/
def mSecPnExhaust : Nat := 42
/-- QDROP_SCHED. -/
def mQdropSched : Nat := 43
/-- QDROP_BEST. -/
def mQdropBest : Nat := 44
/-- GATE_DROP. -/
def mGateDrop : Nat := 45
/-- WINDOW_MISS. -/
def mWindowMiss : Nat := 46
/-- Q0_PEAK; the other queues follow. -/
def mQPeak : Nat := 47
/-- HELLO_LOSS (R239). -/
def mHelloLoss : Nat := 55
/-- TIME_RX (R263). -/
def mTimeRx : Nat := 56
/-- TIME_TX. -/
def mTimeTx : Nat := 57
/-- TIME_AUTH. -/
def mTimeAuth : Nat := 58
/-- TIME_UNSUP. -/
def mTimeUnsup : Nat := 59
/-- TIME_DEFER. -/
def mTimeDefer : Nat := 60
/-- KEY_OK (R505); KEY_FAIL and REKEY follow. -/
def mKeyOk : Nat := 61
/-- KEY_FAIL. -/
def mKeyFail : Nat := 62
/-- REKEY. -/
def mRekey : Nat := 63

/-- The keying tallies of a link: port 0 to 23 in its unit, the escrow link in unit 25 from index 0. -/
def tlKey (link i : Nat) : Nat := if link = 24 then tly 0 25 (i - 61) else tly 0 link i

/-- Group 1, host rings and MDIO. -/
def tlHost (i : Nat) : Nat := tly 1 0 i
/-- HRX FRAMES, FULL and TRUNC of ring q. -/
def hHrxFrames (q : Nat) : Nat := q
/-- FULL. -/
def hHrxFull (q : Nat) : Nat := 8 + q
/-- TRUNC. -/
def hHrxTrunc (q : Nat) : Nat := 16 + q
/-- HTX tally k (0 FRAMES, 1 BAD, 2 NOBUF, 3 ABSENT) of ring q. -/
def hHtx (q k : Nat) : Nat := 24 + 4 * q + k
/-- HOST_NOHIF. -/
def hNohif : Nat := 56
/-- MDIO0_NOACK, MDIO1_NOACK. -/
def hNoack (m : Nat) : Nat := 57 + m

/-- Group 2, fabric: LEDGER_HIT 0, MISS 1, NULL 2, UNCORR 3, POOL_CTRL_MIN 4, SCHED_MIN 5, BEST_MIN 6,
TELLER_RXDROP 7, FAB_ABSENT 8, FAB_DISCARD 9. -/
def tlFab (i : Nat) : Nat := tly 2 0 i
/-- Group 3, policers: PASS 0, DROP 1, OVER 2 of policer n. -/
def tlPol (n k : Nat) : Nat := tly 3 0 (3 * n + k)
/-- Group 4, strands and parison: PACE_COAST 0, SUBST 1, JUMP 2, HOLD 3, RANGE 4, TACH_FAULT 5,
GFA and GFB MISS_RUN 6, MISS_SKIP 8, DEFER 10, STEP_DROP 12, PAR_REFUSED 14, PAR_LATE 15,
PAR_TASK_STOP 16, PAR_ACT_DROP 17. -/
def tlStrand (i : Nat) : Nat := tly 4 0 i
/-- Group 5, process data in the order of R210. -/
def tlPd (i : Nat) : Nat := tly 5 0 i
/-- Group 6, inauguration: RUNS 0, LINE_CHANGE 1, RESTART 2, INVALID 3, CROSSED 4, INHIBITED 5,
OVERCOUNT 6. -/
def tlInaug (i : Nat) : Nat := tly 6 0 i
/-- Group 7, time: STEP 0, PATH_JUMP 1, CLAMP 2, HOLDOVER 3, UNUSABLE 4. -/
def tlTime (i : Nat) : Nat := tly 7 0 i
/-- Group 8, controller c, in the order of R300. -/
def tlCan (c i : Nat) : Nat := tly 8 c i
/-- Group 9, sleep, in the order of R324. -/
def tlSleep (i : Nat) : Nat := tly 9 0 i
/-- Group 10, measurement, in the order of R358. -/
def tlMeas (i : Nat) : Nat := tly 10 0 i
/-- Group 11, triad, in the order of R390. -/
def tlTriad (i : Nat) : Nat := tly 11 0 i
/-- Group 12, twin, in the order of R418. -/
def tlTwin (i : Nat) : Nat := tly 12 0 i
/-- Group 13, feeds, in the order of R444; memory m has CORR at 7 + 2m and UNCORR at 8 + 2m. -/
def tlFeed (i : Nat) : Nat := tly 13 0 i
/-- Group 14, bridge, in the order of R477. -/
def tlFlb (i : Nat) : Nat := tly 14 0 i
/-- Group 15: WARRANT_OK 0, WARRANT_FAIL 1, RECORD_WRITE 2, TRNG_FAIL 3, ATTEST 4, MBX_CMDS 5,
MBX_OVERRUN 6, MBX_REFUSED 7, FW_SWAP 8, FW_REVERT 9, FW_STAGE_REFUSED 10, BOOT_DEFAULT_FAIL 11,
SEED_ARM 12, SEED_HIT 13, SEED_NOHIT 14, SEED_END 15. -/
def tlSec (i : Nat) : Nat := tly 15 0 i

/-- The units of a tally group. -/
def tlyUnits (g : Nat) : Nat := if g = 0 then 26 else if g = 8 then 8 else 1

/-- The tallies in a unit of a group (SIZE of R529). -/
def tlySize (g u : Nat) : Nat :=
  match g with
  | 0 => if u = 25 then 3 else 64
  | 1 => 59 | 2 => 10 | 3 => 1536 | 4 => 18 | 5 => 20 | 6 => 7 | 7 => 5 | 8 => 26 | 9 => 15
  | 10 => 33 | 11 => 14 | 12 => 10 | 13 => 53 | 14 => 20 | 15 => 16 | _ => 0

/-- Where a tally stops (R127). -/
def tlyMax : Nat := 2 ^ 48 - 1

/-! ### Daybook events (R532): chapter number × 256 + row -/

/-- Row `r` of chapter `c`'s event table. -/
def ev (c r : Nat) : Nat := c * 256 + r

/-- The events that also enter the persistent class (R530). -/
def evPersistent (code : Nat) : Bool :=
  code = ev 2 0 || code = ev 2 1 || code = ev 2 3 || code = ev 2 4 || code = ev 7 1 ||
  code = ev 7 4 || code = ev 6 6 || code = ev 11 3 || code = ev 12 0 || code = ev 12 3 ||
  code = ev 13 1 || code = ev 13 2 || code = ev 13 4 || code = ev 13 7 || code = ev 9 4 ||
  code = ev 9 5 || code / 256 = 15 || code / 256 = 17 || code / 256 = 18

/-- The vector an event raises besides vector 1 (R264, R391, R419, R445, R506). -/
def evVector (code : Nat) : Option Nat :=
  if code / 256 = 7 then some 4
  else if code = ev 11 1 ∨ code = ev 11 3 ∨ code = ev 11 4 then some 6
  else if code / 256 = 12 then some 5
  else if code = ev 13 0 ∨ code = ev 13 1 ∨ code = ev 13 2 ∨ code = ev 13 6 ∨ code = ev 13 7 then
    some 6
  else if code / 256 = 15 then some 7
  else none

/-! ### Quality bits (R179) and pace marks (R45) -/

/-- Quality bits RETIMED, SUBSTITUTED and COASTED from a pace mark (R180). -/
def markQuality (mark : Nat) : Nat :=
  bits mark 1 0 + (if bit mark 3 || bit mark 2 then 4 else 0)

/-- Quality byte from its bits, INIT first. -/
def qInit : Nat := 0x80
/-- TIMEOUT. -/
def qTimeout : Nat := 0x40
/-- HELD. -/
def qHeld : Nat := 0x20
/-- UNGUARDED. -/
def qUnguarded : Nat := 0x10
/-- FEED_WARN. -/
def qFeedWarn : Nat := 0x08

end Sys2Proof.Machine
end

