-- ==== Sys2Proof/Machine/Ops.lean ====
section
/-! DEFINITION. The named operations every meaning is written over: the clocks, open values,
domains and feeds, tallies, daybook events and vectors, and the mailbox protocol (R510 to R518). -/

namespace Sys2Proof.Machine

/-- What a meaning answers. -/
abbrev Out := Host.Outcome State Fault Refusal

/-! ### Clocks -/

/-- Local time in ns. -/
def State.now (s : State) : Nat := 2 * s.clk.loc
/-- Network time in ns from the zero of its scale (R241). -/
def State.net (s : State) : Nat := s.clk.net / 2 ^ 48
/-- Elapsed network time in ns, without steps (R34). -/
def State.run (s : State) : Nat := s.clk.run / 2 ^ 48

/-- How far network time advances in `dt` gaffer clocks, in 2^-48 ns: 2 ns each plus the rate
correction (R242). -/
def State.advance (s : State) (dt : Nat) : Nat :=
  (((dt * 2 ^ 49 : Nat) : Int) * (1000000000000 + s.time.freq + s.time.slew) / 1000000000000).toNat

/-- Time passes: `dt` gaffer clocks. -/
def State.elapse (s : State) (dt : Nat) : State :=
  let a := s.advance dt
  { s with clk := { s.clk with loc := s.clk.loc + dt, net := s.clk.net + a, run := s.clk.run + a } }

/-- An open value of `w` bits; the counter moves on. -/
def State.fresh (w : Nat) (s : State) : BitVec w × State :=
  (Config.freeValue w s.clk.free, { s with clk := { s.clk with free := s.clk.free + 1 } })

/-! ### Domains and feeds -/

/-- The feed of domain 0 (A) or 1 (B). -/
def State.feed (s : State) (d : Nat) : Feed := if d = 0 then s.feedA else s.feedB

/-- Writing a feed. -/
def State.setFeed (s : State) (d : Nat) (f : Feed) : State :=
  if d = 0 then { s with feedA := f } else { s with feedB := f }

/-- Whether a domain answers requests (R162, R557); the spine (2) always does. -/
def State.hasDom (s : State) (d : Nat) : Bool :=
  d ≥ 2 || (s.feed d).dom != .isolated

/-- Whether a domain's gaffer issues and its outputs act: it is present, not returning (R431). -/
def State.live (s : State) (d : Nat) : Bool := d ≥ 2 || (s.feed d).dom == .present

/-- Whether the unit of a target or R524 code is absent: isolated, or retired as worn (R441). -/
def State.absentUnit (s : State) (t : Nat) : Bool :=
  !s.hasDom (targetDomain t) || Tab.get 0 s.sys.retired t != 0

/-- Whether a feed is in warning, real or simulated (R423, R563). -/
def Feed.warning (f : Feed) : Bool := f.dom != .isolated && (f.warn || !f.sim.isEmpty)

/-- Whether values of a domain's units are marked FEED_WARN; the spine only while every present feed
is in warning (R424). -/
def State.warned (s : State) (d : Nat) : Bool :=
  if d < 2 then (s.feed d).warning
  else (s.feedA.dom == .isolated || s.feedA.warning) && (s.feedB.dom == .isolated || s.feedB.warning)
    && !(s.feedA.dom == .isolated && s.feedB.dom == .isolated)

/-- Whether flash writes are deferred (R425). -/
def State.flashHeld (s : State) : Bool := s.feedA.warning || s.feedB.warning

/-- Whether the teller runs. -/
def State.tellerUp (s : State) : Bool := s.sys.stage == .up

/-- Whether the main die runs: out of reset, with a feed, awake. -/
def State.awake (s : State) : Bool :=
  s.sys.stage == .up || s.sys.stage == .restart || s.sys.stage == .swap || s.sys.stage == .loader ||
    s.sys.stage == .teller || s.sys.stage == .rom

/-! ### Tallies (R127, R527) -/

/-- A tally counts `n` events, stopping at its limit. -/
def State.countN (s : State) (k n : Nat) : State :=
  { s with tly := { s.tly with live := Tab.upd 0 s.tly.live k fun v => min tlyMax (v + n) } }

/-- A tally counts one event. -/
def State.count (s : State) (k : Nat) : State := s.countN k 1

/-- A tally that keeps the highest value. -/
def State.peak (s : State) (k v : Nat) : State :=
  { s with tly := { s.tly with live := Tab.upd 0 s.tly.live k fun w => max w v } }

/-- A tally that keeps the lowest value, held as that value plus 1 (0: none since the read). -/
def State.lowest (s : State) (k v : Nat) : State :=
  { s with tly := { s.tly with
      live := Tab.upd 0 s.tly.live k fun w => if w = 0 then v + 1 else min w (v + 1) } }

/-! ### Vectors, outputs, daybook -/

/-- Something leaves the device. -/
def State.send (s : State) (x : Sent) : State := { s with sent := s.sent ++ [x] }

/-- Whether PCIe is the host interface (R539). -/
def State.pcie (s : State) : Bool := s.sys.hostsel == 0 || s.sys.hostsel == 3

/-- An event of vector `v` (R510): bit v is set, and a message leaves when the bit changes to 1 while
its mask bit is 1. -/
def State.raise (s : State) (v : Nat) : State :=
  let was := s.hif.intStatus.getLsbD v
  let s' := { s with hif := { s.hif with intStatus := s.hif.intStatus ||| (1 <<< v) } }
  if !was && s.hif.intMask.getLsbD v && s.pcie then s'.send (.msix v) else s'

/-- Entering an event into the persistent class in flash. -/
def Day.keep (d : Day) (e : DayEv) : Day :=
  { d with
    per := pushKeep 16384 d.per { e with num := d.perNext % 2 ^ 32 }
    perNext := (d.perNext + 1) % 2 ^ 32, lost := 0 }

/-- How many daybook entries wait for the flash. -/
def Flash.waitingDays (f : Flash) : Nat :=
  (f.defer.filter fun d => match d with | .day _ => true | _ => false).length

/-- The deferred writes without their oldest daybook entry. -/
def dropOldestDay : List Deferred → List Deferred
  | [] => []
  | .day _ :: l => l
  | d :: l => d :: dropOldestDay l

/-- A write waits for the end of the feed warning (R425). -/
def State.deferWrite (s : State) (d : Deferred) : State :=
  let s := s.count (tlFeed 5)
  let s := { s with flash := { s.flash with defer := s.flash.defer ++ [d] } }
  if s.flash.waitingDays > 256 then
    ({ s with
        flash := { s.flash with defer := dropOldestDay s.flash.defer }
        day := { s.day with lost := s.day.lost + 1 } }).count (tlFeed 6)
  else s

/-- The teller enters an event into the daybook (R530, R531). -/
def State.enter (s : State) (r : RawEv) : State :=
  let e : DayEv :=
    { num := s.day.volNext % 2 ^ 32, code := r.code, persist := evPersistent r.code
      args := r.args.take 40, time := r.time, boot := s.day.boot % 2 ^ 16 }
  let s := { s with day := { s.day with
    vol := pushKeep 4096 s.day.vol e, volNext := (s.day.volNext + 1) % 2 ^ 32 } }
  let s := if e.persist then
      (if s.flashHeld then s.deferWrite (.day e) else { s with day := s.day.keep e })
    else s
  s.raise 1

/-- A unit raises an event: entered while the teller runs, else held in the spine queue of 256
entries (R555). -/
def State.note (s : State) (code : Nat) (args : List Byte) : State :=
  let s := match evVector code with
    | some v => s.raise v
    | none => s
  let r : RawEv := { code := code, args := args, time := s.net }
  if s.tellerUp then s.enter r
  else if s.day.held.length < 256 then
    { s with day := { s.day with held := s.day.held ++ [r] } }
  else s.count (tlFeed 6)

/-- A length of time in ns as an event's content shows it, a u32 (R533). -/
def lenArg (ns : Nat) : List Byte := le 4 (min ns (2 ^ 32 - 1))

/-- An event raised at most once per second for a unit. -/
def State.noteOnce (s : State) (unit code : Nat) (args : List Byte) : State :=
  let k := code * 2 ^ 16 + unit
  let last := Tab.get 0 s.day.last k
  if last ≠ 0 ∧ s.now + 1 < last + 1000000000 then s
  else ({ s with day := { s.day with last := Tab.set 0 s.day.last k (s.now + 1) } }).note code args

/-- The events held while the teller was stopped are entered when it resumes. -/
def State.enterHeld (s : State) : State :=
  let q := s.day.held
  q.foldl State.enter { s with day := { s.day with held := [] } }

/-- A request meets an absent unit (R162). -/
def State.absentReq (s : State) : State := s.count (tlFab 8)

/-! ### Flash records (R425, R542) -/

/-- A persistent configuration record is written, or waits for the end of a feed warning. -/
def State.persist (s : State) (key : Nat) (bytes : List Byte) : State :=
  if s.flashHeld then s.deferWrite (.conf key bytes)
  else { s with flash := { s.flash with conf := Tab.set [] s.flash.conf key bytes } }

/-- Keys of configuration records: ports 0 to 23 and the rings by port number. -/
def cfInaug : Nat := 30
/-- Time record. -/
def cfTime : Nat := 31
/-- Wake record. -/
def cfWake : Nat := 32
/-- Twin record. -/
def cfTwin : Nat := 33
/-- Lehr record. -/
def cfLehr : Nat := 34
/-- Bridge record. -/
def cfBridge : Nat := 35

/-! ### Mailbox protocol (R509 to R518) -/

/-- What a command answers: its status, response body and the state it leaves; `wait` where its
completion waits for an event. -/
structure Reply where
  status : Nat
  body : List Byte
  st : State
  wait : Bool := false

/-- A completed command. -/
def ans (status : Nat) (body : List Byte) (s : State) : Reply :=
  { status := status, body := body, st := s }

/-- A refused command: an empty body, nothing changed. -/
def refuse (status : Nat) (s : State) : Reply := ans status [] s

/-- A command held in EXEC. -/
def holdOn (s : State) : Reply := { status := 0, body := [], st := s, wait := true }

/-- A command of the Nimuth set: its opcode, the layout check of R514 step 4, its own rules. -/
structure Cmd where
  op : Nat
  shape : List Byte → Bool
  run : List Byte → State → Reply

/-- A 32-byte response header (R511). -/
def respHeader (op tag len seq status : Nat) : List Byte :=
  le 2 op ++ le 2 tag ++ le 4 len ++ le 4 seq ++ le 2 status ++ zeros 18

/-- The device writes a response (R512 step 4). -/
def State.respond (s : State) (op tag seq status : Nat) (body : List Byte) : State :=
  let s := { s with hif := { s.hif with
    resp := memWrite s.hif.resp 0 (respHeader op tag body.length seq status ++ body)
    mbxSeq := BitVec.ofNat 32 seq, lastStatus := BitVec.ofNat 16 status
    exec := false, reqBusy := false, respValid := true, held := none } }
  (s.count (tlSec 5)).raise 0

/-- The commands the loader of the vault ROM serves (R546). -/
def loaderServes (op : Nat) : Bool := op = 0x0001 || op = 0x0E01 || op = 0x0E02

/-- The command in the request area is taken and carried out (R512, R514). `find` gives the command
of an assigned opcode. -/
def State.serve (s : State) (find : Nat → Option Cmd) : State :=
  let h := memRead s.hif.req 0 32
  let op := fld h 0 2
  let tag := fld h 2 2
  let len := fld h 4 4
  let seq := fld h 8 4
  let bad := fun st => (s.count (tlSec 7)).respond op tag seq st []
  if len > 4064 then bad stMalformed
  else if !zeroAt h 12 20 then bad stMalformed
  else match find op with
    | none => bad stUnknown
    | some c =>
      let body := memRead s.hif.req 32 len
      if !c.shape body then bad stMalformed
      else if s.sys.stage == .loader && !loaderServes op then s.respond op tag seq stDenied []
      else
        let r := c.run body s
        if r.wait then
          { r.st with hif := { r.st.hif with
              exec := true, held := some { op := op, tag := tag, seq := seq, body := body } } }
        else r.st.respond op tag seq r.status r.body

/-- REQ is written (R512). -/
def State.ringReq (s : State) (find : Nat → Option Cmd) : State :=
  if !s.hif.ready then s
  else if s.hif.reqBusy || s.hif.exec || s.hif.respValid then
    let s := s.count (tlSec 6)
    match s.hif.held with
    | some h => s.noteOnce 0 (ev 16 0) (le 2 h.op ++ le 4 h.seq)
    | none =>
      let h := memRead s.hif.resp 0 12
      s.noteOnce 0 (ev 16 0) (le 2 (fld h 0 2) ++ le 4 (fld h 8 4))
  else s.serve find

/-- The host writes header and body into the request area (R511). -/
def State.writeReq (s : State) (op : Nat) (r : Req) : State :=
  let hdr := le 2 op ++ le 2 r.tag.toNat ++ le 4 r.len.toNat ++ le 4 r.seq.toNat ++ padTo 0 20 r.rsv
  { s with hif := { s.hif with req := memWrite s.hif.req 0 (hdr ++ r.body.take 4064) } }

/-- A mailbox command from the host: the request is written, then REQ. While the main die is in reset
or without power, nothing answers at the window. -/
def State.submit (s : State) (c : Cmd) (r : Req) : State :=
  if s.awake then (s.writeReq c.op r).ringReq fun o => if o = c.op then some c else none else s

/-- The completion of the command held in EXEC, where it is the one meant and the teller serves; a
command caught by a gap completes with RESTARTED afterwards (R517). -/
def State.finish (s : State) (op status : Nat) (body : List Byte) : State :=
  match s.hif.held with
  | some h =>
    if h.op = op && s.hif.ready then s.respond h.op h.tag h.seq status body else s
  | none => s

/-- A request with byte 0 of its body replaced: rows that are one operation of a command. -/
def withOp (r : Req) (v : Byte) : Req := { r with body := overlay r.body 0 [v] }

/-- OPTIONS of a configuration command (R518): only bits 0 and 1 may be set. -/
def cfgOpts (b : List Byte) (persist : Bool) : Bool :=
  let o := fld b 0 4
  o < 4 && (persist || !bit o 0)

/-- READ without a record, or a record of `n` bytes, after `k` bytes of OPTIONS and selector. -/
def cfgLen (b : List Byte) (k n : Nat) : Bool :=
  if bit (fld b 0 4) 1 then b.length = k else b.length = k + n

/-! ### Command guards -/

/-- Applying a change of state only where a condition holds. -/
def State.when (s : State) (c : Bool) (f : State → State) : State := if c then f s else s

/-! ### Pins (R92, R393, R510) -/

/-- Whether the KA die drives a line's control high (R92). -/
def State.inserted (s : State) (line : Nat) : Bool :=
  (if line = 0 then s.ports.insReqA else s.ports.insReqB) && s.awake && !s.sys.porst && !s.sys.sysrst &&
    s.hasDom line

/-- The controls follow the request; a control that rises starts the relay settle time (R215). -/
def State.insControl (s : State) (line : Nat) : State :=
  let on := s.inserted line
  let t := some (s.now + fld s.inaug.conf 6 1 * 1000000)
  if line = 0 then { s with inaug := { s.inaug with
    insA := on, relayA := if !on then none else if s.inaug.insA then s.inaug.relayA else t } }
  else { s with inaug := { s.inaug with
    insB := on, relayB := if !on then none else if s.inaug.insB then s.inaug.relayB else t } }

/-- The level of HOST_INT_N: asserted while an enabled bit is set (R510). -/
def State.hostIntLevel (s : State) : Bool := s.hif.intStatus &&& s.hif.intMask != 0

/-- Whether TWIN_ACT may be active: the role is ACTIVE, the main die runs, and the escrow unit has
refreshed it within the last 250 µs (R393). -/
def State.actHolds (s : State) : Bool :=
  s.twin.role == .active && s.awake && decide (s.now < s.twin.refreshAt + 250000)

/-- The pins follow the state they show: HOST_INT_N, BB_INS_A and BB_INS_B, TWIN_ACT. -/
def State.pins (s : State) : State :=
  let s := (s.insControl 0).insControl 1
  { s with
    hif := { s.hif with hostInt := s.hostIntLevel }
    twin := { s.twin with act := s.twin.act && s.actHolds } }

/-- The answer of a meaning: the next state, its pins brought up to date. -/
def go (s : State) : Out := .next s.pins

end Sys2Proof.Machine
end

