-- ==== Sys2Proof/Machine/Inject.lean ====
section
/-! DEFINITION. Injection by armed seeds (R561 to R566): which occurrences a seed hits. -/

namespace Sys2Proof.Machine

/-- Where PARAMS holds EVERY, by type (R562); a BRIDGE_LATENCY seed hits every occurrence. -/
def everyAt (kind : Nat) : Nat := if kind = 4 ∨ kind = 8 then 4 else 8

/-- One matching occurrence for one seed: the seed after it, and whether its turn has come. -/
def Seed.occur (x : Seed) : Seed × Bool :=
  let n := x.count + 1
  let e := if x.kind = 3 then 1 else fld x.params (everyAt x.kind) 4
  ({ x with count := n }, e ≠ 0 && n % e = 0)

/-- A hit is counted, and reported at the first and then at most once per second per seed (R564,
R568). -/
def State.seedHit (s : State) (x : Seed) : State × Seed :=
  let x := { x with hits := x.hits + 1 }
  let s := s.count (tlSec 13)
  match x.lastEv with
  | some t =>
    if s.now < t + 1000000000 then (s, x)
    else (s.note (ev 18 1) (le 4 x.id ++ le 4 x.hits), { x with lastEv := some s.now })
  | none => (s.note (ev 18 1) (le 4 x.id ++ le 4 x.hits), { x with lastEv := some s.now })

/-- The armed seeds of a type that match an occurrence: each counts it, and those whose turn has come
hit and are returned by their PARAMS where `can` allows the injection; a CAN_BIT_ERROR whose turn
comes where nothing can be injected counts in TLY_SEED_NOHIT (R563, R567). -/
def State.injectCan (s : State) (kind : Nat) (pred can : List Byte → Bool) :
    List (List Byte) × State :=
  let r := s.seeds.armed.foldl (fun (acc : List Seed × List (List Byte) × State) x =>
      if x.kind = kind && s.now < x.endAt && pred x.params then
        let o := x.occur
        if !o.2 then (acc.1 ++ [o.1], acc.2)
        else if !can x.params then
          (acc.1 ++ [o.1], acc.2.1, if kind = 4 then acc.2.2.count (tlSec 14) else acc.2.2)
        else
          let h := acc.2.2.seedHit o.1
          (acc.1 ++ [h.2], acc.2.1 ++ [x.params], h.1)
      else (acc.1 ++ [x], acc.2)) ([], [], s)
  (r.2.1, { r.2.2 with seeds := { r.2.2.seeds with armed := r.1 } })

/-- The same where every turn is a hit. -/
def State.inject (s : State) (kind : Nat) (pred : List Byte → Bool) : List (List Byte) × State :=
  s.injectCan kind pred fun _ => true

/-- Whether any seed hits an occurrence. -/
def State.injects (s : State) (kind : Nat) (pred : List Byte → Bool) : Bool × State :=
  let r := s.inject kind pred
  (!r.1.isEmpty, r.2)

end Sys2Proof.Machine
end

