-- ==== Sys2Proof/Machine/PortStore.lean ====
section
/-! DEFINITION. The port store (chapter 5): slots and commits, quality, sink supervision, receiving,
snapshots, host access, the host window and the process-data host ring. -/

namespace Sys2Proof.Machine

/-! ### Port records (R170, R171) -/

/-- DIR: 0 subscribe, 1 publish. -/
def pDir (c : List Byte) : Nat := fld c 2 1
/-- SOURCE (R172). -/
def pSource (c : List Byte) : Nat := fld c 3 1
/-- COMID. -/
def pComId (c : List Byte) : Nat := fld c 4 4
/-- SIZE. -/
def pSize (c : List Byte) : Nat := fld c 8 2
/-- FLAGS. -/
def pFlags (c : List Byte) : Nat := fld c 10 2
/-- CYCLE in ns. -/
def pCycle (c : List Byte) : Nat := fld c 12 4
/-- LIMIT in µs. -/
def pLimit (c : List Byte) : Nat := fld c 16 4
/-- LINK. -/
def pLink (c : List Byte) : Nat := fld c 20 2
/-- TCI. -/
def pTci (c : List Byte) : Nat := fld c 22 2
/-- IP. -/
def pIp (c : List Byte) : Nat := fld c 24 4
/-- EGRESS port mask. -/
def pEgress (c : List Byte) : Nat := fld c 36 4 % 2 ^ 25
/-- Egress queue. -/
def pQueue (c : List Byte) : Nat := bits (fld c 36 4) 27 25
/-- DSCP. -/
def pDscp (c : List Byte) : Nat := fld c 40 1
/-- QMASK. -/
def pQmask (c : List Byte) : Nat := fld c 41 1
/-- SNAP. -/
def pSnap (c : List Byte) : Bool := bit (pFlags c) 0
/-- HOSTRING. -/
def pHostRing (c : List Byte) : Bool := bit (pFlags c) 1
/-- QPOS. -/
def pQpos (c : List Byte) : Bool := bit (pFlags c) 2
/-- TMO_ZERO. -/
def pTmoZero (c : List Byte) : Bool := bit (pFlags c) 3
/-- TOPO_ETB. -/
def pTopoEtb (c : List Byte) : Bool := bit (pFlags c) 4
/-- TOPO_OPTRN. -/
def pTopoOptrn (c : List Byte) : Bool := bit (pFlags c) 5
/-- TOPO_STRICT. -/
def pTopoStrict (c : List Byte) : Bool := bit (pFlags c) 6
/-- TAGGED. -/
def pTagged (c : List Byte) : Bool := bit (pFlags c) 7

/-! ### Slots (R174 to R178) -/

/-- The port of an index, if one is defined. -/
def State.port (s : State) (i : Nat) : Option PdPort := Tab.get none s.pd.ports i

/-- Writing a port. -/
def State.setPort (s : State) (i : Nat) (p : Option PdPort) : State :=
  { s with pd := { s.pd with ports := Tab.set none s.pd.ports i p } }

/-- The slot in a physical place. -/
def PdPort.slot (p : PdPort) (i : Nat) : Slot :=
  if i = 0 then p.slot0 else if i = 1 then p.slot1 else p.slot2

/-- Writing a physical slot. -/
def PdPort.setSlot (p : PdPort) (i : Nat) (v : Slot) : PdPort :=
  if i = 0 then { p with slot0 := v } else if i = 1 then { p with slot1 := v }
  else { p with slot2 := v }

/-- The LATEST slot. -/
def PdPort.value (p : PdPort) : Slot := p.slot p.latest

/-- A commit of a complete value (R177): WRITE becomes LATEST; the third slot becomes WRITE where it
is free, else the previous LATEST does. -/
def PdPort.commit (p : PdPort) (pinned : Option Nat) (v : Slot) : PdPort :=
  let third := 3 - p.latest - p.write
  { p.setSlot p.write v with
    latest := p.write, write := if pinned = some third then p.latest else third }

/-- The slot of a port that is pinned, if the host window pins it. -/
def State.pinOf (s : State) (i : Nat) : Option Nat :=
  match s.pd.pin with
  | some q => if q.port = i then some q.slot else none
  | none => none

/-- A slot of a newly defined port (R206): zeros, quality INIT. -/
def slot0 (size : Nat) : Slot :=
  { time := 0, seq := 0, commits := 0, quality := 0x80, kind := 0, etb := 0, optrn := 0
    data := zeros size }

/-- A newly defined port at local time `t` (R187, R206). -/
def newPort (conf : List Byte) (t : Nat) : PdPort :=
  let z := slot0 (pSize conf)
  { conf := conf, slot0 := z, slot1 := z, slot2 := z, latest := 0, write := 1, pending := z
    visible := z, sampled := false, seq := 0, lastSeq := 0
    sinkAt := if pDir conf = 0 ∧ pLimit conf ≠ 0 then some (t + pLimit conf * 1000) else none
    expired := false, expiries := 0, lastStep := 0, lastSrc := 0, dup := none }

/-- The slot header (R175). -/
def slotHeader (v : Slot) (size : Nat) : List Byte :=
  secNs v.time ++ le 4 v.seq ++ le 4 v.commits ++ le 2 size ++ [v.quality] ++ le 1 v.kind ++
    le 4 v.etb.toNat ++ le 4 v.optrn.toNat

/-- The header of a slot of a port: SEQ of a publish port is that of its latest publication. -/
def PdPort.header (p : PdPort) (v : Slot) : List Byte :=
  slotHeader (if pDir p.conf = 1 then { v with seq := p.lastSeq } else v) (pSize p.conf)

/-! ### The process-data host ring (R199, R200) -/

/-- A ring entry as it is posted, OWN clear. -/
def pdEntry (i size : Nat) (v : Slot) : List Byte :=
  [0, v.quality] ++ le 2 i ++ le 2 size ++ le 1 v.kind ++ [0] ++ secNs v.time ++ le 4 v.seq ++
    le 4 v.commits ++ zeros 4 ++ v.data

/-- Vector 2 under the hold-off rule of R121. -/
def State.pdVector (s : State) : State :=
  let hold := fld s.pd.ring 13 1 * 1000
  match s.pd.ringVec with
  | some t =>
    if s.now < t + hold then { s with pd := { s.pd with ringWait := true } }
    else ({ s with pd := { s.pd with ringVec := some s.now, ringWait := false } }).raise 2
  | none => ({ s with pd := { s.pd with ringVec := some s.now, ringWait := false } }).raise 2

/-- Posting a port's value to the ring. Whether the next entry is host-owned is the host's memory: an
open value. -/
def State.post (s : State) (i : Nat) (p : PdPort) : State :=
  if !(pHostRing p.conf && bit (fld s.pd.ring 12 1) 0 && s.pcie) then s
  else
    let r := s.fresh 1
    let s := r.2
    if r.1 = 1 then s.count (tlPd 13)
    else if pSize p.conf + 32 > fld s.pd.ring 10 2 then s.count (tlPd 14)
    else
      let n := fld s.pd.ring 8 2
      let s := s.send (.ring 16 s.pd.ringIx (pdEntry i (pSize p.conf) p.value))
      ({ s with pd := { s.pd with ringIx := if n = 0 then 0 else (s.pd.ringIx + 1) % n } }).pdVector

/-! ### Commits -/

/-- A commit to port `i` (R175 to R180): the value with its header, the sink timer restarted, the
posting to the host ring. -/
def State.commitAs (s : State) (i : Nat) (kind time seq quality : Nat) (etb optrn : U32)
    (data : List Byte) (restart : Bool) : State :=
  match s.port i with
  | none => s
  | some p =>
    let v : Slot :=
      { time := time, seq := seq, commits := (p.value.commits + 1) % 2 ^ 32
        quality := BitVec.ofNat 8 quality, kind := kind, etb := etb, optrn := optrn, data := data }
    let q := p.commit (s.pinOf i) v
    let q := if restart then
        { q with
          expired := false
          sinkAt := if pDir p.conf = 0 ∧ pLimit p.conf ≠ 0 then some (s.now + pLimit p.conf * 1000)
            else none }
      else q
    let s := { s with pd := { s.pd with bad := s.pd.bad.filter (· != i) } }
    (s.setPort i (some q)).post i q

/-- A commit by anything but a frame: the node's current topology counters, SEQ as R175 says. -/
def State.commitPort (s : State) (i kind time quality : Nat) (data : List Byte) : State :=
  match s.port i with
  | none => s
  | some p =>
    let seq := if pDir p.conf = 1 then p.lastSeq else 0
    s.commitAs i kind time seq quality s.inaug.etbTopo s.inaug.optrn data true

/-- A map's commit: LEN bytes written over LATEST from P_OFF on (R204). Bit 3 of the quality comes
from the domain of the unit that produced the bytes (R180). -/
def State.mapCommit (s : State) (i kind time off dom : Nat) (bytes : List Byte) : State :=
  match s.port i with
  | none => s
  | some p =>
    s.commitPort i kind time (if s.warned dom then qFeedWarn else 0)
      ((overlay p.value.data off bytes).take (pSize p.conf))

/-! ### Sink timeout (R187, R188) -/

/-- The expiry of a port's sink timer. -/
def State.sinkExpire (s : State) (i : Nat) : State :=
  match s.port i with
  | none => s
  | some p =>
    match p.sinkAt with
    | none => s
    | some t =>
      if p.expired || s.now < t then s
      else
        let v := p.value
        let q := { p with expired := true, expiries := (p.expiries + 1) % 2 ^ 32, dup := none }
        let s := s.count (tlPd 8)
        let s := if pTmoZero p.conf then
            (s.setPort i (some q)).commitAs i 6 s.net 0
              (qTimeout + (if v.quality.getLsbD 7 then qInit else 0))
              s.inaug.etbTopo s.inaug.optrn (zeros (pSize p.conf)) false
          else
            let q := q.setSlot q.latest { v with quality := v.quality ||| 0x40 }
            (s.setPort i (some q)).post i q
        s.noteOnce i (ev 5 0) (le 4 i ++ le 1 (bnat (pTmoZero p.conf)) ++ secNs v.time)

/-- SINK_TIMEOUT: the port's timer is acted on when it has expired. -/
def execSinkTimeout (dt : Nat) (port : BitVec 12) (s : State) : Out :=
  go ((s.elapse dt).sinkExpire port.toNat)

/-! ### Receiving (R182 to R185) -/

/-- Ones' complement sum of big-endian 16-bit words. -/
def sum16 : List Byte → Nat
  | a :: b :: l => a.toNat * 256 + b.toNat + sum16 l
  | [a] => a.toNat * 256
  | [] => 0

/-- Folding carries into 16 bits. -/
def fold16 (n : Nat) : Nat :=
  let m := n % 65536 + n / 65536
  let k := m % 65536 + m / 65536
  k % 65536 + k / 65536

/-- Where the network header of a frame begins: after one 802.1Q tag, if any (R106). -/
def l3At (f : List Byte) : Nat := if fldBe f 12 2 = 0x8100 then 18 else 14

/-- The EtherType after one tag. -/
def etypeOf (f : List Byte) : Nat := if fldBe f 12 2 = 0x8100 then fldBe f 16 2 else fldBe f 12 2

/-- A frame as the port store reads it: IPv4 header, UDP header, TRDP header and payload. -/
structure Trdp where
  ip : List Byte
  udp : List Byte
  pay : List Byte

/-- The parts of a frame from its network header on. -/
def trdpOf (f : List Byte) : Trdp :=
  let l := f.drop (l3At f)
  let total := fldBe l 2 2
  let body := l.take total
  { ip := body.take 20, udp := slice body 20 8, pay := body.drop 28 }

/-- Step 1: IPv4 header checksum, UDP length, UDP checksum if non-zero. -/
def Trdp.ipOk (t : Trdp) : Bool :=
  let ulen := fldBe t.udp 4 2
  let pseudo := slice t.ip 12 8 ++ [0, 17] ++ be 2 ulen
  t.ip.length = 20 && t.udp.length = 8 && fld t.ip 0 1 = 0x45 && fld t.ip 9 1 = 17 &&
    fold16 (sum16 t.ip) = 0xFFFF && ulen = fldBe t.ip 2 2 - 20 && ulen ≥ 8 &&
    ulen = t.pay.length + 8 &&
    (fldBe t.udp 6 2 = 0 || fold16 (sum16 (pseudo ++ t.udp ++ t.pay)) = 0xFFFF)

/-- Whether a counter passes the topology check (R184). -/
def topoPass (strict : Bool) (got cur : Nat) : Bool := got = cur || (got = 0 && !strict)

/-- The first step of R182 that refuses a frame at a port; 0 if none does. -/
def State.refuseStep (s : State) (p : PdPort) (f : List Byte) : Nat :=
  let t := trdpOf f
  let c := p.conf
  let src := fldBe t.ip 12 4
  let seq := fldBe t.pay 0 4
  if etypeOf f ≠ 0x0800 || !t.ipOk then 1
  else if t.pay.length < 40 || fld t.pay 4 1 ≠ 1 ||
      Config.trdpFcs (t.pay.take 36) ≠ BitVec.ofNat 32 (fld t.pay 36 4) then 2
  else if fldBe t.pay 6 2 ≠ 0x5064 then 3
  else if fldBe t.pay 8 4 ≠ pComId c then 4
  else if fldBe t.pay 20 4 ≠ pSize c || t.pay.length < 40 + pSize c then 5
  else if pIp c ≠ 0 && pIp c ≠ src then 6
  else if (pTopoEtb c && !topoPass (pTopoStrict c) (fldBe t.pay 12 4) s.inaug.etbTopo.toNat) ||
      (pTopoOptrn c && !topoPass (pTopoStrict c) (fldBe t.pay 16 4) s.inaug.optrn.toNat) then 7
  else match p.dup with
    | some (a, n) => if a = src ∧ (n + 2 ^ 32 - seq) % 2 ^ 32 < 16 then 8 else 0
    | none => 0

/-- The tally of a refusal at a step. -/
def refuseTally (step : Nat) : Nat := if step ≤ 1 then 1 else step - 1

/-- A delivered frame reaches its port. -/
def State.receivePd (s : State) (d : Delivery) : State :=
  match s.port d.port with
  | none => s.count (tlPd 18)
  | some p =>
    if p.conf ≠ d.conf then s.count (tlPd 18)
    else
      let t := trdpOf d.bytes
      let src := fldBe t.ip 12 4
      let step := s.refuseStep p d.bytes
      if step ≠ 0 then
        let s := s.setPort d.port (some { p with lastStep := step, lastSrc := BitVec.ofNat 32 src })
        let s := s.count (tlPd (refuseTally step))
        if step = 7 then
          s.noteOnce d.port (ev 5 1) (le 4 d.port ++ le 4 (fldBe t.pay 12 4) ++
            le 4 (fldBe t.pay 16 4) ++ le 4 s.inaug.etbTopo.toNat ++ le 4 s.inaug.optrn.toNat ++
            le 4 src)
        else s
      else
        let seq := fldBe t.pay 0 4
        let data := slice t.pay 40 (pSize p.conf)
        let q := if pQpos p.conf then (data.headD 0).toNat % 64 else 0
        let s := s.setPort d.port (some { p with dup := some (src, seq) })
        (s.commitAs d.port 0 d.stamp seq q (BitVec.ofNat 32 (fldBe t.pay 12 4))
          (BitVec.ofNat 32 (fldBe t.pay 16 4)) data true).count (tlPd 0)

/-- PD_FRAME_ARRIVAL: the oldest delivery reaches its port. -/
def execPdFrameArrival (dt : Nat) (s : State) : Out :=
  let s := s.elapse dt
  match s.pd.arriving with
  | [] => go s
  | d :: l => go (({ s with pd := { s.pd with arriving := l } }).receivePd d)

/-! ### Snapshots (R193) -/

/-- LATEST is copied into PENDING, with the sampling action's own mark (R180). A word that failed
keeps the previous copy (R435). -/
def State.sample (s : State) (i mark : Nat) : State :=
  match s.port i with
  | none => s
  | some p =>
    if s.pd.bad.contains i then s
    else
      let v := p.value
      s.setPort i (some { p with
        sampled := true
        pending := { v with quality := v.quality ||| BitVec.ofNat 8 (markQuality mark) } })

/-- The PENDING copies that a release hands over: of every port sampled since the previous one. -/
def State.sampledPorts (s : State) : List (Nat × Slot) :=
  s.pd.ports.filterMap fun x => match x with
    | (i, some p) => if p.sampled then some (i, p.pending) else none
    | _ => none

/-- The state after a release took them. -/
def State.handOver (s : State) : State :=
  { s with pd := { s.pd with
      ports := s.pd.ports.map fun x => match x with
        | (i, some p) => (i, some { p with sampled := false })
        | y => y } }

/-- Copies handed over replace VISIBLE, as the released task begins. -/
def State.showSnaps (s : State) (l : List (Nat × Slot)) : State :=
  l.foldl (fun s x => match s.port x.1 with
    | some p => s.setPort x.1 (some { p with visible := x.2 })
    | none => s) s

/-- Only the copies of ports that stay as they are survive an activation. -/
def State.keepSnaps (s : State) (keep : Nat → Bool) : State :=
  { s with triad := { s.triad with
      snaps := s.triad.snaps.filter fun x => keep x.1
      queue := s.triad.queue.map fun r => { r with snaps := r.snaps.filter fun x => keep x.1 } } }

/-! ### Host access (R195 to R198) -/

/-- MB_PORT_READ. -/
def cmdPortRead : Cmd :=
  { op := 0x0301
    shape := fun b => b.length = 4 && fld b 2 2 < 2
    run := fun b s =>
      let i := fld b 0 2
      if i > 4095 then refuse stMalformed s
      else match s.port i with
        | none => refuse stDenied s
        | some p =>
          if s.pd.bad.contains i then refuse stStale s
          else
            let sink := if p.sinkAt.isNone then 0 else if p.expired then 2 else 1
            let size := pSize p.conf
            let body := le 1 sink ++ le 1 p.lastStep ++ zeros 2 ++ le 4 p.expiries ++
              le 4 p.lastSrc.toNat ++ zeros 4 ++ p.header p.value ++ padTo 0 size p.value.data
            let s := if bit (fld b 2 2) 0 then
                s.setPort i (some { p with expiries := 0, lastStep := 0, lastSrc := 0 })
              else s
            ans stOk body s }

/-- MB_PORT_READ from the host. -/
def execMbPortRead (dt : Nat) (r : Req) (s : State) : Out := go ((s.elapse dt).submit cmdPortRead r)

/-- MB_PORT_WRITE (R196): a whole value, committed with KIND 1. -/
def cmdPortWrite : Cmd :=
  { op := 0x0302
    shape := fun b => b.length ≥ 4 && zeroAt b 2 2
    run := fun b s =>
      let i := fld b 0 2
      if i > 4095 then refuse stMalformed s
      else match s.port i with
        | none => refuse stDenied s
        | some p =>
          if pDir p.conf ≠ 1 || pSource p.conf ≠ 1 then refuse stDenied s
          else if b.length ≠ 4 + pSize p.conf then refuse stMalformed s
          else ans stOk [] (s.commitPort i 1 s.net 0 (b.drop 4)) }

/-- MB_PORT_WRITE from the host. -/
def execMbPortWrite (dt : Nat) (r : Req) (s : State) : Out :=
  go ((s.elapse dt).submit cmdPortWrite r)

/-- MB_PD_RING (R199): the record has 16 bytes; the last two are reserved. -/
def cmdPdRing : Cmd :=
  { op := 0x0303
    shape := fun b => cfgOpts b false && cfgLen b 4 16 &&
      (bit (fld b 0 4) 1 || (zeroAt b 18 2 && fld b 16 1 < 2))
    run := fun b s =>
      if !s.pcie then refuse stDenied s
      else if bit (fld b 0 4) 1 then ans stOk s.pd.ring s
      else
        let c := b.drop 4
        let n := fld c 8 2
        let e := fld c 10 2
        let okN := n = 64 || n = 128 || n = 256 || n = 512 || n = 1024 || n = 2048 || n = 4096
        let okE := e = 256 || e = 512 || e = 1024 || e = 2048
        if fld c 0 8 % 64 ≠ 0 || !okN || !okE then refuse stMalformed s
        else
          let on := bit (fld c 12 1) 0 && !bit (fld s.pd.ring 12 1) 0
          ans stOk c { s with pd := { s.pd with
            ring := c, ringIx := if on then 0 else s.pd.ringIx } } }

/-- MB_PD_RING from the host. -/
def execMbPdRing (dt : Nat) (r : Req) (s : State) : Out := go ((s.elapse dt).submit cmdPdRing r)

/-- A write of HIF_PORT_WINDOW with PIN 1 (R198): any earlier pin is released and LATEST of PORT
becomes the HELD slot; READY follows. -/
def State.pinPort (s : State) (port : BitVec 12) : State :=
  match s.port port.toNat with
  | none => { s with pd := { s.pd with
      pin := none, winPin := true, winReady := false, winStatus := 1, winPort := port } }
  | some p => { s with pd := { s.pd with
      pin := some { port := port.toNat, slot := p.latest }, winPin := true, winReady := false
      winStatus := 0, winPort := port } }

/-- A write of HIF_PORT_WINDOW with PIN 0. -/
def State.unpin (s : State) : State :=
  { s with pd := { s.pd with pin := none, winPin := false, winReady := false, winStatus := 0 } }

/-- PORT as a write of the register leaves it. -/
def State.setWinPort (s : State) (port : BitVec 12) : State :=
  { s with pd := { s.pd with winPort := port } }

/-- PORT_WINDOW_PIN. -/
def execPortWindowPin (dt : Nat) (port : BitVec 12) (s : State) : Out :=
  let s := s.elapse dt
  go (s.when s.awake (·.pinPort port))

/-- PORT_WINDOW_RELEASE. -/
def execPortWindowRelease (dt : Nat) (s : State) : Out :=
  let s := s.elapse dt
  go (s.when s.awake State.unpin)

/-- PORT_WINDOW_READY: the pinned slot becomes readable. -/
def execPortWindowReady (dt : Nat) (s : State) : Out :=
  let s := s.elapse dt
  go (if s.pd.pin.isSome then { s with pd := { s.pd with winReady := true } } else s)

/-- HIF_PORT_WINDOW as it reads (R197). -/
def State.winReg (s : State) : Nat :=
  bnat s.pd.winPin * 2 ^ 31 + bnat s.pd.winReady * 2 ^ 30 + s.pd.winStatus * 2 ^ 28 +
    s.pd.winPort.toNat

/-- A byte of the port aperture (R198). -/
def State.aperture (s : State) (o : Nat) : Byte :=
  match s.pd.pin with
  | some q =>
    if !s.pd.winReady then 0
    else match s.port q.port with
      | some p => (p.header (p.slot q.slot) ++ (p.slot q.slot).data).getD o 0
      | none => 0
  | none => 0

/-- At an activation a port whose record is unchanged keeps everything; a new or changed one starts
afresh; a pin on a changed or removed one is released with STATUS 0b10 (R206). -/
def State.portsActivate (s : State) (recs : List (List Byte)) : State :=
  let now := s.now
  let news := recs.foldl (fun t c =>
      let i := fld c 0 2
      Tab.set none t i (match s.port i with
        | some p => if p.conf = c then some p else some (newPort c now)
        | none => some (newPort c now))) ([] : Tab (Option PdPort))
  let kept : Nat → Bool := fun i => match s.port i, Tab.get none news i with
    | some p, some p' => decide (p.conf = p'.conf)
    | _, _ => false
  let lost : Bool := match s.pd.pin with
    | some q => !kept q.port
    | none => false
  let s := s.keepSnaps kept
  { s with pd := { s.pd with
      ports := news
      pin := if lost then none else s.pd.pin
      winPin := s.pd.winPin && !lost
      winReady := s.pd.winReady && !lost
      winStatus := if lost then 2 else s.pd.winStatus } }

end Sys2Proof.Machine
end

