-- ==== Sys2Proof/Machine/Fabric.lean ====
section
/-! DEFINITION. The fabric (chapter 4): cullet pools, stored frames, the ledger and its placement,
policers, egress queues, gates and choice, MACsec's packet numbers. -/

namespace Sys2Proof.Machine

/-! ### Cullet pools (R147, R148) -/

/-- Blocks of a frame of MAC length `m`. -/
def blocksOf (m : Nat) : Nat := ceilDiv m 256

/-- The quota of a pool: 0 control, 1 scheduled, 2 best-effort. -/
def State.quota (s : State) (pool : Nat) : Nat :=
  if pool = 0 then 1024 else if pool = 1 then s.fab.schedBuf * 4 else 31744 - s.fab.schedBuf * 4

/-- The blocks a pool has given out. -/
def State.used (s : State) (pool : Nat) : Nat :=
  ((s.fab.frames.filter fun f => f.pool = pool).map fun f => blocksOf f.len).sum

/-- The free blocks of a pool. -/
def State.free (s : State) (pool : Nat) : Nat := s.quota pool - s.used pool

/-- The stored frame of a number. -/
def State.frame (s : State) (id : Nat) : Option Frame := s.fab.frames.find? fun f => f.id = id

/-- A frame is stored; its blocks come from its pool, whose lowest level is kept. -/
def State.store (s : State) (f : Frame) : State :=
  let s := { s with fab := { s.fab with
    frames := s.fab.frames ++ [{ f with id := s.fab.nextId }], nextId := s.fab.nextId + 1 } }
  s.lowest (tlFab (4 + f.pool)) (s.free f.pool)

/-- Whether any copy, transmission or ring still needs a frame. -/
def State.needed (s : State) (id : Nat) : Bool :=
  s.fab.copies.any (fun c => c.frame = id) ||
    s.fab.tx.any (fun x => match x.2 with | some t => t.frame = id | none => false) ||
    s.ports.rx.any (fun x => x.2.cur = some id)

/-- The blocks of frames that nothing needs return to their pools (R147). -/
def State.freeFrames (s : State) : State :=
  { s with fab := { s.fab with frames := s.fab.frames.filter fun f => s.needed f.id } }

/-! ### Ports as the fabric sees them -/

/-- A frame port's state. -/
def State.mac (s : State) (p : Nat) : Port := Tab.get port0 s.ports.tab p
/-- Writing a frame port. -/
def State.setMac (s : State) (p : Nat) (x : Port) : State :=
  { s with ports := { s.ports with tab := Tab.set port0 s.ports.tab p x } }
/-- MAXLEN of a port (R93). -/
def Port.maxLen (x : Port) : Nat := fld x.conf 2 2

/-- A new record at local time `t`; the records of the last 10 ms, longer than any frame lasts, still
judge the frames whose first byte came under them (R95). -/
def Port.reconf (x : Port) (t : Nat) (c : List Byte) : Port :=
  { x with conf := c, past := (x.past.filter fun e => t < e.1 + 10000000) ++ [(t, x.conf)] }

/-- The record in force at local time `t`, not later than now. -/
def Port.confAt (x : Port) (t : Nat) : List Byte :=
  match x.past.find? fun e => t < e.1 with
  | some e => e.2
  | none => x.conf
/-- The secure channels of a link. -/
def State.sa (s : State) (l : Nat) : Sa := Tab.get sa0 s.fab.sa l
/-- Writing them. -/
def State.setSa (s : State) (l : Nat) (x : Sa) : State :=
  { s with fab := { s.fab with sa := Tab.set sa0 s.fab.sa l x } }
/-- A link's keying state. -/
def State.key (s : State) (l : Nat) : KeyLink := Tab.get keyLink0 s.sec.links l
/-- Writing it. -/
def State.setKey (s : State) (l : Nat) (x : KeyLink) : State :=
  { s with sec := { s.sec with links := Tab.set keyLink0 s.sec.links l x } }

/-- Whether a link counts as secured (R122, R497). -/
def State.secured (s : State) (p : Nat) : Bool :=
  (s.sa p).secured || ((s.key p).isOpen && (s.mac p).up)

/-- Whether the role keeps the device from acting outside itself (R397, R398). -/
def State.quiet (s : State) : Bool := s.twin.role == .standby || s.twin.role == .orphaned

/-- Whether a port is open: a parison is active, its link is secured, its opening boundary has come
(R122, R236), and the role does not close it (R398). Port 24 and the teller have no link. -/
def State.portOpen (s : State) (p : Nat) : Bool :=
  p ≥ 24 || (s.gaf.active && s.secured p && (s.mac p).up &&
    !(s.inaug.opening.any fun x => x.1 = p && s.net < x.2) && !(4 ≤ p && s.quiet))

/-- The manifest of the parison in force. -/
def State.manifest (s : State) : List Byte := match s.par.force with | some p => p.manifest | none => []

/-- QUEUE_KIB of a queue (R58). -/
def State.queueKib (s : State) (p q : Nat) : Nat :=
  if p ≥ 24 then 0 else fld s.manifest (64 + 16 * p + 4 + q) 1

/-- Whether window gates are relaxed: OVERCOUNT or UNNUMBERED (R234). -/
def State.relaxed (s : State) : Bool := s.inaug.overcount || s.inaug.numbered.isNone

/-- The time lists of the parison in force. -/
def State.timeActs (s : State) : List Act :=
  match s.par.force with | some p => p.timeA ++ p.timeB ++ p.timeS | none => []

/-- The queues of a port named by gate actions with WINDOW. -/
def State.windowMask (s : State) (p : Nat) : Nat :=
  (s.timeActs.filter fun a => a.window && (a.op = 1 || a.op = 2) && a.tgt = p).foldl
    (fun m a => m ||| (a.opnd % 256)) 0

/-- Whether a queue is treated as scheduled (R149, R234). -/
def State.scheduled (s : State) (p q : Nat) : Bool :=
  s.queueKib p q ≠ 0 && !(s.relaxed && bit (s.windowMask p) q)

/-- The open gates of a port, window gates held open while relaxed. -/
def State.gateMask (s : State) (p : Nat) : Nat :=
  let m := Tab.get 0 s.fab.gates p
  if s.relaxed && s.gaf.active then m ||| s.windowMask p else m

/-- The copies of a queue, oldest first. -/
def State.queueOf (s : State) (p q : Nat) : List Copy :=
  s.fab.copies.filter fun c => c.port = p && c.queue = q

/-- A queue's occupancy in blocks (R149). -/
def State.occupancy (s : State) (p q : Nat) : Nat := ((s.queueOf p q).map (·.blocks)).sum

/-! ### Ledger (R133 to R141) -/

/-- The key of an entry, bits 125:53. -/
def entryKey (e : Nat) : Nat := bits e 125 53
/-- The entry without GEN. -/
def entryBody (e : Nat) : Nat := e % 2 ^ 126
/-- GEN. -/
def entryGen (e : Nat) : Nat := e / 2 ^ 126 % 4
/-- The initial CRC value of a way (R138). -/
def wayInit (w : Nat) : BitVec 32 :=
  if w = 0 then 0xFFFFFFFF else if w = 1 then 0x13579BDF else if w = 2 then 0x2468ACE0
  else 0x0F1E2D3C
/-- The bucket of a key in a way. -/
def bucketOf (w key : Nat) : Nat := (crc32cFrom (wayInit w) (le 10 key)).toNat % 4096
/-- The slot number of a way and bucket. -/
def slotNo (w key : Nat) : Nat := 4096 * w + bucketOf w key

/-- The slot that holds a key live in a generation, unless its word failed (R135, R141). -/
def Ledger.find (l : Ledger) (gen key : Nat) : Option Nat :=
  ((List.range 4).map fun w => slotNo w key).find? fun n =>
    let e := Tab.get 0 l.slots n
    bit (entryGen e) gen && entryKey e = key && !l.bad.contains n

/-- The first way from `w` whose slot for a key is not fixed; `fixed` says which entries are. -/
def freeWay (slots : Tab Nat) (fixed : Nat → Bool) (key : Nat) : Nat → Nat → Option Nat
  | 0, _ => none
  | n + 1, w =>
    if fixed (Tab.get 0 slots (slotNo w key)) then freeWay slots fixed key n ((w + 1) % 4) else some w

/-- A free slot for a key, lowest way first. -/
def emptySlot (slots : Tab Nat) (key : Nat) : Option Nat :=
  ((List.range 4).map fun w => slotNo w key).find? fun n => entryGen (Tab.get 0 slots n) = 0

/-- The displacement walk of R139: `moving` swaps with occupants until one of them finds a free
slot. -/
def placeWalk (fixed : Nat → Bool) : Nat → Tab Nat → Nat → Nat → Option (Tab Nat)
  | 0, _, _, _ => none
  | n + 1, slots, moving, w =>
    match freeWay slots fixed (entryKey moving) 4 w with
    | none => none
    | some w' =>
      let k := slotNo w' (entryKey moving)
      let out := Tab.get 0 slots k
      let slots := Tab.set 0 slots k moving
      match emptySlot slots (entryKey out) with
      | some j => some (Tab.set 0 slots j out)
      | none => placeWalk fixed n slots out ((w' + 1) % 4)

/-- Placing one entry whose GEN is set. -/
def placeEntry (fixed : Nat → Bool) (slots : Tab Nat) (e : Nat) : Option (Tab Nat) :=
  match emptySlot slots (entryKey e) with
  | some k => some (Tab.set 0 slots k e)
  | none => placeWalk fixed 128 slots e 0

/-- Placing a preload in order, in generation `gen`; `live` is the generation of fixed entries, if
there are any. -/
def placeAll (gen : Nat) (live : Option Nat) : List Nat → Tab Nat → Option (Tab Nat)
  | [], slots => some slots
  | e :: l, slots =>
    let body := entryBody e
    let same := match live with
      | some g => ((List.range 4).map fun w => slotNo w (entryKey e)).find? fun n =>
          let x := Tab.get 0 slots n
          bit (entryGen x) g && entryBody x = body
      | none => none
    match same with
    | some n =>
      let x := Tab.get 0 slots n
      placeAll gen live l (Tab.set 0 slots n (entryBody x + (entryGen x ||| 2 ^ gen) * 2 ^ 126))
    | none =>
      let fixed := fun x => match live with | some g => bit (entryGen x) g | none => false
      match placeEntry fixed slots (body + 2 ^ gen * 2 ^ 126) with
      | some slots => placeAll gen live l slots
      | none => none

/-- Clearing a generation's bit from every entry (R137). -/
def clearGen (gen : Nat) (slots : Tab Nat) : Tab Nat :=
  slots.filterMap fun x =>
    let g := if bit (entryGen x.2) gen then entryGen x.2 - 2 ^ gen else entryGen x.2
    if g = 0 then none else some (x.1, entryBody x.2 + g * 2 ^ 126)

/-- The preload entries of a parison as numbers. -/
def Par.entries (p : Par) : List Nat := p.ledger.map ofLe

/-! ### Policers (R144 to R146) -/

/-- The bucket of policer `n` filled up to now: levels in 2^-32 of a bit, at RATE kbit/s. -/
def State.fill (s : State) (n : Nat) (rec_ : List Byte) : Nat :=
  let full := fld rec_ 4 4 * 8 * 2 ^ 32
  match s.fab.buckets.find? fun x => x.1 = n with
  | some (_, b) => min full (b.level + (s.now - b.at_) * fld rec_ 0 4 * 2 ^ 32 / 1000000)
  | none => full

/-- Judging a frame of MAC length `m`: whether it passes, and the state after. -/
def State.police (s : State) (n m : Nat) : Bool × State :=
  match s.par.force with
  | none => (true, s)
  | some p =>
    let r := p.policers.getD n []
    let lvl := s.fill n r
    let need := m * 8 * 2 ^ 32
    let put := fun l => { s with fab := { s.fab with
      buckets := Tab.set { level := 0, at_ := 0 } s.fab.buckets n { level := l, at_ := s.now } } }
    if fld r 0 4 ≠ 0 ∧ need ≤ lvl then (true, (put (lvl - need)).count (tlPol n 0))
    else if fld r 8 1 = 0 ∨ fld r 0 4 = 0 then (false, (put lvl).count (tlPol n 1))
    else (true, (put lvl).count (tlPol n 2))

/-! ### Next scheduled opening (R157) -/

/-- The number of a parison's round in ns. -/
def Par.round (p : Par) : Nat := p.timeN * 125000

/-- The position P used for relocation (R62, R234). -/
def State.boundP (s : State) : Nat :=
  match s.par.force, s.inaug.numbered with
  | some p, some n => if s.inaug.overcount then min n.p (p.maxNodes - 1) else n.p
  | _, _ => 0

/-- The effective offset of a time-strand entry under a parison, at a position (R62). -/
def Par.eff (p : Par) (pos : Nat) (a : Act) : Nat :=
  if a.rclass = 0 then a.off
  else match p.reloc.find? fun r => r.cls = a.rclass with
    | some r => a.off + r.base + r.stride * pos
    | none => a.off

/-- The next instant at or after network time `t` at which offset `o` recurs in rounds of length
`l`. -/
def nextAt (t l o : Nat) : Nat :=
  if l = 0 then t else
    let b := t / l * l + o
    if b ≥ t then b else b + l

/-- A time list's actions: 0 A, 1 B, 2 spine. -/
def Par.timeList (f : Par) (l : Nat) : List Act :=
  if l = 0 then f.timeA else if l = 1 then f.timeB else f.timeS

/-- The scheduled queues of a port under a parison, as a mask, while its windows are relaxed or not
(R149, R234). -/
def Par.schedMask (f : Par) (relaxed : Bool) (p : Nat) : Nat :=
  let win := (((f.timeA ++ f.timeB ++ f.timeS).filter fun a =>
    a.window && (a.op = 1 || a.op = 2) && a.tgt = p).foldl (fun m a => m ||| a.opnd % 256) 0)
  (List.range 8).foldl (fun m q =>
    if fld f.manifest (64 + 16 * p + 4 + q) 1 ≠ 0 && !(relaxed && bit win q) then m + 2 ^ q else m) 0

/-- The first openings of a port's scheduled queues that a parison's lists give from network time `t`
on, before `till`, for a node so numbered. -/
def Par.openings (f : Par) (n : Option Numbering) (live : Nat → Bool) (p t : Nat)
    (till : Option Nat) : List Nat :=
  let past := match n with | some n => decide (f.maxNodes < n.n) | none => false
  let pos := match n with | some n => (if past then min n.p (f.maxNodes - 1) else n.p) | none => 0
  let relaxed := past || n.isNone
  let mask := f.schedMask relaxed p
  let l := ((List.range 3).filter live).flatMap fun k => ((f.timeList k).filter fun a =>
    a.op = 1 && a.tgt = p && (a.opnd &&& mask) != 0 && !(relaxed && a.window)).map
      fun a => nextAt t f.round (f.eff pos a)
  match till with
  | some b => l.filter (· < b)
  | none => l

/-- Whether a gaffer issues a time list: its domain is present, and a takeover has reached its
boundary. -/
def State.timeLive (s : State) (l : Nat) : Bool :=
  if l < 2 then s.live l else s.live s.gaf.spineT.gaf && s.gaf.spineT.wait.isNone

/-- The earlier of two instants that may not come. -/
def earlier : Option Nat → Option Nat → Option Nat
  | some a, some b => some (min a b)
  | some a, none => some a
  | none, b => b

/-- The openings of the lists: of the parison in force up to a pending activation, under the present
numbering up to a pending rebinding; from there on of the committed parison, under the new numbering. -/
def State.listOpenings (s : State) (p : Nat) : List Nat :=
  let t0 := max s.net (s.gaf.paused.getD s.gaf.startNet)
  let b := s.inaug.pending.map (·.1)
  let new := s.inaug.pending.map (·.2)
  let tAct := if s.par.committed.isSome then s.par.activ.map (·.net) else none
  let old := match s.par.force with
    | some f =>
      f.openings s.inaug.numbered s.timeLive p t0 (earlier b tAct) ++
        (match b with | some x => f.openings new s.timeLive p (max t0 x) tAct | none => [])
    | none => []
  let some_ := fun (l : Nat) => if l < 2 then s.live l else s.live 0 || s.live 1
  match tAct, s.par.committed with
  | some x, some f =>
    if s.par.cold then old
    else match b with
      | some y =>
        old ++ (if y ≤ x then f.openings new some_ p x none
          else f.openings s.inaug.numbered some_ p x (some y) ++ f.openings new some_ p y none)
      | none => old ++ f.openings s.inaug.numbered some_ p x none
  | _, _ => old

/-- The next OPEN_GATE that names a scheduled queue of the port, in network ns; a departure instant
of a time message counts as one (R249). -/
def State.nextOpening (s : State) (p : Nat) : Option Nat :=
  let sched := (List.range 8).foldl (fun m q => if s.scheduled p q then m + 2 ^ q else m) 0
  let acts := if s.gaf.active then s.listOpenings p else []
  let offs := (s.par.oneOffs.filter fun o =>
    o.act.op = 1 && o.act.tgt = p && (o.act.opnd &&& sched) != 0 && o.net > s.net).map (·.net)
  let deps := ((Tab.get tport0 s.time.ports p).dep.map fun d => d.2.1).filter (· > s.net)
  (acts ++ offs ++ deps).foldl (fun m t => some (match m with | some x => min x t | none => t)) none

/-! ### Admission (R149 to R152) -/

/-- CONTRACT_BREACH (R87). -/
def State.breach (s : State) (kind unit index : Nat) : State :=
  s.note (ev 2 4) (le 1 kind ++ le 1 unit ++ le 4 index)

/-- Whether a queue would admit a copy of some blocks. -/
def State.admits (s : State) (p q blocks : Nat) : Bool :=
  if s.scheduled p q then s.occupancy p q + blocks ≤ s.queueKib p q * 4
  else s.occupancy p q < s.free 2

/-- One copy of a frame for an egress queue; `gate` is the entry's GATE bit, `built` says that the
device built the frame (R110). -/
def State.enqueue (s : State) (p q : Nat) (f : Frame) (gate built : Bool) : State :=
  let b := blocksOf f.len
  if p = 24 then
    if !s.pcie then s.count (tlHost hNohif)
    else if gate && !bit (s.gateMask p) q then s.count (tlPort p mGateDrop)
    else if !s.admits p q b then s.count (tlPort p mQdropBest)
    else
      let s := { s with fab := { s.fab with
        copies := s.fab.copies ++ [(⟨p, q, f.id, b⟩ : Copy)] } }
      s.peak (tlPort p (mQPeak + q)) (s.occupancy p q)
  else if s.absentUnit p || !s.portOpen p then s.count (tlPort p mTxFlush)
  else if !built && f.len > (s.mac p).maxLen then s.count (tlPort p mTxOversize)
  else if gate && !bit (s.gateMask p) q then s.count (tlPort p mGateDrop)
  else if !s.admits p q b then
    if s.scheduled p q then (s.count (tlPort p mQdropSched)).breach 0 p q
    else s.count (tlPort p mQdropBest)
  else
    let s := { s with fab := { s.fab with
      copies := s.fab.copies ++ [(⟨p, q, f.id, b⟩ : Copy)] } }
    s.peak (tlPort p (mQPeak + q)) (s.occupancy p q)

/-- A copy for the teller's queue of 256 frames, from the control pool (R153). -/
def State.toTeller (s : State) (f : Frame) : State :=
  let n := (s.fab.copies.filter fun c => c.port = 25).length
  if !s.tellerUp || n ≥ 256 || s.free 0 < blocksOf f.len then s.count (tlFab 7)
  else
    let id := s.fab.nextId
    let s := s.store { f with pool := 0 }
    { s with fab := { s.fab with
      copies := s.fab.copies ++ [(⟨25, 0, id, blocksOf f.len⟩ : Copy)] } }

/-! ### Egress choice (R155, R157, R160) -/

/-- Tenths of a nanosecond for each byte on a line. -/
def byteTime (mbps : Nat) : Nat := if mbps = 0 then 80 else 80000 / mbps

/-- Bytes on the wire of a frame of MAC length `m`: with SecTAG and ICV on a keyed link. -/
def State.wire (s : State) (p m : Nat) : Nat := if (s.sa p).secured then m + 32 else m

/-- The line occupancy of a frame in tenths of ns: preamble, SFD, frame and gap. -/
def State.lineTime (s : State) (p m : Nat) : Nat :=
  (8 + s.wire p m + 12) * byteTime (s.mac p).mbps

/-- Whether a best-effort head frame can start (R157). -/
def State.canStart (s : State) (p : Nat) (c : Copy) : Bool :=
  match s.frame c.frame with
  | none => false
  | some f =>
    !((List.range 8).any fun q => s.scheduled p q && bit (s.gateMask p) q) &&
      (match s.nextOpening p with
       | some t => s.net * 10 + s.lineTime p f.len ≤ t * 10
       | none => true)

/-- The highest eligible queue's head copy (R155). -/
def State.eligible (s : State) (p : Nat) : Option Copy :=
  ((List.range 8).reverse.filterMap fun q =>
    match (s.queueOf p q).head? with
    | some c =>
      if bit (s.gateMask p) q && (s.scheduled p q || s.canStart p c) then some c else none
    | none => none).head?

/-- Removing a copy, the first equal one. -/
def dropCopy (c : Copy) : List Copy → List Copy
  | [] => []
  | d :: l => if d = c then l else d :: dropCopy c l

/-- Removing a copy from its queue. -/
def State.take (s : State) (c : Copy) : State :=
  { s with fab := { s.fab with copies := dropCopy c s.fab.copies } }

/-! ### The next association (R160, R496) -/

/-- A text as bytes. -/
def ascii (t : String) : List Byte := t.toList.map fun c => BitVec.ofNat 8 c.toNat

/-- A key of a link (R494). -/
def KeyLink.key (x : KeyLink) (info : String) : List Byte := Config.hkdf x.ikm x.salt (ascii info)

/-- A keying message leaves on a link: type and body (R493). -/
def State.keySend (s : State) (l ty : Nat) (session : U32) (body : List Byte) : State :=
  s.send (.msg l (ev 15 ty) (le 4 session.toNat ++ body))

/-- The body of NEXT and NEXT_ACK (R494). -/
def nextBody (x : KeyLink) (k an : Nat) : List Byte :=
  let h := le 4 k ++ le 1 an ++ zeros 3
  h ++ Config.hmac (x.key "ZN CONFIRM") h

/-- The vault sends NEXT with the next k and association number. -/
def State.sendNext (s : State) (p : Nat) : State :=
  let x := s.key p
  let body := nextBody x x.nextK (((s.sa p).txAn + 1) % 4)
  let s := s.setKey p { x with
    lastType := 5, lastBody := body, repeats := 0, due := some (s.now + 200000000) }
  s.keySend p 5 x.session body

/-- A port with a free line makes its choice and starts the frame. Frames that a FRAME_DROP seed
hits are discarded when chosen (R563); `n` bounds how many. -/
def State.choose (s : State) (p : Nat) : Nat → State
  | 0 => s
  | n + 1 =>
    if p ≥ 24 || (Tab.get none s.fab.tx p).isSome || !(s.mac p).up || s.absentUnit p ||
        s.now < Tab.get 0 s.seeds.holdUntil p then s
    else match s.eligible p with
      | none => s
      | some c =>
        let x := s.sa p
        if x.secured && x.txPn ≥ 0xFFFFFFFF then
          if x.held then s else (s.setSa p { x with held := true }).count (tlPort p mSecPnExhaust)
        else
          let r := s.injects 5 fun k =>
            bit (fld k 0 4) p && fld k 4 1 = 1 && bit (fld k 5 1) c.queue
          let s := r.2.take c
          if r.1 then (s.freeFrames).choose p n
          else match s.frame c.frame with
            | none => s
            | some f =>
              let sched := s.scheduled p c.queue
              let now : TxNow := ⟨f.id, c.queue, sched, s.now * 10 + s.lineTime p f.len⟩
              let s := { s with fab := { s.fab with tx := Tab.set none s.fab.tx p (some now) } }
              if !x.secured then s
              else
                let pn := x.txPn + 1
                let s := s.setSa p { x with
                  txPn := pn, held := false, asked := x.asked || pn ≥ 0xC0000000 }
                if pn ≥ 0xC0000000 && !x.asked then
                  (s.note (ev 4 1) (le 1 p ++ le 1 x.txAn)).sendNext p
                else s

/-! ### Frame host rings as egress of port 24 (R112 to R117, R121) -/

/-- The ring record of host ring `r`: 0 to 7 HRX, 8 to 15 HTX (R113). -/
def State.ringRec (s : State) (r : Nat) : List Byte := slice s.ports.ringConf (32 * r) 32
/-- COUNT of a ring record. -/
def rgCount (c : List Byte) : Nat := fld c 8 2
/-- BUF_SIZE of a ring record. -/
def rgBuf (c : List Byte) : Nat := fld c 10 2
/-- ENABLE of a ring record. -/
def rgOn (c : List Byte) : Bool := bit (fld c 12 1) 0
/-- POLL in ns. -/
def rgPoll (c : List Byte) : Nat := fld c 13 1 * 1000
/-- HOLDOFF in ns. -/
def rgHold (c : List Byte) : Nat := fld c 14 1 * 1000
/-- A receive ring. -/
def State.hrx (s : State) (q : Nat) : RxRing := Tab.get rxRing0 s.ports.rx q
/-- Writing it. -/
def State.setHrx (s : State) (q : Nat) (x : RxRing) : State :=
  { s with ports := { s.ports with rx := Tab.set rxRing0 s.ports.rx q x } }
/-- A transmit ring. -/
def State.htx (s : State) (q : Nat) : TxRing := Tab.get txRing0 s.ports.tx q
/-- Writing it. -/
def State.setHtx (s : State) (q : Nat) (x : TxRing) : State :=
  { s with ports := { s.ports with tx := Tab.set txRing0 s.ports.tx q x } }

/-- Bytes delivered to the host for a frame: without FCS. -/
def Frame.toHost (f : Frame) : List Byte := f.bytes
/-- Buffers that a frame needs in a ring. -/
def State.buffers (s : State) (q : Nat) (f : Frame) : Nat :=
  max 1 (ceilDiv f.bytes.length (rgBuf (s.ringRec q)))

/-- How many leading cached descriptors the device owns. -/
def ownRun : List RxDesc → Nat
  | d :: l => if d.own then ownRun l + 1 else 0
  | [] => 0

/-- Dropping the head copy of a host queue with a tally. -/
def State.dropHost (s : State) (q tally : Nat) : State :=
  match (s.queueOf 24 q).head? with
  | some c => ((s.take c).count (tlHost tally)).freeFrames
  | none => s

/-- A ring begins or goes on with the frame at the head of its queue: it fills the descriptors it
knows to be its own. `justRead` says that the cached descriptors were read just now, so that a
host-owned one drops the frame (R117). -/
def State.hrxPump (s : State) (q : Nat) (justRead : Bool) : Nat → State
  | 0 => s
  | n + 1 =>
    match (s.queueOf 24 q).head? with
    | none => s
    | some c =>
      if !rgOn (s.ringRec q) then
        if bit (s.gateMask 24) q then (s.dropHost q (hHrxFull q)).hrxPump q justRead n else s
      else match s.frame c.frame with
        | none => (s.take c).hrxPump q justRead n
        | some f =>
          let x := s.hrx q
          if x.cur.isNone && (!bit (s.gateMask 24) q || s.now < Tab.get 0 s.seeds.holdUntil 24) then s
          else
            let need := s.buffers q f
            let own := ownRun x.cached
            if need ≤ own then s.setHrx q { x with cur := some f.id, filled := need }
            else if justRead && own < x.cached.length then
              let s := s.setHrx q { x with cur := none, filled := 0 }
              let full := own = 0
              let s := s.dropHost q (if full then hHrxFull q else hHrxTrunc q)
              (s.noteOnce q (ev 3 3) (le 1 q ++ le 1 (bnat !full))).hrxPump q justRead n
            else s.setHrx q { x with cur := if own = 0 then none else some f.id, filled := own }

/-- Every host queue's ring goes on. -/
def State.hrxAll (s : State) : State :=
  (List.range 8).foldl (fun s q => s.hrxPump q false (s.fab.copies.length + 1)) s

/-- Vector 3 under the hold-off rule of R121; rings 0 to 7 HRX, 8 to 15 HTX. -/
def State.ringVector (s : State) (r : Nat) : State :=
  let hold := rgHold (s.ringRec r)
  let last := if r < 8 then (s.hrx r).lastVec else (s.htx (r - 8)).lastVec
  let due := match last with | some t => decide (t + hold ≤ s.now) | none => true
  let put := fun (s : State) l w =>
    if r < 8 then s.setHrx r { s.hrx r with lastVec := l, vecWait := w }
    else s.setHtx (r - 8) { s.htx (r - 8) with lastVec := l, vecWait := w }
  if due then (put s (some s.now) false).raise 3 else put s last true

/-- The port's choice with a bound that covers every waiting copy; port 24's queues go to the host
rings. -/
def State.egress (s : State) (p : Nat) : State :=
  if p = 24 then s.hrxAll else s.choose p (s.fab.copies.length + 2)

/-- Every port's choice. -/
def State.egressAll (s : State) : State := (List.range 25).foldl State.egress s

/-- Which of unicast, multicast, broadcast a destination address is: 0, 1, 2. -/
def destKind (f : List Byte) : Nat :=
  if (f.take 6).all (· == 0xFF) then 2 else if (f.headD 0).getLsbD 0 then 1 else 0

/-- A frame's transmission ends: the counts of R126, its blocks freed with the last copy (R147), and
the next choice. -/
def State.txEnd (s : State) (p : Nat) : State :=
  match Tab.get none s.fab.tx p with
  | none => s
  | some t =>
    if s.now * 10 < t.endAt then s
    else
      let s' := { s with fab := { s.fab with tx := Tab.set none s.fab.tx p none } }
      match s.frame t.frame with
      | none => s'.egress p
      | some f =>
        let s' := ((s'.count (tlPort p mTxFrames)).countN (tlPort p mTxOctets) (s.wire p f.len)).count
          (tlPort p (mTxUcast + destKind f.bytes))
        let s' := s'.count (tlPort p (if t.sched then mTxSched else mTxBest))
        let s' := if f.host then s'.count (tlPort p mTxHost) else s'
        ((s'.send (.frame p f.bytes)).freeFrames).egress p

/-- The ports whose choice a BACKPRESSURE seed held off until now choose (R563). -/
def State.holdsOver (s : State) : State :=
  let ended := s.seeds.holdUntil.filter fun h => decide (h.2 ≤ s.now)
  let s := { s with seeds := { s.seeds with
    holdUntil := s.seeds.holdUntil.filter fun h => decide (s.now < h.2) } }
  ended.foldl (fun s h => s.egress h.1) s

/-- FRAME_TX_END. -/
def execFrameTxEnd (dt : Nat) (port : Fin 25) (s : State) : Out :=
  go (((s.elapse dt).txEnd port.val).holdsOver)

/-! ### Gates (R154 to R158) -/

/-- Setting a port's gate mask. -/
def State.setGates (s : State) (p m : Nat) : State :=
  { s with fab := { s.fab with gates := Tab.set 0 s.fab.gates p (m % 256) } }

/-- Copies left in a scheduled queue whose gate closes are discarded and counted (R158). -/
def State.sweep (s : State) (p q : Nat) : State :=
  if !s.scheduled p q then s
  else
    let l := s.queueOf p q
    let s := { s with fab := { s.fab with
      copies := s.fab.copies.filter fun c => !(c.port = p && c.queue = q) } }
    (s.countN (tlPort p mWindowMiss) l.length).freeFrames

/-- Opening the gates of a mask. -/
def State.openGates (s : State) (p m : Nat) : State :=
  (s.setGates p (Tab.get 0 s.fab.gates p ||| m)).egress p

/-- Closing the gates of a mask. -/
def State.closeGates (s : State) (p m : Nat) : State :=
  let was := Tab.get 0 s.fab.gates p
  let s := s.setGates p (was - (was &&& m))
  (List.range 8).foldl (fun s q => if bit (was &&& m) q then s.sweep p q else s) s

/-- Every gate closes: a step of time, a cold activation, going down (R40, R84, R319). -/
def State.closeAll (s : State) : State :=
  (List.range 25).foldl (fun s p => s.closeGates p 255) s

/-! ### Flushing a port (R122 to R124) -/

/-- The frame in transmission is cut short and every queued copy discarded, each counted. -/
def State.flush (s : State) (p : Nat) : State :=
  let cut := (Tab.get none s.fab.tx p).isSome
  let n := (s.fab.copies.filter fun c => c.port = p).length
  let s := { s with fab := { s.fab with
    tx := Tab.set none s.fab.tx p none, copies := s.fab.copies.filter fun c => c.port != p } }
  (s.countN (tlPort p mTxFlush) (n + bnat cut)).freeFrames

end Sys2Proof.Machine
end

