-- ==== Sys2Proof/Machine/Frames.lean ====
section
/-! DEFINITION. Frame ports (chapter 3) and the path of a received frame (R130): MAC checks, exempt
frames, MACsec, steering, ledger, policer, enqueue; the host rings; MDIO; MB_MAC_CONFIG and
MB_LEDGER_READ. -/

namespace Sys2Proof.Machine

/-! ### Steering (R105 to R108) -/

/-- What the MAC derives from a frame (R106). -/
structure Heads where
  tagged : Bool
  vid : Nat
  pcp : Nat
  dei : Nat
  etype : Nat

/-- The values of R106 on a port with a record. -/
def headsOf (conf f : List Byte) : Heads :=
  let pvid := fld conf 4 2 % 4096
  if fldBe f 12 2 = 0x8100 then
    let tci := fldBe f 14 2
    let vid := tci % 4096
    { tagged := true, vid := if vid = 0 then pvid else vid, pcp := tci / 8192
      dei := bits tci 12 12, etype := fldBe f 16 2 }
  else { tagged := false, vid := pvid, pcp := fld conf 6 1 % 8, dei := 0, etype := fldBe f 12 2 }

/-- TCI as a receive descriptor gives it. -/
def Heads.tci (h : Heads) : Nat := h.pcp * 8192 + h.dei * 4096 + h.vid

/-- Whether a value matches a field under a mask. -/
def maskEq (v f m : Nat) : Bool := (v ^^^ f) &&& m == 0

/-- Whether a steering rule matches (R107). -/
def ruleHit (r : List Byte) (h : Heads) : Bool :=
  let c := fld r 10 1
  bit c 7 && maskEq h.etype (fld r 0 2) (fld r 2 2) &&
    maskEq h.vid (fld r 4 2 % 4096) (fld r 6 2 % 4096) && maskEq h.pcp (fld r 8 1) (fld r 9 1) &&
    (!bit c 6 || h.tagged == bit c 5)

/-- The ingress class of a frame. -/
def classOf (conf : List Byte) (h : Heads) : Nat :=
  match (chunks 16 32 (slice conf 64 512)).find? fun r => ruleHit r h with
  | some r => fld r 10 1 % 8
  | none => fld conf 7 1 % 8

/-- A class entry. -/
def classRec (conf : List Byte) (c : Nat) : List Byte := slice conf (16 + 4 * c) 4

/-! ### Ledger lookup (R134, R135) -/

/-- The ledger preload header in force. -/
def State.ledHead (s : State) : List Byte :=
  match s.par.force with | some p => p.ledHead | none => []

/-- The EtherType index. -/
def etix (head : List Byte) (e : Nat) : Nat :=
  match (List.range 15).find? fun i => e ≠ 0 && fld head (0x20 + 2 * i) 2 = e with
  | some i => i
  | none => 15

/-- The key bits 125:53 of an entry. -/
def keyOf (kind iset vid pcp ix addr : Nat) : Nat :=
  addr + 2 ^ 48 * (ix + 16 * (pcp + 8 * (vid + 4096 * (iset + 32 * kind))))

/-- Whether a frame has a COMID key (R134). -/
def comIdOf (f : List Byte) (etype : Nat) : Option Nat :=
  let l := f.drop (l3At f)
  if etype = 0x0800 ∧ fld l 0 1 % 16 = 5 ∧ fldBe l 6 2 % 16384 = 0 ∧ fld l 9 1 = 17 ∧
      fldBe l 22 2 = 17224 then some (fldBe l 36 4)
  else none

/-- The entry that a frame hits, by its ingress port. -/
def State.lookup (s : State) (port : Nat) (h : Heads) (f : List Byte) : Option Nat :=
  if s.par.force.isNone then none
  else
    let head := s.ledHead
    let iset := fld head port 1 % 32
    let ix := etix head h.etype
    let find := fun k => (s.fab.ledger.find s.fab.ledger.live k).map fun n =>
      Tab.get 0 s.fab.ledger.slots n
    let mac := keyOf 0 iset h.vid h.pcp ix (fldBe f 0 6)
    match comIdOf f h.etype with
    | some c => (match find (keyOf 1 iset h.vid h.pcp ix c) with
      | some e => some e
      | none => find mac)
    | none => find mac

/-! ### Forwarding (R136, R144, R149) -/

/-- EGRESS of an entry. -/
def entEgress (e : Nat) : Nat := bits e 52 28
/-- QUEUE of an entry. -/
def entQueue (e : Nat) : Nat := bits e 27 25
/-- PV of an entry. -/
def entPv (e : Nat) : Bool := bit e 24
/-- PORT of an entry. -/
def entPort (e : Nat) : Nat := bits e 23 12
/-- PEN of an entry. -/
def entPen (e : Nat) : Bool := bit e 11
/-- POLICER of an entry. -/
def entPolicer (e : Nat) : Nat := bits e 10 2
/-- GATE of an entry. -/
def entGate (e : Nat) : Bool := bit e 1
/-- TELLER of an entry. -/
def entTeller (e : Nat) : Bool := bit e 0

/-- Delivery to the port store (R136, R182). -/
def State.deliver (s : State) (i : Nat) (f : Frame) : State :=
  let conf := match s.port i with | some p => p.conf | none => []
  { s with pd := { s.pd with arriving := s.pd.arriving ++ [(⟨i, f.bytes, f.stamp, conf⟩ : Delivery)] } }

/-- The copies of a frame that hits entry `e`, and its deliveries. -/
def State.forward (s : State) (e : Nat) (f : Frame) : State :=
  if entEgress e = 0 && !entPv e && !entTeller e then s.count (tlFab 2)
  else
    let id := s.fab.nextId
    let f := { f with id := id }
    let s := s.store f
    let outs := (List.range 25).filter fun p => bit (entEgress e) p && p != f.port
    let s := outs.foldl (fun s p => s.enqueue p (entQueue e) f (entGate e) false) s
    let s := if entPv e then s.deliver (entPort e) f else s
    let s := if entTeller e then s.toTeller f else s
    outs.foldl State.egress s.freeFrames

/-- Ledger lookup, policer and enqueue of a frame; `miss` handles a ledger miss. -/
def State.viaLedger (s : State) (h : Heads) (f : Frame) (miss : State → State) : State :=
  match s.lookup f.port h f.bytes with
  | none => miss (s.count (tlFab 1))
  | some e =>
    let s := s.count (tlFab 0)
    if entPen e then
      let r := s.police (entPolicer e) f.len
      if r.1 then r.2.forward e f else r.2
    else s.forward e f

/-- A frame for host receive ring `q` (R112). -/
def State.toHost (s : State) (q : Nat) (f : Frame) : State :=
  let f := { f with id := s.fab.nextId }
  (((s.store f).enqueue 24 q f false false).freeFrames).egress 24

/-! ### MAC receive (R99 to R104, R126) -/

/-- The size bin of a MAC length. -/
def sizeBin (m : Nat) : Nat :=
  if m ≤ 64 then 0 else if m < 128 then 1 else if m < 256 then 2 else if m < 512 then 3
  else if m < 1024 then 4 else if m < 1523 then 5 else 6

/-- The receive tallies of an accepted frame. -/
def State.rxCount (s : State) (p m wire : Nat) (f : List Byte) (tagged : Bool) : State :=
  let s := ((s.count (tlPort p mRxFrames)).countN (tlPort p mRxOctets) wire).count
    (tlPort p (mRxUcast + destKind f))
  let s := if tagged then s.count (tlPort p mRxTagged) else s
  s.count (tlPort p (mRx64 + sizeBin m))

/-- The reserved destination 01-80-C2-00-00-0E. -/
def nearestBridge : Nat := 0x0180C200000E

/-- PROFILE of a port in the time record (R245). -/
def State.profile (s : State) (p : Nat) : Nat := fld s.time.conf (32 + 16 * p) 1

/-- Whether a frame is a time frame by EtherType and destination (R244). -/
def isTime (f : List Byte) : Bool := fldBe f 12 2 = 0x88F7 && fldBe f 0 6 = nearestBridge
/-- Whether a frame is a keying frame (R493). -/
def isKeying (f : List Byte) : Bool := fldBe f 12 2 = 0x88B6 && fldBe f 0 6 = nearestBridge
/-- Whether a frame is a twin beacon (R406). -/
def isBeacon (f : List Byte) : Bool :=
  fldBe f 12 2 = 0x88B5 && fldBe f 0 6 = nearestBridge && fld f 14 1 = 0x5A

/-- Whether a frame is exempt on a port (R109, R212, R244, R493). -/
def State.exempt (s : State) (p : Nat) (f : List Byte) : Bool :=
  (p < 4 && Config.isTtdp f) || (isTime f && s.profile p ≠ 0) || isKeying f

/-- A MACsec failure (R161): its tally, and MACSEC_FAIL at most once per second per port. -/
def State.secFail (s : State) (p kind : Nat) (f : List Byte) : State :=
  (s.count (tlPort p (mSecNotag + kind))).noteOnce p (ev 4 2) (le 1 p ++ le 1 kind ++ slice f 6 6)

/-- MACsec verification on a secured port (R159, R161): none where it passes, else the failure. -/
def secCheck (x : Sa) (f : RxFrame) : Option Nat :=
  match f.tag with
  | none => some 0
  | some t =>
    match x.rx.find? fun a => a.1 = t.an.toNat with
    | none => some 1
    | some (_, last) =>
      if BitVec.ofNat 48 (fldBe f.bytes 6 6) ≠ t.sci then some 1
      else if t.pn.toNat < last then some 2 else if !t.icvOk then some 3 else none

/-- The packet number of an accepted frame is remembered. -/
def Sa.accept (x : Sa) (t : SecTag) : Sa :=
  { x with rx := x.rx.map fun a => if a.1 = t.an.toNat then (a.1, t.pn.toNat + 1) else a }

/-- Steering, ledger and enqueue of an accepted frame (R130 steps 4 to 7). -/
def State.steer (s : State) (h : Heads) (c : List Byte) (f : Frame) : State :=
  let disp := fld c 0 1
  let ring := fld c 1 1 % 8
  if disp = 2 then s.count (tlPort f.port mClassDrop)
  else if disp = 1 then s.toHost ring f
  else s.viaLedger h f fun s =>
    if fld c 2 1 = 1 then s.toHost ring { f with miss := true } else s.count (tlPort f.port mMissDrop)

/-- The receive stamp of a frame that ends now: when its SFD ended, less the port's RX_LAT (R104,
R247). -/
def State.rxStamp (s : State) (p wire : Nat) : Nat :=
  s.net - wire * byteTime (s.mac p).mbps / 10 - fld s.time.conf (32 + 16 * p + 6) 2

/-- The record that judges a frame of wire length `wire` that ends now: the one in force when its first
byte arrived (R95). -/
def State.rxConf (s : State) (p wire : Nat) : List Byte :=
  (s.mac p).confAt (s.now - wire * byteTime (s.mac p).mbps / 10)

/-- A frame after the checks of R99 to R101 that is not exempt. -/
def State.rxOpen (s : State) (p : Nat) (f : RxFrame) (m wire : Nat) : State :=
  let conf := s.rxConf p wire
  let h := headsOf conf f.bytes
  let cls := classOf conf h
  let c := classRec conf cls
  let pool := if fld c 3 1 = 1 then 1 else 2
  let r := s.injects 5 fun k => bit (fld k 0 4) p && fld k 4 1 = 0 && bit (fld k 5 1) cls
  let s := r.2
  if r.1 then s
  else if f.tag.isNone && fldBe f.bytes 12 2 = 0x8808 then s.count (tlPort p mMacctl)
  else if isTime f.bytes && f.tag.isNone then
    (s.rxCount p m wire f.bytes h.tagged).count (tlPort p mTimeUnsup)
  else if !s.portOpen p then s.count (tlPort p mClosed)
  else if s.free pool < blocksOf m then
    let s := s.count (tlPort p mNobuf)
    if pool = 1 then s.breach 0 p 0xFFFFFFFF else s
  else
    let s := s.rxCount p m wire f.bytes h.tagged
    let x := s.sa p
    match (if x.secured then secCheck x f else none) with
    | some k => s.secFail p k f.bytes
    | none =>
      let s := match f.tag with
        | some t => if x.secured then s.setSa p (x.accept t) else s
        | none => s
      if p < 4 && x.secured && isBeacon f.bytes then s
      else s.steer h c
        { id := 0, bytes := f.bytes, len := m, pool := pool, host := false, port := p
          stamp := s.rxStamp p wire, tagged := h.tagged, secured := x.secured, miss := false, tci := h.tci
          cls := cls }

/-- A frame ends at a MAC (R99 to R103). A port without link or domain takes none. -/
def State.rxFrame (s : State) (f : RxFrame) : State :=
  let p := f.port.val
  let x := s.mac p
  let m := f.bytes.length + 4
  let wire := if f.tag.isSome then m + 32 else m
  if !x.up || s.absentUnit p then s
  else if wire < 64 then s.count (tlPort p mRunt)
  else if m > fld (s.rxConf p wire) 2 2 then s.count (tlPort p mOversize)
  else if f.symErr then s.count (tlPort p mSymbol)
  else if !f.fcsOk then s.count (tlPort p mFcs)
  else if f.tag.isNone && s.exempt p f.bytes then
    let r := s.injects 5 fun k => bit (fld k 0 4) p && fld k 4 1 = 0 && bit (fld k 6 1) 0
    if r.1 then r.2
    else r.2.rxCount p m wire f.bytes (headsOf (s.rxConf p wire) f.bytes).tagged
  else s.rxOpen p f m wire

/-- FRAME_RECEIVE. -/
def execFrameReceive (dt : Nat) (f : RxFrame) (s : State) : Out := go ((s.elapse dt).rxFrame f)

/-! ### Host rings -/

/-- HRX_DESCRIPTOR_REREAD: descriptors as read from the ring's next one on (R117). -/
def execHrxDescriptorReread (dt : Nat) (ring : Fin 8) (descs : List RxDesc) (s : State) : Out :=
  let s := s.elapse dt
  let q := ring.val
  let x := s.hrx q
  if !s.pcie || !rgOn (s.ringRec q) then go s
  else go ((s.setHrx q { x with cached := descs.take 16 }).hrxPump q true (s.fab.copies.length + 1))

/-- The descriptors a frame fills, as written back (R115): OWN clear, SOF on the first, EOF on the
last. -/
def rxDescs (size : Nat) (f : Frame) (n : Nat) : List (List Byte) :=
  (List.range n).map fun i =>
    let len := min size (f.bytes.length - size * i)
    let flags := (if i = 0 then 64 else 0) + (if i + 1 = n then 32 else 0) + bnat f.tagged * 16 +
      bnat f.secured * 8 + bnat f.miss * 4
    le 2 len ++ le 1 f.port ++ le 1 flags ++ le 2 f.tci ++ le 1 f.cls ++ [0] ++ secNs f.stamp ++
      le 4 f.bytes.length ++ slice f.bytes (size * i) len

/-- A frame's DMA to a ring ends (R116): its descriptors go back, last to first. -/
def State.hrxDone (s : State) (q : Nat) : State :=
  let s := s.hrxPump q false (s.fab.copies.length + 1)
  let x := s.hrx q
  match x.cur, (s.queueOf 24 q).head? with
  | some id, some c =>
    match s.frame id with
    | none => s
    | some f =>
      let c' := s.ringRec q
      let n := s.buffers q f
      if c.frame ≠ id || x.filled < n then s
      else
        let cnt := max 1 (rgCount c')
        let ds := rxDescs (rgBuf c') f n
        let s := (ds.zip (List.range n)).reverse.foldl
          (fun s d => s.send (.ring q ((x.index + d.2) % cnt) d.1)) s
        let s := s.setHrx q { x with
          index := (x.index + n) % cnt, cached := x.cached.drop n, cur := none, filled := 0 }
        let s := ((s.take c).count (tlHost (hHrxFrames q))).freeFrames
        (s.ringVector q).hrxPump q false (s.fab.copies.length + 1)
  | _, _ => s

/-- HOST_RX_COMPLETE. -/
def execHostRxComplete (dt : Nat) (ring : Fin 8) (s : State) : Out :=
  go ((s.elapse dt).hrxDone ring.val)

/-- A transmit ring hands its descriptors back with DONE on the last (R120). -/
def State.htxDone (s : State) (q n done tally : Nat) : State :=
  let x := s.htx q
  let cnt := max 1 (rgCount (s.ringRec (8 + q)))
  let s := s.send (.ring (8 + q) ((x.index + n - 1) % cnt) [BitVec.ofNat 8 done])
  let s := s.setHtx q { x with
    index := (x.index + n) % cnt, descs := [], fetching := false, paused := none }
  (s.count (tlHost (hHtx q tally))).ringVector (8 + q)

/-- The descriptors of the next frame: up to EOF, at most 16. -/
def frameDescs : Nat → List TxDesc → List TxDesc
  | 0, _ => []
  | _ + 1, [] => []
  | n + 1, d :: l => if d.eof then [d] else d :: frameDescs n l

/-- Bytes of a frame's descriptors. -/
def descBytes (ds : List TxDesc) : Nat := (ds.map fun d => d.len.toNat).sum

/-- Whether a frame's descriptors are malformed (R120). -/
def badDescs (ds : List TxDesc) : Bool :=
  !(ds.any (·.eof)) || ds.any (fun d => d.len == 0 || !d.rsvZero) || descBytes ds < 14 ||
    descBytes ds > 9212 || ds.head?.all fun d => !d.sof || (!d.ledger && d.port.toNat > 23)

/-- A transmit ring is read (R119 to R121). -/
def State.htxRead (s : State) (q : Nat) (descs : List TxDesc) : State :=
  let x := s.htx q
  let again := s.setHtx q { x with pollAt := s.now + rgPoll (s.ringRec (8 + q)) }
  if x.fetching || x.paused.isSome || s.now < x.pollAt then s
  else
    let ds := frameDescs 16 descs
    match ds with
    | [] => again
    | d :: _ =>
      if ds.any (fun d => !d.own) then again
      else if !(ds.any (·.eof)) && ds.length < 16 then again
      else if badDescs ds then s.htxDone q ds.length 1 1
      else if !d.ledger && (!s.hasDom (portDomain d.port.toNat) ||
          fld (s.mac d.port.toNat).conf 0 1 = 0 || s.absentUnit d.port.toNat) then
        s.htxDone q ds.length 3 3
      else if s.free 2 < 256 then again
      else s.setHtx q { x with descs := ds, fetching := true }

/-- HOST_TX_POLL. -/
def execHostTxPoll (dt : Nat) (ring : Fin 8) (descs : List TxDesc) (s : State) : Out :=
  let s := s.elapse dt
  if !s.pcie || !rgOn (s.ringRec (8 + ring.val)) then go s else go (s.htxRead ring.val descs)

/-- A fetched frame is taken into the packet buffer (R119, R120), unless its queue makes it wait
(R150). -/
def State.htxTake (s : State) (q : Nat) (data : List Byte) : State :=
  let x := s.htx q
  match x.descs.head? with
  | none => s
  | some d =>
    let pad := data.length < 60
    let bytes := if pad then padTo 0 60 data else data
    let h := headsOf portConf0 bytes
    let m := bytes.length + 4
    let f : Frame :=
      { id := s.fab.nextId, bytes := bytes, len := m, pool := 2, host := true, port := 24
        stamp := s.net, tagged := h.tagged, secured := false, miss := false, tci := h.tci, cls := 0 }
    let p := d.port.toNat
    let e := d.queue.toNat % 8
    if s.free 2 < blocksOf m then s.htxDone q x.descs.length 2 2
    else if !d.ledger && (s.absentUnit p || fld (s.mac p).conf 0 1 = 0) then
      s.htxDone q x.descs.length 3 3
    else if !d.ledger && !s.admits p e (blocksOf m) then s.setHtx q { x with paused := some data }
    else
      let s := s.htxDone q x.descs.length 0 0
      if d.ledger then
        let dests := match s.lookup 24 h bytes with | some v => entEgress v | none => 0
        let s := if pad then (List.range 24).foldl
            (fun s p => if bit dests p then s.count (tlPort p mTxPad) else s) s else s
        s.viaLedger h f id
      else
        let s := if pad then s.count (tlPort p mTxPad) else s
        (((s.store f).enqueue p e f false false).freeFrames).egress p

/-- HOST_TX_FETCH_COMPLETE. -/
def execHostTxFetchComplete (dt : Nat) (ring : Fin 8) (data : List Byte) (s : State) : Out :=
  let s := s.elapse dt
  let x := s.htx ring.val
  go (if x.fetching && x.paused.isNone && data.length = descBytes x.descs then
    s.htxTake ring.val data else s)

/-- HOST_TX_RESUME: every paused source whose condition has cleared goes on (R150). -/
def execHostTxResume (dt : Nat) (s : State) : Out :=
  go ((List.range 8).foldl (fun s q =>
    match (s.htx q).paused with
    | some data => if s.free 2 < 256 then s else
        (s.setHtx q { s.htx q with paused := none }).htxTake q data
    | none => s) (s.elapse dt))

/-- MSIX_HOLDOFF_EXPIRY: rings 0 to 15 the frame rings, 16 the process-data ring. -/
def execMsixHoldoffExpiry (dt : Nat) (ring : Fin 17) (s : State) : Out :=
  let s := s.elapse dt
  let r := ring.val
  go (if r = 16 then (if s.pd.ringWait then s.pdVector else s)
    else if (if r < 8 then (s.hrx r).vecWait else (s.htx (r - 8)).vecWait) then s.ringVector r else s)

/-! ### Link loss (R123) -/

/-- The link of a port goes down, with a cause of R129: 0 remote, 1 loss of lock, 2 configuration,
3 domain isolated. -/
def State.macDown (s : State) (p cause : Nat) : State :=
  let x := s.mac p
  if !x.up then s
  else
    let s := (s.setMac p { x with up := false }).flush p
    (s.count (tlPort p mLinkDown)).note (ev 3 1) (le 1 p ++ le 1 cause)

/-- The link of a port comes up at a speed the mode allows (R89, R90). -/
def State.macUp (s : State) (p mbps : Nat) : State :=
  let x := s.mac p
  let mode := fld x.conf 0 1
  let speed := if mode = 1 then 10000 else if mode = 2 || mode = 4 then 1000
    else if mode = 5 then 100 else mbps
  if mode = 0 || x.up || s.absentUnit p then s
  else if speed ≠ 100 && speed ≠ 1000 && speed ≠ 10000 then s.count (tlPort p mAnFault)
  else (s.setMac p { x with up := true, mbps := speed }).note (ev 3 0)
    (le 1 p ++ le 1 mode ++ le 4 speed)

/-- BLOCK_LOSS: lock or synchronisation is lost and comes back without link down (R123, R126). -/
def execBlockLoss (dt : Nat) (port : Fin 24) (s : State) : Out :=
  let s := s.elapse dt
  go (if (s.mac port.val).up && !s.absentUnit port.val then s.count (tlPort port.val mBlockLoss) else s)

/-! ### Insertion into the backbone (R92, R214, R215) -/

/-- Whether the teller requests insertion of a line (R214); it says so while it runs. -/
def State.wantsIn (s : State) (line : Nat) : Bool :=
  s.hasDom line && fld (s.mac (2 * line)).conf 0 1 ≠ 0 && fld (s.mac (2 * line + 1)).conf 0 1 ≠ 0 &&
    bit (fld s.inaug.conf 8 1) (1 + line)

/-- The request and the controls are brought up to date. -/
def State.insertion (s : State) : State :=
  let s := if s.tellerUp then { s with ports := { s.ports with
      insReqA := s.wantsIn 0, insReqB := s.wantsIn 1 } } else s
  (s.insControl 0).insControl 1

/-! ### MDIO (R97, R98) -/

/-- MB_MDIO: the request joins its master's queue; the command completes with the frame. -/
def cmdMdio : Cmd :=
  { op := 0x0202
    shape := fun b => b.length = 8 && zeroAt b 6 2
    run := fun b s =>
      let m := fld b 0 1
      let r : MdioReq := { op := fld b 1 1, prtad := fld b 2 1, reg := fld b 3 1, data := fld b 4 2 }
      if m > 1 || r.op > 5 || r.prtad > 31 || r.reg > 31 then refuse stMalformed s
      else if !s.hasDom m then refuse stAbsent s
      else
        let s := s.send (.mdio m r.op r.prtad r.reg r.data)
        holdOn { s with ports :=
          if m = 0 then { s.ports with mdio0 := s.ports.mdio0 ++ [r] }
          else { s.ports with mdio1 := s.ports.mdio1 ++ [r] } } }

/-- MB_MDIO from the host. -/
def execMbMdio (dt : Nat) (r : Req) (s : State) : Out := go ((s.elapse dt).submit cmdMdio r)

/-- MDIO_FRAME_COMPLETE. -/
def execMdioFrameComplete (dt : Nat) (master : Fin 2) (ack : Bool) (data : U16) (s : State) : Out :=
  let s := s.elapse dt
  let m := master.val
  match (if m = 0 then s.ports.mdio0 else s.ports.mdio1) with
  | [] => go s
  | r :: l =>
    let s := { s with ports :=
      if m = 0 then { s.ports with mdio0 := l } else { s.ports with mdio1 := l } }
    let rd := r.op = 0 || r.op = 4 || r.op = 5
    if r.op = 0 && !ack then go ((s.count (tlHost (hNoack m))).finish 0x0202 stAbsent [])
    else go (s.finish 0x0202 stOk (le 2 (if rd then data.toNat else 0) ++ zeros 2))

/-! ### Ledger upkeep (R140 to R142) -/

/-- The physical bank of a logical one. -/
def Ledger.phys (l : Ledger) (b : Nat) : Nat :=
  match Tab.get 0 l.bank b with | 0 => b | n + 1 => n

/-- MB_LEDGER_READ. -/
def cmdLedgerRead : Cmd :=
  { op := 0x0203
    shape := fun b => b.length = 24 && zeroAt b 4 4
    run := fun b s =>
      let mode := fld b 0 1
      let way := fld b 1 1
      let buck := fld b 2 2
      let key := fld b 8 16
      let l := s.fab.ledger
      let out := fun n =>
        let e := Tab.get 0 l.slots n
        let f := entryGen e ≠ 0 && !l.bad.contains n
        let bank := n / 1024
        ans stOk ([BitVec.ofNat 8 (bnat f)] ++ le 1 (n / 4096) ++ le 2 (n % 4096) ++ le 1 bank ++
          le 1 (l.phys bank) ++ zeros 2 ++ (if f then le 16 e else zeros 16)) s
      if mode > 1 then refuse stMalformed s
      else if mode = 0 then
        if way > 3 || buck > 4095 || key ≠ 0 then refuse stMalformed s else out (4096 * way + buck)
      else if way ≠ 0 || buck ≠ 0 || key % 2 ^ 53 ≠ 0 || key / 2 ^ 126 ≠ 0 then refuse stMalformed s
      else
        let k := entryKey key
        match l.find l.live k, l.find (1 - l.live) k with
        | some n, _ => out n
        | none, some n => out n
        | none, none => ans stOk (zeros 24) s }

/-- MB_LEDGER_READ from the host. -/
def execMbLedgerRead (dt : Nat) (r : Req) (s : State) : Out :=
  go ((s.elapse dt).submit cmdLedgerRead r)

/-- LEDGER_REWRITE_COMPLETE: the teller has rewritten a failed word (R141). -/
def execLedgerRewriteComplete (dt : Nat) (way : Fin 4) (bucket : BitVec 12) (s : State) : Out :=
  let s := s.elapse dt
  let n := 4096 * way.val + bucket.toNat
  go (if s.tellerUp then { s with fab := { s.fab with ledger :=
    { s.fab.ledger with bad := s.fab.ledger.bad.filter (· != n) } } } else s)

/-- LEDGER_BANK_SWITCH: the bank being copied is mapped to the spare one, physical 16 (R140). -/
def execLedgerBankSwitch (dt : Nat) (s : State) : Out :=
  let s := s.elapse dt
  match s.lehr.bankCopy with
  | none => go s
  | some b => if s.par.activ.isSome || !s.tellerUp then go s else go { s with
      lehr := { s.lehr with bankCopy := none }
      fab := { s.fab with ledger := { s.fab.ledger with bank := Tab.set 0 s.fab.ledger.bank b 17 } } }

/-- TELLER_TAKES_FRAME: the oldest frame leaves the teller's queue (R153). -/
def execTellerTakesFrame (dt : Nat) (s : State) : Out :=
  let s := s.elapse dt
  match s.fab.copies.find? fun c => c.port = 25 with
  | some c => if s.tellerUp then go (s.take c).freeFrames else go s
  | none => go s

end Sys2Proof.Machine
end

