-- ==== Sys2Proof/Machine/Publish.lean ====
section
/-! DEFINITION. Publication of process data (R189 to R191) and the outbound port maps (R201 to R203). -/

namespace Sys2Proof.Machine

/-- An output is suppressed at its target in STANDBY and ORPHANED (R398). -/
def State.suppress (s : State) : State := s.count (tlTwin 8)

/-- The node's IPv4 address (R227): by the plan once numbered. -/
def State.nodeIp (s : State) : U32 :=
  match s.inaug.numbered with
  | some n => Config.planIp (n.p + 1) s.inaug.etbNo
  | none => Config.bootIp

/-- The IPv4 header with its checksum. -/
def ipHeader (dscp ident total : Nat) (src dst : Nat) : List Byte :=
  let h := fun (sum : Nat) => le 1 0x45 ++ le 1 (dscp % 64 * 4) ++ be 2 total ++ be 2 ident ++
    be 2 0x4000 ++ le 1 64 ++ le 1 17 ++ be 2 sum ++ be 4 src ++ be 4 dst
  h (0xFFFF - fold16 (sum16 (h 0)))

/-- The TRDP process-data header (R191). -/
def trdpHeader (seq comId etb optrn size : Nat) : List Byte :=
  let h := be 4 seq ++ be 2 0x0100 ++ be 2 0x5064 ++ be 4 comId ++ be 4 etb ++ be 4 optrn ++
    be 4 size ++ zeros 12
  h ++ le 4 (Config.trdpFcs h).toNat

/-- A publication as a frame, from the destination address to the byte before the FCS (R191, R181). -/
def State.pubFrame (s : State) (p : PdPort) (v : Slot) : List Byte :=
  let c := p.conf
  let data := padTo 0 (pSize c) v.data
  let pay := if pQpos c then v.quality :: data.drop 1 else data
  let tag := if pTagged c then be 2 0x8100 ++ be 2 (pTci c) else []
  slice c 28 6 ++ macBytes Config.nodeMac ++ tag ++ be 2 0x0800 ++
    ipHeader (pDscp c) (p.seq % 65536) (20 + 8 + 40 + pSize c) s.nodeIp.toNat (pIp c) ++
    be 2 17224 ++ be 2 17224 ++ be 2 (8 + 40 + pSize c) ++ be 2 0 ++
    trdpHeader p.seq (pComId c) s.inaug.etbTopo.toNat s.inaug.optrn.toNat (pSize c) ++ pay

/-- Why a publication of a value is suppressed (R190): 0 INIT, 1 too old, 2 quality. -/
def State.pubHold (s : State) (p : PdPort) (v : Slot) : Option Nat :=
  if v.quality.getLsbD 7 then some 0
  else if pLimit p.conf ≠ 0 ∧ v.time + pLimit p.conf * 1000 < s.net then some 1
  else if v.quality.toNat &&& pQmask p.conf ≠ 0 then some 2 else none

/-- Building and enqueueing a publication. -/
def State.pubSend (s : State) (i : Nat) (p : PdPort) (v : Slot) : State :=
  let bytes := s.pubFrame p v
  let m := bytes.length + 4
  if s.free 1 < blocksOf m then (s.count (tlPd 19)).breach 2 0xFF i
  else
    let f : Frame :=
      { id := s.fab.nextId, bytes := bytes, len := m, pool := 1, host := false, port := 26
        stamp := s.net, tagged := pTagged p.conf, secured := false, miss := false
        tci := pTci p.conf, cls := 0 }
    let s := s.setPort i (some { p with seq := (p.seq + 1) % 2 ^ 32, lastSeq := p.seq })
    let s := (s.store f).count (tlPd 9)
    let outs := (List.range 25).filter fun q => bit (pEgress p.conf) q
    let s := outs.foldl (fun s q => s.enqueue q (pQueue p.conf) f false true) s
    outs.foldl State.egress s.freeFrames

/-- PUBLISH_PORT for a port: suppressed by role, suppressed by R190, or sent. -/
def State.publish (s : State) (i : Nat) : State :=
  match s.port i with
  | none => s
  | some p =>
    if s.quiet then s.suppress
    else if s.pd.bad.contains i then s
    else
      let from_ := if pSource p.conf = 6 then s.port (pLink p.conf) else some p
      match from_ with
      | none => s
      | some q =>
        match s.pubHold p q.value with
        | some k => (s.count (tlPd (10 + k))).noteOnce i (ev 5 2) (le 4 i ++ le 1 k)
        | none => s.pubSend i p q.value

/-! ### Outbound maps (R201 to R203) -/

/-- KIND of a map. -/
def mKind (m : List Byte) : Nat := fld m 0 1
/-- UNIT of a map. -/
def mUnit (m : List Byte) : Nat := fld m 1 1
/-- INDEX of a map. -/
def mIndex (m : List Byte) : Nat := fld m 2 2
/-- PORT of a map. -/
def mPort (m : List Byte) : Nat := fld m 4 2
/-- P_OFF of a map. -/
def mOff (m : List Byte) : Nat := fld m 6 2
/-- LEN of a map. -/
def mLen (m : List Byte) : Nat := fld m 8 2
/-- QMASK of a map. -/
def mQmask (m : List Byte) : Nat := fld m 10 1

/-- The maps in force. -/
def State.maps (s : State) : List (List Byte) :=
  match s.par.force with | some p => p.maps | none => []

/-- What an outbound map gives: the bytes it carries, or the tally of why not. A key names the map's
remembered COMMITS. -/
def State.mapOut (s : State) (m : List Byte) (key : Nat) : Option (List Byte) × State :=
  match s.port (mPort m) with
  | none => (none, s)
  | some p =>
    let v := p.value
    if s.pd.bad.contains (mPort m) then (none, s)
    else if v.quality.getLsbD 7 && v.commits = 0 || Tab.get 0 s.pd.carried key = v.commits + 1 then
      (none, s.count (tlPd 15))
    else if v.quality.toNat &&& mQmask m ≠ 0 then (none, s.count (tlPd 16))
    else
      (some (slice (padTo 0 (pSize p.conf) v.data) (mOff m) (mLen m)),
        { s with pd := { s.pd with carried := Tab.set 0 s.pd.carried key (v.commits + 1) } })

/-- The key of a map's remembered COMMITS: the map's own 11 bytes as a number. -/
def mapKey (m : List Byte) : Nat := fld m 0 11

end Sys2Proof.Machine
end

