-- ==== Sys2Proof/Machine/Pace.lean ====
section
/-! DEFINITION. The pace strand and the LINE trackers (chapter 1): position, transitions of R24,
alignment, jumps, holds, tachometer edges. Positions are in 2^-32 pace unit, rates in 2^-48 pace unit
per ns, times in elapsed network ns without steps. -/

namespace Sys2Proof.Machine

/-! ### Parameters (R60) -/

/-- The pace-strand parameter block in force. -/
def State.paceBlock (s : State) : List Byte := match s.par.force with | some p => p.pace | none => []
/-- Units in a cycle or revolution. -/
def cycleUnits (c : List Byte) : Nat :=
  if fld c 0 1 = 2 || (fld c 0 1 = 3 && fld c 13 1 = 1) then 4096 else 65536
/-- The round length in pace units. -/
def paceRound (c : List Byte) : Nat := fld c 1 1 * cycleUnits c
/-- The pace share p. -/
def paceShare (c : List Byte) : Nat := fld c 2 1
/-- The rate of a frequency in mHz. -/
def rateOfMhz (units f : Nat) : Nat := units * f * 2 ^ 48 / 1000000000000
/-- The rate of a cycle of 65,536 units in `t` ns. -/
def rateOfPeriod (t : Nat) : Nat := if t = 0 then 0 else 2 ^ 64 / t
/-- Edges per revolution. -/
def edgesPerRev (c : List Byte) : Nat := max 1 (fld c 14 2) * (if fld c 26 1 = 0 then 4 else 1)
/-- Position units of one edge. -/
def edgeUnits (c : List Byte) : Nat := 4096 * 2 ^ 32 / edgesPerRev c
/-- The substitution rate of a kind. -/
def substRate (c : List Byte) : Nat :=
  if fld c 0 1 = 2 then 4096 * fld c 24 2 * 2 ^ 48 / 100000000000 else rateOfMhz 65536 (fld c 20 4)

/-! ### Position -/

/-- The sum of RATE_PPM of the armed PACE seeds (R563). -/
def State.ppm (s : State) : Int :=
  ((s.seeds.armed.filter fun x => x.kind = 6).map fun x => fldInt x.params 4 4).sum

/-- Whether RATE_PPM alters the rate: where no source corrects it (R563). -/
def PaceSt.freeRunning (x : PaceSt) : Bool := x.kind ≠ 1 || x.state != .locked

/-- How far the strand advances in `t` ns from its reference. -/
def PaceSt.adv (x : PaceSt) (t : Nat) : Nat :=
  let d := x.slewEnd - x.run0
  if t ≤ d then x.rate * t else x.rate * d + x.rate2 * (t - d)

/-- The strand's position. -/
def State.paceAt (s : State) : Nat :=
  let x := s.pace
  if !x.started then 0
  else
    let t := s.run - (if x.holding then max x.run0 x.holdEnd else x.run0)
    let a0 := x.adv t / 2 ^ 16
    let a := if x.freeRunning && s.ppm ≠ 0 then (((a0 : Nat) : Int) * (1000000 + s.ppm) / 1000000).toNat
      else a0
    match x.cap with
    | some c => max x.pos (min c (x.pos + a))
    | none => x.pos + a

/-- The rate at this instant. -/
def State.rateNow (s : State) : Nat :=
  let x := s.pace
  if !x.started || x.still || (x.holding && s.run < x.holdEnd) then 0
  else if s.run < x.slewEnd then x.rate else x.rate2

/-- The position becomes the reference, with a new steady rate and limit. -/
def State.rebase (s : State) (rate : Nat) (cap : Option Nat) : State :=
  { s with pace := { s.pace with
    pos := s.paceAt, run0 := s.run, rate := rate, rate2 := rate, slewEnd := s.run, cap := cap
    holding := false } }

/-- The strand's round and offset, in whole units. -/
def State.paceOffset (s : State) : Nat :=
  let l := paceRound s.paceBlock
  if l = 0 then 0 else s.paceAt / 2 ^ 32 % l

/-! ### Lists of the parison in force -/

/-- A list of a strand table: strand 0 time or 1 pace; list 0 A, 1 B, 2 spine. -/
def Par.acts (p : Par) (st l : Nat) : List Act :=
  if st = 0 then (if l = 0 then p.timeA else if l = 1 then p.timeB else p.timeS)
  else if l = 0 then p.paceA else if l = 1 then p.paceB else p.paceS

/-- The key of an action among the issued ones. -/
def ActRef.key (r : ActRef) : Nat := (r.st * 4 + r.l) * 2 ^ 20 + r.ix

/-- The gaffer that issues a list (R57, R427). -/
def State.gafOf (s : State) (st l : Nat) : Nat :=
  if l < 2 then l else if st = 0 then s.gaf.spineT.gaf else s.gaf.spineP.gaf

/-- Whether a gaffer issues a list's actions now: its domain is present, a takeover has reached its
boundary, a returned gaffer its own (R427, R431). -/
def State.listLive (s : State) (st l : Nat) : Bool :=
  let g := s.gafOf st l
  let hold := if l < 2 then none else if st = 0 then s.gaf.spineT.wait else s.gaf.spineP.wait
  s.live g && hold.isNone && (st = 0 || decide (Tab.get 0 s.gaf.paceFrom g ≤ s.paceAt))

/-! ### Skipped spans (R37 to R39) -/

/-- The first position at or after `p` at which offset `o` recurs in rounds of `l` units. -/
def nextPos (p l o : Nat) : Nat := nextAt p (l * 2 ^ 32) (o * 2 ^ 32)

/-- Placing a pair before the first larger one. -/
def insertByPos {α : Type} (x : Nat × α) : List (Nat × α) → List (Nat × α)
  | [] => [x]
  | y :: l => if x.1 < y.1 then x :: y :: l else y :: insertByPos x l

/-- The pace actions whose offsets are passed from position `a` up to, not including, `b`, not yet
issued in that round, in offset order. -/
def State.spanActs (s : State) (a b : Nat) : List (Nat × ActRef × Act) :=
  match s.par.force with
  | none => []
  | some p =>
    let l := paceRound p.pace
    ((List.range 3).flatMap fun k => ((p.acts 1 k).zip (List.range (p.acts 1 k).length)).filterMap
      fun x =>
        let at_ := nextPos a l x.1.off
        let r : ActRef := { st := 1, l := k, ix := x.2 }
        let round := if l = 0 then 0 else at_ / (l * 2 ^ 32)
        if at_ < b && Tab.get 0 s.gaf.issued r.key ≠ round + 1 && s.listLive 1 k then
          some (at_, r, x.1) else none).foldl (fun acc x => insertByPos x acc) []

/-- An action waits to be issued, and counts as taken in its round. -/
def State.wait (s : State) (at_ : Nat) (r : ActRef) (k : WaitKind) (since : Nat) : State :=
  let l := paceRound s.paceBlock
  let round := if l = 0 then 0 else at_ / (l * 2 ^ 32)
  { s with gaf := { s.gaf with
    waiting := s.gaf.waiting ++ [(⟨r, k, since⟩ : Waiting)]
    issued := if r.st = 1 then Tab.set 0 s.gaf.issued r.key (round + 1) else s.gaf.issued } }

/-- A forward jump from the strand's position to `b`: each skipped action by its miss policy, then
the actions due at the new position (R37, R38). -/
def State.skipTo (s : State) (b : Nat) : State :=
  let a := s.paceAt
  let s := (s.spanActs a b).foldl (fun s x =>
    if x.2.2.missRun then s.wait x.1 x.2.1 .caughtUp s.now
    else
      let s := s.count (tlStrand (8 + s.gafOf 1 x.2.1.l))
      let l := paceRound s.paceBlock
      { s with gaf := { s.gaf with
        issued := Tab.set 0 s.gaf.issued x.2.1.key (x.1 / (l * 2 ^ 32) + 1) } }) s
  (s.spanActs b (b + 1)).foldl (fun s x => s.wait x.1 x.2.1 .edge s.now) s

/-- Edge catch-up from the strand's position to `b` (R29). -/
def State.edgeTo (s : State) (b : Nat) : State :=
  (s.spanActs s.paceAt b).foldl (fun s x => s.wait x.1 x.2.1 .edge s.now) s

/-- Whole units of a signed distance. -/
def units (d : Int) : Int := d / (2 ^ 32 : Nat)

/-- Applying a difference to the strand (R25): slewed over `period`, jumped, or held; `rate` is the
steady rate. `slew` says whether a small difference is slewed out. -/
def State.align (s : State) (d : Int) (rate period : Nat) (slew : Nat) (cap : Option Nat) : State :=
  if d.natAbs ≤ slew then
    let s := s.rebase rate cap
    if period = 0 then s
    else
      let r := ((rate : Int) + d * (2 ^ 16 : Nat) / (period : Nat)).toNat
      { s with pace := { s.pace with rate := r, slewEnd := s.run + period } }
  else if d > 0 then
    let b := (s.paceAt : Int) + d
    let s := s.skipTo b.toNat
    let s := s.rebase rate cap
    let s := { s with pace := { s.pace with pos := b.toNat } }
    (s.count (tlStrand 2)).note (ev 1 3) (leInt 4 (units d))
  else
    let s := s.rebase rate cap
    let till := s.run + (if rate = 0 then 0 else d.natAbs * 2 ^ 16 / rate)
    let s := { s with pace := { s.pace with
      holding := true, holdEnd := till, run0 := s.run, slewEnd := 0 } }
    (s.count (tlStrand 3)).note (ev 1 3) (leInt 4 (units d))

/-! ### State changes (R24, R27) -/

/-- The strand enters COASTING, or starts in it; causes in the order of R48. -/
def State.coast (s : State) (cause : Nat) (rate : Nat) : State :=
  let s := s.rebase rate none
  let s := { s with pace := { s.pace with
    state := .coasting, coastAt := s.run, started := true, waitStart := none
    axle := s.pace.axle.map fun (a : AxleIn) => { a with cnt := 0 } } }
  (s.count (tlStrand 0)).note (ev 1 1) (le 1 cause)

/-- The strand enters SUBSTITUTED, or starts in it; causes in the order of R48. -/
def State.substitute (s : State) (cause : Nat) : State :=
  let s := s.rebase (substRate s.paceBlock) none
  let s := { s with pace := { s.pace with state := .substituted, started := true, waitStart := none } }
  (s.count (tlStrand 1)).note (ev 1 2) (le 1 cause)

/-- The LINE strand loses lock: it coasts, or starts coasting if it had not started (R27). -/
def State.lineLost (s : State) (cause : Nat) : State :=
  if s.pace.kind ≠ 1 then s
  else if s.pace.waitStart.isSome then
    let s := { s with pace := { s.pace with
      waitStart := none, started := true, pos := 0, run0 := s.run, cap := none, holding := false } }
    s.coast 4 s.pace.lineFreq
  else if s.pace.started && s.pace.state == .locked then s.coast cause s.pace.lineFreq
  else s

/-- A pace strand begins (R27, R44). -/
def State.paceStart (s : State) : State :=
  let c := s.paceBlock
  let k := fld c 0 1
  let x : PaceSt := { pace0 with kind := k, run0 := s.run, slewEnd := s.run }
  if c.isEmpty then { s with pace := pace0 }
  else if k = 1 then
    match s.trk.force with
    | some t =>
      if t.locked then { s with pace := { x with
        waitStart := some s.run, state := .locked, lineFreq := rateOfPeriod t.period } }
      else ({ s with pace := { x with started := true } }).substitute 2
    | none => ({ s with pace := { x with started := true } }).substitute 2
  else if k = 3 then
    let r := rateOfMhz (cycleUnits c) (fld c 28 4)
    { s with pace := { x with started := true, state := .locked, rate := r, rate2 := r } }
  else
    let ins := ((slice c 4 3).map (·.toNat)).filter (· < 8)
    let ax := ins.map fun i =>
      ({ inp := i, excluded := !s.live (inputDomain i), edgeAt := none, interval := 0, prevInt := 0
         off5 := 0, agreeAt := none, cnt := 0 } : AxleIn)
    let s := { s with pace := { x with
      started := true, state := .locked, axle := ax
      cap := if ins.length = 1 then some (edgeUnits c) else none } }
    if ax.all (·.excluded) then s.coast 1 0 else s

/-! ### LINE trackers (R20 to R23, R590, R593) -/

/-- A tracker of the committed parison (1) or of the one in force (0). -/
def State.tracker (s : State) (k : Nat) : Option Tracker := if k = 0 then s.trk.force else s.trk.next
/-- Writing it. -/
def State.setTracker (s : State) (k : Nat) (t : Option Tracker) : State :=
  { s with trk := if k = 0 then { s.trk with force := t } else { s.trk with next := t } }

/-- A tracker begins acquisition on a source. -/
def Tracker.restart (t : Tracker) (src : Option Nat) : Tracker :=
  { t with src := src, ref := none, periods := [], locked := false, last := none, hist := []
           present := false, presentAt := 0 }

/-- Acquisition starts again from the most recent accepted crossing (R21). -/
def Tracker.again (t : Tracker) : Tracker :=
  { t with ref := t.last, periods := [], locked := false }

/-- The voltage level after a filter output `f` at `t0` (R590). -/
def Tracker.level (t : Tracker) (t0 : Nat) (f : Int) : Tracker :=
  let cyc := if t.nominal = 0 then 0 else 1000000000000 / t.nominal
  let h := (t.hist.filter fun x => t0 ≤ x.1 + cyc && f.natAbs < x.2) ++ [(t0, f.natAbs)]
  let lvl := h.foldl (fun m x => max m x.2) 0
  let on := decide (t.absence * 2 ^ 23 ≤ lvl * 100)
  let t := { t with hist := h, presentAt := if on && !t.present then t0 else t.presentAt
                    present := on }
  if !on && !t.locked then t.again else t

/-- Whether four periods lie within 2% of their mean (R21). -/
def steady (ps : List Nat) : Bool :=
  let m := ps.sum
  ps.length = 4 && ps.all fun p => decide (((4 * p : Nat) - (m : Nat) : Int).natAbs * 50 ≤ m)

/-- What a crossing is (R20). -/
inductive Cross where
  | refused (period : Nat) | reference (long : Option Nat) | valid (period : Nat) (complete : Bool)
deriving DecidableEq, Repr

/-- A crossing at `t0` as the tracker takes it; the voltage must have been present since the crossing
before (R21). -/
def Tracker.cross (t : Tracker) (t0 : Nat) : Cross × Tracker :=
  match t.ref, t.last with
  | some _, some l =>
    let p := t0 - l
    if p < 15385000 then (.refused p, t)
    else if p > 71429000 then
      (.reference (some p), { t with ref := some t0, last := some t0, periods := [], locked := false })
    else
      let kept := t.present && decide (t.presentAt ≤ l)
      let t := { t with last := some t0, period := p, periods := pushKeep 4 t.periods p }
      if t.locked then (.valid p false, t)
      else if !kept then (.valid p false, t.again)
      else if t.periods.length < 4 then (.valid p false, t)
      else if steady t.periods then (.valid p true, { t with locked := true })
      else (.valid p false, t.again)
  | _, _ => (.reference none, { t with ref := some t0, last := some t0, periods := [] })

/-- The measured frequency in mHz. -/
def mhzOf (period : Nat) : Nat := if period = 0 then 0 else 1000000000000 / period

/-- Alignment of the LINE strand at an accepted crossing: the measured phase is 0 (R25). -/
def State.lineAlign (s : State) (period : Nat) : State :=
  let ph := s.paceAt % 2 ^ 48
  let d : Int := if ph ≤ 2 ^ 47 then -((ph : Nat) : Int) else ((2 ^ 48 - ph : Nat) : Int)
  let r := rateOfPeriod period
  let s := { s with pace := { s.pace with lineFreq := r } }
  s.align d r period (256 * 2 ^ 32) none

/-- An accepted valid period of the tracker in force, as the strand takes it (R24, R25, R27). -/
def State.lineValid (s : State) (src period : Nat) (complete locked : Bool) : State :=
  if s.pace.kind ≠ 1 then s
  else if s.pace.waitStart.isSome && locked then
    let r := rateOfPeriod period
    let s := s.note (ev 1 0) (le 1 src ++ le 4 (mhzOf period))
    { s with pace := { s.pace with
      waitStart := none, started := true, state := .locked, pos := 0, run0 := s.run, rate := r
      rate2 := r, slewEnd := s.run, cap := none, holding := false, lineFreq := r } }
  else if !s.pace.started then s
  else if complete then
    let s := { s with pace := { s.pace with state := .locked } }
    (s.note (ev 1 0) (le 1 src ++ le 4 (mhzOf period))).lineAlign period
  else if locked && s.pace.state == .locked then s.lineAlign period
  else s

/-- ZERO_CROSSING: a positive-going crossing at tracker `k`. -/
def State.crossing (s : State) (k : Nat) : State :=
  match s.tracker k with
  | none => s
  | some t =>
    match t.src with
    | none => s
    | some src =>
      let r := t.cross s.run
      let s := s.setTracker k (some r.2)
      match r.1 with
      | .refused p => (s.count (tlStrand 4)).note (ev 1 4) (le 4 p)
      | .reference none => s
      | .reference (some p) =>
        if t.locked then
          let s := (s.count (tlStrand 4)).note (ev 1 4) (le 4 p)
          if k = 0 then s.lineLost 3 else s
        else s
      | .valid p c => if k = 0 then s.lineValid src p c (t.locked || c) else s

/-- ZERO_CROSSING. -/
def execZeroCrossing (dt : Nat) (trk : Fin 2) (s : State) : Out := go ((s.elapse dt).crossing trk.val)

/-- PACE_HOLD_END: a hold's end is taken as the new reference (R25). -/
def execPaceHoldEnd (dt : Nat) (s : State) : Out :=
  let s := s.elapse dt
  go (if s.pace.holding && s.pace.holdEnd ≤ s.run then
    { s with pace := { s.pace with holding := false, run0 := max s.pace.run0 s.pace.holdEnd } } else s)

/-- A tracker without a crossing for 1.25 periods leaves lock (R24). -/
def State.missed (s : State) (k : Nat) : State :=
  match s.tracker k with
  | none => s
  | some t =>
    match t.last with
    | some l =>
      if t.locked && 4 * l + 5 * t.period ≤ 4 * s.run then
        let s := s.setTracker k (some t.again)
        if k = 0 then s.lineLost 0 else s
      else s
    | none => s

/-- CROSSING_TIMEOUT, for either tracker whose time is up. -/
def execCrossingTimeout (dt : Nat) (s : State) : Out := go (((s.elapse dt).missed 0).missed 1)

/-- COASTING_LIMIT_EXPIRY (R24, R33). -/
def execCoastingLimitExpiry (dt : Nat) (s : State) : Out :=
  let s := s.elapse dt
  go (if s.pace.started && s.pace.state == .coasting &&
      s.pace.coastAt + fld s.paceBlock 16 2 * 10000000 ≤ s.run then s.substitute 0 else s)

/-- Whether the DC rule applies now (R24). -/
def State.dcDue (s : State) : Bool :=
  match s.trk.force with
  | some t =>
    s.pace.kind = 1 && s.pace.started && s.pace.state == .coasting && t.present && t.nominal ≠ 0 &&
      max (t.last.getD 0) t.presentAt + 3000000000000 / t.nominal ≤ s.run
  | none => false

/-- DC_RULE_EXPIRY (R24). -/
def execDcRuleExpiry (dt : Nat) (s : State) : Out :=
  let s := s.elapse dt
  go (if s.dcDue then s.substitute 1 else s)

/-- The source in use changes (R593). -/
def State.paceSource (s : State) (k : Nat) (t : Tracker) (src : Option Nat) : State :=
  (s.setTracker k (some (t.restart src))).note (ev 1 6)
    (le 1 (t.src.getD 255) ++ le 1 (src.getD 255))

/-- A tracker's other declared input, if its domain is present. -/
def State.otherSrc (s : State) (t : Tracker) (cur : Nat) : Option Nat :=
  let o := if cur = t.prim then t.alt else t.prim
  if o < 8 ∧ s.live (inputDomain o) ∧ Tab.get 0 s.sys.retired (0x28 + o) = 0 then some o else none

/-- Inputs are lost, with their domain or as worn: the tracker that uses one (R24, R32, R593). -/
def State.trackerLoss (s : State) (gone : Nat → Bool) (k : Nat) : State :=
  match s.tracker k with
  | none => s
  | some t =>
    match t.src with
    | some c =>
      if !gone c then s
      else
        let s := s.paceSource k t (s.otherSrc t c)
        if k = 0 then s.lineLost 1 else s
    | none => s

/-- A domain returns: its input becomes the source in use where there was none (R593). -/
def State.trackerBack (s : State) (d k : Nat) : State :=
  match s.tracker k with
  | none => s
  | some t =>
    if t.src.isSome then s
    else if t.prim < 8 ∧ inputDomain t.prim = d then s.paceSource k t (some t.prim)
    else if t.alt < 8 ∧ inputDomain t.alt = d then s.paceSource k t (some t.alt)
    else s

/-- The tracker of a committed parison (R22, R593): none where it keeps the one in force. -/
def State.commitTracker (s : State) (c : List Byte) : State :=
  if fld c 0 1 ≠ 1 then s.setTracker 1 none
  else
    let p := fld c 4 1
    let a := fld c 7 1
    let same := match s.trk.force with
      | some t => fld s.paceBlock 0 1 = 1 && t.prim = p && t.alt = a
      | none => false
    if same then s.setTracker 1 none
    else
      let src := if s.live (inputDomain p) then some p
        else if a < 8 ∧ s.live (inputDomain a) then some a else none
      s.setTracker 1 (some { prim := p, alt := a, src := src, ref := none, periods := []
                             locked := false, last := none, period := 0, hist := [], present := false
                             presentAt := 0, nominal := fld c 8 4, absence := fld c 12 1 })

/-- At an activation the committed parison's tracker is the one in force (R23). -/
def State.activateTracker (s : State) : State :=
  let c := s.paceBlock
  if fld c 0 1 ≠ 1 then { s with trk := { force := none, next := none } }
  else
    let t := match s.trk.next with | some t => some t | none => s.trk.force
    { s with trk := { force := t.map fun t => { t with nominal := fld c 8 4, absence := fld c 12 1 }
                      next := none } }

/-! ### AXLE (R28 to R33) -/

/-- The median, mean or single value of the valid rates (R30). -/
def midRate (l : List Nat) : Nat :=
  match l with
  | [a, b, c] => max (min a b) (min (max a b) c)
  | [a, b] => (a + b) / 2
  | [a] => a
  | _ => 0

/-- The rate of an input. -/
def AxleIn.rate (a : AxleIn) (u : Nat) : Nat := if a.interval = 0 then 0 else u * 2 ^ 16 / a.interval

/-- The rate the strand follows. -/
def State.axleRate (s : State) : Nat :=
  midRate ((s.pace.axle.filter fun a => !a.excluded && a.interval ≠ 0).map
    (·.rate (edgeUnits s.paceBlock)))

/-- Writing one input. -/
def State.setAxle (s : State) (a : AxleIn) : State :=
  { s with pace := { s.pace with axle := s.pace.axle.map fun b => if b.inp = a.inp then a else b } }

/-- Position of the last edge of a single input before it coasts (R33). -/
def State.edgeBase (s : State) : Nat :=
  match s.pace.cap with
  | some c => c - edgeUnits s.paceBlock
  | none => s.paceAt

/-- An input is excluded (R31, R32); with none left the strand coasts. Causes: 2 tachometer fault,
1 source domain lost. -/
def State.axleExclude (s : State) (a : AxleIn) (reason cause : Nat) : State :=
  let r := s.axleRate
  let base := s.edgeBase
  let s := s.setAxle { a with excluded := true, agreeAt := none, off5 := 0 }
  let s := (s.count (tlStrand 5)).note (ev 1 5) (le 1 a.inp ++ le 1 reason)
  if s.pace.axle.all (·.excluded) then
    if s.pace.state == .locked then
      let s := { s with pace := { s.pace with edges := base } }
      s.coast cause r
    else s
  else if s.pace.state == .locked then s.rebase s.axleRate none else s

/-- Why an edge excludes its input, by R31; `none` if it does not. -/
def edgeFault (c : List Byte) (a : AxleIn) (iv : Nat) (legal : Bool) : Option Nat :=
  let fast := a.interval ≠ 0 && a.interval * edgesPerRev c < 200000000
  let d := ((iv : Int) - (a.interval : Nat)).natAbs
  if !legal then some (if fld c 26 1 = 0 then 0 else 1)
  else if fast && d * 4 > a.interval then some 2 else none

/-- An edge at an input that follows the pace. -/
def State.axleStep (s : State) (a : AxleIn) : State :=
  let c := s.paceBlock
  let u := edgeUnits c
  if s.pace.state != .locked then s
  else if s.pace.axle.length = 1 then
    let e := s.pace.cap.getD u
    let s := s.edgeTo e
    let pos := max e s.paceAt
    let s := s.rebase (a.rate u) (some (e + u))
    { s with pace := { s.pace with pos := pos, still := false } }
  else
    let r := s.axleRate
    let off := decide (a.interval ≠ 0 ∧ ((a.rate u : Int) - (r : Nat)).natAbs * 20 > r)
    let a := { a with off5 := if off then a.off5 + 1 else 0 }
    let s := s.setAxle a
    if a.off5 ≥ 16 then s.axleExclude a 3 2
    else
      let s := s.rebase r none
      { s with pace := { s.pace with still := false } }

/-- A tachometer edge as the AXLE pace takes it. -/
def State.axleEdge (s : State) (inp : Nat) (legal : Bool) : State :=
  if s.pace.kind ≠ 2 || !s.pace.started || !s.live (inputDomain inp) then s
  else match s.pace.axle.find? (·.inp = inp) with
    | none => s
    | some a =>
      let c := s.paceBlock
      let iv := match a.edgeAt with | some e => s.run - e | none => 0
      let fault := if a.edgeAt.isSome then edgeFault c a iv legal else if legal then none else some 0
      let b := { a with edgeAt := some s.run, prevInt := a.interval
                        interval := if a.edgeAt.isSome then iv else a.interval
                        cnt := if legal then a.cnt + 1 else a.cnt }
      if a.excluded then
        let others := (s.pace.axle.filter fun x => !x.excluded).length
        let r := s.axleRate
        let near := others = 0 ||
          decide (((b.rate (edgeUnits c) : Int) - (r : Nat)).natAbs * 20 ≤ r)
        let good := fault.isNone && near && a.edgeAt.isSome
        s.setAxle { b with
          agreeAt := if good then some (a.agreeAt.getD s.run) else none }
      else match fault with
        | some k => (s.setAxle b).axleExclude b k 2
        | none => (s.setAxle b).axleStep b

/-- An input rejoins (R31, R33). -/
def State.axleRejoin (s : State) (inp : Nat) : State :=
  match s.pace.axle.find? (·.inp = inp) with
  | none => s
  | some a =>
    match a.agreeAt with
    | none => s
    | some t =>
      if s.pace.kind ≠ 2 || !a.excluded || s.run < t + 1000000000 || !s.live (inputDomain inp) then s
      else
        let u := edgeUnits s.paceBlock
        let s := s.setAxle { a with excluded := false, agreeAt := none, off5 := 0 }
        let s := s.note (ev 1 5) (le 1 inp ++ le 1 0xFF)
        let single := s.pace.axle.length = 1
        let r := s.axleRate
        let lock := fun (s : State) =>
          ({ s with pace := { s.pace with state := .locked, still := false } }).note (ev 1 0)
            (le 1 inp ++ le 4 (r * 1000000000000 / (2 ^ 48 * 4096)))
        if s.pace.state == .coasting then
          let counted := s.pace.edges + a.cnt * u
          let d := (counted : Int) - (s.paceAt : Nat)
          let s := lock s
          let cap := if single then some (counted + u) else none
          if 0 ≤ d ∧ d ≤ (u : Nat) then s.rebase r cap else s.align d r 0 0 cap
        else if s.pace.state == .substituted then
          let p := s.paceAt
          (lock s).rebase r (if single then some (p + u) else none)
        else s.rebase r s.pace.cap

/-- TACH_REJOIN. -/
def execTachRejoin (dt : Nat) (inp : Fin 8) (s : State) : Out := go ((s.elapse dt).axleRejoin inp.val)

/-- TACH_SILENCE_TIMEOUT: no edge for four intervals of at least 1 rev/s (R32). -/
def execTachSilenceTimeout (dt : Nat) (inp : Fin 8) (s : State) : Out :=
  let s := s.elapse dt
  match s.pace.axle.find? (·.inp = inp.val) with
  | none => go s
  | some a =>
    match a.edgeAt with
    | none => go s
    | some e =>
      if s.pace.kind = 2 && s.pace.started && !a.excluded && a.interval ≠ 0 &&
          a.interval * edgesPerRev s.paceBlock ≤ 1000000000 && e + 4 * a.interval ≤ s.run then
        go (s.axleExclude a 4 2)
      else go s

/-- STANDSTILL_TIMEOUT: silence after a rate below 1 rev/s (R32). -/
def execStandstillTimeout (dt : Nat) (s : State) : Out :=
  let s := s.elapse dt
  let c := s.paceBlock
  let quiet := (s.pace.axle.filter fun a => !a.excluded).all fun a =>
    match a.edgeAt with
    | some e => (a.interval = 0 || a.interval * edgesPerRev c > 1000000000) &&
        e + fld c 18 2 * 1000000 ≤ s.run
    | none => true
  if s.pace.kind = 2 && s.pace.started && s.pace.state == .locked && !s.pace.still && quiet then
    let cap := s.pace.cap
    let s := s.rebase 0 cap
    go { s with pace := { s.pace with still := true } }
  else go s

/-- AXLE inputs are lost, with their domain or as worn (R46). -/
def State.axleLoss (s : State) (gone : Nat → Bool) : State :=
  (s.pace.axle.filter fun a => gone a.inp && !a.excluded).foldl
    (fun s a => s.axleExclude a 5 1) s

/-- A PACE seed's OFFSET, in whole units, applied as a difference under R25 (R563). -/
def State.paceShift (s : State) (d : Int) : State :=
  if !s.pace.started then s
  else
    let r := s.pace.rate2
    let period := if r = 0 then 0 else cycleUnits s.paceBlock * 2 ^ 48 / r
    s.align (d * (2 ^ 32 : Nat)) r period (256 * 2 ^ 32) s.pace.cap

end Sys2Proof.Machine
end

