-- ==== Sys2Proof/Machine/Gaffer.lean ====
section
/-! DEFINITION. The gaffers: when an action is issued and with which mark (R12, R16 to R19, R37,
R38, R45), one-off actions, steps of network time (R40), and the actions that touch gates, ports,
tallies and the daybook. -/

namespace Sys2Proof.Machine

/-! ### Issue -/

/-- An action as it reaches its target: entry, pace mark, issuing gaffer, place in its list. -/
structure Issued where
  act : Act
  mark : Nat
  gaf : Nat
  ix : Option ActRef

/-- The entry of the parison in force at a place. -/
def State.entry (s : State) (r : ActRef) : Option Act :=
  match s.par.force with | some p => (p.acts r.st r.l)[r.ix]? | none => none

/-- Where an entry stands in a gaffer's action memory: its lists in the order time own, time spine,
pace own, pace spine. -/
def State.gafWord (s : State) (g : Nat) (r : ActRef) : Nat :=
  match s.par.force with
  | none => r.ix
  | some p =>
    let n := fun st l => (p.acts st l).length
    if r.st = 0 then (if r.l < 2 then r.ix else n 0 g + r.ix)
    else n 0 g + n 0 2 + (if r.l < 2 then r.ix else n 1 g + r.ix)

/-- Whether an entry's word holds an uncorrectable error in its gaffer's memory (R435). -/
def State.gafBroken (s : State) (g : Nat) (r : ActRef) : Bool :=
  Tab.get 0 s.lehr.gafBad (g * 2 ^ 32 + s.gafWord g r) != 0

/-- The round (plus 1) in which offset `o` of rounds of `l` falls due within 2 ns of `t`. -/
def dueRound (t l o : Nat) : Option Nat :=
  if l = 0 then none
  else
    let d := nextAt (t - 2) l o
    if d ≤ t + 2 then some (d / l + 1) else none

/-- The pace round (plus 1) in which offset `o` is reached within 2 ns of now. -/
def State.paceDue (s : State) (o : Nat) : Option Nat :=
  let l := paceRound s.paceBlock * 2 ^ 32
  let tol := 2 * s.rateNow / 2 ^ 16 + 1
  let p := s.paceAt
  if l = 0 || !s.pace.started || s.rateNow = 0 then none
  else
    let d := nextAt (p - tol) l (o * 2 ^ 32)
    if d ≤ p + tol then some (d / l + 1) else none

/-- The mark a pace action carries from the strand's state (R45). -/
def State.stateMark (s : State) : Nat :=
  match s.pace.state with | .locked => 0 | .coasting => 1 | .substituted => 2

/-- Local time since a target last received an action of a table, if ever. -/
def State.sinceAct (s : State) (t : Tab Nat) (tgt : Nat) : Option Nat :=
  match Tab.get 0 t tgt with | 0 => none | n + 1 => some (s.now - n)

/-- Whether a time-strand action, issued or due, lies within 8 ns on a target (R19). -/
def State.timeNear (s : State) (tgt : Nat) : Bool :=
  let past := match s.sinceAct s.gaf.lastT tgt with | some d => decide (d < 8) | none => false
  let ahead := match s.par.force with
    | some p => (p.timeA ++ p.timeB ++ p.timeS).any fun a =>
        a.tgt = tgt && nextAt s.net p.round (p.eff s.boundP a) < s.net + 8
    | none => false
  tgt ≠ 0xFF && s.gaf.paused.isNone &&
    (past || ahead || s.par.oneOffs.any fun o => o.act.tgt = tgt && s.net ≤ o.net && o.net < s.net + 8)

/-- Whether a gaffer's pace share has a free slot in this clock (R17, R18). -/
def State.slotFree (s : State) (g : Nat) : Bool :=
  let n := if Tab.get 0 s.gaf.slotAt g = s.clk.loc + 1 then Tab.get 0 s.gaf.slotN g else 0
  n < paceShare s.paceBlock

/-- A slot of the pace share is used and the target's last action remembered. -/
def State.usePace (s : State) (g tgt : Nat) : State :=
  let n := if Tab.get 0 s.gaf.slotAt g = s.clk.loc + 1 then Tab.get 0 s.gaf.slotN g else 0
  { s with gaf := { s.gaf with
    slotAt := Tab.set 0 s.gaf.slotAt g (s.clk.loc + 1), slotN := Tab.set 0 s.gaf.slotN g (n + 1)
    lastP := if tgt = 0xFF then s.gaf.lastP else Tab.set 0 s.gaf.lastP tgt (s.now + 1) } }

/-- A time-strand action's target is remembered. -/
def State.useTime (s : State) (tgt : Nat) : State :=
  { s with gaf := { s.gaf with
    lastT := if tgt = 0xFF then s.gaf.lastT else Tab.set 0 s.gaf.lastT tgt (s.now + 1) } }

/-- An action is taken as issued in a round. -/
def State.markIssued (s : State) (r : ActRef) (round : Nat) : State :=
  { s with gaf := { s.gaf with issued := Tab.set 0 s.gaf.issued r.key round } }

/-- The waiting action of a place, if it is the first of its gaffer that may go. -/
def State.waitingFor (s : State) (r : ActRef) : Option Waiting :=
  let g := s.gafOf r.st r.l
  match s.gaf.waiting.find? (fun w => w.ref = r) with
  | none => none
  | some w =>
    if w.kind = .rewritten then some w
    else match s.gaf.waiting.find? (fun v => v.kind ≠ .rewritten && s.gafOf v.ref.st v.ref.l = g) with
      | some v => if v.ref = r then some w else none
      | none => none

/-- The waiting actions without the first of a place. -/
def dropWaiting (r : ActRef) : List Waiting → List Waiting
  | [] => []
  | w :: l => if w.ref = r then l else w :: dropWaiting r l

/-- Whether a GAFFER_DELAY seed holds an action back, and by how many gaffer clocks (R563). -/
def State.delaySeed (s : State) (g st : Nat) (a : Act) : Option Nat × State :=
  let r := s.inject 1 fun k => fld k 0 1 = g && (fld k 1 1 = 2 || fld k 1 1 = st) &&
    (fld k 3 1 = 0xFF || fld k 3 1 = a.op) && (fld k 4 1 = 0xFF || fld k 4 1 = a.tgt)
  (if r.1.isEmpty then none else some (r.1.map fun k => fld k 2 1).sum, r.2)

/-- Issue of a waiting action. -/
def State.issueWaiting (s : State) (r : ActRef) (a : Act) (w : Waiting) : Option Issued × State :=
  let g := s.gafOf r.st r.l
  let near := a.tgt ≠ 0xFF && (s.timeNear a.tgt ||
    (match s.sinceAct s.gaf.lastP a.tgt with | some d => decide (d < 8) | none => false))
  if s.now < w.since + 2 || near then (none, s)
  else if r.st = 1 && !s.slotFree g then (none, s)
  else
    let s := { s with gaf := { s.gaf with waiting := dropWaiting r s.gaf.waiting } }
    let s := if r.st = 1 then s.usePace g a.tgt else s.useTime a.tgt
    let base := if r.st = 1 then s.stateMark else 0
    let res := fun k (s : State) => (some { act := a, mark := base + k, gaf := g, ix := some r }, s)
    match w.kind with
    | .caughtUp => res 4 (s.count (tlStrand (6 + g)))
    | .deferred => res 8 (s.count (tlStrand (10 + g)))
    | .edge => res 0 s
    | .rewritten => res 0 s

/-- Issue of an action that is due: held by a seed, or passed on. -/
def State.issueDue (s : State) (r : ActRef) (a : Act) (round : Nat) : Option Issued × State :=
  let g := s.gafOf r.st r.l
  let s := s.markIssued r round
  let d := s.delaySeed g r.st a
  let s := d.2
  match d.1 with
  | some k =>
    (none, { s with gaf := { s.gaf with
      waiting := s.gaf.waiting ++ [(⟨r, .rewritten, s.now + 2 * k - 2⟩ : Waiting)] } })
  | none =>
    let s := if r.st = 1 then s.usePace g a.tgt else s.useTime a.tgt
    (some { act := a, mark := if r.st = 1 then s.stateMark else 0, gaf := g, ix := some r }, s)

/-- Issue of a pace action that is due: it waits behind catch-up or a time-strand action (R19, R38). -/
def State.issuePace (s : State) (r : ActRef) (a : Act) (round : Nat) : Option Issued × State :=
  let g := s.gafOf r.st r.l
  let queued := s.gaf.waiting.filter fun w => w.kind ≠ .rewritten && s.gafOf w.ref.st w.ref.l = g
  let hold := fun k =>
    ((none : Option Issued), { (s.markIssued r round) with gaf := { (s.markIssued r round).gaf with
      waiting := s.gaf.waiting ++ [(⟨r, k, s.now⟩ : Waiting)] } })
  if queued.any (·.kind = .caughtUp) || queued.any (·.kind = .deferred) then hold .deferred
  else if !queued.isEmpty then hold .edge
  else if s.timeNear a.tgt then hold .deferred
  else if !s.slotFree g then (none, s)
  else s.issueDue r a round

/-- Issue of an entry of the parison in force. -/
def State.issueEntry (s : State) (op : Nat) (r : ActRef) : Option Issued × State :=
  match s.entry r, s.par.force with
  | some a, some p =>
    let g := s.gafOf r.st r.l
    if a.op ≠ op || !s.gaf.active || !s.listLive r.st r.l then (none, s)
    else match s.waitingFor r with
      | some w => s.issueWaiting r a w
      | none =>
        let due := if r.st = 0 then
            (if s.gaf.paused.isSome || s.net + 2 < s.gaf.startNet then none
             else if s.relaxed && a.window && (a.op = 1 || a.op = 2) then none
             else dueRound s.net p.round (p.eff s.boundP a))
          else s.paceDue a.off
        match due with
        | none => (none, s)
        | some round =>
          if Tab.get 0 s.gaf.issued r.key = round then (none, s)
          else if s.gafBroken g r then
            (none, (s.markIssued r round).count (tlFeed (47 + g)))
          else if r.st = 0 then s.issueDue r a round
          else s.issuePace r a round
  | _, _ => (none, s)

/-- The gaffer that issues a one-off action (R520). -/
def State.oneOffGaf (s : State) (a : Act) : Nat :=
  let d := if a.tgt = 0xFF then a.domain else targetDomain a.tgt
  if d < 2 then d else s.gaf.spineT.gaf

/-- The pending one-off actions whose instants have not passed. -/
def State.oneOffsLeft (s : State) : List OneOff := s.par.oneOffs.filter fun o => s.net ≤ o.net + 2

/-- Issue of the pending one-off action that comes first (R43, R520). -/
def State.issueOneOff (s : State) (op : Nat) : Option Issued × State :=
  match s.oneOffsLeft with
  | [] => (none, s)
  | o :: l =>
    let g := s.oneOffGaf o.act
    if o.act.op ≠ op || s.net + 2 < o.net || !s.gaf.active || s.gaf.paused.isSome || !s.live g then
      (none, s)
    else
      let s := ({ s with par := { s.par with oneOffs := l } }).useTime o.act.tgt
      (some { act := o.act, mark := 0, gaf := g, ix := none }, s)

/-- The list number of an operand. -/
def listNo : GList → Nat
  | .a => 0 | .b => 1 | .spine => 2

/-- Issue of an action with an opcode. -/
def State.issue (s : State) (op : Nat) : ActSrc → Option Issued × State
  | .entry st l ix =>
    s.issueEntry op { st := (match st with | .time => 0 | .pace => 1), l := listNo l, ix := ix }
  | .oneOff => s.issueOneOff op

/-- An action's effect, where it is issued now. -/
def State.act (s : State) (op : Nat) (src : ActSrc) (f : Issued → State → State) : State :=
  match s.issue op src with
  | (some i, s) => f i s
  | (none, s) => s

/-! ### NOP, gates, ports (R55) -/

/-- NOP occupies a slot and does nothing else. -/
def execNop (dt : Nat) (src : ActSrc) (s : State) : Out :=
  go ((s.elapse dt).act 0 src fun _ s => s)

/-- A request of an action to a unit that is absent counts and has no effect (R162). -/
def State.toUnit (s : State) (tgt : Nat) (f : State → State) : State :=
  if s.absentUnit tgt then s.absentReq else f s

/-- OPEN_GATE (R156). -/
def execOpenGate (dt : Nat) (src : ActSrc) (s : State) : Out :=
  go ((s.elapse dt).act 1 src fun i s =>
    s.toUnit i.act.tgt fun s => s.openGates i.act.tgt (i.act.opnd % 256))

/-- CLOSE_GATE (R158). -/
def execCloseGate (dt : Nat) (src : ActSrc) (s : State) : Out :=
  go ((s.elapse dt).act 2 src fun i s =>
    s.toUnit i.act.tgt fun s => (s.closeGates i.act.tgt (i.act.opnd % 256)).egress i.act.tgt)

/-- PUBLISH_PORT (R189). -/
def execPublishPort (dt : Nat) (src : ActSrc) (s : State) : Out :=
  go ((s.elapse dt).act 3 src fun i s => s.publish (i.act.opnd % 4096))

/-- SAMPLE_PORT (R193). -/
def execSamplePort (dt : Nat) (src : ActSrc) (s : State) : Out :=
  go ((s.elapse dt).act 4 src fun i s => s.sample (i.act.opnd % 4096) i.mark)

/-! ### Tallies as values (R127, R165, R527) -/

/-- What a tally restarts from when it is cleared: the level itself for a highest or lowest value. -/
def State.tlyBase (s : State) (k : Nat) : Nat :=
  let g := k / 2 ^ 32
  let u := k / 2 ^ 16 % 2 ^ 16
  let i := k % 2 ^ 16
  if g = 0 ∧ u < 25 ∧ 47 ≤ i ∧ i < 55 then s.occupancy u (i - 47)
  else if g = 2 ∧ 4 ≤ i ∧ i ≤ 6 then s.free (i - 4) + 1 else 0

/-- The value a live tally reads as. -/
def State.tlyVal (s : State) (k : Nat) : Nat :=
  let v := Tab.get 0 s.tly.live k
  if k / 2 ^ 32 = 2 ∧ 4 ≤ k % 2 ^ 16 ∧ k % 2 ^ 16 ≤ 6 then
    (if v = 0 then s.free (k % 2 ^ 16 - 4) else v - 1)
  else v

/-- Clearing a live tally. -/
def State.tlyClear (s : State) (k : Nat) : State :=
  { s with tly := { s.tly with live := Tab.set 0 s.tly.live k (s.tlyBase k) } }

/-- One tally moves into its snapshot. -/
def State.snapOne (s : State) (k : Nat) : State :=
  let v := s.tlyVal k
  let s := { s with tly := { s.tly with
    snap := Tab.upd 0 s.tly.snap k fun w => min tlyMax (w + v) } }
  s.tlyClear k

/-- Due times of an entry from `a` up to, not including, `b`. -/
def dueCount (a b l o : Nat) : Nat :=
  if l = 0 then 0
  else
    let f := nextAt a l o
    if f < b then (b - 1 - f) / l + 1 else 0

/-- During a takeover, `n` more actions missed up to `at_`. -/
def SpineHold.add (h : SpineHold) (at_ n : Nat) : SpineHold :=
  { h with missed := max h.missed at_, lost := h.lost + n }

/-- The spine actions that a takeover has left unissued by now are counted (R427). -/
def State.spineCount (s : State) : State :=
  match s.par.force with
  | none => s
  | some p =>
    let t := s.gaf.spineT
    let q := s.gaf.spineP
    let hiT := match t.wait with | some b => min s.net b | none => 0
    let fromT := max t.missed (s.gaf.paused.getD s.gaf.startNet)
    let nT := ((p.acts 0 2).map fun a => dueCount fromT hiT p.round (p.eff s.boundP a)).sum
    let hiP := match q.wait with | some 0 => s.paceAt | some b => min s.paceAt b | none => 0
    let u := 2 ^ 32
    let nP := ((p.acts 1 2).map fun a => dueCount q.missed hiP (paceRound p.pace * u) (a.off * u)).sum
    ({ s with gaf := { s.gaf with
      spineT := if t.wait.isSome then t.add hiT nT else t
      spineP := if q.wait.isSome then q.add hiP nP else q } }).countN (tlFeed 4) (nT + nP)

/-- TALLY_SNAP of the groups of a mask (R527). -/
def State.snapGroups (s : State) (mask : Nat) : State :=
  let s := s.spineCount
  let keys := ((s.tly.live.map (·.1)) ++ [tlFab 4, tlFab 5, tlFab 6]).eraseDups
  let s := (keys.filter fun k => bit mask (k / 2 ^ 32)).foldl State.snapOne s
  { s with tly := { s.tly with
    snapAt := (List.range 16).foldl
      (fun t g => if bit mask g then Tab.set 0 t g (s.net + 1) else t) s.tly.snapAt } }

/-- TALLY_SNAP. -/
def execTallySnap (dt : Nat) (src : ActSrc) (s : State) : Out :=
  go ((s.elapse dt).act 12 src fun i s => s.snapGroups (i.act.opnd % 65536))

/-- The time strand's offset within its round. -/
def State.timeOffset (s : State) : Nat :=
  match s.par.force with | some p => if p.round = 0 then 0 else s.net % p.round | none => 0

/-- MARK (R55, R87). -/
def execMark (dt : Nat) (src : ActSrc) (s : State) : Out :=
  go ((s.elapse dt).act 13 src fun i s => s.note (ev 2 5)
    (le 4 (i.act.opnd % 2 ^ 32) ++ secNs s.net ++ le 4 s.timeOffset ++ le 4 s.paceOffset))

/-! ### Steps of network time (R40) -/

/-- Network time steps to `net` (ns) while a parison is active: issue pauses, gates close, the due
times up to the resumption are dropped and counted. -/
def State.stepTime (s : State) (net : Nat) : State :=
  let was := s.net
  let s := s.spineCount
  let s := { s with clk := { s.clk with net := net * 2 ^ 48 } }
  match s.par.force with
  | none => s
  | some p =>
    if !s.gaf.active then s
    else
      let l := max 1 p.round
      let at_ := ceilMul (net + 2 * l) l
      let s := s.closeAll
      let drop := fun (s : State) (k : Nat) =>
        let g := s.gafOf 0 k
        if !s.live g || !s.listLive 0 k then s
        else s.countN (tlStrand (12 + g))
          ((p.acts 0 k).map fun a => dueCount net at_ p.round (p.eff s.boundP a)).sum
      let s := (List.range 3).foldl drop s
      let hold := s.gaf.spineT
      let moved := if hold.wait.isSome || s.lehr.gafRetire.isSome then
          { hold with wait := hold.wait.map fun _ => at_, missed := at_ } else hold
      let s := s.par.oneOffs.foldl (fun s o => s.count (tlStrand (12 + s.oneOffGaf o.act))) s
      let later := fun (l : List (Nat × Nat)) =>
        (l.filter fun x => was < x.2).map fun x => (x.1, at_)
      { s with
        gaf := { s.gaf with
          paused := some at_, spineT := moved, waiting := s.gaf.waiting.filter (·.ref.st = 1) }
        par := { s.par with oneOffs := [] }
        inaug := { s.inaug with
          pending := s.inaug.pending.map fun x => (at_, x.2)
          optrnAt := s.inaug.optrnAt.map fun x => (at_, x.2)
          opening := later s.inaug.opening } }

/-- TIME_STRAND_RESUME: the resumption boundary has come. -/
def execTimeStrandResume (dt : Nat) (s : State) : Out :=
  let s := s.elapse dt
  match s.gaf.paused with
  | some b => if b ≤ s.net + 2 then
      go { s with gaf := { s.gaf with paused := none, startNet := b } } else go s
  | none => go s

end Sys2Proof.Machine
end

