-- ==== Sys2Proof/Machine/Vault.lean ====
section
/-! DEFINITION. The vault (chapter 15): its record and counters, boot control (R543), warrants,
lifecycle, enrolment, certificate, attestation, randomness, and link keying. -/

namespace Sys2Proof.Machine

/-! ### Boot control (R543) -/

/-- Whether a boot control copy is valid. -/
def bootValid (c : List Byte) : Bool :=
  c.length = 32 && c.take 4 = [0x5A, 0x42, 0x4F, 0x43] &&
    crc32c (c.take 0x1C) = BitVec.ofNat 32 (fld c 0x1C 4)

/-- The block taken where no copy is valid: slot 0, no role held. -/
def bootNone : List Byte := [0x5A, 0x42, 0x4F, 0x43, 0, 0, 0, 0, 0, 0xFF, 0xFF, 0xFF] ++ zeros 20

/-- Whether copy 0 is the one in force. -/
def Flash.bootFirst (f : Flash) : Bool :=
  bootValid f.boot0 && (!bootValid f.boot1 || fld f.boot1 4 4 < fld f.boot0 4 4)

/-- The boot control block in force in flash. -/
def Flash.bootNow (f : Flash) : List Byte :=
  if f.bootFirst then f.boot0 else if bootValid f.boot1 then f.boot1 else bootNone

/-- The block as it will stand once deferred writes are made. -/
def Flash.bootSoon (f : Flash) : List Byte :=
  f.defer.foldl (fun c d => match d with
    | .boot o b => overlay c o b
    | .day _ => c
    | .conf _ _ => c
    | .energy => c) f.bootNow

/-- A new boot control block in the other copy, its generation one higher. -/
def Flash.writeBoot (f : Flash) (o : Nat) (bytes : List Byte) : Flash :=
  let c := overlay (overlay f.bootNow 4 (le 4 (fld f.bootNow 4 4 + 1))) o bytes
  let c := c.take 0x1C ++ le 4 (crc32c (c.take 0x1C)).toNat
  if f.bootFirst then { f with boot1 := c } else { f with boot0 := c }

/-- A change of boot control, now or after the feed warning (R425). -/
def State.setBoot (s : State) (o : Nat) (bytes : List Byte) : State :=
  if s.flashHeld then s.deferWrite (.boot o bytes)
  else { s with flash := s.flash.writeBoot o bytes }

/-- The region of the default parison, if one is held. -/
def State.defaultRegion (s : State) : Option Nat :=
  let r := fld s.flash.bootSoon 0x0B 1
  if r < 4 then some r else none

/-- Whether an image in a parison region is unsigned (R52). -/
def unsignedImage (img : List Byte) : Bool := fld img (fld img 12 4) 2 = 0

/-! ### The vault record (R480 to R482) -/

/-- The valid copy of the record. -/
def State.record (s : State) : Option VaultRec :=
  let f := s.flash
  if f.rec0.valid && f.rec0.gen = s.sec.genUsed then some f.rec0
  else if f.rec1.valid && f.rec1.gen = s.sec.genUsed then some f.rec1 else none

/-- Whether the record can still be written: a RECORD_GEN bit remains (R481). -/
def State.canRecord (s : State) : Bool := s.sec.genUsed < 1024

/-- The vault writes its record from its present values, in the other copy. -/
def State.saveRecord (s : State) : State :=
  let r : VaultRec :=
    { gen := s.sec.genUsed + 1, life := s.sec.life, fw := s.sec.fw, par := s.sec.par
      warrant := s.sec.warrant, pin := s.sec.pin, policy := s.sec.policy, valid := true }
  let first := s.flash.rec0.valid && s.flash.rec0.gen = s.sec.genUsed
  let s := { s with
    flash := if first then { s.flash with rec1 := r } else { s.flash with rec0 := r }
    sec := { s.sec with genUsed := s.sec.genUsed + 1 } }
  let s := s.count (tlSec 2)
  if s.sec.genUsed = 960 then s.note (ev 15 3) (le 4 64) else s

/-- A change of the vault's values, written to the record if it changes anything. -/
def State.recordUpd (s : State) (f : Sec → Sec) : State :=
  let t := { s with sec := f s.sec }
  if t.sec = s.sec then s else t.saveRecord

/-- The PAR counter is raised at the activation of a signed parison (R484). -/
def State.raisePar (s : State) (rollback : Nat) : State :=
  if s.sec.par < rollback ∧ s.canRecord ∧ !s.sec.recordBad then
    s.recordUpd fun x => { x with par := rollback }
  else s

/-! ### Randomness (R500 to R502) -/

/-- A draw of `n` bytes from the DRBG. -/
def State.draw (s : State) (n : Nat) : List Byte × State :=
  (Config.drbg s.sec.draws n, { s with sec := { s.sec with
    draws := s.sec.draws + 1, requests := s.sec.requests + 1 } })

/-- SEC_TRNG: a health test fails (R502). -/
def execSecTrng (dt : Nat) (test : Fin 3) (s : State) : Out :=
  let s := s.elapse dt
  go (if !s.awake || s.sec.trngFailed then s
    else (({ s with sec := { s.sec with trngFailed := true } }).count (tlSec 3)).note (ev 15 4)
      (le 1 test.val))

/-- DRBG_RESEED: the DRBG takes new entropy (R500); its later output is the next draws'. -/
def execDrbgReseed (dt : Nat) (s : State) : Out :=
  let s := s.elapse dt
  go (if !s.awake || s.sec.trngFailed then s
    else { s with sec := { s.sec with
      draws := s.sec.draws + 1, requests := 0, reseedAt := s.now } })

/-! ### Identity -/

/-- DEVICE_UID. -/
def uidBytes : List Byte := le 16 Config.deviceUid
/-- The first 8 bytes of a public key's digest. -/
def keyId (pk : List Byte) : List Byte := (sha256 pk).take 8
/-- KEY_ID of the operator root key, zero in BLANK. -/
def State.rootId (s : State) : List Byte :=
  match s.sec.rootPk with | some k => keyId k | none => zeros 8
/-- Whether an identity certificate is stored. -/
def State.hasCert (s : State) : Bool := !s.flash.cert.isEmpty

/-- Whether a certificate verifies under the root key (R492, R494). -/
def State.certOk (s : State) (c : List Byte) : Bool :=
  match s.sec.rootPk with
  | none => false
  | some pk =>
    c.length = 7936 && c.take 4 = [0x5A, 0x49, 0x44, 0x43] && fld c 4 2 = 1 && zeroAt c 6 2 &&
      zeroAt c 0x3E 2 && slice c 0x40 8 = keyId pk && Config.slhVerify pk (c.take 0x50) (c.drop 0x50)

/-! ### Warrants (R485 to R488) -/

/-- ARG of a warrant. -/
def wArg (w : List Byte) : List Byte := slice w 0x30 64

/-- The checks of R488 on a staged warrant: the operations allowed, what ARG must be, the key. -/
def State.warrantGood (s : State) (ops : List Nat) (argOk : List Byte → Bool) : Bool :=
  let w := s.sec.stagedW
  let enrol := fld w 6 2 = 1
  let pk := if enrol then some ((wArg w).take 32) else s.sec.rootPk
  let nonce := slice w 0x18 16
  w.length = 7984 && w.take 4 = [0x5A, 0x57, 0x41, 0x52] && fld w 4 2 = 1 && zeroAt w 0x2C 4 &&
    zeroAt w 0x78 8 && ops.contains (fld w 6 2) && argOk (wArg w) && slice w 8 16 = uidBytes &&
    (match pk with
     | some k => slice w 0x70 8 = keyId k && Config.slhVerify k (w.take 0x80) (w.drop 0x80)
     | none => false) &&
    (if allZero nonce then decide (s.sec.warrant < fld w 0x28 4) && !enrol
     else some nonce = s.sec.nonce && fld w 0x28 4 = 0)

/-- The check of the staged warrant: whether it passes, its bytes, the state after; the warrant and
the nonce are gone (R488). -/
def State.takeWarrant (s : State) (ops : List Nat) (argOk : List Byte → Bool) :
    Bool × List Byte × State :=
  let w := s.sec.stagedW
  let ok := s.warrantGood ops argOk
  let nonce := slice w 0x18 16
  let s := { s with sec := { s.sec with stagedW := [], nonce := none } }
  let s := (s.count (tlSec (if ok then 0 else 1))).note (ev 15 1)
    (le 2 (fld w 6 2) ++ le 1 (bnat !ok) ++ (if allZero nonce then le 4 (fld w 0x28 4) else nonce))
  (ok, w, s)

/-- The WARRANT counter after a warrant is used: raised to an offline warrant's SEQ. -/
def raiseSeq (w : List Byte) (x : Sec) : Sec :=
  if allZero (slice w 0x18 16) then { x with warrant := max x.warrant (fld w 0x28 4) } else x

/-- Staging by chunks (R73): a chunk at 0 starts anew, a later one must begin where the staged bytes
end. -/
def stageChunk (staged : List Byte) (off limit : Nat) (data : List Byte) : Option (List Byte) :=
  if off = 0 then (if data.length ≤ limit then some data else none)
  else if off = staged.length ∧ off + data.length ≤ limit then some (staged ++ data) else none

/-- A COUNTER warrant raises a counter of the record; with a record whose copies all fail it starts the
record anew from its counters, if it carries a nonce (R482, R486). -/
def State.counterWarrant (s : State) (w : List Byte) : Reply :=
  let a := wArg w
  let v := fld a 4 4
  let k := fld a 0 1
  if s.sec.recordBad then
    if allZero (slice w 0x18 16) then refuse stDenied s
    else ans stOk [] ({ s with sec := { s.sec with
      recordBad := false, fw := if k = 0 then v else 0, par := if k = 1 then v else 0
      warrant := if k = 2 then v else 0 } }).saveRecord
  else ans stOk [] (s.recordUpd fun x => raiseSeq w
    (if k = 0 then { x with fw := v } else if k = 1 then { x with par := v } else { x with warrant := v }))

/-- A LIFECYCLE warrant moves the device along one legal step; SERVICE needs every condition the spec
names for it (R490). -/
def State.lifeWarrant (s : State) (w : List Byte) : Reply :=
  let goal := fld (wArg w) 0 1
  let from_ := s.sec.life
  let legal := (from_ = 1 && (goal = 2 || goal = 3)) || (from_ = 2 && goal = 3) || (from_ = 3 && goal = 2)
  let unsignedPar := fun (p : Option Par) => match p with | some q => !q.signed | none => false
  let bad := goal = 2 && (unsignedPar s.par.force || unsignedPar s.par.committed ||
    (match s.defaultRegion with
     | some d => unsignedImage (Tab.get [] s.flash.pr d) | none => false) ||
    !s.seeds.armed.isEmpty || fld s.sec.policy 0 4 ≠ 0 || !s.hasCert ||
    (List.range 24).any fun p => !bit (fld s.time.conf (33 + 16 * p) 1) 0)
  if !legal || bad || s.sec.recordBad then refuse stDenied s
  else
    let s := s.recordUpd fun x => raiseSeq w { x with life := goal }
    ans stOk [] (s.note (ev 15 0) (le 1 from_ ++ le 1 goal))

/-- MB_WARRANT. -/
def cmdWarrant : Cmd :=
  { op := 0x0D02
    shape := fun b => b.length ≥ 8 && zeroAt b 1 3 &&
      (if fld b 0 1 = 1 then b.length > 8 else b.length = 8)
    run := fun b s =>
      let op := fld b 0 1
      if op = 0 then
        if s.sec.trngFailed then refuse stDenied s
        else
          let r := s.draw 16
          let n := padTo 0 16 r.1
          ans stOk n { r.2 with sec := { r.2.sec with nonce := some n } }
      else if op = 1 then
        match stageChunk s.sec.stagedW (fld b 4 4) 7984 (b.drop 8) with
        | some w => ans stOk [] { s with sec := { s.sec with stagedW := w } }
        | none => refuse stMalformed s
      else if op = 3 then ans stOk [] { s with sec := { s.sec with stagedW := [] } }
      else if op ≠ 2 then refuse stMalformed s
      else
        let r := s.takeWarrant [2, 6] fun a =>
          if fld s.sec.stagedW 6 2 = 2 then allZero (a.drop 1)
          else fld a 0 1 < 3 && zeroAt a 1 3 && allZero (a.drop 8)
        let w := r.2.1
        let s := r.2.2
        if !r.1 then refuse stWarrant s
        else if !s.canRecord then refuse stDenied s
        else if fld w 6 2 = 6 then s.counterWarrant w
        else s.lifeWarrant w }

/-- WARRANT_CHALLENGE. -/
def execWarrantChallenge (dt : Nat) (r : Req) (s : State) : Out :=
  go ((s.elapse dt).submit cmdWarrant (withOp r 0))
/-- WARRANT_STAGE. -/
def execWarrantStage (dt : Nat) (r : Req) (s : State) : Out :=
  go ((s.elapse dt).submit cmdWarrant (withOp r 1))
/-- WARRANT_APPLY. -/
def execWarrantApply (dt : Nat) (r : Req) (s : State) : Out :=
  go ((s.elapse dt).submit cmdWarrant (withOp r 2))
/-- WARRANT_CLEAR. -/
def execWarrantClear (dt : Nat) (r : Req) (s : State) : Out :=
  go ((s.elapse dt).submit cmdWarrant (withOp r 3))

/-! ### Enrolment and certificate (R491, R492) -/

/-- MB_ENROL. -/
def cmdEnrol : Cmd :=
  { op := 0x0D01
    shape := fun b => b.length ≥ 8 && zeroAt b 1 3 &&
      (if fld b 0 1 = 1 then b.length > 8 else b.length = 8)
    run := fun b s =>
      let op := fld b 0 1
      if op = 0 then
        let r := s.takeWarrant [1] fun a => allZero (a.drop 32)
        let s := r.2.2
        if !r.1 then refuse stWarrant s
        else if s.sec.life ≠ 0 || s.sec.trngFailed || s.sec.rootPk.isSome || !s.canRecord ||
            s.sec.recordBad then refuse stDenied s
        else
          let d := s.draw 48
          let s := d.2
          let s := { s with sec := { s.sec with
            rootPk := some ((wArg r.2.1).take 32), idSeed := some d.1, life := 1 } }
          let s := s.saveRecord
          let s := { s with day := { s.day with boot := 0 } }
          ans stOk (uidBytes ++ macBytes Config.nodeMac ++ zeros 2 ++ padTo 0 32 (Config.idPublic d.1))
            (s.note (ev 15 0) (le 1 0 ++ le 1 1))
      else if op = 1 then
        if s.flashHeld then refuse stBusy s
        else match stageChunk s.sec.stagedC (fld b 4 4) 7936 (b.drop 8) with
          | none => refuse stMalformed s
          | some c =>
            let s := { s with sec := { s.sec with stagedC := c } }
            if c.length < 7936 then ans stOk [] s
            else
              let pk := match s.sec.idSeed with
                | some d => padTo 0 32 (Config.idPublic d) | none => []
              if s.certOk c && slice c 8 16 = uidBytes && slice c 0x18 32 = pk &&
                  slice c 0x38 6 = macBytes Config.nodeMac then
                ans stOk [] { s with
                  flash := { s.flash with cert := c }, sec := { s.sec with stagedC := [] } }
              else refuse stDenied { s with sec := { s.sec with stagedC := [] } }
      else if op = 2 then
        if !s.hasCert then refuse stDenied s
        else ans stOk (le 4 s.flash.cert.length ++ slice s.flash.cert (fld b 4 4) 4000) s
      else refuse stMalformed s }

/-- ENROL_GENERATE. -/
def execEnrolGenerate (dt : Nat) (r : Req) (s : State) : Out :=
  go ((s.elapse dt).submit cmdEnrol (withOp r 0))
/-- ENROL_CERT. -/
def execEnrolCert (dt : Nat) (r : Req) (s : State) : Out :=
  go ((s.elapse dt).submit cmdEnrol (withOp r 1))
/-- ENROL_READ_CERT. -/
def execEnrolReadCert (dt : Nat) (r : Req) (s : State) : Out :=
  go ((s.elapse dt).submit cmdEnrol (withOp r 2))

/-! ### Behaviour pin (R473) and link policy (R497) -/

/-- The host writes the link policy with MB_LINK_POLICY. -/
def cmdLinkPolicy : Cmd :=
  { op := 0x0D04
    shape := fun b => cfgOpts b false && cfgLen b 4 16 && (bit (fld b 0 4) 1 || zeroAt b 10 10)
    run := fun b s =>
      let c := b.drop 4
      if bit (fld b 0 4) 1 then ans stOk s.sec.policy s
      else if fld c 0 4 ≠ 0 && s.sec.life = 2 then refuse stDenied s
      else if fld c 0 4 ≥ 2 ^ 25 || fld c 4 2 < 1 || fld c 4 2 > 168 then refuse stMalformed s
      else if s.flashHeld then refuse stBusy s
      else if c ≠ s.sec.policy && (!s.canRecord || s.sec.recordBad) then refuse stDenied s
      else ans stOk c (s.recordUpd fun x => { x with policy := c }) }

/-- MB_LINK_POLICY from the host. -/
def execMbLinkPolicy (dt : Nat) (r : Req) (s : State) : Out :=
  go ((s.elapse dt).submit cmdLinkPolicy r)

/-! ### Attestation (R499) -/

/-- The signed part of a quote. -/
def State.quoteHead (s : State) (nonce : List Byte) : List Byte :=
  [(0x5A : Byte), 0x41, 0x54, 0x51] ++ le 2 1 ++ le 1 s.sec.life ++ [s.sys.behav] ++ uidBytes ++
    nonce ++ secNs s.net ++ le 4 s.sec.fw ++ le 4 s.sec.par ++ le 4 s.sec.warrant ++
    s.sys.fwHash ++ (List.range 32).map Config.romHash ++
    (match s.par.force with | some p => p.hash | none => zeros 32) ++
    (match s.par.committed with | some p => p.hash | none => zeros 32) ++ le 1 s.sec.pin ++
    le 1 (bnat !s.seeds.armed.isEmpty) ++ le 2 (1024 - s.sec.genUsed) ++ zeros 12

/-- MB_ATTEST. -/
def cmdAttest : Cmd :=
  { op := 0x0D03
    shape := fun b => b.length = 40 && zeroAt b 1 3
    run := fun b s =>
      let op := fld b 0 1
      if op > 1 || (op = 1 && !zeroAt b 8 32) then refuse stMalformed s
      else if s.sec.life = 0 then refuse stDenied s
      else if s.sec.quotePend.isSome then refuse stBusy s
      else if op = 1 then
        if s.sec.quote.isEmpty then refuse stDenied s
        else ans stOk (le 4 17312 ++ slice s.sec.quote (fld b 4 4) 4000) s
      else if s.sec.trngFailed then refuse stDenied s
      else ans stOk [] { s with sec := { s.sec with
        quote := [], quotePend := some (s.quoteHead (slice b 8 32))
        ops := s.sec.ops ++ [(⟨25, 5⟩ : VaultOp)] } } }

/-- ATTEST_SIGN. -/
def execAttestSign (dt : Nat) (r : Req) (s : State) : Out :=
  go ((s.elapse dt).submit cmdAttest (withOp r 0))
/-- ATTEST_READ. -/
def execAttestRead (dt : Nat) (r : Req) (s : State) : Out :=
  go ((s.elapse dt).submit cmdAttest (withOp r 1))

/-! ### Link keying (R493 to R498) -/

/-- ENABLE of the twin record (R395). -/
def State.twinOn (s : State) : Bool := bit (fld s.twin.conf 0 1) 0
/-- PEER_MAC of the twin record. -/
def State.peerMac (s : State) : BitVec 48 := macAt s.twin.conf 6

/-- Whether a link's medium is up: a port's link, or an escrow lane (24). -/
def State.linkUp (s : State) (l : Nat) : Bool :=
  if l = 24 then s.twinOn && (s.twin.lane0 || s.twin.lane1) else (s.mac l).up && !s.absentUnit l

/-- Whether the vault can key links (R482, R489, R504). -/
def State.canKey (s : State) : Bool := s.sec.life ≠ 0 && !s.sec.recordBad && !s.sec.restarting

/-- The peer's address as the device knows it before keying: the neighbour, or PEER_MAC. -/
def State.knownPeer (s : State) (l : Nat) : Option (BitVec 48) :=
  if l = 24 then some s.peerMac
  else if l < 4 then
    (let n := (Tab.get bb0 s.inaug.bb l).nbr
     if n = 0 then none else some n)
  else none

/-- A vault operation joins those in order. -/
def State.vaultOp (s : State) (l kind : Nat) : State :=
  { s with sec := { s.sec with ops := s.sec.ops ++ [(⟨l, kind⟩ : VaultOp)] } }

/-- A session fails (R498). -/
def State.keyFail (s : State) (l cause : Nat) : State :=
  let x := s.key l
  let wait := if x.wait = 0 then 1000000000 else min (2 * x.wait) 64000000000
  let s := s.keySend l 7 x.session (le 1 cause)
  let s := s.setKey l { x with
    stage := .backoff, wait := wait, due := some (s.now + wait), lastType := 0, lastBody := [] }
  (s.count (tlKey l mKeyFail)).note (ev 15 6) (le 1 l ++ le 1 cause ++ macBytes x.peer)

/-- A message is sent, and repeated until the answer comes (R495). -/
def State.keyAsk (s : State) (l ty : Nat) (stage : KeyStage) (body : List Byte) : State :=
  let x := s.key l
  let s := s.setKey l { x with
    stage := stage, lastType := ty, lastBody := body, repeats := 0, due := some (s.now + 200000000) }
  s.keySend l ty x.session body

/-- A session begins on a link: INIT from the initiator, waiting at the responder (R493). -/
def State.keyBegin (s : State) (l : Nat) : State :=
  let x := s.key l
  let first := match s.knownPeer l with
    | some m => decide (Config.nodeMac.toNat < m.toNat)
    | none => true
  let s := s.setKey l { x with
    keyed := true, initiator := first, peer := (s.knownPeer l).getD 0, stage := .idle, due := none }
  if !first then s
  else if s.sec.trngFailed then s.keyFail l 5
  else if !s.hasCert then s.keyFail l 1
  else
    let a := s.draw 4
    let b := a.2.draw 32
    let n := b.2.sec.draws
    let s := (b.2.draw 64).2
    let body := padTo 0 32 b.1 ++ s.flash.cert ++ padTo 0 1184 (Config.kemPublic n)
    let s := s.setKey l { s.key l with
      session := BitVec.ofNat 32 (ofLe (padTo 0 4 a.1)), draw := n, initBody := body }
    s.keyAsk l 1 .waitResp body

/-- Keying of a link is asked for (R493); a link the policy opens is never keyed (R497). -/
def State.keyStart (s : State) (l : Nat) : State :=
  if !s.canKey || (s.key l).isOpen || !s.linkUp l then s else s.keyBegin l

/-- A link's policy applies at its link change (R497). -/
def State.keyPolicy (s : State) (l : Nat) : State :=
  s.setKey l { s.key l with isOpen := bit (fld s.sec.policy 0 4) l && s.sec.life ≠ 2 }

/-- A link loses its associations and its session, without ABORT (R498, R504). -/
def State.keyDrop (s : State) (l : Nat) : State :=
  let s := s.setSa l sa0
  let s := { s with sec := { s.sec with ops := s.sec.ops.filter (·.link != l) } }
  s.setKey l { keyLink0 with isOpen := (s.key l).isOpen }

/-- The first time-strand round boundary at or after now (R236); none without a parison. -/
def State.nextRound (s : State) : Option Nat :=
  match s.par.force with
  | some p => if s.gaf.active then some (ceilMul s.net p.round) else none
  | none => none

/-- The port of a newly secured link opens at the next round boundary (R236). -/
def State.openSoon (s : State) (l : Nat) : State :=
  match s.nextRound with
  | some b => { s with inaug := { s.inaug with
      opening := (s.inaug.opening.filter (·.1 != l)) ++ [(l, b)] } }
  | none => s

/-- Both associations are installed and the link is secured (R495). -/
def State.keyInstall (s : State) (l : Nat) : State :=
  let x := s.key l
  let was := (s.sa l).secured
  let s := s.setSa l { sa0 with secured := true, rx := [(0, 0)] }
  let s := s.setKey l { x with
    stage := .idle, ikm := x.secret, salt := x.h2, nextK := 1, keyedAt := some s.now, wait := 0 }
  let s := if was then s else s.openSoon l
  (s.count (tlKey l mKeyOk)).note (ev 15 5)
    (le 1 l ++ macBytes x.peer ++ x.serial ++ le 4 x.session.toNat)

/-- H1 of a session. -/
def KeyLink.h1 (x : KeyLink) : List Byte := sha256 (x.initBody ++ x.respBody.take 9056)

/-- KEY_INIT_RX: INIT arrives at the responder. -/
def State.keyInit (s : State) (m : KeyMsg) : State :=
  let l := m.link.val
  let x := s.key l
  if !s.linkUp l || !s.canKey || x.isOpen || !x.keyed || m.body.length ≠ 9152 ||
      Config.nodeMac.toNat ≤ m.src.toNat then s
  else if m.session = x.session && !x.initiator && x.initBody = m.body then
    (if x.lastType = 2 then s.keySend l 2 x.session x.lastBody else s)
  else
    let s := { s with sec := { s.sec with ops := s.sec.ops.filter (·.link != l) } }
    let s := s.setKey l { x with
      initiator := false, session := m.session, peer := m.src, initBody := m.body
      serial := slice m.body (32 + 0x48) 8, stage := .verifyInit, due := none, lastType := 0
      lastBody := [] }
    s.vaultOp l 0

/-- KEY_INIT_RX. -/
def execKeyInitRx (dt : Nat) (m : KeyMsg) (s : State) : Out := go ((s.elapse dt).keyInit m)

/-- KEY_RESP_RX: RESP arrives at the initiator. -/
def State.keyResp (s : State) (m : KeyMsg) : State :=
  let l := m.link.val
  let x := s.key l
  if !s.linkUp l || !x.initiator || m.session ≠ x.session || m.body.length ≠ 26144 ||
      m.src.toNat ≤ Config.nodeMac.toNat then s
  else if x.stage = .waitDone && x.lastType = 3 then s.keySend l 3 x.session x.lastBody
  else if x.stage ≠ .waitResp then s
  else
    let s := s.setKey l { x with
      respBody := m.body, peer := m.src, serial := slice m.body (32 + 0x48) 8, stage := .verifyResp
      due := none }
    s.vaultOp l 2

/-- KEY_RESP_RX. -/
def execKeyRespRx (dt : Nat) (m : KeyMsg) (s : State) : Out := go ((s.elapse dt).keyResp m)

/-- KEY_CONFIRM_RX: CONFIRM arrives at the responder. -/
def State.keyConfirm (s : State) (m : KeyMsg) : State :=
  let l := m.link.val
  let x := s.key l
  if !s.linkUp l || x.initiator || m.session ≠ x.session || m.src ≠ x.peer ||
      m.body.length ≠ 17088 then s
  else if x.stage = .idle && x.lastType = 4 then s.keySend l 4 x.session x.lastBody
  else if x.stage ≠ .waitConfirm then s
  else (s.setKey l { x with stage := .verifyConfirm, respBody := m.body, due := none }).vaultOp l 4

/-- KEY_CONFIRM_RX. -/
def execKeyConfirmRx (dt : Nat) (m : KeyMsg) (s : State) : Out := go ((s.elapse dt).keyConfirm m)

/-- KEY_DONE_RX: DONE verifies and the initiator installs its associations (R495). -/
def State.keyDone (s : State) (m : KeyMsg) : State :=
  let l := m.link.val
  let x := s.key l
  let k := Config.hkdf x.secret x.h2 (ascii "ZN CONFIRM")
  if !s.linkUp l || x.stage ≠ .waitDone || m.session ≠ x.session || m.src ≠ x.peer ||
      m.body ≠ Config.hmac k x.h2 then s
  else (s.setKey l { x with due := none, lastType := 0, lastBody := [] }).keyInstall l

/-- KEY_DONE_RX. -/
def execKeyDoneRx (dt : Nat) (m : KeyMsg) (s : State) : Out := go ((s.elapse dt).keyDone m)

/-- Whether a NEXT or NEXT_ACK authenticates. -/
def nextOk (x : KeyLink) (m : KeyMsg) : Bool :=
  m.session = x.session && x.keyedAt.isSome &&
    m.body.length = 40 && m.body.drop 8 = Config.hmac (x.key "ZN CONFIRM") (m.body.take 8)

/-- KEY_NEXT_RX: the next receive association is installed and answered (R496). -/
def State.keyNext (s : State) (m : KeyMsg) : State :=
  let l := m.link.val
  let x := s.key l
  if !s.linkUp l || !(s.sa l).secured then s
  else if !nextOk x m then s.count (tlKey l mKeyFail)
  else
    let an := fld m.body 4 1 % 4
    let a := s.sa l
    let seen := a.rx.any (·.1 = an)
    let s := if seen then s
      else s.setSa l { a with rx := pushKeep 2 a.rx (an, 0) }
    let s := if seen then s else s.count (tlKey l mRekey)
    s.keySend l 6 x.session (nextBody x (fld m.body 0 4) an)

/-- KEY_NEXT_RX. -/
def execKeyNextRx (dt : Nat) (m : KeyMsg) (s : State) : Out := go ((s.elapse dt).keyNext m)

/-- KEY_NEXT_ACK_RX: transmission moves to the new association (R496). -/
def State.keyNextAck (s : State) (m : KeyMsg) : State :=
  let l := m.link.val
  let x := s.key l
  if !s.linkUp l || !(s.sa l).secured || x.lastType ≠ 5 then s
  else if !nextOk x m then s.count (tlKey l mKeyFail)
  else if fld m.body 0 4 ≠ x.nextK then s
  else
    let s := s.setSa l { s.sa l with
      txAn := fld m.body 4 1 % 4, txPn := 0, asked := false, held := false }
    let s := s.setKey l { x with nextK := x.nextK + 1, lastType := 0, lastBody := [], due := none }
    (s.count (tlKey l mRekey)).egress l

/-- KEY_NEXT_ACK_RX. -/
def execKeyNextAckRx (dt : Nat) (m : KeyMsg) (s : State) : Out := go ((s.elapse dt).keyNextAck m)

/-- Whether a session is in progress. -/
def KeyLink.busy (x : KeyLink) : Bool := x.stage != .idle && x.stage != .backoff

/-- KEY_ABORT_RX: the peer's ABORT fails the session (R498). -/
def execKeyAbortRx (dt : Nat) (m : KeyMsg) (s : State) : Out :=
  let s := s.elapse dt
  let l := m.link.val
  let x := s.key l
  go (if s.linkUp l && x.busy && m.session = x.session then
    ({ s with sec := { s.sec with ops := s.sec.ops.filter (·.link != l) } }).keyFail l 4 else s)

/-- The responder has verified the initiator's certificate: it encapsulates and signs. -/
def State.keyVerified (s : State) (l : Nat) : State :=
  let x := s.key l
  let c := slice x.initBody 32 7936
  if !s.certOk c || macAt c 0x38 ≠ x.peer || (l = 24 && x.peer ≠ s.peerMac) || !s.hasCert then
    s.keyFail l 1
  else if s.sec.trngFailed then s.keyFail l 5
  else
    let a := s.draw 32
    let n := a.2.sec.draws
    let s := (a.2.draw 32).2
    let ek := slice x.initBody 7968 1184
    let body := padTo 0 32 a.1 ++ s.flash.cert ++ padTo 0 1088 (Config.kemCipher ek n)
    (s.setKey l { x with
      stage := .signResp, respBody := body, secret := Config.kemSharedEnc ek n, draw := n }).vaultOp l 1

/-- The responder has signed: RESP leaves. -/
def State.keySigned (s : State) (l : Nat) : State :=
  let x := s.key l
  let h1 := x.h1
  let sig := padTo 0 17088 (Config.slhSign (s.sec.idSeed.getD []) h1)
  let s := s.setKey l { x with h2 := sha256 (h1 ++ sig) }
  s.keyAsk l 2 .waitConfirm (x.respBody ++ sig)

/-- The initiator has verified RESP: it decapsulates and signs. -/
def State.keyRespVerified (s : State) (l : Nat) : State :=
  let x := s.key l
  let c := slice x.respBody 32 7936
  let sig := x.respBody.drop 9056
  if !s.certOk c || macAt c 0x38 ≠ x.peer || (l = 24 && x.peer ≠ s.peerMac) then s.keyFail l 1
  else if !Config.slhVerify (slice c 0x18 32) x.h1 sig then s.keyFail l 2
  else (s.setKey l { x with
    stage := .signConfirm, h2 := sha256 (x.h1 ++ sig)
    secret := Config.kemSharedDec x.draw (slice x.respBody 7968 1088) }).vaultOp l 3

/-- The responder has verified SIG_I: associations, then DONE (R495). -/
def State.keyConfirmed (s : State) (l : Nat) : State :=
  let x := s.key l
  let pk := slice x.initBody (32 + 0x18) 32
  if !Config.slhVerify pk x.h2 x.respBody then s.keyFail l 2
  else
    let s := s.keyInstall l
    let y := s.key l
    let body := Config.hmac (y.key "ZN CONFIRM") y.h2
    (s.setKey l { y with lastType := 4, lastBody := body, due := none }).keySend l 4 y.session body

/-- VAULT_OPERATION_COMPLETE: one of the two running operations ends. -/
def State.vaultDone (s : State) (ix : Nat) : State :=
  match s.sec.ops[ix]? with
  | none => s
  | some o =>
    if s.sec.restarting then s
    else
      let s := { s with sec := { s.sec with ops := removeAt s.sec.ops ix } }
      let st := (s.key o.link).stage
      if o.kind = 5 then
        match s.sec.quotePend with
        | some h => ({ s with sec := { s.sec with
            quotePend := none
            quote := h ++ padTo 0 17088 (Config.slhSign (s.sec.idSeed.getD []) h) } }).count (tlSec 4)
        | none => s
      else if o.kind = 0 && st = .verifyInit then s.keyVerified o.link
      else if o.kind = 1 && st = .signResp then s.keySigned o.link
      else if o.kind = 2 && st = .verifyResp then s.keyRespVerified o.link
      else if o.kind = 3 && st = .signConfirm then
        s.keyAsk o.link 3 .waitDone
          (padTo 0 17088 (Config.slhSign (s.sec.idSeed.getD []) (s.key o.link).h2))
      else if o.kind = 4 && st = .verifyConfirm then s.keyConfirmed o.link
      else s

/-- VAULT_OPERATION_COMPLETE. -/
def execVaultOperationComplete (dt : Nat) (ix : Fin 2) (s : State) : Out :=
  go ((s.elapse dt).vaultDone ix.val)

/-- KEYING_RETRANSMIT_TIMEOUT: the last message again, or failure after three repeats (R495). -/
def State.keyRepeat (s : State) (l : Nat) : State :=
  let x := s.key l
  match x.due with
  | none => s
  | some t =>
    if s.now < t || x.stage = .backoff || x.lastType = 0 || !s.linkUp l then s
    else if x.repeats ≥ 3 then s.keyFail l 3
    else (s.setKey l { x with
      repeats := x.repeats + 1, due := some (s.now + 200000000) }).keySend l x.lastType x.session
        x.lastBody

/-- KEYING_RETRANSMIT_TIMEOUT. -/
def execKeyingRetransmitTimeout (dt : Nat) (link : Fin 25) (s : State) : Out :=
  go ((s.elapse dt).keyRepeat link.val)

/-- KEYING_RETRY: the back-off has passed and keying starts again (R498). -/
def execKeyingRetry (dt : Nat) (link : Fin 25) (s : State) : Out :=
  let s := s.elapse dt
  let l := link.val
  let x := s.key l
  match x.due with
  | some t => if x.stage = .backoff && t ≤ s.now then go (s.keyStart l) else go s
  | none => go s

/-- REKEY_TIMER: REKEY_H hours after a session the initiator runs a fresh one (R496). -/
def execRekeyTimer (dt : Nat) (link : Fin 25) (s : State) : Out :=
  let s := s.elapse dt
  let l := link.val
  let x := s.key l
  match x.keyedAt with
  | some t =>
    if x.initiator && x.stage = .idle && t + fld s.sec.policy 4 2 * 3600000000000 ≤ s.now then
      go (s.keyStart l) else go s
  | none => go s

/-- VAULT_RESTART: the vault is back and runs a fresh session on every secured link (R504). -/
def State.vaultBack (s : State) : State :=
  if !s.sec.restarting then s
  else
    let s := { s with sec := { s.sec with restarting := false } }
    (List.range 25).foldl (fun s l =>
      if (s.sa l).secured || (s.key l).stage = .backoff then s.keyStart l else s) s

/-- VAULT_RESTART. -/
def execVaultRestart (dt : Nat) (s : State) : Out := go (s.elapse dt).vaultBack

/-- The vault restarts after a memory error (R435, R504): sessions in progress fail with RESTART. -/
def State.vaultFall (s : State) : State :=
  let s := { s with sec := { s.sec with
    restarting := true, ops := [], quotePend := none, stagedW := [], stagedC := [], nonce := none } }
  (List.range 25).foldl (fun s l => if (s.key l).busy then s.keyFail l 6 else s) s

end Sys2Proof.Machine
end

