-- ==== Sys2Proof/Machine/Inaug.lean ====
section
/-! DEFINITION. Train inauguration (chapter 6): line states, HELLO and TOPOLOGY frames, the topology
and its numbering, agreement and rebinding, inhibition, OVERCOUNT and opTrnTopoCnt. -/

namespace Sys2Proof.Machine

/-! ### The record (R218) -/

/-- SLOW_MS in ns. -/
def State.slowNs (s : State) : Nat := fld s.inaug.conf 0 2 * 1000000
/-- FAST_MS in ns. -/
def State.fastNs (s : State) : Nat := fld s.inaug.conf 2 2 * 1000000
/-- SETTLE_MS in ns. -/
def State.settleNs (s : State) : Nat := fld s.inaug.conf 4 2 * 1000000
/-- CTRL. -/
def State.inaugCtrl (s : State) : Nat := fld s.inaug.conf 8 1
/-- The HELLO period at work. -/
def State.helloNs (s : State) : Nat := if s.inaug.fast then s.fastNs else s.slowNs

/-- The backbone port `p`. -/
def State.bb (s : State) (p : Nat) : BbPort := Tab.get bb0 s.inaug.bb p
/-- Writing a backbone port. -/
def State.setBb (s : State) (p : Nat) (b : BbPort) : State :=
  { s with inaug := { s.inaug with bb := Tab.set bb0 s.inaug.bb p b } }

/-! ### Topology and numbering (R213, R219 to R221) -/

/-- The other way round. -/
def turn (l : List TopoNode) : List TopoNode :=
  l.reverse.map fun n => { n with flipped := !n.flipped }

/-- A list with this node's direction 1 towards its start. -/
def facing (l : List TopoNode) : List TopoNode :=
  match l.find? fun n => n.mac = Config.nodeMac with
  | some n => if n.flipped then turn l else l
  | none => l

/-- Whether a list can be ordered: each node once, this node among them (R223). -/
def orderly (l : List TopoNode) : Bool :=
  let m := l.map (·.mac)
  m.contains Config.nodeMac && decide (m.eraseDups.length = m.length)

/-- `n` placed after the node `prev`, first where there is none. -/
def placeAfter (prev : Option (BitVec 48)) (n : TopoNode) : List TopoNode → List TopoNode
  | [] => [n]
  | m :: l =>
    match prev with
    | none => n :: m :: l
    | some p => if m.mac = p then m :: n :: l else m :: placeAfter prev n l

/-- Line A's list with the nodes only line B reaches put where line B has them. -/
def mergeLines (a : List TopoNode) (prev : Option (BitVec 48)) : List TopoNode → List TopoNode
  | [] => a
  | n :: l =>
    if a.any (·.mac = n.mac) then mergeLines a (some n.mac) l
    else mergeLines (placeAfter prev n a) (some n.mac) l

/-- This node alone. -/
def alone : List TopoNode := [{ mac := Config.nodeMac, flipped := false }]

/-- The topology as the two lines show it: line A's order, line B's where line A is down or cannot be
ordered; none where neither can be (R213, R219, R223). -/
def State.topology (s : State) : Option (List TopoNode) :=
  let a := facing s.inaug.viewA
  let b := facing s.inaug.viewB
  let downA := (s.bb 0).line != .up && (s.bb 1).line != .up
  if a.isEmpty && b.isEmpty then some alone
  else if downA || a.isEmpty then (if b.isEmpty then some alone else if orderly b then some b else none)
  else if orderly a then (if orderly b then some (mergeLines a none b) else some a)
  else if orderly b then some b else none

/-- Whether the two lines disagree about the order of the nodes they share (R213). -/
def State.crossed (s : State) : Bool :=
  let a := facing s.inaug.viewA
  let b := facing s.inaug.viewB
  let ma := a.map (·.mac)
  let mb := b.map (·.mac)
  orderly a && orderly b && ma.filter (fun m => mb.contains m) != mb.filter (fun m => ma.contains m)

/-- The list from node 1 on: node 1 is the end node of the lower MAC address (R220). -/
def fromNode1 (l : List TopoNode) : List TopoNode :=
  match l.head?, l.getLast? with
  | some h, some t => if t.mac.toNat < h.mac.toNat then turn l else l
  | _, _ => l

/-- The place of a node in a list. -/
def placeOf (m : BitVec 48) : List TopoNode → Nat
  | [] => 0
  | n :: l => if n.mac = m then 0 else placeOf m l + 1

/-- The numbering of a topology (R220, R221, R227). -/
def numberingOf (l : List TopoNode) : Numbering :=
  let l := fromNode1 l
  let p := placeOf Config.nodeMac l
  { n := l.length, p := p, inverse := match l[p]? with | some x => x.flipped | none => false
    etbTopo := Config.etbTopoCnt (l.map fun x => (x.mac, x.flipped)), list := l }

/-! ### Topology changes (R219, R222, R223, R226) -/

/-- Whether inhibition is in force: the node's own bit, or a node of its topology announces it. -/
def State.inhibitNow (s : State) : Bool :=
  bit s.inaugCtrl 0 || s.inaug.seen.any (·.inhibit)

/-- Where inhibition comes from: bit 0 this node, bit 1 another. -/
def State.inhibitSource (s : State) : Nat :=
  bnat (bit s.inaugCtrl 0) + 2 * bnat (s.inaug.seen.any (·.inhibit))

/-- Nodes of the current topology that the numbering does not know. -/
def State.added (s : State) : Nat :=
  match s.topology, s.inaug.numbered with
  | some l, some n => (l.filter fun x => !n.list.any (·.mac = x.mac)).length
  | _, _ => 0

/-- Whether the current topology differs from the numbered one. -/
def State.differs (s : State) : Bool :=
  match s.topology, s.inaug.numbered with
  | some l, some n => fromNode1 l != n.list
  | none, _ => true
  | _, none => true

/-- A computation not yet agreed is abandoned (R222). -/
def State.abandon (s : State) : State :=
  if s.inaug.computed.isSome then
    ({ s with inaug := { s.inaug with computed := none } }).count (tlInaug 2)
  else s

/-- The topology has changed; `ports` has a bit for each port whose line state changed. -/
def State.topoChange (s : State) (ports : Nat) : State :=
  let settle := some (s.now + s.settleNs)
  let s := { s with inaug := { s.inaug with
    settleAt := settle, fastEnd := none
    seen := match s.topology with
      | some l => s.inaug.seen.filter fun x => l.any (·.mac = x.mac)
      | none => s.inaug.seen } }
  if s.inhibitNow && s.inaug.numbered.isSome then
    let k := s.added
    if k = 0 then s
    else (s.count (tlInaug 5)).note (ev 6 5) (le 1 s.inhibitSource ++ le 1 k)
  else
    let s := if s.inaug.changed then s
      else ({ s with inaug := { s.inaug with changed := true } }).note (ev 6 0) (le 1 ports)
    let s := s.abandon
    { s with inaug := { s.inaug with pending := none } }

/-- The four neighbours' addresses, as INAUG_CROSSED reports them. -/
def State.nbrOrder (s : State) : List Byte :=
  ((List.range 4).map fun p => macBytes (s.bb p).nbr).flatten

/-- The views of the lines become `a` and `b`; what follows from it. -/
def State.newViews (s : State) (a b : List TopoNode) (ports : Nat) : State :=
  let was := s.topology
  let crossed := s.crossed
  let s := { s with inaug := { s.inaug with viewA := a, viewB := b } }
  let s := if s.crossed && !crossed then (s.count (tlInaug 4)).note (ev 6 4) s.nbrOrder else s
  if s.topology = was then s else s.topoChange ports

/-- Fast mode begins: the next HELLO of every port is sent at once (R217). -/
def State.enterFast (s : State) : State :=
  if s.inaug.fast then s
  else
    let s := { s with inaug := { s.inaug with fast := true, fastEnd := none } }
    (List.range 4).foldl (fun s p => s.setBb p { s.bb p with sendAt := s.now }) s

/-! ### Line states (R216) -/

/-- A line's list as a port's line state leaves it: cut at this node where the port is not UP, its
neighbour added where the list does not hold it. -/
def State.lineList (s : State) (p : Nat) (l : List TopoNode) (unknown : Bool) : List TopoNode :=
  let l := facing (if l.any (·.mac = Config.nodeMac) then l else alone)
  let k := placeOf Config.nodeMac l
  let b := s.bb p
  if b.line != .up then (if p % 2 = 0 then l.drop k else l.take (k + 1))
  else if l.any (·.mac = b.nbr) then l
  else if p % 2 = 0 then { mac := b.nbr, flipped := unknown } :: l.drop k
  else l.take (k + 1) ++ [{ mac := b.nbr, flipped := unknown }]

/-- The teller takes a port's line state. -/
def State.takeLine (s : State) (p : Nat) : State :=
  let f := s.fresh 1
  let s := f.2
  let u := f.1 == 1
  if p < 2 then s.newViews (s.lineList p s.inaug.viewA u) s.inaug.viewB (2 ^ p)
  else s.newViews s.inaug.viewA (s.lineList p s.inaug.viewB u) (2 ^ p)

/-- A line state as MB_INAUG_STATUS codes it. -/
def lineNo : LineState → Nat
  | .down => 0 | .pending => 1 | .up => 2

/-- Whether the relays of a port's line are settling (R215). -/
def State.settling (s : State) (p : Nat) : Bool :=
  if p < 2 then s.inaug.relayA.isSome else s.inaug.relayB.isSome

/-- A backbone port becomes `b`: a change of its line state is counted, starts fast mode and reaches
the teller (R216, R217, R219). -/
def State.lineTo (s : State) (p : Nat) (b : BbPort) : State :=
  let old := (s.bb p).line
  let nbr := if b.line = .down then (s.bb p).nbr else b.nbr
  let s := s.setBb p b
  if old = b.line then s
  else
    let s := ({ s with inaug := { s.inaug with fastEnd := none } }).count (tlInaug 1)
    let s := s.enterFast
    if s.settling p then s
    else
      let was := s.topology
      let s := s.takeLine p
      if s.topology = was then
        s.note (ev 6 2) (le 1 p ++ le 1 (lineNo old) ++ le 1 (lineNo b.line) ++ macBytes nbr)
      else s

/-- The physical link of a backbone port comes up (R216). -/
def State.bbUp (s : State) (p : Nat) : State :=
  s.lineTo p { s.bb p with line := .pending, nbr := 0, count := 0, sendAt := s.now }

/-- The physical link of a backbone port goes down (R216, R235). -/
def State.bbDown (s : State) (p : Nat) : State :=
  s.lineTo p { s.bb p with line := .down, nbr := 0, count := 0, wentDown := true }

/-- RELAY_SETTLE_EXPIRY: the teller takes the line state as it finds it (R215). -/
def execRelaySettleExpiry (dt : Nat) (line : Fin 2) (s : State) : Out :=
  let s := s.elapse dt
  let l := line.val
  match (if l = 0 then s.inaug.relayA else s.inaug.relayB) with
  | none => go s
  | some t =>
    if s.now < t then go s
    else
      let s := { s with inaug :=
        if l = 0 then { s.inaug with relayA := none } else { s.inaug with relayB := none } }
      go ((s.takeLine (2 * l)).takeLine (2 * l + 1))

/-! ### HELLO and TOPOLOGY frames (R216, R217, R222, R224) -/

/-- A node list as bytes. -/
def nodeBytes (l : List TopoNode) : List Byte :=
  le 1 l.length ++ (l.map fun n => macBytes n.mac ++ le 1 (bnat n.flipped)).flatten

/-- The etbTopoCnt a node announces (R222). -/
def State.announced (s : State) : U32 :=
  match s.inaug.computed with | some n => n.etbTopo | none => s.inaug.etbTopo

/-- The state a TOPOLOGY frame is marked with (R224). -/
def State.topoState (s : State) : Nat :=
  if s.inaug.numbered.isNone then 0 else if s.inhibitNow then 2 else 1

/-- HELLO_SEND: HELLO and TOPOLOGY leave, and the next are due one period later (R217). -/
def execHelloSend (dt : Nat) (port : Fin 4) (s : State) : Out :=
  let s := s.elapse dt
  let p := port.val
  go (if !(s.mac p).up || s.absentUnit p || s.now < (s.bb p).sendAt then s
    else
      let per := s.helloNs
      let s := s.setBb p { s.bb p with sendAt := s.now + per }
      let s := s.send (.msg p (ev 6 0) (macBytes Config.nodeMac ++ le 2 (per / 1000000) ++
        le 1 (bnat s.inaug.fast)))
      s.send (.msg p (ev 6 1) (macBytes Config.nodeMac ++ le 1 s.topoState ++
        le 1 (bnat (bit s.inaugCtrl 0)) ++ le 1 (bnat s.inaug.fast) ++ le 4 s.announced.toNat ++
        nodeBytes s.inaug.viewA ++ nodeBytes s.inaug.viewB)))

/-- A valid HELLO on a backbone port (R216). -/
def State.hello (s : State) (p : Nat) (mac : BitVec 48) (periodMs : Nat) (fast : Bool) : State :=
  if !(s.mac p).up || s.absentUnit p then s
  else
    let b := s.bb p
    let same := b.nbr = mac && b.line != .down
    let b := { b with lastAt := s.now, period := periodMs * 1000000 }
    let s :=
      if b.line = .up then
        if same then s.setBb p b
        else s.lineTo p { b with line := .pending, nbr := mac, count := 1 }
      else if same && 1 ≤ b.count then s.lineTo p { b with line := .up, count := 2 }
      else s.lineTo p { b with line := .pending, nbr := mac, count := 1 }
    if fast then s.enterFast else s

/-- HELLO_RX. -/
def execHelloRx (dt : Nat) (port : Fin 4) (mac : BitVec 48) (periodMs : Nat) (fast : Bool)
    (s : State) : Out :=
  go ((s.elapse dt).hello port.val mac periodMs fast)

/-- HELLO_LOSS: three announced periods without a HELLO (R216). -/
def execHelloLoss (dt : Nat) (port : Fin 4) (s : State) : Out :=
  let s := s.elapse dt
  let p := port.val
  let b := s.bb p
  go (if b.line = .up && b.lastAt + 3 * b.period ≤ s.now then
    (s.count (tlPort p mHelloLoss)).lineTo p { b with line := .down, nbr := 0, count := 0 }
  else s)

/-- Inhibition begins or ends (R226, R240). -/
def State.inhibitUpdate (s : State) : State :=
  let on := s.inhibitNow
  if on = s.inaug.inhibited then s
  else
    let s := ({ s with inaug := { s.inaug with inhibited := on } }).note (ev 6 5)
      (le 1 s.inhibitSource ++ le 1 (if on then s.added else 0))
    if s.inaug.numbered.isNone then s
    else if on then
      if s.inaug.computed.isSome then
        let s := s.abandon
        { s with inaug := { s.inaug with settleAt := some s.now } }
      else s
    else if !s.differs then { s with inaug := { s.inaug with settleAt := none } }
    else
      let s := if s.inaug.changed then s
        else ({ s with inaug := { s.inaug with changed := true } }).note (ev 6 0) (le 1 0)
      if s.inaug.settleAt.isSome then s
      else { s with inaug := { s.inaug with settleAt := some s.now } }

/-- The first time-strand round boundary at least 20 µs from now, where a parison is active; else
that instant itself (R228, R230, R232). -/
def State.boundaryAfter (s : State) : Nat :=
  let t := s.net + 20000
  match s.par.force with
  | some p =>
    if s.gaf.active then max (ceilMul t p.round) (match s.gaf.paused with | some b => b | none => 0)
    else t
  | none => t

/-- Agreement: every other node has announced the computed etbTopoCnt in two frames running (R222). -/
def State.agree (s : State) : State :=
  match s.inaug.computed with
  | none => s
  | some n =>
    if n.list.all fun x => x.mac = Config.nodeMac ||
        s.inaug.seen.any fun y => y.mac = x.mac && y.etbTopo = n.etbTopo && 2 ≤ y.inRow then
      { s with inaug := { s.inaug with
          computed := none, changed := false, pending := some (s.boundaryAfter, n) } }
    else s

/-- What a node's TOPOLOGY frame adds to what is known of it. -/
def seenOf (l : List NodeSeen) (t : TopoMsg) : NodeSeen :=
  { mac := t.src, state := t.state.val, inhibit := t.inhibit, etbTopo := t.etbTopo
    inRow := match l.find? fun x => x.mac = t.src with
      | some x => if x.etbTopo = t.etbTopo then x.inRow + 1 else 1
      | none => 1 }

/-- A TOPOLOGY frame arrives. -/
def State.topologyIn (s : State) (p : Nat) (t : TopoMsg) : State :=
  if !(s.mac p).up || s.absentUnit p || !s.tellerUp then s
  else
    let s := if t.fast then s.enterFast else s
    let x := seenOf s.inaug.seen t
    let s := { s with inaug := { s.inaug with
      seen := (s.inaug.seen.filter fun (y : NodeSeen) => y.mac ≠ t.src) ++ [x] } }
    (s.newViews t.lineA t.lineB 0).inhibitUpdate.agree

/-- TOPOLOGY_RX. -/
def execTopologyRx (dt : Nat) (port : Fin 4) (t : TopoMsg) (s : State) : Out :=
  go ((s.elapse dt).topologyIn port.val t)

/-- A topology is refused (R223): cause 1 more than 63 nodes, 2 no consistent order. -/
def State.topoRefused (s : State) (n cause : Nat) : State :=
  (({ s with inaug := { s.inaug with invalid := true } }).count (tlInaug 3)).note (ev 6 3)
    (le 2 n ++ le 1 cause)

/-- SETTLE_EXPIRY: the numbering is computed and announced (R222, R223, R226). -/
def State.settled (s : State) : State :=
  match s.inaug.settleAt with
  | none => s
  | some t =>
    if s.now < t || !s.tellerUp || (s.inhibitNow && s.inaug.numbered.isSome) then s
    else
      let s := { s with inaug := { s.inaug with settleAt := none } }
      match s.topology with
      | none => s.topoRefused (max s.inaug.viewA.length s.inaug.viewB.length) 2
      | some l =>
        if l.length > 63 then s.topoRefused l.length 1
        else ({ s with inaug := { s.inaug with
          invalid := false, computed := some (numberingOf l) } }).agree

/-- SETTLE_EXPIRY. -/
def execSettleExpiry (dt : Nat) (s : State) : Out := go (s.elapse dt).settled

/-! ### Rebinding (R227, R230, R234, R235) -/

/-- OVERCOUNT is entered or left, at a rebinding boundary or an activation (R234). -/
def State.overUpdate (s : State) : State :=
  match s.par.force, s.inaug.numbered with
  | some p, some n =>
    let on := p.maxNodes < n.n
    if on = s.inaug.overcount then s
    else
      let s := { s with inaug := { s.inaug with overcount := on } }
      let s := if on then s.count (tlInaug 6) else s
      s.note (ev 6 6) (le 1 n.n ++ le 1 p.maxNodes ++ le 1 s.boundP)
  | _, _ => { s with inaug := { s.inaug with overcount := false } }

/-- A backbone link is keyed at B if it is new (R235). -/
def State.keyNew (s : State) (p : Nat) : State :=
  let b := s.bb p
  if b.line != .up then s.setBb p { b with agreedNbr := none, wentDown := false }
  else
    let s := if b.wentDown || b.agreedNbr ≠ some b.nbr then s.keyStart p else s
    s.setBb p { b with agreedNbr := some b.nbr, wentDown := false }

/-- At B the new numbering takes effect. -/
def State.rebind (s : State) : State :=
  match s.inaug.pending with
  | none => s
  | some (b, n) =>
    if s.net + 2 < b then s
    else
      let s := { s with inaug := { s.inaug with
        pending := none, numbered := some n, etbTopo := n.etbTopo, optrn := 0, lastB := b
        etbNo := fld s.inaug.conf 7 1
        fastEnd := if s.inaug.fast then some (s.now + s.settleNs) else none } }
      let s := (s.count (tlInaug 0)).note (ev 6 1)
        (le 1 n.n ++ le 1 n.p ++ le 1 (bnat n.inverse) ++ le 4 n.etbTopo.toNat ++ secNs b)
      ((List.range 4).foldl State.keyNew s.overUpdate).egressAll

/-- REBINDING. -/
def execRebinding (dt : Nat) (s : State) : Out := go (s.elapse dt).rebind

/-- FAST_MODE_EXIT (R217). -/
def execFastModeExit (dt : Nat) (s : State) : Out :=
  let s := s.elapse dt
  match s.inaug.fastEnd with
  | some t =>
    if t ≤ s.now then go { s with inaug := { s.inaug with fast := false, fastEnd := none } } else go s
  | none => go s

/-- OPTRN_APPLY (R228). -/
def execOptrnApply (dt : Nat) (s : State) : Out :=
  let s := s.elapse dt
  match s.inaug.optrnAt with
  | some (b, v) =>
    if b ≤ s.net + 2 then go { s with inaug := { s.inaug with
      optrnAt := none, optrn := if s.inaug.numbered.isSome then v else 0 } } else go s
  | none => go s

/-! ### Commands (R218, R238) -/

/-- Ranges of the inauguration record. -/
def inaugOk (c : List Byte) : Bool :=
  let slow := fld c 0 2
  let fast := fld c 2 2
  let settle := fld c 4 2
  let relay := fld c 6 1
  50 ≤ slow && slow ≤ 1000 && 5 ≤ fast && fast ≤ 50 && fast < slow && 20 ≤ settle && settle ≤ 1000 &&
    5 ≤ relay && relay ≤ 100 && fld c 7 1 < 4

/-- The record takes effect. -/
def State.setInaug (s : State) (c : List Byte) : State :=
  let was := s.inaug.conf
  let ch := fld was 7 1 ≠ fld c 7 1 || bits (fld was 8 1) 2 1 ≠ bits (fld c 8 1) 2 1
  let s := { s with inaug := { s.inaug with conf := c } }
  let s := if ch then ({ s with inaug := { s.inaug with fastEnd := none } }).enterFast else s
  let v : U32 := BitVec.ofNat 32 (fld c 12 4)
  let s :=
    if !bit (fld c 8 1) 3 || s.inaug.numbered.isNone then s
    else if s.gaf.active then { s with inaug := { s.inaug with optrnAt := some (s.boundaryAfter, v) } }
    else { s with inaug := { s.inaug with optrn := v } }
  s.insertion.inhibitUpdate

/-- MB_INAUG_CONFIG. -/
def cmdInaugConfig : Cmd :=
  { op := 0x0401
    shape := fun b => cfgOpts b true && cfgLen b 4 32 && (bit (fld b 0 4) 1 ||
      (fld b 12 1 < 16 && zeroAt b 13 3 && zeroAt b 20 16))
    run := fun b s =>
      let o := fld b 0 4
      let c := b.drop 4
      if bit o 1 then ans stOk s.inaug.conf s
      else if !inaugOk c then refuse stMalformed s
      else if bit o 0 && s.flashHeld then refuse stBusy s
      else
        let s := s.setInaug c
        ans stOk c (if bit o 0 then s.persist cfInaug c else s) }

/-- MB_INAUG_CONFIG from the host. -/
def execMbInaugConfig (dt : Nat) (r : Req) (s : State) : Out :=
  go ((s.elapse dt).submit cmdInaugConfig r)

/-- The node state of R238. -/
def State.nodeState (s : State) : Nat :=
  if s.inaug.invalid then 4 else if s.inaug.numbered.isNone then 0
  else if s.inhibitNow then 3 else if s.inaug.overcount then 2 else 1

/-- MB_INAUG_STATUS. -/
def cmdInaugStatus : Cmd :=
  { op := 0x0402
    shape := fun b => b.isEmpty
    run := fun _ s =>
      let i := s.inaug
      let num := match i.numbered with
        | some n => le 1 n.n ++ le 1 n.p ++ le 1 (n.p + 1) ++ le 1 (bnat n.inverse)
        | none => zeros 4
      ans stOk (le 1 s.nodeState ++ num ++ le 1 (fld i.conf 7 1) ++ zeros 2 ++ le 4 i.etbTopo.toNat ++
        le 4 i.optrn.toNat ++ secNs i.lastB ++ zeros 4 ++
        ((List.range 4).map fun p =>
          le 1 (lineNo (s.bb p).line) ++ zeros 1 ++ macBytes (s.bb p).nbr).flatten) s }

/-- MB_INAUG_STATUS from the host. -/
def execMbInaugStatus (dt : Nat) (r : Req) (s : State) : Out :=
  go ((s.elapse dt).submit cmdInaugStatus r)

end Sys2Proof.Machine
end

