-- ==== Sys2Proof/Machine/Time.lean ====
section
/-! DEFINITION. Network time (chapter 7): time messages, the best master clock algorithm, the states
of R252, the servo, path-delay jumps, re-steps, the real-time counter and the CAN counter pairs. -/

namespace Sys2Proof.Machine

/-! ### The record (R245) -/

/-- The 16-byte entry of a port. -/
def State.tEntry (s : State) (p : Nat) : List Byte := slice s.time.conf (32 + 16 * p) 16
/-- AUTH of a port. -/
def State.tAuth (s : State) (p : Nat) : Bool := bit (fld (s.tEntry p) 1 1) 0
/-- MASTER_ONLY of a port. -/
def State.masterOnly (s : State) (p : Nat) : Bool := bit (fld (s.tEntry p) 1 1) 1
/-- SLAVE_ONLY. -/
def State.slaveOnly (s : State) : Bool := bit (fld s.time.conf 5 1) 0
/-- A port's time unit. -/
def State.tport (s : State) (p : Nat) : TPort := Tab.get tport0 s.time.ports p
/-- Writing a port's time unit. -/
def State.setTport (s : State) (p : Nat) (x : TPort) : State :=
  { s with time := { s.time with ports := Tab.set tport0 s.time.ports p x } }
/-- 2 to the power `k` seconds, in ns, for `k` from -7 to 7. -/
def logNs (k : Int) : Nat :=
  if k ≥ 0 then 1000000000 * 2 ^ k.toNat else 1000000000 / 2 ^ (-k).toNat
/-- The Sync interval of a port in ns; of the escrow link (24), that of its heartbeats (R404, R405). -/
def State.syncNs (s : State) (p : Nat) : Nat :=
  if p = 24 then 125000 else logNs ((s.tport p).ivSync.getD (fldInt (s.tEntry p) 2 1))
/-- The Pdelay interval of a port in ns. -/
def State.pdelayNs (s : State) (p : Nat) : Nat :=
  logNs ((s.tport p).ivPdelay.getD (fldInt (s.tEntry p) 3 1))
/-- ASYM of a port. -/
def State.asymOf (s : State) (p : Nat) : Int := fldInt (s.tEntry p) 4 2
/-- RX_LAT of a port. -/
def State.rxLat (s : State) (p : Nat) : Nat := fld (s.tEntry p) 6 2
/-- TX_LAT of a port. -/
def State.txLat (s : State) (p : Nat) : Nat := fld (s.tEntry p) 8 2
/-- Whether a port's time unit works: a profile, a link, its domain present. -/
def State.tLive (s : State) (p : Nat) : Bool :=
  s.profile p ≠ 0 && (s.mac p).up && !s.absentUnit p
/-- The profile whose algorithm the node runs: that of its lowest-numbered port with one (R244). -/
def State.algorithm (s : State) : Nat :=
  match (List.range 24).find? fun p => s.profile p ≠ 0 with
  | some p => s.profile p
  | none => 0

/-! ### States (R251, R252) -/

/-- A state as MB_TIME_STATUS codes it. -/
def timeNo : TimeState → Nat
  | .free => 0 | .grandmaster => 1 | .acquiring => 2 | .locked => 3 | .frozen => 4 | .holdover => 5
  | .unusable => 6

/-- The size of an offset in ns. -/
def mag (x : Int) : Nat := x.natAbs

/-- One millisecond, the bound of R252. -/
def oneMs : Nat := 1000000

/-- A signed offset as an event carries it, saturating. -/
def thetaBytes (x : Int) : List Byte := leInt 4 (clampInt (-2147483648) 2147483647 x)

/-- The clock identity of the selected grandmaster. -/
def State.gmId (s : State) : Nat := s.time.gm.headD 0

/-- The state changes: TIME_STATE, and what entering a state brings (R251, R257, R263). -/
def State.toTime (s : State) (st : TimeState) : State :=
  let old := s.time.state
  if old = st then s
  else
    let t := { s.time with
      state := st, stateAt := s.now
      offsets := []
      freq := if st = .grandmaster then 0 else s.time.freq
      slew := if st = .locked || st = .acquiring then s.time.slew else 0 }
    let s := { s with time := t }
    let s := s.note (ev 7 0) (le 1 (timeNo old) ++ le 1 (timeNo st) ++ thetaBytes s.time.theta)
    if st = .holdover then s.count (tlTime 3)
    else if st = .unusable then
      (s.count (tlTime 4)).note (ev 7 4) (thetaBytes s.time.theta ++ le 8 s.gmId)
    else s

/-- A re-step to the master is withdrawn with its master (R258). -/
def State.withdraw (s : State) : State :=
  match s.time.restep with
  | some .master =>
    ({ s with time := { s.time with restep := none } }).note (ev 7 1) (leInt 8 0 ++ le 1 3)
  | _ => s

/-- The master is lost: HOLDOVER (R252, R261). -/
def State.holdover (s : State) : State :=
  let s := s.withdraw
  let s := { s with time := { s.time with slave := none } }
  s.toTime .holdover

/-- Whether the node follows a master. -/
def State.slaved (s : State) : Bool :=
  match s.time.state with
  | .acquiring | .locked | .frozen | .unusable => true
  | _ => false

/-! ### Correction (R243, R254, R255, R258) -/

/-- The bound of the rate correction in parts per 10^12. -/
def maxRate : Int := 200000000

/-- The servo's terms, clamped as a whole (R243). -/
def State.setRate (s : State) (freq slew : Int) : State :=
  let f := clampInt (-maxRate) maxRate freq
  let sum := clampInt (-maxRate) maxRate (freq + slew)
  let s := { s with time := { s.time with freq := f, slew := sum - f } }
  if sum = freq + slew then s else s.count (tlTime 2)

/-- Network time steps by `d` ns (R40, R255, R258). -/
def State.stepBy (s : State) (d : Int) (cause : Nat) : State :=
  let frac := s.clk.net % 2 ^ 48
  let s := s.stepTime ((s.net : Int) + d).toNat
  let s := { s with clk := { s.clk with net := s.clk.net + frac } }
  (s.count (tlTime 0)).note (ev 7 1) (leInt 8 d ++ le 1 cause)

/-- The mean of offsets. -/
def mean (l : List Int) : Int := if l.isEmpty then 0 else roundDiv l.sum l.length

/-- The slew that removes an offset in 4 s, in parts per 10^12. -/
def slewOf (x : Int) : Int := -(250 * x)

/-- LOCKED after eight offsets in ACQUIRING (R252, R255). -/
def State.acquired (s : State) (m : Int) : State :=
  if !s.time.firstLock then
    let s := { s with time := { s.time with firstLock := true } }
    if mag m > 100 then (s.stepBy (-m) 0).toTime .locked
    else (s.setRate s.time.freq (slewOf m)).toTime .locked
  else if mag m ≤ oneMs then (s.setRate s.time.freq (slewOf m)).toTime .locked
  else s.toTime .unusable

/-- The frequency term follows the rate ratio measured (R254). -/
def State.follow (s : State) (slew : Int) : State :=
  s.setRate (Config.freqFollow s.time.freq s.time.ratioNow) slew

/-- A valid offset arrives (R252, R254, R258). -/
def State.offset (s : State) (x : Int) : State :=
  let s := { s with time := { s.time with theta := x } }
  match s.time.restep with
  | some .master =>
    let s := { s with time := { s.time with restep := none, firstLock := true, slew := 0 } }
    (s.stepBy (-x) 1).toTime .locked
  | _ =>
    match s.time.state with
    | .acquiring =>
      let l := s.time.offsets ++ [x]
      if l.length < 8 then { s with time := { s.time with offsets := l } } else s.acquired (mean l)
    | .locked => if mag x > oneMs then s.toTime .unusable else s.follow (slewOf x)
    | .frozen => { s with time := { s.time with frozenOffs := s.time.frozenOffs ++ [x] } }
    | .unusable =>
      let s := s.follow 0
      let l := if mag x ≤ oneMs then s.time.offsets ++ [x] else []
      let s := { s with time := { s.time with offsets := l } }
      if l.length < 8 then s else s.toTime .locked
    | _ => s

/-- An invalid offset: the offsets in a row end (R252). -/
def State.badOffset (s : State) : State :=
  match s.time.state with
  | .acquiring | .unusable => { s with time := { s.time with offsets := [] } }
  | _ => s

/-! ### Path-delay jumps and re-routes (R256) -/

/-- FROZEN begins or begins anew, on slave port `p`, with the old delay and port. -/
def State.freeze (s : State) (oldDelay : Int) (oldPort p : Nat) : State :=
  let again := s.time.state = .frozen
  let t := { s.time with
    frozenAt := s.now + 8 * s.syncNs p, frozenOffs := []
    oldDelay := if again then s.time.oldDelay else oldDelay
    oldSlave := if again then s.time.oldSlave else oldPort, slew := 0 }
  ({ s with time := t }).toTime .frozen

/-- A jump or a change of slave port, by state. -/
def State.reroute (s : State) (oldDelay : Int) (oldPort p : Nat) : State :=
  match s.time.state with
  | .locked | .frozen => s.freeze oldDelay oldPort p
  | .acquiring => { s with time := { s.time with offsets := [] } }
  | .unusable => { s with time := { s.time with offsets := [] } }
  | _ => s

/-- FROZEN_END: eight Sync intervals have passed. -/
def State.thaw (s : State) : State :=
  if s.time.state ≠ .frozen || s.now < s.time.frozenAt then s
  else
    let x := if s.time.frozenOffs.isEmpty then s.time.theta else mean s.time.frozenOffs
    let p := s.time.slave.getD 0xFF
    let d := (s.tport p).delay
    let s := { s with time := { s.time with theta := x, asym := x } }
    let s := if mag x > oneMs then s.toTime .unusable
      else (s.setRate s.time.freq (slewOf x)).toTime .locked
    (s.count (tlTime 1)).note (ev 7 2) (leInt 4 s.time.oldDelay ++ leInt 4 d ++ le 1 s.time.oldSlave ++
      le 1 p ++ thetaBytes x)

/-- FROZEN_END. -/
def execFrozenEnd (dt : Nat) (s : State) : Out := go (s.elapse dt).thaw

/-! ### The best master clock algorithm (R244) -/

/-- This node's data set in the order of `AnnounceMsg`. -/
def State.ownSet (s : State) : List Nat :=
  [Config.clockId, fld s.time.conf 1 1, fld s.time.conf 4 1, Config.clockQuality.1,
    Config.clockQuality.2, fld s.time.conf 2 1, 0]

/-- The masters heard, by port, on ports that may become the slave port: none while the role takes time
over the escrow link (R405). -/
def State.candidates (s : State) : List (Nat × List Nat) :=
  if s.quiet then [] else (List.range 24).filterMap fun p =>
    let m := (s.tport p).master
    if s.tLive p && s.profile p = s.algorithm && !s.masterOnly p && !m.isEmpty then some (p, m) else none

/-- The best of them. -/
def bestOf (alg : Nat) : List (Nat × List Nat) → Option (Nat × List Nat)
  | [] => none
  | c :: l =>
    match bestOf alg l with
    | none => some c
    | some d => if Config.bmcBetter alg (d.2.take 7) (c.2.take 7) then some d else some c

/-- A new grandmaster is reported (R264). -/
def State.newMaster (s : State) (m : List Nat) : State :=
  let old := s.time.gm
  let s := { s with time := { s.time with gm := m } }
  if old.headD 0 = m.headD 0 && !old.isEmpty then s
  else s.note (ev 7 3) (le 8 (m.headD 0) ++ le 1 (m.getD 1 0) ++ le 1 (m.getD 5 0) ++ le 2 (m.getD 6 0))

/-- The algorithm selects a foreign master on a port (R252, R256). -/
def State.selectForeign (s : State) (p : Nat) (m : List Nat) : State :=
  let s := s.newMaster m
  let s := { s with time := { s.time with utc := m.getD 7 0, leap := m.getD 8 0 } }
  match s.time.state with
  | .free | .holdover | .grandmaster =>
    ({ s with time := { s.time with slave := some p, ratio := none } }).toTime .acquiring
  | _ =>
    let old := s.time.slave.getD 0xFF
    if old = p then s
    else
      let d := (s.tport old).delay
      let s := { s with time := { s.time with slave := some p, ratio := none } }
      s.reroute d old p

/-- The algorithm selects this node (R252). -/
def State.selectOwn (s : State) : State :=
  if s.slaveOnly then s
  else
    let s := (s.withdraw).newMaster s.ownSet
    let s := { s with time := { s.time with slave := none } }
    s.toTime .grandmaster

/-- The algorithm runs on the Ethernet ports, where the role leaves them a choice (R405). -/
def State.bmc (s : State) : State :=
  if s.quiet then s else match bestOf s.algorithm s.candidates with
  | some (p, m) =>
    if s.slaveOnly || Config.bmcBetter s.algorithm (m.take 7) s.ownSet then s.selectForeign p m
    else s.selectOwn
  | none => if s.slaved then s.holdover else if s.time.state = .free then s else s.selectOwn

/-- A port no longer hears its master: where it was the slave port, the algorithm selects again among
the others; with none left the state becomes HOLDOVER (R261). -/
def State.portTimeLost (s : State) (p : Nat) : State :=
  let s := s.setTport p { s.tport p with
    master := [], announceAt := none, syncStamp := none, reqAt := none, respSeq := none, reqRx := []
    dep := [] }
  if s.slaved && s.time.slave = some p then s.bmc else s

/-! ### Received messages (R244, R253) -/

/-- A received message is accepted, or discarded and counted. -/
def State.acceptTime (s : State) (h : TimeHdr) (f : State → State) : State :=
  let p := h.port.val
  if !s.tLive p then s
  else if s.tAuth p && !((s.sa p).secured && h.icvOk) then
    (s.count (tlPort p mTimeAuth)).noteOnce p (ev 7 5)
      (le 1 p ++ macBytes h.src ++ le 1 (if (s.sa p).secured then 1 else 0))
  else f (s.count (tlPort p mTimeRx))

/-- The receive stamp of a message whose SFD ends now (R247). -/
def State.stampNow (s : State) (p : Nat) : Nat := s.net - s.rxLat p

/-- Whether a port's Pdelay exchange is valid (R251). -/
def State.pdelayValid (s : State) (p : Nat) : Bool :=
  match (s.tport p).delayAt with
  | some t => s.now ≤ t + 4 * s.pdelayNs p
  | none => false

/-- A completed Sync on the slave port: rate ratio, offset (R251, R254). -/
def State.synced (s : State) (p stamp origin : Nat) (corr : Int) : State :=
  let master := (((origin : Nat) : Int) + corr).toNat
  let t := match s.time.ratio with
    | some (l, m) =>
      let dl := s.now - l
      { s.time with ratioNow :=
          if dl = 0 then s.time.ratioNow
          else (((master : Nat) : Int) - ((m : Nat) : Int) - ((dl : Nat) : Int)) * 1000000000000
            / ((dl : Nat) : Int) }
    | none => s.time
  let t := { t with ratio := some (s.now, master), upStamp := stamp, upCorr := corr }
  let s := { s with time := t }
  if !s.pdelayValid p then s.badOffset
  else s.offset (((stamp : Nat) : Int) - (((origin : Nat) : Int) + corr + (s.tport p).delay + s.asymOf p))

/-- SYNC_RX. -/
def State.syncIn (s : State) (m : SyncMsg) : State :=
  s.acceptTime m.hdr fun s =>
    let p := m.hdr.port.val
    let x := { s.tport p with syncAt := some s.now }
    if m.twoStep then
      s.setTport p { x with
        syncSeq := m.hdr.seqId.toNat, syncStamp := some (s.stampNow p), syncCorr := m.corr }
    else
      let s := s.setTport p { x with syncStamp := none }
      if s.slaved && s.time.slave = some p then s.synced p (s.stampNow p) m.origin m.corr else s

/-- SYNC_RX. -/
def execSyncRx (dt : Nat) (m : SyncMsg) (s : State) : Out := go ((s.elapse dt).syncIn m)

/-- FOLLOW_UP_RX: completes the two-step Sync of its sequence number. -/
def State.followIn (s : State) (m : SyncMsg) : State :=
  s.acceptTime m.hdr fun s =>
    let p := m.hdr.port.val
    let x := s.tport p
    match x.syncStamp with
    | some t =>
      if x.syncSeq ≠ m.hdr.seqId.toNat then s
      else
        let s := s.setTport p { x with syncStamp := none }
        if s.slaved && s.time.slave = some p then s.synced p t m.origin (x.syncCorr + m.corr) else s
    | none => s

/-- FOLLOW_UP_RX. -/
def execFollowUpRx (dt : Nat) (m : SyncMsg) (s : State) : Out := go ((s.elapse dt).followIn m)

/-- ANNOUNCE_RX: the port's master is remembered and the algorithm runs. -/
def State.announceIn (s : State) (m : AnnounceMsg) : State :=
  s.acceptTime m.hdr fun s =>
    let p := m.hdr.port.val
    if s.profile p ≠ s.algorithm then s
    else
      let l := [m.gmId.toNat, m.prio1.toNat, m.cls.toNat, m.accuracy.toNat, m.variance.toNat,
        m.prio2.toNat, m.steps.toNat, m.utcOffset.toNat,
        2 * bnat m.leap61 + 4 * bnat m.leap59 + 8 * bnat m.utcValid]
      (s.setTport p { s.tport p with master := l, announceAt := some s.now }).bmc

/-- ANNOUNCE_RX. -/
def execAnnounceRx (dt : Nat) (m : AnnounceMsg) (s : State) : Out := go ((s.elapse dt).announceIn m)

/-- A path delay has been measured (R251, R256). -/
def State.delayed (s : State) (p : Nat) (d : Int) : State :=
  let x := s.tport p
  let jump := match x.filtered with | some f => decide (mag (d - f) > 50) | none => false
  let slave := s.slaved && s.time.slave = some p
  let s := s.setTport p { x with
    delay := d, delayAt := some s.now, reqAt := none, respSeq := none
    filtered := match x.filtered with
      | some f => if jump then some d else some (Config.pathFilter f d)
      | none => some d }
  if jump && slave then s.reroute x.delay p p else s

/-- PDELAY_RESP_RX. -/
def State.respIn (s : State) (m : PdelayMsg) : State :=
  s.acceptTime m.hdr fun s =>
    let p := m.hdr.port.val
    let x := s.tport p
    match x.reqAt with
    | none => s
    | some t1 =>
      if x.reqSeq ≠ m.hdr.seqId.toNat then s
      else
        let t4 := s.stampNow p
        if m.twoStep then
          s.setTport p { x with
            respSeq := some x.reqSeq, respStamp := m.stamp, respCorr := m.corr, respRx := t4 }
        else s.delayed p (roundDiv (((t4 : Nat) : Int) - ((t1 : Nat) : Int) - m.corr) 2)

/-- PDELAY_RESP_RX. -/
def execPdelayRespRx (dt : Nat) (m : PdelayMsg) (s : State) : Out := go ((s.elapse dt).respIn m)

/-- PDELAY_RESP_FOLLOW_UP_RX: completes the exchange of its sequence number. -/
def State.respFollowIn (s : State) (m : PdelayMsg) : State :=
  s.acceptTime m.hdr fun s =>
    let p := m.hdr.port.val
    let x := s.tport p
    match x.reqAt, x.respSeq with
    | some t1, some q =>
      if q ≠ m.hdr.seqId.toNat then s
      else
        let turn := ((m.stamp : Nat) : Int) - ((x.respStamp : Nat) : Int)
        let full := ((x.respRx : Nat) : Int) - ((t1 : Nat) : Int)
        s.delayed p (roundDiv (full - turn - x.respCorr - m.corr) 2)
    | _, _ => s

/-- PDELAY_RESP_FOLLOW_UP_RX. -/
def execPdelayRespFollowUpRx (dt : Nat) (m : PdelayMsg) (s : State) : Out :=
  go ((s.elapse dt).respFollowIn m)

/-- SIGNALING_RX: on an 802.1AS port the sender's interval requests are taken where they lie in the
ranges of R245. -/
def State.signalIn (s : State) (h : TimeHdr) (logSync logPdelay : Int) : State :=
  s.acceptTime h fun s =>
    let p := h.port.val
    if s.profile p ≠ 2 then s
    else
      let x := s.tport p
      s.setTport p { x with
        ivSync := if -7 ≤ logSync ∧ logSync ≤ 1 then some logSync
          else if logSync = 126 then none else x.ivSync
        ivPdelay := if -4 ≤ logPdelay ∧ logPdelay ≤ 3 then some logPdelay
          else if logPdelay = 126 then none else x.ivPdelay }

/-- SIGNALING_RX. -/
def execSignalingRx (dt : Nat) (m : TimeHdr) (logSync logPdelay : Int) (s : State) : Out :=
  go ((s.elapse dt).signalIn m logSync logPdelay)

/-- DELAY_REQ_RX: discarded and counted (R244). -/
def execDelayReqRx (dt : Nat) (m : TimeHdr) (s : State) : Out :=
  let s := s.elapse dt
  let p := m.port.val
  go (if s.tLive p then s.count (tlPort p mTimeUnsup) else s)

/-! ### Sent messages (R249, R250) -/

/-- The kind of message in `TPort.dep`. -/
def kindNo : TimeKind → Nat
  | .sync => 0 | .pdelayReq => 1 | .pdelayResp => 2 | .announce => 3 | .signaling => 4

/-- The MAC length of a time message: header, body, the AUTHENTICATION TLV of 26 bytes with AUTH, FCS,
and padding to 64. -/
def timeLen (kind : Nat) (auth : Bool) : Nat :=
  let body := if kind = 0 then 44 else if kind = 1 || kind = 2 then 54 else if kind = 3 then 64 else 60
  max 64 (14 + body + (if auth then 26 else 0) + 4)

/-- The gate actions of the port on scheduled queues, as (opens, offset, round), in network time. -/
def State.gateActs (s : State) (p : Nat) : List (Bool × Nat × Nat × Nat) :=
  let sched := (List.range 8).foldl (fun m q => if s.scheduled p q then m + 2 ^ q else m) 0
  match s.par.force with
  | some f => ((f.timeA ++ f.timeB ++ f.timeS).filter fun a =>
      (a.op = 1 || a.op = 2) && a.tgt = p && (a.opnd &&& sched) != 0 && !(s.relaxed && a.window)).map
        fun a => (a.op = 1, a.opnd &&& sched, f.eff s.boundP a, f.round)
  | none => []

/-- The last instant at or before `t` at which offset `o` fell in rounds of length `l`. -/
def lastAt (t l o : Nat) : Nat := let n := nextAt (t + 1) l o; n - l

/-- Whether some scheduled gate is open at `t`. -/
def openAt (acts : List (Bool × Nat × Nat × Nat)) (t : Nat) : Bool :=
  (List.range 8).any fun q =>
    let mine := acts.filter fun a => bit a.2.1 q
    let latest := fun (o : Bool) => (mine.filter (·.1 == o)).foldl
      (fun m a => max m (lastAt t a.2.2.2 a.2.2.1 + 1)) 0
    latest true > latest false

/-- The next action of a kind after `t`. -/
def nextGate (acts : List (Bool × Nat × Nat × Nat)) (o : Bool) (t : Nat) : Option Nat :=
  (acts.filter (·.1 == o)).foldl (fun m a =>
    let n := nextAt (t + 1) a.2.2.2 a.2.2.1
    some (match m with | some x => min x n | none => n)) none

/-- The earliest instant from `t` on at which a message of `len` ns finds no scheduled gate open and
ends before the next opening. -/
def findSlot (acts : List (Bool × Nat × Nat × Nat)) (len : Nat) : Nat → Nat → Nat
  | 0, t => t
  | n + 1, t =>
    if openAt acts t then
      match nextGate acts false t with
      | some c => findSlot acts len n c
      | none => t
    else match nextGate acts true t with
      | some o => if t + len ≤ o then t else findSlot acts len n o
      | none => t

/-- A departure instant D is chosen for a message (R249). -/
def State.schedule (s : State) (p kind : Nat) : State :=
  let len := (s.lineTime p (timeLen kind (s.tAuth p)) + 9) / 10
  let busy := match Tab.get none s.fab.tx p with
    | some x => s.net + ((x.endAt + 9) / 10 - s.now)
    | none => 0
  let behind := (s.tport p).dep.foldl (fun m d => max m (d.2.1 + len)) 0
  let d := findSlot (s.gateActs p) len 256 (max (max (s.net + 2000) busy) behind)
  s.setTport p { s.tport p with dep := (s.tport p).dep ++ [(kind, d, s.net)] }

/-- PDELAY_REQ_RX: a Pdelay_Resp is scheduled (R250). -/
def State.reqIn (s : State) (h : TimeHdr) : State :=
  s.acceptTime h fun s =>
    let p := h.port.val
    let x := s.tport p
    (s.setTport p { x with reqRx := x.reqRx ++ [(h.seqId.toNat, s.stampNow p)] }).schedule p 2

/-- PDELAY_REQ_RX. -/
def execPdelayReqRx (dt : Nat) (m : TimeHdr) (s : State) : Out := go ((s.elapse dt).reqIn m)

/-- Whether a port sends Sync and Announce. -/
def State.isMaster (s : State) (p : Nat) : Bool :=
  s.tLive p && s.time.slave ≠ some p &&
    (s.time.state = .grandmaster ||
      (fld s.time.conf 0 1 = 1 && (s.slaved || s.time.state = .holdover))) &&
    ((s.tport p).master.isEmpty || !Config.bmcBetter s.algorithm ((s.tport p).master.take 7) (s.time.gm.take 7))

/-- TIME_MESSAGE_DUE: a message that is due gets its departure instant; the next is due one interval
later. -/
def State.timeDue (s : State) (p : Nat) (k : TimeKind) : State :=
  let x := s.tport p
  if !s.tLive p || (s.tAuth p && !(s.sa p).secured) then s
  else match k with
    | .sync =>
      if s.isMaster p && x.dueSync ≤ s.now then
        (s.setTport p { x with dueSync := s.now + s.syncNs p }).schedule p 0 else s
    | .pdelayReq =>
      if x.duePdelay ≤ s.now then
        (s.setTport p { x with duePdelay := s.now + s.pdelayNs p }).schedule p 1 else s
    | .announce =>
      if s.isMaster p && s.profile p = s.algorithm && x.dueAnnounce ≤ s.now then
        (s.setTport p { x with dueAnnounce := s.now + Config.announceNs s.algorithm }).schedule p 3
      else s
    | .signaling => if s.profile p = 2 then s.schedule p 4 else s
    | .pdelayResp => s

/-- TIME_MESSAGE_DUE. -/
def execTimeMessageDue (dt : Nat) (port : Fin 24) (kind : TimeKind) (s : State) : Out :=
  go ((s.elapse dt).timeDue port.val kind)

/-- What a message carries (R250): sequence number, origin timestamp, correction in ns. -/
def State.timeBody (s : State) (p kind d : Nat) : List Byte :=
  let x := s.tport p
  let at_ := d + s.txLat p
  if kind = 0 then
    let res : Int := ((at_ : Nat) : Int) - ((s.time.upStamp : Nat) : Int)
    let corr : Int := if s.slaved then
        s.time.upCorr + res * (1000000000000 + s.time.ratioNow) / 1000000000000 else 0
    secNs at_ ++ leInt 8 corr
  else if kind = 1 then le 2 ((x.reqSeq + 1) % 65536) ++ secNs at_
  else if kind = 2 then
    match x.reqRx.head? with
    | some (q, t) => le 2 q ++ secNs 0 ++ leInt 8 (((at_ : Nat) : Int) - ((t : Nat) : Int))
    | none => []
  else if kind = 3 then
    le 8 (s.time.gm.headD 0) ++ le 1 (s.time.gm.getD 1 0) ++ le 1 (s.time.gm.getD 2 0) ++
      le 1 (s.time.gm.getD 5 0) ++ le 2 (s.time.gm.getD 6 0 + bnat s.slaved)
  else leInt 1 (fldInt (s.tEntry p) 2 1) ++ leInt 1 (fldInt (s.tEntry p) 3 1)

/-- TIME_MESSAGE_DEPARTURE: the first message of the port leaves at its instant D. -/
def State.timeDepart (s : State) (p : Nat) : State :=
  let x := s.tport p
  match x.dep with
  | [] => s
  | (kind, d, due) :: rest =>
    if s.net + 2 < d || !s.tLive p then s
    else
      let s := s.send (.msg p (ev 7 kind) (s.timeBody p kind d))
      let s := s.count (tlPort p mTimeTx)
      let s := if d > due + 1000000 then s.count (tlPort p mTimeDefer) else s
      let x := { x with dep := rest }
      let x := if kind = 1 then
          { x with
            reqSeq := (x.reqSeq + 1) % 65536, reqAt := some (d + s.txLat p), respSeq := none }
        else if kind = 2 then { x with reqRx := x.reqRx.drop 1 } else x
      (s.setTport p x).egress p

/-- TIME_MESSAGE_DEPARTURE. -/
def execTimeMessageDeparture (dt : Nat) (port : Fin 24) (s : State) : Out :=
  go ((s.elapse dt).timeDepart port.val)

/-! ### Timeouts (R252) -/

/-- A port whose master has been silent for three announce intervals forgets it. -/
def State.forget (s : State) (p : Nat) : State :=
  match (s.tport p).announceAt with
  | some t =>
    if t + 3 * Config.announceNs s.algorithm ≤ s.now then
      s.setTport p { s.tport p with master := [], announceAt := none } else s
  | none => s

/-- ANNOUNCE_TIMEOUT: the slave port's master is silent: HOLDOVER; with no master heard, the algorithm
selects this node. -/
def State.announceLost (s : State) : State :=
  let s := (List.range 24).foldl State.forget s
  if s.slaved then
    match s.time.slave with
    | some p => if p < 24 && (s.tport p).master.isEmpty then s.holdover else s
    | none => s
  else if s.quiet then s
  else if s.time.state = .grandmaster || s.now < s.time.stateAt + 3 * Config.announceNs s.algorithm then s
  else if s.candidates.isEmpty then s.selectOwn else s.bmc

/-- ANNOUNCE_TIMEOUT. -/
def execAnnounceTimeout (dt : Nat) (s : State) : Out := go (s.elapse dt).announceLost

/-- SYNC_TIMEOUT: no Sync for three Sync intervals. -/
def execSyncTimeout (dt : Nat) (s : State) : Out :=
  let s := s.elapse dt
  match s.time.slave with
  | some p =>
    let from_ := max ((s.tport p).syncAt.getD 0) s.time.stateAt
    if p < 24 && s.slaved && from_ + 3 * s.syncNs p ≤ s.now then go s.holdover else go s
  | none => go s

/-! ### Re-step (R258) -/

/-- The WARRANT counter after an offline warrant: the state with it raised, none where the vault
cannot write its record (R481, R488). -/
def State.payWarrant (s : State) (w : List Byte) : Option State :=
  let x := raiseSeq w s.sec
  if x = s.sec then some s
  else if s.canRecord && !s.sec.recordBad then some (s.recordUpd fun _ => x) else none

/-- MB_TIME_RESTEP. -/
def cmdRestep : Cmd :=
  { op := 0x0503
    shape := fun b => b.length = 24 && zeroAt b 1 7 && zeroAt b 20 4 &&
      (fld b 0 1 = 1 || fld b 0 1 = 2) && (fld b 0 1 = 2 || zeroAt b 8 12)
    run := fun b s =>
      let op := fld b 0 1
      if fld b 16 4 > 999999999 then refuse stMalformed s
      else
        let r := s.takeWarrant [4] fun a =>
          fld a 0 1 = op && zeroAt a 1 7 && slice a 8 12 = slice b 8 12 && allZero (a.drop 20)
        let s := r.2.2
        let ok := if op = 1 then s.slaved && s.time.slave.isSome else decide (s.time.state = .grandmaster)
        if !r.1 then refuse stWarrant s
        else if !ok then refuse stDenied s
        else if s.time.restep.isSome then refuse stBusy s
        else match s.payWarrant r.2.1 with
          | none => refuse stDenied s
          | some s =>
            let x : Restep := if op = 1 then .master
              else .set (ceilMul (s.net + 1000000) 125000) (timeAt b 8)
            ans stOk [] { s with time := { s.time with restep := some x, firstLock := false } } }

/-- RESTEP_MASTER. -/
def execRestepMaster (dt : Nat) (r : Req) (s : State) : Out :=
  go ((s.elapse dt).submit cmdRestep (withOp r 1))
/-- RESTEP_SET. -/
def execRestepSet (dt : Nat) (r : Req) (s : State) : Out :=
  go ((s.elapse dt).submit cmdRestep (withOp r 2))

/-- RESTEP_SET_BOUNDARY: network time takes the given value at its boundary. -/
def execRestepSetBoundary (dt : Nat) (s : State) : Out :=
  let s := s.elapse dt
  match s.time.restep with
  | some (.set b t) =>
    if s.net + 2 < b then go s
    else
      let s := { s with time := { s.time with restep := none, firstLock := true } }
      let s := s.stepBy (((t : Nat) : Int) - ((b : Nat) : Int)) 2
      go (if s.time.state = .grandmaster then s else s.toTime .locked)
  | _ => go s

/-! ### Real-time counter and CAN pairs (R259, R260) -/

/-- RTC_WRITE. -/
def execRtcWrite (dt : Nat) (s : State) : Out :=
  let s := s.elapse dt
  go (if s.tellerUp && (s.time.state = .locked || s.time.state = .grandmaster) then
    { s with time := { s.time with rtcSec := s.net / 1000000000, rtcAt := s.now } } else s)

/-- The keep-alive real-time counter's seconds. -/
def State.rtc (s : State) : Nat := s.time.rtcSec + (s.now - s.time.rtcAt) / 1000000000

/-- A domain's 48-bit CAN counter, 80 MHz. -/
def State.canCount (s : State) : Nat := s.now * 2 / 25 % 2 ^ 48

/-- Latching a pair. -/
def CanPair.latch (x : CanPair) (c t : Nat) : CanPair := { c := c, t := t, c0 := x.c, t0 := x.t }

/-- At a 125 µs boundary each present domain latches its pair. -/
def State.tickPairs (s : State) (b : Nat) : State :=
  let t := { s.time with tickNet := b }
  let t := if s.hasDom 0 then { t with pairA := t.pairA.latch s.canCount b } else t
  let t := if s.hasDom 1 then { t with pairB := t.pairB.latch s.canCount b } else t
  { s with time := t }

/-- The network time of a 48-bit CAN stamp of a domain (R259). -/
def State.canNet (s : State) (d c : Nat) : Nat :=
  let x := if d = 0 then s.time.pairA else s.time.pairB
  let raw := (c + 2 ^ 48 - x.c % 2 ^ 48) % 2 ^ 48
  let diff : Int := if raw < 2 ^ 47 then ((raw : Nat) : Int) else ((raw : Nat) : Int) - 2 ^ 48
  let dc := (x.c + 2 ^ 48 - x.c0) % 2 ^ 48
  let off : Int := if x.t0 = 0 || dc = 0 then diff * 25 / 2
    else diff * (((x.t : Nat) : Int) - ((x.t0 : Nat) : Int)) / ((dc : Nat) : Int)
  (((x.t : Nat) : Int) + off).toNat

/-! ### Commands (R246, R262) -/

/-- Reserved fields of the time record. -/
def timeRsv (c : List Byte) : Bool :=
  fld c 5 1 < 2 && zeroAt c 6 26 &&
    (chunks 16 24 (c.drop 32)).all fun e => fld e 1 1 < 4 && zeroAt e 10 6

/-- Ranges of the time record. -/
def timeOk (c : List Byte) : Bool :=
  fld c 0 1 < 2 && fld c 3 1 < 128 && (chunks 16 24 (c.drop 32)).all fun e =>
    let ls := fldInt e 2 1
    let lp := fldInt e 3 1
    let a := fldInt e 4 2
    fld e 0 1 < 3 && -7 ≤ ls && ls ≤ 1 && -4 ≤ lp && lp ≤ 3 && -10000 ≤ a && a ≤ 10000 &&
      fld e 6 2 ≤ 2000 && fld e 8 2 ≤ 2000

/-- What of a record makes the algorithm run again. -/
def bmcFields (c : List Byte) : List Byte :=
  c.take 4 ++ slice c 5 1 ++ ((chunks 16 24 (c.drop 32)).map fun e => e.take 1).flatten

/-- The record takes effect. -/
def State.setTimeConf (s : State) (c : List Byte) : State :=
  let was := s.time.conf
  let s := { s with time := { s.time with conf := c } }
  if bmcFields was = bmcFields c then s
  else
    let s := (List.range 24).foldl (fun s p =>
      if s.profile p = 0 then s.setTport p tport0 else s) s
    s.bmc

/-- MB_TIME_CONFIG. -/
def cmdTimeConfig : Cmd :=
  { op := 0x0501
    shape := fun b => cfgOpts b true && cfgLen b 4 416 && (bit (fld b 0 4) 1 || timeRsv (b.drop 4))
    run := fun b s =>
      let o := fld b 0 4
      let c := b.drop 4
      if bit o 1 then ans stOk s.time.conf s
      else if !timeOk c then refuse stMalformed s
      else if s.sec.life = 2 && (List.range 24).any fun p => !bit (fld c (33 + 16 * p) 1) 0 then
        refuse stDenied s
      else if bit o 0 && s.flashHeld then refuse stBusy s
      else
        let s := s.setTimeConf c
        ans stOk c (if bit o 0 then s.persist cfTime c else s) }

/-- MB_TIME_CONFIG from the host. -/
def execMbTimeConfig (dt : Nat) (r : Req) (s : State) : Out :=
  go ((s.elapse dt).submit cmdTimeConfig r)

/-- The IEEE 1588 portState of a port. -/
def State.ptpState (s : State) (p : Nat) : Nat :=
  if s.profile p = 0 then 3
  else if !(s.mac p).up || s.absentUnit p then 2
  else if s.slaved && s.time.slave = some p then (if s.time.state = .acquiring then 8 else 9)
  else if s.isMaster p then 6
  else if (s.tport p).master.isEmpty then 4 else 7

/-- The authentication state of a port (R522). -/
def State.authState (s : State) (p : Nat) : Nat :=
  if !s.tAuth p then 0 else if (s.sa p).secured then 2 else 1

/-- A signed 32-bit field, saturating. -/
def sat32 (x : Int) : List Byte := leInt 4 (clampInt (-2147483648) 2147483647 x)

/-- A delay as u32. -/
def delay32 (x : Int) : List Byte := le 4 (min x.toNat 4294967295)

/-- MB_TIME_STATUS. -/
def cmdTimeStatus : Cmd :=
  { op := 0x0502
    shape := fun b => b.isEmpty
    run := fun _ s =>
      let t := s.time
      let d := match t.slave with | some p => (s.tport p).delay | none => 0
      ans stOk (le 1 (timeNo t.state) ++ le 1 (bnat t.firstLock + t.leap) ++
        le 1 (match t.slave with | some p => if p < 24 then p else 0xFF | none => 0xFF) ++ zeros 1 ++ le 2 t.utc ++ le 2 (t.gm.getD 6 0) ++ secNs s.net ++
        sat32 t.theta ++ sat32 t.freq ++ sat32 t.slew ++ delay32 d ++ sat32 t.asym ++ le 8 s.gmId ++
        le 1 (t.gm.getD 1 0) ++ le 1 (t.gm.getD 5 0) ++ le 1 (t.gm.getD 2 0) ++ zeros 1 ++
        ((List.range 24).map fun p =>
          le 1 (s.ptpState p) ++ le 1 (s.authState p) ++ zeros 2 ++ delay32 (s.tport p).delay).flatten) s }

/-- MB_TIME_STATUS from the host. -/
def execMbTimeStatus (dt : Nat) (r : Req) (s : State) : Out :=
  go ((s.elapse dt).submit cmdTimeStatus r)

end Sys2Proof.Machine
end

