-- ==== Sys2Proof/Machine/Links.lean ====
section
/-! DEFINITION. Physical links coming up and going down, and the port and ring records. -/

namespace Sys2Proof.Machine

/-! ### Links (R89, R90, R123, R216, R235) -/

/-- LINK_UP: a port's physical link comes up. -/
def State.linkRise (s : State) (p mbps : Nat) : State :=
  let was := (s.mac p).up
  let s := s.macUp p mbps
  if was || !(s.mac p).up then s
  else
    let s := s.keyPolicy p
    if p < 4 then s.bbUp p else s.keyStart p

/-- LINK_UP. -/
def execLinkUp (dt : Nat) (port : Fin 24) (mbps : Nat) (s : State) : Out :=
  go ((s.elapse dt).linkRise port.val mbps)

/-- A port's physical link goes down: cause 0 remote, 1 loss of lock, 2 configuration, 3 domain
isolated. -/
def State.linkFall (s : State) (p cause : Nat) : State :=
  if !(s.mac p).up then s
  else
    let s := ((s.macDown p cause).keyDrop p).portTimeLost p
    if p < 4 then s.bbDown p else s

/-- LINK_DOWN. -/
def execLinkDown (dt : Nat) (port : Fin 24) (cause : Fin 3) (s : State) : Out :=
  go ((s.elapse dt).linkFall port.val cause.val)

/-! ### MB_MAC_CONFIG (R89, R93, R96, R113, R114) -/

/-- Reserved bits of a port record. -/
def portRsvOk (c : List Byte) : Bool :=
  fld c 1 1 < 2 && fld c 4 2 < 4096 && fld c 6 1 < 8 && fld c 7 1 < 8 && zeroAt c 9 7 &&
    zeroAt c 48 16 &&
    ((chunks 4 8 (slice c 16 32)).all fun e => fld e 1 1 < 8) &&
    ((chunks 16 32 (slice c 64 512)).all fun r =>
      fld r 4 2 < 4096 && fld r 6 2 < 4096 && fld r 8 1 < 8 && fld r 9 1 < 8 &&
        bits (fld r 10 1) 4 3 = 0 && zeroAt r 11 5)

/-- Ranges of a port record. -/
def portRangeOk (p : Nat) (c : List Byte) : Bool :=
  let mode := fld c 0 1
  mode < 6 && (mode ≠ 1 || p < 4) && 1518 ≤ fld c 2 2 && fld c 2 2 ≤ 9216 && 1 ≤ fld c 4 2 &&
    fld c 4 2 ≤ 4094 && (fld c 8 1 < 32 || fld c 8 1 = 255) &&
    ((chunks 4 8 (slice c 16 32)).all fun e => fld e 0 1 < 3 && fld e 2 1 < 2 && fld e 3 1 < 2)

/-- Whether a number is a power of two from 64 to 4,096. -/
def ringSize (n : Nat) : Bool :=
  n = 64 || n = 128 || n = 256 || n = 512 || n = 1024 || n = 2048 || n = 4096

/-- Ranges of one entry of the ring record; entries that stay disabled may be empty. -/
def ringOk (tx : Bool) (e : List Byte) : Bool :=
  let on := fld e 12 1
  on < 2 && zeroAt e 15 17 &&
    (if on = 0 && fld e 8 2 = 0 then true
     else fld e 0 8 % 64 = 0 && ringSize (rgCount e) &&
      (if tx then rgBuf e = 0 && 1 ≤ fld e 13 1 && fld e 13 1 ≤ 64
       else 256 ≤ rgBuf e && rgBuf e ≤ 16384 && rgBuf e % 64 = 0 && fld e 13 1 = 0))

/-- A ring record takes effect: a ring newly enabled starts at descriptor 0 (R114). -/
def State.setRings (s : State) (c : List Byte) : State :=
  let was := s.ports.ringConf
  let s := { s with ports := { s.ports with ringConf := c } }
  (List.range 8).foldl (fun s q =>
    let on := fun (l : List Byte) r => rgOn (slice l (32 * r) 32)
    let s := if on c q != on was q then
        s.setHrx q { s.hrx q with index := 0, cached := [], cur := none, filled := 0 } else s
    if on c (8 + q) != on was (8 + q) then
      s.setHtx q { s.htx q with
        index := 0, descs := [], fetching := false, paused := none, pollAt := 0 }
    else s) s

/-- MB_MAC_CONFIG. -/
def cmdMacConfig : Cmd :=
  { op := 0x0201
    shape := fun b =>
      let p := fld b 4 1
      cfgOpts b true && zeroAt b 5 3 && b.length ≥ 8 &&
        cfgLen b 8 (if p = 24 then 512 else 576) &&
        (bit (fld b 0 4) 1 || p ≥ 24 || portRsvOk (b.drop 8))
    run := fun b s =>
      let o := fld b 0 4
      let p := fld b 4 1
      let c := b.drop 8
      if p > 24 then refuse stMalformed s
      else if p = 24 then
        if !s.pcie then refuse stDenied s
        else if bit o 1 then ans stOk s.ports.ringConf s
        else if !((chunks 32 16 c).zip (List.range 16)).all fun e => ringOk (8 ≤ e.2) e.1 then
          refuse stMalformed s
        else if bit o 0 && s.flashHeld then refuse stBusy s
        else
          let s := s.setRings c
          let s := s.note (ev 3 2) (le 1 p ++ le 1 (bnat (bit o 0)))
          ans stOk c (if bit o 0 then s.persist p c else s)
      else if Tab.get 0 s.sys.retired p ≠ 0 then refuse stDenied s
      else if s.absentUnit p then refuse stAbsent s
      else if bit o 1 then ans stOk (s.mac p).conf s
      else if !portRangeOk p c then refuse stMalformed s
      else if bit o 0 && s.flashHeld then refuse stBusy s
      else
        let was := s.mac p
        let s := if was.conf.take 2 = c.take 2 then s else s.linkFall p 2
        let s := (s.setMac p ((s.mac p).reconf s.now c)).insertion
        let s := if was.conf = c then s
          else s.note (ev 3 2) (le 1 p ++ le 1 (bnat (bit o 0)))
        ans stOk c (if bit o 0 then s.persist p c else s) }

/-- MB_MAC_CONFIG from the host. -/
def execMbMacConfig (dt : Nat) (r : Req) (s : State) : Out := go ((s.elapse dt).submit cmdMacConfig r)

end Sys2Proof.Machine
end

