-- ==== Sys2Proof/Machine/Can.lean ====
section
/-! DEFINITION. The CAN FD controllers (chapter 8): arming, commit point and the end of a frame,
error confinement, filters and FIFOs, the access block, the mailbox commands, activation and loss of
a domain. -/

namespace Sys2Proof.Machine

/-! ### Records (R270, R274, R286) -/

/-- A controller as it stands; none while it is OFF. -/
def State.ctl (s : State) (c : Nat) : Option CanCtl := Tab.get none s.can c
/-- Writing a controller. -/
def State.setCtl (s : State) (c : Nat) (x : Option CanCtl) : State :=
  { s with can := Tab.set none s.can c x }
/-- A buffer of a controller. -/
def CanCtl.buf (x : CanCtl) (k : Nat) : Option CanBuf := Tab.get none x.bufs k
/-- Writing a buffer. -/
def CanCtl.setBuf (x : CanCtl) (k : Nat) (b : Option CanBuf) : CanCtl :=
  { x with bufs := Tab.set none x.bufs k b }
/-- MODE. -/
def CanCtl.mode (x : CanCtl) : Nat := fld x.conf 0 1
/-- FD_EN. -/
def CanCtl.fdEn (x : CanCtl) : Bool := bit (fld x.conf 1 1) 0
/-- TDC_EN. -/
def CanCtl.tdcEn (x : CanCtl) : Bool := bit (fld x.conf 1 1) 1
/-- Whether the consistency mode is CHECK. -/
def CanCtl.check (x : CanCtl) : Bool := fld x.conf 2 1 = 1
/-- Whether FIFO `f` overwrites. -/
def CanCtl.overwrites (x : CanCtl) (f : Nat) : Bool := bit (fld x.conf 3 1) f
/-- Whether FIFO `f` is read over the forerunner bus. -/
def CanCtl.toFlb (x : CanCtl) (f : Nat) : Bool := bit (fld x.conf 3 1) (2 + f)
/-- A nominal bit in CAN clocks (R271). -/
def CanCtl.bitClocks (x : CanCtl) : Nat :=
  fld x.conf 4 2 * (1 + fld x.conf 6 2 + fld x.conf 8 1)
/-- TDCO. -/
def CanCtl.tdco (x : CanCtl) : Nat := fld x.conf 14 1
/-- FIFO 0 or 1. -/
def CanCtl.fifo (x : CanCtl) (f : Nat) : CanFifo := if f = 0 then x.fifo0 else x.fifo1
/-- Writing a FIFO. -/
def CanCtl.setFifo (x : CanCtl) (f : Nat) (q : CanFifo) : CanCtl :=
  if f = 0 then { x with fifo0 := q } else { x with fifo1 := q }

/-- The data length of a DLC (R274). -/
def dlcLen (d : Nat) : Nat :=
  match d with
  | 9 => 12 | 10 => 16 | 11 => 20 | 12 => 24 | 13 => 32 | 14 => 48 | 15 => 64
  | n => n

/-- A buffer's data length. -/
def CanBuf.len (b : CanBuf) : Nat := dlcLen (fld b.conf 8 1)
/-- SOURCE: 0 STATIC, 1 MAP, 2 HOST. -/
def CanBuf.source (b : CanBuf) : Nat := fld b.conf 2 1
/-- A flag bit of a buffer. -/
def CanBuf.flag (b : CanBuf) (i : Nat) : Bool := bit (fld b.conf 3 1) i
/-- SINGLE_SHOT. -/
def CanBuf.once (b : CanBuf) : Bool := b.flag 4
/-- The identifier for comparison: an 11-bit one is shifted left by 18 (R277). -/
def CanBuf.rank (b : CanBuf) : Nat :=
  let id := fld b.conf 4 4 % 2 ^ 29
  if b.flag 0 then id else id * 2 ^ 18
/-- The frame a buffer sends; ESI is recessive in an error-passive node. -/
def CanBuf.toFrame (b : CanBuf) (passive : Bool) : CanFrame :=
  { id := BitVec.ofNat 29 (fld b.conf 4 4), ide := b.flag 0, fdf := b.flag 1, brs := b.flag 2
    esi := passive && b.flag 1, rtr := b.flag 3, dlc := BitVec.ofNat 4 (fld b.conf 8 1)
    data := if b.flag 3 then [] else b.data.take b.len }

/-- An empty FIFO. -/
def canFifo0 : CanFifo := { ents := [], head := 0, count := 0, ovf := false, shadow := none }
/-- A buffer as its record defines it. -/
def newBuf (conf : List Byte) : CanBuf :=
  { conf := conf, state := .idle, outcome := 0, data := slice conf 16 64, written := false
    cancel := false, next := none, stamp := 0 }
/-- A controller as a parison defines it, not yet joined (R297). -/
def newCtl (conf : List Byte) (bufs : List (List Byte)) (busOff : Bool) : CanCtl :=
  { conf := conf, err := if busOff then .busOff else .active, recovering := false, tec := 0, rec_ := 0
    lastErr := 0, tdc := 0, joining := true
    bufs := bufs.foldl (fun t r => Tab.set none t (fld r 1 1) (some (newBuf r))) []
    fifo0 := canFifo0, fifo1 := canFifo0, seq := 0, next := none }

/-- The buffer records of a controller in a parison. -/
def Par.bufsOf (p : Par) (c : Nat) : List (List Byte) := p.canBuf.filter fun r => fld r 0 1 = c

/-- The controller of a domain that answers: present and not OFF. -/
def State.canUp (s : State) (c : Nat) : Bool := !s.absentUnit (0x20 + c) && (s.ctl c).isSome

/-- Whether a controller takes part in its bus: joined, not in BUS_OFF. -/
def CanCtl.onBus (x : CanCtl) : Bool := !x.joining && x.err ≠ .busOff

/-- Whether a controller may drive its bus: NORMAL, and not held to listening by its role (R285,
R398). -/
def State.canDrives (s : State) (x : CanCtl) : Bool := x.mode = 1 && !s.quiet

/-! ### The consent buffer and FIFO (R307, R309, R310) -/

/-- ROLE of the wake record: 0 SOLO, 1 MEMBER, 2 COORDINATOR. -/
def wkRole (c : List Byte) : Nat := fld c 0 1
/-- MEMBER. -/
def wkMember (c : List Byte) : Nat := fld c 1 1
/-- CTRL. -/
def wkCtrl (c : List Byte) : Nat := fld c 2 1
/-- BUFFER. -/
def wkBuf (c : List Byte) : Nat := fld c 3 1
/-- FIFO. -/
def wkFifo (c : List Byte) : Nat := fld c 4 1
/-- COMMIT_MS. -/
def wkCommit (c : List Byte) : Nat := fld c 0x12 2

/-- Whether a buffer is the consent buffer. -/
def State.isConsentBuf (s : State) (c k : Nat) : Bool :=
  let w := s.sleep.conf
  wkRole w ≠ 0 && wkCtrl w = c && wkBuf w = k

/-- Whether a FIFO is the consent FIFO. -/
def State.isConsentFifo (s : State) (c f : Nat) : Bool :=
  let w := s.sleep.conf
  wkRole w ≠ 0 && wkCtrl w = c && wkFifo w = f

/-- The eight bytes of the consent frame to send (R310). A node that holds no ROUND sends 0, and does
not vote READY. -/
def State.consentData (s : State) : List Byte :=
  let x := s.sleep
  let head := fun k arg => le 1 k ++ le 1 (wkMember x.conf) ++ le 1 (x.round.getD 0) ++ le 1 arg
  match x.tx with
  | .vote => head 1 (bnat (x.votedReady && x.round.isSome)) ++ zeros 4
  | .commit => head 2 (wkCommit x.conf / 10) ++ le 4 x.excluded.toNat
  | .abort cause => head 4 cause ++ zeros 4

/-- The teller writes the consent buffer, or again after the frame that is being sent (R310). -/
def State.fillConsent (s : State) : State :=
  let c := wkCtrl s.sleep.conf
  let k := wkBuf s.sleep.conf
  if wkRole s.sleep.conf = 0 then s
  else match s.ctl c with
    | none => s
    | some x =>
      match x.buf k with
      | none => s
      | some b =>
        if b.state = .locked then { s with sleep := { s.sleep with txWait := true } }
        else ({ s with sleep := { s.sleep with txWait := false } }).setCtl c (some (x.setBuf k
          (some { b with data := padTo 0 64 s.consentData, written := true })))

/-- The consent frame that was sent, by its KIND: the commit point follows a coordinator's COMMIT
(R313), its ROUND rises after its own ABORT (R314), and the VOTE comes back (R310). -/
def State.consentSent (s : State) (c : Nat) (b : CanBuf) : State :=
  let x := s.sleep
  let kind := fld b.data 0 1
  match x.tx with
  | .vote => s
  | .commit =>
    if kind ≠ 2 then s
    else
      let t := s.canNet (canDomain c) (b.stamp - 1) + fld b.data 3 1 * 10000000
      { s with sleep := { x with tx := .vote, commitNet := if x.agreed then some t else none } }
  | .abort _ =>
    if kind ≠ 4 then s
    else
      let r := if wkRole x.conf = 2 then x.round.map fun n => (n + 1) % 256 else x.round
      { s with sleep := { x with tx := .vote, round := r } }

/-! ### Arming (R203, R276) -/

/-- CAN_ARM on one buffer. -/
def State.armOne (s : State) (c : Nat) (x : CanCtl) (k : Nat) : State :=
  match x.buf k with
  | none => s
  | some b =>
    if x.err = .busOff then s.count (tlCan c 17)
    else if b.state = .locked then s.count (tlCan c 15)
    else if b.source = 1 then
      match s.maps.find? fun m => mKind m = 1 && mUnit m = c && mIndex m = k with
      | none => s
      | some m =>
        let r := s.mapOut m (mapKey m)
        match r.1 with
        | none => r.2
        | some d =>
          (r.2.setCtl c (some (x.setBuf k (some { b with
            state := .pending, data := overlay b.data 0 d })))).count (tlCan c 14)
    else if b.state = .pending then s.count (tlCan c 15)
    else if b.source = 2 && !b.written then s.count (tlCan c 16)
    else (s.setCtl c (some (x.setBuf k (some { b with state := .pending })))).count (tlCan c 14)

/-- CAN_ARM at its controller. -/
def State.armMask (s : State) (c mask : Nat) : State :=
  (List.range 64).foldl (fun s k =>
    if bit mask k then (match s.ctl c with | some x => s.armOne c x k | none => s) else s) s

/-- CAN_ARM. -/
def execCanArm (dt : Nat) (src : ActSrc) (s : State) : Out :=
  go ((s.elapse dt).act 5 src fun i s =>
    s.toUnit i.act.tgt fun s =>
      if s.quiet then s.suppress else s.armMask (i.act.tgt - 0x20) i.act.opnd)

/-! ### The end of a frame (R278 to R280, R297) -/

/-- The 48-bit stamp of a buffer as seconds and nanoseconds, zero if it never started. -/
def State.stampBytes (s : State) (c : Nat) (b : CanBuf) : List Byte :=
  if b.stamp = 0 then zeros 12 else secNs (s.canNet (canDomain c) (b.stamp - 1))

/-- MB_CAN_CANCEL completes where it waits for this buffer. -/
def State.cancelDone (s : State) (c k outcome : Nat) (b : CanBuf) : State :=
  match s.hif.held with
  | some h =>
    if h.op = 0x0603 && fld h.body 0 1 = c && fld h.body 1 1 = k then
      s.finish 0x0603 stOk (le 1 outcome ++ zeros 3 ++ s.stampBytes c b ++ zeros 4)
    else s
  | none => s

/-- The tally of a cancel's outcome. -/
def cancelTally (outcome : Nat) : Nat := outcome + 14

/-- A locked buffer's frame ends: `cancelled` and `once` are the outcomes for a cancelled and a
SINGLE_SHOT buffer, `sent` says that it was sent. A new definition is taken now. -/
def State.frameEnd (s : State) (c k : Nat) (x : CanCtl) (b : CanBuf) (cancelled once : Nat)
    (sent : Bool) : State :=
  let out := if b.cancel then cancelled else if sent then 1 else if b.once then once else b.outcome
  let done := b.cancel || sent || b.once
  let nb : Option CanBuf := match b.next with
    | some [] => none
    | some r => some { newBuf r with outcome := out }
    | none => some { b with
        state := if done then .idle else .pending, outcome := out, cancel := false }
  let x := x.setBuf k nb
  let y : CanCtl := match x.next with
    | some r => newCtl r (match s.par.force with | some p => p.bufsOf c | none => []) (x.err = .busOff)
    | none => x
  let gone := x.next = some []
  let s := s.setCtl c (if gone then none else some y)
  let s := if b.cancel then s.count (tlCan c (cancelTally out)) else s
  let s := if s.isConsentBuf c k then (if sent then s.consentSent c b else s).fillConsent else s
  if b.cancel then s.cancelDone c k out b else s

/-- The locked buffer of a controller. -/
def CanCtl.lockedBuf (x : CanCtl) : Option (Nat × CanBuf) :=
  x.bufs.findSome? fun e => match e.2 with
    | some b => if b.state = .locked then some (e.1, b) else none
    | none => none

/-- The best pending buffer (R277). -/
def bestBuf : List (Nat × Option CanBuf) → Option (Nat × CanBuf)
  | [] => none
  | (_, none) :: l => bestBuf l
  | (k, some b) :: l =>
    if b.state ≠ .pending then bestBuf l
    else match bestBuf l with
      | some (j, d) => if d.rank < b.rank then some (j, d) else some (k, b)
      | none => some (k, b)

/-- CAN_COMMIT_POINT: the best pending buffer is locked; its frame starts at the next bit. -/
def State.commitPoint (s : State) (c : Nat) : State :=
  match s.ctl c with
  | none => s
  | some x =>
    if s.absentUnit (0x20 + c) || !s.canDrives x || !x.onBus || x.lockedBuf.isSome then s
    else match bestBuf x.bufs with
      | none => s
      | some (k, b) =>
        let sof := (s.canCount + x.bitClocks) % 2 ^ 48
        (s.setCtl c (some (x.setBuf k (some { b with state := .locked, stamp := sof + 1 })))).send
          (.can c (b.toFrame (x.err = .passive)))

/-- CAN_COMMIT_POINT. -/
def execCanCommitPoint (dt : Nat) (c : Fin 8) (s : State) : Out := go ((s.elapse dt).commitPoint c.val)

/-- Whether a locked buffer's frame has started: it is ACTIVE (R275). -/
def State.isActive (s : State) (b : CanBuf) : Bool :=
  b.state = .locked && (s.canCount + 2 ^ 48 - (b.stamp - 1)) % 2 ^ 48 < 2 ^ 47

/-- CAN_ARBITRATION_LOST. -/
def State.arbLost (s : State) (c : Nat) : State :=
  match s.ctl c with
  | none => s
  | some x =>
    match x.lockedBuf with
    | none => s
    | some (k, b) =>
      if s.absentUnit (0x20 + c) || !s.isActive b then s
      else (s.count (tlCan c 7)).frameEnd c k x b 6 2 false

/-- CAN_ARBITRATION_LOST. -/
def execCanArbitrationLost (dt : Nat) (c : Fin 8) (s : State) : Out := go ((s.elapse dt).arbLost c.val)

/-! ### Error confinement (R281 to R284) -/

/-- The error state of a pair of counters. -/
def errOf (tec rec_ : Nat) : CanErrState :=
  if tec > 255 then .busOff else if tec > 127 ∨ rec_ > 127 then .passive else .active

/-- An error state as MB_CAN_STATUS codes it. -/
def errNo : CanErrState → Nat
  | .active => 0 | .passive => 1 | .busOff => 2

/-- CAN_STATE. -/
def State.noteErr (s : State) (c : Nat) (old new : CanErrState) (x : CanCtl) : State :=
  s.note (ev 8 0) (le 1 c ++ le 1 (errNo old) ++ le 1 (errNo new) ++ le 2 x.tec ++ le 2 x.rec_ ++
    le 1 x.lastErr)

/-- Buffers withdrawn with an outcome: every one that is not IDLE, or every pending one. -/
def State.withdrawBufs (s : State) (c outcome : Nat) (all : Bool) : State :=
  match s.ctl c with
  | none => s
  | some x =>
    let hit := fun (b : CanBuf) => b.state = .pending || (all && b.state = .locked)
    let n := (x.bufs.filter fun e => match e.2 with | some b => hit b | none => false).length
    let bufs := x.bufs.map fun e => (e.1, e.2.map fun (b : CanBuf) =>
      if hit b then { b with state := .idle, outcome := outcome, cancel := false } else b)
    (s.setCtl c (some { x with bufs := bufs })).countN (tlCan c 22) n

/-- New error counters: the state of R281, and what entering BUS_OFF withdraws (R283). -/
def State.setErr (s : State) (c tec rec_ : Nat) : State :=
  match s.ctl c with
  | none => s
  | some x =>
    let new := errOf tec rec_
    let y := { x with tec := min tec 65535, rec_ := min rec_ 65535, err := new }
    let s := s.setCtl c (some y)
    if new = x.err then s
    else
      let s := s.noteErr c x.err new y
      match new with
      | .busOff => (s.count (tlCan c 24)).withdrawBufs c 8 true
      | .passive => s.count (tlCan c 23)
      | .active => s

/-- A kind of error as LAST_ERROR codes it. -/
def errCode : CanErr → Nat
  | .stuff => 1 | .form => 2 | .ack => 3 | .bit1 => 4 | .bit0 => 5 | .crc => 6

/-- The tally of a kind of error. -/
def errTally : CanErr → Nat
  | .ack => 8 | .bit1 => 9 | .bit0 => 9 | .stuff => 10 | .form => 11 | .crc => 12

/-- An error in a frame (R281, R282, R285). -/
def State.canError (s : State) (c : Nat) (kind : CanErr) (sending dominant : Bool) : State :=
  match s.ctl c with
  | none => s
  | some x =>
    let s := (s.setCtl c (some { x with lastErr := errCode kind })).count (tlCan c (errTally kind))
    let s :=
      if sending then
        match x.lockedBuf with
        | some (k, b) => s.frameEnd c k { x with lastErr := errCode kind } b 7 3 false
        | none => s
      else s
    if !s.canDrives x || (sending && x.next.isSome) then s
    else
      let n := if kind = .ack && sending then
          (if x.err = .passive && !dominant then (x.tec, x.rec_) else (x.tec + 8, x.rec_))
        else Config.canErrorCount (errCode kind) sending dominant x.tec x.rec_
      s.setErr c n.1 n.2

/-- The secondary sample point lies beyond 127 CAN clocks (R273): the first data-phase bit, ESI, is a
bit error. -/
def State.tdcRange (s : State) (c : Nat) (x : CanCtl) (tdc : Nat) : State :=
  let s := (s.setCtl c (some { x with tdc := tdc })).count (tlCan c 13)
  let s := s.noteOnce c (ev 8 2) (le 1 c ++ le 1 tdc ++ le 1 x.tdco)
  s.canError c (if x.err = .passive then .bit1 else .bit0) true true

/-- Whether a buffer's frame has its transmitter delay measured. -/
def CanCtl.measures (x : CanCtl) (b : CanBuf) : Bool := x.tdcEn && b.flag 1 && b.flag 2

/-- CAN_TX_COMPLETE: the frame was sent and acknowledged. -/
def State.txComplete (s : State) (c tdc : Nat) : State :=
  match s.ctl c with
  | none => s
  | some x =>
    match x.lockedBuf with
    | none => s
    | some (k, b) =>
      if s.absentUnit (0x20 + c) || !s.isActive b then s
      else if x.measures b && tdc + x.tdco > 127 then s.tdcRange c x tdc
      else
        let r := s.injectCan 4 (fun q => fld q 0 1 = c && (fld q 1 1 = 0xFF || fld q 1 1 = k))
          fun q => Config.canForceable (BitVec.ofNat 29 (fld b.conf 4 4)) (b.flag 0) (b.flag 1)
            (b.data.take b.len) (fld q 2 2)
        let s := r.2
        if !r.1.isEmpty then
          let v := s.fresh 1
          v.2.canError c (if v.1 == 1 then .bit1 else .bit0) true true
        else
          let s := s.count (tlCan c 5)
          let s := if b.flag 1 then s.count (tlCan c 6) else s
          let x := if x.measures b then { x with tdc := tdc } else x
          let t := s.frameEnd c k x b 5 1 true
          if x.next.isSome then t else t.setErr c (Config.canTxCount x.tec) x.rec_

/-- CAN_TX_COMPLETE. -/
def execCanTxComplete (dt : Nat) (c : Fin 8) (tdc : Nat) (s : State) : Out :=
  go ((s.elapse dt).txComplete c.val tdc)

/-- CAN_FRAME_ERROR. -/
def State.frameError (s : State) (c : Nat) (kind : CanErr) (sending dominant : Bool) (tdc : Nat) :
    State :=
  match s.ctl c with
  | none => s
  | some x =>
    if s.absentUnit (0x20 + c) || !x.onBus then s
    else match sending, x.lockedBuf with
      | true, none => s
      | true, some (_, b) =>
        if !s.isActive b then s
        else if x.measures b && tdc + x.tdco > 127 then s.tdcRange c x tdc
        else s.canError c kind true dominant
      | false, _ => s.canError c kind false dominant

/-- CAN_FRAME_ERROR. -/
def execCanFrameError (dt : Nat) (c : Fin 8) (kind : CanErr) (sending dominantSeen : Bool) (tdc : Nat)
    (s : State) : Out :=
  go ((s.elapse dt).frameError c.val kind sending dominantSeen tdc)

/-- CAN_RECOVERY_COMPLETE: the controller is ERROR_ACTIVE again (R284). -/
def execCanRecoveryComplete (dt : Nat) (c : Fin 8) (s : State) : Out :=
  let s := s.elapse dt
  match s.ctl c.val with
  | none => go s
  | some x =>
    if !x.recovering || s.absentUnit (0x20 + c.val) then go s
    else
      let y := { x with err := .active, recovering := false, tec := 0, rec_ := 0 }
      go ((s.setCtl c.val (some y)).noteErr c.val .busOff .active y)

/-- CAN_BUS_JOIN: 11 recessive bits have passed (R297). -/
def execCanBusJoin (dt : Nat) (c : Fin 8) (s : State) : Out :=
  let s := s.elapse dt
  match s.ctl c.val with
  | none => go s
  | some x =>
    if s.absentUnit (0x20 + c.val) then go s
    else go (s.setCtl c.val (some { x with joining := false }))

/-! ### Filters and FIFOs (R286 to R289) -/

/-- Whether a filter pair matches a frame. -/
def filterHit (r : List Byte) (f : CanFrame) : Bool :=
  let fl := fld r 3 1
  let one := fun (v chk : Nat) (b : Bool) => !bit fl chk || bit fl v = b
  ((BitVec.ofNat 29 (fld r 4 4) ^^^ f.id) &&& BitVec.ofNat 29 (fld r 8 4)) == 0 &&
    one 0 1 f.ide && one 2 3 f.rtr && one 4 5 f.fdf

/-- The lowest-numbered pair of a controller that matches. -/
def State.filterOf (s : State) (c : Nat) (f : CanFrame) : Option (List Byte) :=
  match s.par.force with
  | some p => p.canFil.find? fun r => fld r 0 1 = c && filterHit r f
  | none => none

/-- Whether a FIFO takes a new entry, and the FIFO after it (R288, R289). -/
def CanFifo.push (q : CanFifo) (keepOld : Bool) (e : CanEnt) : Bool × CanFifo :=
  if q.count < 64 then
    (true, { q with ents := Tab.set none q.ents ((q.head + q.count) % 64) (some e), count := q.count + 1 })
  else if keepOld then
    (true, { q with
      ents := Tab.set none q.ents q.head (some e), head := (q.head + 1) % 64, ovf := true })
  else (false, { q with ovf := true })

/-- A frame enters a FIFO. -/
def State.intoFifo (s : State) (c f : Nat) (fr : CanFrame) (stamp filter : Nat) : State :=
  match s.ctl c with
  | none => s
  | some x =>
    let q := x.fifo f
    let e : CanEnt := { seq := x.seq, frame := fr, stamp := stamp, filter := filter, isNew := true }
    let r := q.push (x.overwrites f) e
    let y := (if r.1 then { x with seq := (x.seq + 1) % 65536 } else x).setFifo f r.2
    let s := s.setCtl c (some y)
    if q.count < 64 then s
    else (s.count (tlCan c (3 + f))).noteOnce (2 * c + f) (ev 8 1)
      (le 1 c ++ le 1 f ++ le 1 (bnat (x.overwrites f)))

/-- A valid frame has been received (R287), its start of frame `age` CAN clocks ago. -/
def State.canReceive (s : State) (c : Nat) (f : CanFrame) (age : Nat) : State :=
  match s.ctl c with
  | none => s
  | some x =>
    if s.absentUnit (0x20 + c) || !x.onBus || (f.fdf && !x.fdEn) then s
    else
      let s := s.count (tlCan c 0)
      let s := if f.fdf then s.count (tlCan c 1) else s
      let s := if s.canDrives x then s.setErr c x.tec (Config.canRxCount x.rec_) else s
      let stamp := (s.canCount + 2 ^ 48 - age % 2 ^ 48) % 2 ^ 48
      match s.filterOf c f with
      | none => s.count (tlCan c 2)
      | some r =>
        let ix := fld r 1 1
        let s := match s.maps.find? fun m => mKind m = 2 && mUnit m = c && mIndex m = ix with
          | none => s
          | some m =>
            if f.data.length < mLen m then s.count (tlPd 17)
            else s.mapCommit (mPort m) 4 (s.canNet (canDomain c) stamp) (mOff m) (canDomain c)
              (f.data.take (mLen m))
        if fld r 2 1 < 2 then s.intoFifo c (fld r 2 1) f stamp ix else s

/-- CAN_FRAME_RECEIVE. -/
def execCanFrameReceive (dt : Nat) (c : Fin 8) (f : CanFrame) (age : Nat) (s : State) : Out :=
  go ((s.elapse dt).canReceive c.val f age)

/-- The 80 bytes of a FIFO entry (R289). -/
def CanEnt.bytes (e : CanEnt) : List Byte :=
  let f := e.frame
  le 2 e.seq ++ le 1 (128 * bnat e.isNew + 64 * bnat f.ide + 32 * bnat f.fdf + 16 * bnat f.brs +
    8 * bnat f.esi + 4 * bnat f.rtr) ++ le 1 f.dlc.toNat ++ le 4 f.id.toNat ++ le 4 e.stamp ++
    le 1 e.filter ++ le 1 f.data.length ++ le 2 (e.stamp / 2 ^ 32) ++ padTo 0 64 f.data

/-- A FIFO without its head entry, whose NEW bit is cleared. -/
def CanFifo.pop (q : CanFifo) : CanFifo :=
  match Tab.get none q.ents q.head with
  | some e => { q with
      ents := Tab.set none q.ents q.head (some { e with isNew := false })
      head := (q.head + 1) % 64, count := q.count - 1 }
  | none => { q with head := (q.head + 1) % 64, count := q.count - 1 }

/-- A read of ACQUIRE: its value and the state after (R292, R293). -/
def State.acquire (s : State) (c f : Nat) : Nat × State :=
  match s.ctl c with
  | none => (0, s)
  | some x =>
    let q := x.fifo f
    if x.check then (q.head + (if q.count = 0 then 0 else 128), s)
    else if q.count = 0 then (0, s)
    else
      let y := x.setFifo f { q.pop with shadow := Tab.get none q.ents q.head }
      (128 + q.head, s.setCtl c (some y))

/-- Whether a FIFO's access block can be reached. -/
def State.blockUp (s : State) (c f : Nat) : Bool :=
  s.canUp c && (match s.ctl c with | some x => x.toFlb f | none => false)

/-- ACQUIRE_READ. -/
def execAcquireRead (dt : Nat) (c : Fin 8) (fifo : Fin 2) (s : State) : Out :=
  let s := s.elapse dt
  go (if !s.blockUp c.val fifo.val then s
    else
      let r := s.acquire c.val fifo.val
      r.2.send (.value (ev 8 (16 + 2 * c.val + fifo.val)) r.1))

/-- A write of RELEASE (R293). -/
def State.releaseFifo (s : State) (c f v : Nat) : State :=
  match s.ctl c with
  | none => s
  | some x =>
    let q := x.fifo f
    if !x.check || !bit v 15 then s
    else if q.count ≠ 0 && v % 64 = q.head then s.setCtl c (some (x.setFifo f q.pop))
    else s.count (tlCan c 25)

/-- RELEASE_WRITE. -/
def execReleaseWrite (dt : Nat) (c : Fin 8) (fifo : Fin 2) (v : U32) (s : State) : Out :=
  let s := s.elapse dt
  go (if s.blockUp c.val fifo.val then s.releaseFifo c.val fifo.val v.toNat else s)

/-- STATUS of an access block (R291). -/
def CanCtl.fifoStatus (x : CanCtl) (f : Nat) : Nat :=
  let q := x.fifo f
  q.head + 64 * bnat x.check + 128 * bnat q.ovf + 256 * q.count

/-- A byte of the access block as a plain read shows it: STATUS, shadow buffer, entries. -/
def CanCtl.blockByte (x : CanCtl) (f o : Nat) : Byte :=
  let q := x.fifo f
  let ent := fun (e : Option CanEnt) => match e with | some e => e.bytes | none => zeros 80
  if o < 4 then (le 4 (x.fifoStatus f)).getD o 0
  else if 0x10 ≤ o && o < 0x60 then (ent q.shadow).getD (o - 0x10) 0
  else if 0x100 ≤ o && o < 0x100 + 5120 then
    (ent (Tab.get none q.ents ((o - 0x100) / 80))).getD ((o - 0x100) % 80) 0
  else 0

/-! ### Mailbox commands (R280, R284, R290, R294, R295) -/

/-- MB_CAN_WRITE. -/
def cmdCanWrite : Cmd :=
  { op := 0x0601
    shape := fun b => b.length ≥ 4 && b.length ≤ 68 && zeroAt b 2 2
    run := fun b s =>
      let c := fld b 0 1
      let k := fld b 1 1
      if c > 7 || k > 63 then refuse stMalformed s
      else if s.absentUnit (0x20 + c) then refuse stAbsent s
      else match s.ctl c with
        | none => refuse stDenied s
        | some x =>
          match x.buf k with
          | none => refuse stDenied s
          | some f =>
            if f.source ≠ 2 || s.isConsentBuf c k then refuse stDenied s
            else if b.length - 4 ≠ f.len then refuse stMalformed s
            else if f.state = .locked then refuse stBusy s
            else ans stOk [] (s.setCtl c (some (x.setBuf k (some { f with
              data := padTo 0 64 (b.drop 4), written := true })))) }

/-- MB_CAN_WRITE from the host. -/
def execMbCanWrite (dt : Nat) (r : Req) (s : State) : Out := go ((s.elapse dt).submit cmdCanWrite r)

/-- Up to `n` entries leave a FIFO, oldest first. -/
def takeEnts : Nat → CanFifo → List CanEnt × CanFifo
  | 0, q => ([], q)
  | n + 1, q =>
    if q.count = 0 then ([], q)
    else match Tab.get none q.ents q.head with
      | some e => let r := takeEnts n q.pop; (e :: r.1, r.2)
      | none => ([], q)

/-- MB_CAN_READ. -/
def cmdCanRead : Cmd :=
  { op := 0x0602
    shape := fun b => b.length = 4 && zeroAt b 3 1
    run := fun b s =>
      let c := fld b 0 1
      let f := fld b 1 1
      let n := fld b 2 1
      if c > 7 || f > 1 || n = 0 || n > 32 then refuse stMalformed s
      else if s.absentUnit (0x20 + c) then refuse stAbsent s
      else match s.ctl c with
        | none => refuse stDenied s
        | some x =>
          if x.toFlb f || s.isConsentFifo c f then refuse stDenied s
          else
            let r := takeEnts n (x.fifo f)
            ans stOk (le 1 r.1.length ++ zeros 3 ++
              (r.1.map fun e => e.bytes ++ secNs (s.canNet (canDomain c) e.stamp) ++ zeros 4).flatten)
              (s.setCtl c (some (x.setFifo f r.2))) }

/-- MB_CAN_READ from the host. -/
def execMbCanRead (dt : Nat) (r : Req) (s : State) : Out := go ((s.elapse dt).submit cmdCanRead r)

/-- MB_CAN_CANCEL. -/
def cmdCanCancel : Cmd :=
  { op := 0x0603
    shape := fun b => b.length = 4 && zeroAt b 2 2
    run := fun b s =>
      let c := fld b 0 1
      let k := fld b 1 1
      if c > 7 || k > 63 then refuse stMalformed s
      else if s.absentUnit (0x20 + c) then refuse stAbsent s
      else match s.ctl c with
        | none => refuse stDenied s
        | some x =>
          match x.buf k with
          | none => refuse stDenied s
          | some f =>
            let out := fun o (s : State) => ans stOk (le 1 o ++ zeros 3 ++ s.stampBytes c f ++ zeros 4) s
            match f.state with
            | .idle => out 0xFF s
            | .pending =>
              out 4 ((s.setCtl c (some (x.setBuf k (some { f with
                state := .idle, outcome := 4 })))).count (tlCan c 18))
            | .locked => holdOn (s.setCtl c (some (x.setBuf k (some { f with cancel := true })))) }

/-- MB_CAN_CANCEL from the host. -/
def execMbCanCancel (dt : Nat) (r : Req) (s : State) : Out := go ((s.elapse dt).submit cmdCanCancel r)

/-- MB_CAN_RECOVER. -/
def cmdCanRecover : Cmd :=
  { op := 0x0604
    shape := fun b => b.length = 4 && zeroAt b 1 3
    run := fun b s =>
      let c := fld b 0 1
      if c > 7 then refuse stMalformed s
      else if s.absentUnit (0x20 + c) then refuse stAbsent s
      else match s.ctl c with
        | none => refuse stDenied s
        | some x =>
          if x.recovering then refuse stBusy s
          else if x.err ≠ .busOff then refuse stDenied s
          else ans stOk [] (s.setCtl c (some { x with recovering := true })) }

/-- MB_CAN_RECOVER from the host. -/
def execMbCanRecover (dt : Nat) (r : Req) (s : State) : Out :=
  go ((s.elapse dt).submit cmdCanRecover r)

/-- A buffer's state as MB_CAN_STATUS codes it. -/
def State.bufNo (s : State) (b : CanBuf) : Nat :=
  match b.state with
  | .idle => 0 | .pending => 1 | .locked => if s.isActive b then 3 else 2

/-- MB_CAN_STATUS. -/
def cmdCanStatus : Cmd :=
  { op := 0x0605
    shape := fun b => b.length = 4 && zeroAt b 1 3
    run := fun b s =>
      let c := fld b 0 1
      if c > 7 then refuse stMalformed s
      else if s.absentUnit (0x20 + c) then refuse stAbsent s
      else match s.ctl c with
        | none => refuse stDenied s
        | some x =>
          let fifo := fun (q : CanFifo) => le 1 q.count ++ le 1 (bnat q.ovf) ++ zeros 2
          ans stOk (le 1 x.mode ++ le 1 (errNo x.err) ++ le 2 x.tec ++ le 2 x.rec_ ++ le 1 x.lastErr ++
            le 1 x.tdc ++ le 1 (bnat x.recovering) ++ zeros 3 ++ fifo x.fifo0 ++ fifo x.fifo1 ++
            ((List.range 64).map fun k => match x.buf k with
              | some f => le 1 (s.bufNo f) ++ le 1 f.outcome ++ zeros 2 ++ s.stampBytes c f
              | none => zeros 16).flatten) s }

/-- MB_CAN_STATUS from the host. -/
def execMbCanStatus (dt : Nat) (r : Req) (s : State) : Out := go ((s.elapse dt).submit cmdCanStatus r)

/-! ### Activation, loss and return (R297 to R299) -/

/-- One buffer of a kept controller under new records: kept, redefined, or to be redefined when its
frame ends. -/
def rebuf (recs : List (List Byte)) (e : Nat × Option CanBuf) : Nat × Option CanBuf :=
  match e.2 with
  | none => e
  | some b =>
    match recs.find? fun r => fld r 1 1 = e.1 with
    | some r =>
      if r = b.conf then e
      else if b.state = .locked then (e.1, some { b with cancel := true, next := some r })
      else (e.1, some { newBuf r with outcome := if b.state = .pending then 9 else 0 })
    | none => if b.state = .locked then (e.1, some { b with cancel := true, next := some [] })
      else (e.1, none)

/-- How many pending buffers a change of records ends. -/
def abortCount (recs : List (List Byte)) (x : CanCtl) : Nat :=
  (x.bufs.filter fun e => match e.2 with
    | some b => b.state = .pending && !recs.contains b.conf
    | none => false).length

/-- One controller at an activation. -/
def State.canActivateOne (s : State) (p : Par) (c : Nat) : State :=
  let conf := p.canCtl.getD c (zeros 64)
  let recs := p.bufsOf c
  let off := fld conf 0 1 = 0
  match s.ctl c with
  | none => s.setCtl c (if off then none else some (newCtl conf recs false))
  | some x =>
    if x.conf = conf then
      let s := s.countN (tlCan c 22) (abortCount recs x)
      let old := (x.bufs.map (rebuf recs)).filter fun e => e.2.isSome
      let bufs := recs.foldl (fun t r =>
        if (Tab.get none t (fld r 1 1)).isSome then t
        else Tab.set none t (fld r 1 1) (some (newBuf r))) old
      s.setCtl c (some { x with bufs := bufs })
    else
      let s := s.withdrawBufs c 9 false
      match s.ctl c with
      | none => s
      | some x =>
        match x.lockedBuf with
        | some (k, b) =>
          s.setCtl c (some { x.setBuf k (some { b with cancel := true }) with
            next := some (if off then [] else conf) })
        | none => s.setCtl c (if off then none else some (newCtl conf recs (x.err = .busOff)))

/-- The controllers at an activation. -/
def State.canActivate (s : State) (p : Par) : State :=
  ((List.range 8).foldl (fun s c => s.canActivateOne p c) s).fillConsent

/-- A controller stops with its domain, or as worn (R298, R441): buffers and FIFOs are lost, a waiting
cancel ends ABSENT. -/
def State.canLossOne (s : State) (c : Nat) : State :=
  let s := match s.hif.held with
    | some h => if h.op = 0x0603 && fld h.body 0 1 = c then s.finish 0x0603 stAbsent [] else s
    | none => s
  let s := s.withdrawBufs c 9 true
  match s.ctl c with
  | none => s
  | some x => s.setCtl c (some { x with
      fifo0 := canFifo0, fifo1 := canFifo0, recovering := false, joining := true
      tec := 0, rec_ := 0, err := if x.err = .busOff then .busOff else .active })

/-- A domain's controllers stop (R298). -/
def State.canLoss (s : State) (d : Nat) : State :=
  (List.range 8).foldl (fun s c => if canDomain c ≠ d then s else s.canLossOne c) s

/-- A controller is loaded from the parison in force (R299). -/
def State.canReturnOne (s : State) (p : Par) (c : Nat) : State :=
  let conf := p.canCtl.getD c (zeros 64)
  if fld conf 0 1 = 0 then s.setCtl c none
  else
    let old := s.ctl c
    let y := newCtl conf (p.bufsOf c)
      (match old with | some x => x.err = .busOff | none => false)
    let bufs := y.bufs.map fun e => (e.1, e.2.map fun (b : CanBuf) =>
      { b with outcome := match old with
          | some x => match x.buf e.1 with
            | some o => if o.outcome = 9 then 9 else 0
            | none => 0
          | none => 0 })
    s.setCtl c (some { y with bufs := bufs })

/-- A domain's controllers are loaded from the parison in force (R299); worn ones stay out. -/
def State.canReturn (s : State) (d : Nat) : State :=
  match s.par.force with
  | none => s
  | some p =>
    ((List.range 8).foldl (fun s c =>
      if canDomain c ≠ d || Tab.get 0 s.sys.retired (0x20 + c) ≠ 0 then s
      else s.canReturnOne p c) s).fillConsent

end Sys2Proof.Machine
end

