-- ==== Sys2Proof/Machine/Meas.lean ====
section
/-! DEFINITION. Line and axle measurement (chapter 10): sigma-delta channels, the sample grid, pairs
and energy, tachometer and discrete inputs, capture records, the mailbox commands, activation, and
the loss and return of a domain. -/

namespace Sys2Proof.Machine

/-! ### Units and records (R326 to R330) -/

/-- A channel that is on. -/
def State.chan (s : State) (n : Nat) : Option Chan := Tab.get none s.meas.chans n
/-- Writing a channel. -/
def State.setChan (s : State) (n : Nat) (x : Option Chan) : State :=
  { s with meas := { s.meas with chans := Tab.set none s.meas.chans n x } }
/-- A pair that is on. -/
def State.pair (s : State) (n : Nat) : Option Pair := Tab.get none s.meas.pairs n
/-- Writing a pair. -/
def State.setPair (s : State) (n : Nat) (x : Option Pair) : State :=
  { s with meas := { s.meas with pairs := Tab.set none s.meas.pairs n x } }
/-- A tachometer input that is on. -/
def State.tach (s : State) (n : Nat) : Option Tach := Tab.get none s.meas.tachs n
/-- Writing a tachometer input. -/
def State.setTach (s : State) (n : Nat) (x : Option Tach) : State :=
  { s with meas := { s.meas with tachs := Tab.set none s.meas.tachs n x } }

/-- KIND of a channel: 1 voltage, 2 current. -/
def Chan.kind (x : Chan) : Nat := fld x.conf 0 1
/-- The decimation ratio R. -/
def Chan.ratio (x : Chan) : Nat := 32 * 2 ^ fld x.conf 1 1
/-- The SD_CLK period in ns. -/
def Chan.clkNs (x : Chan) : Nat := if x.clk = 1 then 100 else 50
/-- The output period in ns (R332). -/
def Chan.outNs (x : Chan) : Nat := x.ratio * x.clkNs
/-- The group delay in ns (R333). -/
def Chan.delayNs (x : Chan) : Nat := 3 * (x.ratio - 1) * x.clkNs / 2
/-- L_SD in ns. -/
def Chan.lsd (x : Chan) : Nat := x.delayNs + 2 * x.outNs
/-- FULL_SCALE. -/
def Chan.full (x : Chan) : Nat := fld x.conf 4 4
/-- The value of a filter output in mV or mA (R332). -/
def Chan.value (x : Chan) (f : Int) : Int :=
  roundDiv (f * ((x.full : Nat) : Int)) (2 ^ 23) - fldInt x.conf 8 4

/-- A channel that starts: the filter settles for three output periods. -/
def newChan (conf : List Byte) (clk : Nat) (only : Bool) (now : Nat) : Chan :=
  let x : Chan :=
    { conf := conf, clk := clk, only := only, out1 := none, out0 := none, waits := [], soon := []
      cur := none, cyc := [], last := none, lastAt := 0, prev := none, stuck := false, goodFrom := now
      cap := [] }
  { x with goodFrom := now + 3 * x.outNs }

/-- A pair that starts. -/
def newPair (conf : List Byte) : Pair :=
  { conf := conf, res := none, resOld := none, eCur := 0, ePrev := 0, wait := false, vOut := none
    iOut := none, cap := [] }
/-- V_CH. -/
def Pair.vCh (x : Pair) : Nat := fld x.conf 1 1
/-- I_CH. -/
def Pair.iCh (x : Pair) : Nat := fld x.conf 2 1
/-- CREEP. -/
def Pair.creep (x : Pair) : Nat := fld x.conf 4 4

/-- A tachometer input that starts. -/
def newTach (conf : List Byte) : Tach :=
  { conf := conf, edges := [], forward := true, since := 0, lastNet := none, lastInt := none
    faultUntil := 0, cap := [] }
/-- Distance per edge in 10^-12 mm, with π to 16 digits (R341). -/
def Tach.perEdge (x : Tach) : Nat :=
  let e := max 1 (fld x.conf 2 2) * (if bit (fld x.conf 1 1) 1 then 1 else 4)
  fld x.conf 4 4 * 3141592653589793 / (1000000 * e)
/-- WINDOW_MS in ns. -/
def Tach.windowNs (x : Tach) : Nat := fld x.conf 8 2 * 1000000
/-- STANDSTILL_MS in ns. -/
def Tach.stillNs (x : Tach) : Nat := fld x.conf 10 2 * 1000000

/-- A record of the measurement set-up: 0 to 7 channels, 8 to 11 pairs, 12 to 19 tachometers, 20 the
discrete inputs; zeros where the section is absent. -/
def Par.measRec (p : Par) (n : Nat) : List Byte := p.meas.getD n (zeros 16)

/-- Whether a channel works: on, its domain present, not stuck, settled. -/
def State.chanGood (s : State) (n : Nat) (x : Chan) : Bool :=
  !s.absentUnit (0x28 + n) && !x.stuck && x.goodFrom ≤ s.now

/-! ### Arithmetic (R338) -/

/-- The integer square root, bit by bit from bit `n - 1` down. -/
def isqrtFrom : Nat → Nat → Nat → Nat
  | 0, r, _ => r
  | n + 1, r, x => if (r + 2 ^ n) * (r + 2 ^ n) ≤ x then isqrtFrom n (r + 2 ^ n) x else isqrtFrom n r x

/-- The square root of `a / n` rounded to the nearest whole number. -/
def rootMean (a n : Nat) : Nat := if n = 0 then 0 else (isqrtFrom 64 0 (4 * a / n) + 1) / 2

/-- Sum of squares. -/
def squares (l : List Int) : Nat := (l.map fun v => v.natAbs * v.natAbs).sum

/-- Limits of a 32-bit field. -/
def i32 (x : Int) : Int := clampInt (-2147483648) 2147483647 x
/-- Limits of an unsigned 32-bit field. -/
def u32 (x : Nat) : Nat := min x 4294967295

/-- The mean of samples, rounded. -/
def meanOf (l : List Int) : Int := if l.isEmpty then 0 else i32 (roundDiv l.sum l.length)
/-- Their RMS. -/
def rmsOf (l : List Int) : Nat := u32 (rootMean (squares l) l.length)
/-- The sum of products. -/
def dot (a b : List Int) : Int := (List.zipWith (· * ·) a b).sum

/-- The values of samples. -/
def vals (l : List GSample) : List Int := l.map (·.v)

/-- Quality bits of a cycle's samples: CLIPPED 32, FEED_WARN 8, SUBSTITUTED 2, COASTED 1 (R346). -/
def sampleFlags (l : List GSample) : Nat :=
  32 * bnat (l.any (·.clip)) + 8 * bnat (l.any (·.warn)) + 2 * bnat (l.any (·.fixed)) +
    bnat (l.any (·.coast))

/-! ### Pairs and energy (R338 to R340) -/

/-- 10^-15 J in a mWh. -/
def mWh : Nat := 3600000000000000

/-- A closed cycle's energy goes to its accumulator, or is discarded (R340). -/
def State.settleEnergy (s : State) (n : Nat) : State :=
  match s.pair n with
  | none => s
  | some x =>
    if !x.wait then s
    else
      let p := match x.res with | some r => r.p.natAbs | none => 0
      let e := x.ePrev
      let s := s.setPair n (some { x with wait := false, ePrev := 0 })
      if p < x.creep then s.count (tlMeas (20 + n))
      else if e ≥ 0 then
        { s with meas := { s.meas with imp := Tab.upd 0 s.meas.imp n (· + e.toNat) } }
      else { s with meas := { s.meas with exp_ := Tab.upd 0 s.meas.exp_ n (· + e.natAbs) } }

/-- One filter output of both channels of a pair, `e` in 10^-15 J at stamp `t`. -/
def State.addEnergy (s : State) (n t : Nat) (e : Int) : State :=
  match s.pair n with
  | none => s
  | some x =>
    if x.wait && t < s.meas.start0 then s.setPair n (some { x with ePrev := x.ePrev + e })
    else
      let s := if x.wait && s.meas.start0 ≤ t then s.settleEnergy n else s
      match s.pair n with
      | some y => s.setPair n (some { y with eCur := y.eCur + e })
      | none => s

/-- An output of channel `ch` reaches its pair. -/
def State.pairOutput (s : State) (n ch t : Nat) (v : Int) (period : Nat) : State :=
  match s.pair n with
  | none => s
  | some x =>
    if x.vCh ≠ ch && x.iCh ≠ ch then s
    else
      let y := if x.vCh = ch then { x with vOut := some (t, v) } else { x with iOut := some (t, v) }
      let s := s.setPair n (some y)
      match y.vOut, y.iOut with
      | some a, some b =>
        if a.1 = b.1 then s.addEnergy n t (a.2 * b.2 * ((period : Nat) : Int)) else s
      | _, _ => s

/-- The results of a cycle from its samples (R338). `q` is what Q takes where the previous cycle
lacks the samples that it needs. -/
def cycleRes (v i : GCycle) (vPrev : Option GCycle) (lsd : Nat) (q : Int) : PairRes :=
  let n := min v.samples.length i.samples.length
  let vs := vals v.samples
  let is := vals i.samples
  let short_ := v.short_ || i.short_
  let t0 := match v.samples.head? with | some x => x.t | none => 0
  let tl := match v.samples.getLast? with | some x => x.t | none => 0
  let pace := !v.samples.any (·.fixed)
  let before := match vPrev with | some c => vals c.samples | none => []
  let late := before.drop (before.length - 64) ++ vs.take (vs.length - 64)
  { num := v.num, short_ := short_, n := n, lastT := tl
    freq := if tl = t0 then 65535 else min 65535 ((2 * 255 * 100000000000 / (256 * (tl - t0)) + 1) / 2)
    vrms := rmsOf vs, irms := rmsOf is, vmean := meanOf vs, imean := meanOf is
    p := i32 (roundDiv (dot vs is) (n * 1000000))
    q := if !pace || short_ then 0
      else if before.length = 256 then i32 (roundDiv (dot late is) (n * 1000000)) else q
    flags := sampleFlags v.samples ||| sampleFlags i.samples
    eImp := 0, eExp := 0, currentAt := tl + lsd + 2000 }

/-- A pair whose two channels have closed the same cycle computes its results. -/
def State.pairClose (s : State) (n : Nat) : State :=
  match s.pair n with
  | none => s
  | some x =>
    match s.chan x.vCh, s.chan x.iCh with
    | some a, some b =>
      match a.last, b.last with
      | some v, some i =>
        let done := match x.res with | some r => r.num = v.num | none => false
        if v.num ≠ i.num || done then s
        else
          let f := s.fresh 32
          let r := cycleRes v i a.prev a.lsd f.1.toInt
          let s := f.2.setPair n (some { x with res := some r, resOld := x.res })
          if r.short_ then s.count (tlMeas (16 + n)) else s
      | _, _ => s
    | _, _ => s

/-! ### Filter outputs (R332 to R334) -/

/-- A resolved grid sample. -/
def Chan.addSample (x : Chan) (g : GSample) : Chan :=
  { x with soon := x.soon ++ [(g.t + x.lsd, g)], cyc := x.cyc ++ [g] }

/-- A cycle closes in a channel. -/
def Chan.close (x : Chan) (num : Nat) (short_ : Bool) : Chan :=
  let c : GCycle := { num := num, short_ := short_ || x.cyc.length ≠ 256, samples := x.cyc }
  { x with
    cyc := [], last := some c, prev := x.last
    lastAt := (match x.cyc.getLast? with | some g => g.t | none => 0) + x.lsd }

/-- What waits in a channel meets a new output at stamp `t`: every grid instant up to `t` is
interpolated between the outputs that bracket it, and a close follows its last sample. -/
def resolve (old : Option (Nat × Int × Bool)) (t : Nat) (v : Int) (clip : Bool) :
    List GWait → Chan → Chan
  | [], x => { x with waits := [] }
  | .close num sh :: l, x => resolve old t v clip l (x.close num sh)
  | .sample g pos coast fixed warn :: l, x =>
    if t < g then { x with waits := .sample g pos coast fixed warn :: l }
    else match old with
      | some (t0, v0, c0) =>
        if t0 ≤ g then
          let w := if t = t0 then v0
            else v0 + roundDiv ((v - v0) * (((g : Nat) : Int) - ((t0 : Nat) : Int))) (t - t0)
          resolve old t v clip l (x.addSample
            { v := i32 w, t := g, pos := pos, coast := coast, fixed := fixed, clip := clip || c0
              warn := warn })
        else resolve old t v clip l x
      | none => resolve old t v clip l x

/-- SD_FILTER_OUTPUT. -/
def State.filterOut (s : State) (ch : Nat) (raw : Int) : State :=
  match s.chan ch with
  | none => s
  | some x =>
    if s.absentUnit (0x28 + ch) || x.stuck then s
    else if s.now < x.goodFrom then s.setChan ch (some { x with out1 := none })
    else
      let g := if bit (fld x.conf 2 1) 0 then -raw else raw
      let f := clampInt (-8388608) 8388607 g
      let clip := f = -8388608 || f = 8388607
      let s := if clip then s.count (tlMeas ch) else s
      let level := fun (s : State) (k : Nat) => match s.tracker k with
        | some t => if t.src = some ch then s.setTracker k (some (t.level (s.run - x.delayNs) f)) else s
        | none => s
      let s := level (level s 0) 1
      let t := s.net - x.delayNs
      let v := x.value f
      let y := resolve x.out1 t v clip x.waits { x with out1 := some (t, v, clip), out0 := x.out1 }
      let now := s.net
      let due := y.soon.filter fun e => e.1 ≤ now
      let y := { y with
        cur := match due.getLast? with | some e => some e.2 | none => y.cur
        soon := y.soon.filter fun e => now < e.1 }
      let s := s.setChan ch (some y)
      let s := (List.range 4).foldl (fun s n => s.pairOutput n ch t v x.outNs) s
      (List.range 4).foldl State.pairClose s

/-- SD_FILTER_OUTPUT from the filter. -/
def execSdFilterOutput (dt : Nat) (ch : Fin 8) (raw : Int) (s : State) : Out :=
  go ((s.elapse dt).filterOut ch.val raw)

/-- SD_STUCK. -/
def execSdStuck (dt : Nat) (ch : Fin 8) (s : State) : Out :=
  let s := s.elapse dt
  let n := ch.val
  match s.chan n with
  | none => go s
  | some x =>
    if s.absentUnit (0x28 + n) || x.stuck then go s
    else
      let closes := x.waits.filter fun w => match w with | .close _ _ => true | _ => false
      let s := s.setChan n (some { x with stuck := true, out1 := none, waits := closes })
      go ((s.count (tlMeas (8 + n))).noteOnce n (ev 10 0) (le 1 n ++ le 1 1))

/-- SD_RECOVERY: transitions for 1,024 clocks; the filter settles for three output periods. -/
def execSdRecovery (dt : Nat) (ch : Fin 8) (s : State) : Out :=
  let s := s.elapse dt
  let n := ch.val
  match s.chan n with
  | none => go s
  | some x =>
    if s.absentUnit (0x28 + n) || !x.stuck then go s
    else
      let s := s.setChan n (some { x with stuck := false, goodFrom := s.now + 3 * x.outNs })
      go (s.noteOnce n (ev 10 0) (le 1 n ++ le 1 0))

/-! ### The grid (R335 to R337) -/

/-- Whether the grid belongs to the pace: a LINE strand in LOCKED or COASTING. -/
def State.wantPace (s : State) : Bool :=
  s.pace.kind = 1 && s.pace.started && s.pace.state ≠ .substituted

/-- Every working channel waits for the sample of a grid instant. -/
def State.takeGrid (s : State) (t : Nat) (pos : Option Nat) (fixed : Bool) : State :=
  let coast := !fixed && s.pace.state = .coasting
  (List.range 8).foldl (fun s n => match s.chan n with
    | some x =>
      if s.chanGood n x then
        s.setChan n (some { x with
          waits := x.waits ++ [.sample t pos coast fixed (s.warned (inputDomain n))] })
      else s
    | none => s) s

/-- The cycle in progress closes. -/
def State.closeCycle (s : State) (short_ : Bool) : State :=
  let num := s.meas.cycle
  let s := (List.range 8).foldl (fun s n => match s.chan n with
    | some x => s.setChan n (some { x with waits := x.waits ++ [.close num short_] })
    | none => s) s
  let s := (List.range 4).foldl (fun (s : State) n =>
    let s := s.settleEnergy n
    match s.pair n with
    | some x => s.setPair n (some { x with ePrev := x.eCur, eCur := 0, wait := true })
    | none => s) s
  { s with meas := { s.meas with cycle := (num + 1) % 2 ^ 32 } }

/-- A grid instant of the pace grid: index `g` counts multiples of 256 pace units. -/
def State.paceGrid (s : State) (g : Nat) : State :=
  let t := s.net
  let start := fun (s : State) (sh : Bool) =>
    { s with meas := { s.meas with start0 := t, short_ := sh } }
  let s :=
    if s.meas.fixed then
      let s := if s.meas.k = 0 then s else s.closeCycle true
      start { s with meas := { s.meas with fixed := false } } (g % 256 ≠ 0)
    else if g / 256 = s.meas.k / 256 then
      (if g % 256 = 0 then start s false
       else if g = s.meas.k then s else { s with meas := { s.meas with short_ := true } })
    else
      let s := if s.meas.k % 256 = 0 then s else s.closeCycle true
      start s (g % 256 ≠ 0)
  let l := max 1 (paceRound s.paceBlock)
  let s := s.takeGrid t (some (g * 256 % l)) false
  let s := { s with meas := { s.meas with k := g + 1 } }
  if (g + 1) % 256 = 0 then s.closeCycle s.meas.short_ else s

/-- A grid instant of the fixed grid, due at `t`. -/
def State.fixedGrid (s : State) (t : Nat) : State :=
  let s := if s.meas.k = 0 then { s with meas := { s.meas with start0 := t, short_ := false } } else s
  let s := s.takeGrid t none true
  let k := s.meas.k + 1
  let s := { s with meas := { s.meas with k := k % 256, nextNet := t + 78125 } }
  if k = 256 then s.closeCycle s.meas.short_ else s

/-- When the next fixed grid instant is due: kept, or found anew where there is none near. -/
def State.nextFixed (s : State) : Nat :=
  let n := s.meas.nextNet
  if n ≤ s.net + 78125 && s.net ≤ n + 78125 then n else ceilMul (s.net - 2) 78125

/-- GRID_SAMPLE. -/
def State.gridSample (s : State) : State :=
  let unit := 256 * 2 ^ 32
  let pos := s.paceAt
  let g := (pos + unit / 2) / unit
  let tol := 4 * s.rateNow / 2 ^ 16 + 2
  let near := pos ≤ g * unit + tol && g * unit ≤ pos + tol
  let fixedDue := s.nextFixed ≤ s.net + 2
  if s.wantPace then
    (if near && (s.meas.fixed || s.meas.k ≤ g) then s.paceGrid g else s)
  else if s.meas.fixed then (if fixedDue then s.fixedGrid s.nextFixed else s)
  else if s.pace.kind = 1 && s.pace.started then
    (if !near || g < s.meas.k then s
     else if s.meas.k % 256 = 0 then
      { s with meas := { s.meas with fixed := true, k := 0 } }.fixedGrid s.net
     else s.paceGrid g)
  else
    let s := if s.meas.k % 256 = 0 then s else s.closeCycle true
    let s := { s with meas := { s.meas with fixed := true, k := 0 } }
    if fixedDue then s.fixedGrid s.nextFixed else s

/-- GRID_SAMPLE at a grid instant. -/
def execGridSample (dt : Nat) (s : State) : Out :=
  let s := s.elapse dt
  go (if s.awake then s.gridSample else s)

/-! ### Tachometer inputs (R29, R341 to R343) -/

/-- An edge of a tachometer input. -/
def State.tachEdge (s : State) (n : Nat) (forward legal : Bool) : State :=
  match s.tach n with
  | none => s
  | some x =>
    if s.absentUnit (0x30 + n) then s
    else if !legal then
      ((s.setTach n (some { x with faultUntil := s.now + 1000000000 })).count
        (tlMeas (24 + n))).axleEdge n false
    else
      let fwd := forward != bit (fld x.conf 1 1) 0
      let same := x.since = 0 || fwd = x.forward
      let old := if same then x.edges else []
      let keep := old.filter fun e => s.now ≤ e + x.windowNs
      let edges := s.now :: (if keep.isEmpty then old.take 1 else keep)
      let d := x.perEdge
      let s := s.setTach n (some { x with
        edges := edges, forward := fwd, since := if same then x.since + 1 else 1
        lastNet := some s.net
        lastInt := match x.edges.head? with | some e => some (s.now - e) | none => x.lastInt })
      let s := { s with meas := { s.meas with
        odo := Tab.upd 0 s.meas.odo n (· + d)
        dist := Tab.upd 0 s.meas.dist n fun v => if fwd then v + ((d : Nat) : Int) else v - ((d : Nat) : Int) } }
      s.axleEdge n true

/-- TACH_EDGE. -/
def execTachEdge (dt : Nat) (inp : Fin 8) (forward legal : Bool) (s : State) : Out :=
  go ((s.elapse dt).tachEdge inp.val forward legal)

/-- SPEED in mm/s without its sign (R342). -/
def Tach.speed (x : Tach) (t : Nat) : Nat :=
  let win := x.edges.filter fun e => t ≤ e + x.windowNs
  let d := x.perEdge
  match x.edges.head? with
  | none => 0
  | some e =>
    if x.since < 2 || e + x.stillNs ≤ t then 0
    else if win.length ≥ 2 then
      let first := win.getLast?.getD e
      if e = first then 0 else (2 * (win.length - 1) * d / ((e - first) * 1000) + 1) / 2
    else
      let iv := max (x.lastInt.getD 0) (t - e)
      if iv = 0 then 0 else (2 * d / (iv * 1000) + 1) / 2

/-- Whether a tachometer input is at standstill at `t`. -/
def Tach.still (x : Tach) (t : Nat) : Bool :=
  match x.edges.head? with | some e => e + x.stillNs ≤ t | none => true

/-! ### Records (R345 to R351) -/

/-- QUALITY: the bits of R346, and VALID where none of FAULT, STALE and SHORT is set and a value
exists. -/
def quality (flags : Nat) (exists_ : Bool) : List Byte :=
  let bad := bit flags 10 || bit flags 9 || bit flags 6
  le 4 (flags + (if exists_ && !bad then 2 ^ 31 else 0))

/-- The pace bits of a capture action's mark (R346, R347). -/
def markBits (mark : Nat) : Nat := markQuality mark

/-- The sample current now (R333). -/
def Chan.now (x : Chan) (net : Nat) : Option GSample :=
  match (x.soon.filter fun e => e.1 ≤ net).getLast? with | some e => some e.2 | none => x.cur

/-- The cycle current now (R339). -/
def Chan.cycle (x : Chan) (net : Nat) : Option GCycle := if x.lastAt + 2000 ≤ net then x.last else x.prev

/-- Whether a voltage RMS lies below the absence threshold (R346). -/
def State.noSupply (s : State) (x : Chan) (rms : Nat) : Bool :=
  let c := s.paceBlock
  let pct := if fld c 0 1 = 1 then fld c 12 1 else 10
  x.kind = 1 && rms * 100 < pct * x.full

/-- The channel record (R348). -/
def State.chanRecord (s : State) (n : Nat) (x : Chan) (mark : Nat) : List Byte :=
  let g := x.now s.net
  let c := x.cycle s.net
  let l := match c with | some c => vals c.samples | none => []
  let sh := match c with | some c => c.short_ | none => false
  let fl := (match g with | some g => sampleFlags [g] | none => 0) |||
    (match c with | some c => sampleFlags c.samples | none => 0) ||| markBits mark |||
    (if s.warned (inputDomain n) then 8 else 0) ||| (if x.stuck then 1024 else 0) |||
    (if sh then 64 else 0) ||| (if c.isSome && s.noSupply x (rmsOf l) then 128 else 0)
  quality fl (g.isSome && c.isSome) ++ leInt 4 (match g with | some g => g.v | none => 0) ++
    leInt 4 (meanOf l) ++ le 4 (rmsOf l) ++ secNs (match g with | some g => g.t | none => 0) ++
    le 4 (match g with | some g => g.pos.getD 0xFFFFFFFF | none => 0xFFFFFFFF) ++
    le 4 (match c with | some c => c.num | none => 0) ++ le 2 l.length ++ zeros 10

/-- The pair record of the latest current cycle (R349). -/
def State.pairRecord (s : State) (n : Nat) (x : Pair) (mark : Nat) : List Byte :=
  let r := match x.res with
    | some r => if r.currentAt ≤ s.net then some r else x.resOld
    | none => none
  let stuck := fun (c : Nat) => match s.chan c with | some y => y.stuck | none => false
  let fault := if stuck x.vCh || stuck x.iCh then 1024 else 0
  let tail := le 8 (Tab.get 0 s.meas.imp n / mWh) ++ le 8 (Tab.get 0 s.meas.exp_ n / mWh) ++ zeros 16
  match r with
  | none => quality (markBits mark ||| fault) false ++ zeros 44 ++ tail
  | some r =>
    let absent := match s.chan x.vCh with | some y => s.noSupply y r.vrms | none => false
    let fl := r.flags ||| markBits mark ||| fault ||| (if r.short_ then 64 else 0) |||
      (if absent then 128 else 0)
    quality fl true ++ le 4 r.num ++ secNs r.lastT ++ le 2 r.n ++ le 2 r.freq ++ le 4 r.vrms ++
      le 4 r.irms ++ leInt 4 r.vmean ++ leInt 4 r.imean ++ leInt 4 r.p ++ leInt 4 r.q ++ tail

/-- Whether a feed of a domain has been in warning at some instant since `t` (local ns). -/
def State.warnedSince (s : State) (d t : Nat) : Bool := s.warned d || t < (s.feed d).warnTill

/-- The tachometer record at this instant (R350). -/
def State.tachRecord (s : State) (n : Nat) (x : Tach) (mark : Nat) : List Byte × State :=
  let t := s.now
  let v := x.speed t
  let a := s.pace.axle.find? (·.inp = n)
  let src := s.pace.kind = 2 && s.pace.started && a.isSome
  let excl := match a with | some a => src && a.excluded | none => false
  let alone_ := src && s.pace.axle.length = 3 && !excl &&
    (s.pace.axle.filter fun b => !b.excluded).length = 1
  let still := x.still t
  let fl := markBits mark ||| (if src then markQuality s.stateMark else 0) |||
    (if s.warnedSince (inputDomain n) (t - x.windowNs) then 8 else 0) ||| (if alone_ then 16 else 0) |||
    (if still then 256 else 0) ||| (if t < x.faultUntil || excl then 1024 else 0)
  let f := s.fresh 32
  let iv := match x.lastInt with | some i => u32 i | none => f.1.toNat
  (quality fl x.lastNet.isSome ++
    leInt 4 (i32 (if x.forward then ((v : Nat) : Int) else -((v : Nat) : Int))) ++
    leInt 8 (Tab.get 0 s.meas.dist n / 1000000000000) ++ le 8 (Tab.get 0 s.meas.odo n / 1000000000000) ++
    secNs (x.lastNet.getD 0) ++ le 4 (if s.pace.kind = 2 && s.pace.started then s.paceOffset else 0xFFFFFFFF) ++
    le 1 (if still then 0 else if x.forward then 1 else 2) ++ zeros 3 ++ le 4 iv ++ zeros 16,
   if x.lastInt.isSome then s else f.2)

/-- The record of the discrete inputs of a group at this instant; the pins' levels and whether they
have been stable are the outside's (R344, R351). -/
def State.dinRecord (s : State) (g mask mark : Nat) : List Byte × State :=
  let lev := s.fresh 16
  let stb := lev.2.fresh 16
  let s := stb.2
  let old := Tab.get 0 s.meas.din g
  let ok := stb.1.toNat &&& mask
  let new := (lev.1.toNat &&& ok) ||| (old &&& (0xFFFF ^^^ ok))
  let inv := match s.par.force with | some p => bits (fld (p.measRec 20) 0 4) (16 * g + 15) (16 * g) | none => 0
  let s := { s with meas := { s.meas with din := Tab.set 0 s.meas.din g new } }
  (quality (markBits mark ||| (if s.warned g then 8 else 0)) true ++ le 2 ((new ^^^ inv) &&& mask) ++
    le 2 mask ++ zeros 8, s)

/-- A record goes to the port that the operand names, if any (R345). -/
def State.capture (s : State) (i : Issued) (dom : Nat) (rec_ : List Byte) : State :=
  let port := i.act.opnd % 4096
  if port = 0xFFF then s
  else s.commitPort port 3 s.net (markQuality i.mark + (if s.warned dom then qFeedWarn else 0)) rec_

/-- The enabled pair whose voltage channel is `ch`. -/
def State.pairOf (s : State) (ch : Nat) : Option (Nat × Pair) :=
  (List.range 4).findSome? fun n => match s.pair n with
    | some x => if x.vCh = ch then some (n, x) else none
    | none => none

/-- SD_CAPTURE. -/
def execSdCapture (dt : Nat) (src : ActSrc) (s : State) : Out :=
  go ((s.elapse dt).act 6 src fun i s =>
    s.toUnit i.act.tgt fun s =>
      let ch := i.act.tgt - 0x28
      match s.pairOf ch, s.chan ch with
      | some (n, x), _ =>
        let r := s.pairRecord n x i.mark
        (s.setPair n (some { x with cap := r })).capture i (inputDomain ch) r
      | none, some x =>
        let r := s.chanRecord ch x i.mark
        (s.setChan ch (some { x with cap := r })).capture i (inputDomain ch) r
      | none, none => s)

/-- TACH_LATCH. -/
def execTachLatch (dt : Nat) (src : ActSrc) (s : State) : Out :=
  go ((s.elapse dt).act 7 src fun i s =>
    s.toUnit i.act.tgt fun s =>
      let n := i.act.tgt - 0x30
      match s.tach n with
      | some x =>
        let r := s.tachRecord n x i.mark
        (r.2.setTach n (some { x with cap := r.1 })).capture i (inputDomain n) r.1
      | none => s)

/-- DIN_SAMPLE. -/
def execDinSample (dt : Nat) (src : ActSrc) (s : State) : Out :=
  go ((s.elapse dt).act 8 src fun i s =>
    s.toUnit i.act.tgt fun s =>
      let g := i.act.tgt - 0x38
      let r := s.dinRecord g (bits i.act.opnd 31 16) i.mark
      ({ r.2 with meas := { r.2.meas with dinCap := Tab.set [] r.2.meas.dinCap g r.1 } }).capture i g r.1)

/-! ### Energy in flash (R355) -/

/-- The energy and distance values are written. -/
def State.writeEnergy (s : State) : State :=
  let m := s.meas
  let e := (List.range 8).foldl (fun (t : Tab Nat) n =>
    let t := Tab.set 0 t n (Tab.get 0 m.imp n)
    let t := Tab.set 0 t (8 + n) (Tab.get 0 m.exp_ n)
    let t := Tab.set 0 t (16 + n) (Tab.get 0 m.odo n)
    Tab.set 0 t (24 + n) (Tab.get 0 m.dist n + 2 ^ 120).toNat) []
  { s with flash := { s.flash with energy := Tab.set 0 e 40 (s.net + 1) } }

/-- A write of the energy values, or its deferral (R355, R425). -/
def State.saveEnergy (s : State) : State :=
  let s := { s with meas := { s.meas with savedAt := s.now, savedNet := s.net } }
  if s.flashHeld then s.deferWrite .energy else s.writeEnergy

/-- ENERGY_SAVE. -/
def execEnergySave (dt : Nat) (s : State) : Out :=
  let s := s.elapse dt
  go (if s.tellerUp && s.meas.savedAt + 60000000000 ≤ s.now then s.saveEnergy else s)

/-- At start-up the values are restored from flash (R355, R359). -/
def State.restoreEnergy (s : State) : State :=
  let e := s.flash.energy
  let t := Tab.get 0 e 40
  if t = 0 then s
  else
    let fill := fun (o : Nat) => (List.range 8).foldl (fun (t : Tab Nat) n => Tab.set 0 t n (Tab.get 0 e (o + n))) []
    let s := { s with meas := { s.meas with
      imp := fill 0, exp_ := fill 8, odo := fill 16
      dist := (List.range 8).foldl (fun (t : Tab Int) n =>
        let v := Tab.get 0 e (24 + n)
        Tab.set 0 t n (if v = 0 then 0 else ((v : Nat) : Int) - 2 ^ 120)) []
      savedAt := s.now, savedNet := t - 1 } }
    s.note (ev 10 2) (secNs (t - 1) ++ le 8 (Tab.get 0 e 0 / mWh) ++ le 8 (Tab.get 0 e 8 / mWh))

/-! ### Commands (R356, R357) -/

/-- A last capture as MB_MEAS_READ returns it: STALE while its domain is isolated; all zero before
the first capture. -/
def State.lastCap (s : State) (d size : Nat) (cap : List Byte) : List Byte :=
  let c := padTo 0 size cap
  if s.hasDom d then c else le 4 ((fld c 0 4 % 2 ^ 31) ||| 512) ++ c.drop 4

/-- MB_MEAS_READ. -/
def cmdMeasRead : Cmd :=
  { op := 0x0801
    shape := fun b => b.length = 4 && zeroAt b 3 1 && fld b 2 1 < 2
    run := fun b s =>
      let k := fld b 0 1
      let u := fld b 1 1
      let last := bit (fld b 2 1) 0
      let top := if k = 1 then 3 else if k = 3 then 1 else 7
      let none_ := s.par.committed.isNone && s.par.force.isNone
      let dom := if k = 3 then u
        else if k = 1 then inputDomain (match s.pair u with | some x => x.vCh | none => 0)
        else inputDomain u
      if k > 3 || u > top then refuse stMalformed s
      else if none_ then refuse stDenied s
      else
        let away := !last && !s.hasDom dom
        match k with
        | 0 => match s.chan u with
          | none => refuse stDenied s
          | some x =>
            if away then refuse stAbsent s
            else ans stOk (if last then s.lastCap dom 48 x.cap else s.chanRecord u x 0) s
        | 1 => match s.pair u with
          | none => refuse stDenied s
          | some x =>
            if away then refuse stAbsent s
            else ans stOk (if last then s.lastCap dom 80 x.cap else s.pairRecord u x 0) s
        | 2 => match s.tach u with
          | none => refuse stDenied s
          | some x =>
            if away then refuse stAbsent s
            else if last then ans stOk (s.lastCap dom 64 x.cap) s
            else let r := s.tachRecord u x 0; ans stOk r.1 r.2
        | _ =>
          if away then refuse stAbsent s
          else if last then ans stOk (s.lastCap dom 16 (Tab.get [] s.meas.dinCap u)) s
          else let r := s.dinRecord u 0xFFFF 0; ans stOk r.1 r.2 }

/-- MB_MEAS_READ from the host. -/
def execMbMeasRead (dt : Nat) (r : Req) (s : State) : Out := go ((s.elapse dt).submit cmdMeasRead r)

/-- MB_MEAS_WHEEL. -/
def cmdMeasWheel : Cmd :=
  { op := 0x0802
    shape := fun b => b.length = 8 && zeroAt b 1 3
    run := fun b s =>
      let n := fld b 0 1
      let d := fld b 4 4
      if n > 7 || d < 500000 || d > 1500000 then refuse stMalformed s
      else match s.tach n with
        | none => refuse stDenied s
        | some x =>
          let s := s.setTach n (some { x with conf := overlay x.conf 4 (le 4 d) })
          ans stOk [] (s.note (ev 10 3) (le 1 n ++ le 4 (fld x.conf 4 4) ++ le 4 d)) }

/-- MB_MEAS_WHEEL from the host. -/
def execMbMeasWheel (dt : Nat) (r : Req) (s : State) : Out :=
  go ((s.elapse dt).submit cmdMeasWheel r)

/-! ### Commit, activation, loss and return of a domain (R353, R354) -/

/-- Whether a channel is a declared source of a parison's LINE strand. -/
def Par.traces (p : Par) (n : Nat) : Bool :=
  fld p.pace 0 1 = 1 && (fld p.pace 4 1 = n || fld p.pace 7 1 = n)

/-- At a commit: with no parison in force every channel starts under the committed set-up; else those
that its LINE tracker needs and that are off (R23, R354). -/
def State.measCommit (s : State) (p : Par) : State :=
  (List.range 8).foldl (fun s n =>
    let r := p.measRec n
    if s.par.force.isNone then
      s.setChan n (if fld r 0 1 = 0 then none else some (newChan r p.sdClk true s.now))
    else if p.traces n && (s.chan n).isNone && fld r 0 1 ≠ 0 then
      s.setChan n (some (newChan r p.sdClk true s.now))
    else s) s

/-- The tracker the new parison takes over starts acquisition afresh where its source channel restarts
at the activation (R23). -/
def State.sourceRestarts (s : State) (n : Nat) : State :=
  let k := if s.trk.next.isSome then 1 else 0
  match s.tracker k with
  | some t => if t.src = some n then s.setTracker k (some (t.restart t.src)) else s
  | none => s

/-- The measurement units at an activation from the old parison, if any, to a new one (R354). -/
def State.measActivate (s : State) (old : Option Par) (p : Par) : State :=
  let was := fun n => match old with | some q => q.measRec n | none => zeros 16
  let s := (List.range 8).foldl (fun s n =>
    let r := p.measRec n
    if fld r 0 1 = 0 then s.setChan n none
    else match s.chan n with
      | none => s.setChan n (some (newChan r p.sdClk false s.now))
      | some x =>
        let same := x.conf = r && x.clk = p.sdClk
        let close := p.traces n && slice x.conf 1 2 = slice r 1 2 && x.clk = p.sdClk
        if same || close then s.setChan n (some { x with conf := r, only := false })
        else (s.setChan n (some (newChan r p.sdClk false s.now))).sourceRestarts n) s
  let s := (List.range 4).foldl (fun s n =>
    let r := p.measRec (8 + n)
    if fld r 0 1 = 0 then s.setPair n none
    else if (s.pair n).isSome && was (8 + n) = r then s else s.setPair n (some (newPair r))) s
  (List.range 8).foldl (fun s n =>
    let r := p.measRec (12 + n)
    if fld r 0 1 = 0 then s.setTach n none
    else if (s.tach n).isSome && was (12 + n) = r then s else s.setTach n (some (newTach r))) s

/-- The channels and tachometer inputs meant start anew, with the pairs of those channels; last
captures stay. -/
def State.measRestartIf (s : State) (ch ta : Nat → Bool) : State :=
  let s := (List.range 8).foldl (fun s n => match s.chan n with
    | some x =>
      if ch n then
        s.setChan n (some { newChan x.conf x.clk x.only s.now with cap := x.cap }) else s
    | none => s) s
  let s := (List.range 4).foldl (fun s n => match s.pair n with
    | some x =>
      if ch x.vCh || ch x.iCh then s.setPair n (some { newPair x.conf with cap := x.cap }) else s
    | none => s) s
  (List.range 8).foldl (fun s n => match s.tach n with
    | some x => if ta n then s.setTach n (some { newTach x.conf with cap := x.cap }) else s
    | none => s) s

/-- The units of a domain start anew. -/
def State.measRestart (s : State) (d : Nat) : State :=
  s.measRestartIf (fun n => inputDomain n = d) fun n => inputDomain n = d

/-- A domain's units return after a gap (R353). -/
def State.measReturn (s : State) (d gap : Nat) : State :=
  ((s.measRestart d).count (tlMeas 32)).note (ev 10 1) (le 1 d ++ lenArg gap)

end Sys2Proof.Machine
end

