-- ==== Sys2Proof/Machine/Bridge.lean ====
section
/-! DEFINITION. The host window's registers (R507 to R510) and the forerunner bridge (chapter 14):
windows and byte lanes, inbound writes and delayed reads, the lock semaphore, outbound transfers, the
dishonour log, side-band inputs, polls, the traffic store. -/

namespace Sys2Proof.Machine

/-! ### The host window (R3, R507 to R510) -/

/-- HIF_IDENT (R3). -/
def State.ident (s : State) : Nat :=
  0x74020000 + 0x400 * bnat s.sys.pref + 0x100 * s.sys.hostsel.toNat + s.sys.behav.toNat

/-- HIF_MBX_STATUS (R509). -/
def State.mbxStatus (s : State) : Nat :=
  bnat s.hif.ready * 2 ^ 31 + bnat s.hif.reqBusy * 2 ^ 30 + bnat s.hif.exec * 2 ^ 29 +
    bnat s.hif.respValid * 2 ^ 28 + s.hif.lastStatus.toNat

/-- A register of the window, by its offset. -/
def State.hifReg (s : State) (r : Nat) : Nat :=
  if r = 0x00 then s.ident
  else if r = 0x08 then s.hif.mbxSeq.toNat
  else if r = 0x0C then s.mbxStatus
  else if r = 0x10 then s.hif.intStatus.toNat
  else if r = 0x14 then s.hif.intMask.toNat
  else if r = 0x18 then s.winReg
  else 0

/-- A byte of the window as a read returns it. -/
def State.hifByte (s : State) (o : Nat) : Byte :=
  if o < 0x1C then BitVec.ofNat 8 (s.hifReg (o / 4 * 4) / 256 ^ (o % 4))
  else if 0x1000 ≤ o && o < 0x2000 then memGet s.hif.req (o - 0x1000)
  else if 0x2000 ≤ o && o < 0x3000 then memGet s.hif.resp (o - 0x2000)
  else if 0x3000 ≤ o && o < 0x3800 then s.aperture (o - 0x3000)
  else 0

/-- Bits of HIF_INT_STATUS are cleared by writing 1. -/
def State.clearInts (s : State) (v : Nat) : State :=
  { s with hif := { s.hif with intStatus := s.hif.intStatus &&& ~~~(BitVec.ofNat 8 v) } }

/-- HIF_INT_MASK is written. -/
def State.maskInts (s : State) (v : Nat) : State :=
  { s with hif := { s.hif with intMask := BitVec.ofNat 8 v } }

/-- ACK: the response area returns to the device (R512). -/
def State.ackResp (s : State) : State :=
  { s with hif := { s.hif with respValid := false } }

/-- A register is written, with `ring` for REQ. Each write of HIF_DOORBELL acknowledges first. -/
def State.regWrite (s : State) (ring : State → State) (r v : Nat) : State :=
  if r = 0x04 then
    let s := if bit v 1 then s.ackResp else s
    if bit v 0 then ring s else s
  else if r = 0x10 then s.clearInts (v % 256)
  else if r = 0x14 then s.maskInts (v % 256)
  else if r = 0x18 then
    (if bit v 31 then s.pinPort (BitVec.ofNat 12 v) else s.unpin.setWinPort (BitVec.ofNat 12 v))
  else s

/-- What the bytes of a register that a write leaves out hold: a register that keeps what was written
keeps it. -/
def State.regKept (s : State) (r : Nat) : Nat :=
  if r = 0x14 then s.hif.intMask.toNat
  else if r = 0x18 then bnat s.pd.winPin * 2 ^ 31 + s.pd.winPort.toNat else 0

/-- A write to one register: of two bytes or more, as one write; of byte 0 alone, with bytes 1 to 3 as
last written singly (R508). -/
def State.regBytes (s : State) (ring : State → State) (o : Nat) (data : List Byte) : State :=
  let r := o / 4 * 4
  let k := o % 4
  if data.length ≥ 2 then
    s.regWrite ring r (ofLe (padTo 0 4 (overlay (le 4 (s.regKept r)) k data)))
  else if k ≠ 0 then
    { s with hif := { s.hif with latch := Tab.set 0 s.hif.latch (r + k) (data.headD 0) } }
  else
    let hi := fun j => Tab.get 0 s.hif.latch (r + j)
    let v := ofLe [data.headD 0, hi 1, hi 2, hi 3]
    let l := Tab.drop (Tab.drop (Tab.drop s.hif.latch (r + 1)) (r + 2)) (r + 3)
    ({ s with hif := { s.hif with latch := l } }).regWrite ring r v

/-- A write to the window; the areas hold 4 KiB each, and writes elsewhere are ignored. -/
def State.hifWrite (s : State) (ring : State → State) (o : Nat) (data : List Byte) : State :=
  if data.isEmpty then s
  else if o < 0x1C then s.regBytes ring o (data.take (4 - o % 4))
  else if 0x1000 ≤ o && o < 0x2000 then
    { s with hif := { s.hif with req := memWrite s.hif.req (o - 0x1000) (data.take (0x2000 - o)) } }
  else s

/-- REQ while a command is held or its response waits: the overrun of R512. -/
def State.overReq (s : State) : State :=
  (s.count (tlSec 6)).noteOnce 0 (ev 16 0) (slice (memRead s.hif.req 0 12) 0 2 ++ slice
    (memRead s.hif.req 0 12) 8 4)

/-! ### Windows (R449 to R453) -/

/-- Window record fields. -/
def wIndex (w : List Byte) : Nat := fld w 0 1
/-- DIR: 0 inbound. -/
def wDir (w : List Byte) : Nat := fld w 1 1
/-- LANES. -/
def wLanes (w : List Byte) : Nat := fld w 2 1
/-- Whether ATTR is SIDE_EFFECT. -/
def wSide (w : List Byte) : Bool := fld w 3 1 = 1
/-- FLB_BASE. -/
def wBase (w : List Byte) : Nat := fld w 4 4
/-- SIZE. -/
def wSize (w : List Byte) : Nat := fld w 8 4
/-- SPACE: 1 traffic store, 2 CAN FIFO; 3 marks the host block. -/
def wSpace (w : List Byte) : Nat := fld w 12 1
/-- The page size in bytes. -/
def wPage (w : List Byte) : Nat := 32 * 2 ^ fld w 15 1
/-- PAGES. -/
def wPages (w : List Byte) : Nat := fld w 16 2
/-- PERIOD in ns. -/
def wPeriod (w : List Byte) : Nat := fld w 18 2 * 125000

/-- The host block as a window (R453). -/
def hostBlock : List Byte := [16, 0, 2, 1, 0, 0, 0xFF, 0, 0, 0, 1, 0, 3, 0, 0, 0] ++ zeros 16

/-- The windows in force. -/
def State.windows (s : State) : List (List Byte) :=
  match s.par.force with | some p => p.windows | none => []

/-- Whether an address lies in a window. -/
def inWin (w : List Byte) (a : Nat) : Bool := wBase w ≤ a && a < wBase w + wSize w

/-- The inbound window that holds an address, the host block among them where it is decoded. -/
def State.inWindow (s : State) (a : Nat) : Option (List Byte) :=
  match s.windows.find? fun w => wDir w = 0 && inWin w a with
  | some w => some w
  | none => if s.sys.hostsel = 2 && inWin hostBlock a then some hostBlock else none

/-- The outbound window that holds an address. -/
def State.outWindow (s : State) (a : Nat) : Option (List Byte) :=
  s.windows.find? fun w => wDir w = 1 && inWin w a

/-- The internal offset of an FLB offset (R452). -/
def laneOf (lanes o : Nat) : Nat := if lanes = 0 then o else if lanes = 1 then o ^^^ 1 else o ^^^ 3

/-- Whether a byte of a word is enabled: the even byte by bit 1, the odd one by bit 0. -/
def enabled (be k : Nat) : Bool := if k = 0 then bit be 1 else bit be 0

/-- The byte of FLB_D that carries the even (0) or odd (1) byte. -/
def dByte (d k : Nat) : Byte := if k = 0 then BitVec.ofNat 8 (d / 256) else BitVec.ofNat 8 d

/-! ### The dishonour log (R464, R465) -/

/-- An entry is made, or lost while 64 are held. -/
def State.dishonour (s : State) (kind cause win be addr data : Nat) : State :=
  let n := s.bridge.dishNext
  let s := { s with bridge := { s.bridge with dishNext := (n + 1) % 2 ^ 32 } }
  if s.bridge.dish.length ≥ 64 then s.count (tlFlb 12)
  else
    let e : Dish :=
      { kind := kind, cause := cause, win := win, be := be, addr := addr, data := data, net := s.net
        num := n }
    let s := { s with bridge := { s.bridge with dish := s.bridge.dish ++ [e] } }
    s.noteOnce 0 (ev 14 0) (le 4 s.bridge.dish.length ++ le 4 n)

/-- An entry's bytes. -/
def Dish.bytes (e : Dish) : List Byte :=
  le 1 e.kind ++ le 1 e.cause ++ le 1 e.win ++ le 1 e.be ++ le 4 e.addr ++ le 2 e.data ++ zeros 6 ++
    secNs e.net ++ le 4 e.num

/-- MB_DISHONOUR_READ. -/
def cmdDishonourRead : Cmd :=
  { op := 0x0C04
    shape := fun b => b.length = 4 && zeroAt b 1 3
    run := fun b s =>
      let n := fld b 0 1
      if n = 0 || n > 16 then refuse stMalformed s
      else
        let l := s.bridge.dish.take n
        ans stOk (le 1 l.length ++ zeros 3 ++ (l.map Dish.bytes).flatten)
          { s with bridge := { s.bridge with dish := s.bridge.dish.drop n } } }

/-- MB_DISHONOUR_READ from the host. -/
def execMbDishonourRead (dt : Nat) (r : Req) (s : State) : Out :=
  go ((s.elapse dt).submit cmdDishonourRead r)

/-! ### The traffic store (R469 to R471) -/

/-- The traffic store window in force. -/
def State.tsWindow (s : State) : Option (List Byte) := s.windows.find? fun w => wSpace w = 1

/-- The map of a page, of a kind (3 PORT_TO_FLB, 4 FLB_TO_PORT). -/
def State.pageMap (s : State) (kind page : Nat) : Option (List Byte) :=
  s.maps.find? fun m => mKind m = kind && mIndex m = page

/-- CUR of a page. -/
def State.pageCur (s : State) (p : Nat) : Nat := (memGet s.bridge.store (2 * p)).toNat / 128
/-- SWAP of a page. -/
def State.pageSwaps (s : State) (p : Nat) : Nat := (memGet s.bridge.store (2 * p + 1)).toNat
/-- Where a half of a page begins. -/
def halfAt (w : List Byte) (p h : Nat) : Nat := 0x800 + (2 * p + h) * wPage w

/-- The traffic store is written, and PREFETCH slots that hold a line of it are freed (R457). -/
def State.storeWrite (s : State) (o : Nat) (data : List Byte) : State :=
  let base := match s.tsWindow with | some w => wBase w | none => 0
  let hit := fun (x : Option RdSlot) => match x with
    | some r => wSpace r.conf = 1 && r.addr / 32 * 32 < base + o + data.length &&
        base + o < r.addr / 32 * 32 + 32
    | none => false
  let slots := (List.range 4).foldl (fun t k =>
    if hit (Tab.get none t k) then Tab.set none t k none else t) s.bridge.slots
  { s with bridge := { s.bridge with store := memWrite s.bridge.store o data, slots := slots } }

/-- A page's halves change places: CUR and SWAP in one write. -/
def State.swapPage (s : State) (p cur : Nat) : State :=
  s.storeWrite (2 * p) (le 1 (128 * cur) ++ le 1 (s.pageSwaps p + 1))

/-- A page swap by the FLB side commits its map's bytes (R471). -/
def State.pageSwap (s : State) (w m : List Byte) (p cur : Nat) : State :=
  let s := s.swapPage p cur
  s.mapCommit (mPort m) 5 s.net (mOff m) 2 (memRead s.bridge.store (halfAt w p cur) (mLen m))

/-- An FLB write to the traffic store: word offset, byte enables, data. -/
def State.tsWrite (s : State) (w : List Byte) (o be d : Nat) : State :=
  let plain := fun (s : State) => [0, 1].foldl (fun (s : State) k =>
    if enabled be k then s.storeWrite (o + k) [dByte d k] else s) s
  if o < 0x800 then
    let p := o / 2
    if p ≥ wPages w then s
    else if (s.pageMap 3 p).isSome then s.count (tlFlb 18)
    else match s.pageMap 4 p with
      | none => plain s
      | some m =>
        if !enabled be 0 then s
        else
          let cur := (dByte d 0).toNat / 128
          if cur = s.pageCur p then s.count (tlFlb 19) else s.pageSwap w m p cur
  else
    let p := (o - 0x800) / (2 * wPage w)
    if p ≥ wPages w then s
    else if (s.pageMap 3 p).isSome then s.count (tlFlb 18) else plain s

/-- The presentation of one map (R470). -/
def State.present (s : State) (w m : List Byte) : State :=
  let r := s.mapOut m (mapKey m)
  match r.1 with
  | none => r.2
  | some l =>
    let p := mIndex m
    let h := 1 - r.2.pageCur p
    (r.2.storeWrite (halfAt w p h) (padTo 0 (wPage w) l)).swapPage p h

/-- TRAFFIC_STORE_PRESENTATION, at a whole multiple of PERIOD. -/
def State.presentAll (s : State) : State :=
  match s.tsWindow with
  | none => s
  | some w =>
    let b := if wPeriod w = 0 then 0 else (s.net + 2) / wPeriod w * wPeriod w
    if s.net > b + 2 || b ≤ s.bridge.presented then s
    else
      let s := { s with bridge := { s.bridge with presented := b } }
      (s.maps.filter fun m => mKind m = 3).foldl (fun s m => s.present w m) s

/-- TRAFFIC_STORE_PRESENTATION. -/
def execTrafficStorePresentation (dt : Nat) (s : State) : Out := go (s.elapse dt).presentAll

/-! ### Targets of inbound windows (R291, R453, R472) -/

/-- Whether the target of a window is absent (R475). -/
def State.winAbsent (s : State) (w : List Byte) : Bool :=
  wSpace w = 2 && !s.blockUp (fld w 13 1) (fld w 14 1)

/-- A read of `n` bytes from FLB offset `o` of a window's target, with its side effect: ACQUIRE takes
place on the read that includes offset 0x0007 (R472). -/
def State.targetRead (s : State) (w : List Byte) (o n : Nat) (on : Nat → Bool) : List Byte × State :=
  let offs := (List.range n).map (o + ·)
  if wSpace w = 1 then (offs.map fun a => memGet s.bridge.store a, s)
  else if wSpace w = 2 then
    let c := fld w 13 1
    let f := fld w 14 1
    let acq := (List.range n).any fun k => on k && o + k = 7
    let r := if acq then s.acquire c f else (0, s)
    (offs.map fun a =>
      let i := laneOf 2 a
      if i = 4 then (if acq then BitVec.ofNat 8 r.1 else 0)
      else if 5 ≤ i && i < 8 then 0
      else match s.ctl c with | some x => x.blockByte f i | none => 0, r.2)
  else (offs.map fun a => s.hifByte (laneOf 2 a), s)

/-- The value of RELEASE that a write carries: its low word, bits 15:8 on the even byte (R472). -/
def State.canWrite (s : State) (w : List Byte) (o be d : Nat) : State :=
  let c := fld w 13 1
  let f := fld w 14 1
  let lo := if enabled be 1 then d % 256 else 0
  let hi := if enabled be 0 then d / 256 % 256 else 0
  if o = 0x0A && enabled be 1 then s.releaseFifo c f (256 * hi + lo)
  else if o = 0x02 && enabled be 1 && bit lo 7 then
    (match s.ctl c with
      | some x => s.setCtl c (some (x.setFifo f { x.fifo f with ovf := false }))
      | none => s)
  else s

/-- A write of a word or byte to a window's target, at FLB offset `o`. -/
def State.targetWrite (s : State) (ring : State → State) (w : List Byte) (o be d : Nat) : State :=
  if wSpace w = 1 then s.tsWrite w o be d
  else if wSpace w = 2 then s.canWrite w o be d
  else if be = 3 then s.hifWrite ring (laneOf 2 (o + 1)) [dByte d 1, dByte d 0]
  else if enabled be 0 then s.hifWrite ring (laneOf 2 o) [dByte d 0]
  else s.hifWrite ring (laneOf 2 (o + 1)) [dByte d 1]

/-! ### Inbound transfers (R447, R454 to R459) -/

/-- An answer on the FLB: 0 DTACK with data, 1 RETRY, 2 ERR. -/
def State.flbAnswer (s : State) (a v : Nat) : State := s.send (.value (ev 14 a) v)

/-- RETRY, counted. -/
def State.flbRetry (s : State) (tally : Nat) : State := (s.count (tlFlb tally)).flbAnswer 1 0

/-- How long a BRIDGE_LATENCY seed lengthens a step in a window and direction (R563, R566). -/
def State.bridgeDelay (s : State) (win dir : Nat) : Nat × State :=
  let r := s.inject 3 fun k => bit (fld k 0 4) win && bit (fld k 8 1) dir
  ((r.1.map fun k => fld k 4 4).sum, r.2)

/-- What every inbound transfer meets first: the semaphore's release or taking, then the answers of
R458, R459 and R475. None where an answer has been given or the transfer is not the device's. -/
def State.flbEnter (s : State) (a : Nat) (lock : Bool) : Option (List Byte) × State :=
  let s := if lock then s else { s with bridge := { s.bridge with sema := none } }
  if s.quiet || s.bridge.granted then (none, s)
  else match s.inWindow a with
    | none => (none, s)
    | some w =>
      let s := if lock && s.bridge.sema.isNone then
          { s with bridge := { s.bridge with
            sema := some { win := wIndex w, addr := a, at_ := s.now } } }
        else s
      let other := match s.bridge.sema with | some x => lock && x.win ≠ wIndex w | none => false
      if s.bridge.request then (none, s.flbRetry 5)
      else if other then (none, s.flbRetry 7)
      else if wSpace w = 3 && !(s.sys.stage == .up || s.sys.stage == .restart || s.sys.stage == .swap) then
        (none, s.flbAnswer 1 0)
      else (some w, s)

/-- A posted write (R454). -/
def State.flbWriteIn (s : State) (addr be d : Nat) (lock : Bool) : State :=
  let a := addr / 2 * 2
  let r := s.flbEnter a lock
  match r.1 with
  | none => r.2
  | some w =>
    if be = 0 then r.2.flbAnswer 0 0
    else if r.2.bridge.inW.length ≥ 16 then r.2.flbRetry 4
    else
      let x := r.2.bridgeDelay (wIndex w) 0
      let s := x.2
      let e : InWrite :=
        { win := wIndex w, conf := w, addr := a, be := be, data := d, readyAt := s.now + x.1 }
      let s := { s with bridge := { s.bridge with inW := s.bridge.inW ++ [e] } }
      (s.count (tlFlb 1)).flbAnswer 0 0

/-- FLB_INBOUND_WRITE. -/
def execFlbInboundWrite (dt : Nat) (addr : BitVec 24) (be : BitVec 2) (data : U16) (lock : Bool)
    (s : State) : Out := go ((s.elapse dt).flbWriteIn addr.toNat be.toNat data.toNat lock)

/-- The oldest inbound write reaches its target, or is discarded and logged (R454). -/
def State.deliverIn (s : State) (ring : State → State) : State :=
  match s.bridge.inW with
  | [] => s
  | e :: l =>
    if s.now < e.readyAt then s
    else
      let slots := s.bridge.slots.map fun (x : Nat × Option RdSlot) =>
        (x.1, x.2.map fun (r : RdSlot) => { r with waitFor := r.waitFor - 1 })
      let s := { s with bridge := { s.bridge with inW := l, slots := slots } }
      if s.winAbsent e.conf then s.dishonour 2 4 e.win e.be e.addr e.data
      else s.targetWrite ring e.conf (e.addr - wBase e.conf) e.be e.data

/-- Whether a queued write is a page swap (R471). -/
def State.isSwap (s : State) (e : InWrite) : Bool :=
  let o := e.addr - wBase e.conf
  wSpace e.conf = 1 && o < 0x800 && enabled e.be 0 && (s.pageMap 4 (o / 2)).isSome &&
    (dByte e.data 0).toNat / 128 ≠ s.pageCur (o / 2)

/-- PAGE_SWAP: the oldest inbound write is a page swap and reaches the traffic store. -/
def execPageSwap (dt : Nat) (s : State) : Out :=
  let s := s.elapse dt
  match s.bridge.inW with
  | e :: _ => go (if s.isSwap e then s.deliverIn id else s)
  | [] => go s

/-- Writing a slot. -/
def State.setSlot (s : State) (k : Nat) (x : Option RdSlot) : State :=
  { s with bridge := { s.bridge with slots := Tab.set none s.bridge.slots k x } }

/-- The data of a slot for a transfer, as on FLB_D. -/
def RdSlot.word (r : RdSlot) (a be : Nat) : Nat :=
  let o := if wSide r.conf then 0 else a - r.addr / 32 * 32
  (if enabled be 0 then 256 * (r.bytes.getD o 0).toNat else 0) +
    (if enabled be 1 then (r.bytes.getD (o + 1) 0).toNat else 0)

/-- A held slot whose hold has ended is freed (R456). -/
def State.slotEnd (s : State) (k : Nat) : State :=
  match Tab.get none s.bridge.slots k with
  | some r =>
    if r.isHeld && r.endAt ≤ s.now then
      let s := s.setSlot k none
      if wSide r.conf && !r.failed then
        (s.dishonour 3 5 r.win r.be r.addr (r.word r.addr r.be)).count (tlFlb 6)
      else s
    else s
  | none => s

/-- FLB_SLOT_EXPIRY. -/
def execFlbSlotExpiry (dt : Nat) (slot : Fin 4) (s : State) : Out := go ((s.elapse dt).slotEnd slot.val)

/-- Whether a slot matches a read (R455). -/
def RdSlot.hits (r : RdSlot) (w : List Byte) (a be : Nat) : Bool :=
  !r.doomed && r.conf = w && (if wSide w then r.addr = a && r.be = be else r.addr / 32 = a / 32)

/-- The answer to an inbound read (R455). -/
def State.flbReadIn (s : State) (addr be : Nat) (lock : Bool) : State :=
  let a := addr / 2 * 2
  let r := s.flbEnter a lock
  match r.1 with
  | none => r.2
  | some w =>
    if be = 0 then r.2.flbAnswer 0 0
    else
      let s := (List.range 4).foldl State.slotEnd r.2
      let hit := (List.range 4).find? fun k => match Tab.get none s.bridge.slots k with
        | some x => x.hits w a be
        | none => false
      match hit with
      | some k =>
        (match Tab.get none s.bridge.slots k with
          | some x =>
            if !x.isHeld then s.flbRetry 2
            else if x.failed then (s.setSlot k none).flbAnswer 2 0
            else
              let s := if wSide w then s.setSlot k none else s
              (s.count (tlFlb 0)).flbAnswer 0 (x.word a be)
          | none => s)
      | none =>
        match (List.range 4).find? fun k => (Tab.get none s.bridge.slots k).isNone with
        | none => s.flbRetry 3
        | some k =>
          let x := s.bridgeDelay (wIndex w) 0
          let s := x.2
          (s.setSlot k (some { win := wIndex w, conf := w, addr := a, be := be, isHeld := false
                               failed := false, bytes := [], endAt := 0, doomed := false
                               waitFor := s.bridge.inW.length, readyAt := s.now + x.1 })).flbAnswer 1 0

/-- FLB_INBOUND_READ. -/
def execFlbInboundRead (dt : Nat) (addr : BitVec 24) (be : BitVec 2) (lock : Bool) (s : State) : Out :=
  go ((s.elapse dt).flbReadIn addr.toNat be.toNat lock)

/-- A fetch completes, after every write accepted before its read (R455, R456, R474). -/
def State.fetched (s : State) (k : Nat) : State :=
  match Tab.get none s.bridge.slots k with
  | none => s
  | some r =>
    if r.isHeld || r.waitFor ≠ 0 || s.now < r.readyAt then s
    else if s.winAbsent r.conf then
      if r.doomed then (s.setSlot k none).dishonour 3 6 r.win r.be r.addr 0
      else s.setSlot k (some { r with isHeld := true, failed := true, endAt := s.now + 64000 })
    else
      let o := r.addr - wBase r.conf
      let x := if wSide r.conf then s.targetRead r.conf o 2 (enabled r.be)
        else s.targetRead r.conf (o / 32 * 32) 32 fun _ => true
      let r := { r with isHeld := true, bytes := x.1, endAt := s.now + 64000 }
      if r.doomed then (x.2.setSlot k none).dishonour 3 6 r.win r.be r.addr (r.word r.addr r.be)
      else x.2.setSlot k (some r)

/-- FLB_FETCH_COMPLETE. -/
def execFlbFetchComplete (dt : Nat) (slot : Fin 4) (s : State) : Out :=
  go ((s.elapse dt).fetched slot.val)

/-- FLB_LOCK: the semaphore has been held for LOCK_US (R459). -/
def execFlbLock (dt : Nat) (s : State) : Out :=
  let s := s.elapse dt
  match s.bridge.sema with
  | some x =>
    if x.at_ + fld s.bridge.conf 6 2 * 1000 ≤ s.now then
      go ((({ s with bridge := { s.bridge with sema := none } }).count (tlFlb 8)).note (ev 14 1)
        (le 1 x.win ++ le 4 x.addr))
    else go s
  | none => go s

/-- FLB_LOCK_RELEASE: FLB_LOCK_N goes inactive while the bus is idle. -/
def execFlbLockRelease (dt : Nat) (s : State) : Out :=
  let s := s.elapse dt
  go { s with bridge := { s.bridge with sema := none } }

/-! ### Outbound transfers (R448, R461 to R463) -/

/-- The bus is requested while transfers wait. -/
def State.flbAsk (s : State) : State :=
  { s with bridge := { s.bridge with
    request := !s.bridge.granted && !s.bridge.out.isEmpty && !s.quiet } }

/-- The first transfer starts: what it waits for a seed counts before its TIMEOUT. -/
def State.flbStart (s : State) : State :=
  match s.bridge.out with
  | [] => s
  | x :: _ =>
    let d := s.bridgeDelay x.win 1
    let s := { d.2 with bridge := { d.2.bridge with startAt := d.2.now + d.1 } }
    s.send (.flb x.addr x.write (le 1 x.be ++ le 2 x.data))

/-- FLB_BUS_GRANT. -/
def execFlbBusGrant (dt : Nat) (s : State) : Out :=
  let s := s.elapse dt
  go (if s.bridge.request && !s.quiet then
    ({ s with bridge := { s.bridge with granted := true, request := false, ran := 0 } }).flbStart
  else s)

/-- A transfer has ended: the next one starts within BURST, else the bus is released. -/
def State.flbNext (s : State) : State :=
  let b := s.bridge
  let s := { s with bridge := { b with out := b.out.drop 1, ran := b.ran + 1 } }
  if s.bridge.ran < fld b.conf 4 1 && !s.bridge.out.isEmpty then s.flbStart
  else ({ s with bridge := { s.bridge with granted := false } }).flbAsk

/-- The bytes of an access of `n` bytes at FLB address `a` of a window, as FLB addresses in the order
of their internal offsets. -/
def laneOrder (w : List Byte) (a n : Nat) : List Nat :=
  let o := a - wBase w
  ((List.range n).map fun k => (laneOf (wLanes w) (o + k), a + k)).foldl
    (fun l x => (l.filter fun y => decide (y.1 < x.1)) ++ [x] ++ l.filter fun y => decide (x.1 < y.1)) []
    |>.map (·.2)

/-- The MB_FLB_READ in EXEC completes once its last transfer has ended. -/
def State.readDone (s : State) : State :=
  if s.bridge.out.any (!·.write) then s
  else match s.hif.held with
    | some h =>
      let a := fld h.body 4 4
      let n := fld h.body 8 1
      let l := match s.outWindow a with
        | some w => laneOrder w a n
        | none => (List.range n).map (a + ·)
      let b := l.map fun k => Tab.get 0 s.bridge.gather k
      ({ s with bridge := { s.bridge with gather := [] } }).finish 0x0C02 stOk b
    | none => s

/-- A transfer has failed (R462): a posted write is logged, a read ends its command. -/
def State.flbFail (s : State) (x : OutXfer) (cause : Nat) : State :=
  let s := (s.count (tlFlb 11))
  if x.write then (s.dishonour 1 cause x.win x.be x.addr x.data).flbNext
  else
    let s := { s with bridge := { s.bridge with
      out := x :: (s.bridge.out.drop 1).filter (·.write), gather := [] } }
    s.flbNext.finish 0x0C02 stAbsent (le 1 cause ++ zeros 3)

/-- A transfer has ended with DTACK. -/
def State.flbDone (s : State) (x : OutXfer) (d : Nat) : State :=
  if x.write then (s.count (tlFlb 9)).flbNext
  else
    let g := [0, 1].foldl (fun g k =>
      if enabled x.be k then Tab.set 0 g (x.addr + k) (dByte d k) else g) s.bridge.gather
    let s := { s with bridge := { s.bridge with gather := g } }
    ((s.count (tlFlb 10)).flbNext).readDone

/-- FLB_OUTBOUND_RESPONSE. -/
def State.flbResponse (s : State) (resp : FlbResp) (d : Nat) : State :=
  match s.bridge.out with
  | [] => s
  | x :: l =>
    if !s.bridge.granted || s.now < s.bridge.startAt then s
    else match resp with
      | .dtack => s.flbDone x d
      | .err => s.flbFail x 1
      | .retry =>
        if x.retries + 1 ≥ fld s.bridge.conf 5 1 then s.flbFail x 3
        else
          let y := { x with retries := x.retries + 1 }
          ({ s with bridge := { s.bridge with out := y :: l, granted := false } }).flbAsk

/-- FLB_OUTBOUND_RESPONSE. -/
def execFlbOutboundResponse (dt : Nat) (resp : FlbResp) (data : U16) (s : State) : Out :=
  go ((s.elapse dt).flbResponse resp data.toNat)

/-- FLB_OUTBOUND_TIMEOUT. -/
def execFlbOutboundTimeout (dt : Nat) (s : State) : Out :=
  let s := s.elapse dt
  match s.bridge.out with
  | [] => go s
  | x :: _ =>
    if s.bridge.granted && s.bridge.startAt + x.timeout * 1000 ≤ s.now then go (s.flbFail x 2) else go s

/-- The word transfers of an access: addresses, byte enables, data on FLB_D. -/
def pieces (w : List Byte) (a n : Nat) (data : List Byte) : List (Nat × Nat × Nat) :=
  let order := laneOrder w a n
  let byteAt := fun (k : Nat) => match order.findIdx? (· = k) with
    | some i => (data.getD i 0).toNat
    | none => 0
  let on := fun (k : Nat) => decide (a ≤ k ∧ k < a + n)
  let words := (List.range ((a + n + 1) / 2 - a / 2)).map fun j => (a / 2 + j) * 2
  words.map fun k =>
    (k, 2 * bnat (on k) + bnat (on (k + 1)),
      (if on k then 256 * byteAt k else 0) + (if on (k + 1) then byteAt (k + 1) else 0))

/-- Whether a length and address are those of an access. -/
def accessOk (a n : Nat) : Bool := (n = 1 || n = 2 || n = 4) && a % 4 + n ≤ 4

/-- Whether the semaphore of a window is held against internal agents (R460). -/
def State.semaHeld (s : State) (w : List Byte) : Bool :=
  match s.bridge.sema with | some x => x.win = wIndex w | none => false

/-- Outbound transfers join the queue. -/
def State.enqueueOut (s : State) (w : List Byte) (write : Bool) (ps : List (Nat × Nat × Nat)) : State :=
  let xs := ps.map fun p =>
    ({ win := wIndex w, addr := p.1, write := write, be := p.2.1, data := p.2.2
       timeout := fld w 20 2, retries := 0 } : OutXfer)
  ({ s with bridge := { s.bridge with out := s.bridge.out ++ xs } }).flbAsk

/-- MB_FLB_WRITE. -/
def cmdFlbWrite : Cmd :=
  { op := 0x0C03
    shape := fun b => b.length = 16 && zeroAt b 9 3 && fld b 0 4 < 2
    run := fun b s =>
      let a := fld b 4 4
      let n := fld b 8 1
      if !accessOk a n then refuse stMalformed s
      else if bit (fld b 0 4) 0 then
        (match s.inWindow a with
          | none => refuse stDenied s
          | some w =>
            if s.semaHeld w then refuse stBusy s
            else if s.winAbsent w then refuse stAbsent s
            else ans stOk [] ((pieces w a n (slice b 12 n)).foldl (fun s p =>
              s.targetWrite State.overReq w (p.1 - wBase w) p.2.1 p.2.2) s))
      else if s.quiet then refuse stDenied s
      else match s.outWindow a with
        | none => refuse stDenied s
        | some w =>
          let ps := pieces w a n (slice b 12 n)
          if (s.bridge.out.filter (·.write)).length + ps.length > 32 then refuse stFull s
          else ans stOk [] (s.enqueueOut w true ps) }

/-- MB_FLB_WRITE from the host. -/
def execMbFlbWrite (dt : Nat) (r : Req) (s : State) : Out := go ((s.elapse dt).submit cmdFlbWrite r)

/-- A read of an inbound window's target by the device itself, in the order of internal offsets. -/
def State.insideRead (s : State) (w : List Byte) (a n : Nat) : List Byte × State :=
  let r := (pieces w a n []).foldl (fun (acc : Tab Byte × State) p =>
    let x := acc.2.targetRead w (p.1 - wBase w) 2 (enabled p.2.1)
    (Tab.set 0 (Tab.set 0 acc.1 p.1 (x.1.getD 0 0)) (p.1 + 1) (x.1.getD 1 0), x.2)) (([] : Tab Byte), s)
  ((laneOrder w a n).map fun k => Tab.get 0 r.1 k, r.2)

/-- MB_FLB_READ. -/
def cmdFlbRead : Cmd :=
  { op := 0x0C02
    shape := fun b => b.length = 12 && zeroAt b 9 3 && fld b 0 4 < 2
    run := fun b s =>
      let a := fld b 4 4
      let n := fld b 8 1
      if !accessOk a n then refuse stMalformed s
      else if bit (fld b 0 4) 0 then
        (match s.inWindow a with
          | none => refuse stDenied s
          | some w =>
            if s.semaHeld w then refuse stBusy s
            else if s.winAbsent w then ans stAbsent [4, 0, 0, 0] s
            else
              let r := s.insideRead w a n
              ans stOk r.1 r.2)
      else if s.quiet then refuse stDenied s
      else match s.outWindow a with
        | none => refuse stDenied s
        | some w => holdOn (({ s with bridge := { s.bridge with gather := [] } }).enqueueOut w false
            (pieces w a n [])) }

/-- MB_FLB_READ from the host. -/
def execMbFlbRead (dt : Nat) (r : Req) (s : State) : Out := go ((s.elapse dt).submit cmdFlbRead r)

/-- The reads of a command that the teller no longer holds are dropped (R517). -/
def State.flbAbandon (s : State) : State :=
  match s.bridge.out with
  | [] => s
  | x :: l =>
    let keep := if s.bridge.granted then x :: l.filter (·.write) else (x :: l).filter (·.write)
    ({ s with bridge := { s.bridge with out := keep, gather := [] } }).flbAsk

/-- Entry into STANDBY or ORPHANED (R476). -/
def State.bridgeQuiet (s : State) : State :=
  let out := s.bridge.out
  let s := { s with bridge := { s.bridge with
    out := [], slots := [], request := false, granted := false, gather := [] } }
  let s := (out.filter (·.write)).foldl (fun s x => s.dishonour 1 7 x.win x.be x.addr x.data) s
  s.finish 0x0C02 stDenied []

/-! ### Side-band inputs and polls (R467, R468) -/

/-- FLB_SIDEBAND: an input has kept a new level for SB_FILTER. -/
def State.sideband (s : State) (n : Nat) (level : Bool) : State :=
  if bit s.bridge.sb n = level then s
  else
    let sb := if level then s.bridge.sb + 2 ^ n else s.bridge.sb - 2 ^ n
    let s := { s with bridge := { s.bridge with sb := sb } }
    let edge := bits (fld s.bridge.conf 2 1) (2 * n + 1) (2 * n)
    if (level && bit edge 0) || (!level && bit edge 1) then
      (s.count (tlFlb (13 + n))).note (ev 14 2)
        (le 1 n ++ le 4 (bnat level) ++ secNs (s.net - fld s.bridge.conf 3 1 * 1000))
    else s

/-- FLB_SIDEBAND. -/
def execFlbSideband (dt : Nat) (inp : Fin 4) (level : Bool) (s : State) : Out :=
  go ((s.elapse dt).sideband inp.val level)

/-- FLB_POLL: a polled word has been read, or the read has failed (causes 1 to 3 of R462; 4 where no
outbound window holds the address). -/
def State.poll (s : State) (k : Nat) (result : Option Nat) (cause : Nat) : State :=
  let e := slice s.bridge.conf (8 + 8 * k) 8
  let a := fld e 0 4
  let due := Tab.get 0 s.bridge.pollAt k + fld s.bridge.conf 0 2 * 1000000
  if a = 0xFFFFFFFF || s.quiet || s.bridge.out.any (·.write) || s.now < due then s
  else
    let s := { s with bridge := { s.bridge with pollAt := Tab.set 0 s.bridge.pollAt k s.now } }
    let fail := fun (s : State) c =>
      (s.count (tlFlb 17)).noteOnce k (ev 14 4) (le 4 k ++ le 1 c)
    match s.outWindow a, result with
    | none, _ => fail s 4
    | some _, none => fail s cause
    | some _, some v =>
      let s := s.count (tlFlb 10)
      let new := v &&& fld e 4 2
      let s' := { s with bridge := { s.bridge with polls := Tab.set none s.bridge.polls k (some new) } }
      match Tab.get none s.bridge.polls k with
      | none => s'
      | some old => if old = new then s' else s'.note (ev 14 3) (le 4 a ++ le 4 old ++ le 4 new)

/-- FLB_POLL. -/
def execFlbPoll (dt : Nat) (entry : Fin 8) (result : Option U16) (cause : Fin 3) (s : State) : Out :=
  go ((s.elapse dt).poll entry.val (result.map (·.toNat)) (cause.val + 1))

/-! ### Configuration and activation (R466, R474) -/

/-- Whether every field is in range. -/
def bridgeOk (c : List Byte) : Bool :=
  let ms := fld c 0 2
  let lock := fld c 6 2
  1 ≤ ms && ms ≤ 10000 && 1 ≤ fld c 4 1 && fld c 4 1 ≤ 8 && fld c 5 1 ≠ 0 && 10 ≤ lock && lock ≤ 1000 &&
    (List.range 8).all fun k =>
      let a := fld c (8 + 8 * k) 4
      a = 0xFFFFFFFF || (a % 2 = 0 && a < 2 ^ 24)

/-- Whether the reserved fields of the record are zero. -/
def bridgeRsv (c : List Byte) : Bool :=
  zeroAt c 0x48 8 && (List.range 8).all fun k => zeroAt c (14 + 8 * k) 2

/-- MB_BRIDGE_CONFIG. -/
def cmdBridgeConfig : Cmd :=
  { op := 0x0C01
    shape := fun b => cfgOpts b true && cfgLen b 4 80 &&
      (bit (fld b 0 4) 1 || bridgeRsv (b.drop 4))
    run := fun b s =>
      let o := fld b 0 4
      let c := b.drop 4
      if bit o 1 then ans stOk s.bridge.conf s
      else if !bridgeOk c then refuse stMalformed s
      else if bit o 0 && s.flashHeld then refuse stBusy s
      else
        let s := { s with bridge := { s.bridge with conf := c } }
        ans stOk c (if bit o 0 then s.persist cfBridge c else s) }

/-- MB_BRIDGE_CONFIG from the host. -/
def execMbBridgeConfig (dt : Nat) (r : Req) (s : State) : Out :=
  go ((s.elapse dt).submit cmdBridgeConfig r)

/-- The windows of `old` that `new` does not hold byte for byte. -/
def goneWins (old new : List (List Byte)) : List (List Byte) := old.filter fun w => !new.contains w

/-- One slot at an activation. -/
def State.slotSwitch (s : State) (gone : List (List Byte)) (k : Nat) : State :=
  match Tab.get none s.bridge.slots k with
  | none => s
  | some r =>
    if !gone.contains r.conf then s
    else if r.isHeld then (s.setSlot k none).dishonour 3 6 r.win r.be r.addr (r.word r.addr r.be)
    else s.setSlot k (some { r with doomed := true })

/-- The windows switch at an activation; `new` is already in force. -/
def State.bridgeActivate (s : State) (old new : List (List Byte)) : State :=
  let gone := goneWins old new
  let s := (List.range 4).foldl (fun s k => s.slotSwitch gone k) s
  let ts := fun (l : List (List Byte)) => l.find? fun w => wSpace w = 1
  let sema := match s.bridge.sema with
    | some x => if gone.any (fun w => wIndex w = x.win) then none else some x
    | none => none
  { s with bridge := { s.bridge with
      sema := sema, polls := []
      store := if ts old = ts new then s.bridge.store else [] } }

end Sys2Proof.Machine
end

