-- ==== Sys2Proof/Machine/Triad.lean ====
section
/-! DEFINITION. The control triad (chapter 11): members and modes, releases, task ends, the
comparator, resync, retirement, assays, and the voted outputs. -/

namespace Sys2Proof.Machine

/-! ### Members (R360, R361) -/

/-- A core. -/
def State.core (s : State) (c : Nat) : Core := Tab.get coreX s.triad.cores c
/-- Writing a core. -/
def State.setCore (s : State) (c : Nat) (x : Core) : State :=
  { s with triad := { s.triad with cores := Tab.set coreX s.triad.cores c x } }
/-- The domain a core lies in: T0 and T1 in A, T2 and T3 in B. -/
def coreDomain (c : Nat) : Nat := if c < 2 then 0 else 1
/-- The four cores. -/
def allCores : List Nat := [0, 1, 2, 3]
/-- Whether a core is present and not retired. -/
def State.fit (s : State) (c : Nat) : Bool := (s.core c).retired = 0 && s.hasDom (coreDomain c)
/-- The members. -/
def State.members (s : State) : List Nat := allCores.filter fun c => (s.core c).slot.isSome
/-- The running members (R363). -/
def State.runners (s : State) : List Nat :=
  allCores.filter fun c => (s.core c).slot.isSome && (s.core c).running
/-- The core of a slot, or 0xFF. -/
def State.slotCore (s : State) (k : Nat) : Nat :=
  (allCores.find? fun c => (s.core c).slot = some k).getD 0xFF

/-- One vacancy is filled: the lowest-numbered fit core that is no member takes the lowest vacant slot,
halted until its resync. -/
def State.fillOne (s : State) : State :=
  let free := (List.range 3).find? fun k => s.slotCore k = 0xFF
  let next := allCores.find? fun c => s.fit c && (s.core c).slot.isNone
  match free, next with
  | some k, some c => s.setCore c { s.core c with
      slot := some k, running := false, ready := false, checks := 0 }
  | _, _ => s

/-- Vacancies are filled. -/
def State.fillSlots (s : State) : State := s.fillOne.fillOne.fillOne

/-! ### Escrow epochs (R388, R399 to R402, R409) -/

/-- The round length, or 125 µs with no parison active (R407). -/
def State.roundNs (s : State) : Nat :=
  match s.par.force with | some p => if s.gaf.active then max 1 p.round else 125000 | none => 125000

/-- Whether the escrow link carries epochs and heartbeats: a lane is up, and it is keyed or left open
(R402, R497). -/
def State.escrowUp (s : State) : Bool := s.linkUp 24 && ((s.sa 24).secured || (s.key 24).isOpen)

/-- The core whose data TCM is sealed: the resync source (R388). -/
def State.sealCore (s : State) : Nat := (s.runners ++ s.members).headD 0

/-- The item of an escrow record (R400). -/
def State.escrowItem (s : State) (e : EscRec) : List Byte :=
  if e.space = 1 then
    (match s.port e.loc with
      | some p =>
        let b := p.header p.value ++ padTo 0 (pSize p.conf) p.value.data
        padTo 0 (ceilMul b.length 8) b
      | none => [])
  else if e.space = 2 then memRead (s.core s.sealCore).dtcm e.loc e.len
  else le 2 s.sleep.latches.toNat ++ zeros 6

/-- The first eight bytes of the hash of the parison in force. -/
def State.parPrefix (s : State) : List Byte :=
  match s.par.force with | some p => p.hash.take 8 | none => zeros 8

/-- The escrow set in force. -/
def State.escrowSet (s : State) : List EscRec :=
  match s.par.force with | some p => p.escrow | none => []

/-- An epoch's bytes before its trailer. -/
def State.epochHead (s : State) : List Byte :=
  let body := (s.escrowSet.map s.escrowItem).flatten
  [0x5A, 0x45, 0x53, 0x43] ++ le 4 (body.length + 80) ++ le 8 (s.twin.sealed + 1) ++ secNs s.net ++
    zeros 4 ++ padTo 0 8 s.parPrefix ++ zeros 24 ++ body

/-- An epoch as sent, with what ESCROW_CORRUPT seeds do to it (R563): a body bit inverted after the
CRC, the last 16 bytes left out. Which bit FLIP inverts is an open value. -/
def State.epochSend (s : State) : State :=
  let h := s.epochHead
  let e := h ++ le 4 (crc32c h).toNat ++ zeros 12
  let r := s.inject 8 fun _ => true
  let s := r.2
  let f := s.fresh 22
  let n := h.length - 64
  let s := if r.1.any (fun k => fld k 0 1 = 0) then f.2 else s
  let e := if r.1.any (fun k => fld k 0 1 = 0) && n ≠ 0 then
      (let at_ := 64 + f.1.toNat / 8 % n
       overlay e at_ [(e.getD at_ 0) ^^^ (1 <<< (f.1.toNat % 8))])
    else e
  let e := if r.1.any (fun k => fld k 0 1 = 1) then e.take (e.length - 16) else e
  if s.escrowUp then s.send (.msg 24 (ev 12 0) e) else s

/-- The mirrored state of an active twin (R409): a standby's heartbeat within the last round, and its
last applied SEQ at most three behind. -/
def State.mirrorNow (s : State) : Bool :=
  match s.twin.hb with
  | some h => (h.role == .standby || h.role == .orphaned) && decide (s.net ≤ s.twin.hbNet + s.roundNs) &&
      decide (s.twin.sealed ≤ h.seq.toNat + 3)
  | none => false

/-- TWIN_UNMIRRORED on entry and on exit. -/
def State.mirrorCheck (s : State) : State :=
  if s.twin.role != .active || s.mirrorNow = s.twin.mirrored then s
  else
    let lag := s.twin.sealed - (match s.twin.hb with | some h => h.seq.toNat | none => 0)
    ({ s with twin := { s.twin with mirrored := s.mirrorNow } }).note (ev 12 1)
      (le 1 (bnat (!s.mirrorNow)) ++ le 4 lag)

/-- A requested seal is taken, with no task running (R399). -/
def State.seal (s : State) : State :=
  if !s.twin.sealWait || s.triad.running.isSome then s
  else
    let s := { s with twin := { s.twin with sealWait := false } }
    if s.twin.role != .active then s
    else
      let s := s.epochSend
      let late := fun (p : Planned) => decide (p.net ≤ s.net + s.roundNs)
      let planned := s.twin.planned.map fun (p : Planned) => { p with sealed := p.sealed || late p }
      let s := { s with twin := { s.twin with
        sealed := (s.twin.sealed + 1) % 2 ^ 64, planned := planned } }
      (s.count (tlTwin 0)).mirrorCheck

/-! ### Modes (R363) -/

/-- Mode codes (R523). -/
def triNo : TriMode → Nat
  | .idle => 0 | .triplex => 1 | .duplex => 2 | .waiting => 3 | .silent => 4

/-- A change of mode is raised: causes 0 activation, 1 a ready core joins, 2 mismatch, 3 retirement,
4 domain, 5 restart. -/
def State.triTo (s : State) (m : TriMode) (cause : Nat) : State :=
  if s.triad.mode = m then s
  else
    let old := s.triad.mode
    ({ s with triad := { s.triad with mode := m } }).note (ev 11 1)
      (le 1 (triNo old) ++ le 1 (triNo m) ++ le 1 (s.slotCore 0) ++ le 1 (s.slotCore 1) ++
        le 1 (s.slotCore 2) ++ le 1 cause)

/-- The mode that the running members give; SILENT and IDLE are left by R389 and R387 alone. -/
def State.triUpdate (s : State) (cause : Nat) : State :=
  if s.triad.mode = .idle || s.triad.mode = .silent then s
  else
    let n := s.runners.length
    if n ≥ 3 then s.triTo .triplex cause
    else if n = 2 then s.triTo .duplex cause
    else if (allCores.filter s.fit).length ≥ 2 && n ≥ 1 then s.triTo .waiting cause
    else ({ s with triad := { s.triad with lack := true } }).triTo .silent cause

/-- Whether a released task can begin: two members run, a ready core counted (R363, R377). -/
def State.canBegin (s : State) : Bool :=
  s.triad.mode ≠ .idle && s.triad.mode ≠ .silent &&
    s.runners.length + (s.members.filter fun c => (s.core c).ready).length ≥ 2

/-! ### Beginning and stopping tasks (R364 to R366) -/

/-- The record of a task in the triad task table in force. -/
def State.taskRec (s : State) (t : Nat) : Option TaskRec :=
  match s.par.force with | some p => p.tasks.find? (·.task = t) | none => none

/-- When a release's deadline passes, in thirds of a local ns. -/
def State.deadlineOf (s : State) (r : Release) : Nat :=
  r.edge + 3 * (match s.taskRec r.task with | some t => t.deadline | none => 0)

/-- Ready cores begin to run (R377). -/
def State.joinReady (s : State) : State :=
  (allCores.foldl (fun s c =>
    if (s.core c).ready then s.setCore c { s.core c with running := true, ready := false } else s) s)
    |>.triUpdate 1

/-- Snapshot copies handed over to a release that does not begin are taken up with the next task that
does. -/
def State.holdSnaps (s : State) (r : Release) : State :=
  { s with triad := { s.triad with snaps := s.triad.snaps ++ r.snaps } }

/-- A release begins, after a seal that waits: ready cores join, and the copies handed over become
VISIBLE (R193). -/
def State.begin (s : State) (r : Release) : State :=
  let s := s.seal.joinReady
  let s := s.showSnaps (s.triad.snaps ++ r.snaps)
  { s with triad := { s.triad with
    snaps := [], running := some { rel := { r with snaps := [] }, began := s.now, unguarded := !s.triad.failed.isEmpty } } }

/-- An overrun of a released task (R366). -/
def State.overrun (s : State) (r : Release) : State :=
  ((s.holdSnaps r).count (tlTriad 3)).breach 1 r.task (r.entry.getD 0xFFFFFFFF)

/-- The tasks waiting begin as far as they can: dropped where the triad cannot run them (R363), an
overrun where the deadline has passed (R366). -/
def State.nextTask (s : State) : State :=
  let q := s.triad.queue
  q.foldl (fun s r =>
    if s.triad.running.isSome then s
    else
      let s := { s with triad := { s.triad with queue := s.triad.queue.drop 1 } }
      if s.deadlineOf r ≤ 3 * s.now then s.overrun r
      else if s.canBegin then s.begin r
      else (s.holdSnaps r).count (tlTriad 1)) s

/-- The queue without the releases whose deadline has passed. -/
def State.expireQueue (s : State) : State :=
  let late := s.triad.queue.filter fun r => s.deadlineOf r ≤ 3 * s.now
  let s' := { s with triad := { s.triad with
    queue := s.triad.queue.filter fun r => !decide (s.deadlineOf r ≤ 3 * s.now) } }
  late.foldl State.overrun s'

/-- The running task is stopped and commits nothing. -/
def State.stopTask (s : State) : State :=
  { s with triad := { s.triad with running := none } }

/-- A resync in progress ends without result. -/
def State.endResync (s : State) : State := { s with triad := { s.triad with resync := none } }

/-! ### TASK_RELEASE (R364, R378) -/

/-- A TASK_RELEASE is issued. -/
def State.releaseTask (s : State) (task mark : Nat) (entry : Option Nat) : State :=
  let s := if s.triad.resync.isSome then s.endResync.count (tlTriad 9) else s
  let s := s.expireQueue
  if s.triad.mode = .idle then s
  else if s.quiet || !s.canBegin then s.count (tlTriad 1)
  else
    let r : Release := { task := task, edge := ceilMul (3 * s.now) 5, mark := mark, entry := entry
                         snaps := s.sampledPorts }
    match s.triad.running with
    | none => s.handOver.begin r
    | some _ =>
      if s.triad.queue.length ≥ 16 then
        (s.count (tlTriad 2)).breach 1 task (entry.getD 0xFFFFFFFF)
      else { s.handOver with triad := { s.triad with queue := s.triad.queue ++ [r] } }

/-- TASK_RELEASE. -/
def execTaskRelease (dt : Nat) (src : ActSrc) (s : State) : Out :=
  go ((s.elapse dt).act 10 src fun i s =>
    s.releaseTask (i.act.opnd % 256) i.mark (i.ix.map (·.ix)))

/-! ### Retirement (R379, R380) -/

/-- A core leaves the member set. -/
def State.coreOut (s : State) (c : Nat) : State :=
  let s := s.setCore c { s.core c with slot := none, running := false, ready := false, checks := 0 }
  match s.triad.resync with
  | some r => if r.core = c ∨ r.source = c then s.endResync else s
  | none => s

/-- A task that fewer than two members can go on with is stopped (R381). -/
def State.stopLone (s : State) : State :=
  if s.triad.running.isSome && s.runners.length < 2 then s.stopTask else s

/-- A core is retired: 1 mismatches, 2 self-test, 3 TCM check, 4 worn. -/
def State.retireCore (s : State) (c cause : Nat) : State :=
  if (s.core c).retired ≠ 0 then s
  else
    let was := s.members
    let s := s.coreOut c
    let s := (s.setCore c { s.core c with retired := cause, misses := [] }).fillSlots
    let new := (s.members.find? fun k => !was.contains k).getD 0xFF
    let s := (s.count (tlTriad 10)).note (ev 11 3) (le 1 c ++ le 1 cause ++ le 1 new)
    (s.stopLone.triUpdate 3).nextTask

/-! ### The comparator (R373, R374) -/

/-- Kind codes of R373. -/
def kindCode : CmpKind → Nat
  | .reg => 0 | .store => 1 | .branch => 2

/-- The value a record gives for a slot. -/
def misValue (m : MismatchRec) (k : Nat) : U64 :=
  if k = 0 then m.v0 else if k = 1 then m.v1 else m.v2

/-- The mismatches of a core within the last second. -/
def State.missNow (s : State) (c : Nat) : List Nat :=
  (s.core c).misses.filter fun t => s.now < t + 1000000000

/-- The odd core of a comparison among running members as (core, value), if exactly one differs from
agreeing others. -/
def oddCore : List (Nat × U64) → Option Nat
  | [(a, x), (b, y), (c, z)] =>
    if x = y ∧ y ≠ z then some c else if x = z ∧ y ≠ z then some b
    else if y = z ∧ x ≠ y then some a else none
  | _ => none

/-- A core is halted for its mismatch, and retired at its third within 1 s (R374, R379). -/
def State.blame (s : State) (c : Nat) : State :=
  let m := s.missNow c ++ [s.now]
  let s := s.setCore c { s.core c with running := false, ready := false, misses := m }
  let s := s.count (tlTriad (4 + c))
  if m.length ≥ 3 then s.retireCore c 1 else s.triUpdate 2

/-- The triad falls silent (R374). -/
def State.fallSilent (s : State) : State :=
  let s := ({ s.stopTask with triad := { s.stopTask.triad with lack := false } }).triTo .silent 2
  s.nextTask

/-- A comparison with the values of the running members' slots. -/
def State.compare (s : State) (m : MismatchRec) : State :=
  match s.triad.running with
  | none => s
  | some t =>
    let run := s.runners
    let vals := run.map fun c => (c, misValue m ((s.core c).slot.getD 0))
    let same := match vals with
      | [] => true
      | (_, v) :: l => l.all fun x => x.2 == v
    if run.length < 2 || same then s
    else
      let slots := (run.map fun c => 2 ^ (s.core c).slot.getD 0).sum
      let cores := (run.map fun c => 2 ^ c).sum
      let show_ := fun k => if run.any (fun c => (s.core c).slot = some k) then misValue m k else 0
      let last : LastMis :=
        { task := t.rel.task, kind := kindCode m.kind, slots := slots, cores := cores, addr := m.addr
          v0 := show_ 0, v1 := show_ 1, v2 := show_ 2 }
      let s := ({ s with triad := { s.triad with last := last } }).note (ev 11 0)
        (le 1 t.rel.task ++ le 4 m.addr.toNat ++ le 1 last.kind ++ le 1 slots ++ le 1 cores ++
          le 8 last.v0.toNat ++ le 8 last.v1.toNat ++ le 8 last.v2.toNat)
      match oddCore vals with
      | some c => s.blame c
      | none => s.fallSilent

/-- TRIAD_MISMATCH: the comparator finds a difference. -/
def execTriadMismatch (dt : Nat) (m : MismatchRec) (s : State) : Out :=
  go ((s.elapse dt).compare m)

/-- TRIAD_CORRUPT seeds at a task that ends or is stopped (R563): where the turn has come and the core
runs, the corrupted register write is a mismatch. Whether the task made that write is an open value, as
are the write's address and value. -/
def State.corrupt (s : State) : State :=
  match s.triad.running with
  | none => s
  | some t =>
    let hit := fun k => (fld k 2 2 = 0xFFFF || fld k 2 2 = t.rel.task) &&
      s.hasDom (coreDomain (fld k 0 1))
    if !s.seeds.armed.any (fun x => x.kind = 7 && hit x.params) then s
    else
      let b := s.fresh 1
      let a := b.2.fresh 32
      let v := a.2.fresh 32
      let r := v.2.injectCan 7 hit fun k => b.1 == 1 && v.2.runners.contains (fld k 0 1)
      match r.1 with
      | [] => r.2
      | k :: _ =>
        let good : U64 := v.1.setWidth 64
        let bad := good ^^^ BitVec.ofNat 64 (2 ^ (fld k 1 1 % 32))
        let slot := (r.2.core (fld k 0 1)).slot.getD 3
        r.2.compare { addr := a.1, kind := .reg, v0 := if slot = 0 then bad else good
                      v1 := if slot = 1 then bad else good, v2 := if slot = 2 then bad else good }

/-! ### Task end (R366 to R371, R385) -/

/-- The quality byte of a triad commit (R385). -/
def State.triQuality (s : State) (t : Running) : Nat :=
  markQuality t.rel.mark + (if t.unguarded then qUnguarded else 0) +
    (if s.runners.any fun c => s.warnedSince (coreDomain c) t.began then qFeedWarn else 0)

/-- A port that the triad fills, and whether a write of `n` bytes at `o` lies within its SIZE. -/
def State.triPort (s : State) (i o n : Nat) : Bool :=
  match s.port i with
  | some p => pDir p.conf = 1 && pSource p.conf = 2 && o + n ≤ pSize p.conf
  | none => false

/-- The index of the port whose staged payload holds an address. -/
def stagedPort (a : Nat) : Nat := (a - 0x30000000) / 2048

/-- Whether an address lies in the staged payloads. -/
def isStaged (a : Nat) : Bool := 0x30000000 ≤ a && a < 0x30000000 + 2048 * 4096

/-- Whether a write reaches an area that a task writes (R368, R369). -/
def State.writeOk (s : State) (w : TaskWrite) : Bool :=
  let a := w.addr.toNat
  let n := w.data.length
  if isStaged a then s.triPort (stagedPort a) (a % 2048) n
  else (0x10000000 ≤ a && a + n ≤ 0x10040000) || (0x40000000 ≤ a && a + n ≤ 0x40000008)

/-- A store to the data TCM of every running member. -/
def State.tcmWrite (s : State) (o : Nat) (data : List Byte) : State :=
  s.runners.foldl (fun s c => s.setCore c { s.core c with dtcm := memWrite (s.core c).dtcm o data }) s

/-- A write of the voted output registers: bits 7:0 of each are its first byte. -/
def State.voteWrite (s : State) (o : Nat) (data : List Byte) : State :=
  let at_ := fun (k : Nat) => if o ≤ k ∧ k < o + data.length then data[k - o]? else none
  let upd := fun (r : VoteReg) (k : Nat) => match at_ k with
    | some b => { levels := b, valid := true }
    | none => r
  { s with triad := { s.triad with regA := upd s.triad.regA 0, regB := upd s.triad.regB 4 } }

/-- The ports a task wrote, each once, in order of first write. -/
def portsWritten (ws : List TaskWrite) : List Nat :=
  ((ws.filter fun w => isStaged w.addr.toNat).map fun w => stagedPort w.addr.toNat).eraseDups

/-- The staged payload of a port: a copy of LATEST with the task's writes over it. -/
def staged (i : Nat) (latest : List Byte) (ws : List TaskWrite) : List Byte :=
  ws.foldl (fun l w =>
    if isStaged w.addr.toNat && stagedPort w.addr.toNat = i then overlay l (w.addr.toNat % 2048) w.data
    else l) latest

/-- The voted writes of a task commit (R194, R369). -/
def State.commitWrites (s : State) (t : Running) (writes : List TaskWrite) : State :=
  let ok := writes.filter s.writeOk
  let s := s.countN (tlTriad 12) (writes.length - ok.length)
  let q := s.triQuality t
  let s := ok.foldl (fun s w =>
    let a := w.addr.toNat
    if isStaged a then s
    else if a < 0x20000000 then s.tcmWrite (a - 0x10000000) w.data
    else s.voteWrite (a - 0x40000000) w.data) s
  (portsWritten ok).foldl (fun s i =>
    match s.port i with
    | some p => s.commitPort i 2 s.net q (staged i (padTo 0 (pSize p.conf) p.value.data) ok)
    | none => s) s

/-- The running task ends: its writes commit together, and the next task begins. -/
def State.taskEnd (s : State) (writes : List TaskWrite) : State :=
  match s.triad.running with
  | none => s
  | some t =>
    if s.deadlineOf t.rel < 3 * s.now then (s.corrupt.stopTask.overrun t.rel).nextTask
    else
      let s := s.corrupt
      match s.triad.running with
      | none => s
      | some t => (((s.commitWrites t writes).count (tlTriad 0)).stopTask).nextTask

/-- TASK_END. -/
def execTaskEnd (dt : Nat) (writes : List TaskWrite) (s : State) : Out :=
  go ((s.elapse dt).taskEnd writes)

/-- The deadlines that have passed: of the running task, then of those that wait. -/
def State.taskLate (s : State) : State :=
  let s := match s.triad.running with
    | some t => if s.deadlineOf t.rel ≤ 3 * s.now then
        (match s.corrupt.triad.running with
          | some t => (s.corrupt.stopTask.overrun t.rel).nextTask
          | none => s.corrupt)
      else s
    | none => s
  s.expireQueue

/-- TASK_DEADLINE. -/
def execTaskDeadline (dt : Nat) (s : State) : Out := go (s.elapse dt).taskLate

/-! ### DOUT_DRIVE (R372, R398) -/

/-- The outputs of a group take levels under an enable mask. -/
def State.driveOut (s : State) (g levels mask : Nat) : State :=
  let sh := if g = 0 then 0 else 8
  let m : BitVec 16 := BitVec.ofNat 16 (mask % 256) <<< sh
  let v : BitVec 16 := BitVec.ofNat 16 (levels % 256) <<< sh
  { s with sleep := { s.sleep with latches := (s.sleep.latches &&& ~~~m) ||| (v &&& m) } }

/-- A voted register of a group. -/
def State.voteReg (s : State) (g : Nat) : VoteReg := if g = 0 then s.triad.regA else s.triad.regB

/-- DOUT_DRIVE at its target. -/
def State.doutDrive (s : State) (g opnd : Nat) : State :=
  let mask := bits opnd 15 8
  if s.quiet then s.suppress
  else if bit opnd 16 then
    let r := s.voteReg g
    if !r.valid || s.triad.mode = .silent || s.triad.mode = .waiting then s.count (tlTriad 13)
    else s.driveOut g r.levels.toNat mask
  else s.driveOut g (opnd % 256) mask

/-- DOUT_DRIVE. -/
def execDoutDrive (dt : Nat) (src : ActSrc) (s : State) : Out :=
  go ((s.elapse dt).act 9 src fun i s =>
    s.toUnit i.act.tgt fun s => s.doutDrive (i.act.tgt - 0x3A) i.act.opnd)

/-! ### Resync (R375 to R378) -/

/-- Whether a RESYNC window with at least 46 µs left is open. -/
def State.resyncOpen (s : State) : Bool :=
  match s.par.force with
  | none => false
  | some p =>
    let o := s.timeOffset
    s.gaf.active && s.gaf.paused.isNone && p.slack.any fun w =>
      w.kind = 3 && w.start ≤ o && o + 46000 ≤ w.start + w.len

/-- The instants R375 allows. -/
def State.resyncNow (s : State) : Bool :=
  s.resyncOpen && s.triad.running.isNone && s.triad.queue.isEmpty && s.triad.resync.isNone

/-- The core that awaits resync: the lowest-numbered halted member. -/
def State.awaiting (s : State) : Option Nat :=
  s.members.find? fun c => !(s.core c).running && !(s.core c).ready

/-- Resync begins. -/
def State.resyncStart (s : State) : State :=
  if !s.resyncNow || s.triad.mode = .idle || s.triad.mode = .silent then s
  else match s.awaiting, s.runners with
    | some c, src :: _ => { s with triad := { s.triad with
        resync := some { core := c, source := src, began := s.now } } }
    | _, _ => s

/-- RESYNC_START. -/
def execResyncStart (dt : Nat) (s : State) : Out := go (s.elapse dt).resyncStart

/-- RESYNC_SELFTEST_FAIL: the target is retired at once. -/
def execResyncSelftestFail (dt : Nat) (s : State) : Out :=
  let s := s.elapse dt
  match s.triad.resync with
  | some r => go (s.endResync.retireCore r.core 2)
  | none => go s

/-- RESYNC_CHECK_FAIL: the attempt ends; the second in a row retires the target. -/
def execResyncCheckFail (dt : Nat) (s : State) : Out :=
  let s := s.elapse dt
  match s.triad.resync with
  | some r =>
    let x := s.core r.core
    let s := s.endResync.setCore r.core { x with checks := x.checks + 1 }
    go (if x.checks ≥ 1 then s.retireCore r.core 3 else s)
  | none => go s

/-- TRIAD_RESYNC: the target holds its source's memories and is ready in its slot. -/
def execTriadResync (dt : Nat) (s : State) : Out :=
  let s := s.elapse dt
  match s.triad.resync with
  | some r =>
    let a := s.core r.source
    let x := s.core r.core
    let s := s.endResync.setCore r.core { x with
      ready := true, checks := 0, itcm := a.itcm, dtcm := a.dtcm }
    go ((s.count (tlTriad 8)).note (ev 11 2)
      (le 1 r.core ++ le 1 (x.slot.getD 0xFF) ++ le 1 r.source ++ le 4 (s.now - r.began)))
  | none => go s

/-! ### Assay (R383, R384) -/

/-- The slots of a check 3 × pair + kind. -/
def checkSlots (k : Nat) : Nat × Nat := if k / 3 = 0 then (0, 1) else if k / 3 = 1 then (1, 2) else (0, 2)

/-- Whether a check is assayed in the present mode. -/
def State.assayed (s : State) (k : Nat) : Bool :=
  let runs := fun n => s.runners.any fun c => (s.core c).slot = some n
  s.triad.mode ≠ .duplex || (runs (checkSlots k).1 && runs (checkSlots k).2)

/-- The check whose turn comes after `ix`. -/
def State.nextCheck (s : State) (ix : Nat) : Nat :=
  (((List.range 9).map fun j => (ix + 1 + j) % 9).find? s.assayed).getD ((ix + 1) % 9)

/-- An assay of the next check, every 1,024 triad clocks. -/
def State.assay (s : State) (reported : Bool) : State :=
  let at_ := 3 * s.now / 5120 * 5120
  if at_ ≤ s.triad.assayAt then s
  else
    let k := s.nextCheck s.triad.assayIx
    let fs := s.triad.failed
    let s := { s with triad := { s.triad with assayIx := k, assayAt := at_ } }
    if reported then
      match fs.find? (·.1 = k) with
      | none => s
      | some x =>
        let rest := fs.filter fun y => decide (y.1 ≠ k)
        if x.2 + 1 < 16 then { s with triad := { s.triad with failed := (k, x.2 + 1) :: rest } }
        else
          let s := { s with triad := { s.triad with failed := rest } }
          if rest.isEmpty then s.note (ev 11 4) (le 1 k ++ le 1 1) else s
    else
      let rest := (k, 0) :: fs.filter fun y => decide (y.1 ≠ k)
      let now := s.triad.running.map fun (t : Running) => { t with unguarded := true }
      let s := { s with triad := { s.triad with failed := rest, running := now } }
      (s.count (tlTriad 11)).note (ev 11 4) (le 1 k ++ le 1 0)

/-- ASSAY. -/
def execAssay (dt : Nat) (reported : Bool) (s : State) : Out := go ((s.elapse dt).assay reported)

/-! ### Leaving SILENT, status (R389, R523) -/

/-- MB_TRIAD_RESTART. -/
def cmdTriadRestart : Cmd :=
  { op := 0x0902
    shape := fun b => b.isEmpty
    run := fun _ s =>
      if s.triad.mode = .silent && (allCores.filter s.fit).length ≥ 2 then
        ans stOk [] { s with triad := { s.triad with restart := true } }
      else refuse stDenied s }

/-- MB_TRIAD_RESTART from the host. -/
def execMbTriadRestart (dt : Nat) (r : Req) (s : State) : Out :=
  go ((s.elapse dt).submit cmdTriadRestart r)

/-- A core is loaded with the images of a parison. -/
def State.loadCore (s : State) (p : Par) (c : Nat) : State :=
  s.setCore c { s.core c with itcm := p.imgI, dtcm := memOf p.imgD }

/-- Every fit member is loaded and runs. -/
def State.loadAll (s : State) (p : Par) : State :=
  (s.members.filter s.fit).foldl (fun s c =>
    let s := s.loadCore p c
    s.setCore c { s.core c with running := true, ready := false, checks := 0 }) s

/-- The load of MB_TRIAD_RESTART, at the first instant that meets R375. -/
def State.restartLoad (s : State) : State :=
  match s.par.force with
  | some p =>
    if s.triad.restart && s.triad.mode = .silent && s.resyncNow &&
        (allCores.filter s.fit).length ≥ 2 then
      let s := s.fillSlots.loadAll p
      let s := { s with triad := { s.triad with restart := false, lack := false } }
      s.triTo (if s.runners.length ≥ 3 then .triplex else .duplex) 5
    else s
  | none => s

/-- TRIAD_RESTART_LOAD. -/
def execTriadRestartLoad (dt : Nat) (s : State) : Out := go (s.elapse dt).restartLoad

/-- MB_TRIAD_STATUS. -/
def cmdTriadStatus : Cmd :=
  { op := 0x0901
    shape := fun b => b.isEmpty
    run := fun _ s =>
      let t := s.triad
      let reserve := (allCores.find? fun c => s.fit c && (s.core c).slot.isNone).getD 0xFF
      let retired := (allCores.map fun c => if (s.core c).retired ≠ 0 then 2 ^ c else 0).sum
      let failed := (((List.range 9).find? fun k => t.failed.any (·.1 = k))).getD 0xFF
      ans stOk
        (le 1 (triNo t.mode) ++ le 1 (s.slotCore 0) ++ le 1 (s.slotCore 1) ++ le 1 (s.slotCore 2) ++
          le 1 reserve ++ le 1 retired ++
          le 1 (if t.mode = .idle then 0xFF else s.awaiting.getD 0xFF) ++ le 1 t.queue.length ++
          le 1 (bnat (!t.failed.isEmpty)) ++ le 1 failed ++ zeros 2 ++
          (allCores.map fun c => BitVec.ofNat 8 (s.missNow c).length) ++
          (allCores.map fun c => BitVec.ofNat 8 (s.core c).retired) ++
          le 1 t.last.task ++ le 1 t.last.kind ++ le 1 t.last.slots ++ le 1 t.last.cores ++
          le 4 t.last.addr.toNat ++ le 8 t.last.v0.toNat ++ le 8 t.last.v1.toNat ++
          le 8 t.last.v2.toNat) s }

/-- MB_TRIAD_STATUS from the host. -/
def execMbTriadStatus (dt : Nat) (r : Req) (s : State) : Out :=
  go ((s.elapse dt).submit cmdTriadStatus r)

/-! ### Activation (R386, R387), domains (R381) -/

/-- Whether a parison has a triad task table. -/
def hasTasks : Option Par → Bool
  | some p => !p.codeHash.isEmpty
  | none => false

/-- A running task is stopped and counted, and the queue dropped (R83, R386). -/
def State.triadStop (s : State) : State :=
  let s := if s.triad.running.isSome then s.stopTask.count (tlStrand 16) else s
  let s := s.triad.queue.foldl State.holdSnaps s
  { s with triad := { s.triad with queue := [] } }

/-- The triad halts with no task table active (R84, R387). -/
def State.triadHalt (s : State) : State :=
  let s := s.triadStop.endResync
  let s := allCores.foldl (fun s c =>
    s.setCore c { s.core c with running := false, ready := false }) s
  ({ s with triad := { s.triad with restart := false, lack := false } }).triTo .idle 0

/-- The voted registers lose their commit state where an activation defines the table anew (R372). -/
def State.votesAnew (s : State) (old new : Option Par) : State :=
  let same := match old, new with
    | some a, some b => a.codeHash = b.codeHash && a.tasks = b.tasks && !b.codeHash.isEmpty
    | _, _ => false
  if same then s
  else { s with triad := { s.triad with
    regA := { s.triad.regA with valid := false }, regB := { s.triad.regB with valid := false } } }

/-- An activation: `p` is now in force in place of `old`. -/
def State.triadActivate (s : State) (old : Option Par) (p : Par) : State :=
  let s := s.votesAnew old (some p)
  if p.codeHash.isEmpty then s.triadHalt
  else
    let sameCode := match old with | some a => a.codeHash = p.codeHash | none => false
    if s.triad.mode ≠ .idle && sameCode then s
    else
      let m := s.triad.mode
      let s := s.triadStop
      if m = .idle || m = .silent then
        let s := s.endResync.fillSlots.loadAll p
        let n := s.runners.length
        let s := { s with triad := { s.triad with restart := false, lack := decide (n < 2) } }
        s.triTo (if n ≥ 3 then .triplex else if n = 2 then .duplex else .silent) 0
      else s.runners.foldl (fun s c => s.loadCore p c) s

/-- A domain is isolated: its cores leave (R381). -/
def State.triadLoss (s : State) (d : Nat) : State :=
  let gone := s.members.filter fun c => coreDomain c = d
  let s := gone.foldl State.coreOut s
  let s := (allCores.filter fun c => coreDomain c = d).foldl (fun s c =>
    s.setCore c { s.core c with itcm := [], dtcm := [] }) s
  ((s.stopLone.fillSlots).triUpdate 4).nextTask

/-- A domain returns: vacancies are filled, and SILENT for lack of cores alone is left (R381, R389). -/
def State.triadReturn (s : State) : State :=
  let s := s.fillSlots
  if s.triad.mode = .silent && s.triad.lack && (allCores.filter s.fit).length ≥ 2 &&
      !s.runners.isEmpty then
    ({ s with triad := { s.triad with lack := false } }).triTo
      (if s.runners.length ≥ 2 then .duplex else .waiting) 4
  else s.triUpdate 4

end Sys2Proof.Machine
end

