-- ==== Sys2Proof/Machine/Twin.lean ====
section
/-! DEFINITION. Twin nodes (chapter 12): roles, epochs, heartbeats and beacons, the decision rules,
takeover, planned switch-over and drill. -/

namespace Sys2Proof.Machine

/-! ### Roles (R397) -/

/-- Role codes (R523). -/
def roleNo : Role → Nat
  | .solo => 0 | .active => 1 | .standby => 2 | .orphaned => 3

/-- A change of role: TWIN_ROLE with its cause (0 configuration, 1 takeover, 2 pairing, 3 double claim,
4 planned switch-over, 5 link lost, 6 link back, 7 start) and the SEQ restored. TWIN_ACT follows an
active role at the next refresh and drops at once with it (R393). -/
def State.roleTo (s : State) (r : Role) (cause seq : Nat) : State :=
  let old := s.twin.role
  if old = r then s
  else
    let s := { s with twin := { s.twin with role := r, act := s.twin.act && decide (r = Role.active) } }
    s.note (ev 12 0) (le 1 (roleNo old) ++ le 1 (roleNo r) ++ le 1 cause ++ le 8 seq)

/-- Controllers in NORMAL mode join their buses after 11 recessive bits (R412). -/
def State.canRejoin (s : State) : State :=
  (List.range 8).foldl (fun s c => match s.ctl c with
    | some x => if x.mode = 1 then s.setCtl c (some { x with joining := true }) else s
    | none => s) s

/-- The device acts on the outside world again: an active role, TWIN_ACT, its own time (R412). -/
def State.goActive (s : State) (cause seq : Nat) : State :=
  let was := s.quiet
  let s := (s.roleTo .active cause seq)
  let s := { s with twin := { s.twin with
    act := true, refreshAt := s.now, mirrored := true, taking := none, planned := none
    wantBack := false, window := [], appliedRow := 0, beaconAt := s.now } }
  let s := if was then
      (if s.slaved && s.time.slave = some 24 then s.canRejoin.holdover else s.canRejoin).egressAll
    else s
  s.mirrorCheck

/-- The device acts on nothing outside itself (R398): consist ports are closed and discard what they
hold, and time comes over the escrow link alone (R405). -/
def State.goQuiet (s : State) (r : Role) (cause : Nat) : State :=
  let was := s.quiet
  let s := s.roleTo r cause 0
  let s := { s with twin := { s.twin with
    act := false, sealWait := false, planned := none, window := [], cleanSince := s.now
    mirrored := s.twin.mirrored && was } }
  if was then s
  else
    let s := (List.range 24).foldl (fun s p => if p ≥ 4 then s.flush p else s) s.bridgeQuiet
    if s.slaved then s.holdover else s

/-! ### Epochs at the standby (R400, R403) -/

/-- ESCROW_SEAL: an active device requests the snapshot (R399). -/
def execEscrowSeal (dt : Nat) (src : ActSrc) (s : State) : Out :=
  go ((s.elapse dt).act 11 src fun _ s =>
    if s.twin.role == .active then { s with twin := { s.twin with sealWait := true } } else s)

/-- ESCROW_SNAPSHOT: the requested snapshot is taken and its epoch sent. -/
def execEscrowSnapshot (dt : Nat) (s : State) : Out := go (s.elapse dt).seal

/-- The length of the item of an escrow record at the start of `l`. -/
def itemLen (e : EscRec) (l : List Byte) : Nat :=
  if e.space = 1 then ceilMul (32 + fld l 0x14 2) 8 else if e.space = 2 then e.len else 8

/-- An epoch's items, each with its record. -/
def epochItems : List EscRec → List Byte → List (EscRec × List Byte)
  | [], _ => []
  | e :: es, l => (e, l.take (itemLen e l)) :: epochItems es (l.drop (itemLen e l))

/-- The body of an epoch. -/
def epochBody (b : List Byte) : List Byte := (b.drop 64).take (b.length - 80)

/-- The hold latches take the SPACE 3 levels, but for groups whose domain is absent (R403, R417). -/
def State.takeLevels (s : State) (l : List Byte) : State :=
  let s := if s.hasDom 0 then s.driveOut 0 (fld l 0 1) 255 else s
  if s.hasDom 1 then s.driveOut 1 (fld l 1 1) 255 else s

/-- A received epoch is discarded. -/
def State.epochDrop (s : State) (tally : Nat) : State :=
  ({ s with twin := { s.twin with cleanSince := s.now } }).count (tlTwin tally)

/-- A received epoch ends. -/
def State.epochIn (s : State) (b : List Byte) (complete : Bool) : State :=
  if !s.quiet || !s.escrowUp then s
  else if !complete || b.length < 80 || fld b 4 4 ≠ b.length then s.epochDrop 3
  else if b.take 4 ≠ [0x5A, 0x45, 0x53, 0x43] ||
      BitVec.ofNat 32 (fld b (b.length - 16) 4) ≠ crc32c (b.take (b.length - 16)) then s.epochDrop 2
  else if (s.twin.epoch.isSome && fld b 8 8 ≤ s.twin.applied) || slice b 0x20 8 ≠ s.parPrefix then
    s.epochDrop 4
  else
    let seq := fld b 8 8
    let gap := s.twin.epoch.isSome && seq ≠ s.twin.applied + 1
    let items := epochItems s.escrowSet (epochBody b)
    let from_ := timeAt b 0x10
    let planned := s.twin.planned.map fun (p : Planned) =>
      { p with sealed := p.sealed || decide (p.net ≤ from_ + s.roundNs) }
    let s := { s with twin := { s.twin with
      epoch := some b, epochSet := s.escrowSet, applied := seq, mirrored := true, planned := planned
      cleanSince := if gap then s.now else s.twin.cleanSince } }
    let s := items.foldl (fun s x => if x.1.space = 3 then s.takeLevels x.2 else s) s
    s.count (tlTwin 1)

/-- EPOCH_RECEIVE. -/
def execEpochReceive (dt : Nat) (bytes : List Byte) (complete : Bool) (s : State) : Out :=
  go ((s.elapse dt).epochIn bytes complete)

/-! ### Takeover (R412) -/

/-- A port takes its escrowed value with HELD. -/
def State.restorePort (s : State) (i : Nat) (l : List Byte) : State :=
  match s.port i with
  | none => s
  | some p =>
    if fld l 0x14 2 ≠ pSize p.conf then s
    else
      let seq := fld l 0x0C 4
      let s := s.commitAs i 7 s.net seq (((l.getD 0x16 0) ||| 0x20).toNat) s.inaug.etbTopo s.inaug.optrn
        (slice l 32 (pSize p.conf)) true
      match s.port i with
      | some p => s.setPort i (some { p with seq := (seq + 1) % 2 ^ 32, lastSeq := seq })
      | none => s

/-- The last applied epoch is restored: ports, then the data TCM of every running member. -/
def State.restoreEpoch (s : State) : State :=
  match s.twin.epoch with
  | none => s
  | some b => (epochItems s.twin.epochSet (epochBody b)).foldl (fun s x =>
      if x.1.space = 1 then s.restorePort x.1.loc x.2
      else if x.1.space = 2 then s.tcmWrite x.1.loc x.2 else s) s

/-- TAKEOVER_COMPLETE: a takeover or promotion under way ends. -/
def State.takeover (s : State) : State :=
  match s.twin.taking with
  | none => s
  | some t =>
    if !s.quiet || s.net + 2 < t then s
    else if s.twin.restores then
      let seq := if s.twin.epoch.isSome then s.twin.applied else 0
      let planned := s.twin.planned.isSome
      ((s.restoreEpoch).goActive (if planned then 4 else 1) seq).count (tlTwin 6)
    else s.goActive 2 0

/-- TAKEOVER_COMPLETE. -/
def execTakeoverComplete (dt : Nat) (s : State) : Out := go (s.elapse dt).takeover

/-! ### Double claims (R410) -/

/-- TWIN_PREF_CONFLICT. -/
def State.prefConflict (s : State) : State :=
  s.noteOnce 0 (ev 12 4) (macBytes Config.nodeMac ++ macBytes s.peerMac)

/-- Whether this unit has the claim before the peer's, by TWIN_PREF, then by MAC address. -/
def State.prior (s : State) (peerPref : Bool) : Bool :=
  if s.sys.pref ≠ peerPref then s.sys.pref else decide (Config.nodeMac.toNat < s.peerMac.toNat)

/-- The peer claims ACTIVE while this device is: one of the two demotes. -/
def State.doubleClaim (s : State) (source : Nat) (peerPref : Bool) : State :=
  let s := if s.sys.pref = peerPref then s.prefConflict else s
  let wins := s.prior peerPref
  let s := s.noteOnce 0 (ev 12 3) (le 1 source ++ le 1 (bnat wins))
  if wins then s
  else
    let near := match s.twin.hb with
      | some _ => decide (s.net ≤ s.twin.hbNet + s.roundNs)
      | none => false
    (s.goQuiet (if near then .standby else .orphaned) 3).count (tlTwin 7)

/-! ### Heartbeats (R393, R404, R405) -/

/-- A heartbeat as sent: role, TWIN_PREF, parison, SEQ, take-back flag, time, the planned S. -/
def State.heartbeat (s : State) : List Byte :=
  le 1 (roleNo s.twin.role) ++ le 1 (bnat s.sys.pref) ++ s.parPrefix ++
    le 8 (if s.twin.role = .active then s.twin.sealed else s.twin.applied) ++
    le 1 (bnat s.twin.wantBack) ++ secNs s.net ++
    (match s.twin.planned with
      | some p => if s.twin.role = .active then le 1 1 ++ secNs p.net else zeros 13
      | none => zeros 13)

/-- The escrow unit at a 125 µs boundary: TWIN_ACT refreshed, a heartbeat on each working lane. -/
def State.tickTwin (s : State) : State :=
  let s := { s with twin := { s.twin with refreshAt := s.now, act := decide (s.twin.role = Role.active) } }
  if s.twinOn && s.escrowUp then
    let h := s.heartbeat
    let s := if s.twin.lane0 then s.send (.msg 24 (ev 12 1) h) else s
    if s.twin.lane1 then s.send (.msg 25 (ev 12 1) h) else s
  else s

/-- TICK_125US: a 125 µs boundary of network time. -/
def execTick125us (dt : Nat) (s : State) : Out :=
  let s := s.elapse dt
  let b := (s.net + 2) / 125000 * 125000
  go (if s.net + 2 < b + 5 && s.awake then (s.tickPairs b).tickTwin else s)

/-- TWIN_ACT_TIMEOUT: the KA die drops TWIN_ACT 250 µs after its last refresh. -/
def execTwinActTimeout (dt : Nat) (s : State) : Out :=
  let s := s.elapse dt
  go (if s.twin.refreshAt + 250000 ≤ s.now then { s with twin := { s.twin with act := false } } else s)

/-- A planned switch-over begins: S is the first boundary at least two rounds ahead (R414). -/
def State.planSwap (s : State) (drill : Option Nat) : State :=
  let l := s.roundNs
  let at_ := ceilMul (s.net + 2 * l) l
  { s with twin := { s.twin with
    planned := some { net := at_, sealed := false, drill := drill }
    drillFrom := if drill.isSome then s.net else s.twin.drillFrom } }

/-- Time over the escrow link (R405): the offset to the active. -/
def State.escrowTime (s : State) (t : Nat) : State :=
  let s := if s.slaved && s.time.slave = some 24 then s
    else ({ s with time := { s.time with slave := some 24, ratio := none } }).toTime .acquiring
  s.offset (((s.net : Nat) : Int) - ((t : Nat) : Int))

/-- What a heartbeat brings by the role of this device. -/
def State.heardFrom (s : State) (h : Heartbeat) (old : Option Heartbeat) : State :=
  if s.twin.role = .active then
    if h.role = .active then s.doubleClaim 0 h.pref
    else
      let seq := h.seq.toNat
      let before := match old with | some o => o.seq.toNat | none => 0
      let row := if seq = before then s.twin.appliedRow
        else if seq = before + 1 then s.twin.appliedRow + 1 else 1
      let s := ({ s with twin := { s.twin with appliedRow := row } }).mirrorCheck
      if h.takeback && s.twin.planned.isNone && s.twin.drillEnd.isNone then s.planSwap none else s
  else if s.quiet && h.role = .active then
    let planned := match h.planned, s.twin.planned with
      | some t, some p => some (if p.net = t then p else ({ net := t, sealed := false, drill := none } : Planned))
      | some t, none => some ({ net := t, sealed := false, drill := none } : Planned)
      | none, _ => none
    let s := if s.twin.taking.isSome then s else { s with twin := { s.twin with planned := planned } }
    s.escrowTime h.time
  else s

/-- A heartbeat arrives: valid on a twin-enabled device whose escrow link is up, when it authenticates. -/
def State.heartbeatIn (s : State) (h : Heartbeat) : State :=
  if !s.twinOn || !s.escrowUp || !(h.authOk || (s.key 24).isOpen) then s
  else
    let old := s.twin.hb
    ({ s with twin := { s.twin with hb := some h, hbNet := s.net } }).heardFrom h old

/-- HEARTBEAT_RX. -/
def execHeartbeatRx (dt : Nat) (h : Heartbeat) (s : State) : Out := go ((s.elapse dt).heartbeatIn h)

/-! ### The decision rules (R407, R408, R411) -/

/-- Whether the last three judged boundaries agree. -/
def triple : List Judged3 → Option Judged3
  | [a, b, c] => if a.missed = b.missed ∧ b.missed = c.missed ∧ a.claim = b.claim ∧ b.claim = c.claim then
      some c else none
  | _ => none

/-- Whether the witness showed one level at all three. -/
def steadyWitness (l : List Judged3) (v : Bool) : Bool := l.all fun j => j.witness == v

/-- What a boundary shows of the peer's claim: 0 none, 1 ACTIVE, 2 STANDBY or ORPHANED. -/
def claimOf (missed : Bool) (h : Option Heartbeat) : Nat :=
  if missed then 0
  else match h with
    | some h => if h.role = .active then 1 else if h.role = .solo then 3 else 2
    | none => 0

/-- The outcome of three boundaries that agree (R408). -/
def State.decide3 (s : State) (j : Judged3) (fresh : Bool) : State :=
  let w := s.twin.window
  if j.missed then
    if steadyWitness w false then
      if s.twin.pairOver && s.twin.taking.isNone then
        { s with twin := { s.twin with taking := some s.net, restores := true } } else s
    else if steadyWitness w true then
      if s.twin.role = .standby then s.roleTo .orphaned 5 0 else s
    else s
  else if j.claim = 1 then
    if steadyWitness w true then s.roleTo .standby 6 0
    else if steadyWitness w false then
      let s := s.roleTo .standby 6 0
      if fresh then s.note (ev 12 2) (le 1 0 ++ le 1 1) else s
    else s
  else if j.claim = 2 then
    let peer := match s.twin.hb with | some h => h.pref | none => false
    let s := if s.sys.pref = peer then s.prefConflict else s
    let s := s.roleTo .standby 6 0
    if s.prior peer && s.twin.taking.isNone then
      { s with twin := { s.twin with taking := some (s.twin.lastB + s.roundNs), restores := false } }
    else s
  else s

/-- Boundary b is judged at b + 20 µs (R407). -/
def State.judge (s : State) (witness : Bool) : State :=
  let l := s.roundNs
  let b := (s.net + 2 - 20000) / l * l
  if !s.quiet || !s.twinOn || s.net + 2 < 20000 || s.net > b + 20002 || b ≤ s.twin.lastB then s
  else
    let missed := !(s.twin.hb.isSome && decide (b + 20000 < s.twin.hbNet + l))
    let j : Judged3 := { missed := missed, witness := witness, claim := claimOf missed s.twin.hb }
    let w := pushKeep 3 s.twin.window j
    let wit := fun (l : List Judged3) => steadyWitness l true || steadyWitness l false
    let had := (triple s.twin.window).isSome && wit s.twin.window &&
      (match s.twin.window.getLast? with | some k => decide (k = j) | none => false)
    let s := { s with twin := { s.twin with
      lastB := b, window := w
      planned := if missed then none else s.twin.planned
      cleanSince := if missed then s.now else s.twin.cleanSince } }
    let s := if missed then s.count (tlTwin 5) else s
    match triple w with
    | some j => s.decide3 j (!had)
    | none => s

/-- BOUNDARY_JUDGEMENT, with the level of TWIN_PEER_ACT at that instant. -/
def execBoundaryJudgement (dt : Nat) (peerAct : Bool) (s : State) : Out :=
  go ((s.elapse dt).judge peerAct)

/-- PAIR_WAIT_EXPIRY: takeover becomes possible (R411). -/
def execPairWaitExpiry (dt : Nat) (s : State) : Out :=
  let s := s.elapse dt
  match s.twin.pairWait with
  | some t => if t ≤ s.now then
      go { s with twin := { s.twin with pairOver := true, pairWait := none } } else go s
  | none => go s

/-- A parison becomes active: the first one begins the pair wait (R411). -/
def State.pairBegin (s : State) : State :=
  if s.twin.pairOver || s.twin.pairWait.isSome then s
  else { s with twin := { s.twin with pairWait := some (s.now + fld s.twin.conf 4 2 * 1000000) } }

/-! ### Beacons (R406, R410) -/

/-- BEACON_SEND: every 10 ms on each open backbone port. -/
def execBeaconSend (dt : Nat) (s : State) : Out :=
  let s := s.elapse dt
  if s.twin.role != .active || s.now < s.twin.beaconAt then go s
  else
    let body := be 6 nearestBridge ++ macBytes Config.nodeMac ++ [0x88, 0xB5, 0x5A] ++
      macBytes Config.nodeMac ++ macBytes s.peerMac ++ le 1 (bnat s.sys.pref) ++ le 8 s.twin.sealed
    let s := { s with twin := { s.twin with beaconAt := s.now + 10000000 } }
    go ((List.range 4).foldl (fun s p =>
      if s.portOpen p then s.send (.msg p (ev 12 2) body) else s) s)

/-- BEACON_RX: a beacon of PEER_MAC, accepted on a secured link, claims ACTIVE. -/
def execBeaconRx (dt : Nat) (port : Fin 4) (b : Beacon) (s : State) : Out :=
  let s := s.elapse dt
  let p := port.val
  go (if (s.mac p).up && !s.absentUnit p && (s.sa p).secured && b.secured && b.mac = s.peerMac &&
      s.twin.role == .active then s.doubleClaim 1 b.pref else s)

/-! ### Planned switch-over and drill (R414 to R416) -/

/-- PLANNED_SWITCHOVER: at S the roles swap, or the switch-over is abandoned. -/
def State.swapRoles (s : State) : State :=
  match s.twin.planned with
  | none => s
  | some p =>
    if s.net + 2 < p.net then s
    else
      let near := match s.twin.hb with
        | some _ => decide (s.net ≤ s.twin.hbNet + s.roundNs)
        | none => false
      if s.twin.role = .active then
        let applied := match s.twin.hb with
          | some h => decide (s.twin.sealed ≤ h.seq.toNat)
          | none => false
        if p.sealed && near && applied then
          let s := s.goQuiet .standby 4
          match p.drill with
          | some d => { s with twin := { s.twin with
              drillEnd := some (s.now + d * 1000000000), drillSwap := p.net } }
          | none => s
        else { s with twin := { s.twin with planned := none } }
      else if s.quiet && p.sealed && near then
        { s with twin := { s.twin with taking := some p.net, restores := true } }
      else { s with twin := { s.twin with planned := none } }

/-- PLANNED_SWITCHOVER. -/
def execPlannedSwitchover (dt : Nat) (s : State) : Out := go (s.elapse dt).swapRoles

/-- TAKEBACK_TIMER: the preferred standby has run clean for TAKEBACK_S (R415). -/
def execTakebackTimer (dt : Nat) (s : State) : Out :=
  let s := s.elapse dt
  let k := fld s.twin.conf 2 2
  go (if s.twin.role == .standby && s.sys.pref && k ≠ 0 && s.twin.drillEnd.isNone &&
      s.twin.epoch.isSome && s.twin.cleanSince + k * 1000000000 ≤ s.now then
    { s with twin := { s.twin with wantBack := true } } else s)

/-- DRILL_DWELL_EXPIRY: DWELL_S has passed, and take-back follows (R416). -/
def execDrillDwellExpiry (dt : Nat) (s : State) : Out :=
  let s := s.elapse dt
  match s.twin.drillEnd with
  | some t =>
    if t ≤ s.now then
      let s := { s with twin := { s.twin with drillEnd := none, wantBack := decide (s.twin.role = Role.standby) } }
      go (s.note (ev 12 6) (secNs s.twin.drillFrom ++ secNs s.twin.drillSwap ++ secNs s.net))
    else go s
  | none => go s

/-- MB_TWIN_DRILL. -/
def cmdTwinDrill : Cmd :=
  { op := 0x0A03
    shape := fun b => b.length = 4 && zeroAt b 2 2
    run := fun b s =>
      let d := fld b 0 2
      let three := match s.twin.hb with
        | some h => h.seq.toNat = s.twin.sealed && s.twin.appliedRow ≥ 3
        | none => false
      if d = 0 || d > 3600 then refuse stMalformed s
      else if s.twin.role != .active || !three then refuse stDenied s
      else if s.twin.planned.isSome || s.twin.drillEnd.isSome then refuse stBusy s
      else
        let s := s.planSwap (some d)
        ans stOk (secNs (match s.twin.planned with | some p => p.net | none => 0) ++ zeros 4) s }

/-- MB_TWIN_DRILL from the host. -/
def execMbTwinDrill (dt : Nat) (r : Req) (s : State) : Out :=
  go ((s.elapse dt).submit cmdTwinDrill r)

/-! ### Lanes (R402) -/

/-- A lane of the escrow link. -/
def State.lane (s : State) (k : Nat) : Bool := if k = 0 then s.twin.lane0 else s.twin.lane1

/-- A lane fails or returns; the first lane keys the link, the last one takes it down. -/
def State.laneTo (s : State) (k : Nat) (up : Bool) : State :=
  let gone := if k = 0 then s.twin.retired0 else s.twin.retired1
  if s.lane k = up || (gone && up) then s
  else
    let had := s.twin.lane0 || s.twin.lane1
    let s := { s with twin := if k = 0 then { s.twin with lane0 := up } else { s.twin with lane1 := up } }
    let s := if up then s else s.count (tlTwin 9)
    let s := s.note (ev 12 5) (le 1 k ++ le 1 (bnat up))
    if up && !had then (if s.twinOn then (s.keyPolicy 24).keyStart 24 else s)
    else if !up && !(s.twin.lane0 || s.twin.lane1) then
      let s := s.keyDrop 24
      if s.slaved && s.time.slave = some 24 then s.holdover else s
    else s

/-- TWIN_LANE. -/
def execTwinLane (dt : Nat) (lane : Fin 2) (up : Bool) (s : State) : Out :=
  go ((s.elapse dt).laneTo lane.val up)

/-! ### Configuration and status (R395, R396, R523) -/

/-- ENABLE changes (R396): a unit that leaves twin operation becomes SOLO; one that enters it becomes
ACTIVE while it runs a parison, else STANDBY. -/
def State.setTwin (s : State) (c : List Byte) : State :=
  let was := s.twinOn
  let s := { s with twin := { s.twin with conf := c } }
  if was = s.twinOn then s
  else if was then
    let s := { (s.roleTo .solo 0 0) with twin := { (s.roleTo .solo 0 0).twin with sealWait := false } }
    s.keyDrop 24
  else
    let s := if s.twin.lane0 || s.twin.lane1 then (s.keyPolicy 24).keyStart 24 else s
    if s.gaf.active then s.goActive 0 0 else s.goQuiet .standby 0

/-- MB_TWIN_CONFIG. -/
def cmdTwinConfig : Cmd :=
  { op := 0x0A01
    shape := fun b => cfgOpts b true && cfgLen b 4 32 && (bit (fld b 0 4) 1 ||
      (zeroAt b 5 1 && zeroAt b 16 20))
    run := fun b s =>
      let o := fld b 0 4
      let c := b.drop 4
      let wait := fld c 4 2
      if bit o 1 then ans stOk s.twin.conf s
      else if fld c 0 1 > 1 || fld c 2 2 > 3600 || wait < 500 || wait > 10000 then refuse stMalformed s
      else if s.twinOn && fld c 0 1 = 0 && s.quiet then refuse stDenied s
      else if s.twin.planned.isSome || (bit o 0 && s.flashHeld) then refuse stBusy s
      else
        let s := s.setTwin c
        ans stOk c (if bit o 0 then s.persist cfTwin c else s) }

/-- MB_TWIN_CONFIG from the host. -/
def execMbTwinConfig (dt : Nat) (r : Req) (s : State) : Out :=
  go ((s.elapse dt).submit cmdTwinConfig r)

/-- The missed boundaries in a row, up to three. -/
def missedRow (w : List Judged3) : Nat := (w.reverse.takeWhile (·.missed)).length

/-- MB_TWIN_STATUS; the level of TWIN_PEER_ACT, an input pin, is an open value. -/
def cmdTwinStatus : Cmd :=
  { op := 0x0A02
    shape := fun b => b.isEmpty
    run := fun _ s =>
      let w := s.fresh 1
      let s := w.2
      let t := s.twin
      ans stOk
        (le 1 (roleNo t.role) ++ le 1 (bnat s.sys.pref) ++ le 1 w.1.toNat ++
          le 1 (bnat t.lane0 + 2 * bnat t.lane1) ++ le 1 (bnat t.mirrored) ++ le 1 (missedRow t.window) ++
          le 1 (match t.hb with | some h => roleNo h.role | none => 0xFF) ++ zeros 1 ++
          le 8 (if t.role = .active then t.sealed else t.applied) ++
          (match t.hb with | some h => padTo 0 8 h.parison | none => zeros 8) ++
          (match t.planned with | some p => secNs p.net | none => zeros 12) ++ zeros 4) s }

/-- MB_TWIN_STATUS from the host. -/
def execMbTwinStatus (dt : Nat) (r : Req) (s : State) : Out :=
  go ((s.elapse dt).submit cmdTwinStatus r)

end Sys2Proof.Machine
end

