-- ==== Sys2Proof/Machine/Loader.lean ====
section
/-! DEFINITION. The loader (chapter 2): the parison image and its sections, and the checks of R74 in
their order, each as the list of the failures that R592 chooses from. -/

namespace Sys2Proof.Machine

/-! ### Failures (R75, R76, R592) -/

/-- A failure of the contract, as the detail record of R75 shows it. -/
structure Fail where
  reason : Nat
  sect : Nat
  list : Nat
  entry : Nat
  other : Nat
  pos : Nat
  strand : Nat
deriving DecidableEq, Repr

/-- ENTRY or OTHER where none is named. -/
def noEntry : Nat := 0xFFFFFFFF

/-- A failure of a record of a section, or of its header. -/
def bad (reason sect entry : Nat) (other : Nat := noEntry) (pos : Nat := 0xFF) : Fail :=
  { reason := reason, sect := sect, list := 0, entry := entry, other := other, pos := pos
    strand := if sect = 2 then 0 else if sect = 3 then 1 else 0xFF }

/-- A failure of an action, or of a list: strand 0 or 1, list 0 A, 1 B, 2 spine. -/
def badAct (reason st l entry : Nat) (other : Nat := noEntry) (pos : Nat := 0xFF) : Fail :=
  { reason := reason, sect := 2 + st, list := l + 1, entry := entry, other := other, pos := pos
    strand := st }

/-- The failures of a condition. -/
def failIf (c : Bool) (f : Fail) : List Fail := if c then [f] else []

/-- The order of R592 as one number: section, list, entry, then the entry's lowest reason, then
position. -/
def Fail.rank (f : Fail) : Nat :=
  (((f.sect * 4 + f.list) * 2 ^ 32 + f.entry) * 2 ^ 16 + f.reason) * 256 + f.pos

/-- The failure reported of a check: the first in order. -/
def firstFail : List Fail → Option Fail
  | [] => none
  | f :: l =>
    match firstFail l with
    | none => some f
    | some g => if g.rank < f.rank then some g else some f

/-- The detail record of R75. -/
def Fail.record (f : Fail) : List Byte :=
  le 2 f.reason ++ le 1 f.sect ++ le 1 f.list ++ le 4 f.entry ++ le 4 f.other ++ le 1 f.pos ++
    le 1 f.strand ++ zeros 2

/-! ### The image (R49 to R52) -/

/-- Length of the signature block. -/
def sigLen : Nat := 7872
/-- IMAGE_LEN. -/
def imLen (b : List Byte) : Nat := fld b 8 4
/-- SIG_OFFSET. -/
def imSig (b : List Byte) : Nat := fld b 12 4
/-- The round length in ns. -/
def imRound (b : List Byte) : Nat := fld b 0x18 2 * 125000
/-- MAX_NODES. -/
def imNodes (b : List Byte) : Nat := fld b 0x1A 1
/-- SPINE_GAFFER. -/
def imSpine (b : List Byte) : Nat := fld b 0x1B 1
/-- SECTIONS. -/
def imSections (b : List Byte) : Nat := fld b 0x1D 1

/-- A directory entry. -/
def dirEntry (b : List Byte) (i : Nat) : List Byte := slice b (0x40 + 16 * i) 16
/-- TYPE. -/
def dType (d : List Byte) : Nat := fld d 0 1
/-- OFFSET. -/
def dOff (d : List Byte) : Nat := fld d 4 4
/-- LENGTH. -/
def dLen (d : List Byte) : Nat := fld d 8 4
/-- The entries in use. -/
def dirUsed (b : List Byte) : List (List Byte) := (List.range (imSections b)).map (dirEntry b)

/-- A section's bytes; none where it is absent. -/
def imSec (b : List Byte) (t : Nat) : Option (List Byte) :=
  ((dirUsed b).find? fun d => dType d = t).map fun d => slice b (dOff d) (dLen d)

/-- A section's bytes, empty where it is absent. -/
def secOr (b : List Byte) (t : Nat) : List Byte := (imSec b t).getD []

/-- The whole records of `n` bytes in a list of bytes. -/
def recs (n : Nat) (l : List Byte) : List (List Byte) := chunks n (l.length / n) l

/-- `k` records of `n` bytes from `o` on, as many as there are. -/
def recsAt (n k o : Nat) (l : List Byte) : List (List Byte) :=
  (recs n (l.drop o)).take k

/-- A list with the index of each element. -/
def numbered {α : Type} (l : List α) : List (Nat × α) := (List.range l.length).zip l

/-- The three counts of a strand table. -/
def actCounts (st : Nat) (sec : List Byte) : List Nat :=
  let o := if st = 0 then 0 else 0x20
  [fld sec o 4, fld sec (o + 4) 4, fld sec (o + 8) 4]

/-- Where the lists of a strand table begin. -/
def actBase (st : Nat) : Nat := if st = 0 then 16 else 64

/-- A list of a strand table, as its entries' bytes. -/
def actRecs (b : List Byte) (st l : Nat) : List (List Byte) :=
  let sec := secOr b (2 + st)
  let c := actCounts st sec
  recsAt 16 (c.getD l 0) (actBase st + 16 * (c.take l).sum) sec

/-- A list of a strand table. -/
def imActs (b : List Byte) (st l : Nat) : List Act := (actRecs b st l).map actOf

/-- The three lists. -/
def threeLists : List Nat := [0, 1, 2]

/-- The pace-strand parameter block; empty with no pace strand. -/
def imPace (b : List Byte) : List Byte := (secOr b 3).take 64
/-- The port records. -/
def imPorts (b : List Byte) : List (List Byte) :=
  let s := secOr b 6
  recsAt 48 (fld s 0 2) 16 s
/-- The map records. -/
def imMaps (b : List Byte) : List (List Byte) :=
  let s := secOr b 6
  recsAt 16 (fld s 2 2) (16 + 48 * fld s 0 2) s
/-- The relocation records. -/
def imReloc (b : List Byte) : List Reloc :=
  (recs 16 (secOr b 4)).map fun r => { cls := fld r 0 1, base := fld r 4 4, stride := fld r 8 4 }
/-- The triad task records. -/
def imTasks (b : List Byte) : List TaskRec :=
  (recs 16 (secOr b 9)).map fun r =>
    { task := fld r 0 1, entry := fld r 4 4, wcet := fld r 8 4, deadline := fld r 12 4 }
/-- The escrow records. -/
def imEscrow (b : List Byte) : List EscRec :=
  (recs 16 (secOr b 0x0B)).map fun r => { space := fld r 0 1, loc := fld r 4 4, len := fld r 8 4 }
/-- The slack records. -/
def imSlack (b : List Byte) : List Slack :=
  (recs 16 (secOr b 0x0C)).map fun r =>
    { kind := fld r 0 1, gaf := fld r 1 1, start := fld r 4 4, len := fld r 8 4 }
/-- The instruction image length. -/
def imCodeLen (b : List Byte) : Nat := fld (secOr b 0x0A) 0 4
/-- The data image length. -/
def imDataLen (b : List Byte) : Nat := fld (secOr b 0x0A) 4 4
/-- The policer records. -/
def imPolicers (b : List Byte) : List (List Byte) :=
  let s := secOr b 5
  recsAt 16 (fld s 0x40 2) 0x50 s
/-- The ledger entries. -/
def imLedger (b : List Byte) : List (List Byte) :=
  let s := secOr b 5
  recsAt 16 (fld s 0x44 4) (0x50 + 16 * fld s 0x40 2) s
/-- The controller records; zeros where the section is absent. -/
def imCtls (b : List Byte) : List (List Byte) :=
  chunks 64 8 (padTo 0 512 (slice (secOr b 7) 0x10 512))
/-- The buffer records. -/
def imBufs (b : List Byte) : List (List Byte) :=
  let s := secOr b 7
  recsAt 80 (fld s 0 2) 0x210 s
/-- The filter records. -/
def imFilters (b : List Byte) : List (List Byte) :=
  let s := secOr b 7
  recsAt 16 (fld s 2 2) (0x210 + 80 * fld s 0 2) s
/-- The window records. -/
def imWindows (b : List Byte) : List (List Byte) :=
  let s := secOr b 8
  recsAt 32 (fld s 0 1) 16 s
/-- The records of the measurement set-up, zeros where the section is absent (R326, R592). -/
def imMeas (b : List Byte) : List (List Byte) :=
  chunks 16 21 (padTo 0 336 ((secOr b 0x0D).drop 16))

/-- The parison an image holds, its image in flash region `reg`. -/
def parOf (b : List Byte) (reg : Nat) : Par :=
  { hash := sha256 (b.take (imSig b))
    codeHash := match imSec b 0x0A with | some c => sha256 c | none => []
    serial := fld b 0x14 4, rollback := fld b 0x10 4
    signed := decide (fld b (imSig b) 2 = 1)
    timeN := fld b 0x18 2, maxNodes := imNodes b, spineGaf := imSpine b, minBehav := fld b 0x1C 1
    timeA := imActs b 0 0, timeB := imActs b 0 1, timeS := imActs b 0 2
    paceA := imActs b 1 0, paceB := imActs b 1 1, paceS := imActs b 1 2
    pace := imPace b, manifest := secOr b 1, reloc := imReloc b, slack := imSlack b
    tasks := imTasks b
    imgI := slice (secOr b 0x0A) 16 (imCodeLen b)
    imgD := slice (secOr b 0x0A) (16 + imCodeLen b) (imDataLen b)
    escrow := imEscrow b, ledHead := (secOr b 5).take 0x50
    policers := imPolicers b, ledger := imLedger b, ports := imPorts b, maps := imMaps b
    canCtl := imCtls b, canBuf := imBufs b, canFil := imFilters b, windows := imWindows b
    sdClk := fld (secOr b 0x0D) 0 1, meas := imMeas b, region := reg }

/-! ### Step 1: header -/

/-- The header's checks, in order, under a behaviour revision. -/
def step1 (behav : Nat) (b : List Byte) : Option Fail :=
  let h := fun r => some (bad r 0 noEntry)
  if b.take 4 ≠ [0x5A, 0x50, 0x41, 0x52] || fld b 4 2 ≠ 1 || fld b 6 2 ≠ 0x0740 then h 1
  else if imLen b > 0x2000000 || imLen b ≠ b.length || imSig b + sigLen ≠ imLen b then h 2
  else if fld b 0x18 2 = 0 || fld b 0x18 2 > 16000 || imNodes b = 0 || imNodes b > 32 ||
      imSpine b > 1 || imSections b < 4 || imSections b > 14 then h 4
  else if fld b 0x1C 1 > behav then h 3
  else none

/-! ### Step 2: signature block -/

/-- Whether the signature block passes (R52, R74 step 2, R484). -/
def State.sigOk (s : State) (b : List Byte) : Bool :=
  let g := b.drop (imSig b)
  if fld g 0 2 = 0 then s.sec.life ≠ 2 && zeroAt g 8 (sigLen - 8)
  else
    fld g 0 2 = 1 && s.sec.life ≠ 0 &&
      (match s.sec.rootPk with
       | some pk => slice g 8 8 = keyId pk &&
           Config.slhVerify pk (b.take (imSig b)) (slice g 16 7856)
       | none => false) && s.sec.par ≤ fld b 0x10 4

/-! ### Step 3: directory and CRCs -/

/-- The assigned section types (R50). -/
def secTypes : List Nat := [1, 2, 3, 4, 5, 6, 7, 8, 9, 10, 11, 12, 13, 15]

/-- A breach of R50 or R51 by the directory entry at `i`. -/
def dirBad (b : List Byte) (i : Nat) : Bool :=
  let d := dirEntry b i
  let p := dirEntry b (i - 1)
  let last := i + 1 = imSections b
  let gap := dOff d - (dOff p + dLen p)
  if imSections b ≤ i then !allZero d
  else
    !secTypes.contains (dType d) || dOff d % 16 ≠ 0 || dOff d < 0x140 ||
      (i ≠ 0 && (dType d ≤ dType p || dOff d < dOff p + dLen p || gap ≥ 16 ||
        !zeroAt b (dOff p + dLen p) gap)) ||
      ((dType d = 15) ≠ last) || (last && (dOff d ≠ imSig b || dLen d ≠ sigLen))

/-- The failures of step 3. -/
def step3 (b : List Byte) : List Fail :=
  let has := fun t => (imSec b t).isSome
  let layout := (List.range 16).flatMap fun i => failIf (dirBad b i) (bad 5 0 i)
  let missing := ([1, 2, 9, 0x0A, 0x0C, 0x0F].filter fun t =>
      !has t && (t = 9 → has 0x0A) && (t = 0x0A → has 9)).map fun t => bad 6 t noEntry
  let crcs := (dirUsed b).flatMap fun d =>
    let body := slice b (dOff d) (dLen d)
    let body := if dType d = 15 then body.take 16 ++ zeros (body.length - 16) else body
    failIf (crc32c body ≠ BitVec.ofNat 32 (fld d 12 4)) (bad 7 (dType d) noEntry)
  layout ++ missing ++ crcs

/-! ### Step 4, reserved fields (R8) -/

/-- Whether byte ranges of a record hold anything but zero. -/
def rsvSet (l : List Byte) (rs : List (Nat × Nat)) : Bool := rs.any fun r => !zeroAt l r.1 r.2

/-- Reserved failures of a section's records, from entry number `base` on. -/
def rsvRecs (sect base : Nat) (f : List Byte → Bool) (l : List (List Byte)) : List Fail :=
  (numbered l).flatMap fun x => failIf (f x.2) (bad 8 sect (base + x.1))

/-- Reserved failures of a section's header. -/
def rsvHead (b : List Byte) (sect : Nat) (rs : List (Nat × Nat)) : List Fail :=
  failIf (rsvSet (secOr b sect) rs) (bad 8 sect noEntry)

/-- The reserved fields of a section. -/
def rsvSection (b : List Byte) : Nat → List Fail
  | 1 => rsvHead b 1 [(0x2C, 20)] ++
      rsvRecs 1 0 (fun r => rsvSet r [(1, 3), (12, 4)]) (recsAt 16 24 64 (secOr b 1))
  | 2 => rsvHead b 2 [(12, 4)] ++ threeLists.flatMap fun l =>
      (numbered (imActs b 0 l)).flatMap fun x => failIf (x.2.flags % 128 ≠ 0) (badAct 8 0 l x.1)
  | 3 => rsvHead b 3 [(0x1B, 1), (0x2C, 20)] ++ threeLists.flatMap fun l =>
      (numbered (imActs b 1 l)).flatMap fun x => failIf (x.2.flags % 128 ≠ 0) (badAct 8 1 l x.1)
  | 4 => rsvRecs 4 0 (fun r => rsvSet r [(1, 3), (12, 4)]) (recs 16 (secOr b 4))
  | 5 => rsvHead b 5 [(0x19, 7), (0x3E, 2), (0x42, 2), (0x48, 8)] ++
      rsvRecs 5 0 (fun r => rsvSet r [(9, 7)]) (imPolicers b)
  | 6 => rsvHead b 6 [(4, 12)] ++
      rsvRecs 6 0 (fun r => rsvSet r [(0x22, 2), (0x2A, 6)] || fld r 11 1 ≠ 0 ||
        fld r 36 4 ≥ 2 ^ 28 || fld r 40 1 ≥ 64) (imPorts b) ++
      rsvRecs 6 (fld (secOr b 6) 0 2) (fun r => rsvSet r [(11, 5)]) (imMaps b)
  | 7 => rsvHead b 7 [(4, 12)] ++
      rsvRecs 7 0 (fun r => rsvSet r [(15, 49)] || fld r 1 1 ≥ 4 || fld r 3 1 ≥ 16)
        (if (imSec b 7).isSome then imCtls b else []) ++
      rsvRecs 7 8 (fun r => rsvSet r [(9, 7)] || fld r 3 1 ≥ 32 || fld r 4 4 ≥ 2 ^ 29) (imBufs b) ++
      rsvRecs 7 (8 + fld (secOr b 7) 0 2) (fun r => rsvSet r [(12, 4)] || fld r 3 1 ≥ 64 ||
        fld r 4 4 ≥ 2 ^ 29 || fld r 8 4 ≥ 2 ^ 29) (imFilters b)
  | 8 => rsvHead b 8 [(1, 15)] ++
      rsvRecs 8 0 (fun r => rsvSet r [(7, 1), (22, 10)]) (imWindows b)
  | 9 => rsvRecs 9 0 (fun r => rsvSet r [(1, 3)]) (recs 16 (secOr b 9))
  | 10 => rsvHead b 10 [(8, 8)]
  | 11 => rsvRecs 11 0 (fun r => rsvSet r [(1, 3), (12, 4)]) (recs 16 (secOr b 11))
  | 12 => rsvRecs 12 0 (fun r => rsvSet r [(2, 2), (12, 4)]) (recs 16 (secOr b 12))
  | 13 => rsvHead b 13 [(1, 15)] ++ (numbered (imMeas b)).flatMap fun x =>
      let r := x.2
      failIf (if x.1 < 8 then rsvSet r [(3, 1), (12, 4)] || fld r 2 1 ≥ 2
        else if x.1 < 12 then rsvSet r [(3, 1), (8, 8)]
        else if x.1 < 20 then rsvSet r [(12, 4)] || fld r 1 1 ≥ 4
        else rsvSet r [(5, 11)]) (bad 8 13 x.1)
  | 15 => rsvHead b 15 [(2, 6)]
  | _ => []

/-- The reserved fields of an image. -/
def rsvFails (b : List Byte) : List Fail :=
  failIf (rsvSet b [(0x1E, 2), (0x24, 28)]) (bad 8 0 noEntry) ++
    ((numbered (dirUsed b)).flatMap fun x => failIf (!zeroAt x.2 1 3) (bad 8 0 x.1)) ++
    secTypes.flatMap (rsvSection b)

/-! ### Step 4, entries (R53 to R57, R67, R173, R275, R331) -/

/-- Whether an opcode allows a target (R55). -/
def targetOk (op t : Nat) : Bool :=
  match op with
  | 0 => t = 0xFF
  | 1 | 2 => t ≤ 0x18
  | 3 | 4 => t = 0x41
  | 5 => 0x20 ≤ t && t ≤ 0x27
  | 6 => 0x28 ≤ t && t ≤ 0x2F
  | 7 => 0x30 ≤ t && t ≤ 0x37
  | 8 => t = 0x38 || t = 0x39
  | 9 => t = 0x3A || t = 0x3B
  | 10 => t = 0x40
  | 11 => t = 0x42
  | 12 => t = 0x43
  | 13 => t = 0x44
  | _ => true

/-- Whether an opcode is allowed on the time strand alone. -/
def timeOnly (op : Nat) : Bool := op = 1 || op = 2 || op = 3 || op = 11

/-- The operand bits that no opcode use covers are clear, and the masks are not zero (R55). -/
def operandOk (op v : Nat) : Bool :=
  match op with
  | 0 | 11 => v = 0
  | 1 | 2 => v < 256 && v ≠ 0
  | 3 | 4 | 6 | 7 => v < 4096
  | 5 => v ≠ 0
  | 8 => v < 2 ^ 32 && bits v 15 12 = 0 && v / 65536 ≠ 0
  | 9 => v < 2 ^ 17 && bits v 15 8 ≠ 0 && !(bit v 16 && v % 256 ≠ 0)
  | 10 => v < 256
  | 12 => v < 65536
  | 13 => v < 2 ^ 32
  | _ => true

/-- A port record by index, with its ENTRY. -/
def portRec (ports : List (List Byte)) (i : Nat) : Option (Nat × List Byte) :=
  (numbered ports).find? fun x => fld x.2 0 2 = i

/-- Whether an index names a port with a direction. -/
def portDir (ports : List (List Byte)) (i dir : Nat) : Bool :=
  match portRec ports i with | some x => pDir x.2 = dir | none => false

/-- Whether the indices and masks of an operand name things that the parison declares. -/
def namesOk (p : Par) (op tgt v : Nat) : Bool :=
  match op with
  | 3 => portDir p.ports (v % 4096) 1
  | 4 => portDir p.ports (v % 4096) 0
  | 5 => (List.range 64).all fun k => !bit v k || (p.bufsOf (tgt - 0x20)).any fun r => fld r 1 1 = k
  | 6 | 7 | 8 => v % 4096 = 0xFFF || (portRec p.ports (v % 4096)).isSome
  | 10 => p.tasks.any fun t => t.task = v % 256
  | _ => true

/-- The size of the record that a capture action commits (R345). -/
def captureSize (p : Par) (op tgt : Nat) : Nat :=
  if op = 6 then
    (if (List.range 4).any fun k => fld (p.measRec (8 + k)) 0 1 = 1 &&
        fld (p.measRec (8 + k)) 1 1 = tgt - 0x28 then 80 else 48)
  else if op = 7 then 64 else 16

/-- Rules of record sections that concern one action: the ENTRY of the record concerned (R592). -/
def recordRule (p : Par) (a : Act) : Option Nat :=
  let i := a.opnd % 4096
  let cap := 6 ≤ a.op && a.op ≤ 8
  let off := fun n => fld (p.measRec n) 0 1 = 0
  if a.op = 6 && off (a.tgt - 0x28) then some (a.tgt - 0x28)
  else if a.op = 7 && off (12 + (a.tgt - 0x30)) then some (12 + (a.tgt - 0x30))
  else match portRec p.ports i with
    | none => none
    | some x =>
      if a.op = 4 && !pSnap x.2 then some x.1
      else if cap && i ≠ 0xFFF && (pSource x.2 ≠ 3 || pSize x.2 ≠ captureSize p a.op a.tgt) then
        some x.1
      else none

/-- The PUBLISH_PORT entries of a port with a cycle: which of them breaks R173. -/
def pubBad (cycle want : Nat) (es : List (Nat × Act)) : Option Nat :=
  let pairs := es.zip (es.drop 1)
  let odd := pairs.find? fun x => x.2.2.off ≠ x.1.2.off + cycle || x.2.2.rclass ≠ x.1.2.rclass
  match es[want]?, odd with
  | some x, some y => some (min x.1 y.2.1)
  | some x, none => some x.1
  | none, some y => some y.2.1
  | none, none => if es.length < want then es.getLast?.map (·.1) else none

/-- The rule of R173 on the PUBLISH_PORT entries of each publish port, against the entries. -/
def pubFails (p : Par) : List Fail :=
  (numbered p.ports).flatMap fun x =>
    let c := x.2
    let es := (numbered p.timeS).filter fun y => y.2.op = 3 && y.2.opnd % 4096 = fld c 0 2
    if pDir c ≠ 1 then []
    else if pCycle c = 0 then
      (match es with | y :: _ => [badAct 0x70 0 2 y.1 x.1] | [] => [])
    else if p.round % pCycle c ≠ 0 then []
    else match pubBad (pCycle c) (p.round / pCycle c) es with
      | some ix => [badAct 0x70 0 2 ix x.1]
      | none => []

/-- The domain that a list holds actions of. -/
def actDomainOk (l : Nat) (a : Act) : Bool :=
  a.domain = l && (a.tgt = 0xFF || targetDomain a.tgt = l)

/-- The failures of one entry of a list, with the entry before it. -/
def entryFails (p : Par) (st l rnd : Nat) (prev : Option Act) (ix : Nat) (a : Act) : List Fail :=
  let f := fun r => badAct r st l ix
  let ctl := p.canCtl.getD (a.tgt - 0x20) (zeros 64)
  failIf (a.op > 13 || (st = 1 && timeOnly a.op)) (f 0x10) ++
  failIf (!targetOk a.op a.tgt || (a.op = 5 && fld ctl 0 1 ≠ 1)) (f 0x11) ++
  failIf (!actDomainOk l a || a.strand ≠ st) (f 0x12) ++
  failIf (decide (rnd ≤ a.off)) (f 0x13) ++
  (match prev with
   | some q => failIf (a.off < q.off || (a.off = q.off && a.tgt < q.tgt))
       (badAct 0x14 st l ix (ix - 1))
   | none => []) ++
  failIf (!operandOk a.op a.opnd || !namesOk p a.op a.tgt a.opnd || (st = 0 && a.missRun)) (f 0x15) ++
  failIf (a.rclass ≠ 0 && (st = 1 || !p.reloc.any fun r => r.cls = a.rclass)) (f 0x50) ++
  (match recordRule p a with | some o => [badAct 0x70 st l ix o] | none => [])

/-- The failures of a list's entries. -/
def listFails (p : Par) (st l rnd : Nat) : Option Act → Nat → List Act → List Fail
  | _, _, [] => []
  | prev, ix, a :: rest =>
    entryFails p st l rnd prev ix a ++ listFails p st l rnd (some a) (ix + 1) rest

/-- Counts of a strand table against its length and the manifest (R58, R59, R60). -/
def countFails (b : List Byte) (st : Nat) : List Fail :=
  let sec := secOr b (2 + st)
  let c := actCounts st sec
  failIf ((imSec b (2 + st)).isSome && sec.length ≠ actBase st + 16 * c.sum) (bad 0x16 (2 + st) noEntry) ++
    threeLists.flatMap fun l =>
      failIf (c.getD l 0 ≠ fld (secOr b 1) (12 * st + 4 * l) 4) (badAct 0x16 st l noEntry)

/-- The limit of R69 on the actions held in a gaffer. -/
def gafCountFails (p : Par) : List Fail :=
  [0, 1].flatMap fun g =>
    let t := (p.acts 0 g).length + (p.acts 0 2).length
    let q := (p.acts 1 g).length + (p.acts 1 2).length
    failIf (t + q > 65536) (badAct 0x16 (if t > 65536 then 0 else 1) g noEntry)

/-- The rule of R67 on ESCROW_SEAL: with an escrow set exactly one, else none. -/
def sealFails (b : List Byte) : List Fail :=
  let seals := (numbered (imActs b 0 2)).filter fun x => x.2.op = 11
  let want := if (imSec b 0x0B).isSome then 1 else 0
  match seals[want]? with
  | some x => [badAct 0x33 0 2 x.1]
  | none => failIf (seals.length < want) (bad 0x33 0x0B noEntry)

/-- The parameters of the pace strand (R36, R60). -/
def paceOk (c : List Byte) : Bool :=
  let kind := fld c 0 1
  let n := fld c 3 1
  let src := (slice c 4 3).map (·.toNat)
  let used := src.take n
  let alt := fld c 7 1
  let rng := fun (on : Bool) (v lo hi : Nat) => if on then lo ≤ v && v ≤ hi else v = 0
  let line := kind = 1
  let axle := kind = 2
  let net := kind = 3
  1 ≤ kind && kind ≤ 3 && 1 ≤ fld c 1 1 && fld c 1 1 ≤ 64 && fld c 2 1 ≤ 4 &&
    (if line then n = 1 else if axle then n = 1 || n = 3 else n = 0) &&
    used.all (· < 8) && used.eraseDups.length = n && (src.drop n).all (· = 0xFF) &&
    (alt = 0xFF || (line && alt < 8 && inputDomain alt ≠ inputDomain (src.headD 0))) &&
    rng line (fld c 8 4) 14000 65000 && rng line (fld c 12 1) 1 50 && rng net (fld c 13 1) 0 1 &&
    rng axle (fld c 14 2) 1 1024 && rng (line || axle) (fld c 16 2) 0 1000 &&
    rng axle (fld c 18 2) 100 10000 && rng line (fld c 20 4) 14000 65000 &&
    rng axle (fld c 24 2) 0 10000 && rng axle (fld c 26 1) 0 1 &&
    rng net (fld c 28 4) 1000 1000000

/-! ### Step 4, section records -/

/-- Whether keys rise strictly: the indices at which they do not, counted from `i`. -/
def notRising : Nat → Option Nat → List Nat → List Nat
  | _, _, [] => []
  | i, prev, k :: l =>
    (match prev with | some q => if k ≤ q then [i] else [] | none => []) ++
      notRising (i + 1) (some k) l

/-- SEC_RECORD failures at entries. -/
def secAt (sect base : Nat) (l : List Nat) : List Fail := l.map fun i => bad 0x70 sect (base + i)

/-- SEC_RECORD where a record breaks a rule. -/
def secRecs (sect base : Nat) (f : List Byte → Bool) (l : List (List Byte)) : List Fail :=
  (numbered l).flatMap fun x => failIf (f x.2) (bad 0x70 sect (base + x.1))

/-- A pair of records of one section that collide: the later is reported, with the earlier. -/
def clashes (sect base : Nat) (f : List Byte → List Byte → Bool) (l : List (List Byte)) : List Fail :=
  (numbered l).flatMap fun y =>
    match (numbered (l.take y.1)).find? fun x => f x.2 y.2 with
    | some x => [bad 0x70 sect (base + y.1) (base + x.1)]
    | none => []

/-- The relocation table (R61). -/
def relocFails (b : List Byte) : List Fail :=
  let cs := (imReloc b).map (·.cls)
  failIf ((secOr b 4).length % 16 ≠ 0) (bad 0x70 4 noEntry) ++ secAt 4 0 (notRising 0 none cs) ++
    secRecs 4 0 (fun r => fld r 0 1 = 0 || fld r 0 1 > 15) (recs 16 (secOr b 4))

/-- The index of the first preload entry that placement alone fails at (R139). -/
def unplaced : Nat → Tab Nat → List Nat → Option Nat
  | _, _, [] => none
  | i, slots, e :: l =>
    match placeEntry (fun _ => false) slots (entryBody e + 2 ^ 126) with
    | some t => unplaced (i + 1) t l
    | none => some i

/-- The ledger preload (R133, R139, R143, R144). -/
def ledgerFails (b : List Byte) : List Fail :=
  match imSec b 5 with
  | none => []
  | some s =>
    let np := fld s 0x40 2
    let es := imLedger b
    let types := ((recs 2 (slice s 0x20 30)).map fun t => fld t 0 2).filter (· ≠ 0)
    let bound := fun i => match portRec (imPorts b) i with
      | some x => pDir x.2 = 0 && pSource x.2 = 0
      | none => false
    failIf (s.length ≠ 0x50 + 16 * (np + fld s 0x44 4) || np > 512 ||
      (s.take 25).any (fun x => x.toNat > 31) || types.any (· ≤ 0x5FF) ||
      types.eraseDups.length ≠ types.length) (bad 0x70 5 noEntry) ++
    secRecs 5 0 (fun r => fld r 0 4 > 10000000 || fld r 4 4 < 1518 || fld r 4 4 > 1048576 ||
      fld r 8 1 > 1) (imPolicers b) ++
    secRecs 5 np (fun r =>
      let e := ofLe r
      entryGen e ≠ 0 || (bit e 125 && bits e 100 85 ≠ 0) || (!bit e 24 && bits e 23 12 ≠ 0) ||
        (!bit e 11 && bits e 10 2 ≠ 0) || (bit e 11 && bits e 10 2 ≥ np) ||
        (bit e 24 && !bound (bits e 23 12))) es ++
    clashes 5 np (fun x y => entryKey (ofLe x) = entryKey (ofLe y)) es ++
    (match unplaced 0 [] (es.map ofLe) with | some i => [bad 0x70 5 (np + i)] | none => [])

/-- Whether a port record's own fields are in range and used (R170 to R173). -/
def portOk (ports : List (List Byte)) (rnd : Nat) (c : List Byte) : Bool :=
  let pub := pDir c = 1
  let src := pSource c
  let net := !pub && src = 0
  let fl := pFlags c
  fld c 0 2 < 4096 && pDir c < 2 && src < 7 &&
    (if pub then src ≠ 0 else src = 0 || (3 ≤ src && src ≤ 5)) &&
    (pub || net || pComId c = 0) && 1 ≤ pSize c && pSize c ≤ 1432 &&
    (if pub then bits fl 6 3 = 0 && !pSnap c else !pTagged c) &&
    (if src = 6 then (match portRec ports (pLink c) with | some x => pSource x.2 ≠ 6 | none => false)
     else pLink c = 0) &&
    (if pub && pTagged c then !bit (pTci c) 12 else pTci c = 0) &&
    (pub || net || pIp c = 0) && (pub || zeroAt c 28 6) && (pub || fld c 36 4 = 0) &&
    (pub || fld c 40 2 = 0) &&
    (pub || pLimit c = 0 || pCycle c ≤ pLimit c * 1000) &&
    !(pQpos c && (pSize c = 1 || src = 3)) &&
    (!pub || pCycle c = 0 || rnd % pCycle c = 0)

/-- Whether a publish port with a cycle has no PUBLISH_PORT entry at all, so that the record itself
breaks R173. -/
def unpublished (timeS : List Act) (c : List Byte) : Bool :=
  pDir c = 1 && pCycle c ≠ 0 && !timeS.any fun a => a.op = 3 && a.opnd % 4096 = fld c 0 2

/-- The traffic store window of an image. -/
def imStore (b : List Byte) : Option (List Byte) := (imWindows b).find? fun w => wSpace w = 1

/-- Whether a map record breaks a rule of R201 or R469 by itself. -/
def mapBad (b : List Byte) (m : List Byte) : Bool :=
  let k := mKind m
  let can := k ≤ 2
  let inbound := k = 2 || k = 4
  let declared := match k with
    | 1 => (imBufs b).any fun r => fld r 0 1 = mUnit m && fld r 1 1 = mIndex m
    | 2 => (imFilters b).any fun r => fld r 0 1 = mUnit m && fld r 1 1 = mIndex m
    | _ => match imStore b with | some w => mIndex m < wPages w | none => false
  let room := if can then 64 else match imStore b with | some w => wPage w | none => 0
  k = 0 || k > 4 || (if can then mUnit m > 7 else mUnit m ≠ 0) || !declared ||
    mLen m = 0 || mLen m > room || (inbound && mQmask m ≠ 0) ||
    (match portRec (imPorts b) (mPort m) with
     | some x => mOff m + mLen m > pSize x.2 || (k = 2 && pSource x.2 ≠ 4) || (k = 4 && pSource x.2 ≠ 5)
     | none => true)

/-- Whether two map records collide (R201, R469). -/
def mapClash (x y : List Byte) : Bool :=
  let inn := fun m => mKind m = 2 || mKind m = 4
  let page := fun m => mKind m = 3 || mKind m = 4
  (inn x && inn y && mPort x = mPort y && mOff x < mOff y + mLen y && mOff y < mOff x + mLen x) ||
    (mKind x = 1 && mKind y = 1 && mUnit x = mUnit y && mIndex x = mIndex y) ||
    (page x && page y && mIndex x = mIndex y)

/-- The port table (R169 to R173, R201). -/
def portFails (b : List Byte) : List Fail :=
  match imSec b 6 with
  | none => []
  | some s =>
    let n := fld s 0 2
    let ps := imPorts b
    failIf (s.length ≠ 16 + 48 * n + 16 * fld s 2 2 || fld s 2 2 > 1024) (bad 0x70 6 noEntry) ++
    secAt 6 0 (notRising 0 none (ps.map fun r => fld r 0 2)) ++
    secRecs 6 0 (fun c => !portOk ps (imRound b) c || unpublished (imActs b 0 2) c) ps ++
    secRecs 6 n (mapBad b) (imMaps b) ++ clashes 6 n mapClash (imMaps b)

/-- Whether a controller record is in range (R270, R271). -/
def ctlOk (c : List Byte) : Bool :=
  let fd := bit (fld c 1 1) 0
  let tdc := bit (fld c 1 1) 1
  let nq := fld c 4 2 * (1 + fld c 6 2 + fld c 8 1)
  let dq := fld c 10 1 * (1 + fld c 11 1 + fld c 12 1)
  if fld c 0 1 = 0 then allZero c
  else
    fld c 0 1 ≤ 2 && fld c 2 1 ≤ 1 && 1 ≤ fld c 4 2 && fld c 4 2 ≤ 256 && 2 ≤ fld c 6 2 &&
      fld c 6 2 ≤ 256 && 1 ≤ fld c 8 1 && fld c 8 1 ≤ 128 && 1 ≤ fld c 9 1 && fld c 9 1 ≤ fld c 8 1 &&
      (if fd then 1 ≤ fld c 10 1 && fld c 10 1 ≤ 32 && 1 ≤ fld c 11 1 && fld c 11 1 ≤ 32 &&
          1 ≤ fld c 12 1 && fld c 12 1 ≤ 16 && 1 ≤ fld c 13 1 && fld c 13 1 ≤ fld c 12 1 &&
          10 ≤ dq && dq ≤ nq
        else zeroAt c 10 4) &&
      fld c 14 1 ≤ 127 && (tdc || fld c 14 1 = 0) && 80 ≤ nq

/-- Whether a buffer record is in range and meets R275. -/
def bufOk (ctls maps : List (List Byte)) (r : List Byte) : Bool :=
  let ctl := ctls.getD (fld r 0 1) (zeros 64)
  let fl := fld r 3 1
  let fdf := bit fl 1
  let src := fld r 2 1
  let len := dlcLen (fld r 8 1)
  let mine := maps.filter fun m => mKind m = 1 && mUnit m = fld r 0 1 && mIndex m = fld r 1 1
  let mlen := match mine with | m :: _ => mLen m | [] => 0
  let data := slice r 16 64
  fld r 0 1 ≤ 7 && fld r 1 1 ≤ 63 && src ≤ 2 && (bit fl 0 || fld r 4 4 < 2048) &&
    fld r 8 1 ≤ (if fdf then 15 else 8) && fld ctl 0 1 = 1 && (!fdf || bit (fld ctl 1 1) 0) &&
    (!bit fl 2 || fdf) && !(bit fl 3 && fdf) && (src ≠ 1 || mine.length = 1) && mlen ≤ len &&
    allZero (data.drop len) && (src ≠ 1 || allZero (data.take mlen)) && (src ≠ 2 || allZero data)

/-- Whether a filter record is in range and meets R286. -/
def filOk (ctls maps : List (List Byte)) (r : List Byte) : Bool :=
  fld r 0 1 ≤ 7 && fld r 1 1 ≤ 127 && fld r 2 1 ≤ 2 &&
    fld (ctls.getD (fld r 0 1) (zeros 64)) 0 1 ≠ 0 &&
    (fld r 2 1 ≠ 2 || maps.any fun m => mKind m = 2 && mUnit m = fld r 0 1 && mIndex m = fld r 1 1)

/-- The CAN set-up (R269 to R275, R286). -/
def canFails (b : List Byte) : List Fail :=
  match imSec b 7 with
  | none => []
  | some s =>
    let nb := fld s 0 2
    let nf := fld s 2 2
    let key := fun (r : List Byte) => fld r 0 1 * 256 + fld r 1 1
    failIf (s.length ≠ 0x210 + 80 * nb + 16 * nf || nb > 512 || nf > 1024) (bad 0x70 7 noEntry) ++
    secRecs 7 0 (fun c => !ctlOk c) (imCtls b) ++
    secAt 7 8 (notRising 0 none ((imBufs b).map key)) ++
    secRecs 7 8 (fun r => !bufOk (imCtls b) (imMaps b) r) (imBufs b) ++
    secAt 7 (8 + nb) (notRising 0 none ((imFilters b).map key)) ++
    secRecs 7 (8 + nb) (fun r => !filOk (imCtls b) (imMaps b) r) (imFilters b)

/-- Whether a window record is in range and meets the rules of R450 and R451 on itself. -/
def windowOk (ctls : List (List Byte)) (flbHost : Bool) (w : List Byte) : Bool :=
  let inn := wDir w = 0
  let ts := inn && wSpace w = 1
  let can := inn && wSpace w = 2
  let pow := (List.range 12).any fun k => wSize w = 4096 * 2 ^ k
  let ctl := ctls.getD (fld w 13 1) (zeros 64)
  wIndex w < 16 && wDir w < 2 && wLanes w < 3 && fld w 3 1 < 2 && pow && wBase w % wSize w = 0 &&
    wBase w + wSize w ≤ 2 ^ 24 && (ts || can || (!inn && wSpace w = 0)) &&
    (if can then fld w 13 1 < 8 && fld w 14 1 < 2 && wLanes w = 2 && wSide w && 8192 ≤ wSize w &&
        fld ctl 0 1 ≠ 0 && bit (fld ctl 3 1) (2 + fld w 14 1)
      else fld w 13 2 = 0) &&
    (if ts then fld w 15 1 < 4 && 1 ≤ wPages w && wPages w ≤ 1024 && 1 ≤ fld w 18 2 &&
        fld w 18 2 ≤ 8000 && wLanes w = 0 && !wSide w && 0x800 + 2 * wPages w * wPage w ≤ wSize w
      else zeroAt w 15 5) &&
    (if inn then fld w 20 2 = 0 else 1 ≤ fld w 20 2 && fld w 20 2 ≤ 1000 && wSide w) &&
    !(inn && flbHost && wBase w < wBase hostBlock + wSize hostBlock && wBase hostBlock < wBase w + wSize w)

/-- Whether two windows collide (R451). -/
def windowClash (x y : List Byte) : Bool :=
  (wBase x < wBase y + wSize y && wBase y < wBase x + wSize x) ||
    (wSpace x = 1 && wSpace y = 1) ||
    (wSpace x = 2 && wSpace y = 2 && slice x 13 2 = slice y 13 2)

/-- The bridge windows (R449 to R451). -/
def windowFails (b : List Byte) (flbHost : Bool) : List Fail :=
  match imSec b 8 with
  | none => []
  | some s =>
    let n := fld s 0 1
    let ws := imWindows b
    failIf (s.length ≠ 16 + 32 * n || n = 0 || n > 16) (bad 0x70 8 noEntry) ++
    secAt 8 0 (notRising 0 none (ws.map wIndex)) ++
    secRecs 8 0 (fun w => !windowOk (imCtls b) flbHost w) ws ++ clashes 8 0 windowClash ws

/-- The triad task table (R65). -/
def taskFails (b : List Byte) : List Fail :=
  let ts := imTasks b
  failIf ((secOr b 9).length % 16 ≠ 0) (bad 0x70 9 noEntry) ++
    secAt 9 0 (notRising 0 none (ts.map (·.task))) ++
    (numbered ts).flatMap fun x =>
      failIf (5 * x.2.wcet + 12 > 3 * x.2.deadline) (bad 0x32 9 x.1) ++
        failIf (x.2.entry % 4 ≠ 0 || x.2.entry ≥ imCodeLen b) (bad 0x70 9 x.1)

/-- The KX32 code section (R66). -/
def codeFails (b : List Byte) : List Fail :=
  match imSec b 0x0A with
  | none => []
  | some s => failIf (s.length < 16 || imCodeLen b % 4 ≠ 0 || imCodeLen b > 262144 ||
      imDataLen b > 262144 || s.length ≠ 16 + imCodeLen b + imDataLen b) (bad 0x70 0x0A noEntry)

/-- Whether an escrow record is well formed (R67). -/
def escrowOk (ports : List (List Byte)) (e : EscRec) : Bool :=
  match e.space with
  | 1 => (portRec ports e.loc).isSome && e.len = 0
  | 2 => e.loc % 8 = 0 && e.len % 8 = 0 && e.loc + e.len ≤ 262144
  | 3 => e.loc = 0 && e.len = 0
  | _ => false

/-- The escrow set (R67). -/
def escrowFails (b : List Byte) : List Fail :=
  let es := imEscrow b
  failIf ((secOr b 0x0B).length % 16 ≠ 0) (bad 0x70 0x0B noEntry) ++
    failIf (es.length > 1024) (bad 0x33 0x0B noEntry) ++
    (numbered es).flatMap fun x => failIf (!escrowOk (imPorts b) x.2) (bad 0x70 0x0B x.1)

/-- The slack declarations (R63). -/
def slackRecFails (b : List Byte) : List Fail :=
  let l := imSlack b
  failIf ((secOr b 0x0C).length % 16 ≠ 0) (bad 0x70 0x0C noEntry) ++
    failIf (l.length > 256) (bad 0x16 0x0C noEntry) ++
    (numbered l).flatMap fun x =>
      failIf (x.2.kind = 0 || x.2.kind > 3 ||
        (if x.2.kind = 1 then x.2.gaf > 1 else x.2.gaf ≠ 0xFF) || x.2.start + x.2.len > imRound b)
        (bad 0x70 0x0C x.1)

/-- Whether a channel record is in range (R327, R331). -/
def chanOk (clk : Nat) (r : List Byte) : Bool :=
  fld r 0 1 ≤ 2 && fld r 1 1 ≤ 3 &&
    (fld r 0 1 = 0 || (clk ≠ 0 && 1 ≤ fld r 4 4 && fld r 4 4 ≤ 2000000000))

/-- Whether a pair record is in range (R328, R331). -/
def pairOk (ms : List (List Byte)) (r : List Byte) : Bool :=
  let v := fld r 1 1
  let i := fld r 2 1
  let ch := fun n => ms.getD n (zeros 16)
  if fld r 0 1 = 0 then allZero r
  else fld r 0 1 = 1 && v ≤ 7 && i ≤ 7 && fld r 4 4 ≤ 1000000 && fld (ch v) 0 1 = 1 &&
    fld (ch i) 0 1 = 2 && inputDomain v = inputDomain i && fld (ch v) 1 1 = fld (ch i) 1 1

/-- Whether two pairs share a channel. -/
def pairClash (x y : List Byte) : Bool :=
  fld x 0 1 = 1 && fld y 0 1 = 1 &&
    (fld x 1 1 = fld y 1 1 || fld x 1 1 = fld y 2 1 || fld x 2 1 = fld y 1 1 || fld x 2 1 = fld y 2 1)

/-- Whether a tachometer record is in range (R329). -/
def tachOk (r : List Byte) : Bool :=
  fld r 0 1 = 0 || (fld r 0 1 = 1 && 1 ≤ fld r 2 2 && fld r 2 2 ≤ 1024 && 500000 ≤ fld r 4 4 &&
    fld r 4 4 ≤ 1500000 && 1 ≤ fld r 8 2 && fld r 8 2 ≤ 1000 && 100 ≤ fld r 10 2 && fld r 10 2 ≤ 10000)

/-- The pace sources against the units that feed them (R331). -/
def paceSrcFails (b : List Byte) : List Fail :=
  let c := imPace b
  let ms := imMeas b
  let used := ((slice c 4 3).map (·.toNat)).filter (· < 8)
  if fld c 0 1 = 1 then
    (used ++ (if fld c 7 1 < 8 then [fld c 7 1] else [])).flatMap fun n =>
      failIf (fld (ms.getD n []) 0 1 ≠ 1) (bad 0x70 0x0D n)
  else if fld c 0 1 = 2 then
    used.flatMap fun n =>
      let r := ms.getD (12 + n) []
      failIf (fld r 0 1 ≠ 1 || fld r 2 2 ≠ fld c 14 2 || bnat (bit (fld r 1 1) 1) ≠ fld c 26 1)
        (bad 0x70 0x0D (12 + n))
  else []

/-- The measurement set-up (R326 to R331). -/
def measFails (b : List Byte) : List Fail :=
  let ms := imMeas b
  let clk := fld (secOr b 0x0D) 0 1
  failIf ((imSec b 0x0D).isSome && ((secOr b 0x0D).length ≠ 352 || clk > 2)) (bad 0x70 0x0D noEntry) ++
    secRecs 0x0D 0 (fun r => !chanOk clk r) (ms.take 8) ++
    secRecs 0x0D 8 (fun r => !pairOk ms r) (slice2 ms 8 4) ++
    clashes 0x0D 8 pairClash (slice2 ms 8 4) ++
    secRecs 0x0D 12 (fun r => !tachOk r) (slice2 ms 12 8) ++ paceSrcFails b
where
  /-- `n` elements from `o` on. -/
  slice2 (l : List (List Byte)) (o n : Nat) : List (List Byte) := (l.drop o).take n

/-- The pace round of an image in units; 0 with no pace strand. -/
def imPaceRound (b : List Byte) : Nat := paceRound (imPace b)

/-- The failures of step 4 after the reserved fields. -/
def step4 (b : List Byte) (flbHost : Bool) : List Fail :=
  let p := parOf b 0
  failIf ((secOr b 1).length ≠ 448) (bad 0x70 1 noEntry) ++
    countFails b 0 ++ countFails b 1 ++ gafCountFails p ++
    (threeLists.flatMap fun l => listFails p 0 l (imRound b) none 0 (p.acts 0 l)) ++
    failIf ((imSec b 3).isSome && (secOr b 3).length < 64) (bad 0x70 3 noEntry) ++
    failIf ((imSec b 3).isSome && !paceOk (imPace b)) (bad 0x60 3 noEntry) ++
    (threeLists.flatMap fun l => listFails p 1 l (imPaceRound b) none 0 (p.acts 1 l)) ++
    sealFails b ++ pubFails p ++ relocFails b ++ ledgerFails b ++ portFails b ++ canFails b ++
    windowFails b flbHost ++ taskFails b ++ codeFails b ++ escrowFails b ++ slackRecFails b ++
    measFails b

/-! ### Step 5: relocation range, issue limits, totals, slack -/

/-- The positions below MAX_NODES. -/
def Par.positions (p : Par) : List Nat := List.range p.maxNodes

/-- REL_RANGE (R62). -/
def relRangeFails (p : Par) : List Fail :=
  threeLists.flatMap fun l => (numbered (p.acts 0 l)).flatMap fun x => p.positions.flatMap fun pos =>
    failIf (decide (p.round ≤ p.eff pos x.2)) (badAct 0x51 0 l x.1 noEntry pos)

/-- An action among those one gaffer carries: list, entry, offset, target. -/
structure Item where
  l : Nat
  ix : Nat
  off : Nat
  tgt : Nat
deriving DecidableEq, Repr

/-- The actions of a strand that a gaffer carries: its own list, then the spine list. -/
def Par.carried (p : Par) (st g : Nat) (off : Act → Nat) : List Item :=
  [g, 2].flatMap fun l => (numbered (p.acts st l)).map fun x => ⟨l, x.1, off x.2, x.2.tgt⟩

/-- More than `cap` actions in one clock or at one offset, of a gaffer `g`; `spine` is the gaffer that
issues the spine list (R71, R76). -/
def crowdFails (st g spine cap pos : Nat) (xs : List Item) : List Fail :=
  let own := xs.filter fun x => x.l ≠ 2
  let at_ := fun r (ys : List Item) =>
    match ys[cap]?, ys.head? with
    | some x, some y => [badAct r st x.l x.ix y.ix pos]
    | _, _ => []
  if xs.length ≤ cap then []
  else if g = spine then at_ 0x20 xs
  else if own.length > cap then at_ 0x20 own
  else if xs.length - own.length > cap then []
  else at_ 0x22 xs

/-- Two actions on one target too close on a gaffer: reported for the later entry (R71, R76, R231). -/
def nearFail (st g spine pos : Nat) (x y : Item) : List Fail :=
  let late := if x.l < y.l || (x.l = y.l && x.ix < y.ix) then y else x
  let early := if late = y then x else y
  let sp := bnat (x.l = 2) + bnat (y.l = 2)
  if g = spine || sp = 0 then [badAct 0x21 st late.l late.ix early.ix pos]
  else if sp = 1 then [badAct 0x22 st late.l late.ix early.ix pos]
  else []

/-- Issue limits of the time strand (R71, R231). -/
def timeLimitFails (p : Par) : List Fail :=
  [0, 1].flatMap fun g => p.positions.flatMap fun pos =>
    let xs := p.carried 0 g (p.eff pos)
    let crowd := xs.flatMap fun x =>
      crowdFails 0 g p.spineGaf (4 - paceShare p.pace) pos (xs.filter fun y => y.off / 2 = x.off / 2)
    let near := (numbered xs).flatMap fun x => (xs.drop (x.1 + 1)).flatMap fun y =>
      if x.2.tgt = y.tgt && x.2.tgt ≠ 0xFF && x.2.off < y.off + 8 && y.off < x.2.off + 8 then
        nearFail 0 g p.spineGaf pos x.2 y else []
    let across := xs.flatMap fun x => p.positions.flatMap fun pos' =>
      (p.carried 0 g (p.eff pos')).flatMap fun y =>
        if x.tgt = y.tgt && x.tgt ≠ 0xFF && p.round + y.off < x.off + 8 then
          nearFail 0 g p.spineGaf pos' x y else []
    crowd ++ near ++ across

/-- Issue limits of the pace strand (R71). -/
def paceLimitFails (p : Par) : List Fail :=
  [0, 1].flatMap fun g =>
    let xs := p.carried 1 g (·.off)
    let crowd := xs.flatMap fun x =>
      crowdFails 1 g p.spineGaf (paceShare p.pace) 0xFF (xs.filter fun y => y.off = x.off)
    let near := (numbered xs).flatMap fun x => (xs.drop (x.1 + 1)).flatMap fun y =>
      if x.2.tgt = y.tgt && x.2.tgt ≠ 0xFF && x.2.off = y.off then
        nearFail 1 g p.spineGaf 0xFF x.2 y else []
    crowd ++ near

/-- The bytes of a port's slots and copies (R174). -/
def portBytes (c : List Byte) : Nat :=
  ceilMul (32 + pSize c) 32 * (if pSnap c then 5 else 3)

/-- The size of the epoch body (R400, R401). -/
def escrowBytes (p : Par) : Nat :=
  (p.escrow.map fun e =>
    if e.space = 1 then
      32 + ceilMul (match portRec p.ports e.loc with | some x => pSize x.2 | none => 0) 8
    else if e.space = 2 then e.len else 8).sum

/-- Manifest totals (R58, R401). -/
def totalFails (p : Par) : List Fail :=
  let m := p.manifest
  let f := fun r => bad r 1 noEntry
  let use := fld m 0x28 4
  failIf (fld m 0x18 4 > 6144 || fld m 0x1C 4 > 8192 || fld m 0x20 4 > 16384 || fld m 0x24 2 > 4096 ||
    fld m 0x26 2 > 256) (f 0x30) ++
  failIf (fld m 0x1C 4 ≠ ceilDiv (p.ports.map portBytes).sum 1024 || fld m 0x20 4 ≠ p.ledger.length ||
    fld m 0x24 2 ≠ p.ports.length || fld m 0x26 2 ≠ p.tasks.length || use ≠ escrowBytes p) (f 0x31) ++
  failIf (use > 524208 || (use + 80) * 1000 > 1100 * (p.round - 20000)) (f 0x33)

/-- The least length of a slack window by kind (R64). -/
def slackMin (k : Nat) : Nat := if k = 1 then 500 else if k = 2 then 1000 else 48000

/-- Whether an interval that begins at offset `o` and lasts `d` overlaps a window of this or a later
round of `l` ns. -/
def overlaps (o d start len l : Nat) : Bool :=
  (List.range (d / (max 1 l) + 2)).any fun k => o < start + len + k * l && start + k * l < o + d

/-- The offending actions of a slack window: index and position. -/
def slackHits (p : Par) (w : Slack) : List (Nat × Nat) :=
  let lists := if w.kind = 1 then [w.gaf, 2] else [2]
  p.positions.flatMap fun pos => lists.flatMap fun l =>
    (numbered (p.acts 0 l)).filterMap fun x =>
      let o := p.eff pos x.2
      let hit := if w.kind < 3 then w.start ≤ o && o < w.start + w.len
        else x.2.op = 10 && (match p.tasks.find? fun t => t.task = x.2.opnd % 256 with
          | some t => overlaps o t.deadline w.start w.len p.round
          | none => false)
      if hit then some (x.1, pos) else none

/-- Placing a window before the first one that starts later. -/
def sortWin (w : Slack) : List Slack → List Slack
  | [] => [w]
  | x :: l => if w.start < x.start then w :: x :: l else x :: sortWin w l

/-- Length of the union of windows, sorted by start, beyond offset `e`. -/
def unionLen : Nat → List Slack → Nat
  | _, [] => 0
  | e, w :: l => (w.start + w.len - max e w.start) + unionLen (max e (w.start + w.len)) l

/-- Slack windows (R64). -/
def slackFails (p : Par) : List Fail :=
  let each := (numbered p.slack).flatMap fun x =>
    let r := 0x3F + x.2.kind
    failIf (x.2.len < slackMin x.2.kind) (bad r 0x0C x.1) ++
      (match slackHits p x.2 with
       | h :: _ => [bad r 0x0C x.1 h.1 h.2]
       | [] => [])
  let share := fun (k g pct : Nat) =>
    let ws := (p.slack.filter fun w => w.kind = k && (k ≠ 1 || w.gaf = g)).foldl
      (fun acc w => sortWin w acc) []
    failIf (unionLen 0 ws * 100 < pct * p.round) (bad (0x3F + k) 0x0C noEntry)
  each ++ share 1 0 4 ++ share 1 1 4 ++ share 2 0 5 ++
    failIf (!p.codeHash.isEmpty && !p.slack.any fun w => w.kind = 3) (bad 0x42 0x0C noEntry)

/-! ### The checks in order (R74) -/

/-- The first failure of a list of checks taken in order. -/
def firstOf : List (List Fail) → Option Fail
  | [] => none
  | c :: l => match firstFail c with | some f => some f | none => firstOf l

/-- What the checks of steps 1 to 5 answer: a status and the reason with its detail. -/
inductive Checked where
  | passed
  | denied
  | contract (f : Fail)
deriving DecidableEq, Repr

/-- Steps 1 to 5 of R74 on an image. -/
def State.check (s : State) (b : List Byte) : Checked :=
  match step1 s.sys.behav.toNat b with
  | some f => .contract f
  | none =>
    if !s.sigOk b then .denied
    else
      let p := parOf b 0
      match firstOf [step3 b, rsvFails b, step4 b (s.sys.hostsel = 2), relRangeFails p,
          timeLimitFails p ++ paceLimitFails p, totalFails p, slackFails p] with
      | some f => .contract f
      | none => .passed

/-! ### Step 6: coexistence (R77) -/

/-- Actions a gaffer holds of a parison. -/
def Par.held (p : Par) (g : Nat) : Nat :=
  ([0, 1].flatMap fun st => [g, 2].map fun l => (p.acts st l).length).sum

/-- The generation that a commit places its preload in. -/
def Ledger.pending (l : Ledger) : Nat := 1 - l.live

/-- The ledger slots after a commit places the preload beside the parison in force (R137); none where
placement fails. -/
def State.ledgerBeside (s : State) (p : Par) : Option (Tab Nat) :=
  let g := s.fab.ledger.pending
  let live := if s.par.force.isSome then some s.fab.ledger.live else none
  placeAll g live p.entries (clearGen g s.fab.ledger.slots)

/-- Ledger entries in the union of two preloads. -/
def unionEntries (p q : Par) : Nat :=
  q.entries.length + (p.entries.filter fun e => !q.entries.contains e).length

/-- Whether a parison fits beside the one in force (R77, R139). -/
def State.fits (s : State) (p : Par) : Bool :=
  (match s.par.force with
   | none => true
   | some q =>
     [0, 1].all (fun g => p.held g + q.held g ≤ 65536) && unionEntries p q ≤ 16384 &&
       fld p.manifest 0x1C 4 + fld q.manifest 0x1C 4 ≤ 8192 &&
       (p.codeHash = q.codeHash || (p.imgI.length + q.imgI.length ≤ 262144 &&
         p.imgD.length + q.imgD.length ≤ 262144))) && (s.ledgerBeside p).isSome

end Sys2Proof.Machine
end

