-- ==== Sys2Proof/Machine/Parison.lean ====
section
/-! DEFINITION. The parison commands and activation (chapter 2, R520): staging, commit, activation
warm and cold, one-off actions; with the boot control block (R543) and the flash regions. -/

namespace Sys2Proof.Machine

/-! ### Flash regions (R542) -/

/-- The image in a flash region. -/
def State.regionImage (s : State) (r : Nat) : List Byte := Tab.get [] s.flash.pr r

/-- The regions that hold a role. -/
def State.roles (s : State) : List Nat :=
  (match s.par.force with | some p => [p.region] | none => []) ++
    (match s.par.committed with | some p => [p.region] | none => []) ++
    (match s.par.gap with | some g => [g.par.region] | none => []) ++
    (match s.defaultRegion with | some r => [r] | none => [])

/-- The region that staging writes to: the one it has, unless that holds a role (R542). -/
def State.stageRegion (s : State) : Nat :=
  if s.roles.contains s.par.stagedReg then
    ((List.range 4).find? fun r => !s.roles.contains r).getD s.par.stagedReg
  else s.par.stagedReg

/-! ### Staging (R73) -/

/-- The staged image becomes `b`. -/
def State.stage (s : State) (b : List Byte) : State :=
  let r := s.stageRegion
  { s with
    par := { s.par with staged := b, stagedReg := r }
    flash := { s.flash with pr := Tab.set [] s.flash.pr r b } }

/-- A chunk after what is staged: the new whole, where its offset and length allow it (R73). -/
def addChunk (have_ : List Byte) (o : Nat) (d : List Byte) (limit : Nat) : Option (List Byte) :=
  let all := if o = 0 then d else have_ ++ d
  if (o ≠ 0 && o ≠ have_.length) || all.length > limit then none else some all

/-- MB_PARISON_STAGE. -/
def cmdStage : Cmd :=
  { op := 0x0101
    shape := fun b => 5 ≤ b.length
    run := fun b s =>
      match addChunk s.par.staged (fld b 0 4) (b.drop 4) 0x2000000 with
      | none => refuse stMalformed s
      | some l => if s.flashHeld then refuse stBusy s else ans stOk [] (s.stage l) }

/-- MB_PARISON_STAGE from the host. -/
def execMbParisonStage (dt : Nat) (r : Req) (s : State) : Out := go ((s.elapse dt).submit cmdStage r)

/-! ### Commit (R74, R77, R78, R84) -/

/-- What a commit answers: status, reason code, response body, and the state it leaves. -/
structure Commit where
  status : Nat
  reason : Nat
  body : List Byte
  st : State

/-- The image passes: it becomes the committed parison. -/
def State.adopt (s : State) (p : Par) (cold : Bool) : State :=
  let g := s.fab.ledger.pending
  let slots := if cold then clearGen g s.fab.ledger.slots
    else (s.ledgerBeside p).getD (clearGen g s.fab.ledger.slots)
  let s := { s with
    par := { s.par with committed := some p, cold := cold }
    fab := { s.fab with ledger := { s.fab.ledger with slots := slots } } }
  ((s.commitTracker p.pace).measCommit p).setBoot 0x0A (le 1 p.region)

/-- The checks of R74 on an image in a region, and the commit where they pass. -/
def State.commit (s : State) (b : List Byte) (region : Nat) (cold : Bool) : Commit :=
  let p := parOf b region
  match s.check b with
  | .contract f => { status := stContract, reason := f.reason, body := f.record, st := s }
  | .denied => { status := stDenied, reason := 0, body := [], st := s }
  | .passed =>
    if !cold && !s.fits p then { status := stFull, reason := 0, body := [], st := s }
    else { status := stOk, reason := 0, body := p.hash, st := s.adopt p cold }

/-- A commit is counted and reported (R86, R87). -/
def Commit.report (c : Commit) (b : List Byte) : State :=
  let s := if c.status = stOk then c.st else c.st.count (tlStrand 14)
  s.note (ev 2 0) ((sha256 (b.take (imSig b))).take 8 ++ le 4 (fld b 0x14 4) ++ le 2 c.status ++
    le 2 c.reason)

/-- MB_PARISON_COMMIT. -/
def cmdCommit : Cmd :=
  { op := 0x0102
    shape := fun b => b.length = 4 && fld b 0 4 < 4
    run := fun b s =>
      if s.par.activ.isSome || s.par.gap.isSome || s.sys.defaultLoad then refuse stBusy s
      else
        let img := s.par.staged
        let c := s.commit img s.par.stagedReg (bit (fld b 0 4) 1)
        let s := c.report img
        let s := if c.status = stOk && bit (fld b 0 4) 0 then
            s.setBoot 0x0B (le 1 s.par.stagedReg) else s
        ans c.status c.body s }

/-- MB_PARISON_COMMIT from the host. -/
def execMbParisonCommit (dt : Nat) (r : Req) (s : State) : Out := go ((s.elapse dt).submit cmdCommit r)

/-! ### Activation times (R79 to R82) -/

/-- The rounds that T must be a whole multiple of, and the longer of them. -/
def State.roundsFor (s : State) (p : Par) : Nat × Nat :=
  match s.par.force with
  | some q => (Nat.lcm p.round q.round, max p.round q.round)
  | none => (p.round, p.round)

/-- The earliest instant that R79 accepts (R80). -/
def State.nextActivation (s : State) (p : Par) : Nat :=
  let r := s.roundsFor p
  ceilMul (s.net + 2 * r.2) r.1

/-- The answer that gives T. -/
def timeAns (t : Nat) (s : State) : Reply := ans stOk (secNs t ++ zeros 4) s

/-- MB_PARISON_ACTIVATE without CANCEL. -/
def State.activate (s : State) (next : Bool) (t : Nat) : Reply :=
  match s.par.committed with
  | none => refuse stDenied s
  | some p =>
    let r := s.roundsFor p
    let place := fun t => timeAns t { s with par := { s.par with activ := some { net := t } } }
    if s.time.state == .unusable then refuse stStale s
    else if s.par.activ.isSome then refuse stBusy s
    else if next then place (s.nextActivation p)
    else if t % r.1 ≠ 0 then refuse stMalformed s
    else if t < s.net + 2 * r.2 then refuse stLate (s.count (tlStrand 15))
    else place t

/-- The CANCEL option (R82). -/
def State.cancelActivation (s : State) : Reply :=
  match s.par.activ, s.par.committed with
  | some a, some p =>
    let l := (s.roundsFor p).2
    if a.net < s.net + l then refuse stLate (s.count (tlStrand 15))
    else timeAns a.net (({ s with par := { s.par with activ := none } }).note (ev 2 2)
      (p.hash.take 8 ++ secNs a.net))
  | _, _ => refuse stDenied s

/-- MB_PARISON_ACTIVATE. -/
def cmdActivate : Cmd :=
  { op := 0x0103
    shape := fun b => b.length = 24 && fld b 0 4 < 4 && zeroAt b 4 4 && zeroAt b 20 4 &&
      (!bit (fld b 0 4) 0 || zeroAt b 8 12)
    run := fun b s =>
      if bit (fld b 0 4) 1 then s.cancelActivation
      else if fld b 16 4 > 999999999 then refuse stMalformed s
      else s.activate (bit (fld b 0 4) 0) (timeAt b 8) }

/-- MB_PARISON_ACTIVATE from the host. -/
def execMbParisonActivate (dt : Nat) (r : Req) (s : State) : Out :=
  go ((s.elapse dt).submit cmdActivate r)

/-- PARISON_ACTIVATE_CANCEL: the request with its CANCEL bit set. -/
def execParisonActivateCancel (dt : Nat) (r : Req) (s : State) : Out :=
  go ((s.elapse dt).submit cmdActivate (withOp r (r.body.headD 0 ||| 2)))

/-! ### One-off actions (R43, R520) -/

/-- The position a node is bound to under a parison (R62, R234). -/
def State.posUnder (s : State) (p : Par) : Nat :=
  match s.inaug.numbered with
  | some n => if p.maxNodes < n.n then min n.p (p.maxNodes - 1) else n.p
  | none => 0

/-- Whether a RESYNC window of a parison overlaps the interval from `lo` to `hi` (R64, R520). -/
def Par.resyncHit (p : Par) (lo hi : Nat) : Bool :=
  let l := max 1 p.round
  decide (lo < hi) && p.slack.any fun w => w.kind = 3 &&
    (List.range ((hi - lo) / l + 3)).any fun k =>
      let o := lo / l * l + k * l - l + w.start
      decide (lo < o + w.len) && decide (o < hi)

/-- Whether a one-off action names a task it may not release (R520). -/
def State.taskBarred (s : State) (p : Par) (o : OneOff) : Bool :=
  if o.act.op ≠ 10 then false
  else match p.tasks.find? fun t => t.task = o.act.opnd % 256 with
    | none => true
    | some t =>
      let hi := o.net + t.deadline
      match s.par.activ, s.par.committed with
      | some a, some c =>
        (match s.par.force with
         | some f => f.resyncHit o.net (min hi a.net)
         | none => false) || c.resyncHit (max o.net a.net) hi
      | _, _ => p.resyncHit o.net hi

/-- Whether a one-off action finds its issue clock full or its target taken within 8 ns, among a
parison's own actions and other one-off actions (R520). -/
def State.crowded (s : State) (p : Par) (others : List OneOff) (o : OneOff) : Bool :=
  let l := max 1 p.round
  let pos := s.posUnder p
  let g := s.oneOffGaf o.act
  let at_ := o.net % l
  let here := (p.carried 0 g (p.eff pos)).filter fun x => x.off / 2 = at_ / 2
  let also := others.filter fun x => s.oneOffGaf x.act = g && x.net / 2 = o.net / 2
  let near := threeLists.any fun k => (p.acts 0 k).any fun a =>
    let d := (at_ + l - p.eff pos a % l) % l
    a.tgt = o.act.tgt && (d < 8 || l < d + 8)
  let nearOne := others.any fun x =>
    x.act.tgt = o.act.tgt && x.net < o.net + 8 && o.net < x.net + 8
  4 - paceShare p.pace ≤ here.length + also.length || (o.act.tgt ≠ 0xFF && (near || nearOne))

/-- Whether an entry is laid out as R520 asks. -/
def oneOffOk (a : Act) : Bool :=
  a.off = 0 && a.strand = 0 && !a.missRun && a.rclass = 0 && !a.window && a.flags % 128 = 0 &&
    a.op ≤ 13 && targetOk a.op a.tgt && operandOk a.op a.opnd &&
    (if a.tgt = 0xFF then a.domain < 3 else a.domain = targetDomain a.tgt)

/-- A request to place a one-off action. -/
def State.actAt (s : State) (o : OneOff) : Reply :=
  let use := match s.par.activ with
    | some a => if a.net ≤ o.net then s.par.committed else s.par.force
    | none => s.par.force
  let pending := s.oneOffsLeft
  if !oneOffOk o.act then refuse stMalformed s
  else match use with
    | none => refuse stDenied s
    | some p =>
      if !s.gaf.active then refuse stDenied s
      else if o.act.op ≠ 10 && !namesOk p o.act.op o.act.tgt o.act.opnd then refuse stMalformed s
      else if s.taskBarred p o then refuse stDenied s
      else if s.time.state == .unusable then refuse stStale s
      else if !s.live (s.oneOffGaf o.act) then refuse stAbsent s
      else if o.net < s.net + 20000 then refuse stLate (s.count (tlStrand 15))
      else if pending.length ≥ 16 || s.crowded p pending o then refuse stFull s
      else
        let l := (insertByPos (o.net, o.act) (pending.map fun x => (x.net, x.act))).map fun x =>
          (⟨x.1, x.2⟩ : OneOff)
        ans stOk [] { s with par := { s.par with oneOffs := l } }

/-- MB_ACT_AT. -/
def cmdActAt : Cmd :=
  { op := 0x0104
    shape := fun b => b.length = 32 && zeroAt b 12 4
    run := fun b s =>
      if fld b 8 4 > 999999999 then refuse stMalformed s
      else s.actAt { net := timeAt b 0, act := actOf (b.drop 16) } }

/-- MB_ACT_AT from the host. -/
def execMbActAt (dt : Nat) (r : Req) (s : State) : Out := go ((s.elapse dt).submit cmdActAt r)

/-- The pending one-off actions checked against the parison that is now in force; those that no longer
fit, and those before `from_`, are dropped and counted (R84, R520). -/
def State.recheckOneOffs (s : State) (p : Par) (from_ : Nat) : State :=
  let r := s.oneOffsLeft.foldl (fun (acc : List OneOff × Nat) o =>
    if o.net < from_ || s.taskBarred p o || s.crowded p acc.1 o then (acc.1, acc.2 + 1)
    else (acc.1 ++ [o], acc.2)) ([], 0)
  ({ s with par := { s.par with oneOffs := r.1 } }).countN (tlStrand 17) r.2

/-! ### Activation (R44, R83 to R85) -/

/-- The strands of the parison in force begin at `t`: the spine list with the gaffer it names if that
one's domain is present (R44, R83, R85, R432). -/
def State.beginStrands (s : State) (t : Nat) : State :=
  let want := match s.par.force with | some p => p.spineGaf | none => 0
  let g := if (s.live want && s.lehr.gafRetire ≠ some want) || !s.live (1 - want) then want
    else 1 - want
  let hold : SpineHold := { spineHold0 with gaf := g }
  let paused := match s.gaf.paused with | some b => if t < b then some b else none | none => none
  let s := { s with gaf := { s.gaf with
    active := true, startNet := t, paused := paused, issued := [], waiting := [], spineT := hold
    spineP := hold, paceFrom := [] } }
  s.activateTracker.paceStart

/-- A port's gates take a mask: those that close are closed as by CLOSE_GATE (R83, R158). -/
def State.gatesTo (s : State) (p m : Nat) : State :=
  (((s.closeGates p (255 - m % 256)).setGates p m).egress p)

/-- Every gate at an activation (R83, R154). -/
def State.initGates (s : State) (p : Par) : State :=
  (List.range 25).foldl (fun s q =>
    if !s.hasDom (portDomain q) then s.setGates q 0
    else s.gatesTo q (if q = 24 then 255 else fld p.manifest (64 + 16 * q) 1)) s

/-- The live generation flips; the old one's entries are cleared (R137). -/
def State.flipLedger (s : State) : State :=
  let l := s.fab.ledger
  { s with fab := { s.fab with
    ledger := { l with slots := clearGen l.live l.slots, live := l.pending } } }

/-- Buckets of unchanged policers keep their level (R146); the quotas take the new SCHED_BUF (R148);
maps that stand unchanged remember what they carried (R202). -/
def State.fabActivate (s : State) (old : Option Par) (p : Par) : State :=
  let was := match old with | some q => q.policers | none => []
  let mapsWas := match old with | some q => q.maps | none => []
  let portsWas := match old with | some q => q.ports | none => []
  let rec_ := fun (l : List (List Byte)) i => (portRec l i).map (·.2)
  let kept := (p.maps.filter fun m => mapsWas.contains m &&
    rec_ portsWas (mPort m) = rec_ p.ports (mPort m)).map mapKey
  { s with
    fab := { s.fab with
      buckets := s.fab.buckets.filter fun x => was[x.1]?.isSome && was[x.1]? = p.policers[x.1]?
      schedBuf := fld p.manifest 0x18 4 }
    pd := { s.pd with carried := s.pd.carried.filter fun x => kept.contains x.1 } }

/-- Every unit takes its definition from `p`, now in force in place of `old` (R83). -/
def State.unitsActivate (s : State) (old : Option Par) (p : Par) : State :=
  let was := match old with | some q => q.windows | none => []
  let s := (s.fabActivate old p).portsActivate p.ports
  ((((s.canActivate p).bridgeActivate was p.windows).triadActivate old p).measActivate old p)

/-- Flash roles, counter and report of an activation at `t`. -/
def State.activated (s : State) (p : Par) (t : Nat) (cold : Bool) : State :=
  let s := s.setBoot 0x09 (le 1 p.region ++ [0xFF])
  let s := if p.signed then s.raisePar p.rollback else s
  s.note (ev 2 1) (p.hash.take 8 ++ secNs t ++ le 1 (bnat cold))

/-- A warm activation at `t` (R83). -/
def State.activateWarm (s : State) (p : Par) (t : Nat) : State :=
  let old := s.par.force
  let s := s.spineCount
  let s := { s with par := { s.par with
    force := some p, committed := none, cold := false, activ := none } }
  let s := ((s.flipLedger.unitsActivate old p).beginStrands t).overUpdate
  let s := (s.initGates p).recheckOneOffs p 0
  (s.pairBegin).activated p t false

/-- A cold activation begins at `t`: every action stops, all gates close, the triad halts; one-off
actions that cannot outlast the gap are dropped (R84). -/
def State.activateCold (s : State) (p : Par) (t : Nat) : State :=
  let s := s.spineCount.closeAll.triadHalt
  let old := s.windows
  let s := { s with
    gaf := { s.gaf with active := false, waiting := [], paused := none }, pace := pace0
    fab := { s.fab with ledger := { s.fab.ledger with slots := [], bad := [] } }
    par := { s.par with
      force := none, committed := none, cold := false, activ := none
      gap := some { net := t, par := p, start := none } } }
  let gone := s.oneOffsLeft.filter fun o => o.net < t + 100000000
  let s := { s with par := { s.par with
    oneOffs := s.oneOffsLeft.filter fun o => t + 100000000 ≤ o.net } }
  ((s.countN (tlStrand 17) gone.length).bridgeActivate old []).activated p t true

/-- A rebinding whose boundary is no later than `t` takes effect (R230). -/
def State.rebindBy (s : State) (t : Nat) : State :=
  match s.inaug.pending with
  | some (b, _) => if b ≤ t then s.rebind else s
  | none => s

/-- ACTIVATION: T has come. A rebinding at the same instant belongs to it. -/
def execActivation (dt : Nat) (s : State) : Out :=
  let s := s.elapse dt
  match s.par.activ, s.par.committed with
  | some a, some p =>
    if s.net + 2 < a.net then go s
    else
      let s := s.rebindBy a.net
      if s.par.cold then go (s.activateCold p a.net) else go (s.activateWarm p a.net)
  | _, _ => go s

/-- PARISON_LOAD_COMPLETE: the units hold the new parison; its strand begins at the first boundary at
least 100 ms after T (R84). -/
def execParisonLoadComplete (dt : Nat) (s : State) : Out :=
  let s := s.elapse dt
  match s.par.gap with
  | none => go s
  | some g =>
    if g.start.isSome || !s.tellerUp then go s
    else
      let p := g.par
      let at_ := ceilMul (max s.net (g.net + 100000000)) p.round
      let gen := s.fab.ledger.pending
      let slots := (placeAll gen none p.entries []).getD []
      let s := { s with
        par := { s.par with force := some p, gap := some { g with start := some at_ } }
        fab := { s.fab with ledger := { s.fab.ledger with slots := slots, live := gen } } }
      go ((s.unitsActivate none p).recheckOneOffs p at_)

/-- COLD_STRAND_START: the new time strand begins, and the gap is reported (R84). -/
def execColdStrandStart (dt : Nat) (s : State) : Out :=
  let s := s.elapse dt
  match s.par.gap with
  | some g =>
    match g.start with
    | some b =>
      if s.net + 2 < b then go s
      else
        let s := { s with par := { s.par with gap := none } }
        let s := ((s.beginStrands b).overUpdate.initGates g.par).pairBegin
        go (s.note (ev 2 3) (lenArg (b - g.net)))
    | none => go s
  | none => go s

end Sys2Proof.Machine
end

