-- ==== Sys2Proof/Machine/Start.lean ====
section
/-! DEFINITION. Start-up, reset and firmware update (chapter 17): the reset of the main die, the vault
ROM's choice of an image, the loader, the teller's start, the default parison, the firmware swap, the
teller's gaps, and the behaviour pin (R473). -/

namespace Sys2Proof.Machine

/-! ### Firmware images (R483, R544) -/

/-- The image in a firmware slot. -/
def Flash.slot (f : Flash) (k : Nat) : List Byte := if k = 0 then f.fw0 else f.fw1

/-- The checks MB_FW_STAGE makes on a header (R552). -/
def fwHeadOk (b : List Byte) : Bool :=
  64 ≤ b.length && b.take 4 = [0x5A, 0x46, 0x57, 0x49] && fld b 4 2 = 1 && fld b 6 2 = 0x0740 &&
    fld b 8 4 ≤ 0x200000

/-- Whether an image can run a behaviour revision. -/
def fwLists (b : List Byte) (rev : Nat) : Bool := bit (fld b (0x20 + rev / 8) 1) (rev % 8)

/-- The revision that an image runs: the pinned one, else the highest that it lists. -/
def fwRevision (b : List Byte) (pin : Nat) : Nat :=
  if pin ≠ 0 then pin else ((List.range 256).reverse.find? (fwLists b)).getD 0

/-- Whether the vault accepts an image (R483, R544). -/
def State.fwOk (s : State) (b : List Byte) : Bool :=
  let n := fld b 8 4
  let g := b.drop (fld b 12 4)
  fwHeadOk b && fld b 12 4 + 7872 = n && n ≤ b.length && fld b 0x18 4 ≤ 786432 && fld g 0 2 = 1 &&
    slice g 8 8 = (List.range 8).map Config.releaseKeyDigest &&
    Config.slhVerify Config.releaseKey (b.take (fld b 12 4)) (slice g 16 7856) &&
    decide (s.sec.fw ≤ fld b 0x10 4)

/-- Whether the ROM starts the teller from an image: it also lists the pinned revision (R545). -/
def State.fwRuns (s : State) (b : List Byte) : Bool :=
  s.fwOk b && (s.sec.pin = 0 || fwLists b s.sec.pin)

/-- The MIN_BEHAV fields of the parison in force and of the default one. -/
def State.minBehavs (s : State) : List Nat :=
  (match s.par.force with | some p => [p.minBehav] | none => []) ++
    (match s.defaultRegion with | some r => [fld (s.regionImage r) 0x1C 1] | none => [])

/-! ### Resets (R550) -/

/-- What of a feed a reset of the main die leaves: simulated warnings end, a return begun is part of
the start; a power-on also clears what the monitors counted, and starts every domain whose feed is
good. -/
def Feed.restarted (f : Feed) (power : Bool) : Feed :=
  { f with
    sim := []
    dom := if power then (if f.below then .isolated else .present)
      else if f.dom == .isolated then .isolated else .present
    mins := if power then [] else f.mins, warnings := if power then 0 else f.warnings
    losses := if power then 0 else f.losses }

/-- What of the sleep unit a reset leaves: the keep-alive die's part; a power-on clears that too but
for VKA. -/
def Sleep.restarted (x : Sleep) (power : Bool) (now : Nat) : Sleep :=
  if power then { sleep0 with vka := x.vka, heardAt := now }
  else { x with
    votedReady := false, round := none, agreed := false, commitNet := none, excluded := 0
    members := [], stayAt := none, heardAt := now, solo := false, coord := 0, stayOver := false, tx := .vote, txWait := false
    armed := false }

/-- The cores after a reset: T0 to T2 hold the slots, but those retired or in an isolated domain. -/
def State.coresAfter (s : State) (power : Bool) : Tab Core :=
  allCores.foldl (fun t c =>
    let r := if power then 0 else (s.core c).retired
    let out := r ≠ 0 || !s.hasDom (coreDomain c)
    Tab.set coreX t c { coreX with retired := r, slot := if out || c = 3 then none else some c }) []

/-- The main die is reset, with `power` by PORST_N (R550): flash, OTP, the persistent daybook, the
real-time counter and the keep-alive die's registers stay; deferred flash writes are lost. -/
def State.mainReset (s : State) (power : Bool) : State :=
  let z := State.reset
  let t : State := { z with
    pending := s.pending, clk := s.clk, sent := s.sent
    day := { z.day with per := s.day.per, perNext := s.day.perNext, boot := s.day.boot }
    sys := { z.sys with
      porst := s.sys.porst, sysrst := s.sys.sysrst, bootSrc := s.sys.bootSrc
      hostsel := s.sys.hostsel, pref := s.sys.pref, sfdp := s.sys.sfdp, cause := s.sys.cause
      retired := if power then [] else s.sys.retired }
    flash := { s.flash with defer := [] }
    feedA := s.feedA.restarted power, feedB := s.feedB.restarted power
    time := { z.time with rtcSec := s.time.rtcSec, rtcAt := s.time.rtcAt }
    sleep := s.sleep.restarted power s.now
    triad := { z.triad with cores := s.coresAfter power }
    twin := { z.twin with
      retired0 := !power && s.twin.retired0, retired1 := !power && s.twin.retired1 }
    sec := { z.sec with
      rootPk := s.sec.rootPk, idSeed := s.sec.idSeed, genUsed := s.sec.genUsed
      draws := s.sec.draws } }
  t.fillSlots

/-! ### The vault ROM (R482, R541, R545, R546) -/

/-- The vault reads its record; with no valid copy it runs under R482. -/
def State.vaultStart (s : State) : State :=
  match (if s.sys.sfdp then s.record else none) with
  | some r => { s with sec := { s.sec with
      life := r.life, fw := r.fw, par := r.par, warrant := r.warrant, pin := r.pin
      policy := r.policy, recordBad := false } }
  | none =>
    ({ s with sec := { s.sec with recordBad := true, life := 2 } }).note (ev 15 2)
      (le 4 (bnat s.flash.rec0.valid + bnat s.flash.rec1.valid))

/-- The loader starts: cause 0 LOADER, 1 NO_IMAGE, 2 FLASH. It stages into the slot other than
FW_SLOT, or slot 0 if neither slot holds a valid header (R546). -/
def State.loaderStart (s : State) (cause : Nat) : State :=
  let none_ := !fwHeadOk s.flash.fw0 && !fwHeadOk s.flash.fw1
  let slot := if none_ then 1 else fld s.flash.bootNow 8 1 % 2
  ({ s with
    sys := { s.sys with stage := .loader, loader := some cause, slot := slot, fwStaged := 0 }
    hif := { s.hif with ready := true } }).note (ev 17 2) (le 1 cause)

/-- The ROM takes the image of FW_SLOT, else of the other slot, else starts the loader (R545). -/
def State.pickImage (s : State) : State :=
  let k := fld s.flash.bootNow 8 1 % 2
  let run := fun j => s.fwRuns (s.flash.slot j)
  if run k then { s with sys := { s.sys with stage := .teller, slot := k, failed := none } }
  else if run (1 - k) then
    ({ s with sys := { s.sys with stage := .teller, slot := 1 - k, failed := some k } }).note (ev 17 1)
      (le 1 k ++ le 1 (1 - k))
  else s.loaderStart 1

/-- The main die starts, after its reset, with a cause of R559: 0 PORST_N, 1 SYSRST_N, 2 wake,
3 feeds. The time counter takes the real-time counter's seconds (R260). -/
def State.startUp (s : State) (cause : Nat) : State :=
  let t := if s.time.rtcSec = 0 then 0 else s.rtc
  let s := { s with
    clk := { s.clk with net := t * 1000000000 * 2 ^ 48 }
    sys := { s.sys with cause := cause, stage := .rom } }
  let s := s.vaultStart
  let s := if s.sys.hostsel = 3 || s.sys.bootSrc = 3 then
      s.note (ev 17 3) (le 1 s.sys.bootSrc.toNat ++ le 1 s.sys.hostsel.toNat) else s
  if !s.sys.sfdp then s.loaderStart 2
  else if s.sys.bootSrc = 2 then s.loaderStart 0
  else s.pickImage

/-- Whether a feed is there to start from. -/
def State.powered (s : State) : Bool := s.feedA.dom != .isolated || s.feedB.dom != .isolated

/-- The main die starts if nothing holds it in reset; without a feed it waits for one. -/
def State.tryStart (s : State) (cause : Nat) : State :=
  if s.sys.porst || s.sys.sysrst || !s.sleep.vka || s.sleep.asleep then s
  else if !s.powered then { s with sys := { s.sys with stage := .dark } }
  else s.startUp cause

/-- PORST_N_ASSERT: a pulse of at most 1 µs is ignored, one of 10 µs resets; between them either may
happen (R581). -/
def execPorstNAssert (dt : Nat) (lowNs : Nat) (s : State) : Out :=
  let s := s.elapse dt
  let r := s.fresh 1
  let hit := lowNs ≥ 10000 || (lowNs > 1000 && r.1 == 1)
  let s := if lowNs > 1000 && lowNs < 10000 then r.2 else s
  go (if hit then ({ s with sys := { s.sys with porst := true } }).mainReset true else s)

/-- PORST_N_RELEASE: the straps are sampled and the main die starts (R537, R538). -/
def execPorstNRelease (dt : Nat) (bootSrc hostsel : BitVec 2) (pref sfdp : Bool) (s : State) : Out :=
  let s := s.elapse dt
  go (if !s.sys.porst && s.sleep.vka then s
    else
      let s := { s with
        sys := { s.sys with
          porst := false, bootSrc := bootSrc, hostsel := hostsel, pref := pref, sfdp := sfdp }
        sleep := { s.sleep with vka := true } }
      s.tryStart 0)

/-- Whether a SYSRST_N pulse of a length resets: one shorter than 200 ns does not, one of 1 µs does,
between them either may happen, and never half (R551). -/
def State.sysrstHit (s : State) (lowNs : Nat) : Bool × State :=
  let r := s.fresh 1
  if lowNs < 200 then (false, s) else if lowNs ≥ 1000 then (true, s) else (r.1 == 1, r.2)

/-- SYSRST_N_RELEASE. -/
def execSysrstNRelease (dt : Nat) (s : State) : Out :=
  let s := s.elapse dt
  go (if !s.sys.sysrst then s else ({ s with sys := { s.sys with sysrst := false } }).tryStart 1)

/-! ### Deferred flash writes (R425) -/

/-- The flash takes the deferred writes in order. -/
def State.writeDeferred (s : State) : State :=
  let l := s.flash.defer
  let s := { s with flash := { s.flash with defer := [] } }
  l.foldl (fun s d => match d with
    | .day e => { s with day := s.day.keep e }
    | .conf k b => { s with flash := { s.flash with conf := Tab.set [] s.flash.conf k b } }
    | .energy => s.writeEnergy
    | .boot o b => { s with flash := s.flash.writeBoot o b }) s

/-- Once no feed is in warning, the teller makes the writes that waited. -/
def State.calm (s : State) : State := if s.flashHeld || !s.tellerUp then s else s.writeDeferred

/-! ### The teller's gaps (R517, R555) -/

/-- The teller serves again: a command caught by the gap completes with RESTARTED, and the events held
meanwhile are entered. -/
def State.serveAgain (s : State) : State :=
  let s := { s with hif := { s.hif with ready := true } }
  let s := match s.hif.held with
    | some h => (s.respond h.op h.tag h.seq stRestarted []).note (ev 16 1) (le 2 h.op ++ le 4 h.seq)
    | none => s
  s.enterHeld.calm

/-- A cancel request that its command no longer awaits is withdrawn (R517). -/
def State.uncancel (s : State) : State :=
  { s with can := s.can.map fun e => (e.1, e.2.map fun (x : CanCtl) =>
      { x with bufs := x.bufs.map fun b => (b.1, b.2.map fun (y : CanBuf) =>
          { y with cancel := false }) }) }

/-- The teller stops: READY is 0; a cancel or a read of the command in EXEC leaves its unit as it was
found. -/
def State.tellerFall (s : State) (stage : Stage) : State :=
  let s := match s.hif.held with
    | some h => if h.op = 0x0603 then s.uncancel else if h.op = 0x0C02 then s.flbAbandon else s
    | none => s
  { s with
    hif := { s.hif with ready := false }
    sys := { s.sys with stage := stage, tellerFrom := some s.now } }

/-- TELLER_RESTART_COMPLETE: the restart of R435 ends. -/
def execTellerRestartComplete (dt : Nat) (s : State) : Out :=
  let s := s.elapse dt
  go (if s.sys.stage == .restart then
    ({ s with sys := { s.sys with stage := .up, tellerFrom := none } }).serveAgain.insertion else s)

/-! ### The teller's start (R547, R548) -/

/-- A persistent configuration record, or the default where none is stored. -/
def State.confOr (s : State) (key : Nat) (d : List Byte) : List Byte :=
  let c := Tab.get [] s.flash.conf key
  if c.isEmpty then d else c

/-- The persistent configuration records are applied to their units (R547 step 1). -/
def State.applyRecords (s : State) : State :=
  let s := (List.range 24).foldl (fun s p =>
    s.setMac p { s.mac p with conf := s.confOr p (s.mac p).conf }) s
  let wake := s.confOr cfWake s.sleep.conf
  let s := { s with
    ports := { s.ports with ringConf := s.confOr 24 s.ports.ringConf }
    inaug := { s.inaug with conf := s.confOr cfInaug s.inaug.conf }
    time := { s.time with conf := s.confOr cfTime s.time.conf }
    sleep := { s.sleep with
      conf := wake, round := if fld wake 0 1 = 2 then some 0 else none, heardAt := s.now }
    lehr := { s.lehr with conf := s.confOr cfLehr s.lehr.conf }
    bridge := { s.bridge with conf := s.confOr cfBridge s.bridge.conf } }
  s.setTwin (s.confOr cfTwin s.twin.conf)

/-- The image that the teller runs from now on. -/
def State.runImage (s : State) (k : Nat) : State :=
  let b := s.flash.slot k
  { s with sys := { s.sys with
    stage := .up, slot := k, version := BitVec.ofNat 32 (fld b 0x14 4), revisions := slice b 0x20 32
    fwHash := sha256 (b.take (fld b 8 4)), behav := BitVec.ofNat 8 (fwRevision b s.sec.pin)
    fwStaged := 0, tellerFrom := none } }

/-- Where the wake tallies count a cause (R324); causes without a tally answer none. -/
def wakeTally (cause : Nat) : Option Nat := if 1 ≤ cause ∧ cause ≤ 5 then some (cause - 1) else none

/-- The wake record as an event shows it (R322, R533). -/
def WakeRec.args (w : WakeRec) : List Byte :=
  le 1 w.cause ++ le 1 w.source ++ le 1 (bnat w.latched) ++ le 8 w.rtcSec ++ le 2 w.rtcFrac ++
    le 4 w.lost

/-- The teller reports the wake and the keep-alive die's counts, which are then cleared there (R322,
R324, R325). -/
def State.reportWake (s : State) : State :=
  let w := s.sleep.record
  let s := if s.sys.cause < 2 then s
    else
      let s := match wakeTally w.cause with | some i => s.count (tlSleep i) | none => s
      let s := if w.latched then s.count (tlSleep 5) else s
      s.note (ev 9 5) w.args
  let s := s.sleep.falseRep.foldl (fun s f =>
    s.note (ev 9 6) (le 1 f.1 ++ le 1 f.2 ++ le 4 (Tab.get 0 s.sleep.falseCnt f.1))) s
  let s := if s.sys.cause < 2 then s
    else
      let s := (List.range 4).foldl (fun s x =>
        s.countN (tlSleep (6 + x)) (Tab.get 0 s.sleep.falseCnt x)) s
      { s with sleep := { s.sleep with falseCnt := [] } }
  let s := s.sleep.frameOnly.foldl (fun s x =>
    s.note (ev 9 7) (le 1 x ++ le 4 (fld s.sleep.conf 5 1))) s
  { s with sleep := { s.sleep with falseRep := [], frameOnly := [] } }

/-- Boot control names the running slot (R545, R554). -/
def State.nameSlot (s : State) : State :=
  if fld s.flash.bootSoon 8 1 = s.sys.slot then s else s.setBoot 8 (le 1 s.sys.slot)

/-- The teller's first actions (R547). -/
def State.boot (s : State) : State :=
  let s := s.runImage s.sys.slot
  let s := { s with day := { s.day with boot := s.day.boot + 1 } }
  let s := (s.applyRecords.restoreEnergy).serveAgain.insertion
  let s := s.note (ev 17 0) (le 1 s.sys.cause ++ le 1 s.sys.slot ++ le 4 s.sys.version.toNat ++
    le 1 s.sys.bootSrc.toNat ++ le 1 s.sys.hostsel.toNat ++ le 1 (s.sys.loader.getD 0xFF))
  let s := s.reportWake.nameSlot
  let load := s.sys.bootSrc ≠ 1 && s.sys.bootSrc ≠ 2 && s.defaultRegion.isSome
  { s with sys := { s.sys with loader := none, defaultLoad := load } }

/-- BOOT. -/
def execBoot (dt : Nat) (s : State) : Out :=
  let s := s.elapse dt
  go (if s.sys.stage == .teller then s.boot else s)

/-- The default image is committed as MB_PARISON_COMMIT would and activated with NEXT (R548). -/
def State.loadDefault (s : State) (r : Nat) : State :=
  let s := { s with sys := { s.sys with defaultLoad := false } }
  let img := s.regionImage r
  let c := s.commit img r false
  let s := c.report img
  let s := if c.status = stOk then (s.activate true 0).st else s.count (tlSec 11)
  s.note (ev 17 4) (le 2 c.status ++ le 2 c.reason ++ (sha256 (img.take (imSig img))).take 8)

/-- DEFAULT_PARISON. -/
def execDefaultParison (dt : Nat) (s : State) : Out :=
  let s := s.elapse dt
  match s.defaultRegion with
  | some r => go (if s.sys.defaultLoad && s.tellerUp then s.loadDefault r else s)
  | none => go s

/-! ### Firmware update (R552 to R556) -/

/-- The slot that MB_FW_STAGE writes. -/
def State.fwTarget (s : State) : Nat := 1 - s.sys.slot

/-- The bytes staged so far. -/
def State.fwStagedBytes (s : State) : List Byte := (s.flash.slot s.fwTarget).take s.sys.fwStaged

/-- A slot takes bytes. -/
def Flash.setSlot (f : Flash) (k : Nat) (b : List Byte) : Flash :=
  if k = 0 then { f with fw0 := b } else { f with fw1 := b }

/-- MB_FW_STAGE. -/
def cmdFwStage : Cmd :=
  { op := 0x0E01
    shape := fun b => 5 ≤ b.length
    run := fun b s =>
      match addChunk s.fwStagedBytes (fld b 0 4) (b.drop 4) 0x200000 with
      | none => refuse stMalformed s
      | some l =>
        let head := 64 ≤ l.length
        if head && (!fwHeadOk l || decide (fld l 8 4 < l.length)) then refuse stMalformed s
        else if head && s.sec.pin ≠ 0 && !fwLists l s.sec.pin then refuse stDenied s
        else if s.flashHeld || s.sys.swap.isSome then refuse stBusy s
        else ans stOk [] { s with
          flash := s.flash.setSlot s.fwTarget l, sys := { s.sys with fwStaged := l.length } } }

/-- MB_FW_STAGE from the host. -/
def execMbFwStage (dt : Nat) (r : Req) (s : State) : Out := go ((s.elapse dt).submit cmdFwStage r)

/-- The swap boundary S (R553). -/
def State.swapAt (s : State) : Nat :=
  let l := match s.par.force with | some p => if s.gaf.active then p.round else 125000 | none => 125000
  ceilMul (s.net + 10000000) l

/-- MB_FW_SWAP. -/
def cmdFwSwap : Cmd :=
  { op := 0x0E02
    shape := fun b => b.length = 4 && zeroAt b 0 4
    run := fun _ s =>
      let img := s.fwStagedBytes
      let n := fld img 8 4
      let roll := fld img 0x10 4
      if img.length < 64 || img.length < n then refuse stDenied s
      else if !s.fwOk img then refuse stDenied (s.count (tlSec 10))
      else if (s.minBehavs ++ (s.par.committed.map (·.minBehav)).toList).any fun m =>
          fwRevision img s.sec.pin < m then refuse stDenied s
      else if s.sys.swap.isSome || s.sys.defaultLoad || s.flashHeld then refuse stBusy s
      else if s.sec.fw < roll && (!s.canRecord || s.sec.recordBad) then refuse stDenied s
      else
        let t := s.fwTarget
        let s := s.recordUpd fun x => { x with fw := max x.fw roll }
        if s.sys.stage == .loader then
          ans stOk (zeros 16) { s with
            sys := { s.sys with stage := .teller, slot := t, failed := none }
            hif := { s.hif with ready := false } }
        else
          let w : FwSwap := { net := s.swapAt, slot := t, began := none }
          ans stOk (secNs w.net ++ zeros 4) { s with sys := { s.sys with swap := some w } } }

/-- MB_FW_SWAP from the host. -/
def execMbFwSwap (dt : Nat) (r : Req) (s : State) : Out := go ((s.elapse dt).submit cmdFwSwap r)

/-- FW_SWAP: S has come; the old teller hands over and stops (R554). -/
def execFwSwap (dt : Nat) (s : State) : Out :=
  let s := s.elapse dt
  match s.sys.swap with
  | some w =>
    go (if w.began.isSome || !s.tellerUp || s.net + 2 < w.net then s
      else
        let s := s.tellerFall .swap
        { s with sys := { s.sys with swap := some { w with began := some s.now } } })
  | none => go s

/-- How a swap that has begun stands: the time left to READY, and whether the image verifies. -/
def State.swapRuns (s : State) (w : FwSwap) : Bool :=
  match w.began with
  | some t => decide (s.now ≤ t + 500000000) && s.fwOk (s.flash.slot w.slot)
  | none => false

/-- The new teller serves (R554 steps 3 and 4). -/
def State.swapDone (s : State) (w : FwSwap) : State :=
  let old := s.sys.version
  let s := (s.runImage w.slot).serveAgain.insertion
  let s := (({ s with sys := { s.sys with swap := none } }).nameSlot).count (tlSec 8)
  s.note (ev 17 5) (le 4 old.toNat ++ le 4 s.sys.version.toNat ++ secNs w.net)

/-- FW_SWAP_COMPLETE. -/
def execFwSwapComplete (dt : Nat) (s : State) : Out :=
  let s := s.elapse dt
  match s.sys.swap with
  | some w => go (if s.sys.stage == .swap && s.swapRuns w then s.swapDone w else s)
  | none => go s

/-- The swap fails: the teller starts from the old slot, or the loader if that fails too (R556). -/
def State.swapBack (s : State) (w : FwSwap) : State :=
  let old := 1 - w.slot
  let s := { s with sys := { s.sys with swap := none } }
  if s.fwOk (s.flash.slot old) then
    ((s.runImage old).serveAgain.insertion.count (tlSec 9)).note (ev 17 6) (le 1 w.slot ++ le 1 old)
  else (s.loaderStart 1).serveAgain

/-- FW_REVERT. -/
def execFwRevert (dt : Nat) (s : State) : Out :=
  let s := s.elapse dt
  match s.sys.swap with
  | some w => go (if s.sys.stage == .swap && !s.swapRuns w then s.swapBack w else s)
  | none => go s

/-! ### The behaviour pin (R473) -/

/-- MB_PIN_BEHAVIOUR. -/
def cmdPin : Cmd :=
  { op := 0x0C05
    shape := fun b => b.length = 4 && zeroAt b 1 3
    run := fun b s =>
      let rev := fld b 0 1
      if rev = 255 then refuse stMalformed s
      else
        let r := s.takeWarrant [3] fun a => fld a 0 1 = rev && allZero (a.drop 1)
        let s := r.2.2
        let listed := bit (fld s.sys.revisions (rev / 8) 1) (rev % 8)
        let new := { raiseSeq r.2.1 s.sec with pin := rev }
        if !r.1 then refuse stWarrant s
        else if rev ≠ 0 && (!listed || s.minBehavs.any fun m => rev < m) then refuse stDenied s
        else if s.flashHeld then refuse stBusy s
        else if new ≠ s.sec && (!s.canRecord || s.sec.recordBad) then refuse stDenied s
        else ans stOk [] (s.recordUpd fun _ => new) }

/-- MB_PIN_BEHAVIOUR from the host. -/
def execMbPinBehaviour (dt : Nat) (r : Req) (s : State) : Out := go ((s.elapse dt).submit cmdPin r)

end Sys2Proof.Machine
end

