-- ==== Sys2Proof/Machine/Sleep.lean ====
section
/-! DEFINITION. Network sleep and wake (chapter 9): the wake record, the consent round, going down,
wake sources, false wakes and the wake; with SYSRST_N, which is a wake source in sleep. -/

namespace Sys2Proof.Machine

/-! ### The wake record (R307, R308) -/

/-- MEMBERS. -/
def wkMembers (c : List Byte) : Nat := fld c 8 4
/-- PERIOD_MS in ns. -/
def wkPeriod (c : List Byte) : Nat := fld c 0x10 2 * 1000000
/-- ALARM. -/
def wkAlarm (c : List Byte) : Nat := fld c 0x18 8
/-- The byte of a wake pin. -/
def wkPin (c : List Byte) (k : Nat) : Nat := fld c (0x24 + k) 1
/-- The entry of a transceiver. -/
def wkXcvr (c : List Byte) (x : Nat) : List Byte := slice c (0x40 + 32 * x) 32
/-- FRAME_EN of a transceiver. -/
def wkFrameEn (c : List Byte) (x : Nat) : Bool := bit (fld (wkXcvr c x) 0 1) 0
/-- PATTERN_EN of a transceiver. -/
def wkPatternEn (c : List Byte) (x : Nat) : Bool := bit (fld (wkXcvr c x) 0 1) 1

/-- Reserved fields of the wake record. -/
def wakeRsv (c : List Byte) : Bool :=
  bits (fld c 0x0C 4) 30 29 = 0 && zeroAt c 0x16 2 && zeroAt c 0x28 24 &&
    (chunks 32 4 (c.drop 0x40)).all fun e =>
      fld e 0 1 < 4 && fld e 2 1 < 4 && fld e 4 4 < 2 ^ 29 && fld e 8 4 < 2 ^ 29 && zeroAt e 12 4 &&
        zeroAt e 24 8

/-- Ranges of the wake record, and the fields that ROLE leaves unused. -/
def wakeOk (c : List Byte) : Bool :=
  let role := wkRole c
  let m := wkMembers c
  let valid := fld c 6 2
  let period := fld c 0x10 2
  let commit := wkCommit c
  (if role = 0 then
      wkMember c = 0 && wkCtrl c = 0xFF && wkBuf c = 0 && wkFifo c = 0 && m = 0 && fld c 0x0C 4 = 0
    else role ≤ 2 && wkMember c < 32 && wkCtrl c < 8 && wkBuf c < 64 && wkFifo c < 2 &&
      (if role = 2 then bit m (wkMember c) else m = 0)) &&
    100 ≤ valid && valid ≤ 5000 && 10 ≤ period && period ≤ 500 && commit % 10 = 0 &&
    3 * period ≤ commit && commit ≤ 2550 && fld c 0x14 2 ≤ 1440 &&
    ((List.range 4).all fun k => !bit (wkPin c k) 0 || bits (wkPin c k) 2 1 ≠ 0) &&
    (chunks 32 4 (c.drop 0x40)).all fun e =>
      fld e 1 1 < 4 && fld e 3 1 ≤ 8 && (bit (fld e 2 1) 1 || fld e 3 1 = 0) &&
        (bit (fld e 2 1) 0 || fld e 4 4 < 2 ^ 11)

/-- Whether the node's commit point has passed while it is AGREED. -/
def State.committedSleep (s : State) : Bool :=
  s.sleep.agreed && (match s.sleep.commitNet with | some t => decide (t ≤ s.net) | none => false)

/-- The wake record takes effect; where it makes the node another member, the round starts anew. -/
def State.setWake (s : State) (c : List Byte) : State :=
  let x := s.sleep
  let same := x.conf.take 5 = c.take 5 && slice x.conf 8 8 = slice c 8 8
  let y := if same then { x with conf := c }
    else { x with
      conf := c, round := if wkRole c = 2 then some 0 else none, members := [], excluded := 0
      solo := false, heardAt := s.now, coord := 0, tx := .vote, txWait := false
      stayAt := if wkRole c = 2 && x.votedReady then some s.now else none, stayOver := false }
  ({ s with sleep := y }).fillConsent

/-- MB_WAKE_CONFIG. -/
def cmdWakeConfig : Cmd :=
  { op := 0x0701
    shape := fun b => cfgOpts b true && cfgLen b 4 192 && (bit (fld b 0 4) 1 || wakeRsv (b.drop 4))
    run := fun b s =>
      let o := fld b 0 4
      let c := b.drop 4
      if bit o 1 then ans stOk s.sleep.conf s
      else if !wakeOk c then refuse stMalformed s
      else if s.sleep.agreed || (bit o 0 && s.flashHeld) then refuse stBusy s
      else
        let s := s.setWake c
        ans stOk c (if bit o 0 then s.persist cfWake c else s) }

/-- MB_WAKE_CONFIG from the host. -/
def execMbWakeConfig (dt : Nat) (r : Req) (s : State) : Out :=
  go ((s.elapse dt).submit cmdWakeConfig r)

/-! ### Wakes (R305, R314, R319, R322) -/

/-- The wake record of a request that arises now. -/
def State.wakeRec (s : State) (cause source : Nat) (latched : Bool) : WakeRec :=
  { cause := cause, source := source, latched := latched, rtcSec := s.rtc
    rtcFrac := (s.now - s.time.rtcAt) % 1000000000 * 32768 / 1000000000
    lost := s.sleep.record.lost }

/-- A valid wake resets the counts of consecutive false ones; a wake that can be false is judged for
T_VALID_MS (R320, R321). -/
def State.judgeWake (s : State) (w : WakeRec) : State :=
  if 1 ≤ w.cause ∧ w.cause ≤ 3 then
    let j : Judged :=
      { xcvr := w.source, cause := w.cause, until_ := s.now + fld s.sleep.conf 6 2 * 1000000 }
    { s with sleep := { s.sleep with
      judging := (s.sleep.judging.filter fun y => y.xcvr ≠ w.source) ++ [j] } }
  else { s with sleep := { s.sleep with consec := [] } }

/-- The keep-alive die raises FEED_EN for a wake (R322). -/
def State.wakeUp (s : State) (w : WakeRec) : State :=
  { s with sleep := { s.sleep with
    record := w, feedEnA := true, feedEnB := true, wakePending := true, latched := none } }

/-- Agreement ends: the sources are no longer armed. -/
def State.unagree (s : State) : State :=
  let x := s.sleep
  let tx := match x.tx with | .commit => ConsentTx.vote | .vote => .vote | .abort c => .abort c
  { s with sleep := { x with agreed := false, commitNet := none, armed := false, tx := tx } }

/-- The node aborts the sleep itself (R314): its vote is AWAKE, and an ABORT leaves where it takes part
in a consent round. -/
def State.selfAbort (s : State) (cause : Nat) : State :=
  let solo := wkRole s.sleep.conf = 0 || s.sleep.solo
  let s := (s.unagree).count (tlSleep 11)
  let s := { s with sleep := { s.sleep with
    votedReady := false, stayAt := none, stayOver := false
    tx := if solo then .vote else .abort cause } }
  s.fillConsent

/-- A wake request of cause `cause` from a source: it wakes a sleeping node, is latched while the node
goes down and until FEED_EN has been low for 20 ms, and aborts an agreed sleep. -/
def State.wakeReq (s : State) (cause source : Nat) : State :=
  let x := s.sleep
  if x.asleep then
    if x.wakePending || x.latched.isSome then s
    else
      let late := decide (s.now < x.lowAt + 20000000)
      let w := s.wakeRec cause source late
      let s := s.judgeWake w
      if late then { s with sleep := { s.sleep with latched := some w } } else s.wakeUp w
  else if !x.armed then s
  else if s.committedSleep then
    if x.latched.isSome then s
    else
      let w := s.wakeRec cause source true
      let s := s.judgeWake w
      { s with sleep := { s.sleep with latched := some w } }
  else if x.agreed then s.selfAbort cause
  else s

/-- WAKE_PATTERN. -/
def execWakePattern (dt : Nat) (x : Fin 4) (s : State) : Out :=
  let s := s.elapse dt
  go (if wkPatternEn s.sleep.conf x.val then s.wakeReq 1 x.val else s)

/-- Whether a received frame is a wake-up frame of a transceiver (R306). -/
def wakeMatch (e : List Byte) (f : CanFrame) : Bool :=
  let id := BitVec.ofNat 29 (fld e 4 4)
  let mask := BitVec.ofNat 29 (fld e 8 4)
  let data := slice e 16 8
  !f.fdf && !f.rtr && (id ^^^ f.id) &&& mask == 0 && f.ide == bit (fld e 2 1) 0 &&
    (!bit (fld e 2 1) 1 || f.dlc.toNat = fld e 3 1) &&
    (allZero data || (List.zipWith (· &&& ·) f.data data).any (· != 0))

/-- WAKE_FRAME. -/
def execWakeFrame (dt : Nat) (x : Fin 4) (f : CanFrame) (s : State) : Out :=
  let s := s.elapse dt
  go (if wkFrameEn s.sleep.conf x.val && wakeMatch (wkXcvr s.sleep.conf x.val) f then
    s.wakeReq 2 x.val else s)

/-- WAKE_FRAME_ERR. -/
def execWakeFrameErr (dt : Nat) (x : Fin 4) (s : State) : Out :=
  let s := s.elapse dt
  go (if wkFrameEn s.sleep.conf x.val then s.wakeReq 3 x.val else s)

/-- WAKE_PIN: an edge has lasted the pin's filter time. -/
def execWakePin (dt : Nat) (pin : Fin 4) (rising : Bool) (s : State) : Out :=
  let s := s.elapse dt
  let p := wkPin s.sleep.conf pin.val
  go (if bit p 0 && (if rising then bit p 1 else bit p 2) then s.wakeReq 4 pin.val else s)

/-- Whether ALARM has been reached. -/
def State.alarmDue (s : State) : Bool := wkAlarm s.sleep.conf ≠ 0 && wkAlarm s.sleep.conf ≤ s.rtc

/-- WAKE_ALARM. -/
def execWakeAlarm (dt : Nat) (s : State) : Out :=
  let s := s.elapse dt
  go (if s.alarmDue then s.wakeReq 5 0 else s)

/-- LATCHED_WAKE_RELEASE: FEED_EN has been low for 20 ms (R319). -/
def execLatchedWakeRelease (dt : Nat) (s : State) : Out :=
  let s := s.elapse dt
  match s.sleep.latched with
  | some w =>
    go (if s.sleep.asleep && s.sleep.lowAt + 20000000 ≤ s.now then s.wakeUp w else s)
  | none => go s

/-- FEED_GOOD: a feed is good after FEED_EN has risen; the first releases the main die, the other joins
a start that is under way (R322). -/
def execFeedGood (dt : Nat) (feed : Fin 2) (s : State) : Out :=
  let s := s.elapse dt
  let d := feed.val
  let here := fun (s : State) => s.setFeed d { s.feed d with dom := .present, below := false }
  let starting := s.sys.stage == .rom || s.sys.stage == .teller
  let worn := Tab.get 0 s.sys.retired (0x56 + d) ≠ 0
  go (if worn then s
    else if s.sleep.asleep && s.sleep.wakePending then
      let s := here s
      ({ s with sleep := { s.sleep with asleep := false, wakePending := false } }).tryStart 2
    else if starting && (s.feed d).dom == .isolated then here s
    else s)

/-- SYSRST_N_ASSERT: a warm reset, or in sleep the wake source HOST_RESET (R305, R551). -/
def execSysrstNAssert (dt : Nat) (lowNs : Nat) (s : State) : Out :=
  let s := s.elapse dt
  let h := s.sysrstHit lowNs
  let s := h.2
  go (if !h.1 then s
    else if s.sleep.asleep then s.wakeReq 6 0
    else ({ s with sys := { s.sys with sysrst := true } }).mainReset false)

/-- VKA_LOSS: the keep-alive domain resets with all it keeps, and the main die with it (R304, R536). -/
def execVkaLoss (dt : Nat) (s : State) : Out :=
  let s := s.elapse dt
  let s := s.mainReset true
  go { s with
    sleep := { s.sleep with vka := false }
    time := { s.time with rtcSec := 0, rtcAt := s.now } }

/-! ### False wakes (R320, R321) -/

/-- WAKE_VALID: another valid Classical frame within T_VALID_MS. -/
def execWakeValid (dt : Nat) (x : Fin 4) (s : State) : Out :=
  let s := s.elapse dt
  let hit := s.sleep.judging.any fun j => j.xcvr = x.val && s.now ≤ j.until_
  go (if hit then { s with sleep := { s.sleep with
      judging := s.sleep.judging.filter fun j => j.xcvr ≠ x.val, consec := [] } } else s)

/-- A wake is judged false. -/
def State.falseWake (s : State) (j : Judged) : State :=
  let y := s.sleep
  let n := Tab.get 0 y.consec j.xcvr + 1
  let limit := fld y.conf 5 1
  let off := j.cause = 1 && limit ≠ 0 && limit ≤ n && wkPatternEn y.conf j.xcvr
  let at_ := 0x40 + 32 * j.xcvr
  let conf := if off then overlay y.conf at_ (le 1 (fld y.conf at_ 1 % 2)) else y.conf
  let s := { s with sleep := { y with
    conf := conf, judging := y.judging.filter fun k => k.xcvr ≠ j.xcvr
    falseCnt := Tab.upd 0 y.falseCnt j.xcvr fun v => min 65535 (v + 1)
    consec := if j.cause = 1 then Tab.set 0 y.consec j.xcvr n else y.consec
    falseRep := y.falseRep ++ [(j.xcvr, j.cause)] } }
  if !off then s
  else if s.awake then s.note (ev 9 7) (le 1 j.xcvr ++ le 4 limit)
  else { s with sleep := { s.sleep with frameOnly := s.sleep.frameOnly ++ [j.xcvr] } }

/-- T_VALID_EXPIRY. -/
def execTValidExpiry (dt : Nat) (x : Fin 4) (s : State) : Out :=
  let s := s.elapse dt
  match s.sleep.judging.find? fun j => j.xcvr = x.val with
  | some j => go (if j.until_ ≤ s.now then s.falseWake j else s)
  | none => go s

/-! ### Agreement (R309 to R317) -/

/-- The longest gap between consecutive arms of a list of offsets in a round of `l`. -/
def armGap (l : Nat) (offs : List Nat) : Nat :=
  let next := fun o => offs.foldl (fun m q => min m ((q + l - o - 1) % l + 1)) l
  offs.foldl (fun m o => max m (next o)) 0

/-- Whether the parison in force arms a buffer at intervals of at most `period` ns, on either strand;
pace intervals are those of the present rate. -/
def State.armsOften (s : State) (c k period : Nat) : Bool :=
  match s.par.force with
  | none => false
  | some p =>
    let hit := fun (a : Act) => a.op = 5 && a.tgt = 0x20 + c && bit a.opnd k
    let offs := fun st f => (threeLists.map fun l => ((p.acts st l).filter hit).map f).flatten
    let t := offs 0 (p.eff s.boundP)
    let q := offs 1 (·.off)
    (!t.isEmpty && armGap p.round t ≤ period) ||
      (!q.isEmpty && s.rateNow ≠ 0 &&
        armGap (paceRound p.pace) q * 2 ^ 48 / s.rateNow ≤ period)

/-- Whether the requirements of R309 hold. -/
def State.consentReady (s : State) : Bool :=
  let w := s.sleep.conf
  let c := wkCtrl w
  let id := fld w 0x0C 4
  s.gaf.active && s.armsOften c (wkBuf w) (wkPeriod w) &&
    (match s.ctl c with
     | none => false
     | some x => !x.toFlb (wkFifo w) && (match x.buf (wkBuf w) with
       | none => false
       | some b => b.source = 2 && !b.flag 1 && fld b.conf 8 1 = 8 &&
           fld b.conf 4 4 = id % 2 ^ 29 + wkMember w && b.flag 0 = bit id 31))

/-- The wake sources are armed; an alarm already reached is a wake request at once (R317). -/
def State.arm (s : State) : State :=
  let s := { s with sleep := { s.sleep with armed := true } }
  if s.alarmDue then s.wakeReq 5 0 else s

/-- A node alone reaches agreement (R317). -/
def State.soloAgree (s : State) : State :=
  let t := s.net + wkCommit s.sleep.conf * 1000000
  (({ s with sleep := { s.sleep with agreed := true, commitNet := some t } }).count (tlSleep 10)).arm

/-- Whether a member counts as READY at the coordinator (R312). -/
def State.memberReady (s : State) (m : Nat) : Bool :=
  match Tab.get none s.sleep.members m with
  | some x => x.ready && some x.round = s.sleep.round &&
      decide (s.now ≤ x.voteAt + 3 * wkPeriod s.sleep.conf)
  | none => false

/-- The members whose agreement is needed. -/
def State.needed32 (s : State) : List Nat :=
  (List.range 32).filter fun m => bit (wkMembers s.sleep.conf) m &&
    m ≠ wkMember s.sleep.conf && !s.sleep.excluded.getLsbD m

/-- A coordinator reaches agreement where it can (R312). -/
def State.tryAgree (s : State) : State :=
  let x := s.sleep
  if wkRole x.conf ≠ 2 || !x.votedReady || x.agreed || !s.needed32.all s.memberReady then s
  else
    let mask := (s.needed32.map fun m => 2 ^ m).sum + 2 ^ wkMember x.conf
    let s := { s with sleep := { x with agreed := true, commitNet := none, tx := .commit } }
    let s := (s.count (tlSleep 10)).note (ev 9 0)
      (le 4 (x.round.getD 0) ++ le 4 mask ++ le 4 x.excluded.toNat)
    s.fillConsent.arm

/-- The vote becomes READY (R311, R316, R317). -/
def State.voteReady (s : State) : State :=
  if s.sleep.agreed then s
  else
    let x := s.sleep
    let co := wkRole x.conf = 2
    let s := { s with sleep := { x with
      votedReady := true
      stayAt := if co && x.stayAt.isNone then some s.now else x.stayAt } }
    if wkRole x.conf = 0 || x.solo then s.fillConsent.soloAgree else s.fillConsent.tryAgree

/-- The vote becomes AWAKE (R311, R314). -/
def State.voteAwake (s : State) : State :=
  if s.sleep.agreed then s.selfAbort 0x10
  else ({ s with sleep := { s.sleep with
    votedReady := false, stayAt := none, stayOver := false } }).fillConsent

/-- The response of MB_SLEEP_CONSENT (R522). -/
def State.sleepBody (s : State) : List Byte :=
  let x := s.sleep
  let w := x.record
  let stay := match x.stayAt with | some t => (s.now - t) / 1000000000 | none => 0
  le 1 (wkRole x.conf) ++ le 1 (bnat x.votedReady) ++ le 1 (bnat x.agreed) ++
    le 1 (x.round.getD 0) ++ le 4 x.excluded.toNat ++
    (match x.commitNet with | some t => secNs t | none => zeros 12) ++ le 4 stay ++
    le 1 w.cause ++ le 1 w.source ++ le 1 (bnat w.latched) ++ zeros 1 ++ le 8 w.rtcSec ++
    le 2 w.rtcFrac ++ le 2 (min w.lost 65535) ++ zeros 4 ++
    ((List.range 4).map fun k => le 2 (Tab.get 0 x.falseCnt k)).flatten

/-- MB_SLEEP_CONSENT (R318). -/
def cmdSleep : Cmd :=
  { op := 0x0702
    shape := fun b => b.length = 4 && zeroAt b 1 3
    run := fun b s =>
      let op := fld b 0 1
      let far := wkRole s.sleep.conf ≠ 0
      if op > 2 then refuse stMalformed s
      else if s.committedSleep then refuse stLate s
      else if op = 0 then ans stOk s.sleepBody s
      else if op = 1 then
        if !s.gaf.active || (far && !s.consentReady) then refuse stDenied s
        else if far && s.absentUnit (0x20 + wkCtrl s.sleep.conf) then refuse stAbsent s
        else ans stOk s.voteReady.sleepBody s.voteReady
      else ans stOk s.voteAwake.sleepBody s.voteAwake }

/-- SLEEP_CONSENT_STATUS. -/
def execSleepConsentStatus (dt : Nat) (r : Req) (s : State) : Out :=
  go ((s.elapse dt).submit cmdSleep (withOp r 0))
/-- VOTE_READY. -/
def execVoteReady (dt : Nat) (r : Req) (s : State) : Out :=
  go ((s.elapse dt).submit cmdSleep (withOp r 1))
/-- VOTE_AWAKE. -/
def execVoteAwake (dt : Nat) (r : Req) (s : State) : Out :=
  go ((s.elapse dt).submit cmdSleep (withOp r 2))

/-- STAY_AWAKE_EXPIRY: unready members are excluded (R316). -/
def State.stayExpire (s : State) : State :=
  let x := s.sleep
  let out := s.needed32.filter fun m => !s.memberReady m
  let s := { s with sleep := { x with
    stayOver := true, excluded := out.foldl (fun v m => v ||| (1 <<< m)) x.excluded } }
  let s := out.foldl (fun s m =>
    let last := match Tab.get none x.members m with
      | some y => (match y.readyNet with | some t => secNs t | none => zeros 12)
      | none => zeros 12
    (s.count (tlSleep 13)).note (ev 9 2) (le 1 m ++ last)) s
  s.tryAgree

/-- STAY_AWAKE_EXPIRY. -/
def execStayAwakeExpiry (dt : Nat) (s : State) : Out :=
  let s := s.elapse dt
  let max := fld s.sleep.conf 0x14 2 * 60000000000
  match s.sleep.stayAt with
  | some t => go (if s.tellerUp && wkRole s.sleep.conf = 2 && max ≠ 0 && !s.sleep.stayOver &&
      t + max ≤ s.now then s.stayExpire else s)
  | none => go s

/-- SOLO_FALLBACK: a member that has heard no consent frame for ten periods acts as SOLO (R317). -/
def execSoloFallback (dt : Nat) (s : State) : Out :=
  let s := s.elapse dt
  let x := s.sleep
  go (if !s.tellerUp || wkRole x.conf ≠ 1 || x.solo || s.now < x.heardAt + 10 * wkPeriod x.conf then s
    else
      let s := { s with sleep := { x with solo := true } }
      if x.votedReady && !x.agreed then s.soloAgree else s)

/-! ### Consent frames (R309, R310, R312 to R314) -/

/-- Whether a frame is a consent frame. -/
def isConsent (f : CanFrame) : Bool :=
  let k := fld f.data 0 1
  !f.fdf && !f.rtr && f.data.length = 8 && (k = 1 || k = 2 || k = 4) && fld f.data 1 1 < 32 &&
    (k = 2 || zeroAt f.data 4 4)

/-- The oldest frame of the consent FIFO, with the FIFO's place: controller, record, entry. -/
def State.consentHead (s : State) : Option (Nat × CanCtl × CanEnt) :=
  let w := s.sleep.conf
  let c := wkCtrl w
  if wkRole w = 0 || !s.tellerUp || s.absentUnit (0x20 + c) then none
  else match s.ctl c with
    | none => none
    | some x =>
      let q := x.fifo (wkFifo w)
      if q.count = 0 then none
      else (Tab.get none q.ents q.head).map fun e => (c, x, e)

/-- The teller takes the oldest frame where it is of KIND `kind`, and does `f` with it; a frame that is
no consent frame is discarded and counted. A member that hears one is no longer alone (R317). -/
def State.takeConsent (s : State) (kind : Nat) (f : List Byte → Nat → State → State) : State :=
  match s.consentHead with
  | none => s
  | some (c, x, e) =>
    let fifo := wkFifo s.sleep.conf
    let pop := fun (s : State) => s.setCtl c (some (x.setFifo fifo (x.fifo fifo).pop))
    let d := e.frame.data
    if !isConsent e.frame then (pop s).count (tlSleep 14)
    else if fld d 0 1 ≠ kind then s
    else
      let s := pop s
      let s := { s with sleep := { s.sleep with heardAt := s.now, solo := false } }
      f d (s.canNet (canDomain c) e.stamp) s

/-- A member takes the ROUND of a frame from the coordinator (R310). -/
def State.takeRound (s : State) (d : List Byte) : State :=
  let x := s.sleep
  if wkRole x.conf ≠ 1 || fld d 1 1 ≠ x.coord then s
  else ({ s with sleep := { x with round := some (fld d 2 1) } }).fillConsent

/-- CONSENT_VOTE_RX. -/
def State.voteIn (s : State) (d : List Byte) : State :=
  let x := s.sleep
  let m := fld d 1 1
  if wkRole x.conf ≠ 2 then s.takeRound d
  else
    let ready := bit (fld d 3 1) 0
    let old := match Tab.get none x.members m with | some y => y.readyNet | none => none
    let y : Member :=
      { voteAt := s.now, ready := ready, round := fld d 2 1
        readyNet := if ready then some s.net else old }
    ({ s with sleep := { x with
      members := Tab.set none x.members m (some y)
      excluded := if ready then x.excluded &&& ~~~((1 : U32) <<< m) else x.excluded } }).tryAgree

/-- CONSENT_VOTE_RX. -/
def execConsentVoteRx (dt : Nat) (s : State) : Out :=
  go ((s.elapse dt).takeConsent 1 fun d _ s => s.voteIn d)

/-- CONSENT_COMMIT_RX (R313): its sender is the coordinator. -/
def State.commitIn (s : State) (d : List Byte) (stamp : Nat) : State :=
  let x := s.sleep
  if wkRole x.conf ≠ 1 then s
  else
    let current := x.round = some (fld d 2 1)
    let s := ({ s with sleep := { x with coord := fld d 1 1 } }).takeRound d
    if !current || s.sleep.agreed then s
    else if bit (fld d 4 4) (wkMember x.conf) then s.note (ev 9 3) (le 4 (fld d 2 1))
    else if !x.votedReady then s.selfAbort 0x10
    else
      let t := stamp + fld d 3 1 * 10000000
      ({ s with sleep := { s.sleep with agreed := true, commitNet := some t } }).arm

/-- CONSENT_COMMIT_RX. -/
def execConsentCommitRx (dt : Nat) (s : State) : Out :=
  go ((s.elapse dt).takeConsent 2 fun d t s => s.commitIn d t)

/-- CONSENT_ABORT_RX (R314). -/
def State.abortIn (s : State) (d : List Byte) : State :=
  let x := s.sleep
  let current := x.round = some (fld d 2 1)
  let s := s.takeRound d
  if !current || s.committedSleep then s
  else
    let s := (s.unagree.count (tlSleep 11)).note (ev 9 1)
      (le 4 (fld d 2 1) ++ le 1 (fld d 1 1) ++ le 1 (fld d 3 1))
    let r := if wkRole x.conf = 2 then s.sleep.round.map fun n => (n + 1) % 256 else s.sleep.round
    ({ s with sleep := { s.sleep with round := r } }).fillConsent

/-- CONSENT_ABORT_RX. -/
def execConsentAbortRx (dt : Nat) (s : State) : Out :=
  go ((s.elapse dt).takeConsent 4 fun d _ s => s.abortIn d)

/-! ### Going down (R303, R319) -/

/-- Whether the standby mode is the listening one (R303). -/
def listening (c : List Byte) : Bool := (List.range 4).any fun x => wkFrameEn c x || wkPatternEn c x

/-- The hold latches take the sleep levels. -/
def sleepLevels (c : List Byte) (v : BitVec 16) : BitVec 16 :=
  let mask := BitVec.ofNat 16 (fld c 0x20 2)
  (v &&& ~~~mask) ||| (BitVec.ofNat 16 (fld c 0x22 2) &&& mask)

/-- The node goes down (R319): flash writes, with a second's wait for a feed warning to end, then the
hold latches, then FEED_EN low. -/
def State.goDown (s : State) (t : Nat) : State :=
  let s := (s.saveEnergy.count (tlSleep 12)).note (ev 9 4) (le 1 (bnat (listening s.sleep.conf)) ++ secNs t)
  let r := if s.flashHeld then s.fresh 1 else (1, s)
  let s := r.2
  let lost := if r.1 == 1 then 0 else s.flash.waitingDays
  let s := if r.1 == 1 then s.writeDeferred else s
  let w := s.sleep.record
  let s := { s with sleep := { s.sleep with
    latches := sleepLevels s.sleep.conf s.sleep.latches, feedEnA := false, feedEnB := false
    lowAt := s.now, asleep := true, record := { w with lost := lost } } }
  let s := s.mainReset false
  let off := fun (f : Feed) => { f with dom := .isolated, warn := false }
  { s with
    sys := { s.sys with stage := .standby }, feedA := off s.feedA, feedB := off s.feedB
    sleep := { s.sleep with latched := s.sleep.latched.map fun x => { x with lost := lost } } }

/-- SLEEP_COMMIT: the commit point has passed. -/
def execSleepCommit (dt : Nat) (s : State) : Out :=
  let s := s.elapse dt
  match s.sleep.commitNet with
  | some t => go (if s.sleep.agreed && s.tellerUp && t ≤ s.net + 2 then s.goDown t else s)
  | none => go s

end Sys2Proof.Machine
end

