-- ==== Sys2Proof/Machine/Feeds.lean ====
section
/-! DEFINITION. Power feeds, degraded operation and wear (chapter 13): feed warnings, the loss and the
return of a domain, the spine list's handover, memory errors and scrubbing, the lehr and its voltage
requests, and the three mailbox commands on them. -/

namespace Sys2Proof.Machine

/-! ### Feed warning (R421 to R425) -/

/-- FEED_WARN: a rail has stayed below its warning level. -/
def State.feedWarning (s : State) (d rail mv : Nat) : State :=
  let f := s.feed d
  if !s.awake || f.dom == .isolated then s
  else
    let was := f.warning
    let old := Tab.get 0 f.mins rail
    let s := s.setFeed d { f with
      warn := true, mins := Tab.set 0 f.mins rail (if old = 0 then mv else min old mv)
      warnings := if was then f.warnings else f.warnings + 1 }
    if was then s
    else (s.count (tlFeed d)).note (ev 13 0) (le 1 d ++ le 1 rail ++ le 4 mv)

/-- FEED_WARN. -/
def execFeedWarn (dt : Nat) (feed : Fin 2) (rail : Fin 3) (mv : U16) (s : State) : Out :=
  go ((s.elapse dt).feedWarning feed.val rail.val mv.toNat)

/-- A warning ends: the time is kept for the marks of R346, and deferred writes go out once no feed is
in warning (R425). -/
def State.warnOver (s : State) (d : Nat) (f : Feed) : State :=
  (s.setFeed d { f with warnTill := if f.warning then f.warnTill else s.now + 1 }).calm

/-- FEED_WARN_END: every rail has been 10 mV above its warning level for 50 µs. -/
def execFeedWarnEnd (dt : Nat) (feed : Fin 2) (s : State) : Out :=
  let s := s.elapse dt
  let d := feed.val
  go (if (s.feed d).warn then s.warnOver d { s.feed d with warn := false } else s)

/-! ### Loss of a unit and of a domain (R124, R298, R353, R381, R426 to R429, R441) -/

/-- A port stops: its link goes down, what it held is discarded, its gates close (R124). -/
def State.portGone (s : State) (p : Nat) : State :=
  (if (s.mac p).up then s.linkFall p 3 else s.flush p).setGates p 0

/-- Frames that the ports of a domain hold. -/
def State.heldBy (s : State) (gone : Nat → Bool) : Nat :=
  (s.fab.copies.filter fun c => gone c.port).length +
    ((List.range 24).filter fun p => gone p && (Tab.get none s.fab.tx p).isSome).length

/-- Inputs are lost to the pace sources and the measurement units (R24, R32, R353, R593). -/
def State.inputsGone (s : State) (ch ta : Nat → Bool) : State :=
  (((s.measRestartIf ch ta).trackerLoss ch 0).trackerLoss ch 1).axleLoss ta

/-- The spine list passes to the other gaffer where `g` issued it: missed from now on, taken over at
the first time-strand round boundary at least 2 µs later, and then on the pace strand (R427). -/
def State.spineLost (s : State) (g : Nat) : State :=
  let b := match s.par.force with | some p => ceilMul (s.net + 2000) p.round | none => s.net
  let time : SpineHold := { gaf := 1 - g, wait := some b, missed := s.net, lost := 0 }
  let pace : SpineHold := { gaf := 1 - g, wait := some 0, missed := s.paceAt, lost := 0 }
  if !s.gaf.active then
    { s with gaf := { s.gaf with
      spineT := { spineHold0 with gaf := if s.gaf.spineT.gaf = g then 1 - g else s.gaf.spineT.gaf }
      spineP := { spineHold0 with gaf := if s.gaf.spineP.gaf = g then 1 - g else s.gaf.spineP.gaf } } }
  else { s with gaf := { s.gaf with
    spineT := if s.gaf.spineT.gaf = g then time else s.gaf.spineT
    spineP := if s.gaf.spineP.gaf = g then
        (if s.gaf.spineT.gaf = g then pace
         else { pace with wait := some (ceilMul (s.paceAt + 1) (paceRound s.paceBlock * 2 ^ 32)) })
      else s.gaf.spineP } }

/-- A gaffer stops: what waits at it is dropped, and its one-off actions, those on spine targets
counted as missed (R427, R520). -/
def State.gafferGone (s : State) (g : Nat) : State :=
  let mine := s.oneOffsLeft.filter fun o => s.oneOffGaf o.act = g
  let spine := mine.filter fun o =>
    (if o.act.tgt = 0xFF then o.act.domain else targetDomain o.act.tgt) = 2
  let s := { s with
    par := { s.par with oneOffs := s.oneOffsLeft.filter fun o => s.oneOffGaf o.act ≠ g }
    gaf := { s.gaf with
      waiting := s.gaf.waiting.filter fun w => s.gafOf w.ref.st w.ref.l ≠ g } }
  (s.countN (tlFeed 4) spine.length).spineLost g

/-- MDIO requests to a lost master complete with ABSENT (R124). -/
def State.mdioGone (s : State) (m : Nat) : State :=
  let s := match s.hif.held with
    | some h => if h.op = 0x0202 && fld h.body 0 1 = m then s.finish 0x0202 stAbsent [] else s
    | none => s
  { s with ports := if m = 0 then { s.ports with mdio0 := [] } else { s.ports with mdio1 := [] } }

/-- A domain is isolated: `rail` is the rail that fell, 0xFF for a worn gaffer. -/
def State.isolate (s : State) (d rail : Nat) : State :=
  let gone := fun p => portDomain p = d
  let held := s.heldBy gone
  let mask := ((List.range 24).filter gone).map (2 ^ ·)
  let s := s.gafferGone d
  let f := s.feed d
  let s := s.setFeed d { f with
    dom := .isolated, warn := false, sim := [], losses := f.losses + 1, lostNet := s.net
    lostAt := s.now, warnTill := if f.warning then s.now + 1 else f.warnTill }
  let s := ((List.range 24).filter gone).foldl State.portGone s
  let s := (s.insertion.mdioGone d).canLoss d
  let s := (s.inputsGone (fun n => inputDomain n = d) fun n => inputDomain n = d).triadLoss d
  let s := { s with lehr := if d = 0 then { s.lehr with pendA := none } else { s.lehr with pendB := none } }
  let s := (s.count (tlFeed (2 + d))).note (ev 13 1) (le 1 d ++ le 1 rail ++ secNs s.net)
  let s := s.note (ev 3 4) (le 4 mask.sum ++ le 4 held)
  let far := wkRole s.sleep.conf ≠ 0 && canDomain (wkCtrl s.sleep.conf) = d && !s.sleep.solo
  let s := if far && s.sleep.agreed && !s.committedSleep then s.selfAbort 0x11 else s
  s.calm

/-- Both feeds are below their reset levels: the main die is reset and waits for a feed (R429). -/
def State.bothLost (s : State) : State :=
  let s := s.mainReset false
  let off := fun (f : Feed) => { f with dom := .isolated, below := true, warn := false }
  let held := s.sys.porst || s.sys.sysrst
  { s with
    feedA := off s.feedA, feedB := off s.feedB
    sys := { s.sys with stage := if held then .reset else .dark } }

/-- A return is abandoned: the domain is isolated again (R431). -/
def State.abandon2 (s : State) (d : Nat) : State :=
  (s.setFeed d { s.feed d with dom := .isolated, below := true, warn := false, sim := [] }).canLoss d

/-- FEED_LOSS: a rail has fallen below its reset level. -/
def State.feedLost (s : State) (d rail : Nat) : State :=
  let f := s.feed d
  if s.sleep.asleep || f.below then s
  else if !s.awake then s.setFeed d { f with dom := .isolated, below := true, warn := false }
  else if (s.feed (1 - d)).below then s.bothLost
  else match f.dom with
    | .isolated => s.setFeed d { f with below := true }
    | .returning => s.abandon2 d
    | .present => (s.setFeed d { f with below := true }).isolate d rail

/-- FEED_LOSS. -/
def execFeedLoss (dt : Nat) (feed : Fin 2) (rail : Fin 3) (s : State) : Out :=
  go ((s.elapse dt).feedLost feed.val rail.val)

/-- BOTH_FEEDS_LOST. -/
def execBothFeedsLost (dt : Nat) (s : State) : Out :=
  let s := s.elapse dt
  go (if s.sleep.asleep || (s.feedA.below && s.feedB.below) then s else s.bothLost)

/-! ### Handover of the spine list (R427, R441) -/

/-- The next pace-strand round boundary after now. -/
def State.nextPaceRound (s : State) : Nat := ceilMul (s.paceAt + 1) (paceRound s.paceBlock * 2 ^ 32)

/-- SPINE_HANDOVER is raised: strand, boundary as network time, gaffer, actions missed. -/
def State.noteHandover (s : State) (st t : Nat) (h : SpineHold) : State :=
  s.note (ev 13 3) (le 1 st ++ secNs t ++ le 1 h.gaf ++ le 4 h.lost)

/-- Whether the pace strand runs. -/
def State.paceRuns (s : State) : Bool := s.pace.kind ≠ 0 && s.pace.started

/-- The survivor takes the time strand's spine list over; the pace strand's follows. -/
def State.takeTime (s : State) : State :=
  match s.gaf.spineT.wait with
  | none => s
  | some b =>
    if s.net + 2 < b || !s.live s.gaf.spineT.gaf then s
    else
      let s := s.spineCount
      let h := s.gaf.spineT
      let q := s.gaf.spineP
      let q := if q.wait ≠ some 0 then q
        else { q with wait := if s.paceRuns then some s.nextPaceRound else none }
      ({ s with gaf := { s.gaf with spineT := { h with wait := none }, spineP := q } }).noteHandover 0 b h

/-- The survivor takes the pace strand's spine list over. -/
def State.takePace (s : State) : State :=
  match s.gaf.spineP.wait with
  | none => s
  | some b =>
    if b = 0 || s.paceAt + 2 ^ 32 < b || !s.live s.gaf.spineP.gaf then s
    else
      let s := s.spineCount
      let h := s.gaf.spineP
      ({ s with gaf := { s.gaf with spineP := { h with wait := none } } }).noteHandover 1 s.net h

/-- SPINE_HANDOVER. -/
def execSpineHandover (dt : Nat) (st : Strand) (s : State) : Out :=
  let s := s.elapse dt
  go (match st with | .time => s.takeTime | .pace => s.takePace)

/-- A worn gaffer's domain is isolated once it issues no spine list. -/
def State.wornOut (s : State) (g : Nat) : State :=
  if s.gaf.active && (s.gaf.spineT.gaf = g || s.gaf.spineP.gaf = g) then s
  else ({ s with lehr := { s.lehr with gafRetire := none } }).isolate g 0xFF

/-- A worn gaffer hands one strand's spine list over at its boundary (R441). -/
def State.wornHandover (s : State) (g : Nat) (st : Strand) : State :=
  let t := s.gaf.spineT
  let q := s.gaf.spineP
  let new : SpineHold := { spineHold0 with gaf := 1 - g }
  let s := match st with
    | .time =>
      if t.gaf ≠ g || s.net + 2 < t.missed then s
      else
        let q := if q.gaf ≠ g then q
          else if s.paceRuns then { q with missed := s.nextPaceRound } else new
        ({ s with gaf := { s.gaf with spineT := new, spineP := q } }).noteHandover 0 t.missed new
    | .pace =>
      if t.gaf = g || q.gaf ≠ g || s.paceAt + 2 ^ 32 < q.missed then s
      else ({ s with gaf := { s.gaf with spineP := new } }).noteHandover 1 s.net new
  s.wornOut g

/-- GAFFER_RETIRE_HANDOVER; if the other gaffer has been lost meanwhile, the worn one runs on. -/
def execGafferRetireHandover (dt : Nat) (st : Strand) (s : State) : Out :=
  let s := s.elapse dt
  match s.lehr.gafRetire with
  | none => go s
  | some g =>
    go (if s.live (1 - g) then s.wornHandover g st
      else { s with
        lehr := { s.lehr with gafRetire := none, unitState := Tab.set 0 s.lehr.unitState (0x56 + g) 2 }
        sys := { s.sys with retired := Tab.set 0 s.sys.retired (0x56 + g) 0 } })

/-! ### Return of a domain (R431) -/

/-- FEED_RETURN_START: the rails have been good for 10 ms. A main die without feeds starts; else the
voltage request is repeated, the domain's reset is released, and its units are loaded. -/
def State.returnStart (s : State) (d : Nat) : State :=
  let f := s.feed d
  if s.sleep.asleep || f.dom != .isolated || Tab.get 0 s.sys.retired (0x56 + d) ≠ 0 then s
  else if !s.awake then
    let s := s.setFeed d { f with dom := .present, below := false }
    if s.sys.stage == .dark then
      let w := s.wakeRec 7 0 false
      ((({ s with sleep := { s.sleep with record := w } }).judgeWake w)).tryStart 3
    else s
  else
    let s := if f.vreq = 800 then s else s.send (.pmbus d f.vreq)
    let at_ := match s.par.force with
      | some p => if s.gaf.active then ceilMul (s.net + 1000000) p.round else s.net
      | none => s.net
    let s := s.setFeed d { f with dom := .returning, below := false, issueNet := at_ }
    (s.canReturn d).measReturn d (s.now - f.lostAt)

/-- FEED_RETURN_START. -/
def execFeedReturnStart (dt : Nat) (feed : Fin 2) (s : State) : Out :=
  go ((s.elapse dt).returnStart feed.val)

/-- RETURN_ABANDON. -/
def execReturnAbandon (dt : Nat) (feed : Fin 2) (s : State) : Out :=
  let s := s.elapse dt
  go (if (s.feed feed.val).dom == .returning then s.abandon2 feed.val else s)

/-- FEED_RETURN: the returning gaffer issues its time-strand list, and its pace-strand list from the
next pace-strand round boundary; the units rejoin. -/
def State.returned (s : State) (d : Nat) : State :=
  let f := s.feed d
  let mask := ((List.range 24).filter fun p => portDomain p = d).map (2 ^ ·)
  let from_ := if s.paceRuns then s.nextPaceRound else 0
  let s := s.setFeed d { f with dom := .present }
  let s := { s with gaf := { s.gaf with paceFrom := Tab.set 0 s.gaf.paceFrom d from_ } }
  let s := (((s.trackerBack d 0).trackerBack d 1).triadReturn).insertion
  let s := s.note (ev 3 4) (le 4 mask.sum ++ le 4 0)
  s.note (ev 13 2) (le 1 d ++ lenArg (s.now - f.lostAt))

/-- FEED_RETURN. -/
def execFeedReturn (dt : Nat) (feed : Fin 2) (s : State) : Out :=
  let s := s.elapse dt
  let f := s.feed feed.val
  go (if f.dom == .returning && f.issueNet ≤ s.net + 2 then s.returned feed.val else s)

/-! ### Memory errors (R433 to R435) -/

/-- The domain of a memory, in the order of R444. -/
def memDomain (m : Nat) : Nat :=
  if m = 3 then 0 else if m = 4 then 1 else if m = 5 ∨ m = 6 then 0 else if m = 7 ∨ m = 8 then 1
  else if 11 ≤ m ∧ m ≤ 18 then canDomain (m - 11) else 2

/-- A stored frame is lost: every copy of it not yet sent is dropped and counted. -/
def State.dropFrame (s : State) (id : Nat) : State :=
  let s := (List.range 25).foldl (fun s p =>
    let cut : Bool := match Tab.get none s.fab.tx p with | some t => decide (t.frame = id) | none => false
    let n := (s.fab.copies.filter fun c => c.port = p && c.frame = id).length
    let s := if cut then { s with fab := { s.fab with tx := Tab.set none s.fab.tx p none } } else s
    s.countN (tlPort p mTxFlush) (n + bnat cut)) s
  ({ s with fab := { s.fab with copies := s.fab.copies.filter fun c => c.frame ≠ id } }).freeFrames

/-- The packet buffer: which frame, if any, holds the word is an open value, since the manual lays no
allocation open. -/
def State.packetError (s : State) : State :=
  let r := s.fresh 16
  let n := r.1.toNat % (r.2.fab.frames.length + 1)
  match r.2.fab.frames[n]? with
  | some f => r.2.dropFrame f.id
  | none => r.2

/-- A FIFO without the entry at a physical index. -/
def CanFifo.without (q : CanFifo) (ix : Nat) : CanFifo :=
  let l := ((List.range q.count).map fun k => (q.head + k) % 64).filter (· ≠ ix)
  let es := l.map fun k => Tab.get none q.ents k
  { q with
    count := l.length
    ents := (List.range l.length).foldl (fun t k =>
      Tab.set none t ((q.head + k) % 64) (es.getD k none)) q.ents }

/-- CAN message RAM: words 0 to 63 belong to the transmit buffers, 64 to 127 and 128 to 191 to the
FIFOs' entries. -/
def State.canRamError (s : State) (c addr : Nat) : State :=
  match s.ctl c with
  | none => s
  | some x =>
    if addr < 64 then
      match x.buf addr with
      | some b => s.setCtl c (some (x.setBuf addr (some { b with
          state := .idle, outcome := 9, cancel := false })))
      | none => s
    else
      let f := addr / 64 - 1
      if f < 2 then s.setCtl c (some (x.setFifo f ((x.fifo f).without (addr % 64)))) else s

/-- What an uncorrectable error does, by memory (R435). -/
def State.memEffect (s : State) (m addr : Nat) : State :=
  if m = 0 then s.packetError
  else if m = 1 then
    let p := addr / 2048 % 4096
    if (s.port p).isSome && !s.pd.bad.contains p then { s with pd := { s.pd with bad := s.pd.bad ++ [p] } }
    else s
  else if m = 2 then
    let n := addr % 16384
    let l := s.fab.ledger
    let s := if l.bad.contains n then s
      else { s with fab := { s.fab with ledger := { l with bad := l.bad ++ [n] } } }
    (s.count (tlFab 3)).note (ev 4 0) (le 1 (n / 4096) ++ le 4 (n % 4096) ++ le 1 (n / 1024))
  else if m = 3 ∨ m = 4 then
    { s with lehr := { s.lehr with gafBad := Tab.set 0 s.lehr.gafBad ((m - 3) * 2 ^ 32 + addr) 1 } }
  else if m = 9 then (if s.tellerUp then s.tellerFall .restart else s)
  else if m = 10 then s.vaultFall
  else if 11 ≤ m ∧ m ≤ 18 then s.canRamError (m - 11) addr
  else if m = 19 then
    ({ s with twin := { s.twin with epoch := if s.quiet then none else s.twin.epoch } }).epochDrop 2
  else s

/-- An uncorrectable error is counted, reported and handled. -/
def State.memError (s : State) (m addr reader : Nat) : State :=
  if !s.awake || !s.hasDom (memDomain m) then s
  else
    ((s.count (tlFeed (8 + 2 * m))).note (ev 13 4) (le 1 (0x60 + m) ++ le 4 addr ++ le 1 reader)).memEffect
      m addr

/-- MEM_UNCORR. -/
def execMemUncorr (dt : Nat) (mem : Fin 20) (addr : Nat) (reader : Byte) (s : State) : Out :=
  go ((s.elapse dt).memError mem.val addr reader.toNat)

/-- SCRUB_PASS: the scrubber reads a word with some bits in error; it is itself the reader 0xFF. -/
def execScrubPass (dt : Nat) (mem : Fin 20) (addr bitsInError : Nat) (s : State) : Out :=
  let s := s.elapse dt
  let m := mem.val
  go (if bitsInError = 0 || !s.awake || !s.hasDom (memDomain m) then s
    else if bitsInError ≤ 2 then s.count (tlFeed (7 + 2 * m))
    else s.memError m addr 0xFF)

/-- Whether a LEHR window of a gaffer is open (R64). -/
def State.lehrOpen (s : State) (g : Nat) : Bool :=
  match s.par.force with
  | none => false
  | some p =>
    let o := s.timeOffset
    s.gaf.active && p.slack.any fun w => w.kind = 1 && w.gaf = g && w.start ≤ o && o < w.start + w.len

/-- GAFFER_WORD_REWRITE: in the gaffer's next LEHR window its words are whole again (R435). -/
def execGafferWordRewrite (dt : Nat) (g : Fin 2) (s : State) : Out :=
  let s := s.elapse dt
  go (if s.tellerUp && s.live g.val && s.lehrOpen g.val then
    { s with lehr := { s.lehr with gafBad := s.lehr.gafBad.filter fun x => x.1 / 2 ^ 32 ≠ g.val } }
    else s)

/-! ### The lehr's voltage requests (R439) -/

/-- VMAX. -/
def State.vmax (s : State) : Nat := fld s.lehr.conf 2 2

/-- A feed's PMBus request in flight. -/
def State.pend (s : State) (d : Nat) : Option Pmbus := if d = 0 then s.lehr.pendA else s.lehr.pendB

/-- Writing it. -/
def State.setPend (s : State) (d : Nat) (p : Option Pmbus) : State :=
  { s with lehr := if d = 0 then { s.lehr with pendA := p } else { s.lehr with pendB := p } }

/-- Whether the lehr may request voltage for a feed. -/
def State.canRequest (s : State) (d : Nat) : Bool :=
  bit (fld s.lehr.conf 4 1) 0 && fld s.lehr.conf d 1 ≠ 0xFF && s.live d && !(s.feed d).warning &&
    Tab.get 0 s.lehr.vstop d = 0

/-- A request, held within 800 mV and VMAX; one request of a feed at a time. -/
def State.request (s : State) (d mv : Nat) : State :=
  if (s.pend d).isSome then s
  else
    let f := s.feed d
    let want := min s.vmax (max 800 mv)
    let s := (s.setFeed d { f with vreq := want }).setPend d
      (some { prev := f.vreq, want := want, at_ := s.now })
    s.send (.pmbus d want)

/-- The result of a request. -/
def State.setRes (s : State) (d : Nat) (r : PmbusRes) : State :=
  { s with lehr := if d = 0 then { s.lehr with resA := r } else { s.lehr with resB := r } }

/-- READ_VOUT answers, or does not (R439): confirmed within 10 mV and 5 ms, waiting until 5 ms have
passed, else the previous value again. -/
def State.voltageAnswer (s : State) (d : Nat) (ack : Bool) (mv word : Nat) : State :=
  match s.pend d with
  | none => s
  | some p =>
    let close := mv ≤ p.want + 10 && p.want ≤ mv + 10
    let inTime := decide (s.now ≤ p.at_ + 5000000)
    let res := fun k => (⟨p.want, mv, word, k⟩ : PmbusRes)
    if ack && close && inTime then ((s.setPend d none).setRes d (res 0)).count (tlFeed 50)
    else if ack && decide (s.now < p.at_ + 5000000) then s
    else
      let s := (s.setPend d none).setRes d (res (if ack then 1 else 2))
      let s := (s.setFeed d { s.feed d with vreq := p.prev }).send (.pmbus d p.prev)
      ({ s with lehr := { s.lehr with vstop := Tab.set 0 s.lehr.vstop d 1 } }).note (ev 13 6)
        (le 1 d ++ le 4 p.want ++ le 4 mv ++ le 2 word)

/-- VOLTAGE_CONFIRM. -/
def execVoltageConfirm (dt : Nat) (feed : Fin 2) (ack : Bool) (readMv statusWord : U16) (s : State) :
    Out :=
  go ((s.elapse dt).voltageAnswer feed.val ack readMv.toNat statusWord.toNat)

/-! ### Spares and retirement (R440, R441) -/

/-- LEHR_ACTION: 1 voltage raised, 2 spare brought in, 3 worn, 4 voltage lowered. -/
def State.lehrAction (s : State) (u m action : Nat) : State :=
  s.note (ev 13 5) (le 1 u ++ le 4 m ++ le 1 action)

/-- A unit's state and spare as MB_LEHR_REPORT codes them. -/
def State.setUnit (s : State) (u state spare : Nat) : State :=
  { s with lehr := { s.lehr with
    unitState := Tab.set 0 s.lehr.unitState u state
    spare := if spare = 0 then s.lehr.spare else Tab.set 0 s.lehr.spare u spare } }

/-- A unit is retired until PORST_N. -/
def State.markRetired (s : State) (u : Nat) : State :=
  let s := s.setUnit u 3 0
  { s with sys := { s.sys with retired := Tab.set 0 s.sys.retired u 1 } }

/-- A core that could fill the place of core `c`. -/
def State.reserveFor (s : State) (c : Nat) : Bool :=
  allCores.any fun k => k ≠ c && (s.core k).slot.isNone && s.fit k

/-- Bringing a spare in, where the unit has one left: none where it has not. -/
def State.bringSpare (s : State) (u : Nat) (column : Bool) : Option State :=
  let used := Tab.get 0 s.lehr.spare u
  if 0x60 ≤ u ∧ u ≤ 0x73 ∧ used = 0 ∧ (column ∨ u ≠ 0x62) then some (s.setUnit u 1 1)
  else if u = 0x62 ∧ used ≠ 2 ∧ s.lehr.bankCopy.isNone ∧ s.par.activ.isNone then
    let r := s.fresh 4
    some ({ r.2 with lehr := { r.2.lehr with bankCopy := some r.1.toNat } }.setUnit u 1 2)
  else if u = 0x59 ∧ !s.twin.retired1 then
    some (({ s with twin := { s.twin with retired0 := true } }.laneTo 0 false).setUnit u 3 3)
  else if u = 0x5A ∧ !s.twin.retired0 then
    some (({ s with twin := { s.twin with retired1 := true } }.laneTo 1 false).setUnit u 3 3)
  else if 0x50 ≤ u ∧ u ≤ 0x53 ∧ (s.core (u - 0x50)).slot.isSome ∧ s.reserveFor (u - 0x50) then
    some ((s.retireCore (u - 0x50) 4).setUnit u 3 4)
  else none

/-- Retirement by kind; `false` for a unit that runs on. -/
def State.retireUnit (s : State) (u : Nat) : Bool × State :=
  if u < 0x18 then (true, (s.portGone u).markRetired u)
  else if 0x20 ≤ u ∧ u < 0x28 then (true, (s.canLossOne (u - 0x20)).markRetired u)
  else if 0x28 ≤ u ∧ u < 0x30 then
    (true, (s.markRetired u).inputsGone (fun n => n + 0x28 = u) fun _ => false)
  else if 0x30 ≤ u ∧ u < 0x38 then
    (true, (s.markRetired u).inputsGone (fun _ => false) fun n => n + 0x30 = u)
  else if 0x50 ≤ u ∧ u ≤ 0x53 then (true, (s.retireCore (u - 0x50) 4).setUnit u 3 0)
  else if u = 0x59 then
    (true, ({ s with twin := { s.twin with retired0 := true } }.laneTo 0 false).setUnit u 3 0)
  else if u = 0x5A then
    (true, ({ s with twin := { s.twin with retired1 := true } }.laneTo 1 false).setUnit u 3 0)
  else if u = 0x56 ∨ u = 0x57 then
    let g := u - 0x56
    if !s.live (1 - g) then (false, s.setUnit u 2 0)
    else
      let s := s.markRetired u
      let b := match s.par.force with | some p => ceilMul (s.net + 1) p.round | none => s.net
      let mine := fun (h : SpineHold) (v : Nat) => if h.gaf = g then { h with missed := v } else h
      let t := mine s.gaf.spineT b
      let q := if s.gaf.spineT.gaf = g then mine s.gaf.spineP 0 else mine s.gaf.spineP s.nextPaceRound
      let s := { s with
        lehr := { s.lehr with gafRetire := some g }
        gaf := { s.gaf with spineT := t, spineP := q } }
      (true, s.wornOut g)
  else (false, s.setUnit u 2 0)

/-- Whether a unit stands retired. -/
def State.isRetired (s : State) (u : Nat) : Bool :=
  Tab.get 0 s.sys.retired u ≠ 0 || (0x50 ≤ u && u ≤ 0x53 && (s.core (u - 0x50)).retired ≠ 0) ||
    (u = 0x59 && s.twin.retired0) || (u = 0x5A && s.twin.retired1)

/-- A unit is worn: LEHR_EXHAUSTED with whether it is retired (1) or runs on (0). -/
def State.worn (s : State) (u m : Nat) : State :=
  let s := s.lehrAction u m 3
  let r := s.retireUnit u
  let s := if r.1 then r.2.count (tlFeed 52) else r.2
  s.note (ev 13 7) (le 1 u ++ le 4 m ++ le 1 (bnat r.1))

/-! ### A run of the lehr (R436, R438) -/

/-- Whether a step of voltage is left for a feed. -/
def State.stepLeft (s : State) (d : Nat) : Bool :=
  s.canRequest d && ((s.feed d).vreq < s.vmax || (s.pend d).isSome)

/-- What the lehr does about one unit with a margin. -/
def State.lehrUnit (s : State) (u m : Nat) (volt column : Bool) (dom : Nat) : State :=
  if s.isRetired u then s
  else
    let s := { s with lehr := { s.lehr with margin := Tab.set 0 s.lehr.margin u (m + 1) } }
    let e := if column then min m 14 else m
    let feeds := (if dom < 2 then [dom] else [0, 1]).filter s.stepLeft
    if e ≥ 30 then s
    else if volt && !feeds.isEmpty then
      (feeds.foldl (fun s d => s.request d ((s.feed d).vreq + 5)) s).lehrAction u m 1
    else if e ≥ 15 then s
    else match s.bringSpare u column with
      | some t => (t.count (tlFeed 51)).lehrAction u m 2
      | none => s.worn u m

/-- The readings of one unit: its lowest margin, whether voltage raises it, a worn column, its
domain. -/
def State.lehrOne (s : State) (rs : List MarginReading) (u : Nat) : State :=
  let mine := rs.filter fun r => r.unit.toNat = u
  let m := mine.foldl (fun m r => min m r.margin) 100
  let dom := match mine with | r :: _ => r.domain.val | [] => 2
  if !s.hasDom dom then s
  else s.lehrUnit u m (mine.any fun r => r.voltage && r.margin < 30) (mine.any (·.wornColumn)) dom

/-- A feed whose voltage-sensitive monitors have all read 40% or more for six runs in a row has its
voltage lowered by a step. -/
def State.lehrLower (s : State) (rs : List MarginReading) (d : Nat) : State :=
  let mine := rs.filter fun r => r.voltage && r.domain.val = d
  let good := !mine.isEmpty && mine.all fun r => 40 ≤ r.margin
  let n := if good then Tab.get 0 s.lehr.good d + 1 else 0
  let s := { s with lehr := { s.lehr with good := Tab.set 0 s.lehr.good d n } }
  let f := s.feed d
  if n ≥ 6 && f.vreq > 800 && s.canRequest d && (s.pend d).isNone then
    (s.request d (f.vreq - 5)).lehrAction 0xFF (mine.foldl (fun m r => min m r.margin) 100) 4
  else s

/-- A run over the monitors' readings. -/
def State.lehr1 (s : State) (rs : List MarginReading) : State :=
  let s := (({ s with lehr := { s.lehr with
    lastNet := some s.net, lastAt := s.now, vstop := [] } }).count (tlFeed 49))
  let cap := fun (s : State) d => if s.canRequest d && (s.feed d).vreq > s.vmax then s.request d s.vmax else s
  let s := cap (cap s 0) 1
  let s := ((rs.map (·.unit.toNat)).eraseDups).foldl (fun s u => s.lehrOne rs u) s
  (s.lehrLower rs 0).lehrLower rs 1

/-- LEHR_RUN: within a minute of a start, then every ten minutes. -/
def execLehrRun (dt : Nat) (readings : List MarginReading) (s : State) : Out :=
  let s := s.elapse dt
  go (if s.tellerUp && (s.lehr.lastNet.isNone || s.lehr.lastAt + 600000000000 ≤ s.now) then
    s.lehr1 readings else s)

/-! ### Commands (R443, R523) -/

/-- MB_FEED_STATUS of one feed: the rails' values are those the monitors measure, which nothing in the
block decides; the lowest ones include the excursions reported. -/
def State.feedBytes (s : State) (d : Nat) : List Byte × State :=
  let f := s.feed d
  let state := if f.below then 2 else if f.warning then 1 else 0
  let now := fun (s : State) => let r := s.fresh 16; (r.1.toNat, r.2)
  let a := now s
  let b := now a.2
  let c := now b.2
  let low := fun (k : Nat) (x : Nat × State) =>
    let r := now x.2
    let m := Tab.get 0 f.mins k
    (min (min r.1 x.1) (if m = 0 then x.1 else m), r.2)
  let ma := low 0 (a.1, c.2)
  let mb := low 1 (b.1, ma.2)
  let mc := low 2 (c.1, mb.2)
  (le 1 state ++ zeros 1 ++ le 2 a.1 ++ le 2 b.1 ++ le 2 c.1 ++ le 2 ma.1 ++ le 2 mb.1 ++ le 2 mc.1 ++
    le 2 f.vreq ++ le 4 f.warnings ++ le 4 f.losses, mc.2.setFeed d { f with mins := [] })

/-- MB_FEED_STATUS. -/
def cmdFeedStatus : Cmd :=
  { op := 0x0B01
    shape := fun b => b.isEmpty
    run := fun _ s =>
      let a := s.feedBytes 0
      let b := a.2.feedBytes 1
      ans stOk (a.1 ++ b.1 ++ le 1 s.gaf.spineT.gaf ++ zeros 3) b.2 }

/-- MB_FEED_STATUS from the host. -/
def execMbFeedStatus (dt : Nat) (r : Req) (s : State) : Out :=
  go ((s.elapse dt).submit cmdFeedStatus r)

/-- Ranges of the lehr record. -/
def lehrOk (c : List Byte) : Bool :=
  let addr := fun o => fld c o 1 < 128 || fld c o 1 = 255
  addr 0 && addr 1 && 800 ≤ fld c 2 2 && fld c 2 2 ≤ 824 &&
    (!bit (fld c 4 1) 0 || fld c 0 1 ≠ 255 || fld c 1 1 ≠ 255)

/-- MB_LEHR_CONFIG. -/
def cmdLehrConfig : Cmd :=
  { op := 0x0B02
    shape := fun b => cfgOpts b true && cfgLen b 4 16 && (bit (fld b 0 4) 1 ||
      (fld b 8 1 < 2 && zeroAt b 9 11))
    run := fun b s =>
      let o := fld b 0 4
      let c := b.drop 4
      if bit o 1 then ans stOk s.lehr.conf s
      else if !lehrOk c then refuse stMalformed s
      else if bit o 0 && s.flashHeld then refuse stBusy s
      else
        let s := { s with lehr := { s.lehr with conf := c } }
        ans stOk c (if bit o 0 then s.persist cfLehr c else s) }

/-- MB_LEHR_CONFIG from the host. -/
def execMbLehrConfig (dt : Nat) (r : Req) (s : State) : Out :=
  go ((s.elapse dt).submit cmdLehrConfig r)

/-- A record of MB_LEHR_REPORT. -/
def State.unitBytes (s : State) (u : Nat) : List Byte :=
  let m := Tab.get 0 s.lehr.margin u
  le 2 u ++ le 1 (m - 1) ++
    le 1 (if s.isRetired u then 3 else Tab.get 0 s.lehr.unitState u) ++ le 1 (Tab.get 0 s.lehr.spare u) ++
    zeros 3

/-- MB_LEHR_REPORT: units whose margin has been read, and those retired. -/
def cmdLehrReport : Cmd :=
  { op := 0x0B03
    shape := fun b => b.isEmpty
    run := fun _ s =>
      let res := fun (r : PmbusRes) =>
        le 2 r.want ++ le 2 r.read ++ le 2 r.word ++ le 1 r.result ++ zeros 1
      let us := (List.range 0x74).filter fun u => Tab.get 0 s.lehr.margin u ≠ 0 || s.isRetired u
      ans stOk ((match s.lehr.lastNet with | some t => secNs t | none => zeros 12) ++ zeros 4 ++
        res s.lehr.resA ++ res s.lehr.resB ++ le 2 us.length ++ zeros 2 ++
        (us.map s.unitBytes).flatten) s }

/-- MB_LEHR_REPORT from the host. -/
def execMbLehrReport (dt : Nat) (r : Req) (s : State) : Out :=
  go ((s.elapse dt).submit cmdLehrReport r)

end Sys2Proof.Machine
end

