-- ==== Sys2Proof/Machine/Seeds.lean ====
section
/-! DEFINITION. Seeds (chapter 18): arming and clearing, the end of a seed, the bursts of BACKPRESSURE
and the simulated warnings of FEED_WARN. What the other types inject stands with the units they act
in. -/

namespace Sys2Proof.Machine

/-! ### PARAMS (R560, R562) -/

/-- Whether the bytes of PARAMS that a type does not list are zero. -/
def seedRsvOk (kind : Nat) (k : List Byte) : Bool :=
  match kind with
  | 1 => zeroAt k 5 3 && zeroAt k 12 12
  | 2 => zeroAt k 12 12
  | 3 => zeroAt k 9 15
  | 4 => zeroAt k 8 16
  | 5 => zeroAt k 7 1 && zeroAt k 12 12
  | 6 => zeroAt k 8 16
  | 7 => zeroAt k 12 12
  | 8 => zeroAt k 1 3 && zeroAt k 8 16
  | 9 => zeroAt k 1 3 && zeroAt k 12 12
  | _ => true

/-- Whether the fields of PARAMS lie in range. -/
def seedRangeOk (kind : Nat) (k : List Byte) : Bool :=
  let within := fun (v lo hi : Nat) => decide (lo ≤ v) && decide (v ≤ hi)
  let every := fld k (everyAt kind) 4 ≠ 0
  match kind with
  | 1 => fld k 0 1 ≤ 1 && fld k 1 1 ≤ 2 && fld k 2 1 ≠ 0 &&
      (fld k 3 1 ≤ 0x0D || fld k 3 1 = 0xFF) && (targetDomain (fld k 4 1) < 3 || fld k 4 1 = 0xFF) &&
      every
  | 2 => within (fld k 0 4) 1 (2 ^ 25 - 1) && within (fld k 4 4) 100 100000 &&
      within (fld k 8 4) 1 1000000 && fld k 4 4 < fld k 8 4 * 1000
  | 3 => within (fld k 0 4) 1 (2 ^ 17 - 1) && within (fld k 4 4) 1 1000000 && within (fld k 8 1) 1 3
  | 4 => fld k 0 1 ≤ 7 && (fld k 1 1 ≤ 63 || fld k 1 1 = 0xFF) && within (fld k 2 2) 1 1000 && every
  | 5 => within (fld k 0 4) 1 (2 ^ 25 - 1) && fld k 4 1 ≤ 1 && fld k 5 1 ≠ 0 && fld k 6 1 ≤ 1 && every
  | 6 => decide (-32768 ≤ fldInt k 0 4) && decide (fldInt k 0 4 ≤ 32767) &&
      decide (-100000 ≤ fldInt k 4 4) && decide (fldInt k 4 4 ≤ 100000)
  | 7 => fld k 0 1 ≤ 3 && fld k 1 1 ≤ 31 && (fld k 2 2 ≤ 255 || fld k 2 2 = 0xFFFF) &&
      fld k 4 4 ≠ 0 && every
  | 8 => fld k 0 1 ≤ 1 && every
  | 9 => fld k 0 1 ≤ 1 && within (fld k 4 4) 1 1000000 &&
      (fld k 8 4 = 0 || (fld k 4 4 < fld k 8 4 * 1000 && fld k 8 4 ≤ 3600000))
  | _ => false

/-! ### Life of a seed (R526, R565, R568) -/

/-- A SEED_ID skips 0 and 0xFFFF_FFFF. -/
def seedIdAfter (n : Nat) : Nat := if n + 1 ≥ 0xFFFFFFFF then 1 else n + 1

/-- A seed is armed; `seq` is the warrant's SEQ, or 0. -/
def State.seedArm (s : State) (kind dur : Nat) (k : List Byte) (seq : Nat) : State :=
  let id := s.seeds.nextId
  let s := if kind = 6 then s.paceShift (fldInt k 0 4) else s
  let x : Seed := { id := id, kind := kind, params := k, endAt := s.now + dur * 1000000000, count := 0
                    hits := 0, lastEv := none, nextAt := s.now }
  let s := { s with seeds := { s.seeds with
    armed := s.seeds.armed ++ [x], nextId := seedIdAfter id } }
  (s.count (tlSec 12)).note (ev 18 0)
    (le 4 id ++ le 1 kind ++ le 4 dur ++ le 1 s.sec.life ++ le 4 seq)

/-- A seed ends: 0 expired, 1 cleared, 2 lifecycle. What it has hit runs its course. -/
def State.seedOver (s : State) (x : Seed) (cause : Nat) : State :=
  let s := if x.kind = 6 then s.paceShift (-(fldInt x.params 0 4)) else s
  let s := { s with seeds := { s.seeds with
    armed := s.seeds.armed.filter fun y => decide (y.id ≠ x.id) } }
  (s.count (tlSec 15)).note (ev 18 2) (le 4 x.id ++ le 1 cause ++ le 4 x.hits)

/-- MB_SEED_ARM. -/
def cmdSeedArm : Cmd :=
  { op := 0x0F01
    shape := fun b => b.length = 32 && zeroAt b 1 3 && seedRsvOk (fld b 0 1) (b.drop 8)
    run := fun b s =>
      let kind := fld b 0 1
      let dur := fld b 4 4
      let k := b.drop 8
      let arm := fun (s : State) (seq : Nat) => ans stOk (le 4 s.seeds.nextId) (s.seedArm kind dur k seq)
      if !seedRangeOk kind k || dur = 0 || dur > 86400 then refuse stMalformed s
      else if s.sec.life = 0 || s.sec.life = 2 then refuse stDenied s
      else if s.sec.life = 1 then
        let r := s.takeWarrant [5] fun a =>
          bit (fld a 0 4) kind && dur ≤ fld a 4 4 && fld a 4 4 ≤ 86400 && allZero (a.drop 8)
        let s := r.2.2
        if !r.1 then refuse stWarrant s
        else if s.seeds.armed.length ≥ 8 then refuse stFull s
        else match s.payWarrant r.2.1 with
          | none => refuse stDenied s
          | some s =>
            arm s (if allZero (slice r.2.1 0x18 16) then fld r.2.1 0x28 4 else 0)
      else if s.seeds.armed.length ≥ 8 then refuse stFull s
      else arm s 0 }

/-- MB_SEED_ARM. -/
def execMbSeedArm (dt : Nat) (r : Req) (s : State) : Out := go ((s.elapse dt).submit cmdSeedArm r)

/-- MB_SEED_CLEAR. -/
def cmdSeedClear : Cmd :=
  { op := 0x0F02
    shape := fun b => b.length = 4
    run := fun b s =>
      let id := fld b 0 4
      let l := s.seeds.armed.filter fun x => decide (id = 0xFFFFFFFF) || decide (x.id = id)
      ans stOk [] (l.foldl (fun s x => s.seedOver x 1) s) }

/-- MB_SEED_CLEAR. -/
def execMbSeedClear (dt : Nat) (r : Req) (s : State) : Out := go ((s.elapse dt).submit cmdSeedClear r)

/-- SEED_END: DURATION_S of the armed seed at index `ix` has passed. -/
def execSeedEnd (dt : Nat) (ix : Fin 8) (s : State) : Out :=
  let s := s.elapse dt
  match s.seeds.armed[ix.val]? with
  | some x => go (if x.endAt ≤ s.now then s.seedOver x 0 else s)
  | none => go s

/-! ### Seeds with a period (R563, R564) -/

/-- An armed seed after its hit at index `ix`. -/
def State.setSeed (s : State) (ix : Nat) (x : Seed) : State :=
  { s with seeds := { s.seeds with armed := s.seeds.armed.set ix x } }

/-- BACKPRESSURE_HOLD: the named ports of present domains make no choice for HOLD_NS. -/
def State.holdPorts (s : State) (ix : Nat) (x : Seed) : State :=
  let ports := (List.range 25).filter fun p => bit (fld x.params 0 4) p && s.hasDom (portDomain p)
  let x := { x with nextAt := x.nextAt + fld x.params 8 4 * 1000 }
  if ports.isEmpty then s.setSeed ix x
  else
    let till := s.now + fld x.params 4 4
    let h := s.seedHit x
    let s := h.1.setSeed ix h.2
    { s with seeds := { s.seeds with
      holdUntil := ports.foldl (fun t p => Tab.upd 0 t p fun v => max v till) s.seeds.holdUntil } }

/-- BACKPRESSURE_HOLD. -/
def execBackpressureHold (dt : Nat) (ix : Fin 8) (s : State) : Out :=
  let s := (s.elapse dt).holdsOver
  match s.seeds.armed[ix.val]? with
  | some x =>
    go (if x.kind = 2 && x.nextAt ≤ s.now && s.now < x.endAt then s.holdPorts ix.val x else s)
  | none => go s

/-- The feed is in warning for LENGTH_US; entering a warning is reported with rail 0xFF and value 0. -/
def State.simulateWarn (s : State) (ix : Nat) (x : Seed) : State :=
  let d := fld x.params 0 1
  let every := fld x.params 8 4
  let next := if every = 0 then x.endAt else x.nextAt + every * 1000000
  let h := s.seedHit { x with nextAt := next }
  let s := h.1.setSeed ix h.2
  let f := s.feed d
  let was := f.warning
  let s := s.setFeed d { f with
    sim := f.sim ++ [s.now + fld x.params 4 4 * 1000]
    warnings := if was then f.warnings else f.warnings + 1 }
  if was then s else (s.count (tlFeed d)).note (ev 13 0) (le 1 d ++ le 1 0xFF ++ le 4 0)

/-- SEED_FEED_WARN_START. -/
def execSeedFeedWarnStart (dt : Nat) (ix : Fin 8) (s : State) : Out :=
  let s := s.elapse dt
  match s.seeds.armed[ix.val]? with
  | some x =>
    go (if x.kind = 9 && x.nextAt ≤ s.now && s.now < x.endAt && s.hasDom (fld x.params 0 1) then
        s.simulateWarn ix.val x
      else s)
  | none => go s

/-- SEED_FEED_WARN_END: LENGTH_US of a simulated warning of the feed has passed. -/
def execSeedFeedWarnEnd (dt : Nat) (feed : Fin 2) (s : State) : Out :=
  let s := s.elapse dt
  let d := feed.val
  let f := s.feed d
  let left := f.sim.filter fun t => decide (s.now < t)
  go (if left.length = f.sim.length then s else s.warnOver d { f with sim := left })

end Sys2Proof.Machine
end

