-- ==== Sys2Proof/Machine/Host.lean ====
section
/-! DEFINITION. The host window as a command (chapter 16): register writes, the doorbell, the interrupt
registers, delivery of the forerunner bus's writes; identity, tallies and the daybook by mailbox. -/

namespace Sys2Proof.Machine

/-! ### MB_IDENTIFY (R519, R546) -/

/-- MB_IDENTIFY. -/
def cmdIdentify : Cmd :=
  { op := 0x0001
    shape := fun b => b.isEmpty
    run := fun _ s =>
      let ldr := s.sys.stage == .loader
      let fw := if ldr then le 4 0 ++ le 1 (1 - s.sys.slot) ++ zeros 3 ++ zeros 32 ++ zeros 32
        else le 4 s.sys.version.toNat ++ le 1 s.sys.slot ++ zeros 3 ++ padTo 0 32 s.sys.fwHash ++
          padTo 0 32 s.sys.revisions
      ans stOk (le 4 s.ident ++ uidBytes ++ macBytes Config.nodeMac ++ le 1 s.sec.life ++
        le 1 s.sec.pin ++ s.rootId ++ fw) s }

/-- MB_IDENTIFY from the host. -/
def execMbIdentify (dt : Nat) (r : Req) (s : State) : Out := go ((s.elapse dt).submit cmdIdentify r)

/-! ### Tallies (R527 to R529) -/

/-- A tally read and cleared: the live value, or the snapshot. -/
def State.tlyRead (s : State) (snap : Bool) (k : Nat) : Nat × State :=
  if snap then
    (Tab.get 0 s.tly.snap k, { s with tly := { s.tly with snap := Tab.set 0 s.tly.snap k 0 } })
  else (s.tlyVal k, s.tlyClear k)

/-- The records of tallies `k` to `k + n − 1`, each read in turn. -/
def State.tlyRecords (s : State) (snap : Bool) : Nat → Nat → List Byte × State
  | _, 0 => ([], s)
  | k, n + 1 =>
    let r := s.tlyRead snap k
    let l := r.2.tlyRecords snap (k + 1) n
    (le 8 r.1 ++ l.1, l.2)

/-- MB_TALLY_READ. -/
def cmdTallyRead : Cmd :=
  { op := 0x0002
    shape := fun b => b.length = 8 && fld b 6 2 < 2
    run := fun b s =>
      let g := fld b 0 1
      let u := fld b 1 1
      let first := fld b 2 2
      let count := fld b 4 2
      let size := tlySize g u
      if g > 15 || u ≥ tlyUnits g || first ≥ size || count = 0 || count > 504 then refuse stMalformed s
      else
        let n := min count (size - first)
        let at_ := Tab.get 0 s.tly.snapAt g
        let s := if g = 13 then s.spineCount else s
        let r := s.tlyRecords (bit (fld b 6 2) 0) (tly g u first) n
        ans stOk (le 2 n ++ zeros 2 ++ le 4 size ++ (if at_ = 0 then zeros 12 else secNs (at_ - 1)) ++
          zeros 4 ++ r.1) r.2 }

/-- MB_TALLY_READ from the host. -/
def execMbTallyRead (dt : Nat) (r : Req) (s : State) : Out := go ((s.elapse dt).submit cmdTallyRead r)

/-! ### The daybook (R530 to R533) -/

/-- The 64 bytes of a daybook entry. -/
def DayEv.bytes (e : DayEv) : List Byte :=
  le 4 e.num ++ le 2 e.code ++ le 1 (bnat e.persist) ++ le 1 e.args.length ++ secNs e.time ++
    le 2 e.boot ++ zeros 2 ++ padTo 0 40 e.args

/-- What a read from number `from_` of a class returns: NEXT, SKIPPED and the entries. `next` is the
number of the entry to come. -/
def dayFrom (l : List DayEv) (next from_ most : Nat) : Nat × Nat × List DayEv :=
  let behind := (next + 2 ^ 32 - from_) % 2 ^ 32
  if behind > 2 ^ 31 then (from_, 0, [])
  else
    let have_ := min behind l.length
    let got := (l.drop (l.length - have_)).take most
    let skipped := behind - have_
    ((from_ + skipped + got.length) % 2 ^ 32, skipped, got)

/-- MB_DAYBOOK_READ. -/
def cmdDaybookRead : Cmd :=
  { op := 0x0003
    shape := fun b => b.length = 8 && zeroAt b 1 1
    run := fun b s =>
      let k := fld b 0 1
      let most := fld b 2 2
      if k > 1 || most = 0 || most > 63 then refuse stMalformed s
      else
        let r := if k = 0 then dayFrom s.day.vol s.day.volNext (fld b 4 4) most
          else dayFrom s.day.per s.day.perNext (fld b 4 4) most
        ans stOk (le 4 r.1 ++ le 4 r.2.1 ++ le 2 r.2.2.length ++ zeros 6 ++
          (r.2.2.map DayEv.bytes).flatten) s }

/-- MB_DAYBOOK_READ from the host. -/
def execMbDaybookRead (dt : Nat) (r : Req) (s : State) : Out :=
  go ((s.elapse dt).submit cmdDaybookRead r)

/-! ### Register writes (R507 to R512) -/

/-- The commands of the Nimuth set. -/
def commands : List Cmd :=
  [cmdIdentify, cmdTallyRead, cmdDaybookRead, cmdStage, cmdCommit, cmdActivate, cmdActAt, cmdMacConfig,
   cmdMdio, cmdLedgerRead, cmdPortRead, cmdPortWrite, cmdPdRing, cmdInaugConfig, cmdInaugStatus,
   cmdTimeConfig, cmdTimeStatus, cmdRestep, cmdCanWrite, cmdCanRead, cmdCanCancel, cmdCanRecover,
   cmdCanStatus] ++
  [cmdWakeConfig, cmdSleep, cmdMeasRead, cmdMeasWheel, cmdTriadStatus, cmdTriadRestart, cmdTwinConfig,
   cmdTwinStatus, cmdTwinDrill, cmdFeedStatus, cmdLehrConfig, cmdLehrReport, cmdBridgeConfig, cmdFlbRead,
   cmdFlbWrite, cmdDishonourRead, cmdPin, cmdEnrol, cmdWarrant, cmdAttest, cmdLinkPolicy, cmdFwStage,
   cmdFwSwap, cmdSeedArm, cmdSeedClear]

/-- The command of an assigned opcode. -/
def findCmd (op : Nat) : Option Cmd := commands.find? fun c => decide (c.op = op)

/-- REQ by a register write: the command stands in the request area. -/
def ring (s : State) : State := s.ringReq findCmd

/-- REGISTER_WRITE: bytes are written into the host window at an offset. -/
def execRegisterWrite (dt : Nat) (off : U16) (data : List Byte) (s : State) : Out :=
  let s := s.elapse dt
  go (if s.awake then s.hifWrite ring off.toNat data else s)

/-- DOORBELL_ACK: ACK is written; while RESP_VALID is 0 it is ignored. -/
def execDoorbellAck (dt : Nat) (s : State) : Out :=
  let s := s.elapse dt
  go (if s.awake then s.ackResp else s)

/-- INT_STATUS_CLEAR: HIF_INT_STATUS is written. -/
def execIntStatusClear (dt : Nat) (v : U32) (s : State) : Out :=
  let s := s.elapse dt
  go (if s.awake then s.clearInts (v.toNat % 256) else s)

/-- INT_MASK_WRITE: HIF_INT_MASK is written. -/
def execIntMaskWrite (dt : Nat) (v : U32) (s : State) : Out :=
  let s := s.elapse dt
  go (if s.awake then s.maskInts (v.toNat % 256) else s)

/-- FLB_WRITE_DELIVERY. -/
def execFlbWriteDelivery (dt : Nat) (s : State) : Out := go ((s.elapse dt).deliverIn ring)

/-- One gaffer clock without a command: time passes, and ports whose choice was held off choose. -/
def State.idle (s : State) : Out := go (s.elapse 1).holdsOver

end Sys2Proof.Machine
end

