-- ==== Sys2Proof/Machine/Dispatch.lean ====
section
/-! DEFINITION. What each command does to everything but the queue: one direct call of its meaning. -/

namespace Sys2Proof.Machine

/-- The effect of a command (one arm per row of the table). -/
def exec (i : Instr) (s : State) : Host.Outcome State Fault Refusal :=
  match i with
  | .mbIdentify dt r => Sys2Proof.Machine.execMbIdentify dt r s
  | .doorbellAck dt => Sys2Proof.Machine.execDoorbellAck dt s
  | .intStatusClear dt v => Sys2Proof.Machine.execIntStatusClear dt v s
  | .intMaskWrite dt v => Sys2Proof.Machine.execIntMaskWrite dt v s
  | .portWindowPin dt port => Sys2Proof.Machine.execPortWindowPin dt port s
  | .portWindowRelease dt => Sys2Proof.Machine.execPortWindowRelease dt s
  | .registerWrite dt off data => Sys2Proof.Machine.execRegisterWrite dt off data s
  | .mbTallyRead dt r => Sys2Proof.Machine.execMbTallyRead dt r s
  | .mbDaybookRead dt r => Sys2Proof.Machine.execMbDaybookRead dt r s
  | .mbParisonStage dt r => Sys2Proof.Machine.execMbParisonStage dt r s
  | .mbParisonCommit dt r => Sys2Proof.Machine.execMbParisonCommit dt r s
  | .mbParisonActivate dt r => Sys2Proof.Machine.execMbParisonActivate dt r s
  | .parisonActivateCancel dt r => Sys2Proof.Machine.execParisonActivateCancel dt r s
  | .mbActAt dt r => Sys2Proof.Machine.execMbActAt dt r s
  | .mbMacConfig dt r => Sys2Proof.Machine.execMbMacConfig dt r s
  | .mbMdio dt r => Sys2Proof.Machine.execMbMdio dt r s
  | .mdioFrameComplete dt master ack data => Sys2Proof.Machine.execMdioFrameComplete dt master ack data s
  | .mbLedgerRead dt r => Sys2Proof.Machine.execMbLedgerRead dt r s
  | .mbPortRead dt r => Sys2Proof.Machine.execMbPortRead dt r s
  | .mbPortWrite dt r => Sys2Proof.Machine.execMbPortWrite dt r s
  | .mbPdRing dt r => Sys2Proof.Machine.execMbPdRing dt r s
  | .mbInaugConfig dt r => Sys2Proof.Machine.execMbInaugConfig dt r s
  | .mbInaugStatus dt r => Sys2Proof.Machine.execMbInaugStatus dt r s
  | .mbTimeConfig dt r => Sys2Proof.Machine.execMbTimeConfig dt r s
  | .mbTimeStatus dt r => Sys2Proof.Machine.execMbTimeStatus dt r s
  | .restepMaster dt r => Sys2Proof.Machine.execRestepMaster dt r s
  | .restepSet dt r => Sys2Proof.Machine.execRestepSet dt r s
  | .mbCanWrite dt r => Sys2Proof.Machine.execMbCanWrite dt r s
  | .mbCanRead dt r => Sys2Proof.Machine.execMbCanRead dt r s
  | .mbCanCancel dt r => Sys2Proof.Machine.execMbCanCancel dt r s
  | .mbCanRecover dt r => Sys2Proof.Machine.execMbCanRecover dt r s
  | .mbCanStatus dt r => Sys2Proof.Machine.execMbCanStatus dt r s
  | .mbWakeConfig dt r => Sys2Proof.Machine.execMbWakeConfig dt r s
  | .sleepConsentStatus dt r => Sys2Proof.Machine.execSleepConsentStatus dt r s
  | .voteReady dt r => Sys2Proof.Machine.execVoteReady dt r s
  | .voteAwake dt r => Sys2Proof.Machine.execVoteAwake dt r s
  | .mbMeasRead dt r => Sys2Proof.Machine.execMbMeasRead dt r s
  | .mbMeasWheel dt r => Sys2Proof.Machine.execMbMeasWheel dt r s
  | .mbTriadStatus dt r => Sys2Proof.Machine.execMbTriadStatus dt r s
  | .mbTriadRestart dt r => Sys2Proof.Machine.execMbTriadRestart dt r s
  | .mbTwinConfig dt r => Sys2Proof.Machine.execMbTwinConfig dt r s
  | .mbTwinStatus dt r => Sys2Proof.Machine.execMbTwinStatus dt r s
  | .mbTwinDrill dt r => Sys2Proof.Machine.execMbTwinDrill dt r s
  | .mbFeedStatus dt r => Sys2Proof.Machine.execMbFeedStatus dt r s
  | .mbLehrConfig dt r => Sys2Proof.Machine.execMbLehrConfig dt r s
  | .mbLehrReport dt r => Sys2Proof.Machine.execMbLehrReport dt r s
  | .mbBridgeConfig dt r => Sys2Proof.Machine.execMbBridgeConfig dt r s
  | .mbFlbRead dt r => Sys2Proof.Machine.execMbFlbRead dt r s
  | .mbFlbWrite dt r => Sys2Proof.Machine.execMbFlbWrite dt r s
  | .mbDishonourRead dt r => Sys2Proof.Machine.execMbDishonourRead dt r s
  | .mbPinBehaviour dt r => Sys2Proof.Machine.execMbPinBehaviour dt r s
  | .enrolGenerate dt r => Sys2Proof.Machine.execEnrolGenerate dt r s
  | .enrolCert dt r => Sys2Proof.Machine.execEnrolCert dt r s
  | .enrolReadCert dt r => Sys2Proof.Machine.execEnrolReadCert dt r s
  | .warrantChallenge dt r => Sys2Proof.Machine.execWarrantChallenge dt r s
  | .warrantStage dt r => Sys2Proof.Machine.execWarrantStage dt r s
  | .warrantApply dt r => Sys2Proof.Machine.execWarrantApply dt r s
  | .warrantClear dt r => Sys2Proof.Machine.execWarrantClear dt r s
  | .attestSign dt r => Sys2Proof.Machine.execAttestSign dt r s
  | .attestRead dt r => Sys2Proof.Machine.execAttestRead dt r s
  | .mbLinkPolicy dt r => Sys2Proof.Machine.execMbLinkPolicy dt r s
  | .mbFwStage dt r => Sys2Proof.Machine.execMbFwStage dt r s
  | .mbFwSwap dt r => Sys2Proof.Machine.execMbFwSwap dt r s
  | .mbSeedArm dt r => Sys2Proof.Machine.execMbSeedArm dt r s
  | .mbSeedClear dt r => Sys2Proof.Machine.execMbSeedClear dt r s
  | .nop dt src => Sys2Proof.Machine.execNop dt src s
  | .openGate dt src => Sys2Proof.Machine.execOpenGate dt src s
  | .closeGate dt src => Sys2Proof.Machine.execCloseGate dt src s
  | .publishPort dt src => Sys2Proof.Machine.execPublishPort dt src s
  | .samplePort dt src => Sys2Proof.Machine.execSamplePort dt src s
  | .canArm dt src => Sys2Proof.Machine.execCanArm dt src s
  | .sdCapture dt src => Sys2Proof.Machine.execSdCapture dt src s
  | .tachLatch dt src => Sys2Proof.Machine.execTachLatch dt src s
  | .dinSample dt src => Sys2Proof.Machine.execDinSample dt src s
  | .doutDrive dt src => Sys2Proof.Machine.execDoutDrive dt src s
  | .taskRelease dt src => Sys2Proof.Machine.execTaskRelease dt src s
  | .escrowSeal dt src => Sys2Proof.Machine.execEscrowSeal dt src s
  | .tallySnap dt src => Sys2Proof.Machine.execTallySnap dt src s
  | .mark dt src => Sys2Proof.Machine.execMark dt src s
  | .zeroCrossing dt trk => Sys2Proof.Machine.execZeroCrossing dt trk s
  | .paceHoldEnd dt => Sys2Proof.Machine.execPaceHoldEnd dt s
  | .crossingTimeout dt => Sys2Proof.Machine.execCrossingTimeout dt s
  | .coastingLimitExpiry dt => Sys2Proof.Machine.execCoastingLimitExpiry dt s
  | .dcRuleExpiry dt => Sys2Proof.Machine.execDcRuleExpiry dt s
  | .tachEdge dt inp forward legal => Sys2Proof.Machine.execTachEdge dt inp forward legal s
  | .tachRejoin dt inp => Sys2Proof.Machine.execTachRejoin dt inp s
  | .tachSilenceTimeout dt inp => Sys2Proof.Machine.execTachSilenceTimeout dt inp s
  | .standstillTimeout dt => Sys2Proof.Machine.execStandstillTimeout dt s
  | .timeStrandResume dt => Sys2Proof.Machine.execTimeStrandResume dt s
  | .activation dt => Sys2Proof.Machine.execActivation dt s
  | .parisonLoadComplete dt => Sys2Proof.Machine.execParisonLoadComplete dt s
  | .coldStrandStart dt => Sys2Proof.Machine.execColdStrandStart dt s
  | .frameReceive dt f => Sys2Proof.Machine.execFrameReceive dt f s
  | .ledgerRewriteComplete dt way bucket => Sys2Proof.Machine.execLedgerRewriteComplete dt way bucket s
  | .pdFrameArrival dt => Sys2Proof.Machine.execPdFrameArrival dt s
  | .sinkTimeout dt port => Sys2Proof.Machine.execSinkTimeout dt port s
  | .frameTxEnd dt port => Sys2Proof.Machine.execFrameTxEnd dt port s
  | .hrxDescriptorReread dt ring descs => Sys2Proof.Machine.execHrxDescriptorReread dt ring descs s
  | .hostRxComplete dt ring => Sys2Proof.Machine.execHostRxComplete dt ring s
  | .hostTxPoll dt ring descs => Sys2Proof.Machine.execHostTxPoll dt ring descs s
  | .hostTxFetchComplete dt ring data => Sys2Proof.Machine.execHostTxFetchComplete dt ring data s
  | .hostTxResume dt => Sys2Proof.Machine.execHostTxResume dt s
  | .msixHoldoffExpiry dt ring => Sys2Proof.Machine.execMsixHoldoffExpiry dt ring s
  | .linkUp dt port mbps => Sys2Proof.Machine.execLinkUp dt port mbps s
  | .linkDown dt port cause => Sys2Proof.Machine.execLinkDown dt port cause s
  | .relaySettleExpiry dt line => Sys2Proof.Machine.execRelaySettleExpiry dt line s
  | .helloSend dt port => Sys2Proof.Machine.execHelloSend dt port s
  | .helloRx dt port mac periodMs fast => Sys2Proof.Machine.execHelloRx dt port mac periodMs fast s
  | .helloLoss dt port => Sys2Proof.Machine.execHelloLoss dt port s
  | .topologyRx dt port t => Sys2Proof.Machine.execTopologyRx dt port t s
  | .settleExpiry dt => Sys2Proof.Machine.execSettleExpiry dt s
  | .rebinding dt => Sys2Proof.Machine.execRebinding dt s
  | .fastModeExit dt => Sys2Proof.Machine.execFastModeExit dt s
  | .optrnApply dt => Sys2Proof.Machine.execOptrnApply dt s
  | .syncRx dt m => Sys2Proof.Machine.execSyncRx dt m s
  | .followUpRx dt m => Sys2Proof.Machine.execFollowUpRx dt m s
  | .announceRx dt m => Sys2Proof.Machine.execAnnounceRx dt m s
  | .pdelayReqRx dt m => Sys2Proof.Machine.execPdelayReqRx dt m s
  | .pdelayRespRx dt m => Sys2Proof.Machine.execPdelayRespRx dt m s
  | .pdelayRespFollowUpRx dt m => Sys2Proof.Machine.execPdelayRespFollowUpRx dt m s
  | .signalingRx dt m logSync logPdelay => Sys2Proof.Machine.execSignalingRx dt m logSync logPdelay s
  | .delayReqRx dt m => Sys2Proof.Machine.execDelayReqRx dt m s
  | .timeMessageDue dt port kind => Sys2Proof.Machine.execTimeMessageDue dt port kind s
  | .timeMessageDeparture dt port => Sys2Proof.Machine.execTimeMessageDeparture dt port s
  | .announceTimeout dt => Sys2Proof.Machine.execAnnounceTimeout dt s
  | .syncTimeout dt => Sys2Proof.Machine.execSyncTimeout dt s
  | .frozenEnd dt => Sys2Proof.Machine.execFrozenEnd dt s
  | .restepSetBoundary dt => Sys2Proof.Machine.execRestepSetBoundary dt s
  | .rtcWrite dt => Sys2Proof.Machine.execRtcWrite dt s
  | .tick125us dt => Sys2Proof.Machine.execTick125us dt s
  | .twinActTimeout dt => Sys2Proof.Machine.execTwinActTimeout dt s
  | .canCommitPoint dt c => Sys2Proof.Machine.execCanCommitPoint dt c s
  | .canArbitrationLost dt c => Sys2Proof.Machine.execCanArbitrationLost dt c s
  | .canTxComplete dt c tdc => Sys2Proof.Machine.execCanTxComplete dt c tdc s
  | .canFrameError dt c kind sending dominantSeen tdc => Sys2Proof.Machine.execCanFrameError dt c kind sending dominantSeen tdc s
  | .canFrameReceive dt c f age => Sys2Proof.Machine.execCanFrameReceive dt c f age s
  | .canRecoveryComplete dt c => Sys2Proof.Machine.execCanRecoveryComplete dt c s
  | .canBusJoin dt c => Sys2Proof.Machine.execCanBusJoin dt c s
  | .acquireRead dt c fifo => Sys2Proof.Machine.execAcquireRead dt c fifo s
  | .releaseWrite dt c fifo v => Sys2Proof.Machine.execReleaseWrite dt c fifo v s
  | .consentVoteRx dt => Sys2Proof.Machine.execConsentVoteRx dt s
  | .consentCommitRx dt => Sys2Proof.Machine.execConsentCommitRx dt s
  | .consentAbortRx dt => Sys2Proof.Machine.execConsentAbortRx dt s
  | .sleepCommit dt => Sys2Proof.Machine.execSleepCommit dt s
  | .stayAwakeExpiry dt => Sys2Proof.Machine.execStayAwakeExpiry dt s
  | .soloFallback dt => Sys2Proof.Machine.execSoloFallback dt s
  | .wakePattern dt x => Sys2Proof.Machine.execWakePattern dt x s
  | .wakeFrame dt x f => Sys2Proof.Machine.execWakeFrame dt x f s
  | .wakeFrameErr dt x => Sys2Proof.Machine.execWakeFrameErr dt x s
  | .wakePin dt pin rising => Sys2Proof.Machine.execWakePin dt pin rising s
  | .wakeAlarm dt => Sys2Proof.Machine.execWakeAlarm dt s
  | .latchedWakeRelease dt => Sys2Proof.Machine.execLatchedWakeRelease dt s
  | .tValidExpiry dt x => Sys2Proof.Machine.execTValidExpiry dt x s
  | .vkaLoss dt => Sys2Proof.Machine.execVkaLoss dt s
  | .sdFilterOutput dt ch raw => Sys2Proof.Machine.execSdFilterOutput dt ch raw s
  | .sdStuck dt ch => Sys2Proof.Machine.execSdStuck dt ch s
  | .sdRecovery dt ch => Sys2Proof.Machine.execSdRecovery dt ch s
  | .gridSample dt => Sys2Proof.Machine.execGridSample dt s
  | .energySave dt => Sys2Proof.Machine.execEnergySave dt s
  | .taskEnd dt writes => Sys2Proof.Machine.execTaskEnd dt writes s
  | .taskDeadline dt => Sys2Proof.Machine.execTaskDeadline dt s
  | .triadMismatch dt m => Sys2Proof.Machine.execTriadMismatch dt m s
  | .resyncStart dt => Sys2Proof.Machine.execResyncStart dt s
  | .resyncSelftestFail dt => Sys2Proof.Machine.execResyncSelftestFail dt s
  | .resyncCheckFail dt => Sys2Proof.Machine.execResyncCheckFail dt s
  | .triadResync dt => Sys2Proof.Machine.execTriadResync dt s
  | .assay dt reported => Sys2Proof.Machine.execAssay dt reported s
  | .escrowSnapshot dt => Sys2Proof.Machine.execEscrowSnapshot dt s
  | .epochReceive dt bytes complete => Sys2Proof.Machine.execEpochReceive dt bytes complete s
  | .heartbeatRx dt h => Sys2Proof.Machine.execHeartbeatRx dt h s
  | .boundaryJudgement dt peerAct => Sys2Proof.Machine.execBoundaryJudgement dt peerAct s
  | .takeoverComplete dt => Sys2Proof.Machine.execTakeoverComplete dt s
  | .beaconSend dt => Sys2Proof.Machine.execBeaconSend dt s
  | .beaconRx dt port b => Sys2Proof.Machine.execBeaconRx dt port b s
  | .plannedSwitchover dt => Sys2Proof.Machine.execPlannedSwitchover dt s
  | .takebackTimer dt => Sys2Proof.Machine.execTakebackTimer dt s
  | .drillDwellExpiry dt => Sys2Proof.Machine.execDrillDwellExpiry dt s
  | .pairWaitExpiry dt => Sys2Proof.Machine.execPairWaitExpiry dt s
  | .twinLane dt lane up => Sys2Proof.Machine.execTwinLane dt lane up s
  | .feedWarn dt feed rail mv => Sys2Proof.Machine.execFeedWarn dt feed rail mv s
  | .feedWarnEnd dt feed => Sys2Proof.Machine.execFeedWarnEnd dt feed s
  | .feedLoss dt feed rail => Sys2Proof.Machine.execFeedLoss dt feed rail s
  | .bothFeedsLost dt => Sys2Proof.Machine.execBothFeedsLost dt s
  | .feedReturnStart dt feed => Sys2Proof.Machine.execFeedReturnStart dt feed s
  | .returnAbandon dt feed => Sys2Proof.Machine.execReturnAbandon dt feed s
  | .feedReturn dt feed => Sys2Proof.Machine.execFeedReturn dt feed s
  | .spineHandover dt st => Sys2Proof.Machine.execSpineHandover dt st s
  | .gafferRetireHandover dt st => Sys2Proof.Machine.execGafferRetireHandover dt st s
  | .lehrRun dt readings => Sys2Proof.Machine.execLehrRun dt readings s
  | .voltageConfirm dt feed ack readMv statusWord => Sys2Proof.Machine.execVoltageConfirm dt feed ack readMv statusWord s
  | .ledgerBankSwitch dt => Sys2Proof.Machine.execLedgerBankSwitch dt s
  | .scrubPass dt mem addr bitsInError => Sys2Proof.Machine.execScrubPass dt mem addr bitsInError s
  | .memUncorr dt mem addr reader => Sys2Proof.Machine.execMemUncorr dt mem addr reader s
  | .tellerRestartComplete dt => Sys2Proof.Machine.execTellerRestartComplete dt s
  | .flbInboundRead dt addr be lock => Sys2Proof.Machine.execFlbInboundRead dt addr be lock s
  | .flbInboundWrite dt addr be data lock => Sys2Proof.Machine.execFlbInboundWrite dt addr be data lock s
  | .pageSwap dt => Sys2Proof.Machine.execPageSwap dt s
  | .flbFetchComplete dt slot => Sys2Proof.Machine.execFlbFetchComplete dt slot s
  | .flbSlotExpiry dt slot => Sys2Proof.Machine.execFlbSlotExpiry dt slot s
  | .flbWriteDelivery dt => Sys2Proof.Machine.execFlbWriteDelivery dt s
  | .flbBusGrant dt => Sys2Proof.Machine.execFlbBusGrant dt s
  | .flbOutboundResponse dt resp data => Sys2Proof.Machine.execFlbOutboundResponse dt resp data s
  | .flbOutboundTimeout dt => Sys2Proof.Machine.execFlbOutboundTimeout dt s
  | .flbLock dt => Sys2Proof.Machine.execFlbLock dt s
  | .flbSideband dt inp level => Sys2Proof.Machine.execFlbSideband dt inp level s
  | .flbPoll dt entry result cause => Sys2Proof.Machine.execFlbPoll dt entry result cause s
  | .trafficStorePresentation dt => Sys2Proof.Machine.execTrafficStorePresentation dt s
  | .keyInitRx dt m => Sys2Proof.Machine.execKeyInitRx dt m s
  | .keyRespRx dt m => Sys2Proof.Machine.execKeyRespRx dt m s
  | .keyConfirmRx dt m => Sys2Proof.Machine.execKeyConfirmRx dt m s
  | .keyDoneRx dt m => Sys2Proof.Machine.execKeyDoneRx dt m s
  | .keyNextRx dt m => Sys2Proof.Machine.execKeyNextRx dt m s
  | .keyNextAckRx dt m => Sys2Proof.Machine.execKeyNextAckRx dt m s
  | .keyAbortRx dt m => Sys2Proof.Machine.execKeyAbortRx dt m s
  | .vaultOperationComplete dt ix => Sys2Proof.Machine.execVaultOperationComplete dt ix s
  | .keyingRetransmitTimeout dt link => Sys2Proof.Machine.execKeyingRetransmitTimeout dt link s
  | .keyingRetry dt link => Sys2Proof.Machine.execKeyingRetry dt link s
  | .rekeyTimer dt link => Sys2Proof.Machine.execRekeyTimer dt link s
  | .secTrng dt test => Sys2Proof.Machine.execSecTrng dt test s
  | .drbgReseed dt => Sys2Proof.Machine.execDrbgReseed dt s
  | .porstNAssert dt lowNs => Sys2Proof.Machine.execPorstNAssert dt lowNs s
  | .porstNRelease dt bootSrc hostsel pref sfdp => Sys2Proof.Machine.execPorstNRelease dt bootSrc hostsel pref sfdp s
  | .sysrstNAssert dt lowNs => Sys2Proof.Machine.execSysrstNAssert dt lowNs s
  | .sysrstNRelease dt => Sys2Proof.Machine.execSysrstNRelease dt s
  | .boot dt => Sys2Proof.Machine.execBoot dt s
  | .defaultParison dt => Sys2Proof.Machine.execDefaultParison dt s
  | .fwSwap dt => Sys2Proof.Machine.execFwSwap dt s
  | .fwSwapComplete dt => Sys2Proof.Machine.execFwSwapComplete dt s
  | .fwRevert dt => Sys2Proof.Machine.execFwRevert dt s
  | .seedEnd dt ix => Sys2Proof.Machine.execSeedEnd dt ix s
  | .backpressureHold dt ix => Sys2Proof.Machine.execBackpressureHold dt ix s
  | .seedFeedWarnStart dt ix => Sys2Proof.Machine.execSeedFeedWarnStart dt ix s
  | .seedFeedWarnEnd dt feed => Sys2Proof.Machine.execSeedFeedWarnEnd dt feed s
  | .flbLockRelease dt => Sys2Proof.Machine.execFlbLockRelease dt s
  | .wakeValid dt x => Sys2Proof.Machine.execWakeValid dt x s
  | .feedGood dt feed => Sys2Proof.Machine.execFeedGood dt feed s
  | .tellerTakesFrame dt => Sys2Proof.Machine.execTellerTakesFrame dt s
  | .gafferWordRewrite dt g => Sys2Proof.Machine.execGafferWordRewrite dt g s
  | .vaultRestart dt => Sys2Proof.Machine.execVaultRestart dt s
  | .triadRestartLoad dt => Sys2Proof.Machine.execTriadRestartLoad dt s
  | .portWindowReady dt => Sys2Proof.Machine.execPortWindowReady dt s
  | .blockLoss dt port => Sys2Proof.Machine.execBlockLoss dt port s

end Sys2Proof.Machine
end

