-- ==== Sys2Proof/Safety.lean ====
section
/-! DEFINITION. The terms in which statements speak of a safe run: the mailbox between commands, what
an answer is, the pins that follow the state, and the canonical form of the host window's areas. -/

namespace Sys2Proof

/-- A request whose header agrees with its body: LENGTH is the body's, at most 4,064, and the reserved
header bytes are zero (R511, R514 steps 1 and 2). -/
def Req.plain (r : Req) : Prop :=
  r.len.toNat = r.body.length ∧ r.body.length ≤ 4064 ∧ Machine.allZero (r.rsv.take 20) = true

namespace Machine

/-- The mailbox waits for a request (R512): the main die runs, the teller serves, and no command or
response is pending. -/
def State.mbxFree (s : State) : Prop :=
  s.awake = true ∧ s.hif.ready = true ∧ s.hif.reqBusy = false ∧ s.hif.exec = false ∧
    s.hif.respValid = false ∧ s.sys.stage ≠ .loader

/-- The response to request `r` of opcode `op` stands in the response area with this status and body,
RESP_VALID set and the mailbox's other bits clear (R509, R511, R512). -/
def State.answered (t : State) (op : Nat) (r : Req) (status : Nat) (body : List Byte) : Prop :=
  t.hif.respValid = true ∧ t.hif.exec = false ∧ t.hif.reqBusy = false ∧
    t.hif.lastStatus = BitVec.ofNat 16 status ∧ t.hif.mbxSeq = r.seq ∧
    memRead t.hif.resp 0 (32 + body.length) =
      respHeader op r.tag.toNat body.length r.seq.toNat status ++ body

/-- The pins agree with the state they show: HOST_INT_N with the enabled status bits (R510), the
insertion controls with what asks for them (R92), TWIN_ACT only while the role holds it (R393). -/
def State.PinsRight (s : State) : Prop :=
  s.hif.hostInt = s.hostIntLevel ∧ s.inaug.insA = s.inserted 0 ∧ s.inaug.insB = s.inserted 1 ∧
    (s.twin.act = true → s.actHolds = true)

/-- Both areas of the host window are in canonical form. -/
def State.windowWf (s : State) : Prop := Mem.wf s.hif.req = true ∧ Mem.wf s.hif.resp = true

/-! ### What a command leaves as it was -/

/-- The parts of the state, as frames name them. -/
inductive Part where
  | mailbox | interrupts | clock | tallies | daybook | outputs | system | flash | feeds | lehr | parison
  | trackers | pace | gaffer | ports | fabric | store | inaug | time | can | sleep | measure | triad
  | twin | bridge | vault | seeds
deriving DecidableEq, Repr

/-- A part of the state holds in `t` what it held in `s`. The pins that are recomputed after every
command (HOST_INT_N, BB_INS_A, BB_INS_B with their relay settle times, TWIN_ACT) are compared through
what they show, not here; the clock compares what is left once time has passed, the count of open
values taken. -/
def State.same (s t : State) : Part → Prop
  | .mailbox => { t.hif with intStatus := 0, intMask := 0, hostInt := false } =
      { s.hif with intStatus := 0, intMask := 0, hostInt := false }
  | .interrupts => t.hif.intStatus = s.hif.intStatus ∧ t.hif.intMask = s.hif.intMask
  | .clock => t.clk.free = s.clk.free
  | .tallies => t.tly = s.tly
  | .daybook => t.day = s.day
  | .outputs => t.sent = s.sent
  | .system => t.sys = s.sys
  | .flash => t.flash = s.flash
  | .feeds => t.feedA = s.feedA ∧ t.feedB = s.feedB
  | .lehr => t.lehr = s.lehr
  | .parison => t.par = s.par
  | .trackers => t.trk = s.trk
  | .pace => t.pace = s.pace
  | .gaffer => t.gaf = s.gaf
  | .ports => t.ports = s.ports
  | .fabric => t.fab = s.fab
  | .store => t.pd = s.pd
  | .inaug => { t.inaug with insA := false, insB := false, relayA := none, relayB := none } =
      { s.inaug with insA := false, insB := false, relayA := none, relayB := none }
  | .time => t.time = s.time
  | .can => t.can = s.can
  | .sleep => t.sleep = s.sleep
  | .measure => t.meas = s.meas
  | .triad => t.triad = s.triad
  | .twin => { t.twin with act := false } = { s.twin with act := false }
  | .bridge => t.bridge = s.bridge
  | .vault => t.sec = s.sec
  | .seeds => t.seeds = s.seeds

/-- What the answer to a mailbox command touches: the mailbox with its vector, the count of commands,
and the message of the vector. -/
def answerParts : List Part := [.mailbox, .interrupts, .tallies, .outputs]

/-- What entering an event touches: the daybook and its vectors, the writes that wait for the flash,
and their counts. -/
def eventParts : List Part := [.interrupts, .tallies, .daybook, .outputs, .flash]

/-- Every part. -/
def allParts : List Part :=
  [.mailbox, .interrupts, .clock, .tallies, .daybook, .outputs, .system, .flash, .feeds, .lehr, .parison,
   .trackers, .pace, .gaffer, .ports, .fabric, .store, .inaug, .time, .can, .sleep, .measure, .triad,
   .twin, .bridge, .vault, .seeds]

/-- What a mailbox command that enters events touches. -/
def mailParts : List Part := .mailbox :: eventParts

/-- What issuing an action touches whatever its opcode: the lists, the seeds on it, and its events. -/
def actionParts : List Part := .parison :: .gaffer :: .seeds :: eventParts

/-- The parts of the state that a command can change, whatever its operands and the state. -/
def touches : Instr → List Part
  | .mbIdentify .. | .mbDaybookRead .. | .mbLedgerRead .. | .mbInaugStatus .. | .mbTimeStatus .. |
  .mbCanStatus .. | .mbTriadStatus .. | .mbLehrReport .. =>
    mailParts
  | .doorbellAck .. =>
    [.mailbox]
  | .intStatusClear .. | .intMaskWrite .. =>
    [.interrupts]
  | .portWindowPin .. | .portWindowRelease .. | .portWindowReady .. =>
    [.store]
  | .registerWrite .. | .sleepCommit .. | .vkaLoss .. | .feedLoss .. | .bothFeedsLost .. |
  .flbWriteDelivery .. | .porstNAssert .. | .sysrstNAssert .. =>
    allParts
  | .mbTallyRead .. =>
    .gaffer :: mailParts
  | .mbParisonStage .. | .mbParisonActivate .. | .parisonActivateCancel .. | .mbActAt .. =>
    .parison :: mailParts
  | .mbParisonCommit .. =>
    .parison :: .trackers :: .fabric :: .measure :: mailParts
  | .mbMacConfig .. =>
    .clock :: .ports :: .fabric :: .inaug :: .time :: .vault :: mailParts
  | .mbMdio .. =>
    .ports :: mailParts
  | .mdioFrameComplete .. =>
    [.mailbox, .interrupts, .tallies, .outputs, .ports]
  | .mbPortRead .. | .mbPdRing .. =>
    .store :: mailParts
  | .mbPortWrite .. =>
    .clock :: .store :: mailParts
  | .mbInaugConfig .. =>
    .ports :: .inaug :: mailParts
  | .mbTimeConfig .. =>
    .time :: mailParts
  | .restepMaster .. | .restepSet .. =>
    .time :: .vault :: mailParts
  | .mbCanWrite .. | .mbCanRead .. | .mbCanCancel .. | .mbCanRecover .. =>
    .can :: mailParts
  | .mbWakeConfig .. | .sleepConsentStatus .. | .voteReady .. | .voteAwake .. | .canFrameError .. =>
    .can :: .sleep :: mailParts
  | .mbMeasRead .. =>
    .clock :: .measure :: mailParts
  | .mbMeasWheel .. =>
    .measure :: mailParts
  | .mbTriadRestart .. =>
    .triad :: mailParts
  | .mbTwinConfig .. =>
    .ports :: .fabric :: .time :: .can :: .twin :: .bridge :: .vault :: .seeds :: mailParts
  | .mbTwinStatus .. =>
    .clock :: mailParts
  | .mbTwinDrill .. =>
    .twin :: mailParts
  | .mbFeedStatus .. =>
    .clock :: .feeds :: mailParts
  | .mbLehrConfig .. =>
    .lehr :: mailParts
  | .mbBridgeConfig .. | .mbDishonourRead .. =>
    .bridge :: mailParts
  | .mbFlbRead .. =>
    .can :: .bridge :: mailParts
  | .mbFlbWrite .. | .pageSwap .. =>
    .clock :: .store :: .can :: .bridge :: mailParts
  | .mbPinBehaviour .. | .enrolGenerate .. | .enrolCert .. | .enrolReadCert .. |
  .warrantChallenge .. | .warrantStage .. | .warrantApply .. | .warrantClear .. | .attestSign ..
  | .attestRead .. | .mbLinkPolicy .. =>
    .vault :: mailParts
  | .mbFwStage .. =>
    .system :: mailParts
  | .mbFwSwap .. =>
    .system :: .vault :: mailParts
  | .mbSeedArm .. =>
    .pace :: .gaffer :: .vault :: .seeds :: mailParts
  | .mbSeedClear .. =>
    .pace :: .gaffer :: .seeds :: mailParts
  | .nop .. | .tallySnap .. | .mark .. =>
    actionParts
  | .openGate .. | .closeGate .. =>
    .ports :: .fabric :: .vault :: actionParts
  | .publishPort .. =>
    .ports :: .fabric :: .store :: .vault :: actionParts
  | .samplePort .. =>
    .store :: actionParts
  | .canArm .. =>
    .store :: .can :: actionParts
  | .sdCapture .. | .tachLatch .. | .dinSample .. =>
    .clock :: .store :: .measure :: actionParts
  | .doutDrive .. =>
    .sleep :: actionParts
  | .taskRelease .. =>
    .clock :: .store :: .triad :: .twin :: actionParts
  | .escrowSeal .. =>
    .twin :: actionParts
  | .zeroCrossing .. =>
    .trackers :: .pace :: .gaffer :: eventParts
  | .paceHoldEnd .. | .standstillTimeout .. =>
    [.pace]
  | .crossingTimeout .. =>
    .trackers :: .pace :: eventParts
  | .coastingLimitExpiry .. | .dcRuleExpiry .. | .tachSilenceTimeout .. =>
    .pace :: eventParts
  | .tachEdge .. =>
    .pace :: .gaffer :: .measure :: eventParts
  | .tachRejoin .. =>
    .pace :: .gaffer :: eventParts
  | .timeStrandResume .. =>
    [.gaffer]
  | .activation .. =>
    .trackers :: .pace :: .ports :: .fabric :: .store :: .inaug :: .can :: .sleep ::
      .measure :: .triad :: .twin :: .bridge :: .vault :: actionParts
  | .parisonLoadComplete .. =>
    .parison :: .trackers :: .fabric :: .store :: .can :: .sleep :: .measure :: .triad ::
      .bridge :: eventParts
  | .coldStrandStart .. =>
    .trackers :: .pace :: .ports :: .fabric :: .inaug :: .twin :: .vault :: actionParts
  | .frameReceive .. | .hostTxFetchComplete .. | .hostTxResume .. =>
    .ports :: .fabric :: .store :: .vault :: .seeds :: eventParts
  | .ledgerRewriteComplete .. | .tellerTakesFrame .. =>
    [.fabric]
  | .pdFrameArrival .. | .sinkTimeout .. =>
    .clock :: .store :: eventParts
  | .frameTxEnd .. | .keyNextAckRx .. | .backpressureHold .. =>
    .ports :: .fabric :: .vault :: .seeds :: eventParts
  | .hrxDescriptorReread .. | .hostRxComplete .. =>
    .ports :: .fabric :: eventParts
  | .hostTxPoll .. =>
    [.interrupts, .tallies, .outputs, .ports]
  | .msixHoldoffExpiry .. =>
    [.interrupts, .outputs, .ports, .store]
  | .linkUp .. =>
    .clock :: .ports :: .inaug :: .vault :: eventParts
  | .linkDown .. =>
    .clock :: .ports :: .fabric :: .inaug :: .time :: .vault :: eventParts
  | .relaySettleExpiry .. | .helloRx .. | .helloLoss .. =>
    .clock :: .inaug :: eventParts
  | .helloSend .. =>
    [.outputs, .inaug]
  | .topologyRx .. | .settleExpiry .. =>
    .inaug :: eventParts
  | .rebinding .. =>
    .ports :: .fabric :: .inaug :: .vault :: .seeds :: eventParts
  | .fastModeExit .. | .optrnApply .. =>
    [.inaug]
  | .syncRx .. | .followUpRx .. | .restepSetBoundary .. =>
    .clock :: .parison :: .gaffer :: .fabric :: .inaug :: .time :: eventParts
  | .announceRx .. | .pdelayReqRx .. | .pdelayRespRx .. | .pdelayRespFollowUpRx .. |
  .signalingRx .. | .announceTimeout .. | .syncTimeout .. | .frozenEnd .. =>
    .time :: eventParts
  | .delayReqRx .. | .blockLoss .. =>
    [.tallies]
  | .timeMessageDue .. | .rtcWrite .. =>
    [.time]
  | .timeMessageDeparture .. =>
    .ports :: .fabric :: .time :: .vault :: .seeds :: eventParts
  | .tick125us .. =>
    [.outputs, .time, .twin]
  | .twinActTimeout .. | .takebackTimer .. | .pairWaitExpiry .. =>
    [.twin]
  | .canCommitPoint .. | .acquireRead .. =>
    [.outputs, .can]
  | .canArbitrationLost .. =>
    [.mailbox, .interrupts, .tallies, .outputs, .can, .sleep]
  | .canTxComplete .. =>
    .clock :: .can :: .sleep :: .seeds :: mailParts
  | .canFrameReceive .. =>
    .clock :: .store :: .can :: eventParts
  | .canRecoveryComplete .. =>
    .can :: eventParts
  | .canBusJoin .. =>
    [.can]
  | .releaseWrite .. =>
    [.tallies, .can]
  | .consentVoteRx .. | .consentCommitRx .. | .consentAbortRx .. | .stayAwakeExpiry .. =>
    .can :: .sleep :: eventParts
  | .soloFallback .. | .wakePattern .. | .wakeFrame .. | .wakeFrameErr .. | .wakePin .. |
  .wakeAlarm .. =>
    [.tallies, .can, .sleep]
  | .latchedWakeRelease .. | .wakeValid .. =>
    [.sleep]
  | .tValidExpiry .. =>
    .sleep :: eventParts
  | .sdFilterOutput .. =>
    [.clock, .tallies, .trackers, .measure]
  | .sdStuck .. | .sdRecovery .. =>
    .measure :: eventParts
  | .gridSample .. =>
    [.tallies, .measure]
  | .energySave .. =>
    [.tallies, .daybook, .flash, .measure]
  | .taskEnd .. | .taskDeadline .. | .triadMismatch .. | .resyncSelftestFail .. |
  .resyncCheckFail .. =>
    .clock :: .store :: .triad :: .twin :: .seeds :: eventParts
  | .resyncStart .. =>
    [.triad]
  | .triadResync .. | .assay .. | .triadRestartLoad .. =>
    .triad :: eventParts
  | .escrowSnapshot .. =>
    .clock :: .twin :: .seeds :: eventParts
  | .epochReceive .. =>
    [.tallies, .sleep, .twin]
  | .heartbeatRx .. =>
    .clock :: .parison :: .gaffer :: .fabric :: .inaug :: .time :: .twin :: .bridge ::
      mailParts
  | .boundaryJudgement .. | .drillDwellExpiry .. =>
    .twin :: eventParts
  | .takeoverComplete .. =>
    .clock :: .ports :: .fabric :: .store :: .time :: .can :: .triad :: .twin :: .vault ::
      .seeds :: eventParts
  | .beaconSend .. =>
    [.outputs, .twin]
  | .beaconRx .. | .plannedSwitchover .. =>
    .fabric :: .time :: .twin :: .bridge :: mailParts
  | .twinLane .. =>
    .fabric :: .time :: .twin :: .vault :: eventParts
  | .feedWarn .. =>
    .feeds :: eventParts
  | .feedWarnEnd .. | .seedFeedWarnEnd .. =>
    [.daybook, .flash, .feeds]
  | .feedReturnStart .. =>
    .clock :: .system :: .feeds :: .can :: .sleep :: .measure :: .vault :: mailParts
  | .returnAbandon .. =>
    [.mailbox, .interrupts, .tallies, .outputs, .feeds, .can]
  | .feedReturn .. =>
    .feeds :: .trackers :: .gaffer :: .ports :: .inaug :: .triad :: eventParts
  | .spineHandover .. =>
    .gaffer :: eventParts
  | .gafferRetireHandover .. | .lehrRun .. =>
    .clock :: .system :: .feeds :: .lehr :: .parison :: .trackers :: .pace :: .gaffer ::
      .ports :: .fabric :: .store :: .inaug :: .time :: .can :: .sleep :: .measure :: .triad
      :: .twin :: .vault :: .seeds :: mailParts
  | .voltageConfirm .. =>
    .feeds :: .lehr :: eventParts
  | .ledgerBankSwitch .. =>
    [.lehr, .fabric]
  | .scrubPass .. | .memUncorr .. =>
    .clock :: .system :: .lehr :: .fabric :: .store :: .can :: .twin :: .bridge :: .vault ::
      mailParts
  | .tellerRestartComplete .. | .fwSwapComplete .. | .fwRevert .. =>
    .system :: .ports :: .inaug :: mailParts
  | .flbInboundRead .. | .flbInboundWrite .. | .flbBusGrant .. =>
    .bridge :: .seeds :: eventParts
  | .flbFetchComplete .. =>
    .can :: .bridge :: eventParts
  | .flbSlotExpiry .. | .flbLock .. | .flbSideband .. | .flbPoll .. =>
    .bridge :: eventParts
  | .flbOutboundResponse .. | .flbOutboundTimeout .. =>
    .bridge :: .seeds :: mailParts
  | .trafficStorePresentation .. =>
    [.tallies, .store, .bridge]
  | .keyInitRx .. | .keyRespRx .. | .keyConfirmRx .. =>
    [.outputs, .vault]
  | .keyDoneRx .. | .vaultOperationComplete .. =>
    .fabric :: .inaug :: .vault :: eventParts
  | .keyNextRx .. =>
    [.tallies, .outputs, .fabric]
  | .keyAbortRx .. | .keyingRetransmitTimeout .. | .keyingRetry .. | .rekeyTimer .. | .secTrng ..
  | .vaultRestart .. =>
    .vault :: eventParts
  | .drbgReseed .. =>
    [.vault]
  | .porstNRelease .. =>
    .clock :: .system :: .sleep :: .vault :: mailParts
  | .sysrstNRelease .. =>
    .clock :: .system :: .vault :: mailParts
  | .boot .. =>
    .system :: .lehr :: .ports :: .fabric :: .inaug :: .time :: .can :: .sleep :: .measure
      :: .twin :: .bridge :: .vault :: .seeds :: mailParts
  | .defaultParison .. =>
    .system :: .parison :: .trackers :: .fabric :: .measure :: eventParts
  | .fwSwap .. =>
    [.mailbox, .system, .can, .bridge]
  | .seedEnd .. =>
    .pace :: .gaffer :: .seeds :: eventParts
  | .seedFeedWarnStart .. =>
    .feeds :: .seeds :: eventParts
  | .flbLockRelease .. =>
    [.bridge]
  | .feedGood .. =>
    .clock :: .system :: .feeds :: .sleep :: .vault :: mailParts
  | .gafferWordRewrite .. =>
    [.lehr]

/-- `t` differs from `s` in the parts named and the clocks at most; the queue is as it was. -/
def State.onlyChanges (t s : State) (l : List Part) : Prop :=
  t.pending = s.pending ∧ ∀ p, p ∉ l → s.same t p

/-! ### The time message rows -/

/-- A row of a received time message that a time unit takes: the clocks before it and its header. -/
def timeRow : Instr → Option (Nat × TimeHdr)
  | .syncRx dt m => some (dt, m.hdr)
  | .followUpRx dt m => some (dt, m.hdr)
  | .announceRx dt m => some (dt, m.hdr)
  | .pdelayReqRx dt h => some (dt, h)
  | .pdelayRespRx dt m => some (dt, m.hdr)
  | .pdelayRespFollowUpRx dt m => some (dt, m.hdr)
  | .signalingRx dt h _ _ => some (dt, h)
  | _ => none

/-! ### The mailbox rows -/

/-- A row of the mailbox: the clocks before it, its command, and its request; a row that is one
operation of a command names that operation in its request. -/
def mailboxRow : Instr → Option (Nat × Cmd × Req)
  | .mbIdentify dt r => some (dt, cmdIdentify, r)
  | .mbTallyRead dt r => some (dt, cmdTallyRead, r)
  | .mbDaybookRead dt r => some (dt, cmdDaybookRead, r)
  | .mbParisonStage dt r => some (dt, cmdStage, r)
  | .mbParisonCommit dt r => some (dt, cmdCommit, r)
  | .mbParisonActivate dt r => some (dt, cmdActivate, r)
  | .parisonActivateCancel dt r => some (dt, cmdActivate, withOp r (r.body.headD 0 ||| 2))
  | .mbActAt dt r => some (dt, cmdActAt, r)
  | .mbMacConfig dt r => some (dt, cmdMacConfig, r)
  | .mbMdio dt r => some (dt, cmdMdio, r)
  | .mbLedgerRead dt r => some (dt, cmdLedgerRead, r)
  | .mbPortRead dt r => some (dt, cmdPortRead, r)
  | .mbPortWrite dt r => some (dt, cmdPortWrite, r)
  | .mbPdRing dt r => some (dt, cmdPdRing, r)
  | .mbInaugConfig dt r => some (dt, cmdInaugConfig, r)
  | .mbInaugStatus dt r => some (dt, cmdInaugStatus, r)
  | .mbTimeConfig dt r => some (dt, cmdTimeConfig, r)
  | .mbTimeStatus dt r => some (dt, cmdTimeStatus, r)
  | .restepMaster dt r => some (dt, cmdRestep, withOp r 1)
  | .restepSet dt r => some (dt, cmdRestep, withOp r 2)
  | .mbCanWrite dt r => some (dt, cmdCanWrite, r)
  | .mbCanRead dt r => some (dt, cmdCanRead, r)
  | .mbCanCancel dt r => some (dt, cmdCanCancel, r)
  | .mbCanRecover dt r => some (dt, cmdCanRecover, r)
  | .mbCanStatus dt r => some (dt, cmdCanStatus, r)
  | .mbWakeConfig dt r => some (dt, cmdWakeConfig, r)
  | .sleepConsentStatus dt r => some (dt, cmdSleep, withOp r 0)
  | .voteReady dt r => some (dt, cmdSleep, withOp r 1)
  | .voteAwake dt r => some (dt, cmdSleep, withOp r 2)
  | .mbMeasRead dt r => some (dt, cmdMeasRead, r)
  | .mbMeasWheel dt r => some (dt, cmdMeasWheel, r)
  | .mbTriadStatus dt r => some (dt, cmdTriadStatus, r)
  | .mbTriadRestart dt r => some (dt, cmdTriadRestart, r)
  | .mbTwinConfig dt r => some (dt, cmdTwinConfig, r)
  | .mbTwinStatus dt r => some (dt, cmdTwinStatus, r)
  | .mbTwinDrill dt r => some (dt, cmdTwinDrill, r)
  | .mbFeedStatus dt r => some (dt, cmdFeedStatus, r)
  | .mbLehrConfig dt r => some (dt, cmdLehrConfig, r)
  | .mbLehrReport dt r => some (dt, cmdLehrReport, r)
  | .mbBridgeConfig dt r => some (dt, cmdBridgeConfig, r)
  | .mbFlbRead dt r => some (dt, cmdFlbRead, r)
  | .mbFlbWrite dt r => some (dt, cmdFlbWrite, r)
  | .mbDishonourRead dt r => some (dt, cmdDishonourRead, r)
  | .mbPinBehaviour dt r => some (dt, cmdPin, r)
  | .enrolGenerate dt r => some (dt, cmdEnrol, withOp r 0)
  | .enrolCert dt r => some (dt, cmdEnrol, withOp r 1)
  | .enrolReadCert dt r => some (dt, cmdEnrol, withOp r 2)
  | .warrantChallenge dt r => some (dt, cmdWarrant, withOp r 0)
  | .warrantStage dt r => some (dt, cmdWarrant, withOp r 1)
  | .warrantApply dt r => some (dt, cmdWarrant, withOp r 2)
  | .warrantClear dt r => some (dt, cmdWarrant, withOp r 3)
  | .attestSign dt r => some (dt, cmdAttest, withOp r 0)
  | .attestRead dt r => some (dt, cmdAttest, withOp r 1)
  | .mbLinkPolicy dt r => some (dt, cmdLinkPolicy, r)
  | .mbFwStage dt r => some (dt, cmdFwStage, r)
  | .mbFwSwap dt r => some (dt, cmdFwSwap, r)
  | .mbSeedArm dt r => some (dt, cmdSeedArm, r)
  | .mbSeedClear dt r => some (dt, cmdSeedClear, r)
  | _ => none

end Machine

end Sys2Proof
end

