-- ==== Sys2Proof/Certificates/Slice0/Obligations.lean ====
section
/-! DEFINITION. The statements for the provers. In each of them `s` is the state before a command, `dt`
the gaffer clocks that pass before it, and `s.elapse dt` the state in which the command finds the
block. -/

open Sys2Proof Sys2Proof.Machine

/-! ### The block as a whole -/

/-- The step takes the front command of the queue and carries it out on the state with the queue's
rest. On an empty queue one gaffer clock passes, and ports whose choice a BACKPRESSURE seed held off
choose once their hold has ended; without such a hold nothing else changes (log entry 1). -/
def Obligations.StepRunsFrontCommand : Prop :=
  (∀ (c : Instr) (l : List Instr) (s : State), s.pending = c :: l → step s = exec c { s with pending := l }) ∧
  (∀ s : State, s.pending = [] → step s = go (s.elapse 1).holdsOver) ∧
  (∀ s : State, s.pending = [] → s.seeds.holdUntil = [] →
    ∃ t, step s = .next t ∧ t.clk.loc = s.clk.loc + 1 ∧ t.onlyChanges s [])

/-- Every command answers a next state, on every state and all operands, and changes only the parts of
the state that its row lists (`touches`): none ends a run. That a command whose condition does not
hold lets its time pass is the model's own form (log entry 2). -/
def Obligations.EveryCommandTouchesOnlyItsParts : Prop :=
  ∀ (c : Instr) (s : State), ∃ t, exec c s = .next t ∧ t.onlyChanges s (touches c)

/-- The pins agree with the state they show after every step, whatever it was: HOST_INT_N is asserted
exactly while an enabled status bit is set (R510), the insertion controls follow their requests (R92),
and TWIN_ACT is active only while the role holds it (R393). -/
def Obligations.EveryStepKeepsPins : Prop :=
  ∀ s t : State, step s = .next t → t.PinsRight

/-- At reset the pins agree with the state, the registers of the window read as R197, R509 and R510
give them, the queue is empty, and both areas of the window and the tallies hold nothing. -/
def Obligations.ResetState : Prop :=
  State.reset.PinsRight ∧ State.reset.windowWf ∧ State.reset.pending = [] ∧
    State.reset.hifReg 0x08 = 0 ∧ State.reset.hifReg 0x0C = 0 ∧ State.reset.hifReg 0x10 = 0 ∧
    State.reset.hifReg 0x14 = 0 ∧ State.reset.hifReg 0x18 = 0 ∧
    State.reset.hif.hostInt = false ∧ State.reset.twin.act = false ∧ State.reset.tly.live = []

/-! ### The mailbox (chapter 16) -/

/-- Every row of the mailbox: where the mailbox is free, the header plain and the body laid out as the
command asks, the command runs on the state in which the request stands in the request area; unless
its completion waits for an event, its response stands in the response area with the request's own
opcode, TAG and SEQUENCE (R511) and the status and body the run gives, RESP_VALID is set, and vector 0
has been raised (R512). A command whose completion waits is held in EXEC with its OPCODE, TAG and
SEQUENCE. -/
def Obligations.MailboxAnswersItsCommands : Prop :=
  ∀ (c : Instr) (dt : Nat) (k : Cmd) (r : Req) (s : State),
    mailboxRow c = some (dt, k, r) → s.mbxFree → r.plain → k.shape r.body = true →
    let a := k.run r.body ((s.elapse dt).writeReq k.op r)
    ∃ t, exec c s = .next t ∧
      if a.wait then t.hif.exec = true ∧
        t.hif.held = some { op := k.op, tag := r.tag.toNat, seq := r.seq.toNat, body := r.body }
      else t.answered k.op r a.status a.body ∧ t.hif.intStatus.getLsbD 0 = true

/-- A request whose LENGTH is above 4,064, whose reserved header bytes are not zero, or whose body is
not laid out as the command asks completes with MALFORMED and an empty body, and nothing of the
command is carried out (R514). A REQ written while READY is 0 is ignored. A REQ written while REQ_BUSY,
EXEC or RESP_VALID is 1 is an overrun: the command held and the response stay as they are, nothing of
the new command is carried out, and TLY_MBX_OVERRUN counts (R512). -/
def Obligations.MailboxRefusesMalformedAndOverrun : Prop :=
  (∀ (c : Instr) (dt : Nat) (k : Cmd) (r : Req) (s : State),
    mailboxRow c = some (dt, k, r) → s.mbxFree →
    4064 < r.len.toNat ∨ allZero (r.rsv.take 20) = false ∨ (r.plain ∧ k.shape r.body = false) →
    ∃ t, exec c s = .next t ∧ t.answered k.op r stMalformed [] ∧ t.onlyChanges s answerParts) ∧
  (∀ (c : Instr) (dt : Nat) (k : Cmd) (r : Req) (s : State),
    mailboxRow c = some (dt, k, r) → s.hif.ready = false →
    ∃ t, exec c s = .next t ∧ t.onlyChanges s [.mailbox] ∧ t.hif.resp = s.hif.resp ∧
      t.hif.respValid = s.hif.respValid ∧ t.hif.exec = s.hif.exec ∧ t.hif.held = s.hif.held) ∧
  (∀ (c : Instr) (dt : Nat) (k : Cmd) (r : Req) (s : State),
    mailboxRow c = some (dt, k, r) → s.awake = true → s.hif.ready = true →
    s.hif.reqBusy = true ∨ s.hif.exec = true ∨ s.hif.respValid = true →
    ∃ t, exec c s = .next t ∧ t.onlyChanges s (.mailbox :: eventParts) ∧
      t.hif.resp = s.hif.resp ∧ t.hif.respValid = s.hif.respValid ∧ t.hif.exec = s.hif.exec ∧
      t.hif.reqBusy = s.hif.reqBusy ∧ t.hif.held = s.hif.held ∧ t.hif.mbxSeq = s.hif.mbxSeq ∧
      t.hif.lastStatus = s.hif.lastStatus ∧
      Tab.get 0 t.tly.live (tlSec 6) = min tlyMax (Tab.get 0 s.tly.live (tlSec 6) + 1))

/-- The request and response areas: a write changes the bytes it writes and no others, what is written
reads back, and the canonical form is kept. The registers of the window by their own rows, while the
main die runs: ACK clears RESP_VALID; writing 1s clears HIF_INT_STATUS bits; HIF_INT_MASK takes what is
written; each leaves all else. -/
def Obligations.WindowTakesWrites : Prop :=
  (∀ (m : Mem) (a : Nat) (l : List Byte),
    memRead (memWrite m a l) a l.length = l ∧
    (∀ c, c < a ∨ a + l.length ≤ c → memGet (memWrite m a l) c = memGet m c) ∧
    (Mem.wf m = true → Mem.wf (memWrite m a l) = true)) ∧
  (∀ (s : State) (dt : Nat), s.awake = true → ∃ t, exec (.doorbellAck dt) s = .next t ∧
    t.hif.respValid = false ∧ t.hif.resp = s.hif.resp ∧ t.hif.exec = s.hif.exec ∧
    t.hif.held = s.hif.held ∧ t.onlyChanges s [.mailbox]) ∧
  (∀ (s : State) (dt : Nat) (v : U32), s.awake = true → ∃ t, exec (.intStatusClear dt v) s = .next t ∧
    t.hif.intStatus = s.hif.intStatus &&& ~~~(v.setWidth 8) ∧ t.hif.intMask = s.hif.intMask ∧
    t.hif.hostInt = (s.hif.intStatus &&& ~~~(v.setWidth 8) &&& s.hif.intMask != 0) ∧
    t.onlyChanges s [.interrupts]) ∧
  (∀ (s : State) (dt : Nat) (v : U32), s.awake = true → ∃ t, exec (.intMaskWrite dt v) s = .next t ∧
    t.hif.intMask = v.setWidth 8 ∧ t.hif.intStatus = s.hif.intStatus ∧
    t.hif.hostInt = (s.hif.intStatus &&& v.setWidth 8 != 0) ∧ t.onlyChanges s [.interrupts])

/-- A register write by its offset. The request area takes the bytes and returns them when read, and
its other bytes stay; a 4-byte write of HIF_INT_STATUS, HIF_INT_MASK, HIF_PORT_WINDOW or of ACK does
what the row of its own does; HIF_IDENT, HIF_MBX_SEQ, HIF_MBX_STATUS, the response area, the aperture
and all else ignore writes. -/
def Obligations.RegisterWriteByOffset : Prop :=
  (∀ (s : State) (dt : Nat) (off : U16) (data : List Byte), s.awake = true → data ≠ [] →
    0x1000 ≤ off.toNat → off.toNat + data.length ≤ 0x2000 →
    ∃ t, exec (.registerWrite dt off data) s = .next t ∧
      memRead t.hif.req (off.toNat - 0x1000) data.length = data ∧
      (∀ a, a < off.toNat - 0x1000 ∨ off.toNat - 0x1000 + data.length ≤ a →
        memGet t.hif.req a = memGet s.hif.req a) ∧
      t.hif.respValid = s.hif.respValid ∧ t.hif.resp = s.hif.resp ∧ t.onlyChanges s [.mailbox]) ∧
  (∀ (s : State) (dt : Nat) (off : U16) (data : List Byte), s.awake = true →
    (0x1C ≤ off.toNat ∧ off.toNat < 0x1000) ∨ 0x2000 ≤ off.toNat →
    ∃ t, exec (.registerWrite dt off data) s = .next t ∧ t.onlyChanges s []) ∧
  (∀ (s : State) (dt : Nat) (off : U16) (v : U32), s.awake = true →
    off = 0x00 ∨ off = 0x08 ∨ off = 0x0C →
    ∃ t, exec (.registerWrite dt off (le 4 v.toNat)) s = .next t ∧ t.onlyChanges s []) ∧
  (∀ (s : State) (dt : Nat) (v : U32),
    exec (.registerWrite dt 0x04 (le 4 2)) s = exec (.doorbellAck dt) s ∧
    exec (.registerWrite dt 0x10 (le 4 v.toNat)) s = exec (.intStatusClear dt v) s ∧
    exec (.registerWrite dt 0x14 (le 4 v.toNat)) s = exec (.intMaskWrite dt v) s ∧
    (v.getLsbD 31 = true →
      exec (.registerWrite dt 0x18 (le 4 v.toNat)) s = exec (.portWindowPin dt (v.setWidth 12)) s))

/-- The port window: a write with PIN 1 makes LATEST of a defined port the HELD slot, READY 0 until
the slot can be read, STATUS no error; for an undefined port it pins nothing and STATUS says so. A
write with PIN 0 releases. Once READY is 1 the aperture returns the slot header and then the payload,
and zeros while it is 0. A pinned slot stays whole whatever is committed to its port: WRITE becomes
LATEST, the HELD slot keeps its value, and the three slots stay distinct. -/
def Obligations.PortWindowPins : Prop :=
  (∀ (s : State) (dt : Nat) (port : BitVec 12) (p : PdPort), s.awake = true → s.port port.toNat = some p →
    ∃ t, exec (.portWindowPin dt port) s = .next t ∧
      t.pd.pin = some { port := port.toNat, slot := p.latest } ∧ t.pd.winReady = false ∧
      t.pd.winStatus = 0 ∧ t.pd.winPort = port ∧ t.pd.ports = s.pd.ports ∧ t.onlyChanges s [.store]) ∧
  (∀ (s : State) (dt : Nat) (port : BitVec 12), s.awake = true → s.port port.toNat = none →
    ∃ t, exec (.portWindowPin dt port) s = .next t ∧ t.pd.pin = none ∧ t.pd.winStatus = 1 ∧
      t.pd.winReady = false ∧ t.pd.ports = s.pd.ports ∧ t.onlyChanges s [.store]) ∧
  (∀ (s : State) (dt : Nat), s.awake = true → ∃ t, exec (.portWindowRelease dt) s = .next t ∧
    t.pd.pin = none ∧ t.pd.winReady = false ∧ t.pd.ports = s.pd.ports ∧ t.onlyChanges s [.store] ∧
    ∀ o, t.aperture o = 0) ∧
  (∀ (s : State) (dt : Nat) (q : Pin) (p : PdPort), s.pd.pin = some q → s.port q.port = some p →
    ∃ t, exec (.portWindowReady dt) s = .next t ∧ t.pd.winReady = true ∧ t.pd.pin = some q ∧
      t.onlyChanges s [.store] ∧
      (∀ o, o < 32 → t.aperture o = (p.header (p.slot q.slot)).getD o 0) ∧
      (∀ o, t.aperture (32 + o) = (p.slot q.slot).data.getD o 0)) ∧
  (∀ (p : PdPort) (h : Nat) (v : Slot), p.latest < 3 → p.write < 3 → h < 3 → p.latest ≠ p.write →
    h ≠ p.write →
    let q := p.commit (some h) v
    q.value = v ∧ q.slot h = p.slot h ∧ q.latest < 3 ∧ q.write < 3 ∧ q.latest ≠ q.write ∧ h ≠ q.write)

/-- MB_IDENTIFY returns HIF_IDENT, the UID, NODE_MAC, the lifecycle, the pin, the root key's
identifier, and the firmware's version, slot, hash and revisions. MB_TALLY_READ returns the tallies
from FIRST on, COUNT of them or fewer where the unit ends, and clears what it reads and nothing else: a
live tally restarts from its base, a snapshot from zero; TLY_MBX_CMDS counts the command itself
afterwards. MB_DAYBOOK_READ returns entries of a class in ascending order with NEXT and SKIPPED, and
removes nothing. -/
def Obligations.RecordsAreReadOut : Prop :=
  (∀ (s : State) (dt : Nat) (r : Req), s.mbxFree → r.plain → r.body = [] →
    ∃ t, exec (.mbIdentify dt r) s = .next t ∧
      t.answered 0x0001 r stOk (le 4 s.ident ++ uidBytes ++ macBytes Config.nodeMac ++
        le 1 s.sec.life ++ le 1 s.sec.pin ++ s.rootId ++ le 4 s.sys.version.toNat ++
        le 1 s.sys.slot ++ zeros 3 ++ padTo 0 32 s.sys.fwHash ++ padTo 0 32 s.sys.revisions) ∧
      t.onlyChanges s answerParts) ∧
  (∀ (s : State) (dt : Nat) (r : Req), s.mbxFree → r.plain → r.body.length = 8 → fld r.body 6 2 < 2 →
    let g := fld r.body 0 1
    let u := fld r.body 1 1
    let first := fld r.body 2 2
    let n := min (fld r.body 4 2) (tlySize g u - first)
    let snap := bit (fld r.body 6 2) 0
    let e := if g = 13 then (s.elapse dt).spineCount else s.elapse dt
    let at_ := Tab.get 0 s.tly.snapAt g
    g ≤ 15 → u < tlyUnits g → first < tlySize g u → fld r.body 4 2 ≠ 0 → fld r.body 4 2 ≤ 504 →
    ∃ t, exec (.mbTallyRead dt r) s = .next t ∧
      t.answered 0x0002 r stOk (le 2 n ++ zeros 2 ++ le 4 (tlySize g u) ++
        (if at_ = 0 then zeros 12 else secNs (at_ - 1)) ++ zeros 4 ++
        ((List.range n).map fun i => le 8 (if snap then Tab.get 0 e.tly.snap (tly g u first + i)
          else e.tlyVal (tly g u first + i))).flatten) ∧
      (∀ i, i < n → tly g u first + i ≠ tlSec 5 →
        if snap then Tab.get 0 t.tly.snap (tly g u first + i) = 0
        else Tab.get 0 t.tly.live (tly g u first + i) = e.tlyBase (tly g u first + i)) ∧
      (∀ k, (k < tly g u first ∨ tly g u first + n ≤ k) → k ≠ tlSec 5 →
        Tab.get 0 t.tly.live k = Tab.get 0 e.tly.live k ∧ Tab.get 0 t.tly.snap k = Tab.get 0 e.tly.snap k)) ∧
  (∀ (s : State) (dt : Nat) (r : Req), s.mbxFree → r.plain → r.body.length = 8 →
    zeroAt r.body 1 1 = true → fld r.body 0 1 ≤ 1 → fld r.body 2 2 ≠ 0 → fld r.body 2 2 ≤ 63 →
    let l := if fld r.body 0 1 = 0 then s.day.vol else s.day.per
    let next := if fld r.body 0 1 = 0 then s.day.volNext else s.day.perNext
    let x := dayFrom l next (fld r.body 4 4) (fld r.body 2 2)
    ∃ t, exec (.mbDaybookRead dt r) s = .next t ∧
      t.answered 0x0003 r stOk (le 4 x.1 ++ le 4 x.2.1 ++ le 2 x.2.2.length ++ zeros 6 ++
        (x.2.2.map DayEv.bytes).flatten) ∧
      x.2.2.length ≤ fld r.body 2 2 ∧ (∀ e ∈ x.2.2, e ∈ l) ∧ t.day = s.day ∧ t.onlyChanges s answerParts)

/-! ### Strands and gaffers (chapters 1 and 2) -/

/-- When the time strand issues an action (R12, R16, R45): within 2 ns of the instant its offset is
reached, once in each round, with mark 0, where its list is live, issue is not paused, and neither a
seed nor a memory error nor a waiting action stands against it. -/
def Obligations.TimeActionsIssueWhenDue : Prop :=
  (∀ t l o k : Nat, o < l → 4 < l →
    (dueRound t l o = some (k + 1) ↔ t ≤ k * l + o + 2 ∧ k * l + o ≤ t + 2)) ∧
  (∀ (s : State) (l : GList) (ix k : Nat) (a : Act) (p : Par),
    let r : ActRef := { st := 0, l := listNo l, ix := ix }
    s.par.force = some p → (p.acts 0 (listNo l))[ix]? = some a → s.gaf.active = true →
    s.listLive 0 (listNo l) = true → s.gaf.waiting = [] → s.gaf.paused = none →
    s.gaf.startNet ≤ s.net + 2 → (s.relaxed && a.window && (a.op = 1 || a.op = 2)) = false →
    s.lehr.gafBad = [] → s.seeds.armed = [] →
    dueRound s.net p.round (p.eff s.boundP a) = some k → Tab.get 0 s.gaf.issued r.key ≠ k →
    ∃ u, s.issue a.op (.entry .time l ix) =
        (some { act := a, mark := 0, gaf := s.gafOf 0 (listNo l), ix := some r }, u) ∧
      Tab.get 0 u.gaf.issued r.key = k ∧ u.onlyChanges s [.gaffer] ∧
      (u.issue a.op (.entry .time l ix)).1 = none) ∧
  (∀ (s : State) (op : Nat) (l : GList) (ix : Nat) (a : Act) (p : Par),
    s.par.force = some p → (p.acts 0 (listNo l))[ix]? = some a → s.gaf.waiting = [] →
    dueRound s.net p.round (p.eff s.boundP a) = none →
    s.issue op (.entry .time l ix) = (none, s))

/-- When the pace strand issues an action (R16, R19, R37, R38, R45): at its offset with the mark of the
strand's state, where a slot of the pace share is free and no time-strand action is within 8 ns on its
unit; near one it waits. A waiting action is issued from the next gaffer clock on: catch-up adds mark
4, a deferred action mark 8. The model's reading of a waiting action's first clock is DEDUCED. -/
def Obligations.PaceActionsIssueWhenReached : Prop :=
  (∀ (s : State) (l : GList) (ix k : Nat) (a : Act) (p : Par),
    let r : ActRef := { st := 1, l := listNo l, ix := ix }
    s.par.force = some p → (p.acts 1 (listNo l))[ix]? = some a → s.gaf.active = true →
    s.listLive 1 (listNo l) = true → s.gaf.waiting = [] → s.lehr.gafBad = [] → s.seeds.armed = [] →
    s.paceDue a.off = some k → Tab.get 0 s.gaf.issued r.key ≠ k →
    (s.timeNear a.tgt = false → s.slotFree (s.gafOf 1 (listNo l)) = true →
      ∃ u, s.issue a.op (.entry .pace l ix) =
        (some { act := a, mark := s.stateMark, gaf := s.gafOf 1 (listNo l), ix := some r }, u) ∧
        Tab.get 0 u.gaf.issued r.key = k ∧ u.onlyChanges s [.gaffer]) ∧
    (s.timeNear a.tgt = true →
      ∃ u, s.issue a.op (.entry .pace l ix) = (none, u) ∧
        u.gaf.waiting = [{ ref := r, kind := .deferred, since := s.now }] ∧
        u.onlyChanges s [.gaffer])) ∧
  (∀ (s : State) (l : GList) (ix : Nat) (a : Act) (p : Par) (w : Waiting) (ws : List Waiting),
    let r : ActRef := { st := 1, l := listNo l, ix := ix }
    s.par.force = some p → (p.acts 1 (listNo l))[ix]? = some a → s.gaf.active = true →
    s.listLive 1 (listNo l) = true → s.gaf.waiting = w :: ws → w.ref = r → w.since + 2 ≤ s.now →
    a.tgt = 0xFF → s.slotFree (s.gafOf 1 (listNo l)) = true →
    ∃ u, s.issue a.op (.entry .pace l ix) =
        (some { act := a, gaf := s.gafOf 1 (listNo l), ix := some r
                mark := match w.kind with
                  | .caughtUp => s.stateMark + 4
                  | .deferred => s.stateMark + 8
                  | _ => s.stateMark }, u) ∧
      u.gaf.waiting = ws ∧ u.onlyChanges s [.gaffer, .tallies])

/-- A one-off action is issued at the instant it names, by the gaffer of its target, and leaves the
list of pending one-off actions (R43). -/
def Obligations.OneOffActionsIssueAtTheirInstant : Prop :=
  (∀ (s : State) (o : OneOff) (l : List OneOff), s.par.oneOffs = o :: l → s.net ≤ o.net + 2 →
    o.net ≤ s.net + 2 → s.gaf.active = true → s.gaf.paused = none → s.live (s.oneOffGaf o.act) = true →
    (∀ x ∈ l, s.net ≤ x.net + 2) →
    ∃ u, s.issue o.act.op .oneOff =
        (some { act := o.act, mark := 0, gaf := s.oneOffGaf o.act, ix := none }, u) ∧
      u.par.oneOffs = l ∧ u.onlyChanges s [.gaffer, .parison]) ∧
  (∀ (s : State) (op : Nat), s.par.oneOffs = [] ∨ (∀ o ∈ s.par.oneOffs, s.net + 2 < o.net) →
    s.issue op .oneOff = (none, s))

/-- What issued actions do that reach the gates, the tallies and the daybook; `i` is the action as it
reaches its target, `u` the state in which it does. NOP does nothing. OPEN_GATE opens the gates of its
mask and CLOSE_GATE closes them, other gates staying; at a closed gate no copy is left in a scheduled
queue. On an absent unit both only count. MARK enters its event. TALLY_SNAP adds each live value of its
groups to the snapshot, restarts it, and stamps the group. -/
def Obligations.IssuedGateAndTallyActions : Prop :=
  (∀ (s u : State) (dt : Nat) (src : ActSrc) (i : Issued), (s.elapse dt).issue 0 src = (some i, u) →
    ∃ t, exec (.nop dt src) s = .next t ∧ t.onlyChanges u []) ∧
  (∀ (s u : State) (dt : Nat) (src : ActSrc) (i : Issued), (s.elapse dt).issue 1 src = (some i, u) →
    u.absentUnit i.act.tgt = false →
    ∃ t, exec (.openGate dt src) s = .next t ∧
      Tab.get 0 t.fab.gates i.act.tgt = (Tab.get 0 u.fab.gates i.act.tgt ||| i.act.opnd % 256) % 256 ∧
      ∀ q, q ≠ i.act.tgt → Tab.get 0 t.fab.gates q = Tab.get 0 u.fab.gates q) ∧
  (∀ (s u : State) (dt : Nat) (src : ActSrc) (i : Issued), (s.elapse dt).issue 2 src = (some i, u) →
    u.absentUnit i.act.tgt = false →
    let was := Tab.get 0 u.fab.gates i.act.tgt
    ∃ t, exec (.closeGate dt src) s = .next t ∧
      Tab.get 0 t.fab.gates i.act.tgt = (was - (was &&& i.act.opnd % 256)) % 256 ∧
      (∀ q, q ≠ i.act.tgt → Tab.get 0 t.fab.gates q = Tab.get 0 u.fab.gates q) ∧
      ∀ q, q < 8 → bit (was &&& i.act.opnd % 256) q = true → u.scheduled i.act.tgt q = true →
        ∀ c ∈ t.fab.copies, ¬(c.port = i.act.tgt ∧ c.queue = q)) ∧
  (∀ (s u : State) (dt : Nat) (src : ActSrc) (i : Issued), (s.elapse dt).issue 1 src = (some i, u) →
    u.absentUnit i.act.tgt = true →
    ∃ t, exec (.openGate dt src) s = .next t ∧ t.onlyChanges u [.tallies] ∧
      Tab.get 0 t.tly.live (tlFab 8) = min tlyMax (Tab.get 0 u.tly.live (tlFab 8) + 1)) ∧
  (∀ (s u : State) (dt : Nat) (src : ActSrc) (i : Issued), (s.elapse dt).issue 2 src = (some i, u) →
    u.absentUnit i.act.tgt = true →
    ∃ t, exec (.closeGate dt src) s = .next t ∧ t.onlyChanges u [.tallies] ∧
      Tab.get 0 t.tly.live (tlFab 8) = min tlyMax (Tab.get 0 u.tly.live (tlFab 8) + 1)) ∧
  (∀ (s u : State) (dt : Nat) (src : ActSrc) (i : Issued), (s.elapse dt).issue 13 src = (some i, u) →
    u.tellerUp = true →
    ∃ t e, exec (.mark dt src) s = .next t ∧ t.onlyChanges u eventParts ∧
      t.day.vol.getLast? = some e ∧ e.code = ev 2 5 ∧ e.num = u.day.volNext % 2 ^ 32 ∧
      e.args = le 4 (i.act.opnd % 2 ^ 32) ++ secNs u.net ++ le 4 u.timeOffset ++ le 4 u.paceOffset) ∧
  (∀ (s u : State) (dt : Nat) (src : ActSrc) (i : Issued), (s.elapse dt).issue 12 src = (some i, u) →
    ∃ t, exec (.tallySnap dt src) s = .next t ∧ t.onlyChanges u [.tallies, .gaffer] ∧
      let v := u.spineCount
      (∀ k, bit (i.act.opnd % 65536) (k / 2 ^ 32) = true → k ∈ v.tly.live.map (·.1) →
        Tab.get 0 t.tly.snap k = min tlyMax (Tab.get 0 v.tly.snap k + v.tlyVal k) ∧
        Tab.get 0 t.tly.live k = v.tlyBase k) ∧
      (∀ k, bit (i.act.opnd % 65536) (k / 2 ^ 32) = false →
        Tab.get 0 t.tly.snap k = Tab.get 0 v.tly.snap k ∧
        Tab.get 0 t.tly.live k = Tab.get 0 v.tly.live k) ∧
      (∀ g, g < 16 → Tab.get 0 t.tly.snapAt g =
        if bit (i.act.opnd % 65536) g then u.net + 1 else Tab.get 0 u.tly.snapAt g))

/-- What issued actions do at the port store: SAMPLE_PORT copies LATEST of its port into PENDING with
the quality of the mark. PUBLISH_PORT builds and counts one frame, its sequenceCounter one higher,
unless R190 holds it back, for the reason that applies first, or the role does; then it counts and
sends nothing. -/
def Obligations.IssuedPortActions : Prop :=
  (∀ (s u : State) (dt : Nat) (src : ActSrc) (i : Issued) (p : PdPort),
    (s.elapse dt).issue 4 src = (some i, u) → u.port (i.act.opnd % 4096) = some p →
    (i.act.opnd % 4096) ∉ u.pd.bad →
    ∃ t, exec (.samplePort dt src) s = .next t ∧ t.onlyChanges u [.store] ∧
      t.port (i.act.opnd % 4096) = some { p with
        sampled := true
        pending := { p.value with quality := p.value.quality ||| BitVec.ofNat 8 (markQuality i.mark) } } ∧
      ∀ j, j ≠ i.act.opnd % 4096 → t.port j = u.port j) ∧
  (∀ (s u : State) (dt : Nat) (src : ActSrc) (i : Issued) (p q : PdPort),
    (s.elapse dt).issue 3 src = (some i, u) → u.port (i.act.opnd % 4096) = some p → u.quiet = false →
    (i.act.opnd % 4096) ∉ u.pd.bad →
    (if pSource p.conf = 6 then u.port (pLink p.conf) = some q else q = p) →
    (u.pubHold p q.value = none →
      blocksOf ((u.pubFrame p q.value).length + 4) ≤ u.free 1 →
      ∃ t, exec (.publishPort dt src) s = .next t ∧
        t.port (i.act.opnd % 4096) = some { p with seq := (p.seq + 1) % 2 ^ 32, lastSeq := p.seq } ∧
        t.fab.nextId = u.fab.nextId + 1 ∧ ∀ j, j ≠ i.act.opnd % 4096 → t.port j = u.port j) ∧
    (u.pubHold p q.value = none →
      u.free 1 < blocksOf ((u.pubFrame p q.value).length + 4) →
      ∃ t, exec (.publishPort dt src) s = .next t ∧ t.onlyChanges u eventParts ∧
        Tab.get 0 t.tly.live (tlPd 19) = min tlyMax (Tab.get 0 u.tly.live (tlPd 19) + 1)) ∧
    (∀ k, u.pubHold p q.value = some k →
      ∃ t, exec (.publishPort dt src) s = .next t ∧ t.onlyChanges u eventParts ∧
        Tab.get 0 t.tly.live (tlPd (10 + k)) = min tlyMax (Tab.get 0 u.tly.live (tlPd (10 + k)) + 1))) ∧
  (∀ (s : State) (p : PdPort) (v : Slot), s.pubHold p v =
    if v.quality.getLsbD 7 = true then some 0
    else if pLimit p.conf ≠ 0 ∧ v.time + pLimit p.conf * 1000 < s.net then some 1
    else if v.quality.toNat &&& pQmask p.conf ≠ 0 then some 2 else none)

/-- What issued actions do at CAN, the digital outputs and the escrow. CAN_ARM arms each buffer of its
mask that is empty, declared with SOURCE ACTION or host data, in a controller that is not bus-off; a
quiet role suppresses it. DOUT_DRIVE drives the levels of its operand, or the triad's voted ones, onto
the lines of its mask, and no others. ESCROW_SEAL asks for an epoch while the role is ACTIVE. -/
def Obligations.IssuedOutputActions : Prop :=
  (∀ (s u : State) (dt : Nat) (src : ActSrc) (i : Issued) (x : CanCtl) (b : CanBuf) (k : Nat),
    (s.elapse dt).issue 5 src = (some i, u) → u.absentUnit i.act.tgt = false → u.quiet = false →
    i.act.opnd = 2 ^ k → k < 64 → u.ctl (i.act.tgt - 0x20) = some x → x.buf k = some b →
    x.err ≠ .busOff → b.state = .idle → b.source ≠ 1 → (b.source = 2 → b.written = true) →
    ∃ t, exec (.canArm dt src) s = .next t ∧ t.onlyChanges u [.can, .tallies] ∧
      t.ctl (i.act.tgt - 0x20) = some (x.setBuf k (some { b with state := .pending })) ∧
      (∀ c, c ≠ i.act.tgt - 0x20 → t.ctl c = u.ctl c)) ∧
  (∀ (s u : State) (dt : Nat) (src : ActSrc) (i : Issued), (s.elapse dt).issue 5 src = (some i, u) →
    u.absentUnit i.act.tgt = false → u.quiet = true →
    ∃ t, exec (.canArm dt src) s = .next t ∧ t.onlyChanges u [.tallies] ∧
      Tab.get 0 t.tly.live (tlTwin 8) = min tlyMax (Tab.get 0 u.tly.live (tlTwin 8) + 1)) ∧
  (∀ (s u : State) (dt : Nat) (src : ActSrc) (i : Issued) (g : Nat),
    (s.elapse dt).issue 9 src = (some i, u) → u.absentUnit i.act.tgt = false → u.quiet = false →
    i.act.tgt = 0x3A + g → g < 2 → bit i.act.opnd 16 = false →
    ∃ t, exec (.doutDrive dt src) s = .next t ∧ t.onlyChanges u [.sleep] ∧
      (∀ n, n < 8 → t.sleep.latches.getLsbD (8 * g + n) =
        if bit (bits i.act.opnd 15 8) n then bit i.act.opnd n else u.sleep.latches.getLsbD (8 * g + n)) ∧
      (∀ n, n < 8 → t.sleep.latches.getLsbD (8 * (1 - g) + n) = u.sleep.latches.getLsbD (8 * (1 - g) + n)) ∧
      t.sleep = { u.sleep with latches := t.sleep.latches }) ∧
  (∀ (s u : State) (dt : Nat) (src : ActSrc) (i : Issued),
    (s.elapse dt).issue 9 src = (some i, u) → u.absentUnit i.act.tgt = false → u.quiet = false →
    bit i.act.opnd 16 = true → (u.voteReg (i.act.tgt - 0x3A)).valid = false →
    ∃ t, exec (.doutDrive dt src) s = .next t ∧ t.onlyChanges u [.tallies] ∧
      Tab.get 0 t.tly.live (tlTriad 13) = min tlyMax (Tab.get 0 u.tly.live (tlTriad 13) + 1)) ∧
  (∀ (s u : State) (dt : Nat) (src : ActSrc) (i : Issued), (s.elapse dt).issue 11 src = (some i, u) →
    ∃ t, exec (.escrowSeal dt src) s = .next t ∧ t.onlyChanges u [.twin] ∧
      t.twin.sealWait = (u.twin.sealWait || u.twin.role == .active) ∧
      t.twin.sealed = u.twin.sealed ∧ t.twin.role = u.twin.role)

/-- What captures do: the record of the channel, pair, input or group at the instant of the action
stands as its capture and, unless the operand names none, as a new commit of KIND 3 of the port it
names, with the quality of the mark. -/
def Obligations.IssuedCaptureActions : Prop :=
  (∀ (s u : State) (dt : Nat) (src : ActSrc) (i : Issued) (ch : Nat) (x : Chan),
    (s.elapse dt).issue 6 src = (some i, u) → u.absentUnit i.act.tgt = false → i.act.tgt = 0x28 + ch →
    u.pairOf ch = none → u.chan ch = some x →
    ∃ t, exec (.sdCapture dt src) s = .next t ∧
      t.chan ch = some { x with cap := u.chanRecord ch x i.mark } ∧
      (∀ c, c ≠ ch → t.chan c = u.chan c) ∧
      (i.act.opnd % 4096 = 0xFFF → t.onlyChanges u [.measure]) ∧
      (∀ p, i.act.opnd % 4096 ≠ 0xFFF → u.port (i.act.opnd % 4096) = some p →
        ∃ q, t.port (i.act.opnd % 4096) = some q ∧ q.conf = p.conf ∧ q.value.kind = 3 ∧
          q.value.time = u.net ∧ q.value.data = u.chanRecord ch x i.mark)) ∧
  (∀ (s u : State) (dt : Nat) (src : ActSrc) (i : Issued) (ch n : Nat) (x : Pair),
    (s.elapse dt).issue 6 src = (some i, u) → u.absentUnit i.act.tgt = false → i.act.tgt = 0x28 + ch →
    u.pairOf ch = some (n, x) →
    ∃ t, exec (.sdCapture dt src) s = .next t ∧
      t.pair n = some { x with cap := u.pairRecord n x i.mark } ∧
      (∀ m, m ≠ n → t.pair m = u.pair m)) ∧
  (∀ (s u : State) (dt : Nat) (src : ActSrc) (i : Issued) (n : Nat) (x : Tach),
    (s.elapse dt).issue 7 src = (some i, u) → u.absentUnit i.act.tgt = false → i.act.tgt = 0x30 + n →
    u.tach n = some x →
    ∃ t, exec (.tachLatch dt src) s = .next t ∧
      t.tach n = some { x with cap := (u.tachRecord n x i.mark).1 } ∧
      (∀ m, m ≠ n → t.tach m = u.tach m)) ∧
  (∀ (s u : State) (dt : Nat) (src : ActSrc) (i : Issued) (g : Nat),
    (s.elapse dt).issue 8 src = (some i, u) → u.absentUnit i.act.tgt = false → i.act.tgt = 0x38 + g →
    ∃ t, exec (.dinSample dt src) s = .next t ∧
      Tab.get [] t.meas.dinCap g = (u.dinRecord g (bits i.act.opnd 31 16) i.mark).1 ∧
      (∀ p, i.act.opnd % 4096 ≠ 0xFFF → u.port (i.act.opnd % 4096) = some p →
        ∃ q, t.port (i.act.opnd % 4096) = some q ∧ q.conf = p.conf ∧ q.value.kind = 3 ∧
          q.value.data = Tab.get [] t.meas.dinCap g))

/-- TIME_STRAND_RESUME at or after the resumption boundary: issue goes on, the boundary being the first
instant of the strand; before it nothing happens. -/
def Obligations.TimeStrandResumesAtItsBoundary : Prop :=
  (∀ (s : State) (dt b : Nat), s.gaf.paused = some b → b ≤ (s.elapse dt).net + 2 →
    ∃ t, exec (.timeStrandResume dt) s = .next t ∧
      t.gaf = { s.gaf with paused := none, startNet := b } ∧ t.onlyChanges s [.gaffer]) ∧
  (∀ (s : State) (dt : Nat), (∀ b, s.gaf.paused = some b → (s.elapse dt).net + 2 < b) →
    ∃ t, exec (.timeStrandResume dt) s = .next t ∧ t.onlyChanges s [])

/-- A crossing at a LINE tracker (R20, R21, R25). Below 15.385 ms it is refused: the tracker and the
strand stay, TLY_PACE_RANGE counts and PACE_RANGE is raised. Above 71.429 ms, or as the first one, it
is a reference crossing. Between them it is accepted; four steady periods while the voltage is present
complete acquisition, after an unsteady one it begins anew from this crossing; and a LOCKED strand slews
a difference of at most 256 units out over the period. -/
def Obligations.TrackerTakesCrossings : Prop :=
  (∀ (s : State) (dt : Nat) (k : Fin 2) (x : Tracker) (src r l : Nat), s.tracker k = some x →
    x.src = some src → x.ref = some r → x.last = some l → (s.elapse dt).run - l < 15385000 →
    ∃ t, exec (.zeroCrossing dt k) s = .next t ∧ t.tracker k = some x ∧ t.pace = s.pace ∧
      t.trk = s.trk ∧ Tab.get 0 t.tly.live (tlStrand 4) = min tlyMax (Tab.get 0 s.tly.live (tlStrand 4) + 1)) ∧
  (∀ (s : State) (dt : Nat) (k : Fin 2) (x : Tracker) (src : Nat), s.tracker k = some x →
    x.src = some src → x.ref = none ∨ x.last = none →
    ∃ t, exec (.zeroCrossing dt k) s = .next t ∧ t.onlyChanges s [.trackers] ∧
      t.tracker k = some { x with
        ref := some (s.elapse dt).run, last := some (s.elapse dt).run, periods := [] }) ∧
  (∀ (s : State) (dt : Nat) (k : Fin 2) (x : Tracker) (src r l : Nat), s.tracker k = some x →
    x.src = some src → x.ref = some r → x.last = some l → 71429000 < (s.elapse dt).run - l →
    x.locked = false →
    ∃ t, exec (.zeroCrossing dt k) s = .next t ∧ t.onlyChanges s [.trackers] ∧
      t.tracker k = some { x with
        ref := some (s.elapse dt).run, last := some (s.elapse dt).run, periods := [] }) ∧
  (∀ (s : State) (dt : Nat) (x : Tracker) (src r l : Nat), let u := s.elapse dt
    s.tracker 1 = some x → x.src = some src → x.ref = some r → x.last = some l →
    15385000 ≤ u.run - l → u.run - l ≤ 71429000 → x.locked = false →
    let ps := pushKeep 4 x.periods (u.run - l)
    ∃ t y, exec (.zeroCrossing dt 1) s = .next t ∧ t.onlyChanges s [.trackers] ∧
      t.tracker 1 = some y ∧ t.tracker 0 = s.tracker 0 ∧ y.last = some u.run ∧ y.period = u.run - l ∧
      (x.present = true → x.presentAt ≤ l → ps.length = 4 →
        (steady ps = true → y.locked = true ∧ y.periods = ps ∧ y.ref = x.ref) ∧
        (steady ps = false → y.locked = false ∧ y.periods = [] ∧ y.ref = some u.run)) ∧
      (x.present = true → x.presentAt ≤ l → ps.length < 4 →
        y.locked = false ∧ y.periods = ps ∧ y.ref = x.ref) ∧
      (x.present = false ∨ l < x.presentAt →
        y.locked = false ∧ y.periods = [] ∧ y.ref = some u.run)) ∧
  (∀ (s : State) (dt : Nat) (x : Tracker) (src r l : Nat), let u := s.elapse dt
    s.trk.force = some x → x.src = some src → x.ref = some r → x.last = some l →
    15385000 ≤ u.run - l → u.run - l ≤ 71429000 → x.locked = true →
    s.pace.kind = 1 → s.pace.waitStart = none → s.pace.started = true → s.pace.state = .locked →
    u.paceAt % 2 ^ 48 ≤ 256 * 2 ^ 32 →
    ∃ t, exec (.zeroCrossing dt 0) s = .next t ∧ t.onlyChanges s [.trackers, .pace] ∧
      t.pace.pos = u.paceAt ∧ t.pace.state = .locked ∧ t.pace.holding = false ∧
      t.pace.lineFreq = rateOfPeriod (u.run - l) ∧ t.pace.rate2 = rateOfPeriod (u.run - l) ∧
      t.pace.slewEnd = u.run + (u.run - l))

/-- The state of the pace strand as time brings it about (R24, R25): no crossing for 1.25 periods makes
a LOCKED LINE strand coast at the frequency last measured; the coasting limit and the DC rule make it
substitute at the parison's rate, without a change of position; a hold's end is its new reference.
Before their time nothing happens. -/
def Obligations.StrandStatesOverTime : Prop :=
  (∀ (s : State) (dt : Nat) (x : Tracker) (l : Nat), let u := s.elapse dt
    s.trk.force = some x → s.trk.next = none → x.last = some l → x.locked = true →
    4 * l + 5 * x.period ≤ 4 * u.run → s.pace.kind = 1 → s.pace.waitStart = none →
    s.pace.started = true → s.pace.state = .locked →
    ∃ t, exec (.crossingTimeout dt) s = .next t ∧ t.trk.force = some x.again ∧
      t.pace.state = .coasting ∧ t.pace.rate = s.pace.lineFreq ∧ t.pace.rate2 = s.pace.lineFreq ∧
      t.pace.coastAt = u.run ∧ t.pace.pos = u.paceAt ∧
      Tab.get 0 t.tly.live (tlStrand 0) = min tlyMax (Tab.get 0 s.tly.live (tlStrand 0) + 1)) ∧
  (∀ (s : State) (dt : Nat), (∀ k x l, s.tracker k = some x → x.last = some l → x.locked = true →
      4 * (s.elapse dt).run < 4 * l + 5 * x.period) →
    ∃ t, exec (.crossingTimeout dt) s = .next t ∧ t.onlyChanges s []) ∧
  (∀ (s : State) (dt : Nat), let u := s.elapse dt
    s.pace.started = true → s.pace.state = .coasting →
    s.pace.coastAt + fld s.paceBlock 16 2 * 10000000 ≤ u.run →
    ∃ t, exec (.coastingLimitExpiry dt) s = .next t ∧ t.pace.state = .substituted ∧
      t.pace.rate = substRate s.paceBlock ∧ t.pace.rate2 = substRate s.paceBlock ∧
      t.pace.pos = u.paceAt ∧
      Tab.get 0 t.tly.live (tlStrand 1) = min tlyMax (Tab.get 0 s.tly.live (tlStrand 1) + 1)) ∧
  (∀ (s : State) (dt : Nat), s.pace.started = false ∨ s.pace.state ≠ .coasting ∨
      (s.elapse dt).run < s.pace.coastAt + fld s.paceBlock 16 2 * 10000000 →
    ∃ t, exec (.coastingLimitExpiry dt) s = .next t ∧ t.onlyChanges s []) ∧
  (∀ (s : State) (dt : Nat) (x : Tracker), let u := s.elapse dt
    s.trk.force = some x → s.pace.kind = 1 → s.pace.started = true → s.pace.state = .coasting →
    x.present = true → x.nominal ≠ 0 →
    max (x.last.getD 0) x.presentAt + 3000000000000 / x.nominal ≤ u.run →
    ∃ t, exec (.dcRuleExpiry dt) s = .next t ∧ t.pace.state = .substituted ∧
      t.pace.rate = substRate s.paceBlock ∧ t.pace.pos = u.paceAt) ∧
  (∀ (s : State) (dt : Nat), s.pace.holding = true → s.pace.holdEnd ≤ (s.elapse dt).run →
    s.pace.slewEnd ≤ s.pace.run0 →
    ∃ t, exec (.paceHoldEnd dt) s = .next t ∧ t.onlyChanges s [.pace] ∧
      t.pace = { s.pace with holding := false, run0 := max s.pace.run0 s.pace.holdEnd } ∧
      t.paceAt = (s.elapse dt).paceAt) ∧
  (∀ (s : State) (dt : Nat), s.pace.holding = false ∨ (s.elapse dt).run < s.pace.holdEnd →
    ∃ t, exec (.paceHoldEnd dt) s = .next t ∧ t.onlyChanges s [])

/-- Tachometer inputs that the AXLE strand follows (R31, R32, R33): an edge of the single input puts the
strand on that edge's position at the rate of its interval; an illegal one excludes the input, and so
does silence for four intervals of at least 1 rev/s, whereupon a strand with no input left coasts.
Silence below that is standstill: rate zero, no fault. An excluded input that has agreed for 1 s
rejoins. -/
def Obligations.AxleStrandFollowsItsInputs : Prop :=
  (∀ (s : State) (dt : Nat) (n : Fin 8) (fwd : Bool) (x : Tach) (a : AxleIn) (e g : Nat),
    let u := s.elapse dt
    let c := s.paceBlock
    s.tach n = some x → s.pace.kind = 2 → s.pace.started = true → s.pace.state = .locked →
    s.live (inputDomain n) = true → s.absentUnit (0x30 + n) = false → s.pace.axle = [a] →
    a.inp = n.val → a.excluded = false → a.edgeAt = some e → a.interval = u.run - e → e < u.run →
    s.pace.cap = some g → u.spanActs u.paceAt g = [] →
    ∃ t, exec (.tachEdge dt n fwd true) s = .next t ∧
      t.pace.pos = max g u.paceAt ∧ t.pace.cap = some (g + edgeUnits c) ∧
      t.pace.rate = edgeUnits c * 2 ^ 16 / (u.run - e) ∧ t.pace.still = false ∧
      t.pace.axle = [{ a with edgeAt := some u.run, prevInt := a.interval, cnt := a.cnt + 1 }]) ∧
  (∀ (s : State) (dt : Nat) (n : Fin 8) (fwd : Bool) (x : Tach) (a : AxleIn) (e : Nat),
    s.tach n = some x → s.pace.kind = 2 → s.pace.started = true → s.pace.state = .locked →
    s.live (inputDomain n) = true → s.absentUnit (0x30 + n) = false → s.pace.axle = [a] →
    a.inp = n.val → a.excluded = false → a.edgeAt = some e →
    ∃ t, exec (.tachEdge dt n fwd false) s = .next t ∧ t.pace.state = .coasting ∧
      (∀ b ∈ t.pace.axle, b.excluded = true) ∧
      Tab.get 0 t.tly.live (tlStrand 5) = min tlyMax (Tab.get 0 s.tly.live (tlStrand 5) + 1)) ∧
  (∀ (s : State) (dt : Nat) (n : Fin 8) (a : AxleIn) (e : Nat), let u := s.elapse dt
    s.pace.kind = 2 → s.pace.started = true → s.pace.state = .locked → s.pace.axle = [a] →
    a.inp = n.val → a.excluded = false → a.edgeAt = some e → a.interval ≠ 0 →
    a.interval * edgesPerRev s.paceBlock ≤ 1000000000 → e + 4 * a.interval ≤ u.run →
    ∃ t, exec (.tachSilenceTimeout dt n) s = .next t ∧ t.pace.state = .coasting ∧
      (∀ b ∈ t.pace.axle, b.excluded = true) ∧
      Tab.get 0 t.tly.live (tlStrand 5) = min tlyMax (Tab.get 0 s.tly.live (tlStrand 5) + 1)) ∧
  (∀ (s : State) (dt : Nat) (a : AxleIn) (e : Nat), let u := s.elapse dt
    s.pace.kind = 2 → s.pace.started = true → s.pace.state = .locked → s.pace.still = false →
    s.pace.axle = [a] → a.excluded = false → a.edgeAt = some e →
    1000000000 < a.interval * edgesPerRev s.paceBlock →
    e + fld s.paceBlock 18 2 * 1000000 ≤ u.run →
    ∃ t, exec (.standstillTimeout dt) s = .next t ∧ t.onlyChanges s [.pace] ∧ t.pace.still = true ∧
      t.rateNow = 0 ∧ t.pace.pos = u.paceAt ∧ t.pace.state = .locked) ∧
  (∀ (s : State) (dt : Nat) (n : Fin 8) (a : AxleIn) (at_ : Nat), let u := s.elapse dt
    s.pace.kind = 2 → s.pace.axle = [a] → a.inp = n.val → a.excluded = true → a.agreeAt = some at_ →
    at_ + 1000000000 ≤ u.run → s.live (inputDomain n) = true → s.pace.state = .substituted →
    ∃ t, exec (.tachRejoin dt n) s = .next t ∧ t.pace.state = .locked ∧ t.pace.pos = u.paceAt ∧
      t.pace.axle = [{ a with excluded := false, agreeAt := none, off5 := 0 }] ∧
      t.pace.cap = some (u.paceAt + edgeUnits s.paceBlock)) ∧
  (∀ (s : State) (dt : Nat) (n : Fin 8) (a : AxleIn) (at_ : Nat),
    s.pace.axle.find? (·.inp = n.val) = some a → a.agreeAt = some at_ →
    (s.elapse dt).run < at_ + 1000000000 →
    ∃ t, exec (.tachRejoin dt n) s = .next t ∧ t.onlyChanges s [])

/-! ### The parison (chapter 2) -/

/-- Staging and commit (R73, R74, R77, R78). A chunk at offset 0 begins the staged image anew, one at
its end is added, one elsewhere is refused and leaves it. A staged image that passes the checks becomes
the committed parison and its hash is returned; one that breaks a rule is answered CONTRACT with the
record of the violation, one with a bad signature DENIED; then nothing is committed and TLY_PAR_REFUSED
counts. The parison in force stays in each case. -/
def Obligations.StagingAndCommit : Prop :=
  (∀ (s : State) (dt : Nat) (r : Req), s.mbxFree → r.plain → 5 ≤ r.body.length → s.flashHeld = false →
    fld r.body 0 4 = 0 ∨
      (fld r.body 0 4 = s.par.staged.length ∧ s.par.staged.length + r.body.length ≤ 0x2000004) →
    ∃ t, exec (.mbParisonStage dt r) s = .next t ∧ t.answered 0x0101 r stOk [] ∧
      t.par.staged = (if fld r.body 0 4 = 0 then r.body.drop 4 else s.par.staged ++ r.body.drop 4) ∧
      t.par.force = s.par.force ∧ t.par.committed = s.par.committed ∧ t.par.activ = s.par.activ ∧
      t.onlyChanges s (.parison :: .flash :: answerParts)) ∧
  (∀ (s : State) (dt : Nat) (r : Req), s.mbxFree → r.plain → 5 ≤ r.body.length →
    fld r.body 0 4 ≠ 0 → fld r.body 0 4 ≠ s.par.staged.length →
    ∃ t, exec (.mbParisonStage dt r) s = .next t ∧ t.answered 0x0101 r stMalformed [] ∧
      t.onlyChanges s answerParts) ∧
  (∀ (s : State) (dt : Nat) (r : Req), s.mbxFree → r.plain → r.body.length = 4 → fld r.body 0 4 < 4 →
    s.par.activ = none → s.par.gap = none → s.sys.defaultLoad = false →
    let p := parOf s.par.staged s.par.stagedReg
    let cold := bit (fld r.body 0 4) 1
    (s.check s.par.staged = .passed → cold = true ∨ s.fits p = true →
      ∃ t, exec (.mbParisonCommit dt r) s = .next t ∧ t.answered 0x0102 r stOk p.hash ∧
        t.par.committed = some p ∧ t.par.cold = cold ∧ t.par.force = s.par.force ∧
        t.par.staged = s.par.staged ∧ t.gaf = s.gaf ∧ t.ports = s.ports ∧ t.fab.gates = s.fab.gates ∧
        t.fab.ledger.live = s.fab.ledger.live) ∧
    (∀ f, s.check s.par.staged = .contract f →
      ∃ t, exec (.mbParisonCommit dt r) s = .next t ∧ t.answered 0x0102 r stContract f.record ∧
        Tab.get 0 t.tly.live (tlStrand 14) = min tlyMax (Tab.get 0 s.tly.live (tlStrand 14) + 1) ∧
        t.onlyChanges s mailParts) ∧
    (s.check s.par.staged = .denied →
      ∃ t, exec (.mbParisonCommit dt r) s = .next t ∧ t.answered 0x0102 r stDenied [] ∧
        t.onlyChanges s mailParts))

/-- Activation requests (R79, R80, R82) and one-off actions (R520). With NEXT the device takes the
earliest T that is a whole multiple of both rounds and at least two of the longer ahead; a T of the
host's is taken if it is such a multiple, refused MALFORMED if not and LATE if too early. CANCEL at
least one round ahead withdraws the request and the committed parison stays; with no request pending it
is DENIED. MB_ACT_AT places a one-off action among the pending ones where R520 allows it: laid out as an
action entry, its names defined, at least 20 µs ahead, fewer than 16 pending, its issue clock and its
target free. Fewer than 20 µs ahead it is LATE, with 16 pending it is FULL, and it is not placed. -/
def Obligations.ActivationAndOneOffRequests : Prop :=
  (∀ (s : State) (dt : Nat) (r : Req) (p : Par), s.mbxFree → r.plain → r.body.length = 24 →
    fld r.body 0 4 = 1 → zeroAt r.body 4 4 = true → zeroAt r.body 20 4 = true →
    zeroAt r.body 8 12 = true → s.par.committed = some p → s.time.state ≠ .unusable →
    s.par.activ = none → 0 < (s.roundsFor p).1 →
    ∃ t a, exec (.mbParisonActivate dt r) s = .next t ∧
      t.answered 0x0103 r stOk (secNs a ++ zeros 4) ∧ t.par.activ = some { net := a } ∧
      a % (s.roundsFor p).1 = 0 ∧ (s.elapse dt).net + 2 * (s.roundsFor p).2 ≤ a ∧
      (∀ b, b % (s.roundsFor p).1 = 0 → (s.elapse dt).net + 2 * (s.roundsFor p).2 ≤ b → a ≤ b) ∧
      t.par.committed = some p ∧ t.par.force = s.par.force ∧ t.onlyChanges s (.parison :: answerParts)) ∧
  (∀ (s : State) (dt : Nat) (r : Req) (p : Par), s.mbxFree → r.plain → r.body.length = 24 →
    fld r.body 0 4 = 0 → zeroAt r.body 4 4 = true → zeroAt r.body 20 4 = true →
    fld r.body 16 4 ≤ 999999999 → s.par.committed = some p → s.time.state ≠ .unusable →
    s.par.activ = none →
    let a := timeAt r.body 8
    (a % (s.roundsFor p).1 = 0 → (s.elapse dt).net + 2 * (s.roundsFor p).2 ≤ a →
      ∃ t, exec (.mbParisonActivate dt r) s = .next t ∧
        t.answered 0x0103 r stOk (secNs a ++ zeros 4) ∧ t.par.activ = some { net := a } ∧
        t.par.committed = some p ∧ t.par.force = s.par.force ∧
        t.onlyChanges s (.parison :: answerParts)) ∧
    (a % (s.roundsFor p).1 ≠ 0 →
      ∃ t, exec (.mbParisonActivate dt r) s = .next t ∧ t.answered 0x0103 r stMalformed [] ∧
        t.onlyChanges s answerParts) ∧
    (a % (s.roundsFor p).1 = 0 → a < (s.elapse dt).net + 2 * (s.roundsFor p).2 →
      ∃ t, exec (.mbParisonActivate dt r) s = .next t ∧ t.answered 0x0103 r stLate [] ∧
        t.onlyChanges s answerParts)) ∧
  (∀ (s : State) (dt : Nat) (r : Req) (a : Activ) (p : Par), s.mbxFree → r.plain → r.body.length = 24 →
    fld r.body 0 4 = 0 → zeroAt r.body 4 20 = true → s.par.activ = some a →
    s.par.committed = some p → (s.elapse dt).net + (s.roundsFor p).2 ≤ a.net →
    ∃ t, exec (.parisonActivateCancel dt r) s = .next t ∧
      t.answered 0x0103 r stOk (secNs a.net ++ zeros 4) ∧ t.par = { s.par with activ := none } ∧
      t.onlyChanges s (.parison :: mailParts)) ∧
  (∀ (s : State) (dt : Nat) (r : Req), s.mbxFree → r.plain → r.body.length = 24 →
    fld r.body 0 4 = 0 → zeroAt r.body 4 20 = true → s.par.activ = none →
    ∃ t, exec (.parisonActivateCancel dt r) s = .next t ∧ t.answered 0x0103 r stDenied [] ∧
      t.onlyChanges s answerParts) ∧
  (∀ (s : State) (dt : Nat) (r : Req) (p : Par), s.mbxFree → r.plain → r.body.length = 32 →
    zeroAt r.body 12 4 = true → fld r.body 8 4 ≤ 999999999 →
    let o : OneOff := { net := timeAt r.body 0, act := actOf (r.body.drop 16) }
    let e := s.elapse dt
    oneOffOk o.act = true → s.par.force = some p → s.par.activ = none → s.gaf.active = true →
    o.act.op = 10 ∨ namesOk p o.act.op o.act.tgt o.act.opnd = true → s.taskBarred p o = false →
    s.time.state ≠ .unusable → s.live (s.oneOffGaf o.act) = true →
    (e.net + 20000 ≤ o.net → e.oneOffsLeft.length < 16 → s.crowded p e.oneOffsLeft o = false →
      ∃ t, exec (.mbActAt dt r) s = .next t ∧ t.answered 0x0104 r stOk [] ∧
        t.par.oneOffs.length = e.oneOffsLeft.length + 1 ∧ o ∈ t.par.oneOffs ∧
        (∀ x ∈ e.oneOffsLeft, x ∈ t.par.oneOffs) ∧ t.par = { s.par with oneOffs := t.par.oneOffs } ∧
        t.onlyChanges s (.parison :: answerParts)) ∧
    (o.net < e.net + 20000 →
      ∃ t, exec (.mbActAt dt r) s = .next t ∧ t.answered 0x0104 r stLate [] ∧
        Tab.get 0 t.tly.live (tlStrand 15) = min tlyMax (Tab.get 0 s.tly.live (tlStrand 15) + 1) ∧
        t.onlyChanges s answerParts) ∧
    (e.net + 20000 ≤ o.net → 16 ≤ e.oneOffsLeft.length ∨ s.crowded p e.oneOffsLeft o = true →
      ∃ t, exec (.mbActAt dt r) s = .next t ∧ t.answered 0x0104 r stFull [] ∧ t.onlyChanges s answerParts))

/-- An activation at its instant (R83 to R85). A warm one puts the committed parison in force with
none committed and no request left, flips the ledger, starts both strands at T with nothing issued and
nothing waiting, and gives every port whose domain is present its initial gates. A cold one takes the
old parison out of force, stops every action and closes every gate; the new one is in force with its
units once it has been loaded, and its strand begins at the first boundary of its round at least 100 ms
after T. Before their time they do nothing. -/
def Obligations.ActivationSwitchesParisons : Prop :=
  (∀ (s : State) (dt : Nat) (a : Activ) (p : Par), s.par.activ = some a → s.par.committed = some p →
    a.net ≤ (s.elapse dt).net + 2 → s.inaug.pending = none → s.par.cold = false →
    ∃ t, exec (.activation dt) s = .next t ∧ t.par.force = some p ∧ t.par.committed = none ∧
      t.par.activ = none ∧ t.fab.ledger.live = s.fab.ledger.pending ∧ t.gaf.active = true ∧
      t.gaf.startNet = a.net ∧ t.gaf.issued = [] ∧ t.gaf.waiting = [] ∧
      ∀ q, q < 24 → s.hasDom (portDomain q) = true →
        Tab.get 0 t.fab.gates q = fld p.manifest (64 + 16 * q) 1) ∧
  (∀ (s : State) (dt : Nat) (a : Activ) (p : Par), s.par.activ = some a → s.par.committed = some p →
    a.net ≤ (s.elapse dt).net + 2 → s.inaug.pending = none → s.par.cold = true →
    ∃ t, exec (.activation dt) s = .next t ∧ t.par.force = none ∧ t.par.committed = none ∧
      t.par.activ = none ∧ t.par.gap = some { net := a.net, par := p, start := none } ∧
      t.gaf.active = false ∧ t.fab.ledger.slots = [] ∧
      ∀ q, q < 25 → Tab.get 0 t.fab.gates q = 0) ∧
  (∀ (s : State) (dt : Nat), s.par.activ = none ∨ s.par.committed = none ∨
      (∃ a, s.par.activ = some a ∧ (s.elapse dt).net + 2 < a.net) →
    ∃ t, exec (.activation dt) s = .next t ∧ t.onlyChanges s []) ∧
  (∀ (s : State) (dt : Nat) (g : ColdGap), s.par.gap = some g → g.start = none → s.tellerUp = true →
    0 < g.par.round →
    ∃ t b, exec (.parisonLoadComplete dt) s = .next t ∧ t.par.force = some g.par ∧
      t.par.gap = some { g with start := some b } ∧ b % g.par.round = 0 ∧
      g.net + 100000000 ≤ b ∧ (s.elapse dt).net ≤ b ∧ t.gaf = s.gaf ∧ t.fab.gates = s.fab.gates) ∧
  (∀ (s : State) (dt : Nat) (g : ColdGap) (b : Nat), s.par.gap = some g → g.start = some b →
    b ≤ (s.elapse dt).net + 2 →
    ∃ t, exec (.coldStrandStart dt) s = .next t ∧ t.par.gap = none ∧ t.par.force = s.par.force ∧
      t.gaf.active = true ∧ t.gaf.startNet = b ∧ t.gaf.issued = [] ∧ t.gaf.waiting = [] ∧
      ∀ q, q < 24 → s.hasDom (portDomain q) = true →
        Tab.get 0 t.fab.gates q = fld g.par.manifest (64 + 16 * q) 1) ∧
  (∀ (s : State) (dt : Nat), (∀ g, s.par.gap = some g → g.start.isSome = true) →
    ∃ t, exec (.parisonLoadComplete dt) s = .next t ∧ t.onlyChanges s []) ∧
  (∀ (s : State) (dt : Nat),
    (∀ g b, s.par.gap = some g → g.start = some b → (s.elapse dt).net + 2 < b) →
    ∃ t, exec (.coldStrandStart dt) s = .next t ∧ t.onlyChanges s [])

/-! ### Process-data ports (chapter 5) -/

/-- MB_PORT_WRITE on a publish port of SOURCE HOST commits the whole value: LATEST holds the body's
bytes with KIND 1, the network time of the commit, quality 0 and COMMITS one higher; no other port
changes. MB_PORT_READ returns the sink state, the refusal and expiry counts and LATEST with its
header, clears the counts only with CLEAR, and leaves every slot. MB_PD_RING takes a ring record and
returns it; with READ it returns the record in force and changes nothing. -/
def Obligations.PortMailboxCommands : Prop :=
  (∀ (s : State) (dt : Nat) (r : Req) (p : PdPort), s.mbxFree → r.plain → zeroAt r.body 2 2 = true →
    fld r.body 0 2 ≤ 4095 → s.port (fld r.body 0 2) = some p → pDir p.conf = 1 → pSource p.conf = 1 →
    r.body.length = 4 + pSize p.conf →
    ∃ t q, exec (.mbPortWrite dt r) s = .next t ∧ t.answered 0x0302 r stOk [] ∧
      t.port (fld r.body 0 2) = some q ∧ q.conf = p.conf ∧ q.value.data = r.body.drop 4 ∧
      q.value.kind = 1 ∧ q.value.time = (s.elapse dt).net ∧ q.value.quality = 0 ∧
      q.value.commits = (p.value.commits + 1) % 2 ^ 32 ∧
      (∀ j, j ≠ fld r.body 0 2 → t.port j = s.port j) ∧
      t.onlyChanges s (.store :: .clock :: answerParts)) ∧
  (∀ (s : State) (dt : Nat) (r : Req) (p : PdPort), s.mbxFree → r.plain → r.body.length = 4 →
    fld r.body 2 2 < 2 → fld r.body 0 2 ≤ 4095 → s.port (fld r.body 0 2) = some p →
    fld r.body 0 2 ∉ s.pd.bad →
    ∃ t, exec (.mbPortRead dt r) s = .next t ∧
      t.answered 0x0301 r stOk (le 1 (if p.sinkAt.isNone then 0 else if p.expired then 2 else 1) ++
        le 1 p.lastStep ++ zeros 2 ++ le 4 p.expiries ++ le 4 p.lastSrc.toNat ++ zeros 4 ++
        p.header p.value ++ padTo 0 (pSize p.conf) p.value.data) ∧
      t.port (fld r.body 0 2) = some (if fld r.body 2 2 = 1 then
        { p with expiries := 0, lastStep := 0, lastSrc := 0 } else p) ∧
      (∀ j, j ≠ fld r.body 0 2 → t.port j = s.port j) ∧ t.onlyChanges s (.store :: answerParts)) ∧
  (∀ (s : State) (dt : Nat) (r : Req), s.mbxFree → r.plain → s.pcie = true → r.body.length = 20 →
    fld r.body 0 4 = 0 → fld r.body 4 8 % 64 = 0 → fld r.body 12 2 ∈ [64, 128, 256, 512, 1024, 2048, 4096] →
    fld r.body 14 2 ∈ [256, 512, 1024, 2048] → fld r.body 16 1 < 2 → zeroAt r.body 18 2 = true →
    ∃ t, exec (.mbPdRing dt r) s = .next t ∧ t.answered 0x0303 r stOk (r.body.drop 4) ∧
      t.pd.ring = r.body.drop 4 ∧ t.pd.ports = s.pd.ports ∧ t.onlyChanges s (.store :: answerParts)) ∧
  (∀ (s : State) (dt : Nat) (r : Req), s.mbxFree → r.plain → s.pcie = true → r.body.length = 4 →
    fld r.body 0 4 = 2 →
    ∃ t, exec (.mbPdRing dt r) s = .next t ∧ t.answered 0x0303 r stOk s.pd.ring ∧
      t.onlyChanges s answerParts)

/-- A sink timer that has expired: the port is marked expired, TLY_PD_TIMEOUT counts, and LATEST keeps
its bytes with TIMEOUT set, or, with TMO_ZERO, a new commit of KIND 6 holds zeros with TIMEOUT. Before
its time nothing happens. -/
def Obligations.SinkTimerExpires : Prop :=
  (∀ (s : State) (dt : Nat) (port : BitVec 12) (p : PdPort) (at_ : Nat), s.port port.toNat = some p →
    p.sinkAt = some at_ → p.expired = false → at_ ≤ (s.elapse dt).now →
    ∃ t q, exec (.sinkTimeout dt port) s = .next t ∧ t.port port.toNat = some q ∧ q.expired = true ∧
      q.conf = p.conf ∧ q.expiries = (p.expiries + 1) % 2 ^ 32 ∧ q.value.quality.getLsbD 6 = true ∧
      (if pTmoZero p.conf then q.value.data = zeros (pSize p.conf) ∧ q.value.kind = 6 ∧
          q.value.commits = (p.value.commits + 1) % 2 ^ 32
        else q.value = { p.value with quality := p.value.quality ||| 0x40 }) ∧
      Tab.get 0 t.tly.live (tlPd 8) = min tlyMax (Tab.get 0 s.tly.live (tlPd 8) + 1) ∧
      (∀ j, j ≠ port.toNat → t.port j = s.port j) ∧
      t.onlyChanges s (.store :: .clock :: eventParts)) ∧
  (∀ (s : State) (dt : Nat) (port : BitVec 12) (p : PdPort), s.port port.toNat = some p →
    p.sinkAt = none ∨ p.expired = true ∨ (∃ at_, p.sinkAt = some at_ ∧ (s.elapse dt).now < at_) →
    ∃ t, exec (.sinkTimeout dt port) s = .next t ∧ t.onlyChanges s [])

/-- A delivered frame whose checks all pass is committed to its port: LATEST holds its payload, KIND 0,
the frame's reception time, sequence and topology counters, the quality it carries where QPOS is set,
and the sink timer runs again. A frame that a check refuses leaves LATEST and the timer; the port
remembers the step and the source. -/
def Obligations.ArrivingFrameIsCommittedOrRefused : Prop :=
  (∀ (s : State) (dt : Nat) (d : Delivery) (l : List Delivery) (p : PdPort), s.pd.arriving = d :: l →
    s.port d.port = some p → p.conf = d.conf → s.refuseStep p d.bytes = 0 →
    ∃ t q, exec (.pdFrameArrival dt) s = .next t ∧ t.port d.port = some q ∧ q.conf = p.conf ∧
      t.pd.arriving = l ∧ q.expired = false ∧ q.value.kind = 0 ∧ q.value.time = d.stamp ∧
      q.value.seq = fldBe (trdpOf d.bytes).pay 0 4 ∧
      q.value.data = slice (trdpOf d.bytes).pay 40 (pSize p.conf) ∧
      q.value.commits = (p.value.commits + 1) % 2 ^ 32 ∧
      q.value.quality = BitVec.ofNat 8 (if pQpos p.conf then (q.value.data.headD 0).toNat % 64 else 0) ∧
      (pDir p.conf = 0 → pLimit p.conf ≠ 0 → q.sinkAt = some ((s.elapse dt).now + pLimit p.conf * 1000)) ∧
      (∀ j, j ≠ d.port → t.port j = s.port j)) ∧
  (∀ (s : State) (dt : Nat) (d : Delivery) (l : List Delivery) (p : PdPort), s.pd.arriving = d :: l →
    s.port d.port = some p → p.conf = d.conf → s.refuseStep p d.bytes ≠ 0 →
    ∃ t, exec (.pdFrameArrival dt) s = .next t ∧ t.pd.arriving = l ∧
      t.port d.port = some { p with
        lastStep := s.refuseStep p d.bytes, lastSrc := BitVec.ofNat 32 (fldBe (trdpOf d.bytes).ip 12 4) } ∧
      (∀ j, j ≠ d.port → t.port j = s.port j) ∧ t.onlyChanges s (.store :: eventParts))

/-! ### Frame ports, host rings and the fabric (chapters 3 and 4) -/

/-- MB_MAC_CONFIG takes a port record, or the ring record of port 24, and returns it; with READ it
returns the record in force. A record whose mode or auto-negotiation differs takes the link down; no
other port's state changes. MB_MDIO puts its request at the end of its master's queue and stays in
EXEC; the frame's end answers it with the data read, zero for a write, or ABSENT where a register read
found no answer (R89, R93, R96 to R98). -/
def Obligations.PortRecordsAndMdio : Prop :=
  (∀ (s : State) (dt : Nat) (r : Req), s.mbxFree → r.plain → r.body.length = 584 →
    let p := fld r.body 4 1
    let c := r.body.drop 8
    fld r.body 0 4 = 0 → zeroAt r.body 5 3 = true → p < 24 → portRsvOk c = true →
    portRangeOk p c = true → Tab.get 0 s.sys.retired p = 0 → s.absentUnit p = false →
    ∃ t, exec (.mbMacConfig dt r) s = .next t ∧ t.answered 0x0201 r stOk c ∧ (t.mac p).conf = c ∧
      (t.mac p).up = ((s.mac p).up && (s.mac p).conf.take 2 = c.take 2) ∧
      (∀ j, j ≠ p → t.mac j = s.mac j) ∧ t.ports.ringConf = s.ports.ringConf) ∧
  (∀ (s : State) (dt : Nat) (r : Req), s.mbxFree → r.plain → r.body.length = 8 →
    fld r.body 0 4 = 2 → zeroAt r.body 5 3 = true →
    (fld r.body 4 1 < 24 → Tab.get 0 s.sys.retired (fld r.body 4 1) = 0 →
      s.absentUnit (fld r.body 4 1) = false →
      ∃ t, exec (.mbMacConfig dt r) s = .next t ∧
        t.answered 0x0201 r stOk (s.mac (fld r.body 4 1)).conf ∧ t.onlyChanges s answerParts) ∧
    (fld r.body 4 1 = 24 → s.pcie = true →
      ∃ t, exec (.mbMacConfig dt r) s = .next t ∧ t.answered 0x0201 r stOk s.ports.ringConf ∧
        t.onlyChanges s answerParts)) ∧
  (∀ (s : State) (dt : Nat) (r : Req), s.mbxFree → r.plain → r.body.length = 520 →
    fld r.body 0 4 = 0 → fld r.body 4 4 = 24 → s.pcie = true →
    (((chunks 32 16 (r.body.drop 8)).zip (List.range 16)).all fun e => ringOk (8 ≤ e.2) e.1) = true →
    ∃ t, exec (.mbMacConfig dt r) s = .next t ∧ t.answered 0x0201 r stOk (r.body.drop 8) ∧
      t.ports.ringConf = r.body.drop 8 ∧ t.ports.tab = s.ports.tab ∧
      t.onlyChanges s (.ports :: mailParts)) ∧
  (∀ (s : State) (dt : Nat) (r : Req), s.mbxFree → r.plain → r.body.length = 8 →
    zeroAt r.body 6 2 = true → fld r.body 0 1 ≤ 1 → fld r.body 1 1 ≤ 5 → fld r.body 2 1 ≤ 31 →
    fld r.body 3 1 ≤ 31 → s.hasDom (fld r.body 0 1) = true →
    let q : MdioReq :=
      { op := fld r.body 1 1, prtad := fld r.body 2 1, reg := fld r.body 3 1, data := fld r.body 4 2 }
    ∃ t, exec (.mbMdio dt r) s = .next t ∧ t.hif.exec = true ∧ t.hif.respValid = false ∧
      t.ports = (if fld r.body 0 1 = 0 then { s.ports with mdio0 := s.ports.mdio0 ++ [q] }
        else { s.ports with mdio1 := s.ports.mdio1 ++ [q] }) ∧
      t.sent = s.sent ++ [.mdio (fld r.body 0 1) q.op q.prtad q.reg q.data] ∧
      t.onlyChanges s [.mailbox, .outputs, .ports]) ∧
  (∀ (s : State) (dt : Nat) (m : Fin 2) (ack : Bool) (data : U16) (q : MdioReq) (l : List MdioReq)
      (h : Held) (r : Req),
    (if m.val = 0 then s.ports.mdio0 else s.ports.mdio1) = q :: l → s.hif.held = some h →
    h.op = 0x0202 → h.tag = r.tag.toNat → h.seq = r.seq.toNat → s.hif.ready = true →
    ∃ t, exec (.mdioFrameComplete dt m ack data) s = .next t ∧
      (if m.val = 0 then t.ports.mdio0 else t.ports.mdio1) = l ∧
      (if q.op = 0 ∧ ack = false then t.answered 0x0202 r stAbsent [] ∧
          Tab.get 0 t.tly.live (tlHost (hNoack m.val)) =
            min tlyMax (Tab.get 0 s.tly.live (tlHost (hNoack m.val)) + 1)
        else if q.op = 0 ∨ q.op = 4 ∨ q.op = 5 then
          t.answered 0x0202 r stOk (le 2 data.toNat ++ zeros 2)
        else t.answered 0x0202 r stOk (zeros 4)))

/-- A link that comes up on a port with a mode, present and down, is up at the speed its mode or the
negotiation gives, and LINK_UP is entered; a link that goes down is down, its port's queue is empty,
LINK_DOWN counts and is entered; BLOCK_LOSS counts on a link that is up and changes nothing else
(R89, R90, R123). Each is without effect where the link is not as it supposes. -/
def Obligations.LinksRiseAndFall : Prop :=
  (∀ (s : State) (dt : Nat) (p : Fin 24) (mbps : Nat), fld (s.mac p.val).conf 0 1 ≠ 0 →
    (s.mac p.val).up = false → s.absentUnit p.val = false → mbps ∈ [100, 1000, 10000] →
    let mode := fld (s.mac p.val).conf 0 1
    ∃ t, exec (.linkUp dt p mbps) s = .next t ∧
      t.mac p.val = { s.mac p.val with
        up := true
        mbps := if mode = 1 then 10000 else if mode = 2 ∨ mode = 4 then 1000
          else if mode = 5 then 100 else mbps } ∧
      (∀ j, j ≠ p.val → t.mac j = s.mac j)) ∧
  (∀ (s : State) (dt : Nat) (p : Fin 24) (mbps : Nat),
    fld (s.mac p.val).conf 0 1 = 0 ∨ (s.mac p.val).up = true ∨ s.absentUnit p.val = true →
    ∃ t, exec (.linkUp dt p mbps) s = .next t ∧ t.onlyChanges s []) ∧
  (∀ (s : State) (dt : Nat) (p : Fin 24) (cause : Fin 3), (s.mac p.val).up = true →
    ∃ t, exec (.linkDown dt p cause) s = .next t ∧ t.mac p.val = { s.mac p.val with up := false } ∧
      (∀ j, j ≠ p.val → t.mac j = s.mac j) ∧ (∀ c ∈ t.fab.copies, c.port ≠ p.val) ∧
      Tab.get none t.fab.tx p.val = none ∧
      Tab.get 0 t.tly.live (tlPort p.val mLinkDown) =
        min tlyMax (Tab.get 0 s.tly.live (tlPort p.val mLinkDown) + 1)) ∧
  (∀ (s : State) (dt : Nat) (p : Fin 24) (cause : Fin 3), (s.mac p.val).up = false →
    ∃ t, exec (.linkDown dt p cause) s = .next t ∧ t.onlyChanges s []) ∧
  (∀ (s : State) (dt : Nat) (p : Fin 24), (s.mac p.val).up = true → s.absentUnit p.val = false →
    ∃ t, exec (.blockLoss dt p) s = .next t ∧ t.onlyChanges s [.tallies] ∧
      Tab.get 0 t.tly.live (tlPort p.val mBlockLoss) =
        min tlyMax (Tab.get 0 s.tly.live (tlPort p.val mBlockLoss) + 1)) ∧
  (∀ (s : State) (dt : Nat) (p : Fin 24), (s.mac p.val).up = false ∨ s.absentUnit p.val = true →
    ∃ t, exec (.blockLoss dt p) s = .next t ∧ t.onlyChanges s [])

/-- The MAC's checks of a received frame, in their order (R99 to R101): too short counts RUNT, too long
for the record under which it began OVERSIZE, a symbol error SYMBOL, a bad FCS FCS; a frame so counted
goes no further. A frame that passes them, and no seed hits, is steered by its class and the ledger
(R105 to R107, R122, R130, R135, R136, R144, R159). A closed port counts CLOSED and takes nothing. On
an open port it is counted; on a secured link a frame that verification refuses goes no further; a
class of DISP 2 drops it; a ledger miss counts LEDGER_MISS and, where the class says so, drops it; a
hit whose policer refuses it counts POL_DROP and is dropped; a hit with PV hands it to the port store
with the time at which it came in. -/
def Obligations.ReceivedFramesAreCheckedAndSteered : Prop :=
  (∀ (s : State) (dt : Nat) (f : RxFrame),
    let e := s.elapse dt
    let p := f.port.val
    let m := f.bytes.length + 4
    let wire := if f.tag.isSome then m + 32 else m
    ((s.mac p).up = false ∨ s.absentUnit p = true →
      ∃ t, exec (.frameReceive dt f) s = .next t ∧ t.onlyChanges s []) ∧
    ((s.mac p).up = true → s.absentUnit p = false →
      wire < 64 ∨ fld (e.rxConf p wire) 2 2 < m ∨ f.symErr = true ∨ f.fcsOk = false →
      let k := tlPort p (if wire < 64 then mRunt else if fld (e.rxConf p wire) 2 2 < m then mOversize
        else if f.symErr then mSymbol else mFcs)
      ∃ t, exec (.frameReceive dt f) s = .next t ∧ t.onlyChanges s [.tallies] ∧
        Tab.get 0 t.tly.live k = min tlyMax (Tab.get 0 s.tly.live k + 1) ∧
        ∀ j, j ≠ k → Tab.get 0 t.tly.live j = Tab.get 0 s.tly.live j)) ∧
  (∀ (s : State) (dt : Nat) (f : RxFrame),
    let e := s.elapse dt
    let p := f.port.val
    let m := f.bytes.length + 4
    let wire := if f.tag.isSome then m + 32 else m
    let conf := e.rxConf p wire
    let h := headsOf conf f.bytes
    let c := classRec conf (classOf conf h)
    (s.mac p).up = true → s.absentUnit p = false → 64 ≤ wire → m ≤ fld conf 2 2 → f.symErr = false →
    f.fcsOk = true → s.seeds.armed = [] → s.exempt p f.bytes = false → isTime f.bytes = false →
    fldBe f.bytes 12 2 ≠ 0x8808 →
    let up := fun (t : State) k => Tab.get 0 t.tly.live k = min tlyMax (Tab.get 0 s.tly.live k + 1)
    (e.portOpen p = false → ∃ t, exec (.frameReceive dt f) s = .next t ∧
      up t (tlPort p mClosed) ∧ t.onlyChanges s [.tallies]) ∧
    (e.portOpen p = true → blocksOf m ≤ s.free (if fld c 3 1 = 1 then 1 else 2) →
      (∀ k, (s.sa p).secured = true → secCheck (s.sa p) f = some k → k < 4 →
        ∃ t, exec (.frameReceive dt f) s = .next t ∧ up t (tlPort p mRxFrames) ∧
          up t (tlPort p (mSecNotag + k)) ∧ t.onlyChanges s eventParts) ∧
      ((s.sa p).secured = false → fld c 0 1 = 2 → ∃ t, exec (.frameReceive dt f) s = .next t ∧
        up t (tlPort p mRxFrames) ∧ up t (tlPort p mClassDrop) ∧ t.onlyChanges s [.tallies]) ∧
      ((s.sa p).secured = false → fld c 0 1 = 0 → fld c 2 1 ≠ 1 → s.lookup p h f.bytes = none →
        ∃ t, exec (.frameReceive dt f) s = .next t ∧ up t (tlPort p mRxFrames) ∧ up t (tlFab 1) ∧
          up t (tlPort p mMissDrop) ∧ t.onlyChanges s [.tallies]) ∧
      (∀ (n : Nat) (q : Par), (s.sa p).secured = false → fld c 0 1 = 0 →
        s.lookup p h f.bytes = some n → entPen n = true → s.par.force = some q →
        let r := q.policers.getD (entPolicer n) []
        fld r 8 1 = 0 → e.fill (entPolicer n) r < m * 8 * 2 ^ 32 →
        ∃ t, exec (.frameReceive dt f) s = .next t ∧ up t (tlPort p mRxFrames) ∧ up t (tlFab 0) ∧
          up t (tlPol (entPolicer n) 1) ∧ t.pd.arriving = s.pd.arriving ∧
          t.onlyChanges s [.tallies, .fabric]) ∧
      (∀ n, (s.sa p).secured = false → fld c 0 1 = 0 → s.lookup p h f.bytes = some n →
        entPen n = false → entEgress n = 0 → entTeller n = false → entPv n = true →
        ∃ t d, exec (.frameReceive dt f) s = .next t ∧ up t (tlPort p mRxFrames) ∧ up t (tlFab 0) ∧
          t.pd.arriving = s.pd.arriving ++ [d] ∧ d.port = entPort n ∧ d.bytes = f.bytes ∧
          d.stamp = e.rxStamp p wire ∧ t.onlyChanges s [.tallies, .fabric, .store])))

/-- Egress (R155, R157): the queue a port sends from is the highest-numbered of those whose gate is
open and whose head may start, and its head goes first. When a frame's transmission has ended it is
sent, counted by kind, and its line is free; before its end it stays. -/
def Obligations.EgressChoosesHighestQueue : Prop :=
  (∀ (s : State) (p : Nat),
    let able := fun q c => (s.queueOf p q).head? = some c ∧ bit (s.gateMask p) q = true ∧
      (s.scheduled p q = true ∨ s.canStart p c = true)
    (∀ c, s.eligible p = some c → c.port = p ∧ c.queue < 8 ∧ able c.queue c ∧
      ∀ q d, c.queue < q → q < 8 → ¬able q d) ∧
    (s.eligible p = none ↔ ∀ q d, q < 8 → ¬able q d)) ∧
  (∀ (s : State) (dt : Nat) (p : Fin 25) (x : TxNow) (f : Frame),
    Tab.get none s.fab.tx p.val = some x → x.endAt ≤ (s.elapse dt).now * 10 →
    s.frame x.frame = some f → s.fab.copies = [] → s.seeds.holdUntil = [] →
    let up := fun (t : State) k => Tab.get 0 t.tly.live k = min tlyMax (Tab.get 0 s.tly.live k + 1)
    ∃ t, exec (.frameTxEnd dt p) s = .next t ∧ t.sent = s.sent ++ [.frame p.val f.bytes] ∧
      Tab.get none t.fab.tx p.val = none ∧ up t (tlPort p.val mTxFrames) ∧
      up t (tlPort p.val (if x.sched then mTxSched else mTxBest)) ∧
      (f.host = true → up t (tlPort p.val mTxHost)) ∧ t.onlyChanges s [.outputs, .tallies, .fabric]) ∧
  (∀ (s : State) (dt : Nat) (p : Fin 25), s.seeds.holdUntil = [] →
    Tab.get none s.fab.tx p.val = none ∨
      (∃ x, Tab.get none s.fab.tx p.val = some x ∧ (s.elapse dt).now * 10 < x.endAt) →
    ∃ t, exec (.frameTxEnd dt p) s = .next t ∧ t.onlyChanges s [])

/-- The ledger and the teller's queue (R135, R138, R139, R141, R153). A word found for a key in a
generation is one of the key's four slots, live in that generation, with that key, and not failed.
MB_LEDGER_READ of a way and bucket returns the word there; a completed rewrite makes its word good and
no other; the teller takes the oldest frame of its queue. -/
def Obligations.LedgerAndTellerQueue : Prop :=
  (∀ (l : Ledger) (gen key n : Nat), l.find gen key = some n →
    (∃ w, w < 4 ∧ n = 4096 * w + bucketOf w key) ∧ n ∉ l.bad ∧
      bit (entryGen (Tab.get 0 l.slots n)) gen = true ∧ entryKey (Tab.get 0 l.slots n) = key) ∧
  (∀ (s : State) (dt : Nat) (r : Req), s.mbxFree → r.plain → r.body.length = 24 → fld r.body 0 1 = 0 →
    fld r.body 1 1 ≤ 3 → fld r.body 2 2 ≤ 4095 → zeroAt r.body 4 20 = true →
    let n := 4096 * fld r.body 1 1 + fld r.body 2 2
    let e := Tab.get 0 s.fab.ledger.slots n
    let found := entryGen e ≠ 0 && !s.fab.ledger.bad.contains n
    ∃ t, exec (.mbLedgerRead dt r) s = .next t ∧
      t.answered 0x0203 r stOk (le 1 (bnat found) ++ le 1 (fld r.body 1 1) ++ le 2 (fld r.body 2 2) ++
        le 1 (n / 1024) ++ le 1 (s.fab.ledger.phys (n / 1024)) ++ zeros 2 ++
        (if found then le 16 e else zeros 16)) ∧ t.onlyChanges s answerParts) ∧
  (∀ (s : State) (dt : Nat) (w : Fin 4) (b : BitVec 12), s.tellerUp = true →
    ∃ t, exec (.ledgerRewriteComplete dt w b) s = .next t ∧ t.onlyChanges s [.fabric] ∧
      t.fab.ledger.slots = s.fab.ledger.slots ∧
      ∀ n, n ∈ t.fab.ledger.bad ↔ n ∈ s.fab.ledger.bad ∧ n ≠ 4096 * w.val + b.toNat) ∧
  (∀ (s : State) (dt : Nat) (l₁ l₂ : List Copy) (c : Copy), s.tellerUp = true →
    s.fab.copies = l₁ ++ c :: l₂ → (∀ d ∈ l₁, d.port ≠ 25) → c.port = 25 →
    ∃ t, exec (.tellerTakesFrame dt) s = .next t ∧ t.fab.copies = l₁ ++ l₂ ∧
      t.onlyChanges s [.fabric]) ∧
  (∀ (s : State) (dt : Nat), (∀ c ∈ s.fab.copies, c.port ≠ 25) →
    ∃ t, exec (.tellerTakesFrame dt) s = .next t ∧ t.onlyChanges s [])

/-- A host receive ring (R114 to R117, R121): descriptors as they were read are known to it; a frame
whose every buffer is filled is handed back in as many descriptors, the ring moves on by them and
FRAMES counts; with a message held off, vector 3 is raised once its hold-off is over. -/
def Obligations.HostReceiveRings : Prop :=
  (∀ (s : State) (dt : Nat) (q : Fin 8) (l : List RxDesc), s.pcie = true →
    rgOn (s.ringRec q.val) = true → s.queueOf 24 q.val = [] →
    ∃ t, exec (.hrxDescriptorReread dt q l) s = .next t ∧
      t.hrx q.val = { s.hrx q.val with cached := l.take 16 } ∧
      (∀ j, j ≠ q.val → t.hrx j = s.hrx j) ∧ t.onlyChanges s [.ports]) ∧
  (∀ (s : State) (dt : Nat) (q : Fin 8) (l : List RxDesc),
    s.pcie = false ∨ rgOn (s.ringRec q.val) = false →
    ∃ t, exec (.hrxDescriptorReread dt q l) s = .next t ∧ t.onlyChanges s []) ∧
  (∀ (s : State) (dt : Nat) (q : Fin 8) (c : Copy) (f : Frame), rgOn (s.ringRec q.val) = true →
    s.queueOf 24 q.val = [c] → s.frame c.frame = some f → f.id = c.frame →
    (s.hrx q.val).cur = some f.id → s.buffers q.val f ≤ ownRun (s.hrx q.val).cached →
    let n := s.buffers q.val f
    let x := s.hrx q.val
    ∃ t, exec (.hostRxComplete dt q) s = .next t ∧
      (t.hrx q.val).index = (x.index + n) % max 1 (rgCount (s.ringRec q.val)) ∧
      (t.hrx q.val).cached = x.cached.drop n ∧ (t.hrx q.val).cur = none ∧
      Tab.get 0 t.tly.live (tlHost (hHrxFrames q.val)) =
        min tlyMax (Tab.get 0 s.tly.live (tlHost (hHrxFrames q.val)) + 1) ∧
      (∀ i, i < n → ∃ b, .ring q.val ((x.index + i) % max 1 (rgCount (s.ringRec q.val))) b ∈ t.sent ∧
        fld b 0 2 = min (rgBuf (s.ringRec q.val)) (f.bytes.length - rgBuf (s.ringRec q.val) * i) % 65536 ∧
        bit (fld b 3 1) 6 = decide (i = 0) ∧ bit (fld b 3 1) 5 = decide (i + 1 = n))) ∧
  (∀ (s : State) (dt : Nat) (q : Fin 8), s.queueOf 24 q.val = [] →
    ∃ t, exec (.hostRxComplete dt q) s = .next t ∧ t.onlyChanges s []) ∧
  (∀ (s : State) (dt : Nat) (r : Fin 17),
    let waits := if r.val = 16 then s.pd.ringWait
      else if r.val < 8 then (s.hrx r.val).vecWait else (s.htx (r.val - 8)).vecWait
    let last := if r.val = 16 then s.pd.ringVec
      else if r.val < 8 then (s.hrx r.val).lastVec else (s.htx (r.val - 8)).lastVec
    let hold := if r.val = 16 then fld s.pd.ring 13 1 * 1000 else rgHold (s.ringRec r.val)
    (waits = true → (∀ a, last = some a → a + hold ≤ (s.elapse dt).now) →
      ∃ t, exec (.msixHoldoffExpiry dt r) s = .next t ∧
        t.hif.intStatus.getLsbD (if r.val = 16 then 2 else 3) = true ∧
        (if r.val = 16 then t.pd.ringWait
          else if r.val < 8 then (t.hrx r.val).vecWait else (t.htx (r.val - 8)).vecWait) = false ∧
        t.onlyChanges s [.interrupts, .outputs, .ports, .store]) ∧
    (waits = false →
      ∃ t, exec (.msixHoldoffExpiry dt r) s = .next t ∧ t.onlyChanges s []))

/-- A host transmit ring (R118 to R121, R150), read when its time has come. Descriptors of which one is
the host's leave it as it was until POLL later; malformed ones are handed back and count BAD, those for
an absent port ABSENT; others are fetched where the pool has room. A fetched frame is taken and counts
FRAMES, or waits while its queue has no room, and goes on once it has. -/
def Obligations.HostTransmitRings : Prop :=
  (∀ (s : State) (dt : Nat) (q : Fin 8) (l : List TxDesc),
    let x := s.htx q.val
    let e := s.elapse dt
    let conf := s.ringRec (8 + q.val)
    let ds := frameDescs 16 l
    s.pcie = true → rgOn conf = true → x.fetching = false → x.paused = none → x.pollAt ≤ e.now →
    (l ≠ [] → (∃ d ∈ ds, d.own = false) →
      ∃ t, exec (.hostTxPoll dt q l) s = .next t ∧
        t.htx q.val = { x with pollAt := e.now + rgPoll conf } ∧ t.onlyChanges s [.ports]) ∧
    ((∀ d ∈ ds, d.own = true) → (∃ d ∈ ds, d.eof = true) →
      (badDescs ds = true → ∃ t, exec (.hostTxPoll dt q l) s = .next t ∧
        (t.htx q.val).index = (x.index + ds.length) % max 1 (rgCount conf) ∧
        (t.htx q.val).fetching = false ∧
        Tab.get 0 t.tly.live (tlHost (hHtx q.val 1)) =
          min tlyMax (Tab.get 0 s.tly.live (tlHost (hHtx q.val 1)) + 1)) ∧
      (∀ d, badDescs ds = false → ds.head? = some d → d.ledger = false →
        s.hasDom (portDomain d.port.toNat) = false →
        ∃ t, exec (.hostTxPoll dt q l) s = .next t ∧
          (t.htx q.val).index = (x.index + ds.length) % max 1 (rgCount conf) ∧
          Tab.get 0 t.tly.live (tlHost (hHtx q.val 3)) =
            min tlyMax (Tab.get 0 s.tly.live (tlHost (hHtx q.val 3)) + 1)) ∧
      (∀ d, badDescs ds = false → ds.head? = some d → 256 ≤ s.free 2 →
        d.ledger = true ∨ (s.absentUnit d.port.toNat = false ∧ s.hasDom (portDomain d.port.toNat) = true ∧
          fld (s.mac d.port.toNat).conf 0 1 ≠ 0) →
        ∃ t, exec (.hostTxPoll dt q l) s = .next t ∧
          t.htx q.val = { x with descs := ds, fetching := true } ∧ t.onlyChanges s [.ports]))) ∧
  (∀ (s : State) (dt : Nat) (q : Fin 8) (l : List TxDesc),
    s.pcie = false ∨ rgOn (s.ringRec (8 + q.val)) = false ∨ (s.htx q.val).fetching = true ∨
      (s.elapse dt).now < (s.htx q.val).pollAt →
    ∃ t, exec (.hostTxPoll dt q l) s = .next t ∧ t.onlyChanges s []) ∧
  (∀ (s : State) (dt : Nat) (q : Fin 8) (data : List Byte) (d : TxDesc),
    let x := s.htx q.val
    let p := d.port.toNat
    let m := max 60 data.length + 4
    x.fetching = true → x.paused = none → data.length = descBytes x.descs → x.descs.head? = some d →
    d.ledger = false → s.absentUnit p = false → fld (s.mac p).conf 0 1 ≠ 0 → p < 24 →
    blocksOf m ≤ s.free 2 →
    (s.admits p (d.queue.toNat % 8) (blocksOf m) = true →
      ∃ t, exec (.hostTxFetchComplete dt q data) s = .next t ∧ (t.htx q.val).fetching = false ∧
        (t.htx q.val).index = (x.index + x.descs.length) % max 1 (rgCount (s.ringRec (8 + q.val))) ∧
        Tab.get 0 t.tly.live (tlHost (hHtx q.val 0)) =
          min tlyMax (Tab.get 0 s.tly.live (tlHost (hHtx q.val 0)) + 1) ∧
        t.fab.nextId = s.fab.nextId + 1) ∧
    (s.admits p (d.queue.toNat % 8) (blocksOf m) = false →
      ∃ t, exec (.hostTxFetchComplete dt q data) s = .next t ∧
        t.htx q.val = { x with paused := some data } ∧ t.onlyChanges s [.ports])) ∧
  (∀ (s : State) (dt : Nat) (q : Fin 8) (data : List Byte) (d : TxDesc),
    let x := s.htx q.val
    let p := d.port.toNat
    let m := max 60 data.length + 4
    x.paused = some data → (∀ j, j < 8 → j ≠ q.val → (s.htx j).paused = none) →
    x.descs.head? = some d → d.ledger = false → s.absentUnit p = false →
    fld (s.mac p).conf 0 1 ≠ 0 → p < 24 → blocksOf m ≤ s.free 2 → 256 ≤ s.free 2 →
    s.admits p (d.queue.toNat % 8) (blocksOf m) = true →
    ∃ t, exec (.hostTxResume dt) s = .next t ∧ (t.htx q.val).paused = none ∧
      (t.htx q.val).index = (x.index + x.descs.length) % max 1 (rgCount (s.ringRec (8 + q.val))) ∧
      t.fab.nextId = s.fab.nextId + 1) ∧
  (∀ (s : State) (dt : Nat), (∀ j, j < 8 → (s.htx j).paused = none) ∨ s.free 2 < 256 →
    ∃ t, exec (.hostTxResume dt) s = .next t ∧ t.onlyChanges s [])

/-! ### Train inauguration (chapter 6) -/

/-- Line states (R215 to R217). The first HELLO from a neighbour makes a port PENDING, the next from the
same one UP; one from another neighbour makes it PENDING again; three announced periods without one
make it DOWN and count HELLO_LOSS. A change of line state, or a HELLO in fast mode, begins fast mode.
When they are due HELLO and TOPOLOGY leave and the next are due one period later. The relay settle time
and fast mode end when they are due. Nothing happens before its time or on a port without link. -/
def Obligations.LineStatesFollowHellos : Prop :=
  (∀ (s : State) (dt : Nat) (p : Fin 4) (mac : BitVec 48) (ms : Nat) (fast : Bool),
    let b := s.bb p.val
    let on := (s.mac p.val).up = true ∧ s.absentUnit p.val = false
    let same := b.nbr = mac ∧ b.line ≠ .down
    (¬on → ∃ t, exec (.helloRx dt p mac ms fast) s = .next t ∧ t.onlyChanges s []) ∧
    (on → ∃ t, exec (.helloRx dt p mac ms fast) s = .next t ∧ (t.bb p.val).nbr = mac ∧
      (t.bb p.val).lastAt = (s.elapse dt).now ∧ (t.bb p.val).period = ms * 1000000 ∧
      (t.bb p.val).line = (if same ∧ (b.line = .up ∨ 1 ≤ b.count) then LineState.up else .pending) ∧
      (∀ j, j ≠ p.val → (t.bb j).line = (s.bb j).line ∧ (t.bb j).nbr = (s.bb j).nbr) ∧
      (fast = true ∨ (t.bb p.val).line ≠ b.line → t.inaug.fast = true) ∧
      (fast = false → (t.bb p.val).line = b.line → t.inaug.fast = s.inaug.fast ∧
        t.onlyChanges s [.inaug]) ∧
      t.inaug.numbered = s.inaug.numbered)) ∧
  (∀ (s : State) (dt : Nat) (p : Fin 4),
    let b := s.bb p.val
    let due := b.line = .up ∧ b.lastAt + 3 * b.period ≤ (s.elapse dt).now
    (due → ∃ t, exec (.helloLoss dt p) s = .next t ∧ (t.bb p.val).line = .down ∧
      t.inaug.fast = true ∧ t.inaug.numbered = s.inaug.numbered ∧
      Tab.get 0 t.tly.live (tlPort p.val mHelloLoss) =
        min tlyMax (Tab.get 0 s.tly.live (tlPort p.val mHelloLoss) + 1)) ∧
    (¬due → ∃ t, exec (.helloLoss dt p) s = .next t ∧ t.onlyChanges s [])) ∧
  (∀ (s : State) (dt : Nat) (p : Fin 4),
    let due := (s.mac p.val).up = true ∧ s.absentUnit p.val = false ∧
      (s.bb p.val).sendAt ≤ (s.elapse dt).now
    (due → ∃ t x y, exec (.helloSend dt p) s = .next t ∧
      t.bb p.val = { s.bb p.val with sendAt := (s.elapse dt).now + s.helloNs } ∧
      t.sent = s.sent ++ [.msg p.val (ev 6 0) x, .msg p.val (ev 6 1) y] ∧
      x = macBytes Config.nodeMac ++ le 2 (s.helloNs / 1000000) ++ le 1 (bnat s.inaug.fast) ∧
      slice y 9 4 = le 4 s.announced.toNat ∧ t.onlyChanges s [.outputs, .inaug]) ∧
    (¬due → ∃ t, exec (.helloSend dt p) s = .next t ∧ t.onlyChanges s [])) ∧
  (∀ (s : State) (dt : Nat) (line : Fin 2) (a : Nat), s.PinsRight →
    (if line.val = 0 then s.inaug.relayA else s.inaug.relayB) = some a → a ≤ (s.elapse dt).now →
    ∃ t, exec (.relaySettleExpiry dt line) s = .next t ∧
      (if line.val = 0 then t.inaug.relayA else t.inaug.relayB) = none ∧
      t.inaug.bb = s.inaug.bb ∧ t.inaug.numbered = s.inaug.numbered) ∧
  (∀ (s : State) (dt : Nat) (line : Fin 2),
    (∀ a, (if line.val = 0 then s.inaug.relayA else s.inaug.relayB) = some a → (s.elapse dt).now < a) →
    ∃ t, exec (.relaySettleExpiry dt line) s = .next t ∧ t.onlyChanges s []) ∧
  (∀ (s : State) (dt a : Nat), s.inaug.fastEnd = some a → a ≤ (s.elapse dt).now →
    ∃ t, exec (.fastModeExit dt) s = .next t ∧ t.inaug.fast = false ∧ t.inaug.fastEnd = none ∧
      t.inaug.bb = s.inaug.bb ∧ t.inaug.numbered = s.inaug.numbered ∧ t.onlyChanges s [.inaug]) ∧
  (∀ (s : State) (dt : Nat), (∀ a, s.inaug.fastEnd = some a → (s.elapse dt).now < a) →
    ∃ t, exec (.fastModeExit dt) s = .next t ∧ t.onlyChanges s [])

/-- Numbering (R218 to R223, R226 to R230, R238). Node 1 is the end node of the lower address and this
node's place follows the order of the list. A TOPOLOGY frame replaces the views of the lines. When the
settle time ends the numbering of the topology is computed, unless inhibition forbids it; more than 63
nodes are refused and counted. At its boundary an agreed numbering takes effect with its etbTopoCnt, and
opTrnTopoCnt is 0; a new opTrnTopoCnt takes effect at its own boundary. MB_INAUG_CONFIG takes its record
and returns it, with READ the record in force; a record out of range is MALFORMED and changes nothing.
MB_INAUG_STATUS returns the node state, the numbering, the counters and each port's line state and
neighbour. -/
def Obligations.NumberingIsAgreedAndBound : Prop :=
  (∀ l : List TopoNode, l ≠ [] →
    let n := numberingOf l
    (n.list = l ∨ n.list = turn l) ∧ n.n = l.length ∧
      (∀ a b, n.list.head? = some a → n.list.getLast? = some b → a.mac.toNat ≤ b.mac.toNat) ∧
      (∀ x, n.list[n.p]? = some x → x.mac = Config.nodeMac) ∧
      ((∃ x ∈ l, x.mac = Config.nodeMac) → n.p < n.n)) ∧
  (∀ (s : State) (dt : Nat) (p : Fin 4) (m : TopoMsg),
    let on := (s.mac p.val).up = true ∧ s.absentUnit p.val = false ∧ s.tellerUp = true
    (on → ∃ t, exec (.topologyRx dt p m) s = .next t ∧ t.inaug.viewA = m.lineA ∧
      t.inaug.viewB = m.lineB ∧ (m.fast = true → t.inaug.fast = true) ∧
      t.inaug.numbered = s.inaug.numbered) ∧
    (¬on → ∃ t, exec (.topologyRx dt p m) s = .next t ∧ t.onlyChanges s [])) ∧
  (∀ (s : State) (dt a : Nat), s.inaug.settleAt = some a → a ≤ (s.elapse dt).now → s.tellerUp = true →
    s.inhibitNow = false ∨ s.inaug.numbered = none →
    (∀ l, s.topology = some l → l.length ≤ 63 →
      ∃ t, exec (.settleExpiry dt) s = .next t ∧ t.inaug.settleAt = none ∧ t.inaug.invalid = false ∧
        t.inaug.numbered = s.inaug.numbered ∧
        (t.inaug.computed = some (numberingOf l) ∧ t.inaug.pending = s.inaug.pending ∨
          t.inaug.computed = none ∧ ∃ b, t.inaug.pending = some (b, numberingOf l)) ∧
        t.onlyChanges s [.inaug]) ∧
    (∀ l, s.topology = some l → 63 < l.length →
      ∃ t, exec (.settleExpiry dt) s = .next t ∧ t.inaug.settleAt = none ∧ t.inaug.invalid = true ∧
        t.inaug.numbered = s.inaug.numbered ∧ t.inaug.computed = s.inaug.computed ∧
        Tab.get 0 t.tly.live (tlInaug 3) = min tlyMax (Tab.get 0 s.tly.live (tlInaug 3) + 1))) ∧
  (∀ (s : State) (dt : Nat), (∀ a, s.inaug.settleAt = some a → (s.elapse dt).now < a) ∨
      s.tellerUp = false ∨ (s.inhibitNow = true ∧ s.inaug.numbered.isSome = true) →
    ∃ t, exec (.settleExpiry dt) s = .next t ∧ t.onlyChanges s []) ∧
  (∀ (s : State) (dt b : Nat) (n : Numbering), s.inaug.pending = some (b, n) →
    b ≤ (s.elapse dt).net + 2 →
    ∃ t, exec (.rebinding dt) s = .next t ∧ t.inaug.numbered = some n ∧ t.inaug.etbTopo = n.etbTopo ∧
      t.inaug.optrn = 0 ∧ t.inaug.pending = none ∧ t.inaug.lastB = b ∧
      Tab.get 0 t.tly.live (tlInaug 0) = min tlyMax (Tab.get 0 s.tly.live (tlInaug 0) + 1) ∧
      (∀ p, s.par.force = some p → t.inaug.overcount = decide (p.maxNodes < n.n))) ∧
  (∀ (s : State) (dt : Nat), (∀ b n, s.inaug.pending = some (b, n) → (s.elapse dt).net + 2 < b) →
    ∃ t, exec (.rebinding dt) s = .next t ∧ t.onlyChanges s []) ∧
  (∀ (s : State) (dt b : Nat) (v : U32), s.inaug.optrnAt = some (b, v) → b ≤ (s.elapse dt).net + 2 →
    ∃ t, exec (.optrnApply dt) s = .next t ∧ t.inaug.optrnAt = none ∧
      t.inaug.optrn = (if s.inaug.numbered.isSome then v else 0) ∧
      t.inaug.etbTopo = s.inaug.etbTopo ∧ t.onlyChanges s [.inaug]) ∧
  (∀ (s : State) (dt : Nat), (∀ b v, s.inaug.optrnAt = some (b, v) → (s.elapse dt).net + 2 < b) →
    ∃ t, exec (.optrnApply dt) s = .next t ∧ t.onlyChanges s []) ∧
  (∀ (s : State) (dt : Nat) (r : Req), s.mbxFree → r.plain → r.body.length = 36 → fld r.body 0 4 = 0 →
    fld r.body 12 1 < 16 → zeroAt r.body 13 3 = true → zeroAt r.body 20 16 = true →
    (inaugOk (r.body.drop 4) = true → ∃ t, exec (.mbInaugConfig dt r) s = .next t ∧
      t.answered 0x0401 r stOk (r.body.drop 4) ∧ t.inaug.conf = r.body.drop 4 ∧
      t.inaug.numbered = s.inaug.numbered ∧ t.ports.tab = s.ports.tab) ∧
    (inaugOk (r.body.drop 4) = false → ∃ t, exec (.mbInaugConfig dt r) s = .next t ∧
      t.answered 0x0401 r stMalformed [] ∧ t.onlyChanges s answerParts)) ∧
  (∀ (s : State) (dt : Nat) (r : Req), s.mbxFree → r.plain → r.body.length = 4 → fld r.body 0 4 = 2 →
    ∃ t, exec (.mbInaugConfig dt r) s = .next t ∧ t.answered 0x0401 r stOk s.inaug.conf ∧
      t.onlyChanges s answerParts) ∧
  (∀ (s : State) (dt : Nat) (r : Req), s.mbxFree → r.plain → r.body = [] →
    ∃ t b, exec (.mbInaugStatus dt r) s = .next t ∧ t.answered 0x0402 r stOk b ∧
      b = le 1 s.nodeState ++ (match s.inaug.numbered with
          | some n => le 1 n.n ++ le 1 n.p ++ le 1 (n.p + 1) ++ le 1 (bnat n.inverse)
          | none => zeros 4) ++ le 1 (fld s.inaug.conf 7 1) ++ zeros 2 ++ le 4 s.inaug.etbTopo.toNat ++
        le 4 s.inaug.optrn.toNat ++ secNs s.inaug.lastB ++ zeros 4 ++
        ((List.range 4).map fun p =>
          le 1 (lineNo (s.bb p).line) ++ zeros 1 ++ macBytes (s.bb p).nbr).flatten ∧
      t.onlyChanges s answerParts)


/-! ### Network time (chapter 7) -/

/-- The correction of the rate stays within 200 parts per million in every step, and at reset (R243). -/
def Obligations.EveryStepKeepsRateBounded : Prop :=
  let ok := fun s : State => s.time.freq.natAbs ≤ 200000000 ∧ (s.time.freq + s.time.slew).natAbs ≤ 200000000
  ok State.reset ∧ ∀ s t : State, step s = .next t → ok s → ok t

/-- Received time messages (R244, R247, R251, R253). On a port whose time unit works a message is
accepted and counted, unless AUTH is set and it is not authentic; then it is discarded and TIME_AUTH
counts. A two-step Sync is kept with its stamp; the Follow_Up of its number, or a one-step Sync, on the
slave port gives the offset by the formula of R251 while the path delay is valid. A Pdelay exchange
gives the path delay by its formula. An Announce gives the port its master. Delay_Req counts
TIME_UNSUP. -/
def Obligations.TimeMessagesMeasureTime : Prop :=
  (∀ (c : Instr) (s : State) (dt : Nat) (h : TimeHdr), timeRow c = some (dt, h) →
    let p := h.port.val
    (s.tLive p = false → ∃ t, exec c s = .next t ∧ t.onlyChanges s []) ∧
    (s.tLive p = true → s.tAuth p = true → (s.sa p).secured = false ∨ h.icvOk = false →
      ∃ t, exec c s = .next t ∧ t.onlyChanges s eventParts ∧
        Tab.get 0 t.tly.live (tlPort p mTimeAuth) =
          min tlyMax (Tab.get 0 s.tly.live (tlPort p mTimeAuth) + 1)) ∧
    (s.tLive p = true → s.tAuth p = false ∨ ((s.sa p).secured = true ∧ h.icvOk = true) →
      ∃ t, exec c s = .next t ∧ Tab.get 0 t.tly.live (tlPort p mTimeRx) =
          min tlyMax (Tab.get 0 s.tly.live (tlPort p mTimeRx) + 1))) ∧
  (∀ (s : State) (dt : Nat) (m : SyncMsg),
    let p := m.hdr.port.val
    let x := s.tport p
    let e := s.elapse dt
    let offset := fun (stamp : Nat) (corr : Int) =>
      ((stamp : Int) - ((m.origin : Int) + corr + x.delay + s.asymOf p))
    s.tLive p = true → s.tAuth p = false ∨ ((s.sa p).secured = true ∧ m.hdr.icvOk = true) →
    (m.twoStep = true → ∃ t, exec (.syncRx dt m) s = .next t ∧
      t.tport p = { x with
        syncAt := some e.now, syncSeq := m.hdr.seqId.toNat, syncStamp := some (e.net - s.rxLat p)
        syncCorr := m.corr } ∧
      (∀ q, q ≠ p → t.tport q = s.tport q) ∧ t.time.state = s.time.state ∧ t.time.theta = s.time.theta ∧
      t.onlyChanges s [.time, .tallies]) ∧
    (s.slaved = true → s.time.slave = some p → e.pdelayValid p = true →
      (m.twoStep = false → ∃ t, exec (.syncRx dt m) s = .next t ∧
        t.time.theta = offset (e.net - s.rxLat p) m.corr ∧ (t.tport p).syncAt = some e.now) ∧
      (∀ stamp, x.syncStamp = some stamp → x.syncSeq = m.hdr.seqId.toNat →
        ∃ t, exec (.followUpRx dt m) s = .next t ∧ t.time.theta = offset stamp (x.syncCorr + m.corr) ∧
          (t.tport p).syncStamp = none))) ∧
  (∀ (s : State) (dt : Nat) (m : PdelayMsg) (t1 : Nat),
    let p := m.hdr.port.val
    let x := s.tport p
    let e := s.elapse dt
    s.tLive p = true → s.tAuth p = false ∨ ((s.sa p).secured = true ∧ m.hdr.icvOk = true) →
    x.reqAt = some t1 →
    (x.reqSeq = m.hdr.seqId.toNat → m.twoStep = false → ∃ t, exec (.pdelayRespRx dt m) s = .next t ∧
      (t.tport p).delay = roundDiv (((e.net - s.rxLat p : Nat) : Int) - (t1 : Int) - m.corr) 2 ∧
      (t.tport p).delayAt = some e.now) ∧
    (x.reqSeq = m.hdr.seqId.toNat → m.twoStep = true → ∃ t, exec (.pdelayRespRx dt m) s = .next t ∧
      t.tport p = { x with
        respSeq := some x.reqSeq, respStamp := m.stamp, respCorr := m.corr
        respRx := e.net - s.rxLat p } ∧ t.onlyChanges s [.time, .tallies]) ∧
    (x.respSeq = some m.hdr.seqId.toNat → ∃ t, exec (.pdelayRespFollowUpRx dt m) s = .next t ∧
      (t.tport p).delay = roundDiv ((x.respRx : Int) - (t1 : Int) - ((m.stamp : Int) - (x.respStamp : Int)) -
        x.respCorr - m.corr) 2 ∧ (t.tport p).delayAt = some e.now)) ∧
  (∀ (s : State) (dt : Nat) (m : AnnounceMsg),
    let p := m.hdr.port.val
    s.tLive p = true → s.tAuth p = false ∨ ((s.sa p).secured = true ∧ m.hdr.icvOk = true) →
    s.profile p = s.algorithm →
    ∃ t, exec (.announceRx dt m) s = .next t ∧ (t.tport p).announceAt = some (s.elapse dt).now ∧
      (t.tport p).master.take 7 = [m.gmId.toNat, m.prio1.toNat, m.cls.toNat, m.accuracy.toNat,
        m.variance.toNat, m.prio2.toNat, m.steps.toNat] ∧ ∀ q, q ≠ p → t.tport q = s.tport q) ∧
  (∀ (s : State) (dt : Nat) (h : TimeHdr),
    let p := h.port.val
    s.tLive p = true → s.tAuth p = false ∨ ((s.sa p).secured = true ∧ h.icvOk = true) →
    (∃ t d, exec (.pdelayReqRx dt h) s = .next t ∧ (s.elapse dt).net + 2000 ≤ d ∧
      t.tport p = { s.tport p with
        reqRx := (s.tport p).reqRx ++ [(h.seqId.toNat, (s.elapse dt).net - s.rxLat p)]
        dep := (s.tport p).dep ++ [(2, d, (s.elapse dt).net)] } ∧ t.onlyChanges s [.time, .tallies]) ∧
    (∀ a b : Int, s.profile p = 2 → -7 ≤ a → a ≤ 1 → -4 ≤ b → b ≤ 3 →
      ∃ t, exec (.signalingRx dt h a b) s = .next t ∧
        t.tport p = { s.tport p with ivSync := some a, ivPdelay := some b } ∧
        t.onlyChanges s [.time, .tallies])) ∧
  (∀ (s : State) (dt : Nat) (h : TimeHdr), s.tLive h.port.val = true →
    ∃ t, exec (.delayReqRx dt h) s = .next t ∧ t.onlyChanges s [.tallies] ∧
      Tab.get 0 t.tly.live (tlPort h.port.val mTimeUnsup) =
        min tlyMax (Tab.get 0 s.tly.live (tlPort h.port.val mTimeUnsup) + 1))

/-- The states of network time (R252, R256, R258 to R261): three Sync intervals without a Sync or three
announce intervals without an Announce lead to HOLDOVER; FROZEN ends after its time with the mean
offset, in UNUSABLE if that is more than 1 ms and else in LOCKED, and counts PATH_JUMP; a re-step to a
time takes it at its boundary and counts STEP; the real-time counter takes network time in LOCKED and
as grandmaster; at each 125 µs boundary each present domain's CAN counter pair is latched. None of
these does anything where its condition does not hold. -/
def Obligations.TimeStatesFollowTheirEvents : Prop :=
  (∀ (s : State) (dt p : Nat),
    let due := p < 24 ∧ s.slaved = true ∧
      max ((s.tport p).syncAt.getD 0) s.time.stateAt + 3 * s.syncNs p ≤ (s.elapse dt).now
    s.time.slave = some p →
    (due → ∃ t, exec (.syncTimeout dt) s = .next t ∧ t.time.state = .holdover ∧ t.time.slave = none ∧
      t.time.theta = s.time.theta ∧ t.time.ports = s.time.ports ∧ t.time.freq = s.time.freq ∧
      Tab.get 0 t.tly.live (tlTime 3) = min tlyMax (Tab.get 0 s.tly.live (tlTime 3) + 1)) ∧
    (¬due → ∃ t, exec (.syncTimeout dt) s = .next t ∧ t.onlyChanges s [])) ∧
  (∀ (s : State) (dt p a : Nat), s.time.slave = some p → p < 24 → s.slaved = true →
    (s.tport p).announceAt = some a → a + 3 * Config.announceNs s.algorithm ≤ (s.elapse dt).now →
    ∃ t, exec (.announceTimeout dt) s = .next t ∧ t.time.state = .holdover ∧ t.time.slave = none ∧
      (t.tport p).master = [] ∧ (t.tport p).announceAt = none ∧ t.time.freq = s.time.freq) ∧
  (∀ (s : State) (dt : Nat),
    let e := s.elapse dt
    let x := if s.time.frozenOffs.isEmpty then s.time.theta else mean s.time.frozenOffs
    (s.time.state = .frozen → s.time.frozenAt ≤ e.now →
      ∃ t, exec (.frozenEnd dt) s = .next t ∧ t.time.theta = x ∧ t.time.asym = x ∧
        t.time.state = (if 1000000 < x.natAbs then TimeState.unusable else .locked) ∧
        t.time.slave = s.time.slave ∧
        Tab.get 0 t.tly.live (tlTime 1) = min tlyMax (Tab.get 0 s.tly.live (tlTime 1) + 1)) ∧
    (s.time.state ≠ .frozen ∨ e.now < s.time.frozenAt →
      ∃ t, exec (.frozenEnd dt) s = .next t ∧ t.onlyChanges s [])) ∧
  (∀ (s : State) (dt b v : Nat), s.time.restep = some (.set b v) →
    let e := s.elapse dt
    (b ≤ e.net + 2 → ∃ t, exec (.restepSetBoundary dt) s = .next t ∧ t.time.restep = none ∧
      t.net = ((e.net : Int) + (v : Int) - (b : Int)).toNat ∧ t.now = e.now ∧ t.time.firstLock = true ∧
      t.time.state = (if s.time.state = .grandmaster then TimeState.grandmaster else .locked) ∧
      Tab.get 0 t.tly.live (tlTime 0) = min tlyMax (Tab.get 0 s.tly.live (tlTime 0) + 1)) ∧
    (e.net + 2 < b → ∃ t, exec (.restepSetBoundary dt) s = .next t ∧ t.onlyChanges s [])) ∧
  (∀ (s : State) (dt : Nat),
    let on := s.tellerUp = true ∧ (s.time.state = .locked ∨ s.time.state = .grandmaster)
    (on → ∃ t, exec (.rtcWrite dt) s = .next t ∧
      t.time = { s.time with
        rtcSec := (s.elapse dt).net / 1000000000, rtcAt := (s.elapse dt).now } ∧
      t.onlyChanges s [.time]) ∧
    (¬on → ∃ t, exec (.rtcWrite dt) s = .next t ∧ t.onlyChanges s [])) ∧
  (∀ (s : State) (dt : Nat),
    let e := s.elapse dt
    let b := (e.net + 2) / 125000 * 125000
    (e.net + 2 < b + 5 → s.awake = true →
      ∃ t, exec (.tick125us dt) s = .next t ∧ t.time.tickNet = b ∧
        t.time.pairA = (if s.hasDom 0 then
          { c := e.canCount, t := b, c0 := s.time.pairA.c, t0 := s.time.pairA.t } else s.time.pairA) ∧
        t.time.pairB = (if s.hasDom 1 then
          { c := e.canCount, t := b, c0 := s.time.pairB.c, t0 := s.time.pairB.t } else s.time.pairB) ∧
        t.twin.refreshAt = e.now ∧ t.twin.act = decide (s.twin.role = Role.active)) ∧
    (b + 5 ≤ e.net + 2 ∨ s.awake = false →
      ∃ t, exec (.tick125us dt) s = .next t ∧ t.onlyChanges s []))

/-- Sending (R249, R250) and the commands of time (R246, R258, R262). A Sync of a port that is master, an
Announce of its algorithm, and a Pdelay_Req are given a departure instant at least 2 µs ahead when they
are due and are due again one interval later; the first message of a port leaves at its instant and
TIME_TX counts. MB_TIME_CONFIG takes and returns its record; MB_TIME_STATUS returns state, time and
offset; a re-step needs its warrant, is used up with it, and stands until it is carried out. -/
def Obligations.TimeSendingAndCommands : Prop :=
  (∀ (s : State) (dt : Nat) (port : Fin 24),
    let p := port.val
    let e := s.elapse dt
    let on := s.tLive p = true ∧ (s.tAuth p = true → (s.sa p).secured = true)
    let goes := fun (k : TimeKind) (n : Nat) (x : TPort) => ∃ t d,
      exec (.timeMessageDue dt port k) s = .next t ∧ e.net + 2000 ≤ d ∧
        t.tport p = { x with dep := x.dep ++ [(n, d, e.net)] } ∧
        (∀ q, q ≠ p → t.tport q = s.tport q) ∧ t.onlyChanges s [.time]
    (on → s.isMaster p = true → (s.tport p).dueSync ≤ e.now →
      goes .sync 0 { s.tport p with dueSync := e.now + s.syncNs p }) ∧
    (on → (s.tport p).duePdelay ≤ e.now →
      goes .pdelayReq 1 { s.tport p with duePdelay := e.now + s.pdelayNs p }) ∧
    (on → s.isMaster p = true → s.profile p = s.algorithm → (s.tport p).dueAnnounce ≤ e.now →
      goes .announce 3 { s.tport p with dueAnnounce := e.now + Config.announceNs s.algorithm }) ∧
    (on → s.profile p = 2 → goes .signaling 4 (s.tport p)) ∧
    (¬on ∨ e.now < (s.tport p).dueSync ∨ s.isMaster p = false →
      ∃ t, exec (.timeMessageDue dt port .sync) s = .next t ∧ t.onlyChanges s []) ∧
    (∀ k d due rest, (s.tport p).dep = (k, d, due) :: rest → d ≤ e.net + 2 → s.tLive p = true →
      ∃ t, exec (.timeMessageDeparture dt port) s = .next t ∧ (t.tport p).dep = rest ∧
        (k = 1 → (t.tport p).reqSeq = ((s.tport p).reqSeq + 1) % 65536 ∧
          (t.tport p).reqAt = some (d + s.txLat p)) ∧
        Tab.get 0 t.tly.live (tlPort p mTimeTx) =
          min tlyMax (Tab.get 0 s.tly.live (tlPort p mTimeTx) + 1) ∧
        (s.fab.copies = [] → ∃ b, t.sent = s.sent ++ [.msg p (ev 7 k) b])) ∧
    ((∀ k d due rest, (s.tport p).dep = (k, d, due) :: rest → e.net + 2 < d) →
      ∃ t, exec (.timeMessageDeparture dt port) s = .next t ∧ t.onlyChanges s [])) ∧
  (∀ (s : State) (dt : Nat) (r : Req), s.mbxFree → r.plain → r.body.length = 420 → fld r.body 0 4 = 0 →
    timeRsv (r.body.drop 4) = true → s.sec.life ≠ 2 →
    (timeOk (r.body.drop 4) = true → ∃ t, exec (.mbTimeConfig dt r) s = .next t ∧
      t.answered 0x0501 r stOk (r.body.drop 4) ∧ t.time.conf = r.body.drop 4) ∧
    (timeOk (r.body.drop 4) = false → ∃ t, exec (.mbTimeConfig dt r) s = .next t ∧
      t.answered 0x0501 r stMalformed [] ∧ t.onlyChanges s answerParts)) ∧
  (∀ (s : State) (dt : Nat) (r : Req), s.mbxFree → r.plain → r.body.length = 4 → fld r.body 0 4 = 2 →
    ∃ t, exec (.mbTimeConfig dt r) s = .next t ∧ t.answered 0x0501 r stOk s.time.conf ∧
      t.onlyChanges s answerParts) ∧
  (∀ (s : State) (dt : Nat) (r : Req), s.mbxFree → r.plain → r.body = [] →
    ∃ t b, exec (.mbTimeStatus dt r) s = .next t ∧ t.answered 0x0502 r stOk b ∧ b.length = 244 ∧
      fld b 0 1 = timeNo s.time.state ∧ slice b 8 12 = secNs (s.elapse dt).net ∧
      slice b 20 4 = sat32 s.time.theta ∧ slice b 24 4 = sat32 s.time.freq ∧
      slice b 28 4 = sat32 s.time.slew ∧ t.onlyChanges s answerParts) ∧
  (∀ (s : State) (dt : Nat) (r : Req) (v : Nat), s.mbxFree → r.plain → r.body.length = 24 →
    zeroAt r.body 1 7 = true → zeroAt r.body 20 4 = true → fld r.body 16 4 ≤ 999999999 →
    s.time.restep = none → s.sec.genUsed < 1024 → s.sec.recordBad = false →
    v = 1 ∧ zeroAt r.body 8 12 = true ∧ s.slaved = true ∧ s.time.slave.isSome = true ∨
      v = 2 ∧ s.time.state = .grandmaster →
    let good := (s.elapse dt).warrantGood [4] (fun a => fld a 0 1 = v && zeroAt a 1 7 &&
      slice a 8 12 = slice r.body 8 12 && allZero (a.drop 20))
    let c := if v = 1 then Instr.restepMaster dt r else .restepSet dt r
    (good = true → ∃ t, exec c s = .next t ∧ t.answered 0x0503 r stOk [] ∧ t.sec.stagedW = [] ∧
      t.time = { s.time with
        firstLock := false
        restep := some (if v = 1 then .master
          else .set (ceilMul ((s.elapse dt).net + 1000000) 125000) (timeAt r.body 8)) }) ∧
    (good = false → ∃ t, exec c s = .next t ∧ t.answered 0x0503 r stWarrant [] ∧
      t.sec.stagedW = [] ∧ t.time = s.time))

/-! ### The CAN FD controllers (chapter 8) -/

/-- Sending (R203, R276 to R285, R297). An arm makes an idle buffer PENDING; one that is not idle is
counted as busy, a HOST buffer never written as unwritten. At a commit point the pending buffer of the
lowest identifier is locked with the stamp of the next bit, and its frame starts. Arbitration lost puts
it back, or ends a SINGLE_SHOT one; a frame sent ends it, with the outcome of a cancel if it was
cancelled. An error sets LAST_ERROR, is counted by kind and, on a controller that drives its bus, moves
the error counters and with them the error state. Recovery ends in ERROR_ACTIVE; 11 recessive bits join
the bus. -/
def Obligations.CanFramesAreSentByRank : Prop :=
  (∀ (s u : State) (dt : Nat) (src : ActSrc) (i : Issued) (k : Nat) (x : CanCtl) (b : CanBuf),
    (s.elapse dt).issue 5 src = (some i, u) → u.absentUnit i.act.tgt = false → u.quiet = false →
    0x20 ≤ i.act.tgt → i.act.tgt < 0x28 → k < 64 → i.act.opnd = 2 ^ k →
    let c := i.act.tgt - 0x20
    let up := fun (t : State) n => Tab.get 0 t.tly.live (tlCan c n) =
      min tlyMax (Tab.get 0 u.tly.live (tlCan c n) + 1)
    u.ctl c = some x → x.buf k = some b → x.err ≠ .busOff → b.source ≠ 1 →
    (b.state = .idle → b.source ≠ 2 ∨ b.written = true → ∃ t, exec (.canArm dt src) s = .next t ∧
      t.ctl c = some (x.setBuf k (some { b with state := .pending })) ∧ up t 14 ∧
      (∀ d, d ≠ c → t.ctl d = u.ctl d) ∧ t.onlyChanges u [.can, .tallies]) ∧
    (b.state ≠ .idle → ∃ t, exec (.canArm dt src) s = .next t ∧ up t 15 ∧ t.onlyChanges u [.tallies]) ∧
    (b.state = .idle → b.source = 2 → b.written = false → ∃ t, exec (.canArm dt src) s = .next t ∧
      up t 16 ∧ t.onlyChanges u [.tallies])) ∧
  (∀ (s : State) (dt : Nat) (c : Fin 8) (x : CanCtl), s.ctl c.val = some x →
    let ready := s.absentUnit (0x20 + c.val) = false ∧ s.canDrives x = true ∧ x.onBus = true ∧
      x.lockedBuf = none
    ((∃ e ∈ x.bufs, ∃ b, e.2 = some b ∧ b.state = .pending) → ready →
      ∃ t k b, exec (.canCommitPoint dt c) s = .next t ∧ (k, some b) ∈ x.bufs ∧ b.state = .pending ∧
        (∀ j d, (j, some d) ∈ x.bufs → d.state = .pending → b.rank ≤ d.rank) ∧
        t.ctl c.val = some (x.setBuf k (some { b with
          state := .locked, stamp := ((s.elapse dt).canCount + x.bitClocks) % 2 ^ 48 + 1 })) ∧
        t.sent = s.sent ++ [.can c.val (b.toFrame (x.err = .passive))] ∧
        t.onlyChanges s [.can, .outputs]) ∧
    ((∀ e ∈ x.bufs, ∀ b, e.2 = some b → b.state ≠ .pending) ∨ ¬ready →
      ∃ t, exec (.canCommitPoint dt c) s = .next t ∧ t.onlyChanges s [])) ∧
  (∀ (s : State) (dt : Nat) (c : Fin 8) (x : CanCtl) (k : Nat) (b : CanBuf), s.ctl c.val = some x →
    s.absentUnit (0x20 + c.val) = false → x.lockedBuf = some (k, b) → (s.elapse dt).isActive b = true →
    x.next = none → b.next = none → s.isConsentBuf c.val k = false → b.cancel = false →
    let up := fun (t : State) n => Tab.get 0 t.tly.live (tlCan c.val n) =
      min tlyMax (Tab.get 0 s.tly.live (tlCan c.val n) + 1)
    (∃ t, exec (.canArbitrationLost dt c) s = .next t ∧ up t 7 ∧
      t.ctl c.val = some (x.setBuf k (some { b with
        state := if b.once then .idle else .pending, outcome := if b.once then 2 else b.outcome })) ∧
      t.onlyChanges s [.can, .tallies]) ∧
    (∀ tdc, x.measures b = false ∨ tdc + x.tdco ≤ 127 → s.seeds.armed = [] →
      ∃ t y, exec (.canTxComplete dt c tdc) s = .next t ∧ up t 5 ∧ t.ctl c.val = some y ∧
        y.buf k = some { b with state := .idle, outcome := 1 } ∧
        y.tec = min (Config.canTxCount x.tec) 65535 ∧ y.rec_ = min x.rec_ 65535 ∧
        y.err = errOf (Config.canTxCount x.tec) x.rec_ ∧ y.fifo0 = x.fifo0 ∧ y.fifo1 = x.fifo1) ∧
    (∀ dom tdc, x.onBus = true → x.measures b = false ∨ tdc + x.tdco ≤ 127 → s.canDrives x = true →
      ∃ t y, exec (.canFrameError dt c .ack true dom tdc) s = .next t ∧ up t 8 ∧ t.ctl c.val = some y ∧
        y.lastErr = 3 ∧ y.tec = min (if x.err = .passive ∧ dom = false then x.tec else x.tec + 8) 65535 ∧
        y.rec_ = min x.rec_ 65535)) ∧
  (∀ (s : State) (dt : Nat) (c : Fin 8) (x : CanCtl) (kind : CanErr) (dom : Bool) (tdc : Nat),
    s.ctl c.val = some x → s.absentUnit (0x20 + c.val) = false → x.onBus = true →
    ∃ t y, exec (.canFrameError dt c kind false dom tdc) s = .next t ∧ t.ctl c.val = some y ∧
      y.lastErr = errCode kind ∧ y.conf = x.conf ∧
      (s.canDrives x = true →
        let n := Config.canErrorCount (errCode kind) false dom x.tec x.rec_
        y.tec = min n.1 65535 ∧ y.rec_ = min n.2 65535 ∧ y.err = errOf n.1 n.2) ∧
      (s.canDrives x = false → y = { x with lastErr := errCode kind }) ∧
      Tab.get 0 t.tly.live (tlCan c.val (errTally kind)) =
        min tlyMax (Tab.get 0 s.tly.live (tlCan c.val (errTally kind)) + 1)) ∧
  (∀ (s : State) (dt : Nat) (c : Fin 8) (x : CanCtl), s.ctl c.val = some x →
    s.absentUnit (0x20 + c.val) = false →
    (x.recovering = true → ∃ t, exec (.canRecoveryComplete dt c) s = .next t ∧
      t.ctl c.val = some { x with err := .active, recovering := false, tec := 0, rec_ := 0 } ∧
      t.onlyChanges s (.can :: eventParts)) ∧
    (x.recovering = false → ∃ t, exec (.canRecoveryComplete dt c) s = .next t ∧ t.onlyChanges s []) ∧
    (∃ t, exec (.canBusJoin dt c) s = .next t ∧ t.ctl c.val = some { x with joining := false } ∧
      (∀ d, d ≠ c.val → t.ctl d = s.ctl d) ∧ t.onlyChanges s [.can]))

/-- Receiving (R286 to R289, R292, R293). A valid frame is counted and stamped; with no filter pair that
matches it is counted as such and kept nowhere; with one it enters that pair's FIFO, where a full FIFO
keeps what it has, or with overwriting loses its oldest entry, and is marked OVF. A read of ACQUIRE
hands the oldest entry over, or in CHECK mode shows its index; RELEASE then frees that index and no
other. -/
def Obligations.CanFramesEnterFifos : Prop :=
  (∀ (s : State) (dt : Nat) (c : Fin 8) (x : CanCtl) (f : CanFrame) (age : Nat), s.ctl c.val = some x →
    let e := s.elapse dt
    let stamp := (e.canCount + 2 ^ 48 - age % 2 ^ 48) % 2 ^ 48
    let up := fun (t : State) n => Tab.get 0 t.tly.live (tlCan c.val n) =
      min tlyMax (Tab.get 0 s.tly.live (tlCan c.val n) + 1)
    let hears := s.absentUnit (0x20 + c.val) = false ∧ x.onBus = true ∧ (f.fdf = true → x.fdEn = true)
    (¬hears → ∃ t, exec (.canFrameReceive dt c f age) s = .next t ∧ t.onlyChanges s []) ∧
    (hears → s.filterOf c.val f = none → ∃ t y, exec (.canFrameReceive dt c f age) s = .next t ∧
      up t 0 ∧ up t 2 ∧ t.ctl c.val = some y ∧ y.fifo0 = x.fifo0 ∧ y.fifo1 = x.fifo1 ∧ y.seq = x.seq ∧
      t.pd = s.pd) ∧
    (∀ r, hears → s.filterOf c.val f = some r →
      (∀ m ∈ s.maps, ¬(mKind m = 2 ∧ mUnit m = c.val ∧ mIndex m = fld r 1 1)) →
      let n := fld r 2 1
      let q := x.fifo n
      let new : CanEnt := { seq := x.seq, frame := f, stamp := stamp, filter := fld r 1 1, isNew := true }
      (2 ≤ n → ∃ t y, exec (.canFrameReceive dt c f age) s = .next t ∧ up t 0 ∧
        t.ctl c.val = some y ∧ y.fifo0 = x.fifo0 ∧ y.fifo1 = x.fifo1) ∧
      (n < 2 → q.count < 64 → ∃ t y, exec (.canFrameReceive dt c f age) s = .next t ∧ up t 0 ∧
        t.ctl c.val = some y ∧ y.seq = (x.seq + 1) % 65536 ∧ (y.fifo n).count = q.count + 1 ∧
        (y.fifo n).head = q.head ∧ Tab.get none (y.fifo n).ents ((q.head + q.count) % 64) = some new ∧
        (∀ j, j ≠ (q.head + q.count) % 64 → Tab.get none (y.fifo n).ents j = Tab.get none q.ents j) ∧
        y.fifo (1 - n) = x.fifo (1 - n)) ∧
      (n < 2 → 64 ≤ q.count → ∃ t y, exec (.canFrameReceive dt c f age) s = .next t ∧ up t (3 + n) ∧
        t.ctl c.val = some y ∧ (y.fifo n).ovf = true ∧ (y.fifo n).count = q.count ∧
        (x.overwrites n = false → y.fifo n = { q with ovf := true } ∧ y.seq = x.seq) ∧
        (x.overwrites n = true → (y.fifo n).head = (q.head + 1) % 64 ∧
          Tab.get none (y.fifo n).ents q.head = some new ∧ y.seq = (x.seq + 1) % 65536)))) ∧
  (∀ (s : State) (dt : Nat) (c : Fin 8) (n : Fin 2) (x : CanCtl), s.ctl c.val = some x →
    s.blockUp c.val n.val = true →
    let q := x.fifo n.val
    (x.check = true ∨ q.count = 0 → ∃ t v, exec (.acquireRead dt c n) s = .next t ∧
      t.sent = s.sent ++ [.value (ev 8 (16 + 2 * c.val + n.val)) v] ∧
      v = (if x.check then q.head + (if q.count = 0 then 0 else 128) else 0) ∧
      t.onlyChanges s [.outputs]) ∧
    (x.check = false → q.count ≠ 0 → ∃ t y, exec (.acquireRead dt c n) s = .next t ∧
      t.sent = s.sent ++ [.value (ev 8 (16 + 2 * c.val + n.val)) (128 + q.head)] ∧
      t.ctl c.val = some y ∧ (y.fifo n.val).shadow = Tab.get none q.ents q.head ∧
      (y.fifo n.val).head = (q.head + 1) % 64 ∧ (y.fifo n.val).count = q.count - 1 ∧
      t.onlyChanges s [.can, .outputs]) ∧
    (∀ v : U32, x.check = true → v.getLsbD 15 = true → q.count ≠ 0 → v.toNat % 64 = q.head →
      ∃ t y, exec (.releaseWrite dt c n v) s = .next t ∧ t.ctl c.val = some y ∧
        (y.fifo n.val).head = (q.head + 1) % 64 ∧ (y.fifo n.val).count = q.count - 1 ∧
        t.onlyChanges s [.can]) ∧
    (∀ v : U32, x.check = true → v.getLsbD 15 = true → q.count = 0 ∨ v.toNat % 64 ≠ q.head →
      ∃ t, exec (.releaseWrite dt c n v) s = .next t ∧ t.onlyChanges s [.tallies] ∧
        Tab.get 0 t.tly.live (tlCan c.val 25) = min tlyMax (Tab.get 0 s.tly.live (tlCan c.val 25) + 1))) ∧
  (∀ (s : State) (dt : Nat) (c : Fin 8) (n : Fin 2) (v : U32), s.blockUp c.val n.val = false →
    (∃ t, exec (.acquireRead dt c n) s = .next t ∧ t.onlyChanges s []) ∧
    (∃ t, exec (.releaseWrite dt c n v) s = .next t ∧ t.onlyChanges s []))

/-- The CAN commands of the mailbox (R280, R284, R290, R294, R295), on a controller that answers. A write
fills a HOST buffer that is not locked; a read takes up to COUNT of the oldest entries out of a FIFO; a
cancel ends a pending buffer at once, leaves an idle one, and waits for the frame of a locked one;
recovery starts from BUS_OFF only; the status is read and changes nothing. -/
def Obligations.CanMailboxCommands : Prop :=
  ∀ (s : State) (dt : Nat) (r : Req) (x : CanCtl), s.mbxFree → r.plain →
    let c := fld r.body 0 1
    let k := fld r.body 1 1
    c < 8 → s.absentUnit (0x20 + c) = false → s.ctl c = some x →
    (∀ b, zeroAt r.body 2 2 = true → k < 64 → x.buf k = some b → b.source = 2 →
      s.isConsentBuf c k = false → b.state ≠ .locked → r.body.length = 4 + b.len → b.len ≤ 64 →
      ∃ t, exec (.mbCanWrite dt r) s = .next t ∧ t.answered 0x0601 r stOk [] ∧
        t.ctl c = some (x.setBuf k (some { b with
          data := padTo 0 64 (r.body.drop 4), written := true })) ∧
        t.onlyChanges s (.can :: answerParts)) ∧
    (r.body.length = 4 → zeroAt r.body 3 1 = true → k < 2 → 1 ≤ fld r.body 2 1 → fld r.body 2 1 ≤ 32 →
      x.toFlb k = false → s.isConsentFifo c k = false →
      (∀ i, i < (x.fifo k).count → (Tab.get none (x.fifo k).ents (((x.fifo k).head + i) % 64)).isSome) →
      (x.fifo k).count ≤ 64 → (x.fifo k).head < 64 →
      let n := min (fld r.body 2 1) (x.fifo k).count
      ∃ (t : State) (y : CanCtl) (l : List CanEnt), exec (.mbCanRead dt r) s = .next t ∧ t.ctl c = some y ∧
        (y.fifo k).count = (x.fifo k).count - n ∧ (y.fifo k).head = ((x.fifo k).head + n) % 64 ∧
        l.length = n ∧
        (∀ i, i < n → l[i]? = Tab.get none (x.fifo k).ents (((x.fifo k).head + i) % 64)) ∧
        t.answered 0x0602 r stOk (le 1 n ++ zeros 3 ++
          (l.map fun e => e.bytes ++ secNs (s.canNet (canDomain c) e.stamp) ++ zeros 4).flatten) ∧
        t.onlyChanges s (.can :: answerParts)) ∧
    (∀ b, r.body.length = 4 → zeroAt r.body 2 2 = true → k < 64 → x.buf k = some b →
      let body := fun (o : Nat) => le 1 o ++ zeros 3 ++ s.stampBytes c b ++ zeros 4
      (b.state = .idle → ∃ t, exec (.mbCanCancel dt r) s = .next t ∧
        t.answered 0x0603 r stOk (body 0xFF) ∧ t.onlyChanges s answerParts) ∧
      (b.state = .pending → ∃ t, exec (.mbCanCancel dt r) s = .next t ∧
        t.answered 0x0603 r stOk (body 4) ∧
        t.ctl c = some (x.setBuf k (some { b with state := .idle, outcome := 4 })) ∧
        t.onlyChanges s (.can :: answerParts)) ∧
      (b.state = .locked → ∃ t, exec (.mbCanCancel dt r) s = .next t ∧ t.hif.exec = true ∧
        t.hif.respValid = false ∧ t.ctl c = some (x.setBuf k (some { b with cancel := true })) ∧
        t.onlyChanges s [.mailbox, .can])) ∧
    (r.body.length = 4 → zeroAt r.body 1 3 = true → x.recovering = false →
      (x.err = .busOff → ∃ t, exec (.mbCanRecover dt r) s = .next t ∧ t.answered 0x0604 r stOk [] ∧
        t.ctl c = some { x with recovering := true } ∧ t.onlyChanges s (.can :: answerParts)) ∧
      (x.err ≠ .busOff → ∃ t, exec (.mbCanRecover dt r) s = .next t ∧
        t.answered 0x0604 r stDenied [] ∧ t.onlyChanges s answerParts)) ∧
    (r.body.length = 4 → zeroAt r.body 1 3 = true →
      ∃ t b, exec (.mbCanStatus dt r) s = .next t ∧ t.answered 0x0605 r stOk b ∧ b.length = 1044 ∧
        fld b 0 1 = x.mode ∧ fld b 1 1 = errNo x.err ∧ fld b 2 2 = x.tec % 65536 ∧
        fld b 4 2 = x.rec_ % 65536 ∧ t.onlyChanges s answerParts)

/-! ### Network sleep and wake (chapter 9) -/

/-- Agreement to sleep (R307 to R318). A vote is taken and answered with the state of consent; a node
alone reaches agreement with its vote and sleeps COMMIT_MS later; a vote AWAKE ends an agreement, counts
SLEEP_ABORT, and after the commit point every vote is LATE. A coordinator keeps the votes of its members,
a member takes the commit point of a COMMIT of its ROUND, an ABORT of the ROUND ends agreement, a frame
that is no consent frame is discarded and counted. When the stay-awake timer has run out the members that
are not ready are excluded; a member that hears nothing for ten periods acts alone. -/
def Obligations.SleepIsAgreed : Prop :=
  (∀ (s : State) (dt : Nat) (r : Req), s.mbxFree → r.plain → r.body.length = 196 → fld r.body 0 4 = 0 →
    wakeRsv (r.body.drop 4) = true → s.sleep.agreed = false →
    (wakeOk (r.body.drop 4) = true → ∃ t, exec (.mbWakeConfig dt r) s = .next t ∧
      t.answered 0x0701 r stOk (r.body.drop 4) ∧ t.sleep.conf = r.body.drop 4 ∧
      t.sleep.record = s.sleep.record ∧ t.sleep.votedReady = s.sleep.votedReady) ∧
    (wakeOk (r.body.drop 4) = false → ∃ t, exec (.mbWakeConfig dt r) s = .next t ∧
      t.answered 0x0701 r stMalformed [] ∧ t.onlyChanges s answerParts)) ∧
  (∀ (s : State) (dt : Nat) (r : Req), s.mbxFree → r.plain → r.body.length = 4 → zeroAt r.body 1 3 = true →
    let e := s.elapse dt
    (e.committedSleep = true → ∀ c ∈ [Instr.sleepConsentStatus dt r, .voteReady dt r, .voteAwake dt r],
      ∃ t, exec c s = .next t ∧ t.answered 0x0702 r stLate [] ∧ t.onlyChanges s answerParts) ∧
    (e.committedSleep = false →
      (∃ t, exec (.sleepConsentStatus dt r) s = .next t ∧ t.answered 0x0702 r stOk e.sleepBody ∧
        t.onlyChanges s answerParts) ∧
      (s.gaf.active = false → ∃ t, exec (.voteReady dt r) s = .next t ∧
        t.answered 0x0702 r stDenied [] ∧ t.onlyChanges s answerParts) ∧
      (s.gaf.active = true → wkRole s.sleep.conf = 0 → s.sleep.agreed = false → e.alarmDue = false →
        ∃ t b, exec (.voteReady dt r) s = .next t ∧ t.answered 0x0702 r stOk b ∧ fld b 1 1 = 1 ∧
          fld b 2 1 = 1 ∧ t.sleep = { s.sleep with
            votedReady := true, agreed := true, armed := true
            commitNet := some (e.net + wkCommit s.sleep.conf * 1000000) } ∧
          Tab.get 0 t.tly.live (tlSleep 10) = min tlyMax (Tab.get 0 s.tly.live (tlSleep 10) + 1)) ∧
      (s.sleep.agreed = false → ∃ t b, exec (.voteAwake dt r) s = .next t ∧
        t.answered 0x0702 r stOk b ∧ fld b 1 1 = 0 ∧ fld b 2 1 = 0 ∧ t.sleep.votedReady = false ∧
        t.sleep.agreed = false) ∧
      (s.sleep.agreed = true → ∃ t b, exec (.voteAwake dt r) s = .next t ∧
        t.answered 0x0702 r stOk b ∧ fld b 1 1 = 0 ∧ fld b 2 1 = 0 ∧ t.sleep.votedReady = false ∧
        t.sleep.agreed = false ∧ t.sleep.armed = false ∧ t.sleep.commitNet = none ∧
        Tab.get 0 t.tly.live (tlSleep 11) = min tlyMax (Tab.get 0 s.tly.live (tlSleep 11) + 1)))) ∧
  (∀ (s : State) (dt c : Nat) (x : CanCtl) (e : CanEnt), s.consentHead = some (c, x, e) →
    let d := e.frame.data
    let w := s.sleep
    let popped := fun (t : State) => ∃ y, t.ctl c = some y ∧
      (y.fifo (wkFifo w.conf)).count = (x.fifo (wkFifo w.conf)).count - 1
    (isConsent e.frame = false →
      ∀ k ∈ [Instr.consentVoteRx dt, .consentCommitRx dt, .consentAbortRx dt],
        ∃ t, exec k s = .next t ∧ popped t ∧ t.sleep = s.sleep ∧
          Tab.get 0 t.tly.live (tlSleep 14) = min tlyMax (Tab.get 0 s.tly.live (tlSleep 14) + 1)) ∧
    (isConsent e.frame = true → fld d 0 1 = 1 → wkRole w.conf = 2 → ∃ t m,
      exec (.consentVoteRx dt) s = .next t ∧ popped t ∧
        Tab.get none t.sleep.members (fld d 1 1) = some m ∧ m.ready = bit (fld d 3 1) 0 ∧
        m.round = fld d 2 1 ∧ m.voteAt = (s.elapse dt).now ∧
        ∀ j, j ≠ fld d 1 1 → Tab.get none t.sleep.members j = Tab.get none w.members j) ∧
    (isConsent e.frame = true → fld d 0 1 = 2 → wkRole w.conf = 1 → w.round = some (fld d 2 1) →
      w.agreed = false → bit (fld d 4 4) (wkMember w.conf) = false → w.votedReady = true →
      (s.elapse dt).alarmDue = false → ∃ t, exec (.consentCommitRx dt) s = .next t ∧ popped t ∧
        t.sleep.agreed = true ∧ t.sleep.armed = true ∧ t.sleep.coord = fld d 1 1 ∧
        t.sleep.commitNet = some (s.canNet (canDomain c) e.stamp + fld d 3 1 * 10000000)) ∧
    (isConsent e.frame = true → fld d 0 1 = 4 → w.round = some (fld d 2 1) →
      (s.elapse dt).committedSleep = false → ∃ t, exec (.consentAbortRx dt) s = .next t ∧ popped t ∧
        t.sleep.agreed = false ∧ t.sleep.commitNet = none ∧ t.sleep.votedReady = w.votedReady ∧
        Tab.get 0 t.tly.live (tlSleep 11) = min tlyMax (Tab.get 0 s.tly.live (tlSleep 11) + 1))) ∧
  (∀ (s : State) (dt : Nat), s.consentHead = none →
    ∀ k ∈ [Instr.consentVoteRx dt, .consentCommitRx dt, .consentAbortRx dt],
      ∃ t, exec k s = .next t ∧ t.onlyChanges s []) ∧
  (∀ (s : State) (dt : Nat),
    let e := s.elapse dt
    let max := fld s.sleep.conf 0x14 2 * 60000000000
    let due := s.tellerUp = true ∧ wkRole s.sleep.conf = 2 ∧ max ≠ 0 ∧ s.sleep.stayOver = false ∧
      ∃ a, s.sleep.stayAt = some a ∧ a + max ≤ e.now
    (due → ∃ t, exec (.stayAwakeExpiry dt) s = .next t ∧ t.sleep.stayOver = true ∧
      ∀ m, m < 32 → t.sleep.excluded.getLsbD m =
        (s.sleep.excluded.getLsbD m || (s.needed32.contains m && !e.memberReady m))) ∧
    (¬due → ∃ t, exec (.stayAwakeExpiry dt) s = .next t ∧ t.onlyChanges s []) ∧
    (s.tellerUp = true → wkRole s.sleep.conf = 1 → s.sleep.solo = false →
      s.sleep.heardAt + 10 * wkPeriod s.sleep.conf ≤ e.now →
      ∃ t, exec (.soloFallback dt) s = .next t ∧ (s.sleep.votedReady = false →
        t.sleep = { s.sleep with solo := true } ∧ t.onlyChanges s [.sleep]) ∧
        (s.sleep.votedReady = true → s.sleep.agreed = false → e.alarmDue = false →
          t.sleep.solo = true ∧ t.sleep.agreed = true)) ∧
    (s.tellerUp = false ∨ wkRole s.sleep.conf ≠ 1 ∨ s.sleep.solo = true ∨
        e.now < s.sleep.heardAt + 10 * wkPeriod s.sleep.conf →
      ∃ t, exec (.soloFallback dt) s = .next t ∧ t.onlyChanges s []))

/-- Going down and waking (R303, R305, R319 to R322). At its commit point an agreed node goes to standby
with FEED_EN low and the hold latches at their sleep levels. A request of an enabled source wakes a
sleeping node: its cause is recorded and FEED_EN rises; within 20 ms of FEED_EN going low it is latched
and wakes the node after that; before the commit point it ends the agreement. A wake by a bus is judged:
a second frame in time makes it valid, none makes it false and it is counted. -/
def Obligations.SleepAndWake : Prop :=
  (∀ (s : State) (dt a : Nat), s.sleep.commitNet = some a →
    let e := s.elapse dt
    (s.sleep.agreed = true → s.tellerUp = true → a ≤ e.net + 2 →
      ∃ t, exec (.sleepCommit dt) s = .next t ∧ t.sleep.asleep = true ∧ t.sleep.feedEnA = false ∧
        t.sleep.feedEnB = false ∧ t.sleep.lowAt = e.now ∧ t.sys.stage = .standby ∧
        t.sleep.latches = sleepLevels s.sleep.conf s.sleep.latches ∧ t.sleep.conf = s.sleep.conf ∧
        t.feedA.dom = .isolated ∧ t.feedB.dom = .isolated ∧ t.now = e.now ∧ t.pending = s.pending) ∧
    (s.sleep.agreed = false ∨ s.tellerUp = false ∨ e.net + 2 < a →
      ∃ t, exec (.sleepCommit dt) s = .next t ∧ t.onlyChanges s [])) ∧
  (∀ (s : State) (dt : Nat), s.sleep.commitNet = none →
    ∃ t, exec (.sleepCommit dt) s = .next t ∧ t.onlyChanges s []) ∧
  (∀ (s : State) (dt : Nat) (x : Fin 4) (f : CanFrame) (rising : Bool) (c : Instr) (cause src : Nat),
    let e := s.elapse dt
    let w := s.sleep.conf
    (c = .wakePattern dt x ∧ cause = 1 ∧ src = x.val ∧ wkPatternEn w x.val = true ∨
      c = .wakeFrame dt x f ∧ cause = 2 ∧ src = x.val ∧ wkFrameEn w x.val = true ∧
        wakeMatch (wkXcvr w x.val) f = true ∨
      c = .wakeFrameErr dt x ∧ cause = 3 ∧ src = x.val ∧ wkFrameEn w x.val = true ∨
      c = .wakePin dt x rising ∧ cause = 4 ∧ src = x.val ∧ bit (wkPin w x.val) 0 = true ∧
        bit (wkPin w x.val) (if rising then 1 else 2) = true ∨
      c = .wakeAlarm dt ∧ cause = 5 ∧ src = 0 ∧ e.alarmDue = true) →
    let judged := fun (t : State) => 1 ≤ cause → cause ≤ 3 →
      { xcvr := src, cause := cause, until_ := e.now + fld w 6 2 * 1000000 } ∈ t.sleep.judging
    (s.sleep.asleep = true → s.sleep.wakePending = false → s.sleep.latched = none →
      (s.sleep.lowAt + 20000000 ≤ e.now → ∃ t, exec c s = .next t ∧ t.sleep.feedEnA = true ∧
        t.sleep.feedEnB = true ∧ t.sleep.wakePending = true ∧ t.sleep.record.cause = cause ∧
        t.sleep.record.source = src ∧ t.sleep.record.latched = false ∧
        t.sleep.record.rtcSec = e.rtc ∧ judged t ∧ t.onlyChanges s [.sleep]) ∧
      (e.now < s.sleep.lowAt + 20000000 → ∃ t r, exec c s = .next t ∧ t.sleep.latched = some r ∧
        r.cause = cause ∧ r.source = src ∧ r.latched = true ∧ judged t ∧
        t.sleep.feedEnA = s.sleep.feedEnA ∧ t.sleep.record = s.sleep.record ∧
        t.onlyChanges s [.sleep])) ∧
    (s.sleep.asleep = true → s.sleep.wakePending = true ∨ s.sleep.latched.isSome = true →
      ∃ t, exec c s = .next t ∧ t.onlyChanges s []) ∧
    (s.sleep.asleep = false → s.sleep.armed = false →
      ∃ t, exec c s = .next t ∧ t.onlyChanges s []) ∧
    (s.sleep.asleep = false → s.sleep.armed = true → s.sleep.agreed = true → e.committedSleep = false →
      ∃ t, exec c s = .next t ∧ t.sleep.agreed = false ∧ t.sleep.armed = false ∧
        t.sleep.votedReady = false ∧
        Tab.get 0 t.tly.live (tlSleep 11) = min tlyMax (Tab.get 0 s.tly.live (tlSleep 11) + 1))) ∧
  (∀ (s : State) (dt : Nat) (x : Fin 4) (f : CanFrame) (rising : Bool),
    let w := s.sleep.conf
    (wkPatternEn w x.val = false → ∃ t, exec (.wakePattern dt x) s = .next t ∧ t.onlyChanges s []) ∧
    (wkFrameEn w x.val = false ∨ wakeMatch (wkXcvr w x.val) f = false →
      ∃ t, exec (.wakeFrame dt x f) s = .next t ∧ t.onlyChanges s []) ∧
    (bit (wkPin w x.val) 0 = false → ∃ t, exec (.wakePin dt x rising) s = .next t ∧
      t.onlyChanges s [])) ∧
  (∀ (s : State) (dt : Nat) (r : WakeRec), s.sleep.latched = some r →
    let e := s.elapse dt
    (s.sleep.asleep = true → s.sleep.lowAt + 20000000 ≤ e.now →
      ∃ t, exec (.latchedWakeRelease dt) s = .next t ∧ t.sleep = { s.sleep with
        record := r, feedEnA := true, feedEnB := true, wakePending := true, latched := none } ∧
        t.onlyChanges s [.sleep]) ∧
    (s.sleep.asleep = false ∨ e.now < s.sleep.lowAt + 20000000 →
      ∃ t, exec (.latchedWakeRelease dt) s = .next t ∧ t.onlyChanges s [])) ∧
  (∀ (s : State) (dt : Nat) (x : Fin 4),
    let e := s.elapse dt
    let hit := ∃ j ∈ s.sleep.judging, j.xcvr = x.val ∧ e.now ≤ j.until_
    (hit → ∃ t, exec (.wakeValid dt x) s = .next t ∧ t.sleep.consec = [] ∧
      (∀ j, j ∈ t.sleep.judging ↔ j ∈ s.sleep.judging ∧ j.xcvr ≠ x.val) ∧
      t.sleep.falseCnt = s.sleep.falseCnt ∧ t.onlyChanges s [.sleep]) ∧
    (¬hit → ∃ t, exec (.wakeValid dt x) s = .next t ∧ t.onlyChanges s []) ∧
    (∀ j, s.sleep.judging.find? (fun j => j.xcvr = x.val) = some j →
      (j.until_ ≤ e.now → ∃ t, exec (.tValidExpiry dt x) s = .next t ∧
        Tab.get 0 t.sleep.falseCnt x.val = min 65535 (Tab.get 0 s.sleep.falseCnt x.val + 1) ∧
        (∀ k ∈ t.sleep.judging, k.xcvr ≠ x.val) ∧ (x.val, j.cause) ∈ t.sleep.falseRep) ∧
      (e.now < j.until_ → ∃ t, exec (.tValidExpiry dt x) s = .next t ∧ t.onlyChanges s [])))

/-! ### Line and axle measurement (chapter 10) -/

/-- Channels and the grid (R332 to R337). An output of a channel that works is turned into a value and
stamped with its group delay; a grid instant between two outputs takes the value interpolated between
them; a full-scale output counts as clipped. A stuck channel is marked and counted and comes back three
output periods after its clock. At an instant of the grid every channel that works waits for its sample,
and the next instant of the fixed grid is 78,125 ns later. -/
def Obligations.ChannelsAndGrid : Prop :=
  (∀ (s : State) (dt : Nat) (ch : Fin 8) (raw : Int) (x : Chan), s.chan ch.val = some x →
    let e := s.elapse dt
    let works := s.absentUnit (0x28 + ch.val) = false ∧ x.stuck = false
    let f := clampInt (-8388608) 8388607 (if bit (fld x.conf 2 1) 0 then -raw else raw)
    let clip := decide (f = -8388608 ∨ f = 8388607)
    let stamp := e.net - x.delayNs
    (works → x.goodFrom ≤ e.now → ∃ t y, exec (.sdFilterOutput dt ch raw) s = .next t ∧
      t.chan ch.val = some y ∧ y.out1 = some (stamp, x.value f, clip) ∧ y.out0 = x.out1 ∧
      y.conf = x.conf ∧ (∀ c, c ≠ ch.val → t.chan c = s.chan c) ∧
      (clip = true → Tab.get 0 t.tly.live (tlMeas ch.val) =
        min tlyMax (Tab.get 0 s.tly.live (tlMeas ch.val) + 1)) ∧
      (∀ g pos coast fixed warn t0 v0 c0, x.waits = [.sample g pos coast fixed warn] →
        x.out1 = some (t0, v0, c0) → t0 ≤ g → g ≤ stamp → t0 < stamp →
        y.waits = [] ∧ ∃ a, y.cyc = x.cyc ++ [a] ∧ a.t = g ∧ a.pos = pos ∧ a.clip = (clip || c0) ∧
          a.v = i32 (v0 + roundDiv ((x.value f - v0) * ((g : Int) - (t0 : Int))) (stamp - t0)))) ∧
    (works → e.now < x.goodFrom → ∃ t, exec (.sdFilterOutput dt ch raw) s = .next t ∧
      t.chan ch.val = some { x with out1 := none } ∧ t.onlyChanges s [.measure]) ∧
    (¬works → ∃ t, exec (.sdFilterOutput dt ch raw) s = .next t ∧ t.onlyChanges s []) ∧
    (works → ∃ t y, exec (.sdStuck dt ch) s = .next t ∧ t.chan ch.val = some y ∧ y.stuck = true ∧
      y.cur = x.cur ∧ y.last = x.last ∧ Tab.get 0 t.tly.live (tlMeas (8 + ch.val)) =
        min tlyMax (Tab.get 0 s.tly.live (tlMeas (8 + ch.val)) + 1)) ∧
    (¬works → ∃ t, exec (.sdStuck dt ch) s = .next t ∧ t.onlyChanges s []) ∧
    (s.absentUnit (0x28 + ch.val) = false → x.stuck = true → ∃ t, exec (.sdRecovery dt ch) s = .next t ∧
      t.chan ch.val = some { x with stuck := false, goodFrom := e.now + 3 * x.outNs } ∧
      t.onlyChanges s (.measure :: eventParts)) ∧
    (s.absentUnit (0x28 + ch.val) = true ∨ x.stuck = false →
      ∃ t, exec (.sdRecovery dt ch) s = .next t ∧ t.onlyChanges s [])) ∧
  (∀ (s : State) (dt : Nat),
    let e := s.elapse dt
    let g := (e.paceAt + 128 * 2 ^ 32) / (256 * 2 ^ 32)
    let tol := 4 * e.rateNow / 2 ^ 16 + 2
    (s.awake = true → s.pace.kind ≠ 1 → s.meas.fixed = true → e.nextFixed ≤ e.net + 2 → s.meas.k < 255 →
      ∃ t, exec (.gridSample dt) s = .next t ∧ t.meas.k = s.meas.k + 1 ∧
        t.meas.nextNet = e.nextFixed + 78125 ∧ t.meas.cycle = s.meas.cycle ∧
        ∀ c x, c < 8 → s.chan c = some x → t.chan c = some (if e.chanGood c x then { x with
          waits := x.waits ++ [.sample e.nextFixed none false true (e.warned (inputDomain c))] } else x)) ∧
    (s.awake = true → e.wantPace = true → s.meas.fixed = false → s.meas.k ≤ g → g / 256 = s.meas.k / 256 →
      g % 256 ≠ 255 → e.paceAt ≤ g * (256 * 2 ^ 32) + tol → g * (256 * 2 ^ 32) ≤ e.paceAt + tol →
      ∃ t, exec (.gridSample dt) s = .next t ∧ t.meas.k = g + 1 ∧ t.meas.cycle = s.meas.cycle ∧
        (g % 256 = 0 → t.meas.start0 = e.net) ∧
        ∀ c x, c < 8 → s.chan c = some x → t.chan c = some (if e.chanGood c x then { x with
          waits := x.waits ++ [.sample e.net (some (g * 256 % max 1 (paceRound e.paceBlock)))
            (decide (e.pace.state = .coasting)) false (e.warned (inputDomain c))] } else x)) ∧
    (s.awake = false ∨ (s.pace.kind ≠ 1 ∧ s.meas.fixed = true ∧ e.net + 2 < e.nextFixed) →
      ∃ t, exec (.gridSample dt) s = .next t ∧ t.onlyChanges s []))

/-- Results and commands (R338, R355 to R357). The RMS is the root of the mean square rounded to the
nearest whole number. MB_MEAS_READ returns the record of its unit as of now, with LAST the one last
captured, and changes nothing of the units but the inputs' levels as read; MB_MEAS_WHEEL takes a wheel
diameter in its range. Energy and distance go to flash when a minute has passed since they last did. -/
def Obligations.MeasurementResultsAndCommands : Prop :=
  (∀ a n : Nat, 0 < n → 4 * a / n < 2 ^ 128 →
    let r := rootMean a n
    (0 < r → (2 * r - 1) * (2 * r - 1) ≤ 4 * a / n) ∧ 4 * a / n < (2 * r + 1) * (2 * r + 1)) ∧
  (∀ (s : State) (dt : Nat) (r : Req), s.mbxFree → r.plain → r.body.length = 4 → zeroAt r.body 3 1 = true →
    s.par.committed.isSome = true ∨ s.par.force.isSome = true →
    let e := s.elapse dt
    let k := fld r.body 0 1
    let u := fld r.body 1 1
    (fld r.body 2 1 = 0 →
      (∀ x, k = 0 → u ≤ 7 → s.chan u = some x → s.hasDom (inputDomain u) = true →
        ∃ t, exec (.mbMeasRead dt r) s = .next t ∧ t.answered 0x0801 r stOk (e.chanRecord u x 0) ∧
          t.onlyChanges s answerParts) ∧
      (∀ x, k = 1 → u ≤ 3 → s.pair u = some x → s.hasDom (inputDomain x.vCh) = true →
        ∃ t, exec (.mbMeasRead dt r) s = .next t ∧ t.answered 0x0801 r stOk (e.pairRecord u x 0) ∧
          t.onlyChanges s answerParts) ∧
      (∀ x, k = 2 → u ≤ 7 → s.tach u = some x → s.hasDom (inputDomain u) = true →
        ∃ t, exec (.mbMeasRead dt r) s = .next t ∧ t.answered 0x0801 r stOk (e.tachRecord u x 0).1 ∧
          t.onlyChanges s (.clock :: answerParts)) ∧
      (k = 3 → u ≤ 1 → s.hasDom u = true →
        ∃ t, exec (.mbMeasRead dt r) s = .next t ∧
          t.answered 0x0801 r stOk (e.dinRecord u 0xFFFF 0).1 ∧
          t.onlyChanges s (.clock :: .measure :: answerParts))) ∧
    (fld r.body 2 1 = 1 → ∀ x, k = 0 → u ≤ 7 → s.chan u = some x → s.hasDom (inputDomain u) = true →
      ∃ t, exec (.mbMeasRead dt r) s = .next t ∧ t.answered 0x0801 r stOk (padTo 0 48 x.cap) ∧
        t.onlyChanges s answerParts)) ∧
  (∀ (s : State) (dt : Nat) (r : Req), s.mbxFree → r.plain → r.body.length = 8 → zeroAt r.body 1 3 = true →
    let n := fld r.body 0 1
    let d := fld r.body 4 4
    (∀ x, n ≤ 7 → 500000 ≤ d → d ≤ 1500000 → s.tach n = some x →
      ∃ t, exec (.mbMeasWheel dt r) s = .next t ∧ t.answered 0x0802 r stOk [] ∧
        t.tach n = some { x with conf := overlay x.conf 4 (le 4 d) } ∧
        (∀ j, j ≠ n → t.tach j = s.tach j) ∧ t.onlyChanges s (.measure :: mailParts)) ∧
    (7 < n ∨ d < 500000 ∨ 1500000 < d → ∃ t, exec (.mbMeasWheel dt r) s = .next t ∧
      t.answered 0x0802 r stMalformed [] ∧ t.onlyChanges s answerParts)) ∧
  (∀ (s : State) (dt : Nat),
    let e := s.elapse dt
    let due := s.tellerUp = true ∧ s.meas.savedAt + 60000000000 ≤ e.now
    (due → s.flashHeld = false → ∃ t, exec (.energySave dt) s = .next t ∧
      (∀ n, n < 8 → Tab.get 0 t.flash.energy n = Tab.get 0 s.meas.imp n ∧
        Tab.get 0 t.flash.energy (8 + n) = Tab.get 0 s.meas.exp_ n ∧
        Tab.get 0 t.flash.energy (16 + n) = Tab.get 0 s.meas.odo n) ∧
      t.meas = { s.meas with savedAt := e.now, savedNet := e.net } ∧ t.onlyChanges s [.flash, .measure]) ∧
    (due → s.flashHeld = true → ∃ t, exec (.energySave dt) s = .next t ∧
      t.flash.energy = s.flash.energy ∧
      t.meas = { s.meas with savedAt := e.now, savedNet := e.net }) ∧
    (¬due → ∃ t, exec (.energySave dt) s = .next t ∧ t.onlyChanges s []))

/-! ### The control triad (chapter 11) -/

/-- Tasks (R363 to R369, R374). A release begins its task at once, waits behind the one that runs, or is
dropped where fewer than two members could run it or 16 wait, and ends a resync in progress. A task
that ends in time commits its writes together: to its ports, to the data TCM of every running member,
to the voted registers; a write elsewhere is counted and dropped. One that reaches its deadline commits
nothing and counts OVERRUN. A member outvoted by two others is halted and counted, and retired at its
third mismatch within a second; two that differ silence the triad. -/
def Obligations.TriadRunsTasks : Prop :=
  (∀ (s u : State) (dt : Nat) (src : ActSrc) (i : Issued), (s.elapse dt).issue 10 src = (some i, u) →
    (∀ r ∈ u.triad.queue, 3 * u.now < u.deadlineOf r) →
    let up := fun (t : State) n => Tab.get 0 t.tly.live (tlTriad n) =
      min tlyMax (Tab.get 0 u.tly.live (tlTriad n) + 1)
    (u.triad.mode ≠ .idle → u.quiet = false → u.canBegin = true →
      (u.triad.running = none → ∃ t x, exec (.taskRelease dt src) s = .next t ∧
        t.triad.running = some x ∧ x.rel.task = i.act.opnd % 256 ∧ x.rel.mark = i.mark ∧
        x.began = u.now ∧ x.rel.edge = ceilMul (3 * u.now) 5 ∧ t.triad.queue = u.triad.queue ∧
        t.triad.resync = none) ∧
      (∀ x, u.triad.running = some x → u.triad.queue.length < 16 →
        ∃ t r, exec (.taskRelease dt src) s = .next t ∧ t.triad.running = some x ∧
          t.triad.queue = u.triad.queue ++ [r] ∧ r.task = i.act.opnd % 256 ∧ r.mark = i.mark ∧
          t.triad.resync = none) ∧
      (∀ x, u.triad.running = some x → 16 ≤ u.triad.queue.length →
        ∃ t, exec (.taskRelease dt src) s = .next t ∧ up t 2 ∧ t.triad.queue = u.triad.queue ∧
          t.triad.running = some x ∧ t.pd = u.pd)) ∧
    (u.triad.mode ≠ .idle → u.quiet = true ∨ u.canBegin = false →
      ∃ t, exec (.taskRelease dt src) s = .next t ∧ up t 1 ∧ t.triad.running = u.triad.running ∧
        t.triad.queue = u.triad.queue ∧ t.pd = u.pd)) ∧
  (∀ (s : State) (dt : Nat) (ws : List TaskWrite) (x : Running), s.triad.running = some x →
    s.triad.queue = [] → s.seeds.armed = [] →
    let e := s.elapse dt
    let up := fun (t : State) n => Tab.get 0 t.tly.live (tlTriad n) =
      min tlyMax (Tab.get 0 s.tly.live (tlTriad n) + 1)
    (3 * e.now ≤ s.deadlineOf x.rel → ∃ t, exec (.taskEnd dt ws) s = .next t ∧ up t 0 ∧
      t.triad.running = none ∧ t.runners = s.runners ∧ t.triad.mode = s.triad.mode ∧
      (∀ i, i ∉ portsWritten (ws.filter s.writeOk) → t.port i = s.port i) ∧
      (∀ w p, ws = [w] → isStaged w.addr.toNat = true → s.writeOk w = true →
        s.port (stagedPort w.addr.toNat) = some p →
        ∃ q, t.port (stagedPort w.addr.toNat) = some q ∧ q.conf = p.conf ∧ q.value.kind = 2 ∧
          q.value.time = e.net ∧ q.value.data =
            overlay (padTo 0 (pSize p.conf) p.value.data) (w.addr.toNat % 2048) w.data) ∧
      (∀ w, ws = [w] → 0x10000000 ≤ w.addr.toNat → w.addr.toNat + w.data.length ≤ 0x10040000 →
        ∀ c ∈ s.runners, (t.core c).dtcm =
          memWrite (s.core c).dtcm (w.addr.toNat - 0x10000000) w.data) ∧
      (∀ w, ws = [w] → s.writeOk w = false → up t 12 ∧ t.pd = s.pd ∧ t.triad.cores = s.triad.cores ∧
        t.triad.regA = s.triad.regA ∧ t.triad.regB = s.triad.regB)) ∧
    (s.deadlineOf x.rel < 3 * e.now → ∃ t, exec (.taskEnd dt ws) s = .next t ∧ up t 3 ∧
      t.triad.running = none ∧ t.pd = s.pd ∧ t.triad.cores = s.triad.cores ∧
      t.triad.regA = s.triad.regA ∧ t.triad.regB = s.triad.regB) ∧
    (s.deadlineOf x.rel ≤ 3 * e.now → ∃ t, exec (.taskDeadline dt) s = .next t ∧ up t 3 ∧
      t.triad.running = none ∧ t.pd = s.pd ∧ t.triad.cores = s.triad.cores) ∧
    (3 * e.now < s.deadlineOf x.rel →
      ∃ t, exec (.taskDeadline dt) s = .next t ∧ t.onlyChanges s [])) ∧
  (∀ (s : State) (dt : Nat) (ws : List TaskWrite) (m : MismatchRec), s.triad.running = none →
    (∃ t, exec (.taskEnd dt ws) s = .next t ∧ t.onlyChanges s []) ∧
    (∃ t, exec (.triadMismatch dt m) s = .next t ∧ t.onlyChanges s []) ∧
    (s.triad.queue = [] → ∃ t, exec (.taskDeadline dt) s = .next t ∧ t.onlyChanges s [])) ∧
  (∀ (s : State) (dt : Nat) (m : MismatchRec) (x : Running), s.triad.running = some x →
    let val := fun c => misValue m ((s.core c).slot.getD 0)
    let e := s.elapse dt
    (∀ a b c, s.runners.Perm [a, b, c] → val a = val b → val c ≠ val a → s.triad.mode = .triplex →
      (s.core c).retired = 0 →
      ∃ t, exec (.triadMismatch dt m) s = .next t ∧
        Tab.get 0 t.tly.live (tlTriad (4 + c)) =
          min tlyMax (Tab.get 0 s.tly.live (tlTriad (4 + c)) + 1) ∧
        (t.core c).running = false ∧ (t.core a).running = true ∧ (t.core b).running = true ∧
        ((e.missNow c).length < 2 → (t.core c).retired = 0 ∧ (t.core c).slot = (s.core c).slot ∧
          (t.core c).misses = e.missNow c ++ [e.now] ∧ t.triad.mode = .duplex ∧
          t.triad.running = some x) ∧
        (2 ≤ (e.missNow c).length → (t.core c).retired = 1 ∧ (t.core c).slot = none ∧
          Tab.get 0 t.tly.live (tlTriad 10) = min tlyMax (Tab.get 0 s.tly.live (tlTriad 10) + 1))) ∧
    (∀ a b, s.runners.Perm [a, b] → val a ≠ val b → s.triad.mode ≠ .silent → s.triad.queue = [] →
      ∃ t, exec (.triadMismatch dt m) s = .next t ∧ t.triad.mode = .silent ∧
        t.triad.running = none ∧ t.pd = s.pd ∧ t.triad.cores = s.triad.cores) ∧
    ((∀ a ∈ s.runners, ∀ b ∈ s.runners, val a = val b) →
      ∃ t, exec (.triadMismatch dt m) s = .next t ∧ t.onlyChanges s []))

/-- Resync, assay and restart (R375 to R384, R389, R523). In a RESYNC window with nothing running the
lowest halted member is resynced from the first running one; when done it is ready with its source's
memories; a failed self-test retires it, a second failed check in a row too. An assay that is not
reported marks its check as failed and counts. A SILENT triad with two fit cores accepts a restart and is
loaded at the first instant that allows it. -/
def Obligations.TriadRepairsItself : Prop :=
  (∀ (s : State) (dt : Nat),
    let e := s.elapse dt
    let ok := e.resyncNow = true ∧ s.triad.mode ≠ .idle ∧ s.triad.mode ≠ .silent
    (∀ c src l, ok → s.awaiting = some c → s.runners = src :: l →
      ∃ t, exec (.resyncStart dt) s = .next t ∧
        t.triad = { s.triad with resync := some { core := c, source := src, began := e.now } } ∧
        t.onlyChanges s [.triad]) ∧
    (¬ok ∨ s.awaiting = none ∨ s.runners = [] →
      ∃ t, exec (.resyncStart dt) s = .next t ∧ t.onlyChanges s [])) ∧
  (∀ (s : State) (dt : Nat) (r : Resync), s.triad.resync = some r →
    let up := fun (t : State) n => Tab.get 0 t.tly.live (tlTriad n) =
      min tlyMax (Tab.get 0 s.tly.live (tlTriad n) + 1)
    let x := s.core r.core
    (∃ t, exec (.triadResync dt) s = .next t ∧ t.triad.resync = none ∧ up t 8 ∧
      t.core r.core = { x with
        ready := true, checks := 0, itcm := (s.core r.source).itcm, dtcm := (s.core r.source).dtcm } ∧
      (∀ c, c ≠ r.core → t.core c = s.core c) ∧ t.onlyChanges s (.triad :: eventParts)) ∧
    (x.checks = 0 → ∃ t, exec (.resyncCheckFail dt) s = .next t ∧ t.triad.resync = none ∧
      t.core r.core = { x with checks := 1 } ∧ (∀ c, c ≠ r.core → t.core c = s.core c) ∧
      t.onlyChanges s [.triad]) ∧
    (x.checks ≠ 0 → x.retired = 0 → ∃ t, exec (.resyncCheckFail dt) s = .next t ∧
      t.triad.resync = none ∧ (t.core r.core).retired = 3 ∧ (t.core r.core).slot = none ∧ up t 10) ∧
    (x.retired = 0 → ∃ t, exec (.resyncSelftestFail dt) s = .next t ∧ t.triad.resync = none ∧
      (t.core r.core).retired = 2 ∧ (t.core r.core).slot = none ∧ (t.core r.core).running = false ∧
      up t 10)) ∧
  (∀ (s : State) (dt : Nat), s.triad.resync = none →
    ∀ c ∈ [Instr.triadResync dt, .resyncCheckFail dt, .resyncSelftestFail dt],
      ∃ t, exec c s = .next t ∧ t.onlyChanges s []) ∧
  (∀ (s : State) (dt : Nat) (rep : Bool),
    let e := s.elapse dt
    let at_ := 3 * e.now / 5120 * 5120
    let k := s.nextCheck s.triad.assayIx
    (at_ ≤ s.triad.assayAt → ∃ t, exec (.assay dt rep) s = .next t ∧ t.onlyChanges s []) ∧
    (s.triad.assayAt < at_ → rep = false → ∃ t, exec (.assay dt rep) s = .next t ∧
      t.triad.assayIx = k ∧ t.triad.assayAt = at_ ∧ (k, 0) ∈ t.triad.failed ∧
      (∀ x, t.triad.running = some x → x.unguarded = true) ∧
      Tab.get 0 t.tly.live (tlTriad 11) = min tlyMax (Tab.get 0 s.tly.live (tlTriad 11) + 1) ∧
      t.onlyChanges s (.triad :: eventParts)) ∧
    (s.triad.assayAt < at_ → rep = true → (∀ x ∈ s.triad.failed, x.1 ≠ k) →
      ∃ t, exec (.assay dt rep) s = .next t ∧
        t.triad = { s.triad with assayIx := k, assayAt := at_ } ∧ t.onlyChanges s [.triad])) ∧
  (∀ (s : State) (dt : Nat) (r : Req), s.mbxFree → r.plain → r.body = [] →
    let two := 2 ≤ (allCores.filter s.fit).length
    (s.triad.mode = .silent → two → ∃ t, exec (.mbTriadRestart dt r) s = .next t ∧
      t.answered 0x0902 r stOk [] ∧ t.triad = { s.triad with restart := true } ∧
      t.onlyChanges s (.triad :: answerParts)) ∧
    (s.triad.mode ≠ .silent ∨ ¬two → ∃ t, exec (.mbTriadRestart dt r) s = .next t ∧
      t.answered 0x0902 r stDenied [] ∧ t.onlyChanges s answerParts) ∧
    (∃ t b, exec (.mbTriadStatus dt r) s = .next t ∧ t.answered 0x0901 r stOk b ∧
      fld b 0 1 = triNo s.triad.mode ∧ fld b 1 1 = s.slotCore 0 % 256 ∧ fld b 7 1 = s.triad.queue.length % 256 ∧
      fld b 8 1 = bnat (!s.triad.failed.isEmpty) ∧ slice b 16 4 =
        allCores.map (fun c => BitVec.ofNat 8 (s.core c).retired) ∧ t.onlyChanges s answerParts)) ∧
  (∀ (s : State) (dt : Nat) (p : Par), s.par.force = some p →
    let e := s.elapse dt
    let ok := s.triad.restart = true ∧ s.triad.mode = .silent ∧ e.resyncNow = true ∧
      2 ≤ (allCores.filter s.fit).length
    (ok → ∃ t, exec (.triadRestartLoad dt) s = .next t ∧ t.triad.restart = false ∧
      (t.triad.mode = .triplex ∨ t.triad.mode = .duplex) ∧
      (t.triad.mode = .triplex ↔ 3 ≤ t.runners.length) ∧
      ∀ c, c ∈ t.members → s.fit c = true → (t.core c).running = true ∧ (t.core c).itcm = p.imgI ∧
        (t.core c).dtcm = memOf p.imgD) ∧
    (¬ok → ∃ t, exec (.triadRestartLoad dt) s = .next t ∧ t.onlyChanges s []))

/-! ### Twin nodes (chapter 12) -/

/-- Epochs, heartbeats and beacons (R393, R399, R402 to R406, R409, R410). A requested snapshot of an
active unit raises SEQ by one and counts; a standby applies an epoch only when it is complete, its CRC
verifies, its SEQ is above the last applied and its parison matches, and counts the others by cause. A
heartbeat or beacon that claims ACTIVE makes one of two active units demote. Beacons go out every
10 ms on open backbone ports, TWIN_ACT drops 250 µs after its last refresh, and a lane that fails
counts. Which discard is counted where several conditions fail is the model's (DEDUCED). -/
def Obligations.TwinEpochsAndHeartbeats : Prop :=
  (∀ (s : State) (dt : Nat),
    let due := s.twin.sealWait = true ∧ s.triad.running = none
    (due → s.twin.role = .active → ∃ t, exec (.escrowSnapshot dt) s = .next t ∧
      t.twin.sealWait = false ∧ t.twin.sealed = (s.twin.sealed + 1) % 2 ^ 64 ∧
      t.twin.role = .active ∧
      Tab.get 0 t.tly.live (tlTwin 0) = min tlyMax (Tab.get 0 s.tly.live (tlTwin 0) + 1)) ∧
    (due → s.twin.role ≠ .active → ∃ t, exec (.escrowSnapshot dt) s = .next t ∧
      t.twin.sealWait = false ∧ t.twin.sealed = s.twin.sealed ∧ t.onlyChanges s [.twin]) ∧
    (¬due → ∃ t, exec (.escrowSnapshot dt) s = .next t ∧ t.onlyChanges s [])) ∧
  (∀ (s : State) (dt : Nat) (b : List Byte) (whole : Bool),
    let n := b.length
    let long := whole = true ∧ 80 ≤ n ∧ fld b 4 4 = n
    let good := b.take 4 = [0x5A, 0x45, 0x53, 0x43] ∧
      BitVec.ofNat 32 (fld b (n - 16) 4) = crc32c (b.take (n - 16))
    let ours := slice b 0x20 8 = s.parPrefix ∧ (s.twin.epoch = none ∨ s.twin.applied < fld b 8 8)
    let drop := fun k => ∃ t, exec (.epochReceive dt b whole) s = .next t ∧
      t.twin.epoch = s.twin.epoch ∧ t.twin.applied = s.twin.applied ∧
      Tab.get 0 t.tly.live (tlTwin k) = min tlyMax (Tab.get 0 s.tly.live (tlTwin k) + 1) ∧
      t.onlyChanges s [.twin, .tallies]
    (s.quiet = true → s.escrowUp = true →
      (¬long → drop 3) ∧ (long → ¬good → drop 2) ∧ (long → good → ¬ours → drop 4) ∧
      (long → good → ours → ∃ t, exec (.epochReceive dt b whole) s = .next t ∧
        t.twin.epoch = some b ∧ t.twin.applied = fld b 8 8 ∧ t.twin.epochSet = s.escrowSet ∧
        t.twin.mirrored = true ∧ t.twin.role = s.twin.role ∧
        Tab.get 0 t.tly.live (tlTwin 1) = min tlyMax (Tab.get 0 s.tly.live (tlTwin 1) + 1) ∧
        ((∀ x ∈ s.escrowSet, x.space ≠ 3) → t.sleep = s.sleep) ∧
        (s.escrowSet = [{ space := 3, loc := 0, len := 0 }] → s.hasDom 0 = true → s.hasDom 1 = true →
          t.sleep.latches.toNat = fld (epochBody b) 0 2) ∧
        t.onlyChanges s [.twin, .tallies, .sleep])) ∧
    (s.quiet = false ∨ s.escrowUp = false →
      ∃ t, exec (.epochReceive dt b whole) s = .next t ∧ t.onlyChanges s [])) ∧
  (∀ (s : State) (dt : Nat) (h : Heartbeat),
    let valid := s.twinOn = true ∧ s.escrowUp = true ∧ (h.authOk = true ∨ (s.key 24).isOpen = true)
    (valid → ∃ t, exec (.heartbeatRx dt h) s = .next t ∧ t.twin.hb = some h ∧
      t.twin.hbNet = (s.elapse dt).net ∧
      (s.twin.role = .active → h.role = .active →
        (s.prior h.pref = true → t.twin.role = .active) ∧
        (s.prior h.pref = false → t.twin.role = .standby ∧ t.twin.act = false ∧
          Tab.get 0 t.tly.live (tlTwin 7) = min tlyMax (Tab.get 0 s.tly.live (tlTwin 7) + 1))) ∧
      (s.twin.role ≠ .active ∨ h.role ≠ .active → t.twin.role = s.twin.role)) ∧
    (¬valid → ∃ t, exec (.heartbeatRx dt h) s = .next t ∧ t.onlyChanges s [])) ∧
  (∀ (s : State) (dt : Nat) (p : Fin 4) (b : Beacon),
    let e := s.elapse dt
    let ok := (s.mac p.val).up = true ∧ s.absentUnit p.val = false ∧ (s.sa p.val).secured = true ∧
      b.secured = true ∧ b.mac = s.peerMac ∧ s.twin.role = .active
    let near := s.twin.hb ≠ none ∧ e.net ≤ s.twin.hbNet + s.roundNs
    (ok → s.prior b.pref = true → ∃ t, exec (.beaconRx dt p b) s = .next t ∧ t.twin.role = .active) ∧
    (ok → s.prior b.pref = false → ∃ t, exec (.beaconRx dt p b) s = .next t ∧
      (near → t.twin.role = .standby) ∧ (¬near → t.twin.role = .orphaned) ∧ t.twin.act = false ∧
      Tab.get 0 t.tly.live (tlTwin 7) = min tlyMax (Tab.get 0 s.tly.live (tlTwin 7) + 1)) ∧
    (¬ok → ∃ t, exec (.beaconRx dt p b) s = .next t ∧ t.onlyChanges s [])) ∧
  (∀ (s : State) (peer : Bool), s.prior peer =
    (if s.sys.pref ≠ peer then s.sys.pref else decide (Config.nodeMac.toNat < s.peerMac.toNat))) ∧
  (∀ (s : State) (dt : Nat),
    let e := s.elapse dt
    let due := s.twin.role = .active ∧ s.twin.beaconAt ≤ e.now
    (due → ∃ t l, exec (.beaconSend dt) s = .next t ∧
      t.twin = { s.twin with act := t.twin.act, beaconAt := e.now + 10000000 } ∧ t.sent = s.sent ++ l ∧
      (∀ p, p < 4 → e.portOpen p = true → .msg p (ev 12 2) (be 6 nearestBridge ++
        macBytes Config.nodeMac ++ [0x88, 0xB5, 0x5A] ++ macBytes Config.nodeMac ++
        macBytes s.peerMac ++ le 1 (bnat s.sys.pref) ++ le 8 s.twin.sealed) ∈ l) ∧
      (∀ p k b, Sent.msg p k b ∈ l → p < 4 ∧ e.portOpen p = true) ∧
      t.onlyChanges s [.twin, .outputs]) ∧
    (¬due → ∃ t, exec (.beaconSend dt) s = .next t ∧ t.onlyChanges s []) ∧
    (∃ t, exec (.twinActTimeout dt) s = .next t ∧
      (s.twin.refreshAt + 250000 ≤ e.now → t.twin.act = false) ∧ t.onlyChanges s [])) ∧
  (∀ (s : State) (dt : Nat) (k : Fin 2) (up : Bool),
    let gone := if k.val = 0 then s.twin.retired0 else s.twin.retired1
    (s.lane k.val ≠ up → ¬(gone = true ∧ up = true) → ∃ t, exec (.twinLane dt k up) s = .next t ∧
      t.lane k.val = up ∧ t.lane (1 - k.val) = s.lane (1 - k.val) ∧ t.twin.role = s.twin.role ∧
      (up = false → Tab.get 0 t.tly.live (tlTwin 9) = min tlyMax (Tab.get 0 s.tly.live (tlTwin 9) + 1)) ∧
      (up = false → s.lane (1 - k.val) = false → t.sa 24 = sa0)) ∧
    (s.lane k.val = up ∨ (gone = true ∧ up = true) →
      ∃ t, exec (.twinLane dt k up) s = .next t ∧ t.onlyChanges s []))

/-- The decision rules, takeover, planned switch-over, drill and configuration (R396, R407, R408, R411,
R412, R414 to R416). Three boundaries in a row that agree decide: missed with an inactive witness
begins a takeover once the pair wait is over, missed with an active one orphans, a peer that claims
ACTIVE makes a standby, and a peer that claims neither leaves the preferred unit to act. A takeover
commits each escrowed port with KIND 7 and HELD and writes the escrowed data TCM. -/
def Obligations.TwinRolesAndTakeover : Prop :=
  (∀ (s : State) (dt : Nat) (wit : Bool),
    let e := s.elapse dt
    let l := s.roundNs
    let b := (e.net + 2 - 20000) / l * l
    let due := s.quiet = true ∧ s.twinOn = true ∧ 20000 ≤ e.net + 2 ∧ e.net ≤ b + 20002 ∧ s.twin.lastB < b
    let missed := s.twin.hb = none ∨ s.twin.hbNet + l ≤ b + 20000
    (due → ∃ t, exec (.boundaryJudgement dt wit) s = .next t ∧ t.twin.lastB = b ∧
      (missed → Tab.get 0 t.tly.live (tlTwin 5) = min tlyMax (Tab.get 0 s.tly.live (tlTwin 5) + 1)) ∧
      (∀ x y, s.twin.window.drop (s.twin.window.length - 2) = [x, y] → missed → x.missed = true →
        y.missed = true → x.claim = 0 → y.claim = 0 →
        (x.witness = false → y.witness = false → wit = false →
          t.twin.role = s.twin.role ∧ (s.twin.pairOver = true → s.twin.taking = none →
            t.twin.taking = some e.net ∧ t.twin.restores = true) ∧
          (s.twin.pairOver = false → t.twin.taking = s.twin.taking)) ∧
        (x.witness = true → y.witness = true → wit = true →
          t.twin.role = .orphaned ∧ t.twin.taking = s.twin.taking) ∧
        (x.witness ≠ wit ∨ y.witness ≠ wit →
          t.twin.role = s.twin.role ∧ t.twin.taking = s.twin.taking)) ∧
      (∀ x y h, s.twin.window.drop (s.twin.window.length - 2) = [x, y] → ¬missed → s.twin.hb = some h →
        x.missed = false → y.missed = false → x.claim = claimOf false s.twin.hb →
        y.claim = claimOf false s.twin.hb →
        (h.role = .active → x.witness = wit → y.witness = wit →
          t.twin.role = .standby ∧ t.twin.taking = s.twin.taking) ∧
        (h.role = .active → x.witness ≠ wit ∨ y.witness ≠ wit →
          t.twin.role = s.twin.role ∧ t.twin.taking = s.twin.taking) ∧
        (h.role = .standby ∨ h.role = .orphaned → t.twin.role = .standby ∧
          (s.prior h.pref = true → s.twin.taking = none →
            t.twin.taking = some (b + l) ∧ t.twin.restores = false) ∧
          (s.prior h.pref = false → t.twin.taking = s.twin.taking)))) ∧
    (¬due → ∃ t, exec (.boundaryJudgement dt wit) s = .next t ∧ t.onlyChanges s [])) ∧
  (∀ (s : State) (dt : Nat),
    let e := s.elapse dt
    (∀ n, s.twin.taking = some n → s.quiet = true → n ≤ e.net + 2 →
      ∃ t, exec (.takeoverComplete dt) s = .next t ∧ t.twin.role = .active ∧ t.twin.taking = none ∧
        t.twin.planned = none ∧ t.twin.refreshAt = e.now ∧
        (s.twin.restores = false → t.pd = s.pd ∧ t.triad = s.triad) ∧
        (s.twin.restores = true →
          Tab.get 0 t.tly.live (tlTwin 6) = min tlyMax (Tab.get 0 s.tly.live (tlTwin 6) + 1) ∧
          (s.twin.epoch = none → t.pd = s.pd ∧ t.triad = s.triad) ∧
          (∀ b i k p, s.twin.epoch = some b → s.twin.epochSet = [{ space := 1, loc := i, len := k }] →
            let item := (epochBody b).take (ceilMul (32 + fld (epochBody b) 0x14 2) 8)
            s.port i = some p → fld item 0x14 2 = pSize p.conf → ∃ q, t.port i = some q ∧
              q.conf = p.conf ∧ q.value.kind = 7 ∧ q.value.data = slice item 32 (pSize p.conf) ∧
              q.value.quality = BitVec.ofNat 8 ((item.getD 0x16 0) ||| 0x20).toNat ∧
              q.value.seq = fld item 0x0C 4 ∧ q.seq = (fld item 0x0C 4 + 1) % 2 ^ 32 ∧
              (∀ j, j ≠ i → t.port j = s.port j)) ∧
          (∀ b o k, s.twin.epoch = some b → s.twin.epochSet = [{ space := 2, loc := o, len := k }] →
            (∀ c ∈ s.runners, (t.core c).dtcm =
              memWrite (s.core c).dtcm o ((epochBody b).take k)) ∧ t.pd = s.pd))) ∧
    (s.twin.taking = none ∨ s.quiet = false ∨ (∃ n, s.twin.taking = some n ∧ e.net + 2 < n) →
      ∃ t, exec (.takeoverComplete dt) s = .next t ∧ t.onlyChanges s [])) ∧
  (∀ (s : State) (dt : Nat) (p : Planned), s.twin.planned = some p →
    let e := s.elapse dt
    let near := s.twin.hb ≠ none ∧ e.net ≤ s.twin.hbNet + s.roundNs
    let applied := ∃ h, s.twin.hb = some h ∧ s.twin.sealed ≤ h.seq.toNat
    (e.net + 2 < p.net → ∃ t, exec (.plannedSwitchover dt) s = .next t ∧ t.onlyChanges s []) ∧
    (p.net ≤ e.net + 2 → s.twin.role = .active → p.sealed = true → near → applied →
      ∃ t, exec (.plannedSwitchover dt) s = .next t ∧ t.twin.role = .standby ∧ t.twin.act = false ∧
        t.twin.planned = none ∧
        (∀ d, p.drill = some d → t.twin.drillEnd = some (e.now + d * 1000000000))) ∧
    (p.net ≤ e.net + 2 → s.quiet = true → p.sealed = true → near →
      ∃ t, exec (.plannedSwitchover dt) s = .next t ∧
        t.twin = { s.twin with act := t.twin.act, taking := some p.net, restores := true } ∧
        t.onlyChanges s [.twin]) ∧
    (p.net ≤ e.net + 2 → p.sealed = false ∨ ¬near ∨ (s.twin.role = .active ∧ ¬applied) →
      ∃ t, exec (.plannedSwitchover dt) s = .next t ∧
        t.twin = { s.twin with act := t.twin.act, planned := none } ∧ t.onlyChanges s [.twin])) ∧
  (∀ (s : State) (dt : Nat),
    let e := s.elapse dt
    let k := fld s.twin.conf 2 2
    let clean := s.twin.role = .standby ∧ s.sys.pref = true ∧ k ≠ 0 ∧ s.twin.drillEnd = none ∧
      s.twin.epoch ≠ none ∧ s.twin.cleanSince + k * 1000000000 ≤ e.now
    (s.twin.planned = none → ∃ t, exec (.plannedSwitchover dt) s = .next t ∧ t.onlyChanges s []) ∧
    (clean → ∃ t, exec (.takebackTimer dt) s = .next t ∧
      t.twin = { s.twin with act := t.twin.act, wantBack := true } ∧ t.onlyChanges s [.twin]) ∧
    (¬clean → ∃ t, exec (.takebackTimer dt) s = .next t ∧ t.onlyChanges s []) ∧
    (∀ n, s.twin.drillEnd = some n → n ≤ e.now → ∃ t, exec (.drillDwellExpiry dt) s = .next t ∧
      t.twin = { s.twin with
        act := t.twin.act, drillEnd := none, wantBack := decide (s.twin.role = Role.standby) } ∧
      t.onlyChanges s (.twin :: eventParts)) ∧
    (s.twin.drillEnd = none ∨ (∃ n, s.twin.drillEnd = some n ∧ e.now < n) →
      ∃ t, exec (.drillDwellExpiry dt) s = .next t ∧ t.onlyChanges s []) ∧
    (∀ n, s.twin.pairWait = some n → n ≤ e.now → ∃ t, exec (.pairWaitExpiry dt) s = .next t ∧
      t.twin = { s.twin with act := t.twin.act, pairOver := true, pairWait := none } ∧
      t.onlyChanges s [.twin]) ∧
    (s.twin.pairWait = none ∨ (∃ n, s.twin.pairWait = some n ∧ e.now < n) →
      ∃ t, exec (.pairWaitExpiry dt) s = .next t ∧ t.onlyChanges s [])) ∧
  (∀ (s : State) (dt : Nat) (r : Req), s.mbxFree → r.plain →
    let e := s.elapse dt
    let c := r.body.drop 4
    let o := fld r.body 0 4
    (r.body.length = 36 → o < 2 → zeroAt r.body 5 1 = true → zeroAt r.body 16 20 = true →
      let ok := fld c 0 1 < 2 ∧ fld c 2 2 ≤ 3600 ∧ 500 ≤ fld c 4 2 ∧ fld c 4 2 ≤ 10000
      let denied := s.twinOn = true ∧ fld c 0 1 = 0 ∧ s.quiet = true
      (¬ok → ∃ t, exec (.mbTwinConfig dt r) s = .next t ∧ t.answered 0x0A01 r stMalformed [] ∧
        t.onlyChanges s answerParts) ∧
      (ok → denied → ∃ t, exec (.mbTwinConfig dt r) s = .next t ∧ t.answered 0x0A01 r stDenied [] ∧
        t.onlyChanges s answerParts) ∧
      (ok → ¬denied → s.twin.planned ≠ none ∨ (o = 1 ∧ s.flashHeld = true) →
        ∃ t, exec (.mbTwinConfig dt r) s = .next t ∧ t.answered 0x0A01 r stBusy [] ∧
          t.onlyChanges s answerParts) ∧
      (ok → ¬denied → s.twin.planned = none → (o = 1 → s.flashHeld = false) →
        ∃ t, exec (.mbTwinConfig dt r) s = .next t ∧ t.answered 0x0A01 r stOk c ∧ t.twin.conf = c ∧
          (s.twinOn = decide (fld c 0 1 = 1) → t.twin.role = s.twin.role) ∧
          (s.twinOn = true → fld c 0 1 = 0 → t.twin.role = .solo) ∧
          (s.twinOn = false → fld c 0 1 = 1 →
            t.twin.role = if s.gaf.active then .active else .standby))) ∧
    (r.body.length = 4 → o = 2 → ∃ t, exec (.mbTwinConfig dt r) s = .next t ∧
      t.answered 0x0A01 r stOk s.twin.conf ∧ t.onlyChanges s answerParts) ∧
    (r.body = [] → ∃ t b, exec (.mbTwinStatus dt r) s = .next t ∧ t.answered 0x0A02 r stOk b ∧
      fld b 0 1 = roleNo s.twin.role ∧ fld b 1 1 = bnat s.sys.pref ∧
      fld b 3 1 = bnat s.twin.lane0 + 2 * bnat s.twin.lane1 ∧ fld b 4 1 = bnat s.twin.mirrored ∧
      fld b 5 1 = missedRow s.twin.window % 256 ∧
      fld b 8 8 = (if s.twin.role = .active then s.twin.sealed else s.twin.applied) % 2 ^ 64 ∧
      t.onlyChanges s (.clock :: answerParts)) ∧
    (r.body.length = 4 → zeroAt r.body 2 2 = true →
      let d := fld r.body 0 2
      let ok := s.twin.role = .active ∧ (∃ h, s.twin.hb = some h ∧ h.seq.toNat = s.twin.sealed) ∧
        3 ≤ s.twin.appliedRow
      (d = 0 ∨ 3600 < d → ∃ t, exec (.mbTwinDrill dt r) s = .next t ∧
        t.answered 0x0A03 r stMalformed [] ∧ t.onlyChanges s answerParts) ∧
      (d ≠ 0 → d ≤ 3600 → ¬ok → ∃ t, exec (.mbTwinDrill dt r) s = .next t ∧
        t.answered 0x0A03 r stDenied [] ∧ t.onlyChanges s answerParts) ∧
      (d ≠ 0 → d ≤ 3600 → ok → s.twin.planned ≠ none ∨ s.twin.drillEnd ≠ none →
        ∃ t, exec (.mbTwinDrill dt r) s = .next t ∧ t.answered 0x0A03 r stBusy [] ∧
          t.onlyChanges s answerParts) ∧
      (d ≠ 0 → d ≤ 3600 → ok → s.twin.planned = none → s.twin.drillEnd = none →
        let at_ := ceilMul (e.net + 2 * s.roundNs) s.roundNs
        ∃ t, exec (.mbTwinDrill dt r) s = .next t ∧ t.answered 0x0A03 r stOk (secNs at_ ++ zeros 4) ∧
          t.twin.planned = some { net := at_, sealed := false, drill := some d } ∧
          t.twin.role = .active ∧ t.onlyChanges s (.twin :: answerParts))))

/-! ### Feeds, domains, wear (chapter 13) -/

/-- Feed warnings, the loss and return of a domain, the spine list's handover (R421, R424, R425, R427,
R429, R431, R434, R435, R441). A warning counts once while it lasts; a loss isolates its domain and
closes its ports, and the other feed's domain keeps its own record; below both levels the main die is
reset. A domain that returns is present again from its issue boundary on. Errors of up to two bits
are counted as corrected, the others as uncorrectable. -/
def Obligations.DomainsFailAndReturn : Prop :=
  (∀ (s : State) (dt : Nat) (d : Fin 2) (rail : Fin 3) (mv : U16),
    let f := s.feed d.val
    let there := s.awake = true ∧ f.dom ≠ .isolated
    (there → ∃ t g, exec (.feedWarn dt d rail mv) s = .next t ∧ t.feed d.val = g ∧ g.warn = true ∧
      g.dom = f.dom ∧ g.losses = f.losses ∧ g.vreq = f.vreq ∧ t.feed (1 - d.val) = s.feed (1 - d.val) ∧
      g.mins = Tab.set 0 f.mins rail.val (if Tab.get 0 f.mins rail.val = 0 then mv.toNat
        else min (Tab.get 0 f.mins rail.val) mv.toNat) ∧
      (f.warning = false → g.warnings = f.warnings + 1 ∧
        Tab.get 0 t.tly.live (tlFeed d.val) = min tlyMax (Tab.get 0 s.tly.live (tlFeed d.val) + 1)) ∧
      (f.warning = true → g.warnings = f.warnings ∧ t.onlyChanges s [.feeds]) ∧
      t.onlyChanges s (.feeds :: eventParts)) ∧
    (¬there → ∃ t, exec (.feedWarn dt d rail mv) s = .next t ∧ t.onlyChanges s []) ∧
    (f.warn = true → ∃ t, exec (.feedWarnEnd dt d) s = .next t ∧ (t.feed d.val).warn = false ∧
      (t.feed d.val).sim = f.sim ∧ t.feed (1 - d.val) = s.feed (1 - d.val) ∧
      (f.sim = [] → (s.feed (1 - d.val)).warning = false → s.tellerUp = true → t.flash.defer = []) ∧
      t.onlyChanges s [.feeds, .daybook, .flash]) ∧
    (f.warn = false → ∃ t, exec (.feedWarnEnd dt d) s = .next t ∧ t.onlyChanges s [])) ∧
  (∀ (s : State) (dt : Nat) (d : Fin 2) (rail : Fin 3),
    let e := s.elapse dt
    let f := s.feed d.val
    let alive := s.sleep.asleep = false ∧ f.below = false ∧ s.awake = true
    (alive → (s.feed (1 - d.val)).below = false → f.dom = .present →
      ∃ t, exec (.feedLoss dt d rail) s = .next t ∧ (t.feed d.val).dom = .isolated ∧
        (t.feed d.val).below = true ∧ (t.feed d.val).losses = f.losses + 1 ∧
        (t.feed d.val).lostNet = e.net ∧ t.feed (1 - d.val) = s.feed (1 - d.val) ∧
        Tab.get 0 t.tly.live (tlFeed (2 + d.val)) =
          min tlyMax (Tab.get 0 s.tly.live (tlFeed (2 + d.val)) + 1) ∧
        (∀ p, p < 24 → portDomain p = d.val → Tab.get 0 t.fab.gates p = 0 ∧ t.portOpen p = false) ∧
        (s.gaf.active = true → s.gaf.spineT.gaf = d.val → t.gaf.spineT.gaf = 1 - d.val)) ∧
    (alive → (s.feed (1 - d.val)).below = false → f.dom = .returning →
      ∃ t, exec (.feedLoss dt d rail) s = .next t ∧ (t.feed d.val).dom = .isolated ∧
        t.feed (1 - d.val) = s.feed (1 - d.val)) ∧
    (alive → (s.feed (1 - d.val)).below = true → s.sys.porst = false → s.sys.sysrst = false →
      ∃ t, exec (.feedLoss dt d rail) s = .next t ∧ t.sys.stage = .dark ∧ t.feedA.below = true ∧
        t.feedB.below = true ∧ t.gaf.active = false ∧ t.flash = { s.flash with defer := [] }) ∧
    (s.sleep.asleep = true ∨ f.below = true →
      ∃ t, exec (.feedLoss dt d rail) s = .next t ∧ t.onlyChanges s []) ∧
    (s.sleep.asleep = false → (s.feedA.below = false ∨ s.feedB.below = false) → s.sys.porst = false →
      s.sys.sysrst = false →
      ∃ t, exec (.bothFeedsLost dt) s = .next t ∧ t.sys.stage = .dark ∧ t.feedA.below = true ∧
        t.feedB.below = true ∧ t.gaf.active = false ∧ t.flash = { s.flash with defer := [] }) ∧
    (s.sleep.asleep = true ∨ (s.feedA.below = true ∧ s.feedB.below = true) →
      ∃ t, exec (.bothFeedsLost dt) s = .next t ∧ t.onlyChanges s [])) ∧
  (∀ (s : State) (dt : Nat) (d : Fin 2) (p : Par), s.par.force = some p →
    let e := s.elapse dt
    let f := s.feed d.val
    let can := s.sleep.asleep = false ∧ f.dom = .isolated ∧ Tab.get 0 s.sys.retired (0x56 + d.val) = 0
    (can → s.awake = true → ∃ t, exec (.feedReturnStart dt d) s = .next t ∧
      t.feed d.val = { f with
        dom := .returning, below := false
        issueNet := if s.gaf.active then ceilMul (e.net + 1000000) p.round else e.net } ∧
      t.feed (1 - d.val) = s.feed (1 - d.val) ∧ t.sys.stage = s.sys.stage) ∧
    (can → s.awake = false → s.sys.stage ≠ .dark → ∃ t, exec (.feedReturnStart dt d) s = .next t ∧
      t.feed d.val = { f with dom := .present, below := false } ∧ t.onlyChanges s [.feeds]) ∧
    (¬can → ∃ t, exec (.feedReturnStart dt d) s = .next t ∧ t.onlyChanges s [])) ∧
  (∀ (s : State) (dt : Nat) (d : Fin 2),
    let e := s.elapse dt
    let f := s.feed d.val
    (f.dom = .returning → ∃ t, exec (.returnAbandon dt d) s = .next t ∧
      t.feed d.val = { f with dom := .isolated, below := true, warn := false, sim := [] } ∧
      t.feed (1 - d.val) = s.feed (1 - d.val)) ∧
    (f.dom ≠ .returning → ∃ t, exec (.returnAbandon dt d) s = .next t ∧ t.onlyChanges s []) ∧
    (f.dom = .returning → f.issueNet ≤ e.net + 2 → ∃ t, exec (.feedReturn dt d) s = .next t ∧
      t.feed d.val = { f with dom := .present } ∧ t.feed (1 - d.val) = s.feed (1 - d.val) ∧
      Tab.get 0 t.gaf.paceFrom d.val = (if e.paceRuns then e.nextPaceRound else 0)) ∧
    (f.dom ≠ .returning ∨ e.net + 2 < f.issueNet →
      ∃ t, exec (.feedReturn dt d) s = .next t ∧ t.onlyChanges s [])) ∧
  (∀ (s : State) (dt : Nat) (b : Nat),
    let e := s.elapse dt
    (s.gaf.spineT.wait = some b → b ≤ e.net + 2 → s.live s.gaf.spineT.gaf = true →
      ∃ t, exec (.spineHandover dt .time) s = .next t ∧ t.gaf.spineT.wait = none ∧
        t.gaf.spineT.gaf = s.gaf.spineT.gaf ∧ t.gaf.spineP.gaf = s.gaf.spineP.gaf ∧
        t.onlyChanges s (.gaffer :: eventParts)) ∧
    (s.gaf.spineT.wait = some b → e.net + 2 < b →
      ∃ t, exec (.spineHandover dt .time) s = .next t ∧ t.onlyChanges s []) ∧
    (s.gaf.spineT.wait = none → ∃ t, exec (.spineHandover dt .time) s = .next t ∧ t.onlyChanges s []) ∧
    (s.gaf.spineP.wait = some b → b ≠ 0 → b ≤ e.paceAt + 2 ^ 32 → s.live s.gaf.spineP.gaf = true →
      ∃ t, exec (.spineHandover dt .pace) s = .next t ∧ t.gaf.spineP.wait = none ∧
        t.gaf.spineP.gaf = s.gaf.spineP.gaf ∧ t.gaf.spineT.gaf = s.gaf.spineT.gaf ∧
        t.onlyChanges s (.gaffer :: eventParts)) ∧
    (s.gaf.spineP.wait = none ∨ s.gaf.spineP.wait = some 0 →
      ∃ t, exec (.spineHandover dt .pace) s = .next t ∧ t.onlyChanges s [])) ∧
  (∀ (s : State) (dt : Nat) (st : Strand) (g : Fin 2),
    let e := s.elapse dt
    (s.lehr.gafRetire = none →
      ∃ t, exec (.gafferRetireHandover dt st) s = .next t ∧ t.onlyChanges s []) ∧
    (s.lehr.gafRetire = some g.val → s.live (1 - g.val) = false →
      ∃ t, exec (.gafferRetireHandover dt st) s = .next t ∧ t.lehr.gafRetire = none ∧
        Tab.get 0 t.lehr.unitState (0x56 + g.val) = 2 ∧ Tab.get 0 t.sys.retired (0x56 + g.val) = 0 ∧
        t.onlyChanges s [.lehr, .system]) ∧
    (s.lehr.gafRetire = some g.val → s.live (1 - g.val) = true → s.gaf.active = true →
      s.gaf.spineT.gaf = g.val →
      (s.gaf.spineT.missed ≤ e.net + 2 → ∃ t, exec (.gafferRetireHandover dt .time) s = .next t ∧
        t.gaf.spineT.gaf = 1 - g.val ∧
        (s.gaf.spineP.gaf ≠ g.val ∨ s.paceRuns = false → t.lehr.gafRetire = none ∧
          (t.feed g.val).dom = .isolated)) ∧
      (e.net + 2 < s.gaf.spineT.missed → ∃ t, exec (.gafferRetireHandover dt .time) s = .next t ∧
        t.onlyChanges s []))) ∧
  (∀ (s : State) (dt : Nat) (m : Fin 20) (a n : Nat) (r : Byte),
    let here := s.awake = true ∧ s.hasDom (memDomain m.val) = true
    let up := fun (t : State) k => Tab.get 0 t.tly.live (tlFeed k) =
      min tlyMax (Tab.get 0 s.tly.live (tlFeed k) + 1)
    (here → 1 ≤ n → n ≤ 2 → ∃ t, exec (.scrubPass dt m a n) s = .next t ∧ up t (7 + 2 * m.val) ∧
      t.onlyChanges s [.tallies]) ∧
    (here → 2 < n → ∃ t, exec (.scrubPass dt m a n) s = .next t ∧ up t (8 + 2 * m.val)) ∧
    (here → ∃ t, exec (.memUncorr dt m a r) s = .next t ∧ up t (8 + 2 * m.val) ∧
      (m.val = 1 → (s.port (a / 2048 % 4096)).isSome = true → (a / 2048 % 4096) ∈ t.pd.bad) ∧
      (m.val = 2 → a % 16384 ∈ t.fab.ledger.bad ∧
        Tab.get 0 t.tly.live (tlFab 3) = min tlyMax (Tab.get 0 s.tly.live (tlFab 3) + 1)) ∧
      (m.val = 9 → s.tellerUp = true → t.sys.stage = .restart ∧ t.hif.ready = false) ∧
      (m.val = 10 → t.sec.restarting = true ∧ t.sec.ops = [] ∧ t.sec.stagedW = []) ∧
      (m.val = 19 → s.quiet = true → t.twin.epoch = none)) ∧
    (n = 0 ∨ ¬here → ∃ t, exec (.scrubPass dt m a n) s = .next t ∧ t.onlyChanges s []) ∧
    (¬here → ∃ t, exec (.memUncorr dt m a r) s = .next t ∧ t.onlyChanges s []))

/-- The lehr (R435 to R441, R443, R523). A run is made once its time has come and records the margins
read; a voltage-sensitive monitor below 30% raises its feed's request by one step of 5 mV within VMAX,
and a monitor that reads 30% or more leaves its unit; READ_VOUT within 10 mV of the request in time
confirms it, and otherwise the previous value is asked for again and the feed's steps stop until the
next run. -/
def Obligations.LehrRunsAndReports : Prop :=
  (∀ (s : State) (dt : Nat) (rs : List MarginReading),
    let e := s.elapse dt
    let due := s.tellerUp = true ∧ (s.lehr.lastNet = none ∨ s.lehr.lastAt + 600000000000 ≤ e.now)
    (due → ∃ t, exec (.lehrRun dt rs) s = .next t ∧
      Tab.get 0 t.tly.live (tlFeed 49) = min tlyMax (Tab.get 0 s.tly.live (tlFeed 49) + 1) ∧
      (rs = [] → t.lehr.lastNet = some e.net ∧ t.lehr.lastAt = e.now ∧ t.lehr.margin = s.lehr.margin) ∧
      (∀ r, rs = [r] → r.voltage = false → s.hasDom r.domain.val = true →
        s.isRetired r.unit.toNat = false → 30 ≤ r.margin → r.wornColumn = false → r.margin ≤ 100 →
        Tab.get 0 t.lehr.margin r.unit.toNat = r.margin + 1 ∧ t.lehr.spare = s.lehr.spare ∧
          t.sys.retired = s.sys.retired) ∧
      (∀ r, rs = [r] → r.voltage = true → r.margin < 30 → r.domain.val < 2 →
        s.live r.domain.val = true → s.isRetired r.unit.toNat = false →
        bit (fld s.lehr.conf 4 1) 0 = true → fld s.lehr.conf r.domain.val 1 ≠ 0xFF →
        (s.feed r.domain.val).warning = false → 800 ≤ (s.feed r.domain.val).vreq →
        (s.feed r.domain.val).vreq + 5 ≤ s.vmax → s.pend r.domain.val = none →
        Tab.get 0 t.lehr.margin r.unit.toNat = r.margin + 1 ∧
          (t.feed r.domain.val).vreq = (s.feed r.domain.val).vreq + 5 ∧
          t.pend r.domain.val = some { prev := (s.feed r.domain.val).vreq
                                       want := (s.feed r.domain.val).vreq + 5, at_ := e.now } ∧
          .pmbus r.domain.val ((s.feed r.domain.val).vreq + 5) ∈ t.sent ∧ t.lehr.spare = s.lehr.spare)) ∧
    (¬due → ∃ t, exec (.lehrRun dt rs) s = .next t ∧ t.onlyChanges s [])) ∧
  (∀ (s : State) (dt : Nat) (d : Fin 2) (ack : Bool) (mv word : U16),
    (s.pend d.val = none → ∃ t, exec (.voltageConfirm dt d ack mv word) s = .next t ∧
      t.onlyChanges s []) ∧
    (∀ p, s.pend d.val = some p →
      let e := s.elapse dt
      let near := ack = true ∧ mv.toNat ≤ p.want + 10 ∧ p.want ≤ mv.toNat + 10 ∧ e.now ≤ p.at_ + 5000000
      let res := fun (t : State) => if d.val = 0 then t.lehr.resA else t.lehr.resB
      (near → ∃ t, exec (.voltageConfirm dt d ack mv word) s = .next t ∧ t.pend d.val = none ∧
        res t = { want := p.want, read := mv.toNat, word := word.toNat, result := 0 } ∧
        Tab.get 0 t.tly.live (tlFeed 50) = min tlyMax (Tab.get 0 s.tly.live (tlFeed 50) + 1) ∧
        t.onlyChanges s [.lehr, .tallies]) ∧
      (¬near → ack = true → e.now < p.at_ + 5000000 →
        ∃ t, exec (.voltageConfirm dt d ack mv word) s = .next t ∧ t.onlyChanges s []) ∧
      (¬near → ack = false ∨ p.at_ + 5000000 ≤ e.now →
        ∃ t, exec (.voltageConfirm dt d ack mv word) s = .next t ∧ t.pend d.val = none ∧
          res t = { want := p.want, read := mv.toNat, word := word.toNat, result := if ack then 1 else 2 } ∧
          (t.feed d.val).vreq = p.prev ∧ t.feed (1 - d.val) = s.feed (1 - d.val) ∧
          Tab.get 0 t.lehr.vstop d.val = 1 ∧ .pmbus d.val p.prev ∈ t.sent))) ∧
  (∀ (s : State) (dt : Nat) (g : Fin 2),
    let e := s.elapse dt
    (∀ b, s.lehr.bankCopy = some b → s.par.activ = none → s.tellerUp = true →
      ∃ t, exec (.ledgerBankSwitch dt) s = .next t ∧ t.lehr = { s.lehr with bankCopy := none } ∧
        t.fab = { s.fab with ledger := { s.fab.ledger with
          bank := Tab.set 0 s.fab.ledger.bank b 17 } } ∧ t.onlyChanges s [.lehr, .fabric]) ∧
    (s.lehr.bankCopy = none ∨ s.par.activ ≠ none ∨ s.tellerUp = false →
      ∃ t, exec (.ledgerBankSwitch dt) s = .next t ∧ t.onlyChanges s []) ∧
    (s.tellerUp = true → s.live g.val = true → e.lehrOpen g.val = true →
      ∃ t, exec (.gafferWordRewrite dt g) s = .next t ∧
        t.lehr = { s.lehr with
          gafBad := s.lehr.gafBad.filter fun x => decide (x.1 / 2 ^ 32 ≠ g.val) } ∧
        t.onlyChanges s [.lehr]) ∧
    (s.tellerUp = false ∨ s.live g.val = false ∨ e.lehrOpen g.val = false →
      ∃ t, exec (.gafferWordRewrite dt g) s = .next t ∧ t.onlyChanges s [])) ∧
  (∀ (s : State) (dt : Nat) (r : Req), s.mbxFree → r.plain →
    let c := r.body.drop 4
    let o := fld r.body 0 4
    (r.body = [] → ∃ t b, exec (.mbFeedStatus dt r) s = .next t ∧ t.answered 0x0B01 r stOk b ∧
      b.length = 52 ∧
      fld b 0 1 = (if s.feedA.below then 2 else if s.feedA.warning then 1 else 0) ∧
      fld b 14 2 = s.feedA.vreq % 2 ^ 16 ∧ fld b 16 4 = s.feedA.warnings % 2 ^ 32 ∧
      fld b 20 4 = s.feedA.losses % 2 ^ 32 ∧
      fld b 24 1 = (if s.feedB.below then 2 else if s.feedB.warning then 1 else 0) ∧
      fld b 38 2 = s.feedB.vreq % 2 ^ 16 ∧ fld b 48 1 = s.gaf.spineT.gaf % 256 ∧
      t.feedA = { s.feedA with mins := [] } ∧ t.feedB = { s.feedB with mins := [] } ∧
      t.onlyChanges s (.clock :: .feeds :: answerParts)) ∧
    (r.body.length = 20 → o < 2 → fld r.body 8 1 < 2 → zeroAt r.body 9 11 = true →
      let ok := (fld c 0 1 < 128 ∨ fld c 0 1 = 255) ∧ (fld c 1 1 < 128 ∨ fld c 1 1 = 255) ∧
        800 ≤ fld c 2 2 ∧ fld c 2 2 ≤ 824 ∧ (fld c 4 1 = 1 → fld c 0 1 ≠ 255 ∨ fld c 1 1 ≠ 255)
      (¬ok → ∃ t, exec (.mbLehrConfig dt r) s = .next t ∧ t.answered 0x0B02 r stMalformed [] ∧
        t.onlyChanges s answerParts) ∧
      (ok → o = 1 → s.flashHeld = true → ∃ t, exec (.mbLehrConfig dt r) s = .next t ∧
        t.answered 0x0B02 r stBusy [] ∧ t.onlyChanges s answerParts) ∧
      (ok → o = 0 → ∃ t, exec (.mbLehrConfig dt r) s = .next t ∧ t.answered 0x0B02 r stOk c ∧
        t.lehr = { s.lehr with conf := c } ∧ t.onlyChanges s (.lehr :: answerParts)) ∧
      (ok → o = 1 → s.flashHeld = false → ∃ t, exec (.mbLehrConfig dt r) s = .next t ∧
        t.answered 0x0B02 r stOk c ∧ t.lehr = { s.lehr with conf := c } ∧
        Tab.get [] t.flash.conf cfLehr = c)) ∧
    (r.body.length = 4 → o = 2 → ∃ t, exec (.mbLehrConfig dt r) s = .next t ∧
      t.answered 0x0B02 r stOk s.lehr.conf ∧ t.onlyChanges s answerParts) ∧
    (r.body = [] →
      let us := (List.range 0x74).filter fun u => Tab.get 0 s.lehr.margin u ≠ 0 || s.isRetired u
      ∃ t b, exec (.mbLehrReport dt r) s = .next t ∧ t.answered 0x0B03 r stOk b ∧
        b.drop 36 = (us.map s.unitBytes).flatten ∧ fld b 32 2 = us.length ∧
        slice b 0 12 = (match s.lehr.lastNet with | some n => secNs n | none => zeros 12) ∧
        slice b 16 7 = le 2 s.lehr.resA.want ++ le 2 s.lehr.resA.read ++ le 2 s.lehr.resA.word ++
          le 1 s.lehr.resA.result ∧ t.onlyChanges s answerParts))

/-! ### The forerunner bridge (chapter 14) -/

/-- Inbound transfers (R454 to R459, R464, R469 to R471). An inbound write is posted, or answered with
RETRY while 16 are held or the bridge wants the bus; it reaches its target in order or is logged where
the target is absent. A read allocates a slot and is answered with RETRY until its data stand there; a
held read of an ordinary window stays for the next one, a SIDE_EFFECT one is used once and logged when
its hold ends unread. A page swap changes CUR and SWAP. The lock is freed by FLB_LOCK_N or after
LOCK_US. -/
def Obligations.FlbInboundTransfers : Prop :=
  (∀ (s : State) (dt : Nat) (addr : BitVec 24) (be : BitVec 2) (d : U16) (lock : Bool) (w : List Byte),
    let e := s.elapse dt
    let a := addr.toNat / 2 * 2
    let up := fun (t : State) k => Tab.get 0 t.tly.live (tlFlb k) =
      min tlyMax (Tab.get 0 s.tly.live (tlFlb k) + 1)
    let mine := s.quiet = false ∧ s.bridge.granted = false ∧ s.inWindow a = some w ∧ s.sys.stage = .up ∧
      s.seeds.armed = []
    let free := lock = false ∨ s.bridge.sema = none ∨ (∃ x, s.bridge.sema = some x ∧ x.win = wIndex w)
    let run := exec (.flbInboundWrite dt addr be d lock) s
    let read := exec (.flbInboundRead dt addr be lock) s
    (mine → s.bridge.request = true → ∃ t, run = .next t ∧ up t 5 ∧ t.bridge.inW = s.bridge.inW ∧
      t.sent = s.sent ++ [.value (ev 14 1) 0]) ∧
    (mine → s.bridge.request = false → ¬free → ∃ t, run = .next t ∧ up t 7 ∧
      t.bridge.inW = s.bridge.inW ∧ t.sent = s.sent ++ [.value (ev 14 1) 0]) ∧
    (mine → s.bridge.request = false → free → be ≠ 0 → 16 ≤ s.bridge.inW.length →
      ∃ t, run = .next t ∧ up t 4 ∧ t.bridge.inW = s.bridge.inW ∧
        t.sent = s.sent ++ [.value (ev 14 1) 0]) ∧
    (mine → s.bridge.request = false → free → be ≠ 0 → s.bridge.inW.length < 16 →
      ∃ t, run = .next t ∧ up t 1 ∧ t.bridge.inW = s.bridge.inW ++ [{
          win := wIndex w, conf := w, addr := a, be := be.toNat, data := d.toNat, readyAt := e.now }] ∧
        t.sent = s.sent ++ [.value (ev 14 0) 0] ∧
        (lock = false → t.bridge.sema = none) ∧
        (lock = true → s.bridge.sema = none →
          t.bridge.sema = some { win := wIndex w, addr := a, at_ := e.now }) ∧
        t.onlyChanges s [.bridge, .tallies, .outputs]) ∧
    (s.quiet = true ∨ s.bridge.granted = true ∨ s.inWindow a = none → lock = true →
      (∃ t, run = .next t ∧ t.onlyChanges s []) ∧ ∃ t, read = .next t ∧ t.onlyChanges s []) ∧
    (mine → s.bridge.request = false → free → be ≠ 0 → s.bridge.slots = [] →
      ∃ t, read = .next t ∧ t.sent = s.sent ++ [.value (ev 14 1) 0] ∧
        Tab.get none t.bridge.slots 0 = some {
          win := wIndex w, conf := w, addr := a, be := be.toNat, isHeld := false, failed := false
          bytes := [], endAt := 0, doomed := false, waitFor := s.bridge.inW.length, readyAt := e.now } ∧
        t.onlyChanges s [.bridge, .outputs]) ∧
    (∀ x, mine → s.bridge.request = false → free → be ≠ 0 → s.bridge.slots = [(0, some x)] →
      x.hits w a be.toNat = true →
      (x.isHeld = false → ∃ t, read = .next t ∧ up t 2 ∧ t.bridge.slots = s.bridge.slots ∧
        t.sent = s.sent ++ [.value (ev 14 1) 0]) ∧
      (x.isHeld = true → e.now < x.endAt → x.failed = true → ∃ t, read = .next t ∧
        Tab.get none t.bridge.slots 0 = none ∧ t.sent = s.sent ++ [.value (ev 14 2) 0]) ∧
      (x.isHeld = true → e.now < x.endAt → x.failed = false → ∃ t, read = .next t ∧ up t 0 ∧
        Tab.get none t.bridge.slots 0 = (if wSide w then none else some x) ∧
        t.sent = s.sent ++ [.value (ev 14 0) (x.word a be.toNat)])) ∧
    (mine → s.bridge.request = true → ∃ t, read = .next t ∧ up t 5 ∧ t.bridge.slots = s.bridge.slots ∧
      t.sent = s.sent ++ [.value (ev 14 1) 0])) ∧
  (∀ (s : State) (dt : Nat) (x : InWrite) (l : List InWrite), s.bridge.inW = x :: l →
    let e := s.elapse dt
    let o := x.addr - wBase x.conf
    (e.now < x.readyAt → (∃ t, exec (.flbWriteDelivery dt) s = .next t ∧ t.onlyChanges s []) ∧
      ∃ t, exec (.pageSwap dt) s = .next t ∧ t.onlyChanges s []) ∧
    (x.readyAt ≤ e.now → s.winAbsent x.conf = true → s.bridge.dish.length < 64 →
      ∃ t, exec (.flbWriteDelivery dt) s = .next t ∧ t.bridge.inW = l ∧
        t.bridge.dish = s.bridge.dish ++ [{
          kind := 2, cause := 4, win := x.win, be := x.be, addr := x.addr, data := x.data
          net := e.net, num := s.bridge.dishNext }]) ∧
    (x.readyAt ≤ e.now → wSpace x.conf = 1 → 0x800 ≤ o → (o - 0x800) / (2 * wPage x.conf) < wPages x.conf →
      s.pageMap 3 ((o - 0x800) / (2 * wPage x.conf)) = none →
      ∃ t, exec (.flbWriteDelivery dt) s = .next t ∧ t.bridge.inW = l ∧
        (enabled x.be 0 = true → memGet t.bridge.store o = dByte x.data 0) ∧
        (enabled x.be 1 = true → memGet t.bridge.store (o + 1) = dByte x.data 1) ∧
        (∀ k, k ≠ o → k ≠ o + 1 → memGet t.bridge.store k = memGet s.bridge.store k) ∧
        t.onlyChanges s [.bridge]) ∧
    (e.isSwap x = false → ∃ t, exec (.pageSwap dt) s = .next t ∧ t.onlyChanges s []) ∧
    (x.readyAt ≤ e.now → e.isSwap x = true → o / 2 < wPages x.conf → s.pageMap 3 (o / 2) = none →
      ∃ t, exec (.pageSwap dt) s = .next t ∧ t.bridge.inW = l ∧
        t.pageCur (o / 2) = (dByte x.data 0).toNat / 128 ∧
        t.pageSwaps (o / 2) = (s.pageSwaps (o / 2) + 1) % 256)) ∧
  (∀ (s : State) (dt : Nat) (k : Fin 4), s.bridge.inW = [] →
    let e := s.elapse dt
    (∃ t, exec (.flbWriteDelivery dt) s = .next t ∧ t.onlyChanges s []) ∧
    (∃ t, exec (.pageSwap dt) s = .next t ∧ t.onlyChanges s []) ∧
    (Tab.get none s.bridge.slots k.val = none →
      (∃ t, exec (.flbFetchComplete dt k) s = .next t ∧ t.onlyChanges s []) ∧
      ∃ t, exec (.flbSlotExpiry dt k) s = .next t ∧ t.onlyChanges s []) ∧
    (∀ x, Tab.get none s.bridge.slots k.val = some x →
      (x.isHeld = true ∨ x.waitFor ≠ 0 ∨ e.now < x.readyAt →
        ∃ t, exec (.flbFetchComplete dt k) s = .next t ∧ t.onlyChanges s []) ∧
      (x.isHeld = false → x.waitFor = 0 → x.readyAt ≤ e.now → wSpace x.conf = 1 → wSide x.conf = false →
        x.doomed = false → ∃ t, exec (.flbFetchComplete dt k) s = .next t ∧
          Tab.get none t.bridge.slots k.val = some { x with
            isHeld := true, endAt := e.now + 64000
            bytes := (List.range 32).map fun j =>
              memGet s.bridge.store ((x.addr - wBase x.conf) / 32 * 32 + j) } ∧
          t.onlyChanges s [.bridge]) ∧
      (x.isHeld = false ∨ e.now < x.endAt →
        ∃ t, exec (.flbSlotExpiry dt k) s = .next t ∧ t.onlyChanges s []) ∧
      (x.isHeld = true → x.endAt ≤ e.now → ∃ t, exec (.flbSlotExpiry dt k) s = .next t ∧
        Tab.get none t.bridge.slots k.val = none ∧
        (wSide x.conf = true → x.failed = false →
          Tab.get 0 t.tly.live (tlFlb 6) = min tlyMax (Tab.get 0 s.tly.live (tlFlb 6) + 1)) ∧
        (wSide x.conf = false → t.onlyChanges s [.bridge])))) ∧
  (∀ (s : State) (dt : Nat),
    let e := s.elapse dt
    (∃ t, exec (.flbLockRelease dt) s = .next t ∧ t.bridge = { s.bridge with sema := none } ∧
      t.onlyChanges s [.bridge]) ∧
    (∀ x, s.bridge.sema = some x →
      let at_ := x.at_ + fld s.bridge.conf 6 2 * 1000
      (at_ ≤ e.now → ∃ t, exec (.flbLock dt) s = .next t ∧ t.bridge = { s.bridge with sema := none } ∧
        Tab.get 0 t.tly.live (tlFlb 8) = min tlyMax (Tab.get 0 s.tly.live (tlFlb 8) + 1) ∧
        t.onlyChanges s (.bridge :: eventParts)) ∧
      (e.now < at_ → ∃ t, exec (.flbLock dt) s = .next t ∧ t.onlyChanges s [])) ∧
    (s.bridge.sema = none → ∃ t, exec (.flbLock dt) s = .next t ∧ t.onlyChanges s []) ∧
    (s.tsWindow = none → ∃ t, exec (.trafficStorePresentation dt) s = .next t ∧ t.onlyChanges s []) ∧
    (∀ w, s.tsWindow = some w → wPeriod w ≠ 0 →
      let b := (e.net + 2) / wPeriod w * wPeriod w
      (b + 2 < e.net ∨ b ≤ s.bridge.presented →
        ∃ t, exec (.trafficStorePresentation dt) s = .next t ∧ t.onlyChanges s []) ∧
      (e.net ≤ b + 2 → s.bridge.presented < b →
        ∃ t, exec (.trafficStorePresentation dt) s = .next t ∧ t.bridge.presented = b ∧
          t.bridge.inW = s.bridge.inW ∧
          ((∀ m ∈ s.maps, mKind m ≠ 3) → t.bridge.store = s.bridge.store ∧ t.onlyChanges s [.bridge]))))

/-- Outbound transfers and the bridge's commands (R448, R461 to R468, R523). A grant starts the first
transfer; DTACK ends it, ERR and a timeout fail it with their cause, RETRY gives the bus back until the
retry limit. Side-band edges and polled changes are counted as configured. The mailbox takes the bridge
record, reads the dishonour log oldest first, and reads and writes words within outbound windows. -/
def Obligations.FlbOutboundAndCommands : Prop :=
  (∀ (s : State) (dt : Nat),
    let e := s.elapse dt
    (∀ x l, s.bridge.request = true → s.quiet = false → s.bridge.out = x :: l → s.seeds.armed = [] →
      ∃ t, exec (.flbBusGrant dt) s = .next t ∧ t.bridge = { s.bridge with
          granted := true, request := false, ran := 0, startAt := e.now } ∧
        t.sent = s.sent ++ [.flb x.addr x.write (le 1 x.be ++ le 2 x.data)] ∧
        t.onlyChanges s [.bridge, .outputs]) ∧
    (s.bridge.request = false ∨ s.quiet = true →
      ∃ t, exec (.flbBusGrant dt) s = .next t ∧ t.onlyChanges s [])) ∧
  (∀ (s : State) (dt : Nat) (x : OutXfer) (l : List OutXfer) (d : U16), s.bridge.out = x :: l →
    s.seeds.armed = [] →
    let e := s.elapse dt
    let up := fun (t : State) k => Tab.get 0 t.tly.live (tlFlb k) =
      min tlyMax (Tab.get 0 s.tly.live (tlFlb k) + 1)
    let failed := fun (t : State) cause => up t 11 ∧ t.bridge.out = l ∧
      (s.bridge.dish.length < 64 → t.bridge.dish = s.bridge.dish ++ [{
        kind := 1, cause := cause, win := x.win, be := x.be, addr := x.addr, data := x.data
        net := e.net, num := s.bridge.dishNext }])
    let ended := fun (t : State) =>
      (s.bridge.ran + 1 < fld s.bridge.conf 4 1 → l ≠ [] → t.bridge.granted = true) ∧
      (fld s.bridge.conf 4 1 ≤ s.bridge.ran + 1 ∨ l = [] → t.bridge.granted = false ∧
        t.bridge.request = (!l.isEmpty && !s.quiet))
    let on := s.bridge.granted = true ∧ s.bridge.startAt ≤ e.now
    (on → x.write = true → ∃ t, exec (.flbOutboundResponse dt .dtack d) s = .next t ∧ up t 9 ∧
      t.bridge.out = l ∧ t.bridge.dish = s.bridge.dish ∧ ended t) ∧
    (on → x.write = false → (∃ y ∈ l, y.write = false) →
      ∃ t, exec (.flbOutboundResponse dt .dtack d) s = .next t ∧ up t 10 ∧ t.bridge.out = l ∧ ended t ∧
        (enabled x.be 0 = true → Tab.get 0 t.bridge.gather x.addr = dByte d.toNat 0) ∧
        (enabled x.be 1 = true → Tab.get 0 t.bridge.gather (x.addr + 1) = dByte d.toNat 1)) ∧
    (on → x.write = true → ∃ t, exec (.flbOutboundResponse dt .err d) s = .next t ∧ failed t 1 ∧ ended t) ∧
    (on → x.write = true → fld s.bridge.conf 5 1 ≤ x.retries + 1 →
      ∃ t, exec (.flbOutboundResponse dt .retry d) s = .next t ∧ failed t 3) ∧
    (on → x.retries + 1 < fld s.bridge.conf 5 1 →
      ∃ t, exec (.flbOutboundResponse dt .retry d) s = .next t ∧
        t.bridge = { s.bridge with
          out := { x with retries := x.retries + 1 } :: l, granted := false, request := !s.quiet } ∧
        t.onlyChanges s [.bridge]) ∧
    (¬on → ∀ resp, ∃ t, exec (.flbOutboundResponse dt resp d) s = .next t ∧ t.onlyChanges s []) ∧
    (s.bridge.granted = true → s.bridge.startAt + x.timeout * 1000 ≤ e.now → x.write = true →
      ∃ t, exec (.flbOutboundTimeout dt) s = .next t ∧ failed t 2) ∧
    (s.bridge.granted = false ∨ e.now < s.bridge.startAt + x.timeout * 1000 →
      ∃ t, exec (.flbOutboundTimeout dt) s = .next t ∧ t.onlyChanges s [])) ∧
  (∀ (s : State) (dt : Nat) (resp : FlbResp) (d : U16), s.bridge.out = [] →
    (∃ t, exec (.flbOutboundResponse dt resp d) s = .next t ∧ t.onlyChanges s []) ∧
    ∃ t, exec (.flbOutboundTimeout dt) s = .next t ∧ t.onlyChanges s []) ∧
  (∀ (s : State) (dt : Nat) (n : Fin 4) (level : Bool),
    let edge := bits (fld s.bridge.conf 2 1) (2 * n.val + 1) (2 * n.val)
    let counts := (level = true ∧ bit edge 0 = true) ∨ (level = false ∧ bit edge 1 = true)
    (bit s.bridge.sb n.val = level →
      ∃ t, exec (.flbSideband dt n level) s = .next t ∧ t.onlyChanges s []) ∧
    (bit s.bridge.sb n.val ≠ level → ∃ t, exec (.flbSideband dt n level) s = .next t ∧
      t.bridge = { s.bridge with
        sb := if level then s.bridge.sb + 2 ^ n.val else s.bridge.sb - 2 ^ n.val } ∧
      (counts → Tab.get 0 t.tly.live (tlFlb (13 + n.val)) =
        min tlyMax (Tab.get 0 s.tly.live (tlFlb (13 + n.val)) + 1)) ∧
      (¬counts → t.onlyChanges s [.bridge]) ∧ t.onlyChanges s (.bridge :: eventParts))) ∧
  (∀ (s : State) (dt : Nat) (k : Fin 8) (res : Option U16) (cause : Fin 3) (w : List Byte),
    let e := s.elapse dt
    let rec_ := slice s.bridge.conf (8 + 8 * k.val) 8
    let a := fld rec_ 0 4
    let due := a ≠ 0xFFFFFFFF ∧ s.quiet = false ∧ (∀ x ∈ s.bridge.out, x.write = false) ∧
      Tab.get 0 s.bridge.pollAt k.val + fld s.bridge.conf 0 2 * 1000000 ≤ e.now
    let up := fun (t : State) j => Tab.get 0 t.tly.live (tlFlb j) =
      min tlyMax (Tab.get 0 s.tly.live (tlFlb j) + 1)
    (¬due → ∃ t, exec (.flbPoll dt k res cause) s = .next t ∧ t.onlyChanges s []) ∧
    (due → s.outWindow a = some w → res = none → ∃ t, exec (.flbPoll dt k res cause) s = .next t ∧
      up t 17 ∧ t.bridge.polls = s.bridge.polls ∧
      t.bridge.pollAt = Tab.set 0 s.bridge.pollAt k.val e.now) ∧
    (∀ v, due → s.outWindow a = some w → res = some v → ∃ t, exec (.flbPoll dt k res cause) s = .next t ∧
      up t 10 ∧ t.bridge = { s.bridge with
        polls := Tab.set none s.bridge.polls k.val (some (v.toNat &&& fld rec_ 4 2))
        pollAt := Tab.set 0 s.bridge.pollAt k.val e.now } ∧
      (Tab.get none s.bridge.polls k.val = none ∨
        Tab.get none s.bridge.polls k.val = some (v.toNat &&& fld rec_ 4 2) →
          t.onlyChanges s [.bridge, .tallies]))) ∧
  (∀ (s : State) (dt : Nat) (r : Req), s.mbxFree → r.plain →
    let e := s.elapse dt
    let c := r.body.drop 4
    let o := fld r.body 0 4
    (r.body.length = 84 → o < 2 → bridgeRsv c = true →
      (bridgeOk c = false → ∃ t, exec (.mbBridgeConfig dt r) s = .next t ∧
        t.answered 0x0C01 r stMalformed [] ∧ t.onlyChanges s answerParts) ∧
      (bridgeOk c = true → o = 0 → ∃ t, exec (.mbBridgeConfig dt r) s = .next t ∧
        t.answered 0x0C01 r stOk c ∧ t.bridge = { s.bridge with conf := c } ∧
        t.onlyChanges s (.bridge :: answerParts)) ∧
      (bridgeOk c = true → o = 1 → s.flashHeld = false → ∃ t, exec (.mbBridgeConfig dt r) s = .next t ∧
        t.answered 0x0C01 r stOk c ∧ t.bridge = { s.bridge with conf := c } ∧
        Tab.get [] t.flash.conf cfBridge = c) ∧
      (bridgeOk c = true → o = 1 → s.flashHeld = true → ∃ t, exec (.mbBridgeConfig dt r) s = .next t ∧
        t.answered 0x0C01 r stBusy [] ∧ t.onlyChanges s answerParts)) ∧
    (r.body.length = 4 → o = 2 → ∃ t, exec (.mbBridgeConfig dt r) s = .next t ∧
      t.answered 0x0C01 r stOk s.bridge.conf ∧ t.onlyChanges s answerParts) ∧
    (r.body.length = 4 → zeroAt r.body 1 3 = true →
      let n := fld r.body 0 1
      let got := s.bridge.dish.take n
      (1 ≤ n → n ≤ 16 → ∃ t, exec (.mbDishonourRead dt r) s = .next t ∧
        t.answered 0x0C04 r stOk (le 1 got.length ++ zeros 3 ++ (got.map Dish.bytes).flatten) ∧
        t.bridge = { s.bridge with dish := s.bridge.dish.drop n } ∧
        t.onlyChanges s (.bridge :: answerParts)) ∧
      (n = 0 ∨ 16 < n → ∃ t, exec (.mbDishonourRead dt r) s = .next t ∧
        t.answered 0x0C04 r stMalformed [] ∧ t.onlyChanges s answerParts)) ∧
    (∀ w, r.body.length = 16 → zeroAt r.body 9 3 = true → o = 0 → s.quiet = false →
      s.outWindow (fld r.body 4 4) = some w → accessOk (fld r.body 4 4) (fld r.body 8 1) = true →
      let ps := pieces w (fld r.body 4 4) (fld r.body 8 1) (slice r.body 12 (fld r.body 8 1))
      let full := 32 < (s.bridge.out.filter (·.write)).length + ps.length
      (full → ∃ t, exec (.mbFlbWrite dt r) s = .next t ∧ t.answered 0x0C03 r stFull [] ∧
        t.onlyChanges s answerParts) ∧
      (¬full → ∃ t, exec (.mbFlbWrite dt r) s = .next t ∧ t.answered 0x0C03 r stOk [] ∧
        t.bridge.out = s.bridge.out ++ ps.map (fun p => {
          win := wIndex w, addr := p.1, write := true, be := p.2.1, data := p.2.2
          timeout := fld w 20 2, retries := 0 }) ∧
        (s.bridge.granted = false → t.bridge.request = true) ∧
        t.onlyChanges s (.bridge :: answerParts))) ∧
    (∀ w, r.body.length = 12 → zeroAt r.body 9 3 = true →
      let a := fld r.body 4 4
      let n := fld r.body 8 1
      (accessOk a n = false → o < 2 → ∃ t, exec (.mbFlbRead dt r) s = .next t ∧
        t.answered 0x0C02 r stMalformed [] ∧ t.onlyChanges s answerParts) ∧
      (accessOk a n = true → o = 0 → s.quiet = false → s.outWindow a = some w →
        ∃ t, exec (.mbFlbRead dt r) s = .next t ∧ t.hif.exec = true ∧ t.hif.respValid = false ∧
          t.bridge.out = s.bridge.out ++ (pieces w a n []).map (fun p => {
            win := wIndex w, addr := p.1, write := false, be := p.2.1, data := p.2.2
            timeout := fld w 20 2, retries := 0 }) ∧
          (s.bridge.granted = false → t.bridge.request = true)) ∧
      (accessOk a n = true → o = 0 → s.quiet = true ∨ s.outWindow a = none →
        ∃ t, exec (.mbFlbRead dt r) s = .next t ∧ t.answered 0x0C02 r stDenied [] ∧
          t.onlyChanges s answerParts) ∧
      (accessOk a n = true → o = 1 → s.inWindow a = some w → s.semaHeld w = false →
        wSpace w = 1 ∨ wSpace w = 2 → s.winAbsent w = false → ∃ t, exec (.mbFlbRead dt r) s = .next t ∧
          t.answered 0x0C02 r stOk (e.insideRead w a n).1)))

/-! ### The vault and keying (chapter 15, R473) -/

/-- The vault's commands (R473, R480 to R488, R490 to R492, R497, R499 to R502, R504). A warrant is
staged in order, checked once, and gone with its nonce whatever the outcome; only a good one changes
the record. Enrolment takes the root key and makes the identity; a quote is signed and then read. A
TRNG that fails a health test refuses what needs randomness. -/
def Obligations.VaultCommands : Prop :=
  (∀ (s : State) (dt : Nat) (r : Req), s.mbxFree → r.plain → zeroAt r.body 1 3 = true →
    let e := s.elapse dt
    let o := fld r.body 4 4
    let data := r.body.drop 8
    let w := s.sec.stagedW
    let arg := slice w 0x30 64
    let good := fun ops f => e.warrantGood ops f
    (r.body.length = 8 →
      (s.sec.trngFailed = false → ∃ t, exec (.warrantChallenge dt r) s = .next t ∧
        t.answered 0x0D02 r stOk (padTo 0 16 (Config.drbg s.sec.draws 16)) ∧
        t.sec.nonce = some (padTo 0 16 (Config.drbg s.sec.draws 16)) ∧
        t.sec.draws = s.sec.draws + 1 ∧ t.sec.stagedW = w ∧ t.onlyChanges s (.vault :: answerParts)) ∧
      (s.sec.trngFailed = true → ∃ t, exec (.warrantChallenge dt r) s = .next t ∧
        t.answered 0x0D02 r stDenied [] ∧ t.onlyChanges s answerParts) ∧
      (∃ t, exec (.warrantClear dt r) s = .next t ∧ t.answered 0x0D02 r stOk [] ∧
        t.sec = { s.sec with stagedW := [] } ∧ t.onlyChanges s (.vault :: answerParts))) ∧
    (8 < r.body.length →
      (o = 0 → data.length ≤ 7984 → ∃ t, exec (.warrantStage dt r) s = .next t ∧
        t.answered 0x0D02 r stOk [] ∧ t.sec = { s.sec with stagedW := data } ∧
        t.onlyChanges s (.vault :: answerParts)) ∧
      (o ≠ 0 → o = w.length → o + data.length ≤ 7984 → ∃ t, exec (.warrantStage dt r) s = .next t ∧
        t.answered 0x0D02 r stOk [] ∧ t.sec = { s.sec with stagedW := w ++ data } ∧
        t.onlyChanges s (.vault :: answerParts)) ∧
      (o ≠ 0 → o ≠ w.length ∨ 7984 < o + data.length → ∃ t, exec (.warrantStage dt r) s = .next t ∧
        t.answered 0x0D02 r stMalformed [] ∧ t.onlyChanges s answerParts)) ∧
    (r.body.length = 8 →
      let f := fun (a : List Byte) => if fld w 6 2 = 2 then allZero (a.drop 1)
        else fld a 0 1 < 3 && zeroAt a 1 3 && allZero (a.drop 8)
      (good [2, 6] f = false → ∃ t, exec (.warrantApply dt r) s = .next t ∧
        t.answered 0x0D02 r stWarrant [] ∧ t.sec = { s.sec with stagedW := [], nonce := none } ∧
        Tab.get 0 t.tly.live (tlSec 1) = min tlyMax (Tab.get 0 s.tly.live (tlSec 1) + 1) ∧
        t.onlyChanges s (.vault :: mailParts)) ∧
      (good [2, 6] f = true → s.sec.genUsed < 1024 → s.sec.recordBad = false →
        (fld w 6 2 = 2 → fld arg 0 1 = 3 → s.sec.life = 1 ∨ s.sec.life = 2 →
          ∃ t, exec (.warrantApply dt r) s = .next t ∧ t.answered 0x0D02 r stOk [] ∧ t.sec.life = 3 ∧
            t.sec.stagedW = [] ∧ t.sec.nonce = none ∧ t.sec.genUsed = s.sec.genUsed + 1) ∧
        (fld w 6 2 = 2 → s.sec.life = 0 ∨ fld arg 0 1 = s.sec.life ∨ fld arg 0 1 < 2 →
          ∃ t, exec (.warrantApply dt r) s = .next t ∧ t.answered 0x0D02 r stDenied [] ∧
            t.sec = { s.sec with stagedW := [], nonce := none }) ∧
        (fld w 6 2 = 6 → ∃ t, exec (.warrantApply dt r) s = .next t ∧ t.answered 0x0D02 r stOk [] ∧
          (fld arg 0 1 = 0 → t.sec.fw = fld arg 4 4 ∧ t.sec.par = s.sec.par) ∧
          (fld arg 0 1 = 1 → t.sec.par = fld arg 4 4 ∧ t.sec.fw = s.sec.fw) ∧
          t.sec.life = s.sec.life ∧ t.sec.stagedW = [] ∧ t.sec.nonce = none))) ∧
    (r.body.length = 8 →
      let root := slice w 0x30 32
      let ok := s.sec.life = 0 ∧ s.sec.trngFailed = false ∧ s.sec.rootPk = none ∧
        s.sec.genUsed < 1024 ∧ s.sec.recordBad = false
      let enrol := good [1] fun a => allZero (a.drop 32)
      (enrol = false → ∃ t, exec (.enrolGenerate dt r) s = .next t ∧ t.answered 0x0D01 r stWarrant [] ∧
        t.sec = { s.sec with stagedW := [], nonce := none }) ∧
      (enrol = true → ¬ok → ∃ t, exec (.enrolGenerate dt r) s = .next t ∧
        t.answered 0x0D01 r stDenied [] ∧ t.sec = { s.sec with stagedW := [], nonce := none }) ∧
      (enrol = true → ok → ∃ t, exec (.enrolGenerate dt r) s = .next t ∧
        t.answered 0x0D01 r stOk (uidBytes ++ macBytes Config.nodeMac ++ zeros 2 ++
          padTo 0 32 (Config.idPublic (Config.drbg s.sec.draws 48))) ∧
        t.sec.rootPk = some root ∧ t.sec.idSeed = some (Config.drbg s.sec.draws 48) ∧ t.sec.life = 1 ∧
        t.sec.genUsed = s.sec.genUsed + 1)) ∧
    (r.body.length = 8 →
      (s.flash.cert ≠ [] → ∃ t, exec (.enrolReadCert dt r) s = .next t ∧ t.answered 0x0D01 r stOk
        (le 4 s.flash.cert.length ++ slice s.flash.cert o 4000) ∧ t.onlyChanges s answerParts) ∧
      (s.flash.cert = [] → ∃ t, exec (.enrolReadCert dt r) s = .next t ∧
        t.answered 0x0D01 r stDenied [] ∧ t.onlyChanges s answerParts)) ∧
    (8 < r.body.length →
      let all := if o = 0 then data else s.sec.stagedC ++ data
      let fits := o = 0 ∨ o = s.sec.stagedC.length
      let pk := match s.sec.idSeed with | some d => padTo 0 32 (Config.idPublic d) | none => []
      let sound := s.certOk all = true ∧ slice all 8 16 = uidBytes ∧ slice all 0x18 32 = pk ∧
        slice all 0x38 6 = macBytes Config.nodeMac
      (s.flashHeld = true → ∃ t, exec (.enrolCert dt r) s = .next t ∧ t.answered 0x0D01 r stBusy [] ∧
        t.onlyChanges s answerParts) ∧
      (s.flashHeld = false → ¬fits ∨ 7936 < all.length → ∃ t, exec (.enrolCert dt r) s = .next t ∧
        t.answered 0x0D01 r stMalformed [] ∧ t.onlyChanges s answerParts) ∧
      (s.flashHeld = false → fits → all.length < 7936 → ∃ t, exec (.enrolCert dt r) s = .next t ∧
        t.answered 0x0D01 r stOk [] ∧ t.sec = { s.sec with stagedC := all } ∧
        t.onlyChanges s (.vault :: answerParts)) ∧
      (s.flashHeld = false → fits → all.length = 7936 → sound →
        ∃ t, exec (.enrolCert dt r) s = .next t ∧ t.answered 0x0D01 r stOk [] ∧
          t.flash = { s.flash with cert := all } ∧ t.sec = { s.sec with stagedC := [] } ∧
          t.onlyChanges s (.vault :: .flash :: answerParts)) ∧
      (s.flashHeld = false → fits → all.length = 7936 → ¬sound →
        ∃ t, exec (.enrolCert dt r) s = .next t ∧ t.answered 0x0D01 r stDenied [] ∧
          t.sec = { s.sec with stagedC := [] } ∧ t.onlyChanges s (.vault :: answerParts)))) ∧
  (∀ (s : State) (dt : Nat) (r : Req), s.mbxFree → r.plain → r.body.length = 40 →
    zeroAt r.body 1 3 = true → s.sec.life ≠ 0 → s.sec.quotePend = none →
    let e := s.elapse dt
    (s.sec.trngFailed = false → ∃ t, exec (.attestSign dt r) s = .next t ∧
      t.answered 0x0D03 r stOk [] ∧
      t.sec = { s.sec with
        quote := [], quotePend := some (e.quoteHead (slice r.body 8 32))
        ops := s.sec.ops ++ [(⟨25, 5⟩ : VaultOp)] } ∧ t.onlyChanges s (.vault :: answerParts)) ∧
    (s.sec.trngFailed = true → ∃ t, exec (.attestSign dt r) s = .next t ∧
      t.answered 0x0D03 r stDenied [] ∧ t.onlyChanges s answerParts) ∧
    (zeroAt r.body 8 32 = true → s.sec.quote ≠ [] → ∃ t, exec (.attestRead dt r) s = .next t ∧
      t.answered 0x0D03 r stOk (le 4 17312 ++ slice s.sec.quote (fld r.body 4 4) 4000) ∧
      t.onlyChanges s answerParts) ∧
    (zeroAt r.body 8 32 = true → s.sec.quote = [] → ∃ t, exec (.attestRead dt r) s = .next t ∧
      t.answered 0x0D03 r stDenied [] ∧ t.onlyChanges s answerParts)) ∧
  (∀ (s : State) (dt : Nat) (r : Req), s.mbxFree → r.plain →
    let e := s.elapse dt
    let c := r.body.drop 4
    let o := fld r.body 0 4
    (r.body.length = 20 → o = 0 → zeroAt r.body 10 10 = true →
      let ok := fld c 0 4 < 2 ^ 25 ∧ 1 ≤ fld c 4 2 ∧ fld c 4 2 ≤ 168
      let refused := fld c 0 4 ≠ 0 ∧ s.sec.life = 2
      (refused → ∃ t, exec (.mbLinkPolicy dt r) s = .next t ∧ t.answered 0x0D04 r stDenied [] ∧
        t.onlyChanges s answerParts) ∧
      (¬refused → ¬ok → ∃ t, exec (.mbLinkPolicy dt r) s = .next t ∧
        t.answered 0x0D04 r stMalformed [] ∧ t.onlyChanges s answerParts) ∧
      (¬refused → ok → s.flashHeld = true → ∃ t, exec (.mbLinkPolicy dt r) s = .next t ∧
        t.answered 0x0D04 r stBusy [] ∧ t.onlyChanges s answerParts) ∧
      (¬refused → ok → s.flashHeld = false → s.sec.genUsed < 1024 → s.sec.recordBad = false →
        ∃ t, exec (.mbLinkPolicy dt r) s = .next t ∧ t.answered 0x0D04 r stOk c ∧
          t.sec.policy = c ∧ t.sec.life = s.sec.life ∧ t.sec.links = s.sec.links ∧
          t.onlyChanges s (.vault :: mailParts))) ∧
    (r.body.length = 4 → o = 2 → ∃ t, exec (.mbLinkPolicy dt r) s = .next t ∧
      t.answered 0x0D04 r stOk s.sec.policy ∧ t.onlyChanges s answerParts) ∧
    (r.body.length = 4 → zeroAt r.body 1 3 = true →
      let rev := fld r.body 0 1
      let good := e.warrantGood [3] fun a => fld a 0 1 = rev && allZero (a.drop 1)
      let listed := rev = 0 ∨ (fwLists (zeros 32 ++ s.sys.revisions) rev = true ∧
        ∀ m ∈ s.minBehavs, m ≤ rev)
      (rev = 255 → ∃ t, exec (.mbPinBehaviour dt r) s = .next t ∧ t.answered 0x0C05 r stMalformed [] ∧
        t.onlyChanges s answerParts) ∧
      (rev ≠ 255 → good = false → ∃ t, exec (.mbPinBehaviour dt r) s = .next t ∧
        t.answered 0x0C05 r stWarrant [] ∧ t.sec = { s.sec with stagedW := [], nonce := none }) ∧
      (rev ≠ 255 → good = true → ¬listed → ∃ t, exec (.mbPinBehaviour dt r) s = .next t ∧
        t.answered 0x0C05 r stDenied [] ∧ t.sec = { s.sec with stagedW := [], nonce := none }) ∧
      (rev ≠ 255 → good = true → listed → s.flashHeld = false → s.sec.genUsed < 1024 →
        s.sec.recordBad = false → ∃ t, exec (.mbPinBehaviour dt r) s = .next t ∧
          t.answered 0x0C05 r stOk [] ∧ t.sec.pin = rev ∧ t.sec.life = s.sec.life ∧
          t.sec.stagedW = []))) ∧
  (∀ (s : State) (dt : Nat) (test : Fin 3),
    let e := s.elapse dt
    let on := s.awake = true ∧ s.sec.trngFailed = false
    (on → ∃ t, exec (.secTrng dt test) s = .next t ∧ t.sec = { s.sec with trngFailed := true } ∧
      Tab.get 0 t.tly.live (tlSec 3) = min tlyMax (Tab.get 0 s.tly.live (tlSec 3) + 1) ∧
      t.onlyChanges s (.vault :: eventParts)) ∧
    (on → ∃ t, exec (.drbgReseed dt) s = .next t ∧
      t.sec = { s.sec with draws := s.sec.draws + 1, requests := 0, reseedAt := e.now } ∧
      t.onlyChanges s [.vault]) ∧
    (¬on → (∃ t, exec (.secTrng dt test) s = .next t ∧ t.onlyChanges s []) ∧
      ∃ t, exec (.drbgReseed dt) s = .next t ∧ t.onlyChanges s []) ∧
    (s.sec.restarting = false → ∃ t, exec (.vaultRestart dt) s = .next t ∧ t.onlyChanges s []) ∧
    (s.sec.restarting = true → ∃ t, exec (.vaultRestart dt) s = .next t ∧ t.sec.restarting = false ∧
      ((∀ l, l < 25 → (s.sa l).secured = false ∧ (s.key l).stage ≠ .backoff) →
        t.sec = { s.sec with restarting := false } ∧ t.onlyChanges s [.vault])))

/-- Keying of a link (R493 to R498). The side with the lower address sends INIT; INIT, RESP, CONFIRM and
DONE are taken up each in its stage, verified by vault operations, and lead to both associations; a
repeat is answered with the same message, a message that does not fit does nothing, and a failure backs
off, at first 1 s, doubled up to 64 s. NEXT and NEXT_ACK move to the next association. -/
def Obligations.LinksAreKeyed : Prop :=
  (∀ (s : State) (dt : Nat) (m : KeyMsg),
    let e := s.elapse dt
    let l := m.link.val
    let x := s.key l
    let upl := s.linkUp l = true
    let cut := s.sec.ops.filter fun o => o.link != l
    let lower := Config.nodeMac.toNat < m.src.toNat
    let ours := m.session = x.session
    let still := fun c => ∃ t, exec c s = .next t ∧ t.onlyChanges s []
    let init := upl ∧ s.canKey = true ∧ x.isOpen = false ∧ x.keyed = true ∧ m.body.length = 9152 ∧
      m.src.toNat < Config.nodeMac.toNat
    let again := ours ∧ x.initiator = false ∧ x.initBody = m.body
    (init → ¬again → ∃ t, exec (.keyInitRx dt m) s = .next t ∧ t.key l = { x with
        initiator := false, session := m.session, peer := m.src, initBody := m.body
        serial := slice m.body 104 8, stage := .verifyInit, due := none, lastType := 0
        lastBody := [] } ∧
      t.sec.ops = cut ++ [(⟨l, 0⟩ : VaultOp)] ∧ (∀ j, j ≠ l → t.key j = s.key j) ∧
      t.onlyChanges s [.vault]) ∧
    (init → again → x.lastType = 2 → ∃ t, exec (.keyInitRx dt m) s = .next t ∧
      t.sent = s.sent ++ [.msg l (ev 15 2) (le 4 x.session.toNat ++ x.lastBody)] ∧
      t.onlyChanges s [.outputs]) ∧
    (¬init ∨ (again ∧ x.lastType ≠ 2) → still (.keyInitRx dt m)) ∧
    (let resp := upl ∧ x.initiator = true ∧ ours ∧ m.body.length = 26144 ∧ lower
     (resp → x.stage = .waitResp → ∃ t, exec (.keyRespRx dt m) s = .next t ∧ t.key l = { x with
        respBody := m.body, peer := m.src, serial := slice m.body 104 8, stage := .verifyResp
        due := none } ∧ t.sec.ops = s.sec.ops ++ [(⟨l, 2⟩ : VaultOp)] ∧ t.onlyChanges s [.vault]) ∧
     (resp → x.stage = .waitDone → x.lastType = 3 → ∃ t, exec (.keyRespRx dt m) s = .next t ∧
       t.sent = s.sent ++ [.msg l (ev 15 3) (le 4 x.session.toNat ++ x.lastBody)] ∧
       t.onlyChanges s [.outputs]) ∧
     (¬resp ∨ (x.stage ≠ .waitResp ∧ x.stage ≠ .waitDone) → still (.keyRespRx dt m))) ∧
    (let conf := upl ∧ x.initiator = false ∧ ours ∧ m.src = x.peer ∧ m.body.length = 17088
     (conf → x.stage = .waitConfirm → ∃ t, exec (.keyConfirmRx dt m) s = .next t ∧
       t.key l = { x with stage := .verifyConfirm, respBody := m.body, due := none } ∧
       t.sec.ops = s.sec.ops ++ [(⟨l, 4⟩ : VaultOp)] ∧ t.onlyChanges s [.vault]) ∧
     (conf → x.stage = .idle → x.lastType = 4 → ∃ t, exec (.keyConfirmRx dt m) s = .next t ∧
       t.sent = s.sent ++ [.msg l (ev 15 4) (le 4 x.session.toNat ++ x.lastBody)] ∧
       t.onlyChanges s [.outputs]) ∧
     (¬conf ∨ (x.stage ≠ .waitConfirm ∧ x.stage ≠ .idle) → still (.keyConfirmRx dt m))) ∧
    (let done := upl ∧ x.stage = .waitDone ∧ ours ∧ m.src = x.peer ∧
       m.body = Config.hmac (Config.hkdf x.secret x.h2 (ascii "ZN CONFIRM")) x.h2
     (done → ∃ t, exec (.keyDoneRx dt m) s = .next t ∧
       t.sa l = { sa0 with secured := true, rx := [(0, 0)] } ∧ (t.key l).stage = .idle ∧
       (t.key l).keyedAt = some e.now ∧ (t.key l).ikm = x.secret ∧ (t.key l).salt = x.h2 ∧
       (t.key l).wait = 0 ∧
       Tab.get 0 t.tly.live (tlKey l mKeyOk) = min tlyMax (Tab.get 0 s.tly.live (tlKey l mKeyOk) + 1)) ∧
     (¬done → still (.keyDoneRx dt m))) ∧
    (let on := upl ∧ (s.sa l).secured = true
     let up := fun (t : State) k => Tab.get 0 t.tly.live (tlKey l k) =
       min tlyMax (Tab.get 0 s.tly.live (tlKey l k) + 1)
     let an := fld m.body 4 1 % 4
     (on → nextOk x m = false → ∃ t, exec (.keyNextRx dt m) s = .next t ∧ up t mKeyFail ∧
       t.onlyChanges s [.tallies]) ∧
     (on → nextOk x m = true → ∃ t, exec (.keyNextRx dt m) s = .next t ∧
       t.sent = s.sent ++ [.msg l (ev 15 6) (le 4 x.session.toNat ++ nextBody x (fld m.body 0 4) an)] ∧
       ((∀ y ∈ (s.sa l).rx, y.1 ≠ an) → up t mRekey ∧
         t.sa l = { s.sa l with rx := pushKeep 2 (s.sa l).rx (an, 0) }) ∧
       ((∃ y ∈ (s.sa l).rx, y.1 = an) → t.sa l = s.sa l)) ∧
     (on → x.lastType = 5 → nextOk x m = false → ∃ t, exec (.keyNextAckRx dt m) s = .next t ∧
       up t mKeyFail ∧ t.onlyChanges s [.tallies]) ∧
     (on → x.lastType = 5 → nextOk x m = true → fld m.body 0 4 = x.nextK → s.fab.copies = [] →
       ∃ t, exec (.keyNextAckRx dt m) s = .next t ∧ up t mRekey ∧
         t.sa l = { s.sa l with txAn := an, txPn := 0, asked := false, held := false } ∧
         (t.key l).nextK = x.nextK + 1 ∧ (t.key l).lastType = 0 ∧ (t.key l).due = none) ∧
     (¬on → still (.keyNextRx dt m) ∧ still (.keyNextAckRx dt m)) ∧
     (on → x.lastType ≠ 5 → still (.keyNextAckRx dt m)) ∧
     (upl → x.busy = true → ours → ∃ t, exec (.keyAbortRx dt m) s = .next t ∧
       (t.key l).stage = .backoff ∧ t.sec.ops = cut ∧ up t mKeyFail ∧
       (t.key l).due = some (e.now + (if x.wait = 0 then 1000000000 else min (2 * x.wait) 64000000000))) ∧
     (¬upl ∨ x.busy = false ∨ ¬ours → still (.keyAbortRx dt m)))) ∧
  (∀ (s : State) (dt : Nat) (ix : Fin 2),
    let e := s.elapse dt
    let run := exec (.vaultOperationComplete dt ix) s
    (s.sec.ops[ix.val]? = none ∨ s.sec.restarting = true → ∃ t, run = .next t ∧ t.onlyChanges s []) ∧
    (∀ o, s.sec.ops[ix.val]? = some o → s.sec.restarting = false →
      let l := o.link
      let x := s.key l
      let rest := removeAt s.sec.ops ix.val
      let cert := fun (b : List Byte) => s.certOk (slice b 32 7936) = true ∧
        macAt (slice b 32 7936) 0x38 = x.peer ∧ (l = 24 → x.peer = s.peerMac)
      let up := fun (t : State) k => Tab.get 0 t.tly.live (tlKey l k) =
        min tlyMax (Tab.get 0 s.tly.live (tlKey l k) + 1)
      let fails := ∃ t, run = .next t ∧ (t.key l).stage = .backoff ∧ t.sec.ops = rest ∧ up t mKeyFail
      (∀ h, o.kind = 5 → s.sec.quotePend = some h → ∃ t, run = .next t ∧ t.sec = { s.sec with
          ops := rest, quotePend := none
          quote := h ++ padTo 0 17088 (Config.slhSign (s.sec.idSeed.getD []) h) } ∧
        Tab.get 0 t.tly.live (tlSec 4) = min tlyMax (Tab.get 0 s.tly.live (tlSec 4) + 1) ∧
        t.onlyChanges s [.vault, .tallies]) ∧
      (o.kind = 0 → x.stage = .verifyInit →
        (cert x.initBody → s.flash.cert ≠ [] → s.sec.trngFailed = false → ∃ t, run = .next t ∧
          (t.key l).stage = .signResp ∧ t.sec.ops = rest ++ [(⟨l, 1⟩ : VaultOp)] ∧
          t.sec.draws = s.sec.draws + 2 ∧ t.onlyChanges s [.vault]) ∧
        (¬cert x.initBody ∨ s.flash.cert = [] ∨ s.sec.trngFailed = true → fails)) ∧
      (o.kind = 1 → x.stage = .signResp → ∃ t, run = .next t ∧ (t.key l).stage = .waitConfirm ∧
        (t.key l).lastType = 2 ∧ (t.key l).due = some (e.now + 200000000) ∧
        t.sent = s.sent ++ [.msg l (ev 15 2) (le 4 x.session.toNat ++ (t.key l).lastBody)] ∧
        t.onlyChanges s [.vault, .outputs]) ∧
      (o.kind = 2 → x.stage = .verifyResp →
        let c := slice x.respBody 32 7936
        let signed := Config.slhVerify (slice c 0x18 32) x.h1 (x.respBody.drop 9056) = true
        (cert x.respBody → signed → ∃ t, run = .next t ∧ (t.key l).stage = .signConfirm ∧
          t.sec.ops = rest ++ [(⟨l, 3⟩ : VaultOp)] ∧ t.onlyChanges s [.vault]) ∧
        (¬cert x.respBody ∨ ¬signed → fails)) ∧
      (o.kind = 3 → x.stage = .signConfirm → ∃ t, run = .next t ∧ (t.key l).stage = .waitDone ∧
        (t.key l).lastType = 3 ∧
        t.sent = s.sent ++ [.msg l (ev 15 3) (le 4 x.session.toNat ++ (t.key l).lastBody)] ∧
        t.onlyChanges s [.vault, .outputs]) ∧
      (o.kind = 4 → x.stage = .verifyConfirm →
        let signed := Config.slhVerify (slice x.initBody 56 32) x.h2 x.respBody = true
        (signed → ∃ t, run = .next t ∧ t.sa l = { sa0 with secured := true, rx := [(0, 0)] } ∧
          (t.key l).stage = .idle ∧ (t.key l).lastType = 4 ∧ (t.key l).keyedAt = some e.now ∧
          up t mKeyOk) ∧
        (¬signed → fails)))) ∧
  (∀ (s : State) (dt : Nat) (k : Fin 25),
    let e := s.elapse dt
    let l := k.val
    let x := s.key l
    let can := s.canKey = true ∧ x.isOpen = false ∧ s.linkUp l = true
    let up := fun (t : State) j => Tab.get 0 t.tly.live (tlKey l j) =
      min tlyMax (Tab.get 0 s.tly.live (tlKey l j) + 1)
    let begun := fun c =>
      (¬can → ∃ t, exec c s = .next t ∧ t.onlyChanges s []) ∧
      (∀ p, can → s.knownPeer l = some p → p.toNat ≤ Config.nodeMac.toNat → ∃ t, exec c s = .next t ∧
        t.key l = { x with keyed := true, initiator := false, peer := p, stage := .idle, due := none } ∧
        t.onlyChanges s [.vault]) ∧
      (∀ p, can → s.knownPeer l = some p → Config.nodeMac.toNat < p.toNat →
        s.sec.trngFailed = false → s.flash.cert ≠ [] → ∃ t, exec c s = .next t ∧
        (t.key l).stage = .waitResp ∧ (t.key l).initiator = true ∧ (t.key l).peer = p ∧
        (t.key l).lastType = 1 ∧ (t.key l).repeats = 0 ∧ (t.key l).due = some (e.now + 200000000) ∧
        t.sec.draws = s.sec.draws + 3 ∧
        t.sent = s.sent ++ [.msg l (ev 15 1) (le 4 (t.key l).session.toNat ++ (t.key l).initBody)] ∧
        t.onlyChanges s [.vault, .outputs])
    let live := s.linkUp l = true ∧ x.stage ≠ .backoff ∧ x.lastType ≠ 0
    let out := x.stage = .backoff ∧ ∃ n, x.due = some n ∧ n ≤ e.now
    let old := x.initiator = true ∧ x.stage = .idle ∧
      ∃ n, x.keyedAt = some n ∧ n + fld s.sec.policy 4 2 * 3600000000000 ≤ e.now
    (∀ n, x.due = some n → n ≤ e.now → live → x.repeats < 3 →
      ∃ t, exec (.keyingRetransmitTimeout dt k) s = .next t ∧
        t.key l = { x with repeats := x.repeats + 1, due := some (e.now + 200000000) } ∧
        t.sent = s.sent ++ [.msg l (ev 15 x.lastType) (le 4 x.session.toNat ++ x.lastBody)] ∧
        t.onlyChanges s [.vault, .outputs]) ∧
    (∀ n, x.due = some n → n ≤ e.now → live → 3 ≤ x.repeats →
      ∃ t, exec (.keyingRetransmitTimeout dt k) s = .next t ∧ (t.key l).stage = .backoff ∧
        up t mKeyFail) ∧
    (x.due = none ∨ ¬live ∨ (∃ n, x.due = some n ∧ e.now < n) →
      ∃ t, exec (.keyingRetransmitTimeout dt k) s = .next t ∧ t.onlyChanges s []) ∧
    (out → begun (.keyingRetry dt k)) ∧
    (¬out → ∃ t, exec (.keyingRetry dt k) s = .next t ∧ t.onlyChanges s []) ∧
    (old → begun (.rekeyTimer dt k)) ∧
    (¬old → ∃ t, exec (.rekeyTimer dt k) s = .next t ∧ t.onlyChanges s []))

/-! ### Start-up, reset and firmware (chapter 17), the keep-alive die -/

/-- Resets and starts (R429, R435, R517, R537, R538, R541, R545 to R551, R555, R581). A long PORST_N or
SYSRST_N pulse resets the main die and keeps the flash, a short one does nothing, and between them
either happens whole. A start takes FW_SLOT's image if it is accepted, then the other slot's, then the
loader. The teller boots once, a restarted one completes the command it held with RESTARTED, and the
default parison is loaded once. -/
def Obligations.ResetsAndStarts : Prop :=
  (∀ (s : State) (dt n : Nat),
    let e := s.elapse dt
    let reset := fun (t : State) => t.sys.stage = .reset ∧ t.flash = { s.flash with defer := [] } ∧
      t.par = State.reset.par ∧ t.gaf = State.reset.gaf ∧ t.pd = State.reset.pd ∧
      t.can = State.reset.can ∧ t.meas = State.reset.meas ∧ t.bridge = State.reset.bridge ∧
      t.hif.ready = false ∧ t.hif.respValid = false ∧ t.day.per = s.day.per ∧
      t.sec.rootPk = s.sec.rootPk ∧ t.clk.loc = e.clk.loc
    let held := fun (t : State) => t.time.rtcSec = s.time.rtcSec ∧ t.time.rtcAt = s.time.rtcAt
    (n ≤ 1000 → ∃ t, exec (.porstNAssert dt n) s = .next t ∧ t.onlyChanges s []) ∧
    (10000 ≤ n → ∃ t, exec (.porstNAssert dt n) s = .next t ∧ t.sys.porst = true ∧ reset t ∧ held t ∧
      t.sys.retired = [] ∧ t.feedA.warnings = 0 ∧ t.feedB.losses = 0) ∧
    (1000 < n → n < 10000 → ∃ t, exec (.porstNAssert dt n) s = .next t ∧
      (t.onlyChanges s [.clock] ∨ (t.sys.porst = true ∧ reset t ∧ held t))) ∧
    (n < 200 → ∃ t, exec (.sysrstNAssert dt n) s = .next t ∧ t.onlyChanges s []) ∧
    (1000 ≤ n → s.sleep.asleep = false → ∃ t, exec (.sysrstNAssert dt n) s = .next t ∧
      t.sys.sysrst = true ∧ reset t ∧ held t ∧ t.sys.retired = s.sys.retired ∧
      t.feedA.warnings = s.feedA.warnings ∧ t.sleep.latches = s.sleep.latches) ∧
    (200 ≤ n → n < 1000 → s.sleep.asleep = false → ∃ t, exec (.sysrstNAssert dt n) s = .next t ∧
      (t.onlyChanges s [.clock] ∨ (t.sys.sysrst = true ∧ reset t ∧ held t))) ∧
    (∃ t, exec (.vkaLoss dt) s = .next t ∧ reset t ∧ t.sleep.vka = false ∧
      t.time.rtcSec = 0 ∧ t.time.rtcAt = e.now)) ∧
  (∀ (s : State) (dt : Nat) (src sel : BitVec 2) (pref sfdp : Bool), s.sleep.asleep = false →
    s.sys.sysrst = false → s.feedA.dom ≠ .isolated ∨ s.feedB.dom ≠ .isolated →
    let e := s.elapse dt
    let k := fld s.flash.bootNow 8 1 % 2
    let v := ({ e with sys := { e.sys with
      porst := false, bootSrc := src, hostsel := sel, pref := pref, sfdp := sfdp } }).vaultStart
    let runs := fun (j : Nat) => v.fwRuns (s.flash.slot j) = true
    let taken := fun (c : Instr) (cause : Nat) (src : BitVec 2) (sfdp : Bool) =>
      (sfdp = false → ∃ t, exec c s = .next t ∧ t.sys.stage = .loader ∧ t.sys.loader = some 2 ∧
        t.hif.ready = true ∧ t.sys.cause = cause) ∧
      (sfdp = true → src = 2 → ∃ t, exec c s = .next t ∧ t.sys.stage = .loader ∧
        t.sys.loader = some 0 ∧ t.hif.ready = true ∧ t.sys.cause = cause)
    (s.sys.porst = true ∨ s.sleep.vka = false →
      taken (.porstNRelease dt src sel pref sfdp) 0 src sfdp ∧
      (sfdp = true → src ≠ 2 →
        ∃ t, exec (.porstNRelease dt src sel pref sfdp) s = .next t ∧ t.sys.porst = false ∧
          t.sys.bootSrc = src ∧ t.sys.hostsel = sel ∧ t.sys.pref = pref ∧ t.sys.cause = 0 ∧
          (runs k → t.sys.stage = .teller ∧ t.sys.slot = k ∧ t.sys.failed = none) ∧
          (¬runs k → runs (1 - k) → t.sys.stage = .teller ∧ t.sys.slot = 1 - k ∧ t.sys.failed = some k) ∧
          (¬runs k → ¬runs (1 - k) → t.sys.stage = .loader ∧ t.sys.loader = some 1))) ∧
    (s.sys.porst = false → s.sleep.vka = true →
      ∃ t, exec (.porstNRelease dt src sel pref sfdp) s = .next t ∧ t.onlyChanges s [])) ∧
  (∀ (s : State) (dt : Nat),
    (s.sys.sysrst = false → ∃ t, exec (.sysrstNRelease dt) s = .next t ∧ t.onlyChanges s []) ∧
    (s.sys.sysrst = true → s.sys.porst = false → s.sleep.vka = true → s.sleep.asleep = false →
      (s.feedA.dom ≠ .isolated → s.sys.sfdp = true → s.sys.bootSrc = 2 →
        ∃ t, exec (.sysrstNRelease dt) s = .next t ∧ t.sys.sysrst = false ∧ t.sys.cause = 1 ∧
          t.sys.stage = .loader ∧ t.sys.loader = some 0 ∧ t.hif.ready = true) ∧
      (s.feedA.dom = .isolated → s.feedB.dom = .isolated →
        ∃ t, exec (.sysrstNRelease dt) s = .next t ∧
          t.sys = { s.sys with sysrst := false, stage := .dark } ∧ t.onlyChanges s [.system]))) ∧
  (∀ (s : State) (dt : Nat),
    let img := s.flash.slot s.sys.slot
    (s.sys.stage ≠ .teller → ∃ t, exec (.boot dt) s = .next t ∧ t.onlyChanges s []) ∧
    (s.sys.stage = .teller → ∃ t, exec (.boot dt) s = .next t ∧ t.sys.stage = .up ∧
      t.hif.ready = true ∧ t.sys.slot = s.sys.slot ∧
      t.sys.version = BitVec.ofNat 32 (fld img 0x14 4) ∧ t.sys.revisions = slice img 0x20 32 ∧
      t.sys.fwHash = sha256 (img.take (fld img 8 4)) ∧
      t.sys.behav = BitVec.ofNat 8 (fwRevision img s.sec.pin) ∧ t.sys.loader = none ∧
      t.sys.fwStaged = 0) ∧
    (s.sys.stage ≠ .restart → ∃ t, exec (.tellerRestartComplete dt) s = .next t ∧ t.onlyChanges s []) ∧
    (s.sys.stage = .restart → ∃ t, exec (.tellerRestartComplete dt) s = .next t ∧ t.sys.stage = .up ∧
      t.hif.ready = true ∧ t.day.held = [] ∧ t.par = s.par ∧ t.gaf = s.gaf ∧
      (∀ (h : Held) (r : Req), s.hif.held = some h → h.tag = r.tag.toNat → h.seq = r.seq.toNat →
        t.answered h.op r stRestarted []))) ∧
  (∀ (s : State) (dt : Nat),
    (s.defaultRegion = none ∨ s.sys.defaultLoad = false ∨ s.tellerUp = false →
      ∃ t, exec (.defaultParison dt) s = .next t ∧ t.onlyChanges s []) ∧
    (∀ k, s.defaultRegion = some k → s.sys.defaultLoad = true → s.tellerUp = true →
      ∃ t, exec (.defaultParison dt) s = .next t ∧ t.sys.defaultLoad = false ∧
        t.sys.stage = .up ∧ t.flash.fw0 = s.flash.fw0)) ∧
  (∀ (s : State) (dt : Nat) (d : Fin 2),
    let f := s.feed d.val
    let here := { f with dom := .present, below := false }
    let worn := Tab.get 0 s.sys.retired (0x56 + d.val) ≠ 0
    let waking := s.sleep.asleep = true ∧ s.sleep.wakePending = true
    let starting := s.sys.stage = .rom ∨ s.sys.stage = .teller
    (¬worn → waking → ∃ t, exec (.feedGood dt d) s = .next t ∧ t.feed d.val = here ∧
      t.feed (1 - d.val) = s.feed (1 - d.val) ∧ t.sleep.asleep = false ∧ t.sleep.wakePending = false ∧
      (s.sys.porst = false → s.sys.sysrst = false → s.sleep.vka = true → t.sys.cause = 2)) ∧
    (¬worn → ¬waking → starting → f.dom = .isolated → ∃ t, exec (.feedGood dt d) s = .next t ∧
      t.feed d.val = here ∧ t.onlyChanges s [.feeds]) ∧
    (worn ∨ (¬waking ∧ (¬starting ∨ f.dom ≠ .isolated)) →
      ∃ t, exec (.feedGood dt d) s = .next t ∧ t.onlyChanges s []))

/-- Firmware update (R552 to R556). Staging takes the image in order, and refuses a bad header at once;
a swap is refused for an incomplete or unacceptable image, one that the parisons or the pin exclude,
and while another runs; accepted, it stops the old teller at S, and either the new image serves within
500 ms or the old one does again. -/
def Obligations.FirmwareIsSwapped : Prop :=
  (∀ (s : State) (dt : Nat) (r : Req), s.mbxFree → r.plain →
    let e := s.elapse dt
    let o := fld r.body 0 4
    let all := if o = 0 then r.body.drop 4 else s.fwStagedBytes ++ r.body.drop 4
    let fits := (o = 0 ∨ o = s.fwStagedBytes.length) ∧ all.length ≤ 0x200000
    let headed := 64 ≤ all.length
    let sound := fwHeadOk all = true ∧ all.length ≤ fld all 8 4
    let img := s.fwStagedBytes
    let whole := 64 ≤ img.length ∧ fld img 8 4 ≤ img.length
    let new := fwRevision img s.sec.pin
    let meets := (∀ m ∈ s.minBehavs, m ≤ new) ∧ (∀ p, s.par.committed = some p → p.minBehav ≤ new)
    let busy := s.sys.swap ≠ none ∨ s.sys.defaultLoad = true ∨ s.flashHeld = true
    let deny := ∃ t, exec (.mbFwSwap dt r) s = .next t ∧ t.answered 0x0E02 r stDenied [] ∧
      t.sys = s.sys ∧ t.onlyChanges s answerParts
    (5 ≤ r.body.length →
      (¬fits ∨ (headed ∧ ¬sound) → ∃ t, exec (.mbFwStage dt r) s = .next t ∧
        t.answered 0x0E01 r stMalformed [] ∧ t.onlyChanges s answerParts) ∧
      (fits → headed → sound → s.sec.pin ≠ 0 → fwLists all s.sec.pin = false →
        ∃ t, exec (.mbFwStage dt r) s = .next t ∧ t.answered 0x0E01 r stDenied [] ∧
          t.onlyChanges s answerParts) ∧
      (fits → (headed → sound ∧ (s.sec.pin = 0 ∨ fwLists all s.sec.pin = true)) →
        (s.flashHeld = true ∨ s.sys.swap ≠ none → ∃ t, exec (.mbFwStage dt r) s = .next t ∧
          t.answered 0x0E01 r stBusy [] ∧ t.onlyChanges s answerParts) ∧
        (s.flashHeld = false → s.sys.swap = none → ∃ t, exec (.mbFwStage dt r) s = .next t ∧
          t.answered 0x0E01 r stOk [] ∧ t.flash = s.flash.setSlot (1 - s.sys.slot) all ∧
          t.sys = { s.sys with fwStaged := all.length } ∧
          t.onlyChanges s (.flash :: .system :: answerParts)))) ∧
    (r.body = zeros 4 →
      (¬whole → deny) ∧ (whole → s.fwOk img = true → ¬meets → deny) ∧
      (whole → s.fwOk img = false → deny ∧ ∃ t, exec (.mbFwSwap dt r) s = .next t ∧
        Tab.get 0 t.tly.live (tlSec 10) = min tlyMax (Tab.get 0 s.tly.live (tlSec 10) + 1)) ∧
      (whole → s.fwOk img = true → meets → busy → ∃ t, exec (.mbFwSwap dt r) s = .next t ∧
        t.answered 0x0E02 r stBusy [] ∧ t.onlyChanges s answerParts) ∧
      (whole → s.fwOk img = true → meets → ¬busy → s.sec.genUsed < 1024 → s.sec.recordBad = false →
        ∃ t, exec (.mbFwSwap dt r) s = .next t ∧
          t.answered 0x0E02 r stOk (secNs e.swapAt ++ zeros 4) ∧
          t.sys = { s.sys with swap := some {
            net := e.swapAt, slot := 1 - s.sys.slot, began := none } } ∧
          t.sec.fw = max s.sec.fw (fld img 0x10 4)))) ∧
  (∀ (s : State) (dt : Nat) (w : FwSwap), s.sys.swap = some w →
    let e := s.elapse dt
    let img := s.flash.slot w.slot
    (w.began = none → s.tellerUp = true → w.net ≤ e.net + 2 →
      ∃ t, exec (.fwSwap dt) s = .next t ∧ t.sys.stage = .swap ∧ t.hif.ready = false ∧
        t.sys.swap = some { w with began := some e.now } ∧ t.par = s.par ∧ t.gaf = s.gaf ∧ t.pd = s.pd) ∧
    (w.began ≠ none ∨ s.tellerUp = false ∨ e.net + 2 < w.net →
      ∃ t, exec (.fwSwap dt) s = .next t ∧ t.onlyChanges s []) ∧
    (s.sys.stage = .swap → e.swapRuns w = true → ∃ t, exec (.fwSwapComplete dt) s = .next t ∧
      t.sys.stage = .up ∧ t.sys.slot = w.slot ∧ t.sys.swap = none ∧ t.hif.ready = true ∧
      t.sys.version = BitVec.ofNat 32 (fld img 0x14 4) ∧ t.par = s.par ∧ t.gaf = s.gaf ∧
      Tab.get 0 t.tly.live (tlSec 8) = min tlyMax (Tab.get 0 s.tly.live (tlSec 8) + 1)) ∧
    (s.sys.stage ≠ .swap ∨ e.swapRuns w = false →
      ∃ t, exec (.fwSwapComplete dt) s = .next t ∧ t.onlyChanges s []) ∧
    (s.sys.stage = .swap → e.swapRuns w = false → s.fwOk (s.flash.slot (1 - w.slot)) = true →
      ∃ t, exec (.fwRevert dt) s = .next t ∧ t.sys.stage = .up ∧ t.sys.slot = 1 - w.slot ∧
        t.sys.swap = none ∧ t.hif.ready = true ∧
        Tab.get 0 t.tly.live (tlSec 9) = min tlyMax (Tab.get 0 s.tly.live (tlSec 9) + 1)) ∧
    (s.sys.stage = .swap → e.swapRuns w = false → s.fwOk (s.flash.slot (1 - w.slot)) = false →
      ∃ t, exec (.fwRevert dt) s = .next t ∧ t.sys.stage = .loader ∧ t.sys.swap = none) ∧
    (s.sys.stage ≠ .swap ∨ e.swapRuns w = true →
      ∃ t, exec (.fwRevert dt) s = .next t ∧ t.onlyChanges s [])) ∧
  (∀ (s : State) (dt : Nat), s.sys.swap = none →
    ∀ c ∈ [Instr.fwSwap dt, .fwSwapComplete dt, .fwRevert dt],
      ∃ t, exec c s = .next t ∧ t.onlyChanges s [])

/-! ### Seeds (chapter 18) -/

/-- Seeds (R526, R560 to R568). Arming needs ranges, lifecycle and a free place; an armed seed ends at
its time or when it is cleared, each with its report. A burst of BACKPRESSURE holds the named ports
until its time and falls due again after its period; a simulated feed warning warns the feed and ends
after its length. -/
def Obligations.SeedsAreArmedAndEnd : Prop :=
  (∀ (s : State) (dt : Nat) (r : Req), s.mbxFree → r.plain →
    let e := s.elapse dt
    let kind := fld r.body 0 1
    let dur := fld r.body 4 4
    let k := r.body.drop 8
    let id := s.seeds.nextId
    let range := seedRangeOk kind k = true ∧ 1 ≤ dur ∧ dur ≤ 86400
    (r.body.length = 32 → zeroAt r.body 1 3 = true → seedRsvOk kind k = true →
      (¬range → ∃ t, exec (.mbSeedArm dt r) s = .next t ∧ t.answered 0x0F01 r stMalformed [] ∧
        t.onlyChanges s answerParts) ∧
      (range → s.sec.life = 0 ∨ s.sec.life = 2 → ∃ t, exec (.mbSeedArm dt r) s = .next t ∧
        t.answered 0x0F01 r stDenied [] ∧ t.onlyChanges s answerParts) ∧
      (range → s.sec.life = 3 → 8 ≤ s.seeds.armed.length → ∃ t, exec (.mbSeedArm dt r) s = .next t ∧
        t.answered 0x0F01 r stFull [] ∧ t.onlyChanges s answerParts) ∧
      (range → s.sec.life = 3 → s.seeds.armed.length < 8 → ∃ t, exec (.mbSeedArm dt r) s = .next t ∧
        t.answered 0x0F01 r stOk (le 4 id) ∧
        t.seeds.armed = s.seeds.armed ++ [{
          id := id, kind := kind, params := k, endAt := e.now + dur * 1000000000, count := 0
          hits := 0, lastEv := none, nextAt := e.now }] ∧ t.seeds.nextId = seedIdAfter id ∧
        Tab.get 0 t.tly.live (tlSec 12) = min tlyMax (Tab.get 0 s.tly.live (tlSec 12) + 1) ∧
        (kind ≠ 6 → t.onlyChanges s (.seeds :: mailParts))) ∧
      (range → s.sec.life = 1 →
        let good := e.warrantGood [5] fun a =>
          bit (fld a 0 4) kind && dur ≤ fld a 4 4 && fld a 4 4 ≤ 86400 && allZero (a.drop 8)
        (good = false → ∃ t, exec (.mbSeedArm dt r) s = .next t ∧ t.answered 0x0F01 r stWarrant [] ∧
          t.sec.stagedW = [] ∧ t.seeds = s.seeds) ∧
        (good = true → s.sec.genUsed < 1024 → s.sec.recordBad = false → s.seeds.armed.length < 8 →
          ∃ t, exec (.mbSeedArm dt r) s = .next t ∧ t.answered 0x0F01 r stOk (le 4 id) ∧
            t.sec.stagedW = [] ∧ t.seeds.armed.length = s.seeds.armed.length + 1))) ∧
    (r.body.length = 4 →
      let which := fld r.body 0 4
      let mine := fun (x : Seed) => which = 0xFFFFFFFF ∨ x.id = which
      (∃ t, exec (.mbSeedClear dt r) s = .next t ∧ t.answered 0x0F02 r stOk [] ∧
        t.seeds.armed = s.seeds.armed.filter fun x => decide (¬mine x)) ∧
      ((∀ x ∈ s.seeds.armed, ¬mine x) → ∃ t, exec (.mbSeedClear dt r) s = .next t ∧
        t.answered 0x0F02 r stOk [] ∧ t.onlyChanges s answerParts))) ∧
  (∀ (s : State) (dt : Nat) (ix : Fin 8),
    let e := s.elapse dt
    let idle := fun c => ∃ t, exec c s = .next t ∧ t.onlyChanges s []
    (s.seeds.armed[ix.val]? = none → s.seeds.holdUntil = [] →
      idle (.seedEnd dt ix) ∧ idle (.backpressureHold dt ix) ∧ idle (.seedFeedWarnStart dt ix)) ∧
    (∀ x, s.seeds.armed[ix.val]? = some x →
      (x.endAt ≤ e.now → ∃ t, exec (.seedEnd dt ix) s = .next t ∧
        t.seeds.armed = s.seeds.armed.filter (fun y => decide (y.id ≠ x.id)) ∧
        Tab.get 0 t.tly.live (tlSec 15) = min tlyMax (Tab.get 0 s.tly.live (tlSec 15) + 1) ∧
        (x.kind ≠ 6 → t.onlyChanges s (.seeds :: eventParts))) ∧
      (e.now < x.endAt → idle (.seedEnd dt ix)) ∧
      (x.kind ≠ 2 ∨ e.now < x.nextAt ∨ x.endAt ≤ e.now → s.seeds.holdUntil = [] →
        idle (.backpressureHold dt ix)) ∧
      (x.kind = 2 → x.nextAt ≤ e.now → e.now < x.endAt → s.seeds.holdUntil = [] →
        let named := fun p => p < 25 ∧ bit (fld x.params 0 4) p = true ∧ s.hasDom (portDomain p) = true
        ∃ t, exec (.backpressureHold dt ix) s = .next t ∧
          (∀ p, named p → Tab.get 0 t.seeds.holdUntil p = e.now + fld x.params 4 4) ∧
          (∀ p, ¬named p → Tab.get 0 t.seeds.holdUntil p = 0) ∧
          (∃ y, t.seeds.armed = s.seeds.armed.set ix.val y ∧ y.id = x.id ∧
            y.nextAt = x.nextAt + fld x.params 8 4 * 1000 ∧
            ((∃ p, named p) → y.hits = x.hits + 1) ∧ ((∀ p, ¬named p) → y.hits = x.hits))) ∧
      (x.kind = 9 → x.nextAt ≤ e.now → e.now < x.endAt → s.hasDom (fld x.params 0 1) = true →
        fld x.params 0 1 < 2 →
        let d := fld x.params 0 1
        ∃ t y, exec (.seedFeedWarnStart dt ix) s = .next t ∧
          (t.feed d).sim = (s.feed d).sim ++ [e.now + fld x.params 4 4 * 1000] ∧
          (t.feed d).dom = (s.feed d).dom ∧ t.feed (1 - d) = s.feed (1 - d) ∧
          ((s.feed d).warning = false → Tab.get 0 t.tly.live (tlFeed d) =
            min tlyMax (Tab.get 0 s.tly.live (tlFeed d) + 1)) ∧
          t.seeds.armed = s.seeds.armed.set ix.val y ∧ y.hits = x.hits + 1 ∧
          y.nextAt = (if fld x.params 8 4 = 0 then x.endAt else x.nextAt + fld x.params 8 4 * 1000000) ∧
          t.onlyChanges s (.seeds :: .feeds :: eventParts)) ∧
      (x.kind ≠ 9 ∨ e.now < x.nextAt ∨ x.endAt ≤ e.now ∨ s.hasDom (fld x.params 0 1) = false →
        idle (.seedFeedWarnStart dt ix)))) ∧
  (∀ (s : State) (dt : Nat) (d : Fin 2),
    let e := s.elapse dt
    let f := s.feed d.val
    let left := f.sim.filter fun n => decide (e.now < n)
    (left.length < f.sim.length → ∃ t, exec (.seedFeedWarnEnd dt d) s = .next t ∧
      (t.feed d.val).sim = left ∧ (t.feed d.val).warn = f.warn ∧
      t.feed (1 - d.val) = s.feed (1 - d.val) ∧ t.onlyChanges s [.feeds, .daybook, .flash]) ∧
    (left.length = f.sim.length →
      ∃ t, exec (.seedFeedWarnEnd dt d) s = .next t ∧ t.onlyChanges s []))
end

