-- ==== Sys2Proof/Laws/Tab.lean ====
section
/-! SUPPORT. Tables and byte memories: reading after writing, and the canonical form kept by writing. -/

namespace Sys2Proof

namespace Tab

variable {V : Type} (d : V)

/-! ### Reading after writing -/

theorem get_drop_self (m : Tab V) (k : Nat) : get d (drop m k) k = d := by
  induction m with
  | nil => rfl
  | cons x m ih => obtain ⟨j, v⟩ := x; by_cases h : j = k <;> simp [drop, get, h, ih]

theorem get_drop_ne (m : Tab V) {k a : Nat} (h : a ≠ k) : get d (drop m k) a = get d m a := by
  induction m with
  | nil => rfl
  | cons x m ih =>
    obtain ⟨j, v⟩ := x
    by_cases hj : j = k
    · subst hj; simp [drop, get, ih, Ne.symm h]
    · rw [drop, if_neg hj, get, get, ih]

theorem get_place_ne (m : Tab V) {k a : Nat} (v : V) (h : a ≠ k) :
    get d (place m k v) a = get d m a := by
  induction m with
  | nil => simp [place, get, Ne.symm h]
  | cons x m ih =>
    obtain ⟨j, w⟩ := x
    by_cases hl : k < j
    · simp [place, get, hl, Ne.symm h]
    · rw [place, if_neg hl, get, get, ih]

variable [DecidableEq V]

@[simp] theorem get_set_self (m : Tab V) (k : Nat) (v : V) : get d (set d m k v) k = v := by
  unfold set
  split
  · next h => rw [h]; exact get_drop_self d m k
  · have aux : ∀ m : Tab V, get d (place (drop m k) k v) k = v := by
      intro m
      induction m with
      | nil => simp [drop, place, get]
      | cons x m ih =>
        obtain ⟨j, w⟩ := x
        by_cases hj : j = k
        · simpa [drop, hj] using ih
        · by_cases hl : k < j <;> simp [drop, hj, place, get, hl, ih]
    exact aux m

theorem get_set_ne (m : Tab V) {k a : Nat} (v : V) (h : a ≠ k) :
    get d (set d m k v) a = get d m a := by
  unfold set
  split
  · exact get_drop_ne d m h
  · rw [get_place_ne d _ v h, get_drop_ne d m h]

theorem get_set (m : Tab V) (k a : Nat) (v : V) :
    get d (set d m k v) a = if a = k then v else get d m a := by
  by_cases h : a = k
  · simp [h]
  · simp [h, get_set_ne d m v h]

@[simp] theorem get_upd_self (m : Tab V) (k : Nat) (f : V → V) :
    get d (upd d m k f) k = f (get d m k) := get_set_self d m k _

theorem get_upd_ne (m : Tab V) {k a : Nat} (f : V → V) (h : a ≠ k) :
    get d (upd d m k f) a = get d m a := get_set_ne d m _ h

/-! ### The canonical form -/

theorem wfFrom_mono {lo lo' : Nat} {m : Tab V} (h : lo' ≤ lo) (hm : wfFrom d lo m) :
    wfFrom d lo' m := by
  cases m with
  | nil => rfl
  | cons x m =>
    obtain ⟨j, v⟩ := x
    simp only [wfFrom, Bool.and_eq_true, decide_eq_true_eq] at hm ⊢
    exact ⟨⟨Nat.le_trans h hm.1.1, hm.1.2⟩, hm.2⟩

theorem wfFrom_drop {lo : Nat} {m : Tab V} (k : Nat) (hm : wfFrom d lo m) :
    wfFrom d lo (drop m k) := by
  induction m generalizing lo with
  | nil => rfl
  | cons x m ih =>
    obtain ⟨j, v⟩ := x
    simp only [wfFrom, Bool.and_eq_true, decide_eq_true_eq] at hm
    by_cases hj : j = k
    · simpa [drop, hj] using ih (wfFrom_mono d (Nat.le_succ_of_le hm.1.1) hm.2)
    · simp only [drop, hj, if_false, wfFrom, Bool.and_eq_true, decide_eq_true_eq]
      exact ⟨hm.1, ih hm.2⟩

theorem wfFrom_place {lo : Nat} {m : Tab V} {k : Nat} {v : V} (hk : lo ≤ k) (hv : v ≠ d)
    (hm : wfFrom d lo (drop m k)) : wfFrom d lo (place (drop m k) k v) := by
  induction m generalizing lo with
  | nil => simp [drop, place, wfFrom, hk, hv]
  | cons x m ih =>
    obtain ⟨j, w⟩ := x
    by_cases hj : j = k
    · simp only [drop, hj, if_true] at hm ⊢; exact ih hk hm
    · simp only [drop, hj, if_false, wfFrom, Bool.and_eq_true, decide_eq_true_eq] at hm
      simp only [drop, hj, if_false, place]
      by_cases hl : k < j
      · simp only [hl, if_true, wfFrom, Bool.and_eq_true, decide_eq_true_eq]
        exact ⟨⟨hk, hv⟩, ⟨hl, hm.1.2⟩, hm.2⟩
      · simp only [hl, if_false, wfFrom, Bool.and_eq_true, decide_eq_true_eq]
        exact ⟨hm.1, ih (by omega) hm.2⟩

/-- Writing keeps the canonical form. -/
theorem wf_set {m : Tab V} (k : Nat) (v : V) (hm : wf d m) : wf d (set d m k v) := by
  unfold set
  have hd := wfFrom_drop d k hm
  split
  · exact hd
  · next h => exact wfFrom_place d (Nat.zero_le k) h hd

end Tab

namespace Machine

/-! ### Byte memories -/

@[simp] theorem memGet_memSet_self (m : Mem) (a : Nat) (b : Byte) : memGet (memSet m a b) a = b :=
  Tab.get_set_self 0 m a b

theorem memGet_memSet_ne (m : Mem) {a c : Nat} (b : Byte) (h : c ≠ a) :
    memGet (memSet m a b) c = memGet m c := Tab.get_set_ne 0 m b h

/-- A byte outside what is written reads as before. -/
theorem memGet_memWrite_out (m : Mem) (a : Nat) (l : List Byte) {c : Nat}
    (h : c < a ∨ a + l.length ≤ c) : memGet (memWrite m a l) c = memGet m c := by
  induction l generalizing m a with
  | nil => rfl
  | cons b l ih =>
    simp only [List.length_cons] at h
    rw [memWrite, ih _ (a + 1) (by omega), memGet_memSet_ne m b (by omega)]

/-- A byte of what is written reads as written. -/
theorem memGet_memWrite_in (m : Mem) (a : Nat) (l : List Byte) {i : Nat} (h : i < l.length) :
    memGet (memWrite m a l) (a + i) = l[i] := by
  induction l generalizing m a i with
  | nil => simp at h
  | cons b l ih =>
    cases i with
    | zero => rw [memWrite, memGet_memWrite_out _ _ _ (by omega)]; simp
    | succ i =>
      have := ih (memSet m a b) (a + 1) (i := i) (by simpa using h)
      rw [memWrite, show a + (i + 1) = a + 1 + i by omega, this]; rfl

/-- Reading what was just written. -/
theorem memRead_memWrite (m : Mem) (a : Nat) (l : List Byte) :
    memRead (memWrite m a l) a l.length = l := by
  apply List.ext_getElem
  · simp [memRead]
  · intro i h1 h2
    simp only [memRead, List.getElem_map, List.getElem_range]
    exact memGet_memWrite_in m a l h2

/-- Reading a part of what was just written. -/
theorem memRead_memWrite_part (m : Mem) (l : List Byte) (o n : Nat) (h : o + n ≤ l.length) :
    memRead (memWrite m 0 l) o n = slice l o n := by
  apply List.ext_getElem
  · simp [memRead, slice]; omega
  · intro i h1 h2
    have hi : i < n := by simpa [memRead] using h1
    have := memGet_memWrite_in m 0 l (i := o + i) (by omega)
    simp only [memRead, List.getElem_map, List.getElem_range]
    simp only [Nat.zero_add] at this
    simp [this, slice]

/-- Every memory operation keeps the canonical form. -/
theorem wf_memSet {m : Mem} (a : Nat) (b : Byte) (hm : Mem.wf m) : Mem.wf (memSet m a b) :=
  Tab.wf_set 0 a b hm

theorem wf_memWrite {m : Mem} (a : Nat) (l : List Byte) (hm : Mem.wf m) :
    Mem.wf (memWrite m a l) := by
  induction l generalizing m a with
  | nil => exact hm
  | cons b l ih => exact ih (a + 1) (wf_memSet a b hm)

theorem wf_memOf (l : List Byte) : Mem.wf (memOf l) := wf_memWrite 0 l rfl

end Machine

end Sys2Proof
end

