-- ==== Sys2Proof/Laws/Bytes.lean ====
section
/-! SUPPORT. Little-endian fields: what a field of a written record reads as. -/

namespace Sys2Proof.Machine

@[simp] theorem le_length (n v : Nat) : (le n v).length = n := by
  induction n generalizing v with
  | zero => rfl
  | succ n ih => simp [le, ih]

@[simp] theorem zeros_length (n : Nat) : (zeros n).length = n := by simp [zeros]

@[simp] theorem padTo_length {α : Type} (d : α) (n : Nat) (l : List α) : (padTo d n l).length = n := by
  induction n generalizing l with
  | zero => rfl
  | succ n ih => cases l <;> simp [padTo, ih]

theorem ofLe_le (n v : Nat) : ofLe (le n v) = v % 256 ^ n := by
  induction n generalizing v with
  | zero => simp [le, ofLe, Nat.mod_one]
  | succ n ih =>
    have h : 256 ^ (n + 1) = 256 * 256 ^ n := by rw [Nat.pow_succ, Nat.mul_comm]
    rw [le, ofLe, ih, BitVec.toNat_ofNat, h, Nat.mod_mul]

theorem slice_append_left {a b : List Byte} {o n : Nat} (h : o + n ≤ a.length) :
    slice (a ++ b) o n = slice a o n := by
  unfold slice
  rw [List.drop_append_of_le_length (by omega), List.take_append_of_le_length (by simp; omega)]

theorem slice_append_right {a b : List Byte} {o n : Nat} (h : a.length ≤ o) :
    slice (a ++ b) o n = slice b (o - a.length) n := by
  unfold slice
  rw [List.drop_append, List.drop_eq_nil_of_le h, List.nil_append]

theorem slice_all (a : List Byte) {n : Nat} (h : a.length = n) : slice a 0 n = a := by
  subst h; simp [slice]

theorem fld_append_left {a b : List Byte} {o n : Nat} (h : o + n ≤ a.length) :
    fld (a ++ b) o n = fld a o n := by rw [fld, slice_append_left h, fld]

theorem fld_append_right {a b : List Byte} {o n : Nat} (h : a.length ≤ o) :
    fld (a ++ b) o n = fld b (o - a.length) n := by rw [fld, slice_append_right h, fld]

/-- A field that starts a record. -/
theorem fld_le (n v : Nat) (b : List Byte) : fld (le n v ++ b) 0 n = v % 256 ^ n := by
  rw [fld_append_left (by simp), fld, slice_all _ (by simp), ofLe_le]

end Sys2Proof.Machine
end

