-- ==== Sys2Proof/Laws/State.lean ====
section
/-! SUPPORT. What the shared operations leave as it is: one lemma for each of them and each part of the
state, so that no proof unfolds a record update. -/

namespace Sys2Proof.Machine

/-! `elapse` moves the clocks and nothing else. -/

@[simp] theorem State.elapse_pending (s : State) (dt : Nat) : (s.elapse dt).pending = s.pending := rfl
@[simp] theorem State.elapse_hif (s : State) (dt : Nat) : (s.elapse dt).hif = s.hif := rfl
@[simp] theorem State.elapse_tly (s : State) (dt : Nat) : (s.elapse dt).tly = s.tly := rfl
@[simp] theorem State.elapse_day (s : State) (dt : Nat) : (s.elapse dt).day = s.day := rfl
@[simp] theorem State.elapse_sent (s : State) (dt : Nat) : (s.elapse dt).sent = s.sent := rfl
@[simp] theorem State.elapse_sys (s : State) (dt : Nat) : (s.elapse dt).sys = s.sys := rfl
@[simp] theorem State.elapse_flash (s : State) (dt : Nat) : (s.elapse dt).flash = s.flash := rfl
@[simp] theorem State.elapse_feedA (s : State) (dt : Nat) : (s.elapse dt).feedA = s.feedA := rfl
@[simp] theorem State.elapse_feedB (s : State) (dt : Nat) : (s.elapse dt).feedB = s.feedB := rfl
@[simp] theorem State.elapse_lehr (s : State) (dt : Nat) : (s.elapse dt).lehr = s.lehr := rfl
@[simp] theorem State.elapse_par (s : State) (dt : Nat) : (s.elapse dt).par = s.par := rfl
@[simp] theorem State.elapse_trk (s : State) (dt : Nat) : (s.elapse dt).trk = s.trk := rfl
@[simp] theorem State.elapse_pace (s : State) (dt : Nat) : (s.elapse dt).pace = s.pace := rfl
@[simp] theorem State.elapse_gaf (s : State) (dt : Nat) : (s.elapse dt).gaf = s.gaf := rfl
@[simp] theorem State.elapse_ports (s : State) (dt : Nat) : (s.elapse dt).ports = s.ports := rfl
@[simp] theorem State.elapse_fab (s : State) (dt : Nat) : (s.elapse dt).fab = s.fab := rfl
@[simp] theorem State.elapse_pd (s : State) (dt : Nat) : (s.elapse dt).pd = s.pd := rfl
@[simp] theorem State.elapse_inaug (s : State) (dt : Nat) : (s.elapse dt).inaug = s.inaug := rfl
@[simp] theorem State.elapse_time (s : State) (dt : Nat) : (s.elapse dt).time = s.time := rfl
@[simp] theorem State.elapse_can (s : State) (dt : Nat) : (s.elapse dt).can = s.can := rfl
@[simp] theorem State.elapse_sleep (s : State) (dt : Nat) : (s.elapse dt).sleep = s.sleep := rfl
@[simp] theorem State.elapse_meas (s : State) (dt : Nat) : (s.elapse dt).meas = s.meas := rfl
@[simp] theorem State.elapse_triad (s : State) (dt : Nat) : (s.elapse dt).triad = s.triad := rfl
@[simp] theorem State.elapse_twin (s : State) (dt : Nat) : (s.elapse dt).twin = s.twin := rfl
@[simp] theorem State.elapse_bridge (s : State) (dt : Nat) : (s.elapse dt).bridge = s.bridge := rfl
@[simp] theorem State.elapse_sec (s : State) (dt : Nat) : (s.elapse dt).sec = s.sec := rfl
@[simp] theorem State.elapse_seeds (s : State) (dt : Nat) : (s.elapse dt).seeds = s.seeds := rfl

/-! A tally that counts changes the tallies alone. -/

@[simp] theorem State.countN_pending (s : State) (k n : Nat) : (s.countN k n).pending = s.pending := rfl
@[simp] theorem State.countN_clk (s : State) (k n : Nat) : (s.countN k n).clk = s.clk := rfl
@[simp] theorem State.countN_hif (s : State) (k n : Nat) : (s.countN k n).hif = s.hif := rfl
@[simp] theorem State.countN_day (s : State) (k n : Nat) : (s.countN k n).day = s.day := rfl
@[simp] theorem State.countN_sent (s : State) (k n : Nat) : (s.countN k n).sent = s.sent := rfl
@[simp] theorem State.countN_sys (s : State) (k n : Nat) : (s.countN k n).sys = s.sys := rfl
@[simp] theorem State.countN_flash (s : State) (k n : Nat) : (s.countN k n).flash = s.flash := rfl
@[simp] theorem State.countN_feedA (s : State) (k n : Nat) : (s.countN k n).feedA = s.feedA := rfl
@[simp] theorem State.countN_feedB (s : State) (k n : Nat) : (s.countN k n).feedB = s.feedB := rfl
@[simp] theorem State.countN_lehr (s : State) (k n : Nat) : (s.countN k n).lehr = s.lehr := rfl
@[simp] theorem State.countN_par (s : State) (k n : Nat) : (s.countN k n).par = s.par := rfl
@[simp] theorem State.countN_trk (s : State) (k n : Nat) : (s.countN k n).trk = s.trk := rfl
@[simp] theorem State.countN_pace (s : State) (k n : Nat) : (s.countN k n).pace = s.pace := rfl
@[simp] theorem State.countN_gaf (s : State) (k n : Nat) : (s.countN k n).gaf = s.gaf := rfl
@[simp] theorem State.countN_ports (s : State) (k n : Nat) : (s.countN k n).ports = s.ports := rfl
@[simp] theorem State.countN_fab (s : State) (k n : Nat) : (s.countN k n).fab = s.fab := rfl
@[simp] theorem State.countN_pd (s : State) (k n : Nat) : (s.countN k n).pd = s.pd := rfl
@[simp] theorem State.countN_inaug (s : State) (k n : Nat) : (s.countN k n).inaug = s.inaug := rfl
@[simp] theorem State.countN_time (s : State) (k n : Nat) : (s.countN k n).time = s.time := rfl
@[simp] theorem State.countN_can (s : State) (k n : Nat) : (s.countN k n).can = s.can := rfl
@[simp] theorem State.countN_sleep (s : State) (k n : Nat) : (s.countN k n).sleep = s.sleep := rfl
@[simp] theorem State.countN_meas (s : State) (k n : Nat) : (s.countN k n).meas = s.meas := rfl
@[simp] theorem State.countN_triad (s : State) (k n : Nat) : (s.countN k n).triad = s.triad := rfl
@[simp] theorem State.countN_twin (s : State) (k n : Nat) : (s.countN k n).twin = s.twin := rfl
@[simp] theorem State.countN_bridge (s : State) (k n : Nat) : (s.countN k n).bridge = s.bridge := rfl
@[simp] theorem State.countN_sec (s : State) (k n : Nat) : (s.countN k n).sec = s.sec := rfl
@[simp] theorem State.countN_seeds (s : State) (k n : Nat) : (s.countN k n).seeds = s.seeds := rfl
@[simp] theorem State.count_pending (s : State) (k : Nat) : (s.count k).pending = s.pending := rfl
@[simp] theorem State.count_clk (s : State) (k : Nat) : (s.count k).clk = s.clk := rfl
@[simp] theorem State.count_hif (s : State) (k : Nat) : (s.count k).hif = s.hif := rfl
@[simp] theorem State.count_day (s : State) (k : Nat) : (s.count k).day = s.day := rfl
@[simp] theorem State.count_sent (s : State) (k : Nat) : (s.count k).sent = s.sent := rfl
@[simp] theorem State.count_sys (s : State) (k : Nat) : (s.count k).sys = s.sys := rfl
@[simp] theorem State.count_flash (s : State) (k : Nat) : (s.count k).flash = s.flash := rfl
@[simp] theorem State.count_feedA (s : State) (k : Nat) : (s.count k).feedA = s.feedA := rfl
@[simp] theorem State.count_feedB (s : State) (k : Nat) : (s.count k).feedB = s.feedB := rfl
@[simp] theorem State.count_lehr (s : State) (k : Nat) : (s.count k).lehr = s.lehr := rfl
@[simp] theorem State.count_par (s : State) (k : Nat) : (s.count k).par = s.par := rfl
@[simp] theorem State.count_trk (s : State) (k : Nat) : (s.count k).trk = s.trk := rfl
@[simp] theorem State.count_pace (s : State) (k : Nat) : (s.count k).pace = s.pace := rfl
@[simp] theorem State.count_gaf (s : State) (k : Nat) : (s.count k).gaf = s.gaf := rfl
@[simp] theorem State.count_ports (s : State) (k : Nat) : (s.count k).ports = s.ports := rfl
@[simp] theorem State.count_fab (s : State) (k : Nat) : (s.count k).fab = s.fab := rfl
@[simp] theorem State.count_pd (s : State) (k : Nat) : (s.count k).pd = s.pd := rfl
@[simp] theorem State.count_inaug (s : State) (k : Nat) : (s.count k).inaug = s.inaug := rfl
@[simp] theorem State.count_time (s : State) (k : Nat) : (s.count k).time = s.time := rfl
@[simp] theorem State.count_can (s : State) (k : Nat) : (s.count k).can = s.can := rfl
@[simp] theorem State.count_sleep (s : State) (k : Nat) : (s.count k).sleep = s.sleep := rfl
@[simp] theorem State.count_meas (s : State) (k : Nat) : (s.count k).meas = s.meas := rfl
@[simp] theorem State.count_triad (s : State) (k : Nat) : (s.count k).triad = s.triad := rfl
@[simp] theorem State.count_twin (s : State) (k : Nat) : (s.count k).twin = s.twin := rfl
@[simp] theorem State.count_bridge (s : State) (k : Nat) : (s.count k).bridge = s.bridge := rfl
@[simp] theorem State.count_sec (s : State) (k : Nat) : (s.count k).sec = s.sec := rfl
@[simp] theorem State.count_seeds (s : State) (k : Nat) : (s.count k).seeds = s.seeds := rfl
@[simp] theorem State.peak_pending (s : State) (k v : Nat) : (s.peak k v).pending = s.pending := rfl
@[simp] theorem State.peak_clk (s : State) (k v : Nat) : (s.peak k v).clk = s.clk := rfl
@[simp] theorem State.peak_hif (s : State) (k v : Nat) : (s.peak k v).hif = s.hif := rfl
@[simp] theorem State.peak_day (s : State) (k v : Nat) : (s.peak k v).day = s.day := rfl
@[simp] theorem State.peak_sent (s : State) (k v : Nat) : (s.peak k v).sent = s.sent := rfl
@[simp] theorem State.peak_sys (s : State) (k v : Nat) : (s.peak k v).sys = s.sys := rfl
@[simp] theorem State.peak_flash (s : State) (k v : Nat) : (s.peak k v).flash = s.flash := rfl
@[simp] theorem State.peak_feedA (s : State) (k v : Nat) : (s.peak k v).feedA = s.feedA := rfl
@[simp] theorem State.peak_feedB (s : State) (k v : Nat) : (s.peak k v).feedB = s.feedB := rfl
@[simp] theorem State.peak_lehr (s : State) (k v : Nat) : (s.peak k v).lehr = s.lehr := rfl
@[simp] theorem State.peak_par (s : State) (k v : Nat) : (s.peak k v).par = s.par := rfl
@[simp] theorem State.peak_trk (s : State) (k v : Nat) : (s.peak k v).trk = s.trk := rfl
@[simp] theorem State.peak_pace (s : State) (k v : Nat) : (s.peak k v).pace = s.pace := rfl
@[simp] theorem State.peak_gaf (s : State) (k v : Nat) : (s.peak k v).gaf = s.gaf := rfl
@[simp] theorem State.peak_ports (s : State) (k v : Nat) : (s.peak k v).ports = s.ports := rfl
@[simp] theorem State.peak_fab (s : State) (k v : Nat) : (s.peak k v).fab = s.fab := rfl
@[simp] theorem State.peak_pd (s : State) (k v : Nat) : (s.peak k v).pd = s.pd := rfl
@[simp] theorem State.peak_inaug (s : State) (k v : Nat) : (s.peak k v).inaug = s.inaug := rfl
@[simp] theorem State.peak_time (s : State) (k v : Nat) : (s.peak k v).time = s.time := rfl
@[simp] theorem State.peak_can (s : State) (k v : Nat) : (s.peak k v).can = s.can := rfl
@[simp] theorem State.peak_sleep (s : State) (k v : Nat) : (s.peak k v).sleep = s.sleep := rfl
@[simp] theorem State.peak_meas (s : State) (k v : Nat) : (s.peak k v).meas = s.meas := rfl
@[simp] theorem State.peak_triad (s : State) (k v : Nat) : (s.peak k v).triad = s.triad := rfl
@[simp] theorem State.peak_twin (s : State) (k v : Nat) : (s.peak k v).twin = s.twin := rfl
@[simp] theorem State.peak_bridge (s : State) (k v : Nat) : (s.peak k v).bridge = s.bridge := rfl
@[simp] theorem State.peak_sec (s : State) (k v : Nat) : (s.peak k v).sec = s.sec := rfl
@[simp] theorem State.peak_seeds (s : State) (k v : Nat) : (s.peak k v).seeds = s.seeds := rfl

/-! What leaves the device is listed in `sent` alone. -/

@[simp] theorem State.send_pending (s : State) (x : Sent) : (s.send x).pending = s.pending := rfl
@[simp] theorem State.send_clk (s : State) (x : Sent) : (s.send x).clk = s.clk := rfl
@[simp] theorem State.send_hif (s : State) (x : Sent) : (s.send x).hif = s.hif := rfl
@[simp] theorem State.send_tly (s : State) (x : Sent) : (s.send x).tly = s.tly := rfl
@[simp] theorem State.send_day (s : State) (x : Sent) : (s.send x).day = s.day := rfl
@[simp] theorem State.send_sys (s : State) (x : Sent) : (s.send x).sys = s.sys := rfl
@[simp] theorem State.send_flash (s : State) (x : Sent) : (s.send x).flash = s.flash := rfl
@[simp] theorem State.send_feedA (s : State) (x : Sent) : (s.send x).feedA = s.feedA := rfl
@[simp] theorem State.send_feedB (s : State) (x : Sent) : (s.send x).feedB = s.feedB := rfl
@[simp] theorem State.send_lehr (s : State) (x : Sent) : (s.send x).lehr = s.lehr := rfl
@[simp] theorem State.send_par (s : State) (x : Sent) : (s.send x).par = s.par := rfl
@[simp] theorem State.send_trk (s : State) (x : Sent) : (s.send x).trk = s.trk := rfl
@[simp] theorem State.send_pace (s : State) (x : Sent) : (s.send x).pace = s.pace := rfl
@[simp] theorem State.send_gaf (s : State) (x : Sent) : (s.send x).gaf = s.gaf := rfl
@[simp] theorem State.send_ports (s : State) (x : Sent) : (s.send x).ports = s.ports := rfl
@[simp] theorem State.send_fab (s : State) (x : Sent) : (s.send x).fab = s.fab := rfl
@[simp] theorem State.send_pd (s : State) (x : Sent) : (s.send x).pd = s.pd := rfl
@[simp] theorem State.send_inaug (s : State) (x : Sent) : (s.send x).inaug = s.inaug := rfl
@[simp] theorem State.send_time (s : State) (x : Sent) : (s.send x).time = s.time := rfl
@[simp] theorem State.send_can (s : State) (x : Sent) : (s.send x).can = s.can := rfl
@[simp] theorem State.send_sleep (s : State) (x : Sent) : (s.send x).sleep = s.sleep := rfl
@[simp] theorem State.send_meas (s : State) (x : Sent) : (s.send x).meas = s.meas := rfl
@[simp] theorem State.send_triad (s : State) (x : Sent) : (s.send x).triad = s.triad := rfl
@[simp] theorem State.send_twin (s : State) (x : Sent) : (s.send x).twin = s.twin := rfl
@[simp] theorem State.send_bridge (s : State) (x : Sent) : (s.send x).bridge = s.bridge := rfl
@[simp] theorem State.send_sec (s : State) (x : Sent) : (s.send x).sec = s.sec := rfl
@[simp] theorem State.send_seeds (s : State) (x : Sent) : (s.send x).seeds = s.seeds := rfl

/-! An event of a vector sets a status bit and may send a message. -/

theorem State.raise_keeps (s : State) (v : Nat) :
    (s.raise v) = { s with
      hif := { s.hif with intStatus := (s.raise v).hif.intStatus }, sent := (s.raise v).sent } := by
  unfold State.raise; dsimp only; split <;> rfl

@[simp] theorem State.raise_pending (s : State) (v : Nat) : (s.raise v).pending = s.pending := (congrArg State.pending (s.raise_keeps v)).trans rfl
@[simp] theorem State.raise_clk (s : State) (v : Nat) : (s.raise v).clk = s.clk := (congrArg State.clk (s.raise_keeps v)).trans rfl
@[simp] theorem State.raise_tly (s : State) (v : Nat) : (s.raise v).tly = s.tly := (congrArg State.tly (s.raise_keeps v)).trans rfl
@[simp] theorem State.raise_day (s : State) (v : Nat) : (s.raise v).day = s.day := (congrArg State.day (s.raise_keeps v)).trans rfl
@[simp] theorem State.raise_sys (s : State) (v : Nat) : (s.raise v).sys = s.sys := (congrArg State.sys (s.raise_keeps v)).trans rfl
@[simp] theorem State.raise_flash (s : State) (v : Nat) : (s.raise v).flash = s.flash := (congrArg State.flash (s.raise_keeps v)).trans rfl
@[simp] theorem State.raise_feedA (s : State) (v : Nat) : (s.raise v).feedA = s.feedA := (congrArg State.feedA (s.raise_keeps v)).trans rfl
@[simp] theorem State.raise_feedB (s : State) (v : Nat) : (s.raise v).feedB = s.feedB := (congrArg State.feedB (s.raise_keeps v)).trans rfl
@[simp] theorem State.raise_lehr (s : State) (v : Nat) : (s.raise v).lehr = s.lehr := (congrArg State.lehr (s.raise_keeps v)).trans rfl
@[simp] theorem State.raise_par (s : State) (v : Nat) : (s.raise v).par = s.par := (congrArg State.par (s.raise_keeps v)).trans rfl
@[simp] theorem State.raise_trk (s : State) (v : Nat) : (s.raise v).trk = s.trk := (congrArg State.trk (s.raise_keeps v)).trans rfl
@[simp] theorem State.raise_pace (s : State) (v : Nat) : (s.raise v).pace = s.pace := (congrArg State.pace (s.raise_keeps v)).trans rfl
@[simp] theorem State.raise_gaf (s : State) (v : Nat) : (s.raise v).gaf = s.gaf := (congrArg State.gaf (s.raise_keeps v)).trans rfl
@[simp] theorem State.raise_ports (s : State) (v : Nat) : (s.raise v).ports = s.ports := (congrArg State.ports (s.raise_keeps v)).trans rfl
@[simp] theorem State.raise_fab (s : State) (v : Nat) : (s.raise v).fab = s.fab := (congrArg State.fab (s.raise_keeps v)).trans rfl
@[simp] theorem State.raise_pd (s : State) (v : Nat) : (s.raise v).pd = s.pd := (congrArg State.pd (s.raise_keeps v)).trans rfl
@[simp] theorem State.raise_inaug (s : State) (v : Nat) : (s.raise v).inaug = s.inaug := (congrArg State.inaug (s.raise_keeps v)).trans rfl
@[simp] theorem State.raise_time (s : State) (v : Nat) : (s.raise v).time = s.time := (congrArg State.time (s.raise_keeps v)).trans rfl
@[simp] theorem State.raise_can (s : State) (v : Nat) : (s.raise v).can = s.can := (congrArg State.can (s.raise_keeps v)).trans rfl
@[simp] theorem State.raise_sleep (s : State) (v : Nat) : (s.raise v).sleep = s.sleep := (congrArg State.sleep (s.raise_keeps v)).trans rfl
@[simp] theorem State.raise_meas (s : State) (v : Nat) : (s.raise v).meas = s.meas := (congrArg State.meas (s.raise_keeps v)).trans rfl
@[simp] theorem State.raise_triad (s : State) (v : Nat) : (s.raise v).triad = s.triad := (congrArg State.triad (s.raise_keeps v)).trans rfl
@[simp] theorem State.raise_twin (s : State) (v : Nat) : (s.raise v).twin = s.twin := (congrArg State.twin (s.raise_keeps v)).trans rfl
@[simp] theorem State.raise_bridge (s : State) (v : Nat) : (s.raise v).bridge = s.bridge := (congrArg State.bridge (s.raise_keeps v)).trans rfl
@[simp] theorem State.raise_sec (s : State) (v : Nat) : (s.raise v).sec = s.sec := (congrArg State.sec (s.raise_keeps v)).trans rfl
@[simp] theorem State.raise_seeds (s : State) (v : Nat) : (s.raise v).seeds = s.seeds := (congrArg State.seeds (s.raise_keeps v)).trans rfl
@[simp] theorem State.raise_hif_req (s : State) (v : Nat) : (s.raise v).hif.req = s.hif.req :=
  (congrArg (·.hif.req) (s.raise_keeps v)).trans rfl
@[simp] theorem State.raise_hif_resp (s : State) (v : Nat) : (s.raise v).hif.resp = s.hif.resp :=
  (congrArg (·.hif.resp) (s.raise_keeps v)).trans rfl
@[simp] theorem State.raise_hif_mbxSeq (s : State) (v : Nat) : (s.raise v).hif.mbxSeq = s.hif.mbxSeq :=
  (congrArg (·.hif.mbxSeq) (s.raise_keeps v)).trans rfl
@[simp] theorem State.raise_hif_ready (s : State) (v : Nat) : (s.raise v).hif.ready = s.hif.ready :=
  (congrArg (·.hif.ready) (s.raise_keeps v)).trans rfl
@[simp] theorem State.raise_hif_reqBusy (s : State) (v : Nat) : (s.raise v).hif.reqBusy = s.hif.reqBusy :=
  (congrArg (·.hif.reqBusy) (s.raise_keeps v)).trans rfl
@[simp] theorem State.raise_hif_exec (s : State) (v : Nat) : (s.raise v).hif.exec = s.hif.exec :=
  (congrArg (·.hif.exec) (s.raise_keeps v)).trans rfl
@[simp] theorem State.raise_hif_respValid (s : State) (v : Nat) : (s.raise v).hif.respValid = s.hif.respValid :=
  (congrArg (·.hif.respValid) (s.raise_keeps v)).trans rfl
@[simp] theorem State.raise_hif_lastStatus (s : State) (v : Nat) : (s.raise v).hif.lastStatus = s.hif.lastStatus :=
  (congrArg (·.hif.lastStatus) (s.raise_keeps v)).trans rfl
@[simp] theorem State.raise_hif_intMask (s : State) (v : Nat) : (s.raise v).hif.intMask = s.hif.intMask :=
  (congrArg (·.hif.intMask) (s.raise_keeps v)).trans rfl
@[simp] theorem State.raise_hif_hostInt (s : State) (v : Nat) : (s.raise v).hif.hostInt = s.hif.hostInt :=
  (congrArg (·.hif.hostInt) (s.raise_keeps v)).trans rfl
@[simp] theorem State.raise_hif_held (s : State) (v : Nat) : (s.raise v).hif.held = s.hif.held :=
  (congrArg (·.hif.held) (s.raise_keeps v)).trans rfl
@[simp] theorem State.raise_hif_latch (s : State) (v : Nat) : (s.raise v).hif.latch = s.hif.latch :=
  (congrArg (·.hif.latch) (s.raise_keeps v)).trans rfl

/-! A deferred write waits in `flash`; a full list loses a daybook entry. -/

theorem State.deferWrite_keeps (s : State) (d : Deferred) :
    (s.deferWrite d) = { s with
      flash := (s.deferWrite d).flash, day := (s.deferWrite d).day, tly := (s.deferWrite d).tly } := by
  unfold State.deferWrite; dsimp only; split <;> rfl

@[simp] theorem State.deferWrite_pending (s : State) (d : Deferred) : (s.deferWrite d).pending = s.pending := (congrArg State.pending (s.deferWrite_keeps d)).trans rfl
@[simp] theorem State.deferWrite_clk (s : State) (d : Deferred) : (s.deferWrite d).clk = s.clk := (congrArg State.clk (s.deferWrite_keeps d)).trans rfl
@[simp] theorem State.deferWrite_hif (s : State) (d : Deferred) : (s.deferWrite d).hif = s.hif := (congrArg State.hif (s.deferWrite_keeps d)).trans rfl
@[simp] theorem State.deferWrite_sent (s : State) (d : Deferred) : (s.deferWrite d).sent = s.sent := (congrArg State.sent (s.deferWrite_keeps d)).trans rfl
@[simp] theorem State.deferWrite_sys (s : State) (d : Deferred) : (s.deferWrite d).sys = s.sys := (congrArg State.sys (s.deferWrite_keeps d)).trans rfl
@[simp] theorem State.deferWrite_feedA (s : State) (d : Deferred) : (s.deferWrite d).feedA = s.feedA := (congrArg State.feedA (s.deferWrite_keeps d)).trans rfl
@[simp] theorem State.deferWrite_feedB (s : State) (d : Deferred) : (s.deferWrite d).feedB = s.feedB := (congrArg State.feedB (s.deferWrite_keeps d)).trans rfl
@[simp] theorem State.deferWrite_lehr (s : State) (d : Deferred) : (s.deferWrite d).lehr = s.lehr := (congrArg State.lehr (s.deferWrite_keeps d)).trans rfl
@[simp] theorem State.deferWrite_par (s : State) (d : Deferred) : (s.deferWrite d).par = s.par := (congrArg State.par (s.deferWrite_keeps d)).trans rfl
@[simp] theorem State.deferWrite_trk (s : State) (d : Deferred) : (s.deferWrite d).trk = s.trk := (congrArg State.trk (s.deferWrite_keeps d)).trans rfl
@[simp] theorem State.deferWrite_pace (s : State) (d : Deferred) : (s.deferWrite d).pace = s.pace := (congrArg State.pace (s.deferWrite_keeps d)).trans rfl
@[simp] theorem State.deferWrite_gaf (s : State) (d : Deferred) : (s.deferWrite d).gaf = s.gaf := (congrArg State.gaf (s.deferWrite_keeps d)).trans rfl
@[simp] theorem State.deferWrite_ports (s : State) (d : Deferred) : (s.deferWrite d).ports = s.ports := (congrArg State.ports (s.deferWrite_keeps d)).trans rfl
@[simp] theorem State.deferWrite_fab (s : State) (d : Deferred) : (s.deferWrite d).fab = s.fab := (congrArg State.fab (s.deferWrite_keeps d)).trans rfl
@[simp] theorem State.deferWrite_pd (s : State) (d : Deferred) : (s.deferWrite d).pd = s.pd := (congrArg State.pd (s.deferWrite_keeps d)).trans rfl
@[simp] theorem State.deferWrite_inaug (s : State) (d : Deferred) : (s.deferWrite d).inaug = s.inaug := (congrArg State.inaug (s.deferWrite_keeps d)).trans rfl
@[simp] theorem State.deferWrite_time (s : State) (d : Deferred) : (s.deferWrite d).time = s.time := (congrArg State.time (s.deferWrite_keeps d)).trans rfl
@[simp] theorem State.deferWrite_can (s : State) (d : Deferred) : (s.deferWrite d).can = s.can := (congrArg State.can (s.deferWrite_keeps d)).trans rfl
@[simp] theorem State.deferWrite_sleep (s : State) (d : Deferred) : (s.deferWrite d).sleep = s.sleep := (congrArg State.sleep (s.deferWrite_keeps d)).trans rfl
@[simp] theorem State.deferWrite_meas (s : State) (d : Deferred) : (s.deferWrite d).meas = s.meas := (congrArg State.meas (s.deferWrite_keeps d)).trans rfl
@[simp] theorem State.deferWrite_triad (s : State) (d : Deferred) : (s.deferWrite d).triad = s.triad := (congrArg State.triad (s.deferWrite_keeps d)).trans rfl
@[simp] theorem State.deferWrite_twin (s : State) (d : Deferred) : (s.deferWrite d).twin = s.twin := (congrArg State.twin (s.deferWrite_keeps d)).trans rfl
@[simp] theorem State.deferWrite_bridge (s : State) (d : Deferred) : (s.deferWrite d).bridge = s.bridge := (congrArg State.bridge (s.deferWrite_keeps d)).trans rfl
@[simp] theorem State.deferWrite_sec (s : State) (d : Deferred) : (s.deferWrite d).sec = s.sec := (congrArg State.sec (s.deferWrite_keeps d)).trans rfl
@[simp] theorem State.deferWrite_seeds (s : State) (d : Deferred) : (s.deferWrite d).seeds = s.seeds := (congrArg State.seeds (s.deferWrite_keeps d)).trans rfl

/-! Entering an event touches the daybook, the flash, the tallies, a status bit and messages. -/

theorem State.enter_keeps (s : State) (r : RawEv) :
    (s.enter r) = { s with
      hif := { s.hif with intStatus := (s.enter r).hif.intStatus }, flash := (s.enter r).flash, day := (s.enter r).day, tly := (s.enter r).tly, sent := (s.enter r).sent } := by
  unfold State.enter; dsimp only
  split
  · split
    · rw [State.raise_keeps, State.deferWrite_keeps]
    · rw [State.raise_keeps]
  · rw [State.raise_keeps]

@[simp] theorem State.enter_pending (s : State) (r : RawEv) : (s.enter r).pending = s.pending := (congrArg State.pending (s.enter_keeps r)).trans rfl
@[simp] theorem State.enter_clk (s : State) (r : RawEv) : (s.enter r).clk = s.clk := (congrArg State.clk (s.enter_keeps r)).trans rfl
@[simp] theorem State.enter_sys (s : State) (r : RawEv) : (s.enter r).sys = s.sys := (congrArg State.sys (s.enter_keeps r)).trans rfl
@[simp] theorem State.enter_feedA (s : State) (r : RawEv) : (s.enter r).feedA = s.feedA := (congrArg State.feedA (s.enter_keeps r)).trans rfl
@[simp] theorem State.enter_feedB (s : State) (r : RawEv) : (s.enter r).feedB = s.feedB := (congrArg State.feedB (s.enter_keeps r)).trans rfl
@[simp] theorem State.enter_lehr (s : State) (r : RawEv) : (s.enter r).lehr = s.lehr := (congrArg State.lehr (s.enter_keeps r)).trans rfl
@[simp] theorem State.enter_par (s : State) (r : RawEv) : (s.enter r).par = s.par := (congrArg State.par (s.enter_keeps r)).trans rfl
@[simp] theorem State.enter_trk (s : State) (r : RawEv) : (s.enter r).trk = s.trk := (congrArg State.trk (s.enter_keeps r)).trans rfl
@[simp] theorem State.enter_pace (s : State) (r : RawEv) : (s.enter r).pace = s.pace := (congrArg State.pace (s.enter_keeps r)).trans rfl
@[simp] theorem State.enter_gaf (s : State) (r : RawEv) : (s.enter r).gaf = s.gaf := (congrArg State.gaf (s.enter_keeps r)).trans rfl
@[simp] theorem State.enter_ports (s : State) (r : RawEv) : (s.enter r).ports = s.ports := (congrArg State.ports (s.enter_keeps r)).trans rfl
@[simp] theorem State.enter_fab (s : State) (r : RawEv) : (s.enter r).fab = s.fab := (congrArg State.fab (s.enter_keeps r)).trans rfl
@[simp] theorem State.enter_pd (s : State) (r : RawEv) : (s.enter r).pd = s.pd := (congrArg State.pd (s.enter_keeps r)).trans rfl
@[simp] theorem State.enter_inaug (s : State) (r : RawEv) : (s.enter r).inaug = s.inaug := (congrArg State.inaug (s.enter_keeps r)).trans rfl
@[simp] theorem State.enter_time (s : State) (r : RawEv) : (s.enter r).time = s.time := (congrArg State.time (s.enter_keeps r)).trans rfl
@[simp] theorem State.enter_can (s : State) (r : RawEv) : (s.enter r).can = s.can := (congrArg State.can (s.enter_keeps r)).trans rfl
@[simp] theorem State.enter_sleep (s : State) (r : RawEv) : (s.enter r).sleep = s.sleep := (congrArg State.sleep (s.enter_keeps r)).trans rfl
@[simp] theorem State.enter_meas (s : State) (r : RawEv) : (s.enter r).meas = s.meas := (congrArg State.meas (s.enter_keeps r)).trans rfl
@[simp] theorem State.enter_triad (s : State) (r : RawEv) : (s.enter r).triad = s.triad := (congrArg State.triad (s.enter_keeps r)).trans rfl
@[simp] theorem State.enter_twin (s : State) (r : RawEv) : (s.enter r).twin = s.twin := (congrArg State.twin (s.enter_keeps r)).trans rfl
@[simp] theorem State.enter_bridge (s : State) (r : RawEv) : (s.enter r).bridge = s.bridge := (congrArg State.bridge (s.enter_keeps r)).trans rfl
@[simp] theorem State.enter_sec (s : State) (r : RawEv) : (s.enter r).sec = s.sec := (congrArg State.sec (s.enter_keeps r)).trans rfl
@[simp] theorem State.enter_seeds (s : State) (r : RawEv) : (s.enter r).seeds = s.seeds := (congrArg State.seeds (s.enter_keeps r)).trans rfl
@[simp] theorem State.enter_hif_req (s : State) (r : RawEv) : (s.enter r).hif.req = s.hif.req :=
  (congrArg (·.hif.req) (s.enter_keeps r)).trans rfl
@[simp] theorem State.enter_hif_resp (s : State) (r : RawEv) : (s.enter r).hif.resp = s.hif.resp :=
  (congrArg (·.hif.resp) (s.enter_keeps r)).trans rfl
@[simp] theorem State.enter_hif_mbxSeq (s : State) (r : RawEv) : (s.enter r).hif.mbxSeq = s.hif.mbxSeq :=
  (congrArg (·.hif.mbxSeq) (s.enter_keeps r)).trans rfl
@[simp] theorem State.enter_hif_ready (s : State) (r : RawEv) : (s.enter r).hif.ready = s.hif.ready :=
  (congrArg (·.hif.ready) (s.enter_keeps r)).trans rfl
@[simp] theorem State.enter_hif_reqBusy (s : State) (r : RawEv) : (s.enter r).hif.reqBusy = s.hif.reqBusy :=
  (congrArg (·.hif.reqBusy) (s.enter_keeps r)).trans rfl
@[simp] theorem State.enter_hif_exec (s : State) (r : RawEv) : (s.enter r).hif.exec = s.hif.exec :=
  (congrArg (·.hif.exec) (s.enter_keeps r)).trans rfl
@[simp] theorem State.enter_hif_respValid (s : State) (r : RawEv) : (s.enter r).hif.respValid = s.hif.respValid :=
  (congrArg (·.hif.respValid) (s.enter_keeps r)).trans rfl
@[simp] theorem State.enter_hif_lastStatus (s : State) (r : RawEv) : (s.enter r).hif.lastStatus = s.hif.lastStatus :=
  (congrArg (·.hif.lastStatus) (s.enter_keeps r)).trans rfl
@[simp] theorem State.enter_hif_intMask (s : State) (r : RawEv) : (s.enter r).hif.intMask = s.hif.intMask :=
  (congrArg (·.hif.intMask) (s.enter_keeps r)).trans rfl
@[simp] theorem State.enter_hif_hostInt (s : State) (r : RawEv) : (s.enter r).hif.hostInt = s.hif.hostInt :=
  (congrArg (·.hif.hostInt) (s.enter_keeps r)).trans rfl
@[simp] theorem State.enter_hif_held (s : State) (r : RawEv) : (s.enter r).hif.held = s.hif.held :=
  (congrArg (·.hif.held) (s.enter_keeps r)).trans rfl
@[simp] theorem State.enter_hif_latch (s : State) (r : RawEv) : (s.enter r).hif.latch = s.hif.latch :=
  (congrArg (·.hif.latch) (s.enter_keeps r)).trans rfl

/-! An event raised: entered, or held for the teller. -/

theorem State.note_keeps (s : State) (c : Nat) (a : List Byte) :
    (s.note c a) = { s with
      hif := { s.hif with intStatus := (s.note c a).hif.intStatus }, flash := (s.note c a).flash, day := (s.note c a).day, tly := (s.note c a).tly, sent := (s.note c a).sent } := by
  unfold State.note; dsimp only
  generalize hr : (RawEv.mk c a _) = r
  split
  · rw [State.raise_keeps] at *
    split
    · rw [State.enter_keeps]
    · split <;> rfl
  · split
    · rw [State.enter_keeps]
    · split <;> rfl

@[simp] theorem State.note_pending (s : State) (c : Nat) (a : List Byte) : (s.note c a).pending = s.pending := (congrArg State.pending (s.note_keeps c a)).trans rfl
@[simp] theorem State.note_clk (s : State) (c : Nat) (a : List Byte) : (s.note c a).clk = s.clk := (congrArg State.clk (s.note_keeps c a)).trans rfl
@[simp] theorem State.note_sys (s : State) (c : Nat) (a : List Byte) : (s.note c a).sys = s.sys := (congrArg State.sys (s.note_keeps c a)).trans rfl
@[simp] theorem State.note_feedA (s : State) (c : Nat) (a : List Byte) : (s.note c a).feedA = s.feedA := (congrArg State.feedA (s.note_keeps c a)).trans rfl
@[simp] theorem State.note_feedB (s : State) (c : Nat) (a : List Byte) : (s.note c a).feedB = s.feedB := (congrArg State.feedB (s.note_keeps c a)).trans rfl
@[simp] theorem State.note_lehr (s : State) (c : Nat) (a : List Byte) : (s.note c a).lehr = s.lehr := (congrArg State.lehr (s.note_keeps c a)).trans rfl
@[simp] theorem State.note_par (s : State) (c : Nat) (a : List Byte) : (s.note c a).par = s.par := (congrArg State.par (s.note_keeps c a)).trans rfl
@[simp] theorem State.note_trk (s : State) (c : Nat) (a : List Byte) : (s.note c a).trk = s.trk := (congrArg State.trk (s.note_keeps c a)).trans rfl
@[simp] theorem State.note_pace (s : State) (c : Nat) (a : List Byte) : (s.note c a).pace = s.pace := (congrArg State.pace (s.note_keeps c a)).trans rfl
@[simp] theorem State.note_gaf (s : State) (c : Nat) (a : List Byte) : (s.note c a).gaf = s.gaf := (congrArg State.gaf (s.note_keeps c a)).trans rfl
@[simp] theorem State.note_ports (s : State) (c : Nat) (a : List Byte) : (s.note c a).ports = s.ports := (congrArg State.ports (s.note_keeps c a)).trans rfl
@[simp] theorem State.note_fab (s : State) (c : Nat) (a : List Byte) : (s.note c a).fab = s.fab := (congrArg State.fab (s.note_keeps c a)).trans rfl
@[simp] theorem State.note_pd (s : State) (c : Nat) (a : List Byte) : (s.note c a).pd = s.pd := (congrArg State.pd (s.note_keeps c a)).trans rfl
@[simp] theorem State.note_inaug (s : State) (c : Nat) (a : List Byte) : (s.note c a).inaug = s.inaug := (congrArg State.inaug (s.note_keeps c a)).trans rfl
@[simp] theorem State.note_time (s : State) (c : Nat) (a : List Byte) : (s.note c a).time = s.time := (congrArg State.time (s.note_keeps c a)).trans rfl
@[simp] theorem State.note_can (s : State) (c : Nat) (a : List Byte) : (s.note c a).can = s.can := (congrArg State.can (s.note_keeps c a)).trans rfl
@[simp] theorem State.note_sleep (s : State) (c : Nat) (a : List Byte) : (s.note c a).sleep = s.sleep := (congrArg State.sleep (s.note_keeps c a)).trans rfl
@[simp] theorem State.note_meas (s : State) (c : Nat) (a : List Byte) : (s.note c a).meas = s.meas := (congrArg State.meas (s.note_keeps c a)).trans rfl
@[simp] theorem State.note_triad (s : State) (c : Nat) (a : List Byte) : (s.note c a).triad = s.triad := (congrArg State.triad (s.note_keeps c a)).trans rfl
@[simp] theorem State.note_twin (s : State) (c : Nat) (a : List Byte) : (s.note c a).twin = s.twin := (congrArg State.twin (s.note_keeps c a)).trans rfl
@[simp] theorem State.note_bridge (s : State) (c : Nat) (a : List Byte) : (s.note c a).bridge = s.bridge := (congrArg State.bridge (s.note_keeps c a)).trans rfl
@[simp] theorem State.note_sec (s : State) (c : Nat) (a : List Byte) : (s.note c a).sec = s.sec := (congrArg State.sec (s.note_keeps c a)).trans rfl
@[simp] theorem State.note_seeds (s : State) (c : Nat) (a : List Byte) : (s.note c a).seeds = s.seeds := (congrArg State.seeds (s.note_keeps c a)).trans rfl
@[simp] theorem State.note_hif_req (s : State) (c : Nat) (a : List Byte) : (s.note c a).hif.req = s.hif.req :=
  (congrArg (·.hif.req) (s.note_keeps c a)).trans rfl
@[simp] theorem State.note_hif_resp (s : State) (c : Nat) (a : List Byte) : (s.note c a).hif.resp = s.hif.resp :=
  (congrArg (·.hif.resp) (s.note_keeps c a)).trans rfl
@[simp] theorem State.note_hif_mbxSeq (s : State) (c : Nat) (a : List Byte) : (s.note c a).hif.mbxSeq = s.hif.mbxSeq :=
  (congrArg (·.hif.mbxSeq) (s.note_keeps c a)).trans rfl
@[simp] theorem State.note_hif_ready (s : State) (c : Nat) (a : List Byte) : (s.note c a).hif.ready = s.hif.ready :=
  (congrArg (·.hif.ready) (s.note_keeps c a)).trans rfl
@[simp] theorem State.note_hif_reqBusy (s : State) (c : Nat) (a : List Byte) : (s.note c a).hif.reqBusy = s.hif.reqBusy :=
  (congrArg (·.hif.reqBusy) (s.note_keeps c a)).trans rfl
@[simp] theorem State.note_hif_exec (s : State) (c : Nat) (a : List Byte) : (s.note c a).hif.exec = s.hif.exec :=
  (congrArg (·.hif.exec) (s.note_keeps c a)).trans rfl
@[simp] theorem State.note_hif_respValid (s : State) (c : Nat) (a : List Byte) : (s.note c a).hif.respValid = s.hif.respValid :=
  (congrArg (·.hif.respValid) (s.note_keeps c a)).trans rfl
@[simp] theorem State.note_hif_lastStatus (s : State) (c : Nat) (a : List Byte) : (s.note c a).hif.lastStatus = s.hif.lastStatus :=
  (congrArg (·.hif.lastStatus) (s.note_keeps c a)).trans rfl
@[simp] theorem State.note_hif_intMask (s : State) (c : Nat) (a : List Byte) : (s.note c a).hif.intMask = s.hif.intMask :=
  (congrArg (·.hif.intMask) (s.note_keeps c a)).trans rfl
@[simp] theorem State.note_hif_hostInt (s : State) (c : Nat) (a : List Byte) : (s.note c a).hif.hostInt = s.hif.hostInt :=
  (congrArg (·.hif.hostInt) (s.note_keeps c a)).trans rfl
@[simp] theorem State.note_hif_held (s : State) (c : Nat) (a : List Byte) : (s.note c a).hif.held = s.hif.held :=
  (congrArg (·.hif.held) (s.note_keeps c a)).trans rfl
@[simp] theorem State.note_hif_latch (s : State) (c : Nat) (a : List Byte) : (s.note c a).hif.latch = s.hif.latch :=
  (congrArg (·.hif.latch) (s.note_keeps c a)).trans rfl
theorem State.noteOnce_keeps (s : State) (u c : Nat) (a : List Byte) :
    (s.noteOnce u c a) = { s with
      hif := { s.hif with intStatus := (s.noteOnce u c a).hif.intStatus }, flash := (s.noteOnce u c a).flash, day := (s.noteOnce u c a).day, tly := (s.noteOnce u c a).tly, sent := (s.noteOnce u c a).sent } := by
  unfold State.noteOnce; dsimp only
  split
  · rfl
  · rw [State.note_keeps]

@[simp] theorem State.noteOnce_pending (s : State) (u c : Nat) (a : List Byte) : (s.noteOnce u c a).pending = s.pending := (congrArg State.pending (s.noteOnce_keeps u c a)).trans rfl
@[simp] theorem State.noteOnce_clk (s : State) (u c : Nat) (a : List Byte) : (s.noteOnce u c a).clk = s.clk := (congrArg State.clk (s.noteOnce_keeps u c a)).trans rfl
@[simp] theorem State.noteOnce_sys (s : State) (u c : Nat) (a : List Byte) : (s.noteOnce u c a).sys = s.sys := (congrArg State.sys (s.noteOnce_keeps u c a)).trans rfl
@[simp] theorem State.noteOnce_feedA (s : State) (u c : Nat) (a : List Byte) : (s.noteOnce u c a).feedA = s.feedA := (congrArg State.feedA (s.noteOnce_keeps u c a)).trans rfl
@[simp] theorem State.noteOnce_feedB (s : State) (u c : Nat) (a : List Byte) : (s.noteOnce u c a).feedB = s.feedB := (congrArg State.feedB (s.noteOnce_keeps u c a)).trans rfl
@[simp] theorem State.noteOnce_lehr (s : State) (u c : Nat) (a : List Byte) : (s.noteOnce u c a).lehr = s.lehr := (congrArg State.lehr (s.noteOnce_keeps u c a)).trans rfl
@[simp] theorem State.noteOnce_par (s : State) (u c : Nat) (a : List Byte) : (s.noteOnce u c a).par = s.par := (congrArg State.par (s.noteOnce_keeps u c a)).trans rfl
@[simp] theorem State.noteOnce_trk (s : State) (u c : Nat) (a : List Byte) : (s.noteOnce u c a).trk = s.trk := (congrArg State.trk (s.noteOnce_keeps u c a)).trans rfl
@[simp] theorem State.noteOnce_pace (s : State) (u c : Nat) (a : List Byte) : (s.noteOnce u c a).pace = s.pace := (congrArg State.pace (s.noteOnce_keeps u c a)).trans rfl
@[simp] theorem State.noteOnce_gaf (s : State) (u c : Nat) (a : List Byte) : (s.noteOnce u c a).gaf = s.gaf := (congrArg State.gaf (s.noteOnce_keeps u c a)).trans rfl
@[simp] theorem State.noteOnce_ports (s : State) (u c : Nat) (a : List Byte) : (s.noteOnce u c a).ports = s.ports := (congrArg State.ports (s.noteOnce_keeps u c a)).trans rfl
@[simp] theorem State.noteOnce_fab (s : State) (u c : Nat) (a : List Byte) : (s.noteOnce u c a).fab = s.fab := (congrArg State.fab (s.noteOnce_keeps u c a)).trans rfl
@[simp] theorem State.noteOnce_pd (s : State) (u c : Nat) (a : List Byte) : (s.noteOnce u c a).pd = s.pd := (congrArg State.pd (s.noteOnce_keeps u c a)).trans rfl
@[simp] theorem State.noteOnce_inaug (s : State) (u c : Nat) (a : List Byte) : (s.noteOnce u c a).inaug = s.inaug := (congrArg State.inaug (s.noteOnce_keeps u c a)).trans rfl
@[simp] theorem State.noteOnce_time (s : State) (u c : Nat) (a : List Byte) : (s.noteOnce u c a).time = s.time := (congrArg State.time (s.noteOnce_keeps u c a)).trans rfl
@[simp] theorem State.noteOnce_can (s : State) (u c : Nat) (a : List Byte) : (s.noteOnce u c a).can = s.can := (congrArg State.can (s.noteOnce_keeps u c a)).trans rfl
@[simp] theorem State.noteOnce_sleep (s : State) (u c : Nat) (a : List Byte) : (s.noteOnce u c a).sleep = s.sleep := (congrArg State.sleep (s.noteOnce_keeps u c a)).trans rfl
@[simp] theorem State.noteOnce_meas (s : State) (u c : Nat) (a : List Byte) : (s.noteOnce u c a).meas = s.meas := (congrArg State.meas (s.noteOnce_keeps u c a)).trans rfl
@[simp] theorem State.noteOnce_triad (s : State) (u c : Nat) (a : List Byte) : (s.noteOnce u c a).triad = s.triad := (congrArg State.triad (s.noteOnce_keeps u c a)).trans rfl
@[simp] theorem State.noteOnce_twin (s : State) (u c : Nat) (a : List Byte) : (s.noteOnce u c a).twin = s.twin := (congrArg State.twin (s.noteOnce_keeps u c a)).trans rfl
@[simp] theorem State.noteOnce_bridge (s : State) (u c : Nat) (a : List Byte) : (s.noteOnce u c a).bridge = s.bridge := (congrArg State.bridge (s.noteOnce_keeps u c a)).trans rfl
@[simp] theorem State.noteOnce_sec (s : State) (u c : Nat) (a : List Byte) : (s.noteOnce u c a).sec = s.sec := (congrArg State.sec (s.noteOnce_keeps u c a)).trans rfl
@[simp] theorem State.noteOnce_seeds (s : State) (u c : Nat) (a : List Byte) : (s.noteOnce u c a).seeds = s.seeds := (congrArg State.seeds (s.noteOnce_keeps u c a)).trans rfl
@[simp] theorem State.noteOnce_hif_req (s : State) (u c : Nat) (a : List Byte) : (s.noteOnce u c a).hif.req = s.hif.req :=
  (congrArg (·.hif.req) (s.noteOnce_keeps u c a)).trans rfl
@[simp] theorem State.noteOnce_hif_resp (s : State) (u c : Nat) (a : List Byte) : (s.noteOnce u c a).hif.resp = s.hif.resp :=
  (congrArg (·.hif.resp) (s.noteOnce_keeps u c a)).trans rfl
@[simp] theorem State.noteOnce_hif_mbxSeq (s : State) (u c : Nat) (a : List Byte) : (s.noteOnce u c a).hif.mbxSeq = s.hif.mbxSeq :=
  (congrArg (·.hif.mbxSeq) (s.noteOnce_keeps u c a)).trans rfl
@[simp] theorem State.noteOnce_hif_ready (s : State) (u c : Nat) (a : List Byte) : (s.noteOnce u c a).hif.ready = s.hif.ready :=
  (congrArg (·.hif.ready) (s.noteOnce_keeps u c a)).trans rfl
@[simp] theorem State.noteOnce_hif_reqBusy (s : State) (u c : Nat) (a : List Byte) : (s.noteOnce u c a).hif.reqBusy = s.hif.reqBusy :=
  (congrArg (·.hif.reqBusy) (s.noteOnce_keeps u c a)).trans rfl
@[simp] theorem State.noteOnce_hif_exec (s : State) (u c : Nat) (a : List Byte) : (s.noteOnce u c a).hif.exec = s.hif.exec :=
  (congrArg (·.hif.exec) (s.noteOnce_keeps u c a)).trans rfl
@[simp] theorem State.noteOnce_hif_respValid (s : State) (u c : Nat) (a : List Byte) : (s.noteOnce u c a).hif.respValid = s.hif.respValid :=
  (congrArg (·.hif.respValid) (s.noteOnce_keeps u c a)).trans rfl
@[simp] theorem State.noteOnce_hif_lastStatus (s : State) (u c : Nat) (a : List Byte) : (s.noteOnce u c a).hif.lastStatus = s.hif.lastStatus :=
  (congrArg (·.hif.lastStatus) (s.noteOnce_keeps u c a)).trans rfl
@[simp] theorem State.noteOnce_hif_intMask (s : State) (u c : Nat) (a : List Byte) : (s.noteOnce u c a).hif.intMask = s.hif.intMask :=
  (congrArg (·.hif.intMask) (s.noteOnce_keeps u c a)).trans rfl
@[simp] theorem State.noteOnce_hif_hostInt (s : State) (u c : Nat) (a : List Byte) : (s.noteOnce u c a).hif.hostInt = s.hif.hostInt :=
  (congrArg (·.hif.hostInt) (s.noteOnce_keeps u c a)).trans rfl
@[simp] theorem State.noteOnce_hif_held (s : State) (u c : Nat) (a : List Byte) : (s.noteOnce u c a).hif.held = s.hif.held :=
  (congrArg (·.hif.held) (s.noteOnce_keeps u c a)).trans rfl
@[simp] theorem State.noteOnce_hif_latch (s : State) (u c : Nat) (a : List Byte) : (s.noteOnce u c a).hif.latch = s.hif.latch :=
  (congrArg (·.hif.latch) (s.noteOnce_keeps u c a)).trans rfl

/-! A configuration record is written or waits. -/

theorem State.persist_keeps (s : State) (k : Nat) (b : List Byte) :
    (s.persist k b) = { s with
      flash := (s.persist k b).flash, day := (s.persist k b).day, tly := (s.persist k b).tly } := by
  unfold State.persist
  split
  · rw [State.deferWrite_keeps]
  · rfl

@[simp] theorem State.persist_pending (s : State) (k : Nat) (b : List Byte) : (s.persist k b).pending = s.pending := (congrArg State.pending (s.persist_keeps k b)).trans rfl
@[simp] theorem State.persist_clk (s : State) (k : Nat) (b : List Byte) : (s.persist k b).clk = s.clk := (congrArg State.clk (s.persist_keeps k b)).trans rfl
@[simp] theorem State.persist_hif (s : State) (k : Nat) (b : List Byte) : (s.persist k b).hif = s.hif := (congrArg State.hif (s.persist_keeps k b)).trans rfl
@[simp] theorem State.persist_sent (s : State) (k : Nat) (b : List Byte) : (s.persist k b).sent = s.sent := (congrArg State.sent (s.persist_keeps k b)).trans rfl
@[simp] theorem State.persist_sys (s : State) (k : Nat) (b : List Byte) : (s.persist k b).sys = s.sys := (congrArg State.sys (s.persist_keeps k b)).trans rfl
@[simp] theorem State.persist_feedA (s : State) (k : Nat) (b : List Byte) : (s.persist k b).feedA = s.feedA := (congrArg State.feedA (s.persist_keeps k b)).trans rfl
@[simp] theorem State.persist_feedB (s : State) (k : Nat) (b : List Byte) : (s.persist k b).feedB = s.feedB := (congrArg State.feedB (s.persist_keeps k b)).trans rfl
@[simp] theorem State.persist_lehr (s : State) (k : Nat) (b : List Byte) : (s.persist k b).lehr = s.lehr := (congrArg State.lehr (s.persist_keeps k b)).trans rfl
@[simp] theorem State.persist_par (s : State) (k : Nat) (b : List Byte) : (s.persist k b).par = s.par := (congrArg State.par (s.persist_keeps k b)).trans rfl
@[simp] theorem State.persist_trk (s : State) (k : Nat) (b : List Byte) : (s.persist k b).trk = s.trk := (congrArg State.trk (s.persist_keeps k b)).trans rfl
@[simp] theorem State.persist_pace (s : State) (k : Nat) (b : List Byte) : (s.persist k b).pace = s.pace := (congrArg State.pace (s.persist_keeps k b)).trans rfl
@[simp] theorem State.persist_gaf (s : State) (k : Nat) (b : List Byte) : (s.persist k b).gaf = s.gaf := (congrArg State.gaf (s.persist_keeps k b)).trans rfl
@[simp] theorem State.persist_ports (s : State) (k : Nat) (b : List Byte) : (s.persist k b).ports = s.ports := (congrArg State.ports (s.persist_keeps k b)).trans rfl
@[simp] theorem State.persist_fab (s : State) (k : Nat) (b : List Byte) : (s.persist k b).fab = s.fab := (congrArg State.fab (s.persist_keeps k b)).trans rfl
@[simp] theorem State.persist_pd (s : State) (k : Nat) (b : List Byte) : (s.persist k b).pd = s.pd := (congrArg State.pd (s.persist_keeps k b)).trans rfl
@[simp] theorem State.persist_inaug (s : State) (k : Nat) (b : List Byte) : (s.persist k b).inaug = s.inaug := (congrArg State.inaug (s.persist_keeps k b)).trans rfl
@[simp] theorem State.persist_time (s : State) (k : Nat) (b : List Byte) : (s.persist k b).time = s.time := (congrArg State.time (s.persist_keeps k b)).trans rfl
@[simp] theorem State.persist_can (s : State) (k : Nat) (b : List Byte) : (s.persist k b).can = s.can := (congrArg State.can (s.persist_keeps k b)).trans rfl
@[simp] theorem State.persist_sleep (s : State) (k : Nat) (b : List Byte) : (s.persist k b).sleep = s.sleep := (congrArg State.sleep (s.persist_keeps k b)).trans rfl
@[simp] theorem State.persist_meas (s : State) (k : Nat) (b : List Byte) : (s.persist k b).meas = s.meas := (congrArg State.meas (s.persist_keeps k b)).trans rfl
@[simp] theorem State.persist_triad (s : State) (k : Nat) (b : List Byte) : (s.persist k b).triad = s.triad := (congrArg State.triad (s.persist_keeps k b)).trans rfl
@[simp] theorem State.persist_twin (s : State) (k : Nat) (b : List Byte) : (s.persist k b).twin = s.twin := (congrArg State.twin (s.persist_keeps k b)).trans rfl
@[simp] theorem State.persist_bridge (s : State) (k : Nat) (b : List Byte) : (s.persist k b).bridge = s.bridge := (congrArg State.bridge (s.persist_keeps k b)).trans rfl
@[simp] theorem State.persist_sec (s : State) (k : Nat) (b : List Byte) : (s.persist k b).sec = s.sec := (congrArg State.sec (s.persist_keeps k b)).trans rfl
@[simp] theorem State.persist_seeds (s : State) (k : Nat) (b : List Byte) : (s.persist k b).seeds = s.seeds := (congrArg State.seeds (s.persist_keeps k b)).trans rfl

/-! The request area is part of the mailbox. -/

@[simp] theorem State.writeReq_pending (s : State) (op : Nat) (r : Req) : (s.writeReq op r).pending = s.pending := rfl
@[simp] theorem State.writeReq_clk (s : State) (op : Nat) (r : Req) : (s.writeReq op r).clk = s.clk := rfl
@[simp] theorem State.writeReq_tly (s : State) (op : Nat) (r : Req) : (s.writeReq op r).tly = s.tly := rfl
@[simp] theorem State.writeReq_day (s : State) (op : Nat) (r : Req) : (s.writeReq op r).day = s.day := rfl
@[simp] theorem State.writeReq_sent (s : State) (op : Nat) (r : Req) : (s.writeReq op r).sent = s.sent := rfl
@[simp] theorem State.writeReq_sys (s : State) (op : Nat) (r : Req) : (s.writeReq op r).sys = s.sys := rfl
@[simp] theorem State.writeReq_flash (s : State) (op : Nat) (r : Req) : (s.writeReq op r).flash = s.flash := rfl
@[simp] theorem State.writeReq_feedA (s : State) (op : Nat) (r : Req) : (s.writeReq op r).feedA = s.feedA := rfl
@[simp] theorem State.writeReq_feedB (s : State) (op : Nat) (r : Req) : (s.writeReq op r).feedB = s.feedB := rfl
@[simp] theorem State.writeReq_lehr (s : State) (op : Nat) (r : Req) : (s.writeReq op r).lehr = s.lehr := rfl
@[simp] theorem State.writeReq_par (s : State) (op : Nat) (r : Req) : (s.writeReq op r).par = s.par := rfl
@[simp] theorem State.writeReq_trk (s : State) (op : Nat) (r : Req) : (s.writeReq op r).trk = s.trk := rfl
@[simp] theorem State.writeReq_pace (s : State) (op : Nat) (r : Req) : (s.writeReq op r).pace = s.pace := rfl
@[simp] theorem State.writeReq_gaf (s : State) (op : Nat) (r : Req) : (s.writeReq op r).gaf = s.gaf := rfl
@[simp] theorem State.writeReq_ports (s : State) (op : Nat) (r : Req) : (s.writeReq op r).ports = s.ports := rfl
@[simp] theorem State.writeReq_fab (s : State) (op : Nat) (r : Req) : (s.writeReq op r).fab = s.fab := rfl
@[simp] theorem State.writeReq_pd (s : State) (op : Nat) (r : Req) : (s.writeReq op r).pd = s.pd := rfl
@[simp] theorem State.writeReq_inaug (s : State) (op : Nat) (r : Req) : (s.writeReq op r).inaug = s.inaug := rfl
@[simp] theorem State.writeReq_time (s : State) (op : Nat) (r : Req) : (s.writeReq op r).time = s.time := rfl
@[simp] theorem State.writeReq_can (s : State) (op : Nat) (r : Req) : (s.writeReq op r).can = s.can := rfl
@[simp] theorem State.writeReq_sleep (s : State) (op : Nat) (r : Req) : (s.writeReq op r).sleep = s.sleep := rfl
@[simp] theorem State.writeReq_meas (s : State) (op : Nat) (r : Req) : (s.writeReq op r).meas = s.meas := rfl
@[simp] theorem State.writeReq_triad (s : State) (op : Nat) (r : Req) : (s.writeReq op r).triad = s.triad := rfl
@[simp] theorem State.writeReq_twin (s : State) (op : Nat) (r : Req) : (s.writeReq op r).twin = s.twin := rfl
@[simp] theorem State.writeReq_bridge (s : State) (op : Nat) (r : Req) : (s.writeReq op r).bridge = s.bridge := rfl
@[simp] theorem State.writeReq_sec (s : State) (op : Nat) (r : Req) : (s.writeReq op r).sec = s.sec := rfl
@[simp] theorem State.writeReq_seeds (s : State) (op : Nat) (r : Req) : (s.writeReq op r).seeds = s.seeds := rfl

/-! A response touches the mailbox, the tallies and messages. -/

@[simp] theorem State.respond_pending (s : State) (op tag seq st : Nat) (b : List Byte) :
    (s.respond op tag seq st b).pending = s.pending := by simp [State.respond]
@[simp] theorem State.respond_clk (s : State) (op tag seq st : Nat) (b : List Byte) :
    (s.respond op tag seq st b).clk = s.clk := by simp [State.respond]
@[simp] theorem State.respond_day (s : State) (op tag seq st : Nat) (b : List Byte) :
    (s.respond op tag seq st b).day = s.day := by simp [State.respond]
@[simp] theorem State.respond_sys (s : State) (op tag seq st : Nat) (b : List Byte) :
    (s.respond op tag seq st b).sys = s.sys := by simp [State.respond]
@[simp] theorem State.respond_flash (s : State) (op tag seq st : Nat) (b : List Byte) :
    (s.respond op tag seq st b).flash = s.flash := by simp [State.respond]
@[simp] theorem State.respond_feedA (s : State) (op tag seq st : Nat) (b : List Byte) :
    (s.respond op tag seq st b).feedA = s.feedA := by simp [State.respond]
@[simp] theorem State.respond_feedB (s : State) (op tag seq st : Nat) (b : List Byte) :
    (s.respond op tag seq st b).feedB = s.feedB := by simp [State.respond]
@[simp] theorem State.respond_lehr (s : State) (op tag seq st : Nat) (b : List Byte) :
    (s.respond op tag seq st b).lehr = s.lehr := by simp [State.respond]
@[simp] theorem State.respond_par (s : State) (op tag seq st : Nat) (b : List Byte) :
    (s.respond op tag seq st b).par = s.par := by simp [State.respond]
@[simp] theorem State.respond_trk (s : State) (op tag seq st : Nat) (b : List Byte) :
    (s.respond op tag seq st b).trk = s.trk := by simp [State.respond]
@[simp] theorem State.respond_pace (s : State) (op tag seq st : Nat) (b : List Byte) :
    (s.respond op tag seq st b).pace = s.pace := by simp [State.respond]
@[simp] theorem State.respond_gaf (s : State) (op tag seq st : Nat) (b : List Byte) :
    (s.respond op tag seq st b).gaf = s.gaf := by simp [State.respond]
@[simp] theorem State.respond_ports (s : State) (op tag seq st : Nat) (b : List Byte) :
    (s.respond op tag seq st b).ports = s.ports := by simp [State.respond]
@[simp] theorem State.respond_fab (s : State) (op tag seq st : Nat) (b : List Byte) :
    (s.respond op tag seq st b).fab = s.fab := by simp [State.respond]
@[simp] theorem State.respond_pd (s : State) (op tag seq st : Nat) (b : List Byte) :
    (s.respond op tag seq st b).pd = s.pd := by simp [State.respond]
@[simp] theorem State.respond_inaug (s : State) (op tag seq st : Nat) (b : List Byte) :
    (s.respond op tag seq st b).inaug = s.inaug := by simp [State.respond]
@[simp] theorem State.respond_time (s : State) (op tag seq st : Nat) (b : List Byte) :
    (s.respond op tag seq st b).time = s.time := by simp [State.respond]
@[simp] theorem State.respond_can (s : State) (op tag seq st : Nat) (b : List Byte) :
    (s.respond op tag seq st b).can = s.can := by simp [State.respond]
@[simp] theorem State.respond_sleep (s : State) (op tag seq st : Nat) (b : List Byte) :
    (s.respond op tag seq st b).sleep = s.sleep := by simp [State.respond]
@[simp] theorem State.respond_meas (s : State) (op tag seq st : Nat) (b : List Byte) :
    (s.respond op tag seq st b).meas = s.meas := by simp [State.respond]
@[simp] theorem State.respond_triad (s : State) (op tag seq st : Nat) (b : List Byte) :
    (s.respond op tag seq st b).triad = s.triad := by simp [State.respond]
@[simp] theorem State.respond_twin (s : State) (op tag seq st : Nat) (b : List Byte) :
    (s.respond op tag seq st b).twin = s.twin := by simp [State.respond]
@[simp] theorem State.respond_bridge (s : State) (op tag seq st : Nat) (b : List Byte) :
    (s.respond op tag seq st b).bridge = s.bridge := by simp [State.respond]
@[simp] theorem State.respond_sec (s : State) (op tag seq st : Nat) (b : List Byte) :
    (s.respond op tag seq st b).sec = s.sec := by simp [State.respond]
@[simp] theorem State.respond_seeds (s : State) (op tag seq st : Nat) (b : List Byte) :
    (s.respond op tag seq st b).seeds = s.seeds := by simp [State.respond]

/-! The pins are HOST_INT_N, the insertion controls with their settle times, and TWIN_ACT. -/

theorem State.pins_keeps (s : State) : s.pins = { s with
    hif := { s.hif with hostInt := s.pins.hif.hostInt }, inaug := s.pins.inaug
    twin := { s.twin with act := s.pins.twin.act } } := by
  unfold State.pins State.insControl; dsimp only; rfl

@[simp] theorem State.pins_pending (s : State) : s.pins.pending = s.pending :=
  (congrArg State.pending s.pins_keeps).trans rfl
@[simp] theorem State.pins_clk (s : State) : s.pins.clk = s.clk :=
  (congrArg State.clk s.pins_keeps).trans rfl
@[simp] theorem State.pins_tly (s : State) : s.pins.tly = s.tly :=
  (congrArg State.tly s.pins_keeps).trans rfl
@[simp] theorem State.pins_day (s : State) : s.pins.day = s.day :=
  (congrArg State.day s.pins_keeps).trans rfl
@[simp] theorem State.pins_sent (s : State) : s.pins.sent = s.sent :=
  (congrArg State.sent s.pins_keeps).trans rfl
@[simp] theorem State.pins_sys (s : State) : s.pins.sys = s.sys :=
  (congrArg State.sys s.pins_keeps).trans rfl
@[simp] theorem State.pins_flash (s : State) : s.pins.flash = s.flash :=
  (congrArg State.flash s.pins_keeps).trans rfl
@[simp] theorem State.pins_feedA (s : State) : s.pins.feedA = s.feedA :=
  (congrArg State.feedA s.pins_keeps).trans rfl
@[simp] theorem State.pins_feedB (s : State) : s.pins.feedB = s.feedB :=
  (congrArg State.feedB s.pins_keeps).trans rfl
@[simp] theorem State.pins_lehr (s : State) : s.pins.lehr = s.lehr :=
  (congrArg State.lehr s.pins_keeps).trans rfl
@[simp] theorem State.pins_par (s : State) : s.pins.par = s.par :=
  (congrArg State.par s.pins_keeps).trans rfl
@[simp] theorem State.pins_trk (s : State) : s.pins.trk = s.trk :=
  (congrArg State.trk s.pins_keeps).trans rfl
@[simp] theorem State.pins_pace (s : State) : s.pins.pace = s.pace :=
  (congrArg State.pace s.pins_keeps).trans rfl
@[simp] theorem State.pins_gaf (s : State) : s.pins.gaf = s.gaf :=
  (congrArg State.gaf s.pins_keeps).trans rfl
@[simp] theorem State.pins_ports (s : State) : s.pins.ports = s.ports :=
  (congrArg State.ports s.pins_keeps).trans rfl
@[simp] theorem State.pins_fab (s : State) : s.pins.fab = s.fab :=
  (congrArg State.fab s.pins_keeps).trans rfl
@[simp] theorem State.pins_pd (s : State) : s.pins.pd = s.pd :=
  (congrArg State.pd s.pins_keeps).trans rfl
@[simp] theorem State.pins_time (s : State) : s.pins.time = s.time :=
  (congrArg State.time s.pins_keeps).trans rfl
@[simp] theorem State.pins_can (s : State) : s.pins.can = s.can :=
  (congrArg State.can s.pins_keeps).trans rfl
@[simp] theorem State.pins_sleep (s : State) : s.pins.sleep = s.sleep :=
  (congrArg State.sleep s.pins_keeps).trans rfl
@[simp] theorem State.pins_meas (s : State) : s.pins.meas = s.meas :=
  (congrArg State.meas s.pins_keeps).trans rfl
@[simp] theorem State.pins_triad (s : State) : s.pins.triad = s.triad :=
  (congrArg State.triad s.pins_keeps).trans rfl
@[simp] theorem State.pins_bridge (s : State) : s.pins.bridge = s.bridge :=
  (congrArg State.bridge s.pins_keeps).trans rfl
@[simp] theorem State.pins_sec (s : State) : s.pins.sec = s.sec :=
  (congrArg State.sec s.pins_keeps).trans rfl
@[simp] theorem State.pins_seeds (s : State) : s.pins.seeds = s.seeds :=
  (congrArg State.seeds s.pins_keeps).trans rfl

end Sys2Proof.Machine
end

