-- ==== Sys2Proof/Laws/Frame.lean ====
section
/-! SUPPORT. What the shared operations change at most, in the words of the frames; which tallies an
event counts; what the pins leave. -/

namespace Sys2Proof.Machine

theorem pins_same (s : State) (p : Part) : s.same s.pins p := by
  cases p <;> simp [State.same, State.pins, State.insControl]

theorem pins_pending (s : State) : s.pins.pending = s.pending := by
  simp [State.pins, State.insControl]

theorem only_pins {s t : State} {l : List Part} (h : t.onlyChanges s l) : t.pins.onlyChanges s l := by
  refine ⟨by rw [pins_pending]; exact h.1, fun p hp => ?_⟩
  have h1 := pins_same t p
  have h2 := h.2 p hp
  cases p <;> simp only [State.same] at h1 h2 ⊢ <;> simp_all

theorem only_elapse (s : State) (dt : Nat) (l) : (s.elapse dt).onlyChanges s l :=
  ⟨rfl, fun p _ => by cases p <;> simp [State.same]; rfl⟩

theorem pinsRight_pins (s : State) : s.pins.PinsRight := by
  refine ⟨rfl, ?_, ?_, ?_⟩
  · simp [State.pins, State.insControl, State.inserted, State.awake, State.hasDom, State.feed]
  · simp [State.pins, State.insControl, State.inserted, State.awake, State.hasDom, State.feed]
  · simp [State.pins, State.insControl, State.actHolds, State.awake, State.now]

theorem only_trans {s t u : State} {l : List Part} (h : t.onlyChanges s l) (k : u.onlyChanges t l) :
    u.onlyChanges s l := by
  refine ⟨k.1.trans h.1, fun p hp => ?_⟩
  have h1 := h.2 p hp
  have h2 := k.2 p hp
  cases p <;> simp only [State.same] at h1 h2 ⊢ <;> simp_all

theorem respond_only (s : State) (op tag seq st : Nat) (b : List Byte) :
    (s.respond op tag seq st b).onlyChanges s answerParts := by
  refine ⟨by simp [State.respond], fun p hp => ?_⟩
  cases p <;> simp [answerParts] at hp <;> simp [State.same, State.respond]

theorem writeReq_only (s : State) (op) (r) (l : List Part) (h : .mailbox ∈ l) :
    (s.writeReq op r).onlyChanges s l := by
  refine ⟨rfl, fun p hp => ?_⟩
  cases p <;> first | exact absurd h hp | exact ⟨rfl, rfl⟩ | rfl

theorem pins_int (s : State) : s.pins.hif.intStatus = s.hif.intStatus := by
  simp [State.pins, State.insControl]

theorem respond_int (s : State) (op tag seq st b) : (s.respond op tag seq st b).hif.intStatus.getLsbD 0 = true := by
  simp [State.respond, State.raise, State.send]
  split <;> simp

theorem count_only (s : State) (k n) (l : List Part) (h : .tallies ∈ l) : (s.countN k n).onlyChanges s l := by
  refine ⟨rfl, fun p hp => ?_⟩
  cases p <;> first | exact absurd h hp | exact ⟨rfl, rfl⟩ | rfl

theorem only_mono {s t : State} {l l' : List Part} (h : t.onlyChanges s l) (hl : ∀ p ∈ l, p ∈ l') : t.onlyChanges s l' :=
  ⟨h.1, fun p hp => h.2 p (fun hq => hp (hl p hq))⟩

theorem raise_only (s : State) (v) (l : List Part) (h : .interrupts ∈ l) (h' : .outputs ∈ l) : (s.raise v).onlyChanges s l := by
  refine ⟨by simp [State.raise]; split <;> rfl, fun p hp => ?_⟩
  cases p <;> first | exact absurd h hp | exact absurd h' hp | (simp [State.same, State.raise]; try (split <;> simp [State.send]))

theorem deferWrite_only (s : State) (d) (l : List Part) (h : .tallies ∈ l) (h' : .flash ∈ l) (h'' : .daybook ∈ l) : (s.deferWrite d).onlyChanges s l := by
  refine ⟨by simp, fun p hp => ?_⟩
  cases p <;> first | exact absurd h hp | exact absurd h' hp | exact absurd h'' hp | simp [State.same]

theorem enter_only (s : State) (e) (l : List Part) (h : ∀ p ∈ eventParts, p ∈ l) : (s.enter e).onlyChanges s l := by
  refine ⟨by simp, fun p hp => ?_⟩
  cases p <;> first | exact absurd (h _ (by decide)) hp | simp [State.same]

theorem note_only (s : State) (c a) (l : List Part) (h : ∀ p ∈ eventParts, p ∈ l) : (s.note c a).onlyChanges s l := by
  refine ⟨by simp, fun p hp => ?_⟩
  cases p <;> first | exact absurd (h _ (by decide)) hp | simp [State.same]

theorem noteOnce_only (s : State) (k c a) (l : List Part) (h : ∀ p ∈ eventParts, p ∈ l) : (s.noteOnce k c a).onlyChanges s l := by
  refine ⟨by simp, fun p hp => ?_⟩
  cases p <;> first | exact absurd (h _ (by decide)) hp | simp [State.same]

theorem count_tally (s : State) (j n k : Nat) (h : k ≠ j) :
    Tab.get 0 (s.countN j n).tly.live k = Tab.get 0 s.tly.live k :=
  Tab.get_upd_ne 0 s.tly.live (fun v => min tlyMax (v + n)) h

theorem deferWrite_tally (s : State) (d) (k : Nat) (h5 : k ≠ tlFeed 5) (h6 : k ≠ tlFeed 6) :
    Tab.get 0 (s.deferWrite d).tly.live k = Tab.get 0 s.tly.live k := by
  simp only [State.deferWrite]
  split
  · rw [State.count, count_tally _ _ _ _ h6]; exact count_tally _ _ _ _ h5
  · exact count_tally _ _ _ _ h5

theorem raise_tly (s : State) (v) : (s.raise v).tly = s.tly := by
  simp only [State.raise]; split <;> rfl

theorem enter_tally (s : State) (e) (k : Nat) (h5 : k ≠ tlFeed 5) (h6 : k ≠ tlFeed 6) :
    Tab.get 0 (s.enter e).tly.live k = Tab.get 0 s.tly.live k := by
  simp only [State.enter, raise_tly]
  split
  · split
    · rw [deferWrite_tally _ _ _ h5 h6]
    · rfl
  · rfl

theorem note_tally (s : State) (c a) (k : Nat) (h5 : k ≠ tlFeed 5) (h6 : k ≠ tlFeed 6) :
    Tab.get 0 (s.note c a).tly.live k = Tab.get 0 s.tly.live k := by
  have aux : ∀ (u : State) (r : RawEv), u.tly = s.tly →
      Tab.get 0 (if u.tellerUp then u.enter r else if u.day.held.length < 256 then
        { u with day := { u.day with held := u.day.held ++ [r] } } else u.count (tlFeed 6)).tly.live k =
      Tab.get 0 s.tly.live k := by
    intro u r hu
    split
    · rw [enter_tally _ _ _ h5 h6, hu]
    · split
      · exact congrArg (fun t => Tab.get 0 (Tly.live t) k) hu
      · rw [State.count, count_tally _ _ _ _ h6, hu]
  unfold State.note
  cases evVector c with
  | none => exact aux s _ rfl
  | some v => exact aux (s.raise v) _ (raise_tly s v)

theorem noteOnce_tally (s : State) (u c a) (k : Nat) (h5 : k ≠ tlFeed 5) (h6 : k ≠ tlFeed 6) :
    Tab.get 0 (s.noteOnce u c a).tly.live k = Tab.get 0 s.tly.live k := by
  simp only [State.noteOnce]
  split
  · rfl
  · rw [note_tally _ _ _ _ h5 h6]

theorem pins_tly (s : State) : s.pins.tly = s.tly := by simp [State.pins, State.insControl]

theorem pins_hif (s : State) : s.pins.hif = { s.hif with hostInt := s.hostIntLevel } := by
  simp [State.pins, State.insControl, State.hostIntLevel]

theorem only_store {s t : State} {l : List Part} (h : .store ∈ l) (e : t = { s with pd := t.pd }) : t.onlyChanges s l := by
  rw [e]; refine ⟨rfl, fun p hp => ?_⟩
  cases p <;> first | exact absurd h hp | exact ⟨rfl, rfl⟩ | rfl

theorem pins_pd (s : State) : s.pins.pd = s.pd := by simp [State.pins, State.insControl]

theorem pins_only (s : State) (l) : s.pins.onlyChanges s l := only_pins ⟨rfl, fun p _ => by cases p <;> simp [State.same]⟩

theorem respond_live (s : State) (op tag seq st b) (k) (h : k ≠ tlSec 5) :
   Tab.get 0 (s.respond op tag seq st b).tly.live k = Tab.get 0 s.tly.live k := by
  simp only [State.respond, raise_tly]
  exact count_tally _ _ _ _ h

theorem respond_snap (s : State) (op tag seq st b) : (s.respond op tag seq st b).tly.snap = s.tly.snap := by
  simp only [State.respond, raise_tly]; rfl

end Sys2Proof.Machine
end

