-- ==== Sys2Proof/Laws/Mailbox.lean ====
section
/-! SUPPORT. The mailbox as one operation: a free mailbox takes a plain request whole, runs its
command, and answers. -/

namespace Sys2Proof.Machine

/-- The header the host writes. -/
def reqHeader (op : Nat) (r : Req) : List Byte :=
  le 2 op ++ le 2 r.tag.toNat ++ le 4 r.len.toNat ++ le 4 r.seq.toNat ++ padTo 0 20 r.rsv

theorem reqHeader_length (op : Nat) (r : Req) : (reqHeader op r).length = 32 := by
  simp [reqHeader]

theorem writeReq_req (s : State) (op : Nat) (r : Req) :
    (s.writeReq op r).hif.req = memWrite s.hif.req 0 (reqHeader op r ++ r.body.take 4064) := rfl

theorem allZero_padTo (n : Nat) (l : List Byte) (h : allZero (l.take n) = true) :
    allZero (padTo 0 n l) = true := by
  induction n generalizing l with
  | zero => rfl
  | succ n ih =>
    cases l with
    | nil => simpa [padTo, allZero] using ih [] (by simp [allZero])
    | cons a l =>
      simp only [List.take_succ_cons, allZero, List.all_cons, Bool.and_eq_true] at h
      simp only [padTo, allZero, List.all_cons, Bool.and_eq_true]
      exact ⟨h.1, ih l h.2⟩

/-- The fields of the header as the device reads them. -/
theorem header_fields (m : Mem) (op : Nat) (r : Req) (hop : op < 65536) (h : r.plain) :
    let req := memWrite m 0 (reqHeader op r ++ r.body.take 4064)
    let b := memRead req 0 32
    fld b 0 2 = op ∧ fld b 2 2 = r.tag.toNat ∧ fld b 4 4 = r.body.length ∧ fld b 8 4 = r.seq.toNat ∧
      zeroAt b 12 20 = true ∧ memRead req 32 r.body.length = r.body := by
  obtain ⟨hl, hb, hz⟩ := h
  have hlen := reqHeader_length op r
  have hbody : r.body.take 4064 = r.body := List.take_of_length_le hb
  rw [hbody]
  have hd : memRead (memWrite m 0 (reqHeader op r ++ r.body)) 0 32 = reqHeader op r := by
    rw [memRead_memWrite_part _ _ _ _ (by simp [hlen]),
      slice_append_left (by omega), slice_all _ hlen]
  have hbd : memRead (memWrite m 0 (reqHeader op r ++ r.body)) 32 r.body.length = r.body := by
    rw [memRead_memWrite_part _ _ _ _ (by simp [hlen]),
      slice_append_right (by omega), hlen, slice_all _ rfl]
  have ht := r.tag.isLt
  have hs := r.seq.isLt
  have hn := r.len.isLt
  simp only [hd, hbd]
  refine ⟨?_, ?_, ?_, ?_, ?_, trivial⟩ <;> unfold reqHeader <;>
    simp only [List.append_assoc]
  · rw [fld_le]; omega
  · rw [fld_append_right (by simp), le_length, fld_le]; omega
  · rw [fld_append_right (by simp), fld_append_right (by simp), le_length, le_length, fld_le]; omega
  · rw [fld_append_right (by simp), fld_append_right (by simp), fld_append_right (by simp),
      le_length, le_length, le_length, fld_le]; omega
  · unfold zeroAt
    rw [slice_append_right (by simp), slice_append_right (by simp), slice_append_right (by simp),
      slice_append_right (by simp)]
    simp only [le_length]
    rw [slice_all _ (by simp)]
    exact allZero_padTo 20 r.rsv hz

/-- What a command's run sees: the state with the request in the request area. -/
theorem submit_run (s : State) (c : Cmd) (r : Req) (hop : c.op < 65536) (hf : s.mbxFree)
    (hp : r.plain) (hs : c.shape r.body = true) :
    s.submit c r =
      let u := s.writeReq c.op r
      let a := c.run r.body u
      if a.wait then
        { a.st with hif := { a.st.hif with
            exec := true, held := some { op := c.op, tag := r.tag.toNat, seq := r.seq.toNat, body := r.body } } }
      else a.st.respond c.op r.tag.toNat r.seq.toNat a.status a.body := by
  obtain ⟨ha, hr, hb, he, hv, hl⟩ := hf
  obtain ⟨h1, h2, h3, h4, h5, h6⟩ := header_fields s.hif.req c.op r hop hp
  have hlen := hp.2.1
  have hstage : (s.sys.stage == Stage.loader) = false := by simpa using hl
  simp only [State.submit, ha, if_true, State.ringReq]
  have e1 : (s.writeReq c.op r).hif.ready = true := hr
  have e2 : (s.writeReq c.op r).hif.reqBusy = false := hb
  have e3 : (s.writeReq c.op r).hif.exec = false := he
  have e4 : (s.writeReq c.op r).hif.respValid = false := hv
  simp only [e1, e2, e3, e4, Bool.not_true, Bool.or_false, Bool.false_eq_true, if_false]
  simp only [State.serve, writeReq_req, h1, h2, h3, h4, h5, h6, if_true, Bool.not_true,
    Bool.false_eq_true, if_false, hs, State.writeReq_sys, hstage, Bool.false_and]
  rw [if_neg (by omega)]

/-- An answer once written stands in the response area. -/
theorem respond_answered (s : State) (op : Nat) (r : Req) (st : Nat) (b : List Byte) :
    (s.respond op r.tag.toNat r.seq.toNat st b).answered op r st b := by
  have hl : (respHeader op r.tag.toNat b.length r.seq.toNat st).length = 32 := by
    simp [respHeader]
  refine ⟨?_, ?_, ?_, ?_, ?_, ?_⟩
  · simp [State.respond]
  · simp [State.respond]
  · simp [State.respond]
  · simp [State.respond]
  · simp [State.respond]
  · have := memRead_memWrite s.hif.resp 0
      (respHeader op r.tag.toNat b.length r.seq.toNat st ++ b)
    rw [List.length_append, hl] at this
    simpa [State.respond] using this

theorem answered_pins {s : State} {op : Nat} {r : Req} {st : Nat} {b : List Byte}
    (h : s.answered op r st b) : s.pins.answered op r st b := h

/-- A free mailbox answers a plain request of the command's shape: what the command's run leaves,
answered, is the state after it. -/
theorem mailbox_answers (s : State) (c : Cmd) (r : Req) (hop : c.op < 65536) (hf : s.mbxFree)
    (hp : r.plain) (hs : c.shape r.body = true)
    (hw : (c.run r.body (s.writeReq c.op r)).wait = false) :
    let a := c.run r.body (s.writeReq c.op r)
    go (s.submit c r) = .next (a.st.respond c.op r.tag.toNat r.seq.toNat a.status a.body).pins := by
  simp only [submit_run s c r hop hf hp hs, hw, Bool.false_eq_true, if_false, go]

/-- Time alone does not touch the mailbox. -/
@[simp] theorem mbxFree_elapse (s : State) (dt : Nat) : (s.elapse dt).mbxFree ↔ s.mbxFree := Iff.rfl

/-- A command that completes at once: its answer stands, and all else is what its run left. -/
theorem mailbox_done (s : State) (c : Cmd) (r : Req) (hop : c.op < 65536) (hf : s.mbxFree)
    (hp : r.plain) (hs : c.shape r.body = true) (st : Nat) (b : List Byte) (u : State)
    (hrun : c.run r.body (s.writeReq c.op r) = ans st b u) :
    ∃ t, go (s.submit c r) = .next t ∧ t.answered c.op r st b ∧
      t = (u.respond c.op r.tag.toNat r.seq.toNat st b).pins := by
  have h := mailbox_answers s c r hop hf hp hs (by rw [hrun]; rfl)
  simp only [hrun] at h
  exact ⟨_, h, answered_pins (respond_answered u c.op r st b), rfl⟩

/-- Padding with zeros adds no non-zero byte. -/
theorem padTo_allZero (n : Nat) (l : List Byte) : allZero (padTo 0 n l) = allZero (l.take n) := by
  induction n generalizing l with
  | zero => rfl
  | succ n ih =>
    cases l with
    | nil => have := ih []; simpa [padTo, allZero] using this
    | cons a l => have := ih l; simp only [padTo, List.take_succ_cons, allZero, List.all_cons] at this ⊢; rw [this]

/-- The words of the header as the device reads them, whatever the request. -/
theorem header_words (m : Mem) (op : Nat) (r : Req) (hop : op < 65536) :
    let req := memWrite m 0 (reqHeader op r ++ r.body.take 4064)
    let b := memRead req 0 32
    fld b 0 2 = op ∧ fld b 2 2 = r.tag.toNat ∧ fld b 4 4 = r.len.toNat ∧ fld b 8 4 = r.seq.toNat ∧
      zeroAt b 12 20 = allZero (r.rsv.take 20) := by
  have hlen := reqHeader_length op r
  have hd : memRead (memWrite m 0 (reqHeader op r ++ r.body.take 4064)) 0 32 = reqHeader op r := by
    rw [memRead_memWrite_part _ _ _ _ (by simp [hlen]),
      slice_append_left (by omega), slice_all _ hlen]
  have ht := r.tag.isLt
  have hs := r.seq.isLt
  have hn := r.len.isLt
  simp only [hd]
  refine ⟨?_, ?_, ?_, ?_, ?_⟩ <;> unfold reqHeader <;> simp only [List.append_assoc]
  · rw [fld_le]; omega
  · rw [fld_append_right (by simp), le_length, fld_le]; omega
  · rw [fld_append_right (by simp), fld_append_right (by simp), le_length, le_length, fld_le]; omega
  · rw [fld_append_right (by simp), fld_append_right (by simp), fld_append_right (by simp),
      le_length, le_length, le_length, fld_le]; omega
  · unfold zeroAt
    rw [slice_append_right (by simp), slice_append_right (by simp), slice_append_right (by simp),
      slice_append_right (by simp)]
    simp only [le_length]
    rw [slice_all _ (by simp)]
    exact padTo_allZero 20 r.rsv

/-- Every row of the mailbox submits its command. -/
theorem mailbox_row (c : Instr) (dt k r) (h : mailboxRow c = some (dt, k, r)) (s : State) :
    exec c s = go ((s.elapse dt).submit k r) ∧ k.op < 65536 := by
  cases c <;> simp only [mailboxRow, Option.some.injEq, Prod.mk.injEq, reduceCtorEq] at h
  all_goals (obtain ⟨rfl, rfl, rfl⟩ := h; exact ⟨rfl, by decide⟩)

/-- A row whose run changes nothing is answered, and its answer is all that changes. -/
theorem mailbox_read (s : State) (dt : Nat) (c : Cmd) (r : Req) (hop : c.op < 65536) (hf : s.mbxFree)
    (hp : r.plain) (hs : c.shape r.body = true) (st : Nat) (b : List Byte)
    (hrun : c.run r.body ((s.elapse dt).writeReq c.op r) = ans st b ((s.elapse dt).writeReq c.op r)) :
    ∃ t, go ((s.elapse dt).submit c r) = .next t ∧ t.answered c.op r st b ∧ t.onlyChanges s answerParts := by
  obtain ⟨t, h1, h2, h3⟩ := mailbox_done (s.elapse dt) c r hop hf hp hs st b _ hrun
  exact ⟨t, h1, h2, by rw [h3]; exact only_pins (only_trans (only_trans (only_elapse s dt _) (writeReq_only _ _ _ _ (by decide))) (respond_only _ _ _ _ _ _))⟩

/-- A row whose run changes parts `l` at most is answered, and besides its answer nothing else
changes. -/
theorem mailbox_change (s : State) (dt : Nat) (c : Cmd) (r : Req) (l : List Part) (hop : c.op < 65536)
    (hf : s.mbxFree) (hp : r.plain) (hs : c.shape r.body = true) (st : Nat) (b : List Byte) (u : State)
    (hrun : c.run r.body ((s.elapse dt).writeReq c.op r) = ans st b u)
    (hl : ∀ p ∈ answerParts, p ∈ l) (hu : u.onlyChanges ((s.elapse dt).writeReq c.op r) l) :
    ∃ t, go ((s.elapse dt).submit c r) = .next t ∧ t.answered c.op r st b ∧ t.onlyChanges s l ∧
      t = (u.respond c.op r.tag.toNat r.seq.toNat st b).pins := by
  obtain ⟨t, h1, h2, h3⟩ := mailbox_done (s.elapse dt) c r hop hf hp hs st b u hrun
  refine ⟨t, h1, h2, ?_, h3⟩
  rw [h3]
  exact only_pins (only_trans (only_trans (only_trans (only_elapse s dt _)
    (writeReq_only _ _ _ _ (hl _ (by decide)))) hu) (only_mono (respond_only _ _ _ _ _ _) hl))

end Sys2Proof.Machine
end

