-- ==== Sys2Proof/Laws/Touch.lean ====
section
/-! SUPPORT. Which parts of the state every operation of the machine can change: one lemma for each,
composed along its definition. -/

namespace Sys2Proof.Machine

-- One proof at a time: hundreds at once would need more threads than memory allows.
set_option Elab.async false

/-- Whether every part of one list stands in another. -/
def partsIn (a b : List Part) : Bool := a.all fun p => b.contains p
theorem only_refl (s : State) (l : List Part) : s.onlyChanges s l :=
  ⟨rfl, fun p _ => by cases p <;> simp [State.same]⟩
theorem only_sub {s t : State} {a b : List Part} (h : t.onlyChanges s a) (hi : partsIn a b = true) :
    t.onlyChanges s b := only_mono h (by simpa [partsIn] using hi)
theorem only_step {s u v : State} {a b : List Part} (h : u.onlyChanges s b) (k : v.onlyChanges u a)
    (hi : partsIn a b = true := by with_unfolding_all rfl) : v.onlyChanges s b := only_trans h (only_sub k hi)
theorem only_foldl {α : Type} (l : List Part) (f : State → α → State)
    (hf : ∀ s a, (f s a).onlyChanges s l) (x : List α) :
    ∀ s u : State, u.onlyChanges s l → (x.foldl f u).onlyChanges s l := by
  induction x with
  | nil => intro s u h; exact h
  | cons a x ih => intro s u h; exact ih s _ (only_trans h (hf u a))

/-- A choice between two states, alone or as the state of an answer. -/
theorem only_ite {c : Prop} [Decidable c] {s t u : State} {l : List Part} (h : t.onlyChanges s l)
    (k : u.onlyChanges s l) : (if c then t else u).onlyChanges s l := by
  split
  · exact h
  · exact k
theorem only_ite2 {α : Type} {c : Prop} [Decidable c] {s : State} {t u : α × State} {l : List Part}
    (h : t.2.onlyChanges s l) (k : u.2.onlyChanges s l) : (if c then t else u).2.onlyChanges s l := by
  split
  · exact h
  · exact k
theorem only_ite3 {c : Prop} [Decidable c] {s : State} {t u : Reply} {l : List Part}
    (h : t.st.onlyChanges s l) (k : u.st.onlyChanges s l) : (if c then t else u).st.onlyChanges s l := by
  split
  · exact h
  · exact k

/-! Writing one field. -/

theorem only_set_clk {s u : State} {l : List Part} (x) (h : u.onlyChanges s l) (hp : l.contains .clock = true) :
    ({ u with clk := x } : State).onlyChanges s l := by
  refine only_trans h ⟨rfl, fun p hq => ?_⟩
  cases p <;> first | exact absurd (by simpa using hp) hq | exact ⟨rfl, rfl⟩ | rfl
theorem only_set_tly {s u : State} {l : List Part} (x) (h : u.onlyChanges s l) (hp : l.contains .tallies = true) :
    ({ u with tly := x } : State).onlyChanges s l := by
  refine only_trans h ⟨rfl, fun p hq => ?_⟩
  cases p <;> first | exact absurd (by simpa using hp) hq | exact ⟨rfl, rfl⟩ | rfl
theorem only_set_day {s u : State} {l : List Part} (x) (h : u.onlyChanges s l) (hp : l.contains .daybook = true) :
    ({ u with day := x } : State).onlyChanges s l := by
  refine only_trans h ⟨rfl, fun p hq => ?_⟩
  cases p <;> first | exact absurd (by simpa using hp) hq | exact ⟨rfl, rfl⟩ | rfl
theorem only_set_sent {s u : State} {l : List Part} (x) (h : u.onlyChanges s l) (hp : l.contains .outputs = true) :
    ({ u with sent := x } : State).onlyChanges s l := by
  refine only_trans h ⟨rfl, fun p hq => ?_⟩
  cases p <;> first | exact absurd (by simpa using hp) hq | exact ⟨rfl, rfl⟩ | rfl
theorem only_set_sys {s u : State} {l : List Part} (x) (h : u.onlyChanges s l) (hp : l.contains .system = true) :
    ({ u with sys := x } : State).onlyChanges s l := by
  refine only_trans h ⟨rfl, fun p hq => ?_⟩
  cases p <;> first | exact absurd (by simpa using hp) hq | exact ⟨rfl, rfl⟩ | rfl
theorem only_set_flash {s u : State} {l : List Part} (x) (h : u.onlyChanges s l) (hp : l.contains .flash = true) :
    ({ u with flash := x } : State).onlyChanges s l := by
  refine only_trans h ⟨rfl, fun p hq => ?_⟩
  cases p <;> first | exact absurd (by simpa using hp) hq | exact ⟨rfl, rfl⟩ | rfl
theorem only_set_feedA {s u : State} {l : List Part} (x) (h : u.onlyChanges s l) (hp : l.contains .feeds = true) :
    ({ u with feedA := x } : State).onlyChanges s l := by
  refine only_trans h ⟨rfl, fun p hq => ?_⟩
  cases p <;> first | exact absurd (by simpa using hp) hq | exact ⟨rfl, rfl⟩ | rfl
theorem only_set_feedB {s u : State} {l : List Part} (x) (h : u.onlyChanges s l) (hp : l.contains .feeds = true) :
    ({ u with feedB := x } : State).onlyChanges s l := by
  refine only_trans h ⟨rfl, fun p hq => ?_⟩
  cases p <;> first | exact absurd (by simpa using hp) hq | exact ⟨rfl, rfl⟩ | rfl
theorem only_set_lehr {s u : State} {l : List Part} (x) (h : u.onlyChanges s l) (hp : l.contains .lehr = true) :
    ({ u with lehr := x } : State).onlyChanges s l := by
  refine only_trans h ⟨rfl, fun p hq => ?_⟩
  cases p <;> first | exact absurd (by simpa using hp) hq | exact ⟨rfl, rfl⟩ | rfl
theorem only_set_par {s u : State} {l : List Part} (x) (h : u.onlyChanges s l) (hp : l.contains .parison = true) :
    ({ u with par := x } : State).onlyChanges s l := by
  refine only_trans h ⟨rfl, fun p hq => ?_⟩
  cases p <;> first | exact absurd (by simpa using hp) hq | exact ⟨rfl, rfl⟩ | rfl
theorem only_set_trk {s u : State} {l : List Part} (x) (h : u.onlyChanges s l) (hp : l.contains .trackers = true) :
    ({ u with trk := x } : State).onlyChanges s l := by
  refine only_trans h ⟨rfl, fun p hq => ?_⟩
  cases p <;> first | exact absurd (by simpa using hp) hq | exact ⟨rfl, rfl⟩ | rfl
theorem only_set_pace {s u : State} {l : List Part} (x) (h : u.onlyChanges s l) (hp : l.contains .pace = true) :
    ({ u with pace := x } : State).onlyChanges s l := by
  refine only_trans h ⟨rfl, fun p hq => ?_⟩
  cases p <;> first | exact absurd (by simpa using hp) hq | exact ⟨rfl, rfl⟩ | rfl
theorem only_set_gaf {s u : State} {l : List Part} (x) (h : u.onlyChanges s l) (hp : l.contains .gaffer = true) :
    ({ u with gaf := x } : State).onlyChanges s l := by
  refine only_trans h ⟨rfl, fun p hq => ?_⟩
  cases p <;> first | exact absurd (by simpa using hp) hq | exact ⟨rfl, rfl⟩ | rfl
theorem only_set_ports {s u : State} {l : List Part} (x) (h : u.onlyChanges s l) (hp : l.contains .ports = true) :
    ({ u with ports := x } : State).onlyChanges s l := by
  refine only_trans h ⟨rfl, fun p hq => ?_⟩
  cases p <;> first | exact absurd (by simpa using hp) hq | exact ⟨rfl, rfl⟩ | rfl
theorem only_set_fab {s u : State} {l : List Part} (x) (h : u.onlyChanges s l) (hp : l.contains .fabric = true) :
    ({ u with fab := x } : State).onlyChanges s l := by
  refine only_trans h ⟨rfl, fun p hq => ?_⟩
  cases p <;> first | exact absurd (by simpa using hp) hq | exact ⟨rfl, rfl⟩ | rfl
theorem only_set_pd {s u : State} {l : List Part} (x) (h : u.onlyChanges s l) (hp : l.contains .store = true) :
    ({ u with pd := x } : State).onlyChanges s l := by
  refine only_trans h ⟨rfl, fun p hq => ?_⟩
  cases p <;> first | exact absurd (by simpa using hp) hq | exact ⟨rfl, rfl⟩ | rfl
theorem only_set_inaug {s u : State} {l : List Part} (x) (h : u.onlyChanges s l) (hp : l.contains .inaug = true) :
    ({ u with inaug := x } : State).onlyChanges s l := by
  refine only_trans h ⟨rfl, fun p hq => ?_⟩
  cases p <;> first | exact absurd (by simpa using hp) hq | exact ⟨rfl, rfl⟩ | rfl
theorem only_set_time {s u : State} {l : List Part} (x) (h : u.onlyChanges s l) (hp : l.contains .time = true) :
    ({ u with time := x } : State).onlyChanges s l := by
  refine only_trans h ⟨rfl, fun p hq => ?_⟩
  cases p <;> first | exact absurd (by simpa using hp) hq | exact ⟨rfl, rfl⟩ | rfl
theorem only_set_can {s u : State} {l : List Part} (x) (h : u.onlyChanges s l) (hp : l.contains .can = true) :
    ({ u with can := x } : State).onlyChanges s l := by
  refine only_trans h ⟨rfl, fun p hq => ?_⟩
  cases p <;> first | exact absurd (by simpa using hp) hq | exact ⟨rfl, rfl⟩ | rfl
theorem only_set_sleep {s u : State} {l : List Part} (x) (h : u.onlyChanges s l) (hp : l.contains .sleep = true) :
    ({ u with sleep := x } : State).onlyChanges s l := by
  refine only_trans h ⟨rfl, fun p hq => ?_⟩
  cases p <;> first | exact absurd (by simpa using hp) hq | exact ⟨rfl, rfl⟩ | rfl
theorem only_set_meas {s u : State} {l : List Part} (x) (h : u.onlyChanges s l) (hp : l.contains .measure = true) :
    ({ u with meas := x } : State).onlyChanges s l := by
  refine only_trans h ⟨rfl, fun p hq => ?_⟩
  cases p <;> first | exact absurd (by simpa using hp) hq | exact ⟨rfl, rfl⟩ | rfl
theorem only_set_triad {s u : State} {l : List Part} (x) (h : u.onlyChanges s l) (hp : l.contains .triad = true) :
    ({ u with triad := x } : State).onlyChanges s l := by
  refine only_trans h ⟨rfl, fun p hq => ?_⟩
  cases p <;> first | exact absurd (by simpa using hp) hq | exact ⟨rfl, rfl⟩ | rfl
theorem only_set_twin {s u : State} {l : List Part} (x) (h : u.onlyChanges s l) (hp : l.contains .twin = true) :
    ({ u with twin := x } : State).onlyChanges s l := by
  refine only_trans h ⟨rfl, fun p hq => ?_⟩
  cases p <;> first | exact absurd (by simpa using hp) hq | exact ⟨rfl, rfl⟩ | rfl
theorem only_set_bridge {s u : State} {l : List Part} (x) (h : u.onlyChanges s l) (hp : l.contains .bridge = true) :
    ({ u with bridge := x } : State).onlyChanges s l := by
  refine only_trans h ⟨rfl, fun p hq => ?_⟩
  cases p <;> first | exact absurd (by simpa using hp) hq | exact ⟨rfl, rfl⟩ | rfl
theorem only_set_sec {s u : State} {l : List Part} (x) (h : u.onlyChanges s l) (hp : l.contains .vault = true) :
    ({ u with sec := x } : State).onlyChanges s l := by
  refine only_trans h ⟨rfl, fun p hq => ?_⟩
  cases p <;> first | exact absurd (by simpa using hp) hq | exact ⟨rfl, rfl⟩ | rfl
theorem only_set_seeds {s u : State} {l : List Part} (x) (h : u.onlyChanges s l) (hp : l.contains .seeds = true) :
    ({ u with seeds := x } : State).onlyChanges s l := by
  refine only_trans h ⟨rfl, fun p hq => ?_⟩
  cases p <;> first | exact absurd (by simpa using hp) hq | exact ⟨rfl, rfl⟩ | rfl
theorem only_set_hif {s u : State} {l : List Part} (x) (h : u.onlyChanges s l)
    (hp : l.contains .mailbox = true) (hq : l.contains .interrupts = true) :
    ({ u with hif := x } : State).onlyChanges s l := by
  refine only_trans h ⟨rfl, fun p hr => ?_⟩
  cases p <;> first | exact absurd (by simpa using hp) hr | exact absurd (by simpa using hq) hr | exact ⟨rfl, rfl⟩ | rfl
theorem only_set_mbx {s u : State} {l : List Part} (x : Hif) (h : u.onlyChanges s l)
    (hp : l.contains .mailbox = true) (hx : x.intStatus = u.hif.intStatus ∧ x.intMask = u.hif.intMask) :
    ({ u with hif := x } : State).onlyChanges s l := by
  refine only_trans h ⟨rfl, fun p hr => ?_⟩
  cases p <;> first | exact absurd (by simpa using hp) hr | exact hx | exact ⟨rfl, rfl⟩ | rfl
theorem only_set_flash_sec {s u : State} {l : List Part} (x0 x1) (h : u.onlyChanges s l)
    (h0 : l.contains .flash = true) (h1 : l.contains .vault = true) :
    ({ u with flash := x0, sec := x1 } : State).onlyChanges s l :=
  only_set_sec x1 (only_set_flash x0 h h0) h1
theorem only_set_fab_pd {s u : State} {l : List Part} (x0 x1) (h : u.onlyChanges s l)
    (h0 : l.contains .fabric = true) (h1 : l.contains .store = true) :
    ({ u with fab := x0, pd := x1 } : State).onlyChanges s l :=
  only_set_pd x1 (only_set_fab x0 h h0) h1
theorem only_set_gaf_par_inaug {s u : State} {l : List Part} (x0 x1 x2) (h : u.onlyChanges s l)
    (h0 : l.contains .gaffer = true) (h1 : l.contains .parison = true) (h2 : l.contains .inaug = true) :
    ({ u with gaf := x0, par := x1, inaug := x2 } : State).onlyChanges s l :=
  only_set_inaug x2 (only_set_par x1 (only_set_gaf x0 h h0) h1) h2
theorem only_set_gaf_fab_par_pace {s u : State} {l : List Part} (x0 x1 x2 x3) (h : u.onlyChanges s l)
    (h0 : l.contains .gaffer = true) (h1 : l.contains .fabric = true) (h2 : l.contains .parison = true) (h3 : l.contains .pace = true) :
    ({ u with gaf := x0, fab := x1, par := x2, pace := x3 } : State).onlyChanges s l :=
  only_set_pace x3 (only_set_par x2 (only_set_fab x1 (only_set_gaf x0 h h0) h1) h2) h3
theorem only_set_par_fab {s u : State} {l : List Part} (x0 x1) (h : u.onlyChanges s l)
    (h0 : l.contains .parison = true) (h1 : l.contains .fabric = true) :
    ({ u with par := x0, fab := x1 } : State).onlyChanges s l :=
  only_set_fab x1 (only_set_par x0 h h0) h1
theorem only_set_par_gaf {s u : State} {l : List Part} (x0 x1) (h : u.onlyChanges s l)
    (h0 : l.contains .parison = true) (h1 : l.contains .gaffer = true) :
    ({ u with par := x0, gaf := x1 } : State).onlyChanges s l :=
  only_set_gaf x1 (only_set_par x0 h h0) h1
theorem only_set_sys_hif {s u : State} {l : List Part} (x0) (x1 : Hif) (h : u.onlyChanges s l)
    (h0 : l.contains .system = true) (h1 : l.contains .mailbox = true ∧ x1.intStatus = u.hif.intStatus ∧ x1.intMask = u.hif.intMask) :
    ({ u with sys := x0, hif := x1 } : State).onlyChanges s l :=
  only_set_mbx x1 (only_set_sys x0 h h0) h1.1 h1.2
theorem only_set_clk_sys {s u : State} {l : List Part} (x0 x1) (h : u.onlyChanges s l)
    (h0 : l.contains .clock = true) (h1 : l.contains .system = true) :
    ({ u with clk := x0, sys := x1 } : State).onlyChanges s l :=
  only_set_sys x1 (only_set_clk x0 h h0) h1
theorem only_set_feedA_feedB_sys {s u : State} {l : List Part} (x0 x1 x2) (h : u.onlyChanges s l)
    (h0 : l.contains .feeds = true) (h1 : l.contains .feeds = true) (h2 : l.contains .system = true) :
    ({ u with feedA := x0, feedB := x1, sys := x2 } : State).onlyChanges s l :=
  only_set_sys x2 (only_set_feedB x1 (only_set_feedA x0 h h0) h1) h2

theorem only_set_ports_inaug_time_sleep_lehr_bridge {s u : State} {l : List Part} (x0 x1 x2 x3 x4 x5) (h : u.onlyChanges s l)
    (h0 : l.contains .ports = true) (h1 : l.contains .inaug = true) (h2 : l.contains .time = true) (h3 : l.contains .sleep = true) (h4 : l.contains .lehr = true) (h5 : l.contains .bridge = true) :
    ({ u with ports := x0, inaug := x1, time := x2, sleep := x3, lehr := x4, bridge := x5 } : State).onlyChanges s l :=
  only_set_bridge x5 (only_set_lehr x4 (only_set_sleep x3 (only_set_time x2 (only_set_inaug x1 (only_set_ports x0 h h0) h1) h2) h3) h4) h5

theorem only_set_sys_feedA_feedB_sleep {s u : State} {l : List Part} (x0 x1 x2 x3) (h : u.onlyChanges s l)
    (h0 : l.contains .system = true) (h1 : l.contains .feeds = true) (h2 : l.contains .feeds = true) (h3 : l.contains .sleep = true) :
    ({ u with sys := x0, feedA := x1, feedB := x2, sleep := x3 } : State).onlyChanges s l :=
  only_set_sleep x3 (only_set_feedB x2 (only_set_feedA x1 (only_set_sys x0 h h0) h1) h2) h3
theorem only_set_flash_sys {s u : State} {l : List Part} (x0 x1) (h : u.onlyChanges s l)
    (h0 : l.contains .flash = true) (h1 : l.contains .system = true) :
    ({ u with flash := x0, sys := x1 } : State).onlyChanges s l :=
  only_set_sys x1 (only_set_flash x0 h h0) h1
theorem only_set_gaf_lehr {s u : State} {l : List Part} (x0 x1) (h : u.onlyChanges s l)
    (h0 : l.contains .gaffer = true) (h1 : l.contains .lehr = true) :
    ({ u with gaf := x0, lehr := x1 } : State).onlyChanges s l :=
  only_set_lehr x1 (only_set_gaf x0 h h0) h1
theorem only_set_par_flash {s u : State} {l : List Part} (x0 x1) (h : u.onlyChanges s l)
    (h0 : l.contains .parison = true) (h1 : l.contains .flash = true) :
    ({ u with par := x0, flash := x1 } : State).onlyChanges s l :=
  only_set_flash x1 (only_set_par x0 h h0) h1

/-! The operations of every meaning. -/

theorem State.elapse_touch : ∀ s n, (State.elapse s n).onlyChanges s [] := fun s n => only_elapse s n []
theorem State.pins_touch : ∀ s, (State.pins s).onlyChanges s [] := fun s => pins_only s []
theorem State.fresh_touch : ∀ w s, (State.fresh w s).2.onlyChanges s [.clock] := fun _ s =>
  only_set_clk _ (only_refl s _) rfl
theorem State.countN_touch : ∀ s k n, (State.countN s k n).onlyChanges s [.tallies] := fun s k n =>
  count_only s k n _ (by decide)
theorem State.count_touch : ∀ s k, (State.count s k).onlyChanges s [.tallies] := fun s k =>
  count_only s k 1 _ (by decide)
theorem State.send_touch : ∀ s x, (State.send s x).onlyChanges s [.outputs] := fun s _ =>
  only_set_sent _ (only_refl s _) rfl
theorem State.raise_touch : ∀ s v, (State.raise s v).onlyChanges s [.interrupts, .outputs] := fun s v =>
  raise_only s v _ (by decide) (by decide)
theorem State.deferWrite_touch : ∀ s d, (State.deferWrite s d).onlyChanges s [.tallies, .daybook, .flash] :=
  fun s d => deferWrite_only s d _ (by decide) (by decide) (by decide)
theorem State.enter_touch : ∀ s r, (State.enter s r).onlyChanges s [.interrupts, .tallies, .daybook, .outputs, .flash] :=
  fun s r => enter_only s r _ (by decide)
theorem State.note_touch : ∀ s c a, (State.note s c a).onlyChanges s [.interrupts, .tallies, .daybook, .outputs, .flash] :=
  fun s c a => note_only s c a _ (by decide)
theorem State.noteOnce_touch : ∀ s u c a, (State.noteOnce s u c a).onlyChanges s [.interrupts, .tallies, .daybook, .outputs, .flash] :=
  fun s u c a => noteOnce_only s u c a _ (by decide)
theorem State.respond_touch : ∀ s a b c d e, (State.respond s a b c d e).onlyChanges s [.mailbox, .interrupts, .tallies, .outputs] :=
  fun s a b c d e => respond_only s a b c d e
theorem State.writeReq_touch : ∀ s a b, (State.writeReq s a b).onlyChanges s [.mailbox] :=
  fun s a b => writeReq_only s a b _ (by decide)
theorem State.clearInts_touch : ∀ s v, (State.clearInts s v).onlyChanges s [.interrupts] := by
  intro s v; refine ⟨rfl, fun p hr => ?_⟩
  cases p <;> first | exact absurd (by decide) hr | exact ⟨rfl, rfl⟩ | rfl
theorem State.maskInts_touch : ∀ s v, (State.maskInts s v).onlyChanges s [.interrupts] := by
  intro s v; refine ⟨rfl, fun p hr => ?_⟩
  cases p <;> first | exact absurd (by decide) hr | exact ⟨rfl, rfl⟩ | rfl
theorem State.ackResp_touch : ∀ s, (State.ackResp s).onlyChanges s [.mailbox] := fun s =>
  only_set_mbx _ (only_refl s _) rfl ⟨rfl, rfl⟩
theorem ans_touch : ∀ a b s, (ans a b s).st.onlyChanges s [] := fun _ _ s => only_refl s _
theorem refuse_touch : ∀ a s, (refuse a s).st.onlyChanges s [] := fun _ s => only_refl s _
theorem timeAns_touch : ∀ a s, (timeAns a s).st.onlyChanges s [] := fun _ s => only_refl s _
theorem holdOn_touch : ∀ s, (holdOn s).st.onlyChanges s [] := fun s => only_refl s _
theorem State.when_touch {l : List Part} (s : State) (c : Bool) (f : State → State)
    (hl : ∀ x, (f x).onlyChanges x l) : (s.when c f).onlyChanges s l := by
  unfold State.when; split
  · exact hl s
  · exact only_refl s l
theorem State.finish_touch : ∀ s a b c, (State.finish s a b c).onlyChanges s [.mailbox, .interrupts, .tallies, .outputs] := by
  intro s a b c; unfold State.finish
  split
  · split
    · exact State.respond_touch ..
    · exact only_refl _ _
  · exact only_refl _ _
theorem State.serve_touch {l : List Part} (s : State) (find : Nat → Option Cmd)
    (hl : ∀ o c, find o = some c → ∀ b x, (c.run b x).st.onlyChanges x l)
    (hb : partsIn [.mailbox, .interrupts, .tallies, .outputs] l = true) : (s.serve find).onlyChanges s l := by
  unfold State.serve
  conv => zeta
  split
  · exact only_step (only_step (only_refl s l) (State.count_touch _ _) (by simp [partsIn] at hb ⊢; simp [hb])) (State.respond_touch ..) hb
  · split
    · exact only_step (only_step (only_refl s l) (State.count_touch _ _) (by simp [partsIn] at hb ⊢; simp [hb])) (State.respond_touch ..) hb
    · split
      · exact only_step (only_step (only_refl s l) (State.count_touch _ _) (by simp [partsIn] at hb ⊢; simp [hb])) (State.respond_touch ..) hb
      · rename_i c hc
        split
        · exact only_step (only_step (only_refl s l) (State.count_touch _ _) (by simp [partsIn] at hb ⊢; simp [hb])) (State.respond_touch ..) hb
        · split
          · exact only_step (only_refl s l) (State.respond_touch ..) hb
          · have h := hl _ c hc (memRead s.hif.req 32 (fld (memRead s.hif.req 0 32) 4 4)) s
            split
            · exact only_set_mbx _ h (by simp [partsIn] at hb ⊢; simp [hb]) ⟨rfl, rfl⟩
            · exact only_step h (State.respond_touch ..) hb
theorem State.ringReq_touch {l : List Part} (s : State) (find : Nat → Option Cmd)
    (hl : ∀ o c, find o = some c → ∀ b x, (c.run b x).st.onlyChanges x l)
    (hb : partsIn [.mailbox, .interrupts, .tallies, .daybook, .outputs, .flash] l = true) : (s.ringReq find).onlyChanges s l := by
  have h1 : partsIn [.mailbox, .interrupts, .tallies, .outputs] l = true := by simp [partsIn] at hb ⊢; simp [hb]
  have h2 : partsIn [.tallies] l = true := by simp [partsIn] at hb ⊢; simp [hb]
  have h3 : partsIn [.interrupts, .tallies, .daybook, .outputs, .flash] l = true := by simp [partsIn] at hb ⊢; simp [hb]
  unfold State.ringReq
  conv => zeta
  split
  · exact only_refl s l
  · split
    · split
      · exact only_step (only_step (only_refl s l) (State.count_touch _ _) h2) (State.noteOnce_touch ..) h3
      · exact only_step (only_step (only_refl s l) (State.count_touch _ _) h2) (State.noteOnce_touch ..) h3
    · exact State.serve_touch s find hl h1
theorem State.submit_touch {l : List Part} (s : State) (c : Cmd) (r : Req)
    (hl : ∀ b x, (c.run b x).st.onlyChanges x l)
    (hb : partsIn [.mailbox, .interrupts, .tallies, .daybook, .outputs, .flash] l = true) : (s.submit c r).onlyChanges s l := by
  have h1 : partsIn [.mailbox] l = true := by simp [partsIn] at hb ⊢; simp [hb]
  unfold State.submit
  split
  · refine only_trans (only_sub (State.writeReq_touch _ _ _) h1) (State.ringReq_touch _ _ ?_ hb)
    intro o d hd
    split at hd
    · cases hd; exact hl
    · cases hd
  · exact only_refl s l

/-! One operation after another, each after those it calls. -/

theorem State.judgeWake_touch : ∀ s x1, (State.judgeWake s x1).onlyChanges s [.sleep] := by
  intro s x1
  unfold State.judgeWake
  conv => zeta
  with_reducible refine only_ite ?_ ?_
  with_reducible refine only_set_sleep _ ?_ ?_
  with_reducible exact only_refl _ _
  exact (rfl : _ = true)
  with_reducible refine only_set_sleep _ ?_ ?_
  with_reducible exact only_refl _ _
  exact (rfl : _ = true)

theorem State.wakeUp_touch : ∀ s x1, (State.wakeUp s x1).onlyChanges s [.sleep] := by
  intro s x1
  unfold State.wakeUp
  conv => zeta
  with_reducible refine only_set_sleep _ ?_ ?_
  with_reducible exact only_refl _ _
  exact (rfl : _ = true)

theorem State.unagree_touch : ∀ s, (State.unagree s).onlyChanges s [.sleep] := by
  intro s
  unfold State.unagree
  conv => zeta
  split
  with_reducible refine only_set_sleep _ ?_ ?_
  with_reducible exact only_refl _ _
  exact (rfl : _ = true)
  with_reducible refine only_set_sleep _ ?_ ?_
  with_reducible exact only_refl _ _
  exact (rfl : _ = true)
  with_reducible refine only_set_sleep _ ?_ ?_
  with_reducible exact only_refl _ _
  exact (rfl : _ = true)

theorem State.setCtl_touch : ∀ s x1 x2, (State.setCtl s x1 x2).onlyChanges s [.can] := by
  intro s x1 x2
  unfold State.setCtl
  conv => zeta
  with_reducible refine only_set_can _ ?_ ?_
  with_reducible exact only_refl _ _
  exact (rfl : _ = true)

theorem State.fillConsent_touch : ∀ s, (State.fillConsent s).onlyChanges s [.can, .sleep] := by
  intro s
  unfold State.fillConsent
  conv => zeta
  with_reducible refine only_ite ?_ ?_
  with_reducible exact only_refl _ _
  split
  with_reducible exact only_refl _ _
  split
  with_reducible exact only_refl _ _
  with_reducible refine only_ite ?_ ?_
  with_reducible refine only_set_sleep _ ?_ ?_
  with_reducible exact only_refl _ _
  exact (rfl : _ = true)
  with_reducible refine only_step ?_ (State.setCtl_touch _ _ _)
  with_reducible refine only_set_sleep _ ?_ ?_
  with_reducible exact only_refl _ _
  exact (rfl : _ = true)

theorem State.selfAbort_touch : ∀ s x1, (State.selfAbort s x1).onlyChanges s [.tallies, .can, .sleep] := by
  intro s x
  have h : ∀ u : State, u.onlyChanges s [.tallies, .can, .sleep] → ∀ y,
      (State.fillConsent { u with sleep := y }).onlyChanges s [.tallies, .can, .sleep] := fun u hu y =>
    only_step (only_set_sleep y hu rfl) (State.fillConsent_touch _) rfl
  exact h _ (only_step (only_step (only_refl s _) (State.unagree_touch s) rfl) (State.count_touch _ _) rfl) _

theorem State.wakeReq_touch : ∀ s x1 x2, (State.wakeReq s x1 x2).onlyChanges s [.tallies, .can, .sleep] := by
  intro s x1 x2
  unfold State.wakeReq
  conv => zeta
  with_reducible refine only_ite ?_ ?_
  with_reducible refine only_ite ?_ ?_
  with_reducible exact only_refl _ _
  with_reducible refine only_ite ?_ ?_
  with_reducible refine only_set_sleep _ ?_ ?_
  with_reducible refine only_step ?_ (State.judgeWake_touch _ _)
  with_reducible exact only_refl _ _
  exact (rfl : _ = true)
  with_reducible refine only_step ?_ (State.wakeUp_touch _ _)
  with_reducible refine only_step ?_ (State.judgeWake_touch _ _)
  with_reducible exact only_refl _ _
  with_reducible refine only_ite ?_ ?_
  with_reducible exact only_refl _ _
  with_reducible refine only_ite ?_ ?_
  with_reducible refine only_ite ?_ ?_
  with_reducible exact only_refl _ _
  with_reducible refine only_set_sleep _ ?_ ?_
  with_reducible refine only_step ?_ (State.judgeWake_touch _ _)
  with_reducible exact only_refl _ _
  exact (rfl : _ = true)
  with_reducible refine only_ite ?_ ?_
  with_reducible refine only_step ?_ (State.selfAbort_touch _ _)
  with_reducible exact only_refl _ _
  with_reducible exact only_refl _ _

theorem State.rebase_touch : ∀ s x1 x2, (State.rebase s x1 x2).onlyChanges s [.pace] := by
  intro s x1 x2
  unfold State.rebase
  conv => zeta
  with_reducible refine only_set_pace _ ?_ ?_
  with_reducible exact only_refl _ _
  exact (rfl : _ = true)

theorem State.wait_touch : ∀ s x1 x2 x3 x4, (State.wait s x1 x2 x3 x4).onlyChanges s [.gaffer] := by
  intro s x1 x2 x3 x4
  unfold State.wait
  conv => zeta
  split
  split
  with_reducible refine only_set_gaf _ ?_ ?_
  with_reducible exact only_refl _ _
  exact (rfl : _ = true)
  with_reducible refine only_set_gaf _ ?_ ?_
  with_reducible exact only_refl _ _
  exact (rfl : _ = true)
  with_reducible refine only_set_gaf _ ?_ ?_
  with_reducible exact only_refl _ _
  exact (rfl : _ = true)

theorem State.skipTo_touch : ∀ s x1, (State.skipTo s x1).onlyChanges s [.tallies, .gaffer] := by
  intro s b
  have h1 : ∀ u v : State, v.onlyChanges u [.tallies, .gaffer] → ∀ x,
      ({ v with gaf := x } : State).onlyChanges u [.tallies, .gaffer] := fun u v hv x => only_set_gaf x hv rfl
  unfold State.skipTo
  refine only_trans (only_foldl _ _ (fun u x => ?_) _ s s (only_refl s _))
    (only_foldl _ _ (fun u x => ?_) _ _ _ (only_refl _ _))
  · split
    · exact only_sub (State.wait_touch ..) rfl
    · exact h1 _ _ (only_sub (State.count_touch ..) rfl) _
  · exact only_sub (State.wait_touch ..) rfl

theorem State.align_touch : ∀ s x1 x2 x3 x4 x5, (State.align s x1 x2 x3 x4 x5).onlyChanges s [.interrupts, .tallies, .daybook, .outputs, .flash, .pace, .gaffer] := by
  intro s x1 x2 x3 x4 x5
  unfold State.align
  conv => zeta
  with_reducible refine only_ite ?_ ?_
  with_reducible refine only_ite ?_ ?_
  with_reducible refine only_step ?_ (State.rebase_touch _ _ _)
  with_reducible exact only_refl _ _
  with_reducible refine only_set_pace _ ?_ ?_
  with_reducible refine only_step ?_ (State.rebase_touch _ _ _)
  with_reducible exact only_refl _ _
  exact (rfl : _ = true)
  with_reducible refine only_ite ?_ ?_
  with_reducible refine only_step ?_ (State.note_touch _ _ _)
  with_reducible refine only_step ?_ (State.count_touch _ _)
  with_reducible refine only_set_pace _ ?_ ?_
  with_reducible refine only_step ?_ (State.rebase_touch _ _ _)
  with_reducible refine only_step ?_ (State.skipTo_touch _ _)
  with_reducible exact only_refl _ _
  exact (rfl : _ = true)
  with_reducible refine only_step ?_ (State.note_touch _ _ _)
  with_reducible refine only_step ?_ (State.count_touch _ _)
  split
  with_reducible refine only_set_pace _ ?_ ?_
  with_reducible refine only_step ?_ (State.rebase_touch _ _ _)
  with_reducible exact only_refl _ _
  exact (rfl : _ = true)
  with_reducible refine only_set_pace _ ?_ ?_
  with_reducible refine only_step ?_ (State.rebase_touch _ _ _)
  with_reducible exact only_refl _ _
  exact (rfl : _ = true)

theorem State.paceShift_touch : ∀ s x1, (State.paceShift s x1).onlyChanges s [.interrupts, .tallies, .daybook, .outputs, .flash, .pace, .gaffer] := by
  intro s x1
  unfold State.paceShift
  conv => zeta
  with_reducible refine only_ite ?_ ?_
  with_reducible exact only_refl _ _
  with_reducible refine only_step ?_ (State.align_touch _ _ _ _ _ _)
  with_reducible exact only_refl _ _

theorem State.seedArm_touch : ∀ s x1 x2 x3 x4, (State.seedArm s x1 x2 x3 x4).onlyChanges s [.interrupts, .tallies, .daybook, .outputs, .flash, .pace, .gaffer, .seeds] := by
  intro s x1 x2 x3 x4
  unfold State.seedArm
  conv => zeta
  with_reducible refine only_step ?_ (State.note_touch _ _ _)
  with_reducible refine only_step ?_ (State.count_touch _ _)
  split
  with_reducible refine only_set_seeds _ ?_ ?_
  with_reducible refine only_step ?_ (State.paceShift_touch _ _)
  with_reducible exact only_refl _ _
  exact (rfl : _ = true)
  with_reducible refine only_set_seeds _ ?_ ?_
  with_reducible exact only_refl _ _
  exact (rfl : _ = true)

theorem State.takeWarrant_touch : ∀ s x1 x2, (State.takeWarrant s x1 x2).2.2.onlyChanges s
    [.interrupts, .tallies, .daybook, .outputs, .flash, .vault] := fun s _ _ =>
  only_step (only_step (only_set_sec _ (only_refl s _) rfl) (State.count_touch _ _) rfl) (State.note_touch _ _ _) rfl

theorem State.saveRecord_touch : ∀ s, (State.saveRecord s).onlyChanges s [.interrupts, .tallies, .daybook, .outputs, .flash, .vault] := by
  intro s
  unfold State.saveRecord
  conv => zeta
  with_reducible refine only_ite ?_ ?_
  with_reducible refine only_step ?_ (State.note_touch _ _ _)
  with_reducible refine only_step ?_ (State.count_touch _ _)
  split
  with_reducible refine only_set_flash_sec _ _ ?_ ?_ ?_
  with_reducible exact only_refl _ _
  exact (rfl : _ = true)
  exact (rfl : _ = true)
  with_reducible refine only_set_flash_sec _ _ ?_ ?_ ?_
  with_reducible exact only_refl _ _
  exact (rfl : _ = true)
  exact (rfl : _ = true)
  with_reducible refine only_step ?_ (State.count_touch _ _)
  split
  with_reducible refine only_set_flash_sec _ _ ?_ ?_ ?_
  with_reducible exact only_refl _ _
  exact (rfl : _ = true)
  exact (rfl : _ = true)
  with_reducible refine only_set_flash_sec _ _ ?_ ?_ ?_
  with_reducible exact only_refl _ _
  exact (rfl : _ = true)
  exact (rfl : _ = true)

theorem State.recordUpd_touch : ∀ s x1, (State.recordUpd s x1).onlyChanges s [.interrupts, .tallies, .daybook, .outputs, .flash, .vault] := by
  intro s x1
  unfold State.recordUpd
  conv => zeta
  with_reducible refine only_ite ?_ ?_
  with_reducible exact only_refl _ _
  with_reducible refine only_step ?_ (State.saveRecord_touch _)
  with_reducible refine only_set_sec _ ?_ ?_
  with_reducible exact only_refl _ _
  exact (rfl : _ = true)

theorem State.payWarrant_touch : ∀ s b t, State.payWarrant s b = some t → t.onlyChanges s
    [.interrupts, .tallies, .daybook, .outputs, .flash, .vault] := by
  intro s b t h
  simp only [State.payWarrant] at h
  split at h
  · cases h; exact only_refl _ _
  · split at h
    · cases h; exact State.recordUpd_touch ..
    · cases h

theorem cmdSeedArm_touch : ∀ b s, (cmdSeedArm.run b s).st.onlyChanges s [.interrupts, .tallies, .daybook, .outputs, .flash, .pace, .gaffer, .vault, .seeds] := by
  intro b s
  unfold cmdSeedArm
  dsimp only
  with_reducible refine only_ite3 ?_ ?_
  with_reducible refine only_step ?_ (refuse_touch _ _)
  with_reducible exact only_refl _ _
  with_reducible refine only_ite3 ?_ ?_
  with_reducible refine only_step ?_ (refuse_touch _ _)
  with_reducible exact only_refl _ _
  with_reducible refine only_ite3 ?_ ?_
  with_reducible refine only_ite3 ?_ ?_
  with_reducible refine only_step ?_ (refuse_touch _ _)
  with_reducible refine only_step ?_ (State.takeWarrant_touch _ _ _)
  with_reducible exact only_refl _ _
  with_reducible refine only_ite3 ?_ ?_
  with_reducible refine only_step ?_ (refuse_touch _ _)
  with_reducible refine only_step ?_ (State.takeWarrant_touch _ _ _)
  with_reducible exact only_refl _ _
  split
  with_reducible refine only_step ?_ (refuse_touch _ _)
  with_reducible refine only_step ?_ (State.takeWarrant_touch _ _ _)
  with_reducible exact only_refl _ _
  with_reducible refine only_step ?_ (ans_touch _ _ _)
  with_reducible refine only_step ?_ (State.seedArm_touch _ _ _ _ _)
  with_reducible refine only_step ?_ (State.payWarrant_touch _ _ _ (by assumption))
  with_reducible refine only_step ?_ (State.takeWarrant_touch _ _ _)
  with_reducible exact only_refl _ _
  with_reducible refine only_ite3 ?_ ?_
  with_reducible refine only_step ?_ (refuse_touch _ _)
  with_reducible exact only_refl _ _
  with_reducible refine only_step ?_ (ans_touch _ _ _)
  with_reducible refine only_step ?_ (State.seedArm_touch _ _ _ _ _)
  with_reducible exact only_refl _ _

theorem State.freeFrames_touch : ∀ s, (State.freeFrames s).onlyChanges s [.fabric] := by
  intro s
  unfold State.freeFrames
  conv => zeta
  with_reducible refine only_set_fab _ ?_ ?_
  with_reducible exact only_refl _ _
  exact (rfl : _ = true)

theorem State.take_touch : ∀ s x1, (State.take s x1).onlyChanges s [.fabric] := by
  intro s x1
  unfold State.take
  conv => zeta
  with_reducible refine only_set_fab _ ?_ ?_
  with_reducible exact only_refl _ _
  exact (rfl : _ = true)

theorem State.takeConsent_touch {l : List Part} (s : State) (k : Nat) (f : List Byte → Nat → State → State)
    (hl : ∀ a b x, (f a b x).onlyChanges x l) (hb : partsIn [.tallies, .can, .sleep] l = true) :
    (s.takeConsent k f).onlyChanges s l := by
  have h1 : partsIn [.can] l = true := by simp [partsIn] at hb ⊢; simp [hb]
  have h2 : partsIn [.tallies] l = true := by simp [partsIn] at hb ⊢; simp [hb]
  unfold State.takeConsent
  conv => zeta
  split
  · exact only_refl s l
  · split
    · exact only_step (only_step (only_refl s l) (State.setCtl_touch ..) h1) (State.count_touch ..) h2
    · split
      · exact only_refl s l
      · refine only_trans (only_set_sleep _ (only_step (only_refl s l) (State.setCtl_touch ..) h1) ?_) (hl _ _ _)
        simp [partsIn] at hb ⊢; simp [hb]

theorem State.takeRound_touch : ∀ s x1, (State.takeRound s x1).onlyChanges s [.can, .sleep] := by
  intro s x1
  unfold State.takeRound
  conv => zeta
  with_reducible refine only_ite ?_ ?_
  with_reducible exact only_refl _ _
  with_reducible refine only_step ?_ (State.fillConsent_touch _)
  with_reducible refine only_set_sleep _ ?_ ?_
  with_reducible exact only_refl _ _
  exact (rfl : _ = true)

theorem State.abortIn_touch : ∀ s x1, (State.abortIn s x1).onlyChanges s
    [.interrupts, .tallies, .daybook, .outputs, .flash, .can, .sleep] := by
  intro s d
  have h : ∀ u : State, u.onlyChanges s [.interrupts, .tallies, .daybook, .outputs, .flash, .can, .sleep] → ∀ y,
      (State.fillConsent { u with sleep := y }).onlyChanges s
        [.interrupts, .tallies, .daybook, .outputs, .flash, .can, .sleep] := fun u hu y =>
    only_step (only_set_sleep y hu rfl) (State.fillConsent_touch _) rfl
  have h0 := only_sub (b := [.interrupts, .tallies, .daybook, .outputs, .flash, .can, .sleep])
    (State.takeRound_touch s d) rfl
  simp only [State.abortIn]
  split
  · exact h0
  · exact h _ (only_step (only_step (only_step h0 (State.unagree_touch _) rfl) (State.count_touch _ _) rfl)
      (State.note_touch _ _ _) rfl) _

theorem State.assay_touch : ∀ s x1, (State.assay s x1).onlyChanges s [.interrupts, .tallies, .daybook, .outputs, .flash, .triad] := by
  intro s x1
  unfold State.assay
  conv => zeta
  with_reducible refine only_ite ?_ ?_
  with_reducible exact only_refl _ _
  with_reducible refine only_ite ?_ ?_
  split
  with_reducible refine only_set_triad _ ?_ ?_
  with_reducible exact only_refl _ _
  exact (rfl : _ = true)
  with_reducible refine only_ite ?_ ?_
  with_reducible refine only_set_triad _ ?_ ?_
  with_reducible refine only_set_triad _ ?_ ?_
  with_reducible exact only_refl _ _
  exact (rfl : _ = true)
  exact (rfl : _ = true)
  with_reducible refine only_ite ?_ ?_
  with_reducible refine only_step ?_ (State.note_touch _ _ _)
  with_reducible refine only_set_triad _ ?_ ?_
  with_reducible refine only_set_triad _ ?_ ?_
  with_reducible exact only_refl _ _
  exact (rfl : _ = true)
  exact (rfl : _ = true)
  with_reducible refine only_set_triad _ ?_ ?_
  with_reducible refine only_set_triad _ ?_ ?_
  with_reducible exact only_refl _ _
  exact (rfl : _ = true)
  exact (rfl : _ = true)
  with_reducible refine only_step ?_ (State.note_touch _ _ _)
  with_reducible refine only_step ?_ (State.count_touch _ _)
  with_reducible refine only_set_triad _ ?_ ?_
  with_reducible refine only_set_triad _ ?_ ?_
  with_reducible exact only_refl _ _
  exact (rfl : _ = true)
  exact (rfl : _ = true)

theorem State.spineCount_touch : ∀ s, (State.spineCount s).onlyChanges s [.tallies, .gaffer] := by
  intro s
  unfold State.spineCount
  conv => zeta
  split
  with_reducible exact only_refl _ _
  with_reducible refine only_step ?_ (State.countN_touch _ _ _)
  split
  split
  split
  split
  with_reducible refine only_set_gaf _ ?_ ?_
  with_reducible exact only_refl _ _
  exact (rfl : _ = true)
  with_reducible refine only_set_gaf _ ?_ ?_
  with_reducible exact only_refl _ _
  exact (rfl : _ = true)
  with_reducible refine only_set_gaf _ ?_ ?_
  with_reducible exact only_refl _ _
  exact (rfl : _ = true)
  with_reducible refine only_set_gaf _ ?_ ?_
  with_reducible exact only_refl _ _
  exact (rfl : _ = true)
  split
  split
  with_reducible refine only_set_gaf _ ?_ ?_
  with_reducible exact only_refl _ _
  exact (rfl : _ = true)
  with_reducible refine only_set_gaf _ ?_ ?_
  with_reducible exact only_refl _ _
  exact (rfl : _ = true)
  with_reducible refine only_set_gaf _ ?_ ?_
  with_reducible exact only_refl _ _
  exact (rfl : _ = true)
  with_reducible refine only_set_gaf _ ?_ ?_
  with_reducible exact only_refl _ _
  exact (rfl : _ = true)
  split
  split
  with_reducible refine only_set_gaf _ ?_ ?_
  with_reducible exact only_refl _ _
  exact (rfl : _ = true)
  with_reducible refine only_set_gaf _ ?_ ?_
  with_reducible exact only_refl _ _
  exact (rfl : _ = true)
  with_reducible refine only_set_gaf _ ?_ ?_
  with_reducible exact only_refl _ _
  exact (rfl : _ = true)
  with_reducible exact only_refl _ _

theorem State.tlyClear_touch : ∀ s x1, (State.tlyClear s x1).onlyChanges s [.tallies] := by
  intro s x1
  unfold State.tlyClear
  conv => zeta
  with_reducible refine only_set_tly _ ?_ ?_
  with_reducible exact only_refl _ _
  exact (rfl : _ = true)

theorem State.tlyRead_touch : ∀ s x1 x2, (State.tlyRead s x1 x2).2.onlyChanges s [.tallies] := by
  intro s x1 x2
  unfold State.tlyRead
  conv => zeta
  with_reducible refine only_ite2 ?_ ?_
  with_reducible refine only_set_tly _ ?_ ?_
  with_reducible exact only_refl _ _
  exact (rfl : _ = true)
  with_reducible refine only_step ?_ (State.tlyClear_touch _ _)
  with_reducible exact only_refl _ _

theorem State.tlyRecords_touch : ∀ s b k n, (State.tlyRecords s b k n).2.onlyChanges s [.tallies] := by
  intro s b k n
  induction n generalizing s k with
  | zero => exact only_refl _ _
  | succ n ih => exact only_trans (State.tlyRead_touch s b k) (ih _ _)

theorem cmdTallyRead_touch : ∀ b s, (cmdTallyRead.run b s).st.onlyChanges s [.tallies, .gaffer] := by
  intro b s
  unfold cmdTallyRead
  dsimp only
  with_reducible refine only_ite3 ?_ ?_
  with_reducible refine only_step ?_ (refuse_touch _ _)
  with_reducible exact only_refl _ _
  with_reducible refine only_step ?_ (ans_touch _ _ _)
  with_reducible refine only_step ?_ (State.tlyRecords_touch _ _ _ _)
  with_reducible refine only_ite ?_ ?_
  with_reducible refine only_step ?_ (State.spineCount_touch _)
  with_reducible exact only_refl _ _
  with_reducible exact only_refl _ _

theorem State.setBoot_touch : ∀ s x1 x2, (State.setBoot s x1 x2).onlyChanges s [.tallies, .daybook, .flash] := by
  intro s x1 x2
  unfold State.setBoot
  conv => zeta
  with_reducible refine only_ite ?_ ?_
  with_reducible refine only_step ?_ (State.deferWrite_touch _ _)
  with_reducible exact only_refl _ _
  with_reducible refine only_set_flash _ ?_ ?_
  with_reducible exact only_refl _ _
  exact (rfl : _ = true)

theorem State.setChan_touch : ∀ s x1 x2, (State.setChan s x1 x2).onlyChanges s [.measure] := by
  intro s x1 x2
  unfold State.setChan
  conv => zeta
  with_reducible refine only_set_meas _ ?_ ?_
  with_reducible exact only_refl _ _
  exact (rfl : _ = true)

theorem State.measCommit_touch : ∀ s x1, (State.measCommit s x1).onlyChanges s [.measure] := by
  intro s x1
  unfold State.measCommit
  conv => zeta
  with_reducible refine only_foldl _ _ (fun _ _ => ?_) _ _ _ ?_
  with_reducible refine only_ite ?_ ?_
  with_reducible refine only_step ?_ (State.setChan_touch _ _ _)
  with_reducible exact only_refl _ _
  with_reducible refine only_ite ?_ ?_
  with_reducible refine only_step ?_ (State.setChan_touch _ _ _)
  with_reducible exact only_refl _ _
  with_reducible exact only_refl _ _
  with_reducible exact only_refl _ _

theorem State.setTracker_touch : ∀ s x1 x2, (State.setTracker s x1 x2).onlyChanges s [.trackers] := by
  intro s x1 x2
  unfold State.setTracker
  conv => zeta
  split
  with_reducible refine only_set_trk _ ?_ ?_
  with_reducible exact only_refl _ _
  exact (rfl : _ = true)
  with_reducible refine only_set_trk _ ?_ ?_
  with_reducible exact only_refl _ _
  exact (rfl : _ = true)

theorem State.commitTracker_touch : ∀ s x1, (State.commitTracker s x1).onlyChanges s [.trackers] := by
  intro s x1
  unfold State.commitTracker
  conv => zeta
  with_reducible refine only_ite ?_ ?_
  with_reducible refine only_step ?_ (State.setTracker_touch _ _ _)
  with_reducible exact only_refl _ _
  with_reducible refine only_ite ?_ ?_
  with_reducible refine only_step ?_ (State.setTracker_touch _ _ _)
  with_reducible exact only_refl _ _
  with_reducible refine only_step ?_ (State.setTracker_touch _ _ _)
  with_reducible exact only_refl _ _

theorem State.adopt_touch : ∀ s x1 x2, (State.adopt s x1 x2).onlyChanges s [.tallies, .daybook, .flash, .parison, .trackers, .fabric, .measure] := by
  intro s x1 x2
  unfold State.adopt
  conv => zeta
  with_reducible refine only_step ?_ (State.setBoot_touch _ _ _)
  with_reducible refine only_step ?_ (State.measCommit_touch _ _)
  with_reducible refine only_step ?_ (State.commitTracker_touch _ _)
  split
  with_reducible refine only_set_par_fab _ _ ?_ ?_ ?_
  with_reducible exact only_refl _ _
  exact (rfl : _ = true)
  exact (rfl : _ = true)
  with_reducible refine only_set_par_fab _ _ ?_ ?_ ?_
  with_reducible exact only_refl _ _
  exact (rfl : _ = true)
  exact (rfl : _ = true)

theorem State.commit_touch : ∀ s x1 x2 x3, (State.commit s x1 x2 x3).st.onlyChanges s [.tallies, .daybook, .flash, .parison, .trackers, .fabric, .measure] := by
  intro s x1 x2 x3
  unfold State.commit
  conv => zeta
  split
  with_reducible exact only_refl _ _
  with_reducible exact only_refl _ _
  split
  with_reducible exact only_refl _ _
  with_reducible refine only_step ?_ (State.adopt_touch _ _ _)
  with_reducible exact only_refl _ _

theorem Commit.report_touch : ∀ c b, (Commit.report c b).onlyChanges c.st
    [.interrupts, .tallies, .daybook, .outputs, .flash] := by
  intro c b
  unfold Commit.report
  refine only_step ?_ (State.note_touch _ _ _) rfl
  split
  · exact only_refl _ _
  · exact only_sub (State.count_touch _ _) rfl

theorem State.activate_touch : ∀ s x1 x2, (State.activate s x1 x2).st.onlyChanges s [.tallies, .parison] := by
  intro s x1 x2
  unfold State.activate
  conv => zeta
  split
  with_reducible refine only_step ?_ (refuse_touch _ _)
  with_reducible exact only_refl _ _
  with_reducible refine only_ite3 ?_ ?_
  with_reducible refine only_step ?_ (refuse_touch _ _)
  with_reducible exact only_refl _ _
  with_reducible refine only_ite3 ?_ ?_
  with_reducible refine only_step ?_ (refuse_touch _ _)
  with_reducible exact only_refl _ _
  with_reducible refine only_ite3 ?_ ?_
  with_reducible refine only_step ?_ (timeAns_touch _ _)
  with_reducible refine only_set_par _ ?_ ?_
  with_reducible exact only_refl _ _
  exact (rfl : _ = true)
  with_reducible refine only_ite3 ?_ ?_
  with_reducible refine only_step ?_ (refuse_touch _ _)
  with_reducible exact only_refl _ _
  with_reducible refine only_ite3 ?_ ?_
  with_reducible refine only_step ?_ (refuse_touch _ _)
  with_reducible refine only_step ?_ (State.count_touch _ _)
  with_reducible exact only_refl _ _
  with_reducible refine only_step ?_ (timeAns_touch _ _)
  with_reducible refine only_set_par _ ?_ ?_
  with_reducible exact only_refl _ _
  exact (rfl : _ = true)

theorem State.loadDefault_touch : ∀ s x1, (State.loadDefault s x1).onlyChanges s [.interrupts, .tallies, .daybook, .outputs, .system, .flash, .parison, .trackers, .fabric, .measure] := by
  intro s x1
  unfold State.loadDefault
  conv => zeta
  with_reducible refine only_step ?_ (State.note_touch _ _ _)
  with_reducible refine only_ite ?_ ?_
  with_reducible refine only_step ?_ (State.activate_touch _ _ _)
  with_reducible refine only_step ?_ (Commit.report_touch _ _)
  with_reducible refine only_step ?_ (State.commit_touch _ _ _ _)
  with_reducible refine only_set_sys _ ?_ ?_
  with_reducible exact only_refl _ _
  exact (rfl : _ = true)
  with_reducible refine only_step ?_ (State.count_touch _ _)
  with_reducible refine only_step ?_ (Commit.report_touch _ _)
  with_reducible refine only_step ?_ (State.commit_touch _ _ _ _)
  with_reducible refine only_set_sys _ ?_ ?_
  with_reducible exact only_refl _ _
  exact (rfl : _ = true)

theorem State.seedHit_touch : ∀ s x, (State.seedHit s x).1.onlyChanges s [.interrupts, .tallies, .daybook, .outputs, .flash] := by
  intro s x
  unfold State.seedHit
  conv => zeta
  split
  split
  with_reducible refine only_step ?_ (State.count_touch _ _)
  with_reducible exact only_refl _ _
  with_reducible refine only_step ?_ (State.note_touch _ _ _)
  with_reducible refine only_step ?_ (State.count_touch _ _)
  with_reducible exact only_refl _ _
  with_reducible refine only_step ?_ (State.note_touch _ _ _)
  with_reducible refine only_step ?_ (State.count_touch _ _)
  with_reducible exact only_refl _ _

theorem State.injectCan_touch : ∀ s k p c, (State.injectCan s k p c).2.onlyChanges s
    [.interrupts, .tallies, .daybook, .outputs, .flash, .seeds] := by
  intro s k p c
  unfold State.injectCan
  conv => zeta
  refine only_set_seeds _ ?_ rfl
  have aux : ∀ (l : List Seed) (a : List Seed × List (List Byte) × State) (f : List Seed × List (List Byte) × State → Seed → List Seed × List (List Byte) × State),
      (∀ a x, (f a x).2.2.onlyChanges a.2.2 [.interrupts, .tallies, .daybook, .outputs, .flash, .seeds]) →
      (l.foldl f a).2.2.onlyChanges a.2.2 [.interrupts, .tallies, .daybook, .outputs, .flash, .seeds] := by
    intro l
    induction l with
    | nil => intro a f _; exact only_refl _ _
    | cons x l ih => intro a f hf; exact only_trans (hf a x) (ih _ f hf)
  refine aux _ _ _ (fun a x => ?_)
  split
  split
  with_reducible exact only_refl _ _
  split
  with_reducible refine only_ite ?_ ?_
  with_reducible refine only_step ?_ (State.count_touch _ _)
  with_reducible exact only_refl _ _
  with_reducible exact only_refl _ _
  with_reducible refine only_step ?_ (State.seedHit_touch _ _)
  with_reducible exact only_refl _ _
  with_reducible exact only_refl _ _

theorem State.inject_touch : ∀ s x1 x2, (State.inject s x1 x2).2.onlyChanges s [.interrupts, .tallies, .daybook, .outputs, .flash, .seeds] := by
  intro s x1 x2
  unfold State.inject
  conv => zeta
  with_reducible refine only_step ?_ (State.injectCan_touch _ _ _ _)
  with_reducible exact only_refl _ _

theorem State.epochSend_touch : ∀ s, (State.epochSend s).onlyChanges s [.interrupts, .clock, .tallies, .daybook, .outputs, .flash, .seeds] := by
  intro s
  unfold State.epochSend
  conv => zeta
  with_reducible refine only_ite ?_ ?_
  with_reducible refine only_step ?_ (State.send_touch _ _)
  with_reducible refine only_ite ?_ ?_
  with_reducible refine only_step ?_ (State.fresh_touch _ _)
  with_reducible refine only_step ?_ (State.inject_touch _ _ _)
  with_reducible exact only_refl _ _
  with_reducible refine only_step ?_ (State.inject_touch _ _ _)
  with_reducible exact only_refl _ _
  with_reducible refine only_ite ?_ ?_
  with_reducible refine only_step ?_ (State.fresh_touch _ _)
  with_reducible refine only_step ?_ (State.inject_touch _ _ _)
  with_reducible exact only_refl _ _
  with_reducible refine only_step ?_ (State.inject_touch _ _ _)
  with_reducible exact only_refl _ _

theorem State.mirrorCheck_touch : ∀ s, (State.mirrorCheck s).onlyChanges s [.interrupts, .tallies, .daybook, .outputs, .flash, .twin] := by
  intro s
  unfold State.mirrorCheck
  conv => zeta
  with_reducible refine only_ite ?_ ?_
  with_reducible exact only_refl _ _
  with_reducible refine only_step ?_ (State.note_touch _ _ _)
  with_reducible refine only_set_twin _ ?_ ?_
  with_reducible exact only_refl _ _
  exact (rfl : _ = true)

theorem State.seal_touch : ∀ s, (State.seal s).onlyChanges s [.interrupts, .clock, .tallies, .daybook, .outputs, .flash, .twin, .seeds] := by
  intro s
  unfold State.seal
  conv => zeta
  with_reducible refine only_ite ?_ ?_
  with_reducible exact only_refl _ _
  with_reducible refine only_ite ?_ ?_
  with_reducible refine only_set_twin _ ?_ ?_
  with_reducible exact only_refl _ _
  exact (rfl : _ = true)
  with_reducible refine only_step ?_ (State.mirrorCheck_touch _)
  with_reducible refine only_step ?_ (State.count_touch _ _)
  with_reducible refine only_set_twin _ ?_ ?_
  with_reducible refine only_step ?_ (State.epochSend_touch _)
  with_reducible refine only_set_twin _ ?_ ?_
  with_reducible exact only_refl _ _
  exact (rfl : _ = true)
  exact (rfl : _ = true)

theorem State.dropHost_touch : ∀ s x1 x2, (State.dropHost s x1 x2).onlyChanges s [.tallies, .fabric] := by
  intro s x1 x2
  unfold State.dropHost
  conv => zeta
  split
  with_reducible refine only_step ?_ (State.freeFrames_touch _)
  with_reducible refine only_step ?_ (State.count_touch _ _)
  with_reducible refine only_step ?_ (State.take_touch _ _)
  with_reducible exact only_refl _ _
  with_reducible exact only_refl _ _

theorem State.setHrx_touch : ∀ s x1 x2, (State.setHrx s x1 x2).onlyChanges s [.ports] := by
  intro s x1 x2
  unfold State.setHrx
  conv => zeta
  with_reducible refine only_set_ports _ ?_ ?_
  with_reducible exact only_refl _ _
  exact (rfl : _ = true)

theorem State.hrxPump_touch : ∀ s q j n, (State.hrxPump s q j n).onlyChanges s [.interrupts, .tallies, .daybook, .outputs, .flash, .ports, .fabric] := by
  intro s q j n
  induction n generalizing s with
  | zero => exact only_refl _ _
  | succ n ih =>
    unfold State.hrxPump
    conv => zeta
    split
    with_reducible exact only_refl _ _
    with_reducible refine only_ite ?_ ?_
    with_reducible refine only_ite ?_ ?_
    with_reducible refine only_step ?_ (ih _)
    with_reducible refine only_step ?_ (State.dropHost_touch _ _ _)
    with_reducible exact only_refl _ _
    with_reducible exact only_refl _ _
    split
    with_reducible refine only_step ?_ (ih _)
    with_reducible refine only_step ?_ (State.take_touch _ _)
    with_reducible exact only_refl _ _
    with_reducible refine only_ite ?_ ?_
    with_reducible exact only_refl _ _
    with_reducible refine only_ite ?_ ?_
    with_reducible refine only_step ?_ (State.setHrx_touch _ _ _)
    with_reducible exact only_refl _ _
    with_reducible refine only_ite ?_ ?_
    with_reducible refine only_step ?_ (ih _)
    with_reducible refine only_step ?_ (State.noteOnce_touch _ _ _ _)
    with_reducible refine only_step ?_ (State.dropHost_touch _ _ _)
    with_reducible refine only_step ?_ (State.setHrx_touch _ _ _)
    with_reducible exact only_refl _ _
    with_reducible refine only_step ?_ (State.setHrx_touch _ _ _)
    with_reducible exact only_refl _ _

theorem State.hrxAll_touch : ∀ s, (State.hrxAll s).onlyChanges s [.interrupts, .tallies, .daybook, .outputs, .flash, .ports, .fabric] := by
  intro s
  unfold State.hrxAll
  conv => zeta
  with_reducible refine only_foldl _ _ (fun _ _ => ?_) _ _ _ ?_
  with_reducible refine only_step ?_ (State.hrxPump_touch _ _ _ _)
  with_reducible exact only_refl _ _
  with_reducible exact only_refl _ _

theorem State.setSa_touch : ∀ s x1 x2, (State.setSa s x1 x2).onlyChanges s [.fabric] := by
  intro s x1 x2
  unfold State.setSa
  conv => zeta
  with_reducible refine only_set_fab _ ?_ ?_
  with_reducible exact only_refl _ _
  exact (rfl : _ = true)

theorem State.injects_touch : ∀ s x1 x2, (State.injects s x1 x2).2.onlyChanges s [.interrupts, .tallies, .daybook, .outputs, .flash, .seeds] := by
  intro s x1 x2
  unfold State.injects
  conv => zeta
  with_reducible refine only_step ?_ (State.inject_touch _ _ _)
  with_reducible exact only_refl _ _

theorem State.setKey_touch : ∀ s x1 x2, (State.setKey s x1 x2).onlyChanges s [.vault] := by
  intro s x1 x2
  unfold State.setKey
  conv => zeta
  with_reducible refine only_set_sec _ ?_ ?_
  with_reducible exact only_refl _ _
  exact (rfl : _ = true)

theorem State.keySend_touch : ∀ s x1 x2 x3 x4, (State.keySend s x1 x2 x3 x4).onlyChanges s [.outputs] := by
  intro s x1 x2 x3 x4
  unfold State.keySend
  conv => zeta
  with_reducible refine only_step ?_ (State.send_touch _ _)
  with_reducible exact only_refl _ _

theorem State.sendNext_touch : ∀ s x1, (State.sendNext s x1).onlyChanges s [.outputs, .vault] := by
  intro s x1
  unfold State.sendNext
  conv => zeta
  with_reducible refine only_step ?_ (State.keySend_touch _ _ _ _ _)
  with_reducible refine only_step ?_ (State.setKey_touch _ _ _)
  with_reducible exact only_refl _ _

theorem State.choose_touch : ∀ s p n, (State.choose s p n).onlyChanges s [.interrupts, .tallies, .daybook, .outputs, .flash, .fabric, .vault, .seeds] := by
  intro s p n
  induction n generalizing s with
  | zero => exact only_refl _ _
  | succ n ih =>
    unfold State.choose
    conv => zeta
    with_reducible refine only_ite ?_ ?_
    with_reducible exact only_refl _ _
    split
    with_reducible exact only_refl _ _
    with_reducible refine only_ite ?_ ?_
    with_reducible refine only_ite ?_ ?_
    with_reducible exact only_refl _ _
    with_reducible refine only_step ?_ (State.count_touch _ _)
    with_reducible refine only_step ?_ (State.setSa_touch _ _ _)
    with_reducible exact only_refl _ _
    with_reducible refine only_ite ?_ ?_
    with_reducible refine only_step ?_ (ih _)
    with_reducible refine only_step ?_ (State.freeFrames_touch _)
    with_reducible refine only_step ?_ (State.take_touch _ _)
    with_reducible refine only_step ?_ (State.injects_touch _ _ _)
    with_reducible exact only_refl _ _
    split
    with_reducible refine only_step ?_ (State.take_touch _ _)
    with_reducible refine only_step ?_ (State.injects_touch _ _ _)
    with_reducible exact only_refl _ _
    with_reducible refine only_ite ?_ ?_
    with_reducible refine only_set_fab _ ?_ ?_
    with_reducible refine only_step ?_ (State.take_touch _ _)
    with_reducible refine only_step ?_ (State.injects_touch _ _ _)
    with_reducible exact only_refl _ _
    exact (rfl : _ = true)
    with_reducible refine only_ite ?_ ?_
    with_reducible refine only_step ?_ (State.sendNext_touch _ _)
    with_reducible refine only_step ?_ (State.note_touch _ _ _)
    with_reducible refine only_step ?_ (State.setSa_touch _ _ _)
    with_reducible refine only_set_fab _ ?_ ?_
    with_reducible refine only_step ?_ (State.take_touch _ _)
    with_reducible refine only_step ?_ (State.injects_touch _ _ _)
    with_reducible exact only_refl _ _
    exact (rfl : _ = true)
    with_reducible refine only_step ?_ (State.setSa_touch _ _ _)
    with_reducible refine only_set_fab _ ?_ ?_
    with_reducible refine only_step ?_ (State.take_touch _ _)
    with_reducible refine only_step ?_ (State.injects_touch _ _ _)
    with_reducible exact only_refl _ _
    exact (rfl : _ = true)

theorem State.egress_touch : ∀ s x1, (State.egress s x1).onlyChanges s [.interrupts, .tallies, .daybook, .outputs, .flash, .ports, .fabric, .vault, .seeds] := by
  intro s x1
  unfold State.egress
  conv => zeta
  with_reducible refine only_ite ?_ ?_
  with_reducible refine only_step ?_ (State.hrxAll_touch _)
  with_reducible exact only_refl _ _
  with_reducible refine only_step ?_ (State.choose_touch _ _ _)
  with_reducible exact only_refl _ _

theorem State.egressAll_touch : ∀ s, (State.egressAll s).onlyChanges s [.interrupts, .tallies, .daybook, .outputs, .flash, .ports, .fabric, .vault, .seeds] := by
  intro s
  unfold State.egressAll
  conv => zeta
  with_reducible refine only_foldl _ _ (fun _ _ => ?_) _ _ _ ?_
  with_reducible refine only_step ?_ (State.egress_touch _ _)
  with_reducible exact only_refl _ _
  with_reducible exact only_refl _ _

theorem State.setBb_touch : ∀ s x1 x2, (State.setBb s x1 x2).onlyChanges s [.inaug] := by
  intro s x1 x2
  unfold State.setBb
  conv => zeta
  with_reducible refine only_set_inaug _ ?_ ?_
  with_reducible exact only_refl _ _
  exact (rfl : _ = true)

theorem State.keyFail_touch : ∀ s x1 x2, (State.keyFail s x1 x2).onlyChanges s [.interrupts, .tallies, .daybook, .outputs, .flash, .vault] := by
  intro s x1 x2
  unfold State.keyFail
  conv => zeta
  with_reducible refine only_step ?_ (State.note_touch _ _ _)
  with_reducible refine only_step ?_ (State.count_touch _ _)
  with_reducible refine only_step ?_ (State.setKey_touch _ _ _)
  with_reducible refine only_step ?_ (State.keySend_touch _ _ _ _ _)
  with_reducible exact only_refl _ _

theorem State.draw_touch : ∀ s x1, (State.draw s x1).2.onlyChanges s [.vault] := by
  intro s x1
  unfold State.draw
  conv => zeta
  with_reducible refine only_set_sec _ ?_ ?_
  with_reducible exact only_refl _ _
  exact (rfl : _ = true)

theorem State.keyAsk_touch : ∀ s x1 x2 x3 x4, (State.keyAsk s x1 x2 x3 x4).onlyChanges s [.outputs, .vault] := by
  intro s x1 x2 x3 x4
  unfold State.keyAsk
  conv => zeta
  with_reducible refine only_step ?_ (State.keySend_touch _ _ _ _ _)
  with_reducible refine only_step ?_ (State.setKey_touch _ _ _)
  with_reducible exact only_refl _ _

theorem State.keyBegin_touch : ∀ s x1, (State.keyBegin s x1).onlyChanges s [.interrupts, .tallies, .daybook, .outputs, .flash, .vault] := by
  intro s x1
  unfold State.keyBegin
  conv => zeta
  with_reducible refine only_ite ?_ ?_
  with_reducible refine only_step ?_ (State.setKey_touch _ _ _)
  with_reducible exact only_refl _ _
  with_reducible refine only_ite ?_ ?_
  with_reducible refine only_step ?_ (State.keyFail_touch _ _ _)
  with_reducible refine only_step ?_ (State.setKey_touch _ _ _)
  with_reducible exact only_refl _ _
  with_reducible refine only_ite ?_ ?_
  with_reducible refine only_step ?_ (State.keyFail_touch _ _ _)
  with_reducible refine only_step ?_ (State.setKey_touch _ _ _)
  with_reducible exact only_refl _ _
  with_reducible refine only_step ?_ (State.keyAsk_touch _ _ _ _ _)
  with_reducible refine only_step ?_ (State.setKey_touch _ _ _)
  with_reducible refine only_step ?_ (State.draw_touch _ _)
  with_reducible refine only_step ?_ (State.draw_touch _ _)
  with_reducible refine only_step ?_ (State.draw_touch _ _)
  with_reducible refine only_step ?_ (State.setKey_touch _ _ _)
  with_reducible exact only_refl _ _

theorem State.keyStart_touch : ∀ s x1, (State.keyStart s x1).onlyChanges s [.interrupts, .tallies, .daybook, .outputs, .flash, .vault] := by
  intro s x1
  unfold State.keyStart
  conv => zeta
  with_reducible refine only_ite ?_ ?_
  with_reducible exact only_refl _ _
  with_reducible refine only_step ?_ (State.keyBegin_touch _ _)
  with_reducible exact only_refl _ _

theorem State.keyNew_touch : ∀ s x1, (State.keyNew s x1).onlyChanges s [.interrupts, .tallies, .daybook, .outputs, .flash, .inaug, .vault] := by
  intro s x1
  unfold State.keyNew
  conv => zeta
  with_reducible refine only_ite ?_ ?_
  with_reducible refine only_step ?_ (State.setBb_touch _ _ _)
  with_reducible exact only_refl _ _
  with_reducible refine only_step ?_ (State.setBb_touch _ _ _)
  with_reducible refine only_ite ?_ ?_
  with_reducible refine only_step ?_ (State.keyStart_touch _ _)
  with_reducible exact only_refl _ _
  with_reducible exact only_refl _ _

theorem State.overUpdate_touch : ∀ s, (State.overUpdate s).onlyChanges s [.interrupts, .tallies, .daybook, .outputs, .flash, .inaug] := by
  intro s
  unfold State.overUpdate
  conv => zeta
  split
  with_reducible refine only_ite ?_ ?_
  with_reducible exact only_refl _ _
  with_reducible refine only_step ?_ (State.note_touch _ _ _)
  with_reducible refine only_ite ?_ ?_
  with_reducible refine only_step ?_ (State.count_touch _ _)
  with_reducible refine only_set_inaug _ ?_ ?_
  with_reducible exact only_refl _ _
  exact (rfl : _ = true)
  with_reducible refine only_set_inaug _ ?_ ?_
  with_reducible exact only_refl _ _
  exact (rfl : _ = true)
  with_reducible refine only_set_inaug _ ?_ ?_
  with_reducible exact only_refl _ _
  exact (rfl : _ = true)

theorem State.rebind_touch : ∀ s, (State.rebind s).onlyChanges s [.interrupts, .tallies, .daybook, .outputs, .flash, .ports, .fabric, .inaug, .vault, .seeds] := by
  intro s
  unfold State.rebind
  conv => zeta
  split
  with_reducible exact only_refl _ _
  with_reducible refine only_ite ?_ ?_
  with_reducible exact only_refl _ _
  with_reducible refine only_step ?_ (State.egressAll_touch _)
  split
  with_reducible refine only_foldl _ _ (fun _ _ => ?_) _ _ _ ?_
  with_reducible refine only_step ?_ (State.keyNew_touch _ _)
  with_reducible exact only_refl _ _
  with_reducible refine only_step ?_ (State.overUpdate_touch _)
  with_reducible refine only_step ?_ (State.note_touch _ _ _)
  with_reducible refine only_step ?_ (State.count_touch _ _)
  with_reducible refine only_set_inaug _ ?_ ?_
  with_reducible exact only_refl _ _
  exact (rfl : _ = true)
  with_reducible refine only_foldl _ _ (fun _ _ => ?_) _ _ _ ?_
  with_reducible refine only_step ?_ (State.keyNew_touch _ _)
  with_reducible exact only_refl _ _
  with_reducible refine only_step ?_ (State.overUpdate_touch _)
  with_reducible refine only_step ?_ (State.note_touch _ _ _)
  with_reducible refine only_step ?_ (State.count_touch _ _)
  with_reducible refine only_set_inaug _ ?_ ?_
  with_reducible exact only_refl _ _
  exact (rfl : _ = true)

theorem State.rebindBy_touch : ∀ s x1, (State.rebindBy s x1).onlyChanges s [.interrupts, .tallies, .daybook, .outputs, .flash, .ports, .fabric, .inaug, .vault, .seeds] := by
  intro s x1
  unfold State.rebindBy
  conv => zeta
  split
  with_reducible refine only_ite ?_ ?_
  with_reducible refine only_step ?_ (State.rebind_touch _)
  with_reducible exact only_refl _ _
  with_reducible exact only_refl _ _
  with_reducible exact only_refl _ _

theorem State.endResync_touch : ∀ s, (State.endResync s).onlyChanges s [.triad] := by
  intro s
  unfold State.endResync
  conv => zeta
  with_reducible refine only_set_triad _ ?_ ?_
  with_reducible exact only_refl _ _
  exact (rfl : _ = true)

theorem State.stopTask_touch : ∀ s, (State.stopTask s).onlyChanges s [.triad] := by
  intro s
  unfold State.stopTask
  conv => zeta
  with_reducible refine only_set_triad _ ?_ ?_
  with_reducible exact only_refl _ _
  exact (rfl : _ = true)

theorem State.holdSnaps_touch : ∀ s x1, (State.holdSnaps s x1).onlyChanges s [.triad] := by
  intro s x1
  unfold State.holdSnaps
  conv => zeta
  with_reducible refine only_set_triad _ ?_ ?_
  with_reducible exact only_refl _ _
  exact (rfl : _ = true)

theorem State.triadStop_touch : ∀ s, (State.triadStop s).onlyChanges s [.tallies, .triad] := by
  intro s
  unfold State.triadStop
  conv => zeta
  split
  with_reducible refine only_set_triad _ ?_ ?_
  with_reducible refine only_foldl _ _ (fun _ _ => ?_) _ _ _ ?_
  with_reducible refine only_step ?_ (State.holdSnaps_touch _ _)
  with_reducible exact only_refl _ _
  with_reducible refine only_step ?_ (State.count_touch _ _)
  with_reducible refine only_step ?_ (State.stopTask_touch _)
  with_reducible exact only_refl _ _
  exact (rfl : _ = true)
  with_reducible refine only_set_triad _ ?_ ?_
  with_reducible refine only_foldl _ _ (fun _ _ => ?_) _ _ _ ?_
  with_reducible refine only_step ?_ (State.holdSnaps_touch _ _)
  with_reducible exact only_refl _ _
  with_reducible exact only_refl _ _
  exact (rfl : _ = true)

theorem State.setCore_touch : ∀ s x1 x2, (State.setCore s x1 x2).onlyChanges s [.triad] := by
  intro s x1 x2
  unfold State.setCore
  conv => zeta
  with_reducible refine only_set_triad _ ?_ ?_
  with_reducible exact only_refl _ _
  exact (rfl : _ = true)

theorem State.triTo_touch : ∀ s x1 x2, (State.triTo s x1 x2).onlyChanges s [.interrupts, .tallies, .daybook, .outputs, .flash, .triad] := by
  intro s x1 x2
  unfold State.triTo
  conv => zeta
  with_reducible refine only_ite ?_ ?_
  with_reducible exact only_refl _ _
  with_reducible refine only_step ?_ (State.note_touch _ _ _)
  with_reducible refine only_set_triad _ ?_ ?_
  with_reducible exact only_refl _ _
  exact (rfl : _ = true)

theorem State.triadHalt_touch : ∀ s, (State.triadHalt s).onlyChanges s [.interrupts, .tallies, .daybook, .outputs, .flash, .triad] := by
  intro s
  unfold State.triadHalt
  conv => zeta
  with_reducible refine only_step ?_ (State.triTo_touch _ _ _)
  with_reducible refine only_set_triad _ ?_ ?_
  with_reducible refine only_foldl _ _ (fun _ _ => ?_) _ _ _ ?_
  with_reducible refine only_step ?_ (State.setCore_touch _ _ _)
  with_reducible exact only_refl _ _
  with_reducible refine only_step ?_ (State.endResync_touch _)
  with_reducible refine only_step ?_ (State.triadStop_touch _)
  with_reducible exact only_refl _ _
  exact (rfl : _ = true)

theorem State.setGates_touch : ∀ s x1 x2, (State.setGates s x1 x2).onlyChanges s [.fabric] := by
  intro s x1 x2
  unfold State.setGates
  conv => zeta
  with_reducible refine only_set_fab _ ?_ ?_
  with_reducible exact only_refl _ _
  exact (rfl : _ = true)

theorem State.sweep_touch : ∀ s x1 x2, (State.sweep s x1 x2).onlyChanges s [.tallies, .fabric] := by
  intro s x1 x2
  unfold State.sweep
  conv => zeta
  with_reducible refine only_ite ?_ ?_
  with_reducible exact only_refl _ _
  with_reducible refine only_step ?_ (State.freeFrames_touch _)
  with_reducible refine only_step ?_ (State.countN_touch _ _ _)
  with_reducible refine only_set_fab _ ?_ ?_
  with_reducible exact only_refl _ _
  exact (rfl : _ = true)

theorem State.closeGates_touch : ∀ s x1 x2, (State.closeGates s x1 x2).onlyChanges s [.tallies, .fabric] := by
  intro s x1 x2
  unfold State.closeGates
  conv => zeta
  with_reducible refine only_foldl _ _ (fun _ _ => ?_) _ _ _ ?_
  with_reducible refine only_ite ?_ ?_
  with_reducible refine only_step ?_ (State.sweep_touch _ _ _)
  with_reducible exact only_refl _ _
  with_reducible exact only_refl _ _
  with_reducible refine only_step ?_ (State.setGates_touch _ _ _)
  with_reducible exact only_refl _ _

theorem State.closeAll_touch : ∀ s, (State.closeAll s).onlyChanges s [.tallies, .fabric] := by
  intro s
  unfold State.closeAll
  conv => zeta
  with_reducible refine only_foldl _ _ (fun _ _ => ?_) _ _ _ ?_
  with_reducible refine only_step ?_ (State.closeGates_touch _ _ _)
  with_reducible exact only_refl _ _
  with_reducible exact only_refl _ _

theorem State.raisePar_touch : ∀ s x1, (State.raisePar s x1).onlyChanges s [.interrupts, .tallies, .daybook, .outputs, .flash, .vault] := by
  intro s x1
  unfold State.raisePar
  conv => zeta
  with_reducible refine only_ite ?_ ?_
  with_reducible refine only_step ?_ (State.recordUpd_touch _ _)
  with_reducible exact only_refl _ _
  with_reducible exact only_refl _ _

theorem State.activated_touch : ∀ s x1 x2 x3, (State.activated s x1 x2 x3).onlyChanges s [.interrupts, .tallies, .daybook, .outputs, .flash, .vault] := by
  intro s x1 x2 x3
  unfold State.activated
  conv => zeta
  with_reducible refine only_step ?_ (State.note_touch _ _ _)
  with_reducible refine only_ite ?_ ?_
  with_reducible refine only_step ?_ (State.raisePar_touch _ _)
  with_reducible refine only_step ?_ (State.setBoot_touch _ _ _)
  with_reducible exact only_refl _ _
  with_reducible refine only_step ?_ (State.setBoot_touch _ _ _)
  with_reducible exact only_refl _ _

theorem State.dishonour_touch : ∀ s x1 x2 x3 x4 x5 x6, (State.dishonour s x1 x2 x3 x4 x5 x6).onlyChanges s [.interrupts, .tallies, .daybook, .outputs, .flash, .bridge] := by
  intro s x1 x2 x3 x4 x5 x6
  unfold State.dishonour
  conv => zeta
  with_reducible refine only_ite ?_ ?_
  with_reducible refine only_step ?_ (State.count_touch _ _)
  with_reducible refine only_set_bridge _ ?_ ?_
  with_reducible exact only_refl _ _
  exact (rfl : _ = true)
  with_reducible refine only_step ?_ (State.noteOnce_touch _ _ _ _)
  with_reducible refine only_set_bridge _ ?_ ?_
  with_reducible refine only_set_bridge _ ?_ ?_
  with_reducible exact only_refl _ _
  exact (rfl : _ = true)
  exact (rfl : _ = true)

theorem State.setSlot_touch : ∀ s x1 x2, (State.setSlot s x1 x2).onlyChanges s [.bridge] := by
  intro s x1 x2
  unfold State.setSlot
  conv => zeta
  with_reducible refine only_set_bridge _ ?_ ?_
  with_reducible exact only_refl _ _
  exact (rfl : _ = true)

theorem State.slotSwitch_touch : ∀ s x1 x2, (State.slotSwitch s x1 x2).onlyChanges s [.interrupts, .tallies, .daybook, .outputs, .flash, .bridge] := by
  intro s x1 x2
  unfold State.slotSwitch
  conv => zeta
  split
  with_reducible exact only_refl _ _
  with_reducible refine only_ite ?_ ?_
  with_reducible exact only_refl _ _
  with_reducible refine only_ite ?_ ?_
  with_reducible refine only_step ?_ (State.dishonour_touch _ _ _ _ _ _ _)
  with_reducible refine only_step ?_ (State.setSlot_touch _ _ _)
  with_reducible exact only_refl _ _
  with_reducible refine only_step ?_ (State.setSlot_touch _ _ _)
  with_reducible exact only_refl _ _

theorem State.bridgeActivate_touch : ∀ s x1 x2, (State.bridgeActivate s x1 x2).onlyChanges s [.interrupts, .tallies, .daybook, .outputs, .flash, .bridge] := by
  intro s x1 x2
  unfold State.bridgeActivate
  conv => zeta
  split
  split
  split
  with_reducible refine only_set_bridge _ ?_ ?_
  with_reducible refine only_foldl _ _ (fun _ _ => ?_) _ _ _ ?_
  with_reducible refine only_step ?_ (State.slotSwitch_touch _ _ _)
  with_reducible exact only_refl _ _
  with_reducible exact only_refl _ _
  exact (rfl : _ = true)
  with_reducible refine only_set_bridge _ ?_ ?_
  with_reducible refine only_foldl _ _ (fun _ _ => ?_) _ _ _ ?_
  with_reducible refine only_step ?_ (State.slotSwitch_touch _ _ _)
  with_reducible exact only_refl _ _
  with_reducible exact only_refl _ _
  exact (rfl : _ = true)
  split
  with_reducible refine only_set_bridge _ ?_ ?_
  with_reducible refine only_foldl _ _ (fun _ _ => ?_) _ _ _ ?_
  with_reducible refine only_step ?_ (State.slotSwitch_touch _ _ _)
  with_reducible exact only_refl _ _
  with_reducible exact only_refl _ _
  exact (rfl : _ = true)
  with_reducible refine only_set_bridge _ ?_ ?_
  with_reducible refine only_foldl _ _ (fun _ _ => ?_) _ _ _ ?_
  with_reducible refine only_step ?_ (State.slotSwitch_touch _ _ _)
  with_reducible exact only_refl _ _
  with_reducible exact only_refl _ _
  exact (rfl : _ = true)
  split
  with_reducible refine only_set_bridge _ ?_ ?_
  with_reducible refine only_foldl _ _ (fun _ _ => ?_) _ _ _ ?_
  with_reducible refine only_step ?_ (State.slotSwitch_touch _ _ _)
  with_reducible exact only_refl _ _
  with_reducible exact only_refl _ _
  exact (rfl : _ = true)
  with_reducible refine only_set_bridge _ ?_ ?_
  with_reducible refine only_foldl _ _ (fun _ _ => ?_) _ _ _ ?_
  with_reducible refine only_step ?_ (State.slotSwitch_touch _ _ _)
  with_reducible exact only_refl _ _
  with_reducible exact only_refl _ _
  exact (rfl : _ = true)

theorem State.activateCold_touch : ∀ s x1 x2, (State.activateCold s x1 x2).onlyChanges s [.interrupts, .tallies, .daybook, .outputs, .flash, .parison, .pace, .gaffer, .fabric, .triad, .bridge, .vault] := by
  intro s p t
  have h0 : s.spineCount.closeAll.triadHalt.onlyChanges s [.interrupts, .tallies, .daybook, .outputs, .flash, .parison, .pace, .gaffer, .fabric, .triad, .bridge, .vault] :=
    only_step (only_step (only_sub (State.spineCount_touch s) rfl) (State.closeAll_touch _) rfl)
      (State.triadHalt_touch _) rfl
  have h : ∀ u : State, u.onlyChanges s [.interrupts, .tallies, .daybook, .outputs, .flash, .parison, .pace, .gaffer, .fabric, .triad, .bridge, .vault] → ∀ a b c d e n w,
      (State.activated (State.bridgeActivate (State.countN
        { u with gaf := a, pace := b, fab := c, par := d, } (tlStrand 17) n) w []) p t e).onlyChanges s [.interrupts, .tallies, .daybook, .outputs, .flash, .parison, .pace, .gaffer, .fabric, .triad, .bridge, .vault] :=
    fun u hu a b c d e n w => only_step (only_step (only_step (only_set_gaf_fab_par_pace a c d b hu rfl rfl rfl rfl)
      (State.countN_touch ..) rfl) (State.bridgeActivate_touch ..) rfl) (State.activated_touch ..) rfl
  exact h _ h0 _ _ _ _ _ _ _

theorem State.substitute_touch : ∀ s x1, (State.substitute s x1).onlyChanges s [.interrupts, .tallies, .daybook, .outputs, .flash, .pace] := by
  intro s x1
  unfold State.substitute
  conv => zeta
  with_reducible refine only_step ?_ (State.note_touch _ _ _)
  with_reducible refine only_step ?_ (State.count_touch _ _)
  with_reducible refine only_set_pace _ ?_ ?_
  with_reducible refine only_step ?_ (State.rebase_touch _ _ _)
  with_reducible exact only_refl _ _
  exact (rfl : _ = true)

theorem State.coast_touch : ∀ s x1 x2, (State.coast s x1 x2).onlyChanges s [.interrupts, .tallies, .daybook, .outputs, .flash, .pace] := by
  intro s x1 x2
  unfold State.coast
  conv => zeta
  with_reducible refine only_step ?_ (State.note_touch _ _ _)
  with_reducible refine only_step ?_ (State.count_touch _ _)
  with_reducible refine only_set_pace _ ?_ ?_
  with_reducible refine only_step ?_ (State.rebase_touch _ _ _)
  with_reducible exact only_refl _ _
  exact (rfl : _ = true)

theorem State.paceStart_touch : ∀ s, (State.paceStart s).onlyChanges s [.interrupts, .tallies, .daybook, .outputs, .flash, .pace] := by
  intro s
  unfold State.paceStart
  conv => zeta
  with_reducible refine only_ite ?_ ?_
  with_reducible refine only_set_pace _ ?_ ?_
  with_reducible exact only_refl _ _
  exact (rfl : _ = true)
  with_reducible refine only_ite ?_ ?_
  split
  with_reducible refine only_ite ?_ ?_
  with_reducible refine only_set_pace _ ?_ ?_
  with_reducible exact only_refl _ _
  exact (rfl : _ = true)
  with_reducible refine only_step ?_ (State.substitute_touch _ _)
  with_reducible refine only_set_pace _ ?_ ?_
  with_reducible exact only_refl _ _
  exact (rfl : _ = true)
  with_reducible refine only_step ?_ (State.substitute_touch _ _)
  with_reducible refine only_set_pace _ ?_ ?_
  with_reducible exact only_refl _ _
  exact (rfl : _ = true)
  with_reducible refine only_ite ?_ ?_
  with_reducible refine only_set_pace _ ?_ ?_
  with_reducible exact only_refl _ _
  exact (rfl : _ = true)
  with_reducible refine only_ite ?_ ?_
  with_reducible refine only_step ?_ (State.coast_touch _ _ _)
  split
  with_reducible refine only_set_pace _ ?_ ?_
  with_reducible exact only_refl _ _
  exact (rfl : _ = true)
  with_reducible refine only_set_pace _ ?_ ?_
  with_reducible exact only_refl _ _
  exact (rfl : _ = true)
  split
  with_reducible refine only_set_pace _ ?_ ?_
  with_reducible exact only_refl _ _
  exact (rfl : _ = true)
  with_reducible refine only_set_pace _ ?_ ?_
  with_reducible exact only_refl _ _
  exact (rfl : _ = true)

theorem State.activateTracker_touch : ∀ s, (State.activateTracker s).onlyChanges s [.trackers] := by
  intro s
  unfold State.activateTracker
  conv => zeta
  with_reducible refine only_ite ?_ ?_
  with_reducible refine only_set_trk _ ?_ ?_
  with_reducible exact only_refl _ _
  exact (rfl : _ = true)
  split
  with_reducible refine only_set_trk _ ?_ ?_
  with_reducible exact only_refl _ _
  exact (rfl : _ = true)
  with_reducible refine only_set_trk _ ?_ ?_
  with_reducible exact only_refl _ _
  exact (rfl : _ = true)

theorem State.beginStrands_touch : ∀ s x1, (State.beginStrands s x1).onlyChanges s [.interrupts, .tallies, .daybook, .outputs, .flash, .trackers, .pace, .gaffer] := by
  intro s x1
  unfold State.beginStrands
  conv => zeta
  with_reducible refine only_step ?_ (State.paceStart_touch _)
  with_reducible refine only_step ?_ (State.activateTracker_touch _)
  split
  split
  split
  split
  with_reducible refine only_set_gaf _ ?_ ?_
  with_reducible exact only_refl _ _
  exact (rfl : _ = true)
  with_reducible refine only_set_gaf _ ?_ ?_
  with_reducible exact only_refl _ _
  exact (rfl : _ = true)
  split
  with_reducible refine only_set_gaf _ ?_ ?_
  with_reducible exact only_refl _ _
  exact (rfl : _ = true)
  with_reducible refine only_set_gaf _ ?_ ?_
  with_reducible exact only_refl _ _
  exact (rfl : _ = true)
  split
  split
  with_reducible refine only_set_gaf _ ?_ ?_
  with_reducible exact only_refl _ _
  exact (rfl : _ = true)
  with_reducible refine only_set_gaf _ ?_ ?_
  with_reducible exact only_refl _ _
  exact (rfl : _ = true)
  split
  with_reducible refine only_set_gaf _ ?_ ?_
  with_reducible exact only_refl _ _
  exact (rfl : _ = true)
  with_reducible refine only_set_gaf _ ?_ ?_
  with_reducible exact only_refl _ _
  exact (rfl : _ = true)
  split
  split
  with_reducible refine only_set_gaf _ ?_ ?_
  with_reducible exact only_refl _ _
  exact (rfl : _ = true)
  with_reducible refine only_set_gaf _ ?_ ?_
  with_reducible exact only_refl _ _
  exact (rfl : _ = true)
  split
  with_reducible refine only_set_gaf _ ?_ ?_
  with_reducible exact only_refl _ _
  exact (rfl : _ = true)
  with_reducible refine only_set_gaf _ ?_ ?_
  with_reducible exact only_refl _ _
  exact (rfl : _ = true)

theorem State.keepSnaps_touch : ∀ s x1, (State.keepSnaps s x1).onlyChanges s [.triad] := by
  intro s x1
  unfold State.keepSnaps
  conv => zeta
  with_reducible refine only_set_triad _ ?_ ?_
  with_reducible exact only_refl _ _
  exact (rfl : _ = true)

theorem State.portsActivate_touch : ∀ s x1, (State.portsActivate s x1).onlyChanges s [.store, .triad] := by
  intro s x1
  unfold State.portsActivate
  conv => zeta
  split
  split
  split
  with_reducible refine only_set_pd _ ?_ ?_
  with_reducible refine only_step ?_ (State.keepSnaps_touch _ _)
  with_reducible exact only_refl _ _
  exact (rfl : _ = true)
  with_reducible refine only_set_pd _ ?_ ?_
  with_reducible refine only_step ?_ (State.keepSnaps_touch _ _)
  with_reducible exact only_refl _ _
  exact (rfl : _ = true)
  split
  with_reducible refine only_set_pd _ ?_ ?_
  with_reducible refine only_step ?_ (State.keepSnaps_touch _ _)
  with_reducible exact only_refl _ _
  exact (rfl : _ = true)
  with_reducible refine only_set_pd _ ?_ ?_
  with_reducible refine only_step ?_ (State.keepSnaps_touch _ _)
  with_reducible exact only_refl _ _
  exact (rfl : _ = true)
  split
  with_reducible refine only_set_pd _ ?_ ?_
  with_reducible refine only_step ?_ (State.keepSnaps_touch _ _)
  with_reducible exact only_refl _ _
  exact (rfl : _ = true)
  with_reducible refine only_set_pd _ ?_ ?_
  with_reducible refine only_step ?_ (State.keepSnaps_touch _ _)
  with_reducible exact only_refl _ _
  exact (rfl : _ = true)

theorem State.fabActivate_touch : ∀ s x1 x2, (State.fabActivate s x1 x2).onlyChanges s [.fabric, .store] := by
  intro s x1 x2
  unfold State.fabActivate
  conv => zeta
  split
  with_reducible refine only_set_fab_pd _ _ ?_ ?_ ?_
  with_reducible exact only_refl _ _
  exact (rfl : _ = true)
  exact (rfl : _ = true)
  with_reducible refine only_set_fab_pd _ _ ?_ ?_ ?_
  with_reducible exact only_refl _ _
  exact (rfl : _ = true)
  exact (rfl : _ = true)

theorem State.sourceRestarts_touch : ∀ s x1, (State.sourceRestarts s x1).onlyChanges s [.trackers] := by
  intro s x1
  unfold State.sourceRestarts
  conv => zeta
  split
  with_reducible refine only_ite ?_ ?_
  with_reducible refine only_step ?_ (State.setTracker_touch _ _ _)
  with_reducible exact only_refl _ _
  with_reducible exact only_refl _ _
  with_reducible exact only_refl _ _

theorem State.setPair_touch : ∀ s x1 x2, (State.setPair s x1 x2).onlyChanges s [.measure] := by
  intro s x1 x2
  unfold State.setPair
  conv => zeta
  with_reducible refine only_set_meas _ ?_ ?_
  with_reducible exact only_refl _ _
  exact (rfl : _ = true)

theorem State.setTach_touch : ∀ s x1 x2, (State.setTach s x1 x2).onlyChanges s [.measure] := by
  intro s x1 x2
  unfold State.setTach
  conv => zeta
  with_reducible refine only_set_meas _ ?_ ?_
  with_reducible exact only_refl _ _
  exact (rfl : _ = true)

theorem State.measActivate_touch : ∀ s x1 x2, (State.measActivate s x1 x2).onlyChanges s [.trackers, .measure] := by
  intro s x1 x2
  unfold State.measActivate
  conv => zeta
  split
  with_reducible refine only_foldl _ _ (fun _ _ => ?_) _ _ _ ?_
  with_reducible refine only_ite ?_ ?_
  with_reducible refine only_step ?_ (State.setTach_touch _ _ _)
  with_reducible exact only_refl _ _
  with_reducible refine only_ite ?_ ?_
  with_reducible exact only_refl _ _
  with_reducible refine only_step ?_ (State.setTach_touch _ _ _)
  with_reducible exact only_refl _ _
  with_reducible refine only_foldl _ _ (fun _ _ => ?_) _ _ _ ?_
  with_reducible refine only_ite ?_ ?_
  with_reducible refine only_step ?_ (State.setPair_touch _ _ _)
  with_reducible exact only_refl _ _
  with_reducible refine only_ite ?_ ?_
  with_reducible exact only_refl _ _
  with_reducible refine only_step ?_ (State.setPair_touch _ _ _)
  with_reducible exact only_refl _ _
  with_reducible refine only_foldl _ _ (fun _ _ => ?_) _ _ _ ?_
  with_reducible refine only_ite ?_ ?_
  with_reducible refine only_step ?_ (State.setChan_touch _ _ _)
  with_reducible exact only_refl _ _
  split
  with_reducible refine only_step ?_ (State.setChan_touch _ _ _)
  with_reducible exact only_refl _ _
  with_reducible refine only_ite ?_ ?_
  with_reducible refine only_step ?_ (State.setChan_touch _ _ _)
  with_reducible exact only_refl _ _
  with_reducible refine only_step ?_ (State.sourceRestarts_touch _ _)
  with_reducible refine only_step ?_ (State.setChan_touch _ _ _)
  with_reducible exact only_refl _ _
  with_reducible exact only_refl _ _
  with_reducible refine only_foldl _ _ (fun _ _ => ?_) _ _ _ ?_
  with_reducible refine only_ite ?_ ?_
  with_reducible refine only_step ?_ (State.setTach_touch _ _ _)
  with_reducible exact only_refl _ _
  with_reducible refine only_ite ?_ ?_
  with_reducible exact only_refl _ _
  with_reducible refine only_step ?_ (State.setTach_touch _ _ _)
  with_reducible exact only_refl _ _
  with_reducible refine only_foldl _ _ (fun _ _ => ?_) _ _ _ ?_
  with_reducible refine only_ite ?_ ?_
  with_reducible refine only_step ?_ (State.setPair_touch _ _ _)
  with_reducible exact only_refl _ _
  with_reducible refine only_ite ?_ ?_
  with_reducible exact only_refl _ _
  with_reducible refine only_step ?_ (State.setPair_touch _ _ _)
  with_reducible exact only_refl _ _
  with_reducible refine only_foldl _ _ (fun _ _ => ?_) _ _ _ ?_
  with_reducible refine only_ite ?_ ?_
  with_reducible refine only_step ?_ (State.setChan_touch _ _ _)
  with_reducible exact only_refl _ _
  split
  with_reducible refine only_step ?_ (State.setChan_touch _ _ _)
  with_reducible exact only_refl _ _
  with_reducible refine only_ite ?_ ?_
  with_reducible refine only_step ?_ (State.setChan_touch _ _ _)
  with_reducible exact only_refl _ _
  with_reducible refine only_step ?_ (State.sourceRestarts_touch _ _)
  with_reducible refine only_step ?_ (State.setChan_touch _ _ _)
  with_reducible exact only_refl _ _
  with_reducible exact only_refl _ _

theorem State.votesAnew_touch : ∀ s x1 x2, (State.votesAnew s x1 x2).onlyChanges s [.triad] := by
  intro s x1 x2
  unfold State.votesAnew
  conv => zeta
  with_reducible refine only_ite ?_ ?_
  with_reducible exact only_refl _ _
  with_reducible refine only_set_triad _ ?_ ?_
  with_reducible exact only_refl _ _
  exact (rfl : _ = true)

theorem State.loadCore_touch : ∀ s x1 x2, (State.loadCore s x1 x2).onlyChanges s [.triad] := by
  intro s x1 x2
  unfold State.loadCore
  conv => zeta
  with_reducible refine only_step ?_ (State.setCore_touch _ _ _)
  with_reducible exact only_refl _ _

theorem State.loadAll_touch : ∀ s x1, (State.loadAll s x1).onlyChanges s [.triad] := by
  intro s x1
  unfold State.loadAll
  conv => zeta
  with_reducible refine only_foldl _ _ (fun _ _ => ?_) _ _ _ ?_
  with_reducible refine only_step ?_ (State.setCore_touch _ _ _)
  with_reducible refine only_step ?_ (State.loadCore_touch _ _ _)
  with_reducible exact only_refl _ _
  with_reducible exact only_refl _ _

theorem State.fillOne_touch : ∀ s, (State.fillOne s).onlyChanges s [.triad] := by
  intro s
  unfold State.fillOne
  conv => zeta
  split
  with_reducible refine only_step ?_ (State.setCore_touch _ _ _)
  with_reducible exact only_refl _ _
  with_reducible exact only_refl _ _

theorem State.fillSlots_touch : ∀ s, (State.fillSlots s).onlyChanges s [.triad] := by
  intro s
  unfold State.fillSlots
  conv => zeta
  with_reducible refine only_step ?_ (State.fillOne_touch _)
  with_reducible refine only_step ?_ (State.fillOne_touch _)
  with_reducible refine only_step ?_ (State.fillOne_touch _)
  with_reducible exact only_refl _ _

theorem State.triadActivate_touch : ∀ s x1 x2, (State.triadActivate s x1 x2).onlyChanges s
    [.interrupts, .tallies, .daybook, .outputs, .flash, .triad] := by
  intro s old p
  have h0 := only_sub (b := [.interrupts, .tallies, .daybook, .outputs, .flash, .triad])
    (State.votesAnew_touch s old (some p)) rfl
  have h : ∀ v : State, v.onlyChanges s [.interrupts, .tallies, .daybook, .outputs, .flash, .triad] → ∀ y m c,
      (State.triTo { v with triad := y } m c).onlyChanges s [.interrupts, .tallies, .daybook, .outputs, .flash, .triad] :=
    fun v hv y m c => only_step (only_set_triad y hv rfl) (State.triTo_touch ..) rfl
  simp only [State.triadActivate]
  generalize s.votesAnew old (some p) = u at h0 ⊢
  have h1 := only_step h0 (State.triadStop_touch u) rfl
  generalize u.triadStop = v at h1 ⊢
  have h2 := only_step (only_step (only_step h1 (State.endResync_touch _) rfl) (State.fillSlots_touch _) rfl)
    (State.loadAll_touch _ p) rfl
  generalize v.endResync.fillSlots.loadAll p = w at h2 ⊢
  split
  · exact only_step h0 (State.triadHalt_touch _) rfl
  · have h3 : ∀ c : Bool, (if c then u
        else if u.triad.mode = .idle || u.triad.mode = .silent then
          ({ w with triad := { w.triad with restart := false, lack := decide (w.runners.length < 2) } }).triTo
            (if w.runners.length ≥ 3 then .triplex else if w.runners.length = 2 then .duplex else .silent) 0
        else v.runners.foldl (fun s c => s.loadCore p c) v : State).onlyChanges s
          [.interrupts, .tallies, .daybook, .outputs, .flash, .triad] := by
      intro c
      split
      · exact h0
      · split
        · exact h _ h2 _ _ _
        · exact only_foldl _ _ (fun v c => only_sub (State.loadCore_touch v p c) rfl) _ _ _ h1
    exact h3 _

theorem State.withdrawBufs_touch : ∀ s x1 x2 x3, (State.withdrawBufs s x1 x2 x3).onlyChanges s [.tallies, .can] := by
  intro s x1 x2 x3
  unfold State.withdrawBufs
  conv => zeta
  split
  with_reducible exact only_refl _ _
  with_reducible refine only_step ?_ (State.countN_touch _ _ _)
  with_reducible refine only_step ?_ (State.setCtl_touch _ _ _)
  with_reducible exact only_refl _ _

theorem State.canActivateOne_touch : ∀ s x1 x2, (State.canActivateOne s x1 x2).onlyChanges s [.tallies, .can] := by
  intro s x1 x2
  unfold State.canActivateOne
  conv => zeta
  split
  with_reducible refine only_step ?_ (State.setCtl_touch _ _ _)
  with_reducible exact only_refl _ _
  with_reducible refine only_ite ?_ ?_
  with_reducible refine only_step ?_ (State.setCtl_touch _ _ _)
  with_reducible refine only_step ?_ (State.countN_touch _ _ _)
  with_reducible exact only_refl _ _
  split
  with_reducible refine only_step ?_ (State.withdrawBufs_touch _ _ _ _)
  with_reducible exact only_refl _ _
  split
  with_reducible refine only_step ?_ (State.setCtl_touch _ _ _)
  with_reducible refine only_step ?_ (State.withdrawBufs_touch _ _ _ _)
  with_reducible exact only_refl _ _
  with_reducible refine only_step ?_ (State.setCtl_touch _ _ _)
  with_reducible refine only_step ?_ (State.withdrawBufs_touch _ _ _ _)
  with_reducible exact only_refl _ _

theorem State.canActivate_touch : ∀ s x1, (State.canActivate s x1).onlyChanges s [.tallies, .can, .sleep] := by
  intro s x1
  unfold State.canActivate
  conv => zeta
  with_reducible refine only_step ?_ (State.fillConsent_touch _)
  with_reducible refine only_foldl _ _ (fun _ _ => ?_) _ _ _ ?_
  with_reducible refine only_step ?_ (State.canActivateOne_touch _ _ _)
  with_reducible exact only_refl _ _
  with_reducible exact only_refl _ _

theorem State.unitsActivate_touch : ∀ s x1 x2, (State.unitsActivate s x1 x2).onlyChanges s [.interrupts, .tallies, .daybook, .outputs, .flash, .trackers, .fabric, .store, .can, .sleep, .measure, .triad, .bridge] := by
  intro s x1 x2
  unfold State.unitsActivate
  conv => zeta
  with_reducible refine only_step ?_ (State.measActivate_touch _ _ _)
  with_reducible refine only_step ?_ (State.triadActivate_touch _ _ _)
  with_reducible refine only_step ?_ (State.bridgeActivate_touch _ _ _)
  with_reducible refine only_step ?_ (State.canActivate_touch _ _)
  with_reducible refine only_step ?_ (State.portsActivate_touch _ _)
  with_reducible refine only_step ?_ (State.fabActivate_touch _ _ _)
  with_reducible exact only_refl _ _

theorem State.flipLedger_touch : ∀ s, (State.flipLedger s).onlyChanges s [.fabric] := by
  intro s
  unfold State.flipLedger
  conv => zeta
  with_reducible refine only_set_fab _ ?_ ?_
  with_reducible exact only_refl _ _
  exact (rfl : _ = true)

theorem State.recheckOneOffs_touch : ∀ s x1 x2, (State.recheckOneOffs s x1 x2).onlyChanges s [.tallies, .parison] := by
  intro s x1 x2
  unfold State.recheckOneOffs
  conv => zeta
  with_reducible refine only_step ?_ (State.countN_touch _ _ _)
  with_reducible refine only_set_par _ ?_ ?_
  with_reducible exact only_refl _ _
  exact (rfl : _ = true)

theorem State.gatesTo_touch : ∀ s x1 x2, (State.gatesTo s x1 x2).onlyChanges s [.interrupts, .tallies, .daybook, .outputs, .flash, .ports, .fabric, .vault, .seeds] := by
  intro s x1 x2
  unfold State.gatesTo
  conv => zeta
  with_reducible refine only_step ?_ (State.egress_touch _ _)
  with_reducible refine only_step ?_ (State.setGates_touch _ _ _)
  with_reducible refine only_step ?_ (State.closeGates_touch _ _ _)
  with_reducible exact only_refl _ _

theorem State.initGates_touch : ∀ s x1, (State.initGates s x1).onlyChanges s [.interrupts, .tallies, .daybook, .outputs, .flash, .ports, .fabric, .vault, .seeds] := by
  intro s x1
  unfold State.initGates
  conv => zeta
  with_reducible refine only_foldl _ _ (fun _ _ => ?_) _ _ _ ?_
  with_reducible refine only_ite ?_ ?_
  with_reducible refine only_step ?_ (State.setGates_touch _ _ _)
  with_reducible exact only_refl _ _
  with_reducible refine only_step ?_ (State.gatesTo_touch _ _ _)
  with_reducible exact only_refl _ _
  with_reducible exact only_refl _ _

theorem State.pairBegin_touch : ∀ s, (State.pairBegin s).onlyChanges s [.twin] := by
  intro s
  unfold State.pairBegin
  conv => zeta
  with_reducible refine only_ite ?_ ?_
  with_reducible exact only_refl _ _
  with_reducible refine only_set_twin _ ?_ ?_
  with_reducible exact only_refl _ _
  exact (rfl : _ = true)

theorem State.activateWarm_touch : ∀ s x1 x2, (State.activateWarm s x1 x2).onlyChanges s [.interrupts, .tallies, .daybook, .outputs, .flash, .parison, .trackers, .pace, .gaffer, .ports, .fabric, .store, .inaug, .can, .sleep, .measure, .triad, .twin, .bridge, .vault, .seeds] := by
  intro s x1 x2
  unfold State.activateWarm
  conv => zeta
  with_reducible refine only_step ?_ (State.activated_touch _ _ _ _)
  with_reducible refine only_step ?_ (State.pairBegin_touch _)
  with_reducible refine only_step ?_ (State.recheckOneOffs_touch _ _ _)
  with_reducible refine only_step ?_ (State.initGates_touch _ _)
  with_reducible refine only_step ?_ (State.overUpdate_touch _)
  with_reducible refine only_step ?_ (State.beginStrands_touch _ _)
  with_reducible refine only_step ?_ (State.unitsActivate_touch _ _ _)
  with_reducible refine only_step ?_ (State.flipLedger_touch _)
  with_reducible refine only_set_par _ ?_ ?_
  with_reducible refine only_step ?_ (State.spineCount_touch _)
  with_reducible exact only_refl _ _
  exact (rfl : _ = true)

theorem State.consentSent_touch : ∀ s x1 x2, (State.consentSent s x1 x2).onlyChanges s [.sleep] := by
  intro s x1 x2
  unfold State.consentSent
  conv => zeta
  split
  with_reducible exact only_refl _ _
  with_reducible refine only_ite ?_ ?_
  with_reducible exact only_refl _ _
  split
  with_reducible refine only_set_sleep _ ?_ ?_
  with_reducible exact only_refl _ _
  exact (rfl : _ = true)
  with_reducible refine only_set_sleep _ ?_ ?_
  with_reducible exact only_refl _ _
  exact (rfl : _ = true)
  with_reducible refine only_ite ?_ ?_
  with_reducible exact only_refl _ _
  split
  with_reducible refine only_set_sleep _ ?_ ?_
  with_reducible exact only_refl _ _
  exact (rfl : _ = true)
  with_reducible refine only_set_sleep _ ?_ ?_
  with_reducible exact only_refl _ _
  exact (rfl : _ = true)

theorem State.cancelDone_touch : ∀ s x1 x2 x3 x4, (State.cancelDone s x1 x2 x3 x4).onlyChanges s [.mailbox, .interrupts, .tallies, .outputs] := by
  intro s x1 x2 x3 x4
  unfold State.cancelDone
  conv => zeta
  split
  with_reducible refine only_ite ?_ ?_
  with_reducible refine only_step ?_ (State.finish_touch _ _ _ _)
  with_reducible exact only_refl _ _
  with_reducible exact only_refl _ _
  with_reducible exact only_refl _ _

theorem State.frameEnd_touch : ∀ s x1 x2 x3 x4 x5 x6 x7, (State.frameEnd s x1 x2 x3 x4 x5 x6 x7).onlyChanges s
    [.mailbox, .interrupts, .tallies, .outputs, .can, .sleep] := by
  intro s c k x b ca on se
  have h : ∀ (o : Nat) (y : Option CanCtl),
      (let s := s.setCtl c y
       let s := if b.cancel then s.count (tlCan c (cancelTally o)) else s
       let s := if s.isConsentBuf c k then (if se then s.consentSent c b else s).fillConsent else s
       if b.cancel then s.cancelDone c k o b else s : State).onlyChanges s
        [.mailbox, .interrupts, .tallies, .outputs, .can, .sleep] := by
    intro o y
    conv => zeta
    with_reducible refine only_ite ?_ ?_
    with_reducible refine only_step ?_ (State.cancelDone_touch _ _ _ _ _)
    with_reducible refine only_ite ?_ ?_
    with_reducible refine only_step ?_ (State.fillConsent_touch _)
    with_reducible refine only_ite ?_ ?_
    with_reducible refine only_step ?_ (State.consentSent_touch _ _ _)
    with_reducible refine only_ite ?_ ?_
    with_reducible refine only_step ?_ (State.count_touch _ _)
    with_reducible refine only_step ?_ (State.setCtl_touch _ _ _)
    with_reducible exact only_refl _ _
    with_reducible refine only_step ?_ (State.setCtl_touch _ _ _)
    with_reducible exact only_refl _ _
    with_reducible refine only_ite ?_ ?_
    with_reducible refine only_step ?_ (State.count_touch _ _)
    with_reducible refine only_step ?_ (State.setCtl_touch _ _ _)
    with_reducible exact only_refl _ _
    with_reducible refine only_step ?_ (State.setCtl_touch _ _ _)
    with_reducible exact only_refl _ _
    with_reducible refine only_ite ?_ ?_
    with_reducible refine only_step ?_ (State.count_touch _ _)
    with_reducible refine only_step ?_ (State.setCtl_touch _ _ _)
    with_reducible exact only_refl _ _
    with_reducible refine only_step ?_ (State.setCtl_touch _ _ _)
    with_reducible exact only_refl _ _
    with_reducible refine only_ite ?_ ?_
    with_reducible refine only_step ?_ (State.fillConsent_touch _)
    with_reducible refine only_ite ?_ ?_
    with_reducible refine only_step ?_ (State.consentSent_touch _ _ _)
    with_reducible refine only_ite ?_ ?_
    with_reducible refine only_step ?_ (State.count_touch _ _)
    with_reducible refine only_step ?_ (State.setCtl_touch _ _ _)
    with_reducible exact only_refl _ _
    with_reducible refine only_step ?_ (State.setCtl_touch _ _ _)
    with_reducible exact only_refl _ _
    with_reducible refine only_ite ?_ ?_
    with_reducible refine only_step ?_ (State.count_touch _ _)
    with_reducible refine only_step ?_ (State.setCtl_touch _ _ _)
    with_reducible exact only_refl _ _
    with_reducible refine only_step ?_ (State.setCtl_touch _ _ _)
    with_reducible exact only_refl _ _
    with_reducible refine only_ite ?_ ?_
    with_reducible refine only_step ?_ (State.count_touch _ _)
    with_reducible refine only_step ?_ (State.setCtl_touch _ _ _)
    with_reducible exact only_refl _ _
    with_reducible refine only_step ?_ (State.setCtl_touch _ _ _)
    with_reducible exact only_refl _ _
  exact h _ _

theorem State.noteErr_touch : ∀ s x1 x2 x3 x4, (State.noteErr s x1 x2 x3 x4).onlyChanges s [.interrupts, .tallies, .daybook, .outputs, .flash] := by
  intro s x1 x2 x3 x4
  unfold State.noteErr
  conv => zeta
  with_reducible refine only_step ?_ (State.note_touch _ _ _)
  with_reducible exact only_refl _ _

theorem State.setErr_touch : ∀ s x1 x2 x3, (State.setErr s x1 x2 x3).onlyChanges s [.interrupts, .tallies, .daybook, .outputs, .flash, .can] := by
  intro s x1 x2 x3
  unfold State.setErr
  conv => zeta
  split
  with_reducible exact only_refl _ _
  with_reducible refine only_ite ?_ ?_
  with_reducible refine only_step ?_ (State.setCtl_touch _ _ _)
  with_reducible exact only_refl _ _
  split
  with_reducible refine only_step ?_ (State.withdrawBufs_touch _ _ _ _)
  with_reducible refine only_step ?_ (State.count_touch _ _)
  with_reducible refine only_step ?_ (State.noteErr_touch _ _ _ _ _)
  with_reducible refine only_step ?_ (State.setCtl_touch _ _ _)
  with_reducible exact only_refl _ _
  with_reducible refine only_step ?_ (State.count_touch _ _)
  with_reducible refine only_step ?_ (State.noteErr_touch _ _ _ _ _)
  with_reducible refine only_step ?_ (State.setCtl_touch _ _ _)
  with_reducible exact only_refl _ _
  with_reducible refine only_step ?_ (State.noteErr_touch _ _ _ _ _)
  with_reducible refine only_step ?_ (State.setCtl_touch _ _ _)
  with_reducible exact only_refl _ _

theorem State.canError_touch : ∀ s x1 x2 x3 x4, (State.canError s x1 x2 x3 x4).onlyChanges s [.mailbox, .interrupts, .tallies, .daybook, .outputs, .flash, .can, .sleep] := by
  intro s x1 x2 x3 x4
  unfold State.canError
  conv => zeta
  split
  with_reducible exact only_refl _ _
  with_reducible refine only_ite ?_ ?_
  with_reducible refine only_ite ?_ ?_
  split
  with_reducible refine only_step ?_ (State.frameEnd_touch _ _ _ _ _ _ _ _) ?_
  with_reducible refine only_step ?_ (State.count_touch _ _) ?_
  with_reducible refine only_step ?_ (State.setCtl_touch _ _ _) ?_
  with_reducible exact only_refl _ _
  exact (rfl : _ = true)
  exact (rfl : _ = true)
  exact (rfl : _ = true)
  with_reducible refine only_step ?_ (State.count_touch _ _) ?_
  with_reducible refine only_step ?_ (State.setCtl_touch _ _ _) ?_
  with_reducible exact only_refl _ _
  exact (rfl : _ = true)
  exact (rfl : _ = true)
  with_reducible refine only_step ?_ (State.count_touch _ _) ?_
  with_reducible refine only_step ?_ (State.setCtl_touch _ _ _) ?_
  with_reducible exact only_refl _ _
  exact (rfl : _ = true)
  exact (rfl : _ = true)
  with_reducible refine only_step ?_ (State.setErr_touch _ _ _ _) ?_
  with_reducible refine only_ite ?_ ?_
  split
  with_reducible refine only_step ?_ (State.frameEnd_touch _ _ _ _ _ _ _ _) ?_
  with_reducible refine only_step ?_ (State.count_touch _ _) ?_
  with_reducible refine only_step ?_ (State.setCtl_touch _ _ _) ?_
  with_reducible exact only_refl _ _
  exact (rfl : _ = true)
  exact (rfl : _ = true)
  exact (rfl : _ = true)
  with_reducible refine only_step ?_ (State.count_touch _ _) ?_
  with_reducible refine only_step ?_ (State.setCtl_touch _ _ _) ?_
  with_reducible exact only_refl _ _
  exact (rfl : _ = true)
  exact (rfl : _ = true)
  with_reducible refine only_step ?_ (State.count_touch _ _) ?_
  with_reducible refine only_step ?_ (State.setCtl_touch _ _ _) ?_
  with_reducible exact only_refl _ _
  exact (rfl : _ = true)
  exact (rfl : _ = true)
  exact (rfl : _ = true)

theorem State.tdcRange_touch : ∀ s x1 x2 x3, (State.tdcRange s x1 x2 x3).onlyChanges s [.mailbox, .interrupts, .tallies, .daybook, .outputs, .flash, .can, .sleep] := by
  intro s x1 x2 x3
  unfold State.tdcRange
  conv => zeta
  with_reducible refine only_step ?_ (State.canError_touch _ _ _ _ _)
  with_reducible refine only_step ?_ (State.noteOnce_touch _ _ _ _)
  with_reducible refine only_step ?_ (State.count_touch _ _)
  with_reducible refine only_step ?_ (State.setCtl_touch _ _ _)
  with_reducible exact only_refl _ _

theorem State.txComplete_touch : ∀ s x1 x2, (State.txComplete s x1 x2).onlyChanges s [.mailbox, .interrupts, .clock, .tallies, .daybook, .outputs, .flash, .can, .sleep, .seeds] := by
  intro s x1 x2
  unfold State.txComplete
  conv => zeta
  split
  with_reducible exact only_refl _ _
  split
  with_reducible exact only_refl _ _
  with_reducible refine only_ite ?_ ?_
  with_reducible exact only_refl _ _
  with_reducible refine only_ite ?_ ?_
  with_reducible refine only_step ?_ (State.tdcRange_touch _ _ _ _)
  with_reducible exact only_refl _ _
  with_reducible refine only_ite ?_ ?_
  with_reducible refine only_step ?_ (State.canError_touch _ _ _ _ _)
  with_reducible refine only_step ?_ (State.fresh_touch _ _)
  with_reducible refine only_step ?_ (State.injectCan_touch _ _ _ _)
  with_reducible exact only_refl _ _
  with_reducible refine only_ite ?_ ?_
  with_reducible refine only_step ?_ (State.frameEnd_touch _ _ _ _ _ _ _ _)
  with_reducible refine only_ite ?_ ?_
  with_reducible refine only_step ?_ (State.count_touch _ _)
  with_reducible refine only_step ?_ (State.count_touch _ _)
  with_reducible refine only_step ?_ (State.injectCan_touch _ _ _ _)
  with_reducible exact only_refl _ _
  with_reducible refine only_step ?_ (State.count_touch _ _)
  with_reducible refine only_step ?_ (State.injectCan_touch _ _ _ _)
  with_reducible exact only_refl _ _
  with_reducible refine only_step ?_ (State.setErr_touch _ _ _ _)
  with_reducible refine only_step ?_ (State.frameEnd_touch _ _ _ _ _ _ _ _)
  with_reducible refine only_ite ?_ ?_
  with_reducible refine only_step ?_ (State.count_touch _ _)
  with_reducible refine only_step ?_ (State.count_touch _ _)
  with_reducible refine only_step ?_ (State.injectCan_touch _ _ _ _)
  with_reducible exact only_refl _ _
  with_reducible refine only_step ?_ (State.count_touch _ _)
  with_reducible refine only_step ?_ (State.injectCan_touch _ _ _ _)
  with_reducible exact only_refl _ _

theorem State.keyNext_touch : ∀ s x1, (State.keyNext s x1).onlyChanges s [.tallies, .outputs, .fabric] := by
  intro s x1
  unfold State.keyNext
  conv => zeta
  with_reducible refine only_ite ?_ ?_
  with_reducible exact only_refl _ _
  with_reducible refine only_ite ?_ ?_
  with_reducible refine only_step ?_ (State.count_touch _ _)
  with_reducible exact only_refl _ _
  with_reducible refine only_step ?_ (State.keySend_touch _ _ _ _ _)
  with_reducible refine only_ite ?_ ?_
  with_reducible refine only_ite ?_ ?_
  with_reducible exact only_refl _ _
  with_reducible refine only_step ?_ (State.setSa_touch _ _ _)
  with_reducible exact only_refl _ _
  with_reducible refine only_step ?_ (State.count_touch _ _)
  with_reducible refine only_ite ?_ ?_
  with_reducible exact only_refl _ _
  with_reducible refine only_step ?_ (State.setSa_touch _ _ _)
  with_reducible exact only_refl _ _

theorem State.setFeed_touch : ∀ s x1 x2, (State.setFeed s x1 x2).onlyChanges s [.feeds] := by
  intro s x1 x2
  unfold State.setFeed
  conv => zeta
  with_reducible refine only_ite ?_ ?_
  with_reducible refine only_set_feedA _ ?_ ?_
  with_reducible exact only_refl _ _
  exact (rfl : _ = true)
  with_reducible refine only_set_feedB _ ?_ ?_
  with_reducible exact only_refl _ _
  exact (rfl : _ = true)

theorem State.insControl_touch : ∀ s x1, (State.insControl s x1).onlyChanges s [.inaug] := by
  intro s x1
  unfold State.insControl
  conv => zeta
  with_reducible refine only_ite ?_ ?_
  split
  with_reducible refine only_set_inaug _ ?_ ?_
  with_reducible exact only_refl _ _
  exact (rfl : _ = true)
  split
  with_reducible refine only_set_inaug _ ?_ ?_
  with_reducible exact only_refl _ _
  exact (rfl : _ = true)
  with_reducible refine only_set_inaug _ ?_ ?_
  with_reducible exact only_refl _ _
  exact (rfl : _ = true)
  split
  with_reducible refine only_set_inaug _ ?_ ?_
  with_reducible exact only_refl _ _
  exact (rfl : _ = true)
  split
  with_reducible refine only_set_inaug _ ?_ ?_
  with_reducible exact only_refl _ _
  exact (rfl : _ = true)
  with_reducible refine only_set_inaug _ ?_ ?_
  with_reducible exact only_refl _ _
  exact (rfl : _ = true)

theorem State.insertion_touch : ∀ s, (State.insertion s).onlyChanges s [.ports, .inaug] := by
  intro s
  unfold State.insertion
  conv => zeta
  with_reducible refine only_step ?_ (State.insControl_touch _ _)
  with_reducible refine only_step ?_ (State.insControl_touch _ _)
  with_reducible refine only_ite ?_ ?_
  with_reducible refine only_set_ports _ ?_ ?_
  with_reducible exact only_refl _ _
  exact (rfl : _ = true)
  with_reducible exact only_refl _ _

theorem State.triUpdate_touch : ∀ s x1, (State.triUpdate s x1).onlyChanges s [.interrupts, .tallies, .daybook, .outputs, .flash, .triad] := by
  intro s x1
  unfold State.triUpdate
  conv => zeta
  with_reducible refine only_ite ?_ ?_
  with_reducible exact only_refl _ _
  with_reducible refine only_ite ?_ ?_
  with_reducible refine only_step ?_ (State.triTo_touch _ _ _)
  with_reducible exact only_refl _ _
  with_reducible refine only_ite ?_ ?_
  with_reducible refine only_step ?_ (State.triTo_touch _ _ _)
  with_reducible exact only_refl _ _
  with_reducible refine only_ite ?_ ?_
  with_reducible refine only_step ?_ (State.triTo_touch _ _ _)
  with_reducible exact only_refl _ _
  with_reducible refine only_step ?_ (State.triTo_touch _ _ _)
  with_reducible refine only_set_triad _ ?_ ?_
  with_reducible exact only_refl _ _
  exact (rfl : _ = true)

theorem State.triadReturn_touch : ∀ s, (State.triadReturn s).onlyChanges s
    [.interrupts, .tallies, .daybook, .outputs, .flash, .triad] := by
  intro s
  have h0 := only_sub (b := [.interrupts, .tallies, .daybook, .outputs, .flash, .triad]) (State.fillSlots_touch s) rfl
  simp only [State.triadReturn]
  generalize s.fillSlots = u at h0 ⊢
  split
  · exact only_step (only_set_triad _ h0 rfl) (State.triTo_touch _ _ _) rfl
  · exact only_step h0 (State.triUpdate_touch _ _) rfl

theorem State.paceSource_touch : ∀ s x1 x2 x3, (State.paceSource s x1 x2 x3).onlyChanges s [.interrupts, .tallies, .daybook, .outputs, .flash, .trackers] := by
  intro s x1 x2 x3
  unfold State.paceSource
  conv => zeta
  with_reducible refine only_step ?_ (State.note_touch _ _ _)
  with_reducible refine only_step ?_ (State.setTracker_touch _ _ _)
  with_reducible exact only_refl _ _

theorem State.trackerBack_touch : ∀ s x1 x2, (State.trackerBack s x1 x2).onlyChanges s [.interrupts, .tallies, .daybook, .outputs, .flash, .trackers] := by
  intro s x1 x2
  unfold State.trackerBack
  conv => zeta
  split
  with_reducible exact only_refl _ _
  with_reducible refine only_ite ?_ ?_
  with_reducible exact only_refl _ _
  with_reducible refine only_ite ?_ ?_
  with_reducible refine only_step ?_ (State.paceSource_touch _ _ _ _)
  with_reducible exact only_refl _ _
  with_reducible refine only_ite ?_ ?_
  with_reducible refine only_step ?_ (State.paceSource_touch _ _ _ _)
  with_reducible exact only_refl _ _
  with_reducible exact only_refl _ _

theorem State.returned_touch : ∀ s x1, (State.returned s x1).onlyChanges s [.interrupts, .tallies, .daybook, .outputs, .flash, .feeds, .trackers, .gaffer, .ports, .inaug, .triad] := by
  intro s x1
  unfold State.returned
  conv => zeta
  with_reducible refine only_step ?_ (State.note_touch _ _ _)
  with_reducible refine only_step ?_ (State.note_touch _ _ _)
  with_reducible refine only_step ?_ (State.insertion_touch _)
  with_reducible refine only_step ?_ (State.triadReturn_touch _)
  with_reducible refine only_step ?_ (State.trackerBack_touch _ _ _)
  with_reducible refine only_step ?_ (State.trackerBack_touch _ _ _)
  split
  with_reducible refine only_set_gaf _ ?_ ?_
  with_reducible refine only_step ?_ (State.setFeed_touch _ _ _)
  with_reducible exact only_refl _ _
  exact (rfl : _ = true)
  with_reducible refine only_set_gaf _ ?_ ?_
  with_reducible refine only_step ?_ (State.setFeed_touch _ _ _)
  with_reducible exact only_refl _ _
  exact (rfl : _ = true)

theorem State.usePace_touch : ∀ s x1 x2, (State.usePace s x1 x2).onlyChanges s [.gaffer] := by
  intro s x1 x2
  unfold State.usePace
  conv => zeta
  split
  split
  with_reducible refine only_set_gaf _ ?_ ?_
  with_reducible exact only_refl _ _
  exact (rfl : _ = true)
  with_reducible refine only_set_gaf _ ?_ ?_
  with_reducible exact only_refl _ _
  exact (rfl : _ = true)
  split
  with_reducible refine only_set_gaf _ ?_ ?_
  with_reducible exact only_refl _ _
  exact (rfl : _ = true)
  with_reducible refine only_set_gaf _ ?_ ?_
  with_reducible exact only_refl _ _
  exact (rfl : _ = true)

theorem State.useTime_touch : ∀ s x1, (State.useTime s x1).onlyChanges s [.gaffer] := by
  intro s x1
  unfold State.useTime
  conv => zeta
  split
  with_reducible exact only_refl _ _
  with_reducible refine only_set_gaf _ ?_ ?_
  with_reducible exact only_refl _ _
  exact (rfl : _ = true)

theorem State.issueWaiting_touch : ∀ s x1 x2 x3, (State.issueWaiting s x1 x2 x3).2.onlyChanges s [.tallies, .gaffer] := by
  intro s x1 x2 x3
  unfold State.issueWaiting
  conv => zeta
  with_reducible refine only_ite2 ?_ ?_
  with_reducible exact only_refl _ _
  with_reducible refine only_ite2 ?_ ?_
  with_reducible exact only_refl _ _
  split
  with_reducible refine only_step ?_ (State.count_touch _ _)
  with_reducible refine only_ite ?_ ?_
  with_reducible refine only_step ?_ (State.usePace_touch _ _ _)
  with_reducible refine only_set_gaf _ ?_ ?_
  with_reducible exact only_refl _ _
  exact (rfl : _ = true)
  with_reducible refine only_step ?_ (State.useTime_touch _ _)
  with_reducible refine only_set_gaf _ ?_ ?_
  with_reducible exact only_refl _ _
  exact (rfl : _ = true)
  with_reducible refine only_step ?_ (State.count_touch _ _)
  with_reducible refine only_ite ?_ ?_
  with_reducible refine only_step ?_ (State.usePace_touch _ _ _)
  with_reducible refine only_set_gaf _ ?_ ?_
  with_reducible exact only_refl _ _
  exact (rfl : _ = true)
  with_reducible refine only_step ?_ (State.useTime_touch _ _)
  with_reducible refine only_set_gaf _ ?_ ?_
  with_reducible exact only_refl _ _
  exact (rfl : _ = true)
  with_reducible refine only_ite ?_ ?_
  with_reducible refine only_step ?_ (State.usePace_touch _ _ _)
  with_reducible refine only_set_gaf _ ?_ ?_
  with_reducible exact only_refl _ _
  exact (rfl : _ = true)
  with_reducible refine only_step ?_ (State.useTime_touch _ _)
  with_reducible refine only_set_gaf _ ?_ ?_
  with_reducible exact only_refl _ _
  exact (rfl : _ = true)
  with_reducible refine only_ite ?_ ?_
  with_reducible refine only_step ?_ (State.usePace_touch _ _ _)
  with_reducible refine only_set_gaf _ ?_ ?_
  with_reducible exact only_refl _ _
  exact (rfl : _ = true)
  with_reducible refine only_step ?_ (State.useTime_touch _ _)
  with_reducible refine only_set_gaf _ ?_ ?_
  with_reducible exact only_refl _ _
  exact (rfl : _ = true)

theorem State.markIssued_touch : ∀ s x1 x2, (State.markIssued s x1 x2).onlyChanges s [.gaffer] := by
  intro s x1 x2
  unfold State.markIssued
  conv => zeta
  with_reducible refine only_set_gaf _ ?_ ?_
  with_reducible exact only_refl _ _
  exact (rfl : _ = true)

theorem State.delaySeed_touch : ∀ s x1 x2 x3, (State.delaySeed s x1 x2 x3).2.onlyChanges s [.interrupts, .tallies, .daybook, .outputs, .flash, .seeds] := by
  intro s x1 x2 x3
  unfold State.delaySeed
  conv => zeta
  with_reducible refine only_step ?_ (State.inject_touch _ _ _)
  with_reducible exact only_refl _ _

theorem State.issueDue_touch : ∀ s x1 x2 x3, (State.issueDue s x1 x2 x3).2.onlyChanges s [.interrupts, .tallies, .daybook, .outputs, .flash, .gaffer, .seeds] := by
  intro s x1 x2 x3
  unfold State.issueDue
  conv => zeta
  split
  with_reducible refine only_set_gaf _ ?_ ?_
  with_reducible refine only_step ?_ (State.delaySeed_touch _ _ _ _)
  with_reducible refine only_step ?_ (State.markIssued_touch _ _ _)
  with_reducible exact only_refl _ _
  exact (rfl : _ = true)
  with_reducible refine only_ite ?_ ?_
  with_reducible refine only_step ?_ (State.usePace_touch _ _ _)
  with_reducible refine only_step ?_ (State.delaySeed_touch _ _ _ _)
  with_reducible refine only_step ?_ (State.markIssued_touch _ _ _)
  with_reducible exact only_refl _ _
  with_reducible refine only_step ?_ (State.useTime_touch _ _)
  with_reducible refine only_step ?_ (State.delaySeed_touch _ _ _ _)
  with_reducible refine only_step ?_ (State.markIssued_touch _ _ _)
  with_reducible exact only_refl _ _

theorem State.issuePace_touch : ∀ s x1 x2 x3, (State.issuePace s x1 x2 x3).2.onlyChanges s [.interrupts, .tallies, .daybook, .outputs, .flash, .gaffer, .seeds] := by
  intro s x1 x2 x3
  unfold State.issuePace
  conv => zeta
  with_reducible refine only_ite2 ?_ ?_
  with_reducible refine only_set_gaf _ ?_ ?_
  with_reducible refine only_step ?_ (State.markIssued_touch _ _ _)
  with_reducible exact only_refl _ _
  exact (rfl : _ = true)
  with_reducible refine only_ite2 ?_ ?_
  with_reducible refine only_set_gaf _ ?_ ?_
  with_reducible refine only_step ?_ (State.markIssued_touch _ _ _)
  with_reducible exact only_refl _ _
  exact (rfl : _ = true)
  with_reducible refine only_ite2 ?_ ?_
  with_reducible refine only_set_gaf _ ?_ ?_
  with_reducible refine only_step ?_ (State.markIssued_touch _ _ _)
  with_reducible exact only_refl _ _
  exact (rfl : _ = true)
  with_reducible refine only_ite2 ?_ ?_
  with_reducible exact only_refl _ _
  with_reducible refine only_step ?_ (State.issueDue_touch _ _ _ _)
  with_reducible exact only_refl _ _

theorem State.issueEntry_touch : ∀ s x1 x2, (State.issueEntry s x1 x2).2.onlyChanges s [.interrupts, .tallies, .daybook, .outputs, .flash, .gaffer, .seeds] := by
  intro s x1 x2
  unfold State.issueEntry
  conv => zeta
  split
  with_reducible refine only_ite2 ?_ ?_
  with_reducible exact only_refl _ _
  split
  with_reducible refine only_step ?_ (State.issueWaiting_touch _ _ _ _)
  with_reducible exact only_refl _ _
  split
  with_reducible exact only_refl _ _
  with_reducible refine only_ite2 ?_ ?_
  with_reducible exact only_refl _ _
  with_reducible refine only_ite2 ?_ ?_
  with_reducible refine only_step ?_ (State.count_touch _ _)
  with_reducible refine only_step ?_ (State.markIssued_touch _ _ _)
  with_reducible exact only_refl _ _
  with_reducible refine only_ite2 ?_ ?_
  with_reducible refine only_step ?_ (State.issueDue_touch _ _ _ _)
  with_reducible exact only_refl _ _
  with_reducible refine only_step ?_ (State.issuePace_touch _ _ _ _)
  with_reducible exact only_refl _ _
  with_reducible exact only_refl _ _

theorem State.issueOneOff_touch : ∀ s x1, (State.issueOneOff s x1).2.onlyChanges s [.parison, .gaffer] := by
  intro s x1
  unfold State.issueOneOff
  conv => zeta
  split
  with_reducible exact only_refl _ _
  with_reducible refine only_ite2 ?_ ?_
  with_reducible exact only_refl _ _
  with_reducible refine only_step ?_ (State.useTime_touch _ _)
  with_reducible refine only_set_par _ ?_ ?_
  with_reducible exact only_refl _ _
  exact (rfl : _ = true)

theorem State.issue_touch : ∀ s x1 x2, (State.issue s x1 x2).2.onlyChanges s [.interrupts, .tallies, .daybook, .outputs, .flash, .parison, .gaffer, .seeds] := by
  intro s x1 x2
  unfold State.issue
  conv => zeta
  split
  with_reducible refine only_step ?_ (State.issueEntry_touch _ _ _)
  with_reducible exact only_refl _ _
  with_reducible refine only_step ?_ (State.issueOneOff_touch _ _)
  with_reducible exact only_refl _ _

theorem State.act_touch {l : List Part} (s : State) (op : Nat) (src : ActSrc) (f : Issued → State → State)
    (hl : ∀ i x, (f i x).onlyChanges x l)
    (hb : partsIn [.interrupts, .tallies, .daybook, .outputs, .flash, .parison, .gaffer, .seeds] l = true) :
    (s.act op src f).onlyChanges s l := by
  have h := only_sub (State.issue_touch s op src) hb
  unfold State.act
  split
  · next i u e => rw [e] at h; exact only_trans h (hl i u)
  · next u e => rw [e] at h; exact h

theorem State.absentReq_touch : ∀ s, (State.absentReq s).onlyChanges s [.tallies] := by
  intro s
  unfold State.absentReq
  conv => zeta
  with_reducible refine only_step ?_ (State.count_touch _ _)
  with_reducible exact only_refl _ _

theorem State.toUnit_touch {l : List Part} (s : State) (u : Nat) (f : State → State)
    (hl : ∀ x, (f x).onlyChanges x l) (hb : l.contains .tallies = true) : (s.toUnit u f).onlyChanges s l := by
  unfold State.toUnit; split
  · exact only_step (only_refl s l) (State.absentReq_touch s) (by simpa [partsIn] using hb)
  · exact hl s

theorem State.tachRecord_touch : ∀ s x1 x2 x3, (State.tachRecord s x1 x2 x3).2.onlyChanges s [.clock] := by
  intro s x1 x2 x3
  show (if x2.lastInt.isSome then s else (s.fresh 32).2).onlyChanges s [.clock]
  split
  · exact only_refl _ _
  · exact State.fresh_touch _ _

theorem State.pdVector_touch : ∀ s, (State.pdVector s).onlyChanges s [.interrupts, .outputs, .store] := by
  intro s
  unfold State.pdVector
  conv => zeta
  split
  with_reducible refine only_ite ?_ ?_
  with_reducible refine only_set_pd _ ?_ ?_
  with_reducible exact only_refl _ _
  exact (rfl : _ = true)
  with_reducible refine only_step ?_ (State.raise_touch _ _)
  with_reducible refine only_set_pd _ ?_ ?_
  with_reducible exact only_refl _ _
  exact (rfl : _ = true)
  with_reducible refine only_step ?_ (State.raise_touch _ _)
  with_reducible refine only_set_pd _ ?_ ?_
  with_reducible exact only_refl _ _
  exact (rfl : _ = true)

theorem State.post_touch : ∀ s x1 x2, (State.post s x1 x2).onlyChanges s [.interrupts, .clock, .tallies, .outputs, .store] := by
  intro s x1 x2
  unfold State.post
  conv => zeta
  with_reducible refine only_ite ?_ ?_
  with_reducible exact only_refl _ _
  with_reducible refine only_ite ?_ ?_
  with_reducible refine only_step ?_ (State.count_touch _ _)
  with_reducible refine only_step ?_ (State.fresh_touch _ _)
  with_reducible exact only_refl _ _
  with_reducible refine only_ite ?_ ?_
  with_reducible refine only_step ?_ (State.count_touch _ _)
  with_reducible refine only_step ?_ (State.fresh_touch _ _)
  with_reducible exact only_refl _ _
  with_reducible refine only_step ?_ (State.pdVector_touch _)
  split
  with_reducible refine only_set_pd _ ?_ ?_
  with_reducible refine only_step ?_ (State.send_touch _ _)
  with_reducible refine only_step ?_ (State.fresh_touch _ _)
  with_reducible exact only_refl _ _
  exact (rfl : _ = true)
  with_reducible refine only_set_pd _ ?_ ?_
  with_reducible refine only_step ?_ (State.send_touch _ _)
  with_reducible refine only_step ?_ (State.fresh_touch _ _)
  with_reducible exact only_refl _ _
  exact (rfl : _ = true)

theorem State.setPort_touch : ∀ s x1 x2, (State.setPort s x1 x2).onlyChanges s [.store] := by
  intro s x1 x2
  unfold State.setPort
  conv => zeta
  with_reducible refine only_set_pd _ ?_ ?_
  with_reducible exact only_refl _ _
  exact (rfl : _ = true)

theorem State.commitAs_touch : ∀ s x1 x2 x3 x4 x5 x6 x7 x8 x9, (State.commitAs s x1 x2 x3 x4 x5 x6 x7 x8 x9).onlyChanges s [.interrupts, .clock, .tallies, .outputs, .store] := by
  intro s x1 x2 x3 x4 x5 x6 x7 x8 x9
  unfold State.commitAs
  conv => zeta
  split
  with_reducible exact only_refl _ _
  with_reducible refine only_step ?_ (State.post_touch _ _ _)
  with_reducible refine only_step ?_ (State.setPort_touch _ _ _)
  with_reducible refine only_set_pd _ ?_ ?_
  with_reducible exact only_refl _ _
  exact (rfl : _ = true)

theorem State.commitPort_touch : ∀ s x1 x2 x3 x4 x5, (State.commitPort s x1 x2 x3 x4 x5).onlyChanges s [.interrupts, .clock, .tallies, .outputs, .store] := by
  intro s x1 x2 x3 x4 x5
  unfold State.commitPort
  conv => zeta
  split
  with_reducible exact only_refl _ _
  with_reducible refine only_step ?_ (State.commitAs_touch _ _ _ _ _ _ _ _ _ _)
  with_reducible exact only_refl _ _

theorem State.capture_touch : ∀ s x1 x2 x3, (State.capture s x1 x2 x3).onlyChanges s [.interrupts, .clock, .tallies, .outputs, .store] := by
  intro s x1 x2 x3
  unfold State.capture
  conv => zeta
  with_reducible refine only_ite ?_ ?_
  with_reducible exact only_refl _ _
  with_reducible refine only_step ?_ (State.commitPort_touch _ _ _ _ _ _)
  with_reducible exact only_refl _ _

theorem State.feedWarning_touch : ∀ s x1 x2 x3, (State.feedWarning s x1 x2 x3).onlyChanges s [.interrupts, .tallies, .daybook, .outputs, .flash, .feeds] := by
  intro s x1 x2 x3
  unfold State.feedWarning
  conv => zeta
  with_reducible refine only_ite ?_ ?_
  with_reducible exact only_refl _ _
  with_reducible refine only_ite ?_ ?_
  with_reducible refine only_step ?_ (State.setFeed_touch _ _ _)
  with_reducible exact only_refl _ _
  with_reducible refine only_step ?_ (State.note_touch _ _ _)
  with_reducible refine only_step ?_ (State.count_touch _ _)
  with_reducible refine only_step ?_ (State.setFeed_touch _ _ _)
  with_reducible exact only_refl _ _

theorem State.setTport_touch : ∀ s x1 x2, (State.setTport s x1 x2).onlyChanges s [.time] := by
  intro s x1 x2
  unfold State.setTport
  conv => zeta
  with_reducible refine only_set_time _ ?_ ?_
  with_reducible exact only_refl _ _
  exact (rfl : _ = true)

theorem State.timeDepart_touch : ∀ s x1, (State.timeDepart s x1).onlyChanges s [.interrupts, .tallies, .daybook, .outputs, .flash, .ports, .fabric, .time, .vault, .seeds] := by
  intro s x1
  unfold State.timeDepart
  conv => zeta
  split
  with_reducible exact only_refl _ _
  with_reducible refine only_ite ?_ ?_
  with_reducible exact only_refl _ _
  with_reducible refine only_step ?_ (State.egress_touch _ _)
  with_reducible refine only_step ?_ (State.setTport_touch _ _ _)
  with_reducible refine only_ite ?_ ?_
  with_reducible refine only_step ?_ (State.count_touch _ _)
  with_reducible refine only_step ?_ (State.count_touch _ _)
  with_reducible refine only_step ?_ (State.send_touch _ _)
  with_reducible exact only_refl _ _
  with_reducible refine only_step ?_ (State.count_touch _ _)
  with_reducible refine only_step ?_ (State.send_touch _ _)
  with_reducible exact only_refl _ _

theorem State.acceptTime_touch {l : List Part} (s : State) (h : TimeHdr) (f : State → State)
    (hl : ∀ x, (f x).onlyChanges x l) (hb : partsIn [.interrupts, .tallies, .daybook, .outputs, .flash] l = true) :
    (s.acceptTime h f).onlyChanges s l := by
  have h2 : partsIn [.tallies] l = true := by simp [partsIn] at hb ⊢; simp [hb]
  unfold State.acceptTime
  conv => zeta
  split
  · exact only_refl s l
  · split
    · exact only_step (only_step (only_refl s l) (State.count_touch ..) h2) (State.noteOnce_touch ..) hb
    · exact only_trans (only_step (only_refl s l) (State.count_touch ..) h2) (hl _)

theorem State.badOffset_touch : ∀ s, (State.badOffset s).onlyChanges s [.time] := by
  intro s
  unfold State.badOffset
  conv => zeta
  split
  with_reducible refine only_set_time _ ?_ ?_
  with_reducible exact only_refl _ _
  exact (rfl : _ = true)
  with_reducible refine only_set_time _ ?_ ?_
  with_reducible exact only_refl _ _
  exact (rfl : _ = true)
  with_reducible exact only_refl _ _

theorem State.toTime_touch : ∀ s x1, (State.toTime s x1).onlyChanges s [.interrupts, .tallies, .daybook, .outputs, .flash, .time] := by
  intro s x1
  unfold State.toTime
  conv => zeta
  with_reducible refine only_ite ?_ ?_
  with_reducible exact only_refl _ _
  with_reducible refine only_ite ?_ ?_
  with_reducible refine only_step ?_ (State.count_touch _ _)
  with_reducible refine only_step ?_ (State.note_touch _ _ _)
  split
  split
  with_reducible refine only_set_time _ ?_ ?_
  with_reducible exact only_refl _ _
  exact (rfl : _ = true)
  with_reducible refine only_set_time _ ?_ ?_
  with_reducible exact only_refl _ _
  exact (rfl : _ = true)
  split
  with_reducible refine only_set_time _ ?_ ?_
  with_reducible exact only_refl _ _
  exact (rfl : _ = true)
  with_reducible refine only_set_time _ ?_ ?_
  with_reducible exact only_refl _ _
  exact (rfl : _ = true)
  with_reducible refine only_ite ?_ ?_
  with_reducible refine only_step ?_ (State.note_touch _ _ _)
  with_reducible refine only_step ?_ (State.count_touch _ _)
  with_reducible refine only_step ?_ (State.note_touch _ _ _)
  split
  split
  with_reducible refine only_set_time _ ?_ ?_
  with_reducible exact only_refl _ _
  exact (rfl : _ = true)
  with_reducible refine only_set_time _ ?_ ?_
  with_reducible exact only_refl _ _
  exact (rfl : _ = true)
  split
  with_reducible refine only_set_time _ ?_ ?_
  with_reducible exact only_refl _ _
  exact (rfl : _ = true)
  with_reducible refine only_set_time _ ?_ ?_
  with_reducible exact only_refl _ _
  exact (rfl : _ = true)
  with_reducible refine only_step ?_ (State.note_touch _ _ _)
  split
  split
  with_reducible refine only_set_time _ ?_ ?_
  with_reducible exact only_refl _ _
  exact (rfl : _ = true)
  with_reducible refine only_set_time _ ?_ ?_
  with_reducible exact only_refl _ _
  exact (rfl : _ = true)
  split
  with_reducible refine only_set_time _ ?_ ?_
  with_reducible exact only_refl _ _
  exact (rfl : _ = true)
  with_reducible refine only_set_time _ ?_ ?_
  with_reducible exact only_refl _ _
  exact (rfl : _ = true)

theorem State.stepTime_touch : ∀ s x1, (State.stepTime s x1).onlyChanges s [.clock, .tallies, .parison, .gaffer, .fabric, .inaug] := by
  intro s x1
  unfold State.stepTime
  conv => zeta
  split
  with_reducible refine only_step ?_ (State.spineCount_touch _)
  with_reducible exact only_refl _ _
  with_reducible refine only_ite ?_ ?_
  with_reducible refine only_step ?_ (State.spineCount_touch _)
  with_reducible exact only_refl _ _
  split
  with_reducible refine only_set_gaf_par_inaug _ _ _ ?_ ?_ ?_ ?_
  with_reducible refine only_foldl _ _ (fun _ _ => ?_) _ _ _ ?_
  with_reducible refine only_step ?_ (State.count_touch _ _)
  with_reducible exact only_refl _ _
  with_reducible refine only_foldl _ _ (fun _ _ => ?_) _ _ _ ?_
  with_reducible refine only_ite ?_ ?_
  with_reducible exact only_refl _ _
  with_reducible refine only_step ?_ (State.countN_touch _ _ _)
  with_reducible exact only_refl _ _
  with_reducible refine only_step ?_ (State.closeAll_touch _)
  with_reducible refine only_step ?_ (State.spineCount_touch _)
  with_reducible exact only_refl _ _
  exact (rfl : _ = true)
  exact (rfl : _ = true)
  exact (rfl : _ = true)
  with_reducible refine only_set_gaf_par_inaug _ _ _ ?_ ?_ ?_ ?_
  with_reducible refine only_foldl _ _ (fun _ _ => ?_) _ _ _ ?_
  with_reducible refine only_step ?_ (State.count_touch _ _)
  with_reducible exact only_refl _ _
  with_reducible refine only_foldl _ _ (fun _ _ => ?_) _ _ _ ?_
  with_reducible refine only_ite ?_ ?_
  with_reducible exact only_refl _ _
  with_reducible refine only_step ?_ (State.countN_touch _ _ _)
  with_reducible exact only_refl _ _
  with_reducible refine only_step ?_ (State.closeAll_touch _)
  with_reducible refine only_step ?_ (State.spineCount_touch _)
  with_reducible exact only_refl _ _
  exact (rfl : _ = true)
  exact (rfl : _ = true)
  exact (rfl : _ = true)

theorem State.stepBy_touch : ∀ s x1 x2, (State.stepBy s x1 x2).onlyChanges s [.interrupts, .clock, .tallies, .daybook, .outputs, .flash, .parison, .gaffer, .fabric, .inaug] := by
  intro s x1 x2
  unfold State.stepBy
  conv => zeta
  with_reducible refine only_step ?_ (State.note_touch _ _ _)
  with_reducible refine only_step ?_ (State.count_touch _ _)
  with_reducible refine only_step ?_ (State.stepTime_touch _ _)
  with_reducible exact only_refl _ _

theorem State.setRate_touch : ∀ s x1 x2, (State.setRate s x1 x2).onlyChanges s [.tallies, .time] := by
  intro s x1 x2
  unfold State.setRate
  conv => zeta
  with_reducible refine only_ite ?_ ?_
  with_reducible refine only_set_time _ ?_ ?_
  with_reducible exact only_refl _ _
  exact (rfl : _ = true)
  with_reducible refine only_step ?_ (State.count_touch _ _)
  with_reducible refine only_set_time _ ?_ ?_
  with_reducible exact only_refl _ _
  exact (rfl : _ = true)

theorem State.acquired_touch : ∀ s x1, (State.acquired s x1).onlyChanges s [.interrupts, .clock, .tallies, .daybook, .outputs, .flash, .parison, .gaffer, .fabric, .inaug, .time] := by
  intro s x1
  unfold State.acquired
  conv => zeta
  with_reducible refine only_ite ?_ ?_
  with_reducible refine only_ite ?_ ?_
  with_reducible refine only_step ?_ (State.toTime_touch _ _)
  with_reducible refine only_step ?_ (State.stepBy_touch _ _ _)
  with_reducible refine only_set_time _ ?_ ?_
  with_reducible exact only_refl _ _
  exact (rfl : _ = true)
  with_reducible refine only_step ?_ (State.toTime_touch _ _)
  with_reducible refine only_step ?_ (State.setRate_touch _ _ _)
  with_reducible refine only_set_time _ ?_ ?_
  with_reducible exact only_refl _ _
  exact (rfl : _ = true)
  with_reducible refine only_ite ?_ ?_
  with_reducible refine only_step ?_ (State.toTime_touch _ _)
  with_reducible refine only_step ?_ (State.setRate_touch _ _ _)
  with_reducible exact only_refl _ _
  with_reducible refine only_step ?_ (State.toTime_touch _ _)
  with_reducible exact only_refl _ _

theorem State.follow_touch : ∀ s x1, (State.follow s x1).onlyChanges s [.tallies, .time] := by
  intro s x1
  unfold State.follow
  conv => zeta
  with_reducible refine only_step ?_ (State.setRate_touch _ _ _)
  with_reducible exact only_refl _ _

theorem State.offset_touch : ∀ s x1, (State.offset s x1).onlyChanges s [.interrupts, .clock, .tallies, .daybook, .outputs, .flash, .parison, .gaffer, .fabric, .inaug, .time] := by
  intro s x1
  unfold State.offset
  conv => zeta
  split
  with_reducible refine only_step ?_ (State.toTime_touch _ _)
  with_reducible refine only_step ?_ (State.stepBy_touch _ _ _)
  with_reducible refine only_set_time _ ?_ ?_
  with_reducible refine only_set_time _ ?_ ?_
  with_reducible exact only_refl _ _
  exact (rfl : _ = true)
  exact (rfl : _ = true)
  split
  with_reducible refine only_ite ?_ ?_
  with_reducible refine only_set_time _ ?_ ?_
  with_reducible refine only_set_time _ ?_ ?_
  with_reducible exact only_refl _ _
  exact (rfl : _ = true)
  exact (rfl : _ = true)
  with_reducible refine only_step ?_ (State.acquired_touch _ _)
  with_reducible refine only_set_time _ ?_ ?_
  with_reducible exact only_refl _ _
  exact (rfl : _ = true)
  with_reducible refine only_ite ?_ ?_
  with_reducible refine only_step ?_ (State.toTime_touch _ _)
  with_reducible refine only_set_time _ ?_ ?_
  with_reducible exact only_refl _ _
  exact (rfl : _ = true)
  with_reducible refine only_step ?_ (State.follow_touch _ _)
  with_reducible refine only_set_time _ ?_ ?_
  with_reducible exact only_refl _ _
  exact (rfl : _ = true)
  with_reducible refine only_set_time _ ?_ ?_
  with_reducible refine only_set_time _ ?_ ?_
  with_reducible exact only_refl _ _
  exact (rfl : _ = true)
  exact (rfl : _ = true)
  with_reducible refine only_ite ?_ ?_
  split
  with_reducible refine only_set_time _ ?_ ?_
  with_reducible refine only_step ?_ (State.follow_touch _ _)
  with_reducible refine only_set_time _ ?_ ?_
  with_reducible exact only_refl _ _
  exact (rfl : _ = true)
  exact (rfl : _ = true)
  with_reducible refine only_set_time _ ?_ ?_
  with_reducible refine only_step ?_ (State.follow_touch _ _)
  with_reducible refine only_set_time _ ?_ ?_
  with_reducible exact only_refl _ _
  exact (rfl : _ = true)
  exact (rfl : _ = true)
  with_reducible refine only_step ?_ (State.toTime_touch _ _)
  split
  with_reducible refine only_set_time _ ?_ ?_
  with_reducible refine only_step ?_ (State.follow_touch _ _)
  with_reducible refine only_set_time _ ?_ ?_
  with_reducible exact only_refl _ _
  exact (rfl : _ = true)
  exact (rfl : _ = true)
  with_reducible refine only_set_time _ ?_ ?_
  with_reducible refine only_step ?_ (State.follow_touch _ _)
  with_reducible refine only_set_time _ ?_ ?_
  with_reducible exact only_refl _ _
  exact (rfl : _ = true)
  exact (rfl : _ = true)
  with_reducible refine only_set_time _ ?_ ?_
  with_reducible exact only_refl _ _
  exact (rfl : _ = true)

theorem State.synced_touch : ∀ s x1 x2 x3 x4, (State.synced s x1 x2 x3 x4).onlyChanges s [.interrupts, .clock, .tallies, .daybook, .outputs, .flash, .parison, .gaffer, .fabric, .inaug, .time] := by
  intro s x1 x2 x3 x4
  unfold State.synced
  conv => zeta
  with_reducible refine only_ite ?_ ?_
  with_reducible refine only_step ?_ (State.badOffset_touch _)
  split
  split
  with_reducible refine only_set_time _ ?_ ?_
  with_reducible exact only_refl _ _
  exact (rfl : _ = true)
  with_reducible refine only_set_time _ ?_ ?_
  with_reducible exact only_refl _ _
  exact (rfl : _ = true)
  with_reducible refine only_set_time _ ?_ ?_
  with_reducible exact only_refl _ _
  exact (rfl : _ = true)
  with_reducible refine only_step ?_ (State.offset_touch _ _)
  split
  split
  with_reducible refine only_set_time _ ?_ ?_
  with_reducible exact only_refl _ _
  exact (rfl : _ = true)
  with_reducible refine only_set_time _ ?_ ?_
  with_reducible exact only_refl _ _
  exact (rfl : _ = true)
  with_reducible refine only_set_time _ ?_ ?_
  with_reducible exact only_refl _ _
  exact (rfl : _ = true)

theorem State.syncIn_touch : ∀ s x1, (State.syncIn s x1).onlyChanges s [.interrupts, .clock, .tallies, .daybook, .outputs, .flash, .parison, .gaffer, .fabric, .inaug, .time] := by
  intro s x1
  unfold State.syncIn
  conv => zeta
  with_reducible refine only_step ?_ (State.acceptTime_touch (l := [.interrupts, .clock, .tallies, .daybook, .outputs, .flash, .parison, .gaffer, .fabric, .inaug, .time]) (hl := ?_) (hb := ?_) _ _ _)
  with_reducible exact only_refl _ _
  intro _
  with_reducible refine only_ite ?_ ?_
  with_reducible refine only_step ?_ (State.setTport_touch _ _ _)
  with_reducible exact only_refl _ _
  with_reducible refine only_ite ?_ ?_
  with_reducible refine only_step ?_ (State.synced_touch _ _ _ _ _)
  with_reducible refine only_step ?_ (State.setTport_touch _ _ _)
  with_reducible exact only_refl _ _
  with_reducible refine only_step ?_ (State.setTport_touch _ _ _)
  with_reducible exact only_refl _ _
  exact (rfl : _ = true)

theorem State.newMaster_touch : ∀ s x1, (State.newMaster s x1).onlyChanges s [.interrupts, .tallies, .daybook, .outputs, .flash, .time] := by
  intro s x1
  unfold State.newMaster
  conv => zeta
  with_reducible refine only_ite ?_ ?_
  with_reducible refine only_set_time _ ?_ ?_
  with_reducible exact only_refl _ _
  exact (rfl : _ = true)
  with_reducible refine only_step ?_ (State.note_touch _ _ _)
  with_reducible refine only_set_time _ ?_ ?_
  with_reducible exact only_refl _ _
  exact (rfl : _ = true)

theorem State.freeze_touch : ∀ s x1 x2 x3, (State.freeze s x1 x2 x3).onlyChanges s [.interrupts, .tallies, .daybook, .outputs, .flash, .time] := by
  intro s x1 x2 x3
  unfold State.freeze
  conv => zeta
  with_reducible refine only_step ?_ (State.toTime_touch _ _)
  split
  with_reducible refine only_set_time _ ?_ ?_
  with_reducible exact only_refl _ _
  exact (rfl : _ = true)
  with_reducible refine only_set_time _ ?_ ?_
  with_reducible exact only_refl _ _
  exact (rfl : _ = true)

theorem State.reroute_touch : ∀ s x1 x2 x3, (State.reroute s x1 x2 x3).onlyChanges s [.interrupts, .tallies, .daybook, .outputs, .flash, .time] := by
  intro s x1 x2 x3
  unfold State.reroute
  conv => zeta
  split
  with_reducible refine only_step ?_ (State.freeze_touch _ _ _ _)
  with_reducible exact only_refl _ _
  with_reducible refine only_step ?_ (State.freeze_touch _ _ _ _)
  with_reducible exact only_refl _ _
  with_reducible refine only_set_time _ ?_ ?_
  with_reducible exact only_refl _ _
  exact (rfl : _ = true)
  with_reducible refine only_set_time _ ?_ ?_
  with_reducible exact only_refl _ _
  exact (rfl : _ = true)
  with_reducible exact only_refl _ _

theorem State.selectForeign_touch : ∀ s x1 x2, (State.selectForeign s x1 x2).onlyChanges s [.interrupts, .tallies, .daybook, .outputs, .flash, .time] := by
  intro s x1 x2
  unfold State.selectForeign
  conv => zeta
  split
  with_reducible refine only_step ?_ (State.toTime_touch _ _)
  with_reducible refine only_set_time _ ?_ ?_
  with_reducible refine only_set_time _ ?_ ?_
  with_reducible refine only_step ?_ (State.newMaster_touch _ _)
  with_reducible exact only_refl _ _
  exact (rfl : _ = true)
  exact (rfl : _ = true)
  with_reducible refine only_step ?_ (State.toTime_touch _ _)
  with_reducible refine only_set_time _ ?_ ?_
  with_reducible refine only_set_time _ ?_ ?_
  with_reducible refine only_step ?_ (State.newMaster_touch _ _)
  with_reducible exact only_refl _ _
  exact (rfl : _ = true)
  exact (rfl : _ = true)
  with_reducible refine only_step ?_ (State.toTime_touch _ _)
  with_reducible refine only_set_time _ ?_ ?_
  with_reducible refine only_set_time _ ?_ ?_
  with_reducible refine only_step ?_ (State.newMaster_touch _ _)
  with_reducible exact only_refl _ _
  exact (rfl : _ = true)
  exact (rfl : _ = true)
  with_reducible refine only_ite ?_ ?_
  with_reducible refine only_set_time _ ?_ ?_
  with_reducible refine only_step ?_ (State.newMaster_touch _ _)
  with_reducible exact only_refl _ _
  exact (rfl : _ = true)
  with_reducible refine only_step ?_ (State.reroute_touch _ _ _ _)
  with_reducible refine only_set_time _ ?_ ?_
  with_reducible refine only_set_time _ ?_ ?_
  with_reducible refine only_step ?_ (State.newMaster_touch _ _)
  with_reducible exact only_refl _ _
  exact (rfl : _ = true)
  exact (rfl : _ = true)

theorem State.withdraw_touch : ∀ s, (State.withdraw s).onlyChanges s [.interrupts, .tallies, .daybook, .outputs, .flash, .time] := by
  intro s
  unfold State.withdraw
  conv => zeta
  split
  with_reducible refine only_step ?_ (State.note_touch _ _ _)
  with_reducible refine only_set_time _ ?_ ?_
  with_reducible exact only_refl _ _
  exact (rfl : _ = true)
  with_reducible exact only_refl _ _

theorem State.selectOwn_touch : ∀ s, (State.selectOwn s).onlyChanges s [.interrupts, .tallies, .daybook, .outputs, .flash, .time] := by
  intro s
  unfold State.selectOwn
  conv => zeta
  with_reducible refine only_ite ?_ ?_
  with_reducible exact only_refl _ _
  with_reducible refine only_step ?_ (State.toTime_touch _ _)
  with_reducible refine only_set_time _ ?_ ?_
  with_reducible refine only_step ?_ (State.newMaster_touch _ _)
  with_reducible refine only_step ?_ (State.withdraw_touch _)
  with_reducible exact only_refl _ _
  exact (rfl : _ = true)

theorem State.holdover_touch : ∀ s, (State.holdover s).onlyChanges s [.interrupts, .tallies, .daybook, .outputs, .flash, .time] := by
  intro s
  unfold State.holdover
  conv => zeta
  with_reducible refine only_step ?_ (State.toTime_touch _ _)
  with_reducible refine only_set_time _ ?_ ?_
  with_reducible refine only_step ?_ (State.withdraw_touch _)
  with_reducible exact only_refl _ _
  exact (rfl : _ = true)

theorem State.bmc_touch : ∀ s, (State.bmc s).onlyChanges s [.interrupts, .tallies, .daybook, .outputs, .flash, .time] := by
  intro s
  unfold State.bmc
  conv => zeta
  with_reducible refine only_ite ?_ ?_
  with_reducible exact only_refl _ _
  split
  with_reducible refine only_ite ?_ ?_
  with_reducible refine only_step ?_ (State.selectForeign_touch _ _ _)
  with_reducible exact only_refl _ _
  with_reducible refine only_step ?_ (State.selectOwn_touch _)
  with_reducible exact only_refl _ _
  with_reducible refine only_ite ?_ ?_
  with_reducible refine only_step ?_ (State.holdover_touch _)
  with_reducible exact only_refl _ _
  with_reducible refine only_ite ?_ ?_
  with_reducible exact only_refl _ _
  with_reducible refine only_step ?_ (State.selectOwn_touch _)
  with_reducible exact only_refl _ _

theorem State.portTimeLost_touch : ∀ s x1, (State.portTimeLost s x1).onlyChanges s [.interrupts, .tallies, .daybook, .outputs, .flash, .time] := by
  intro s x1
  unfold State.portTimeLost
  conv => zeta
  with_reducible refine only_ite ?_ ?_
  with_reducible refine only_step ?_ (State.bmc_touch _)
  with_reducible refine only_step ?_ (State.setTport_touch _ _ _)
  with_reducible exact only_refl _ _
  with_reducible refine only_step ?_ (State.setTport_touch _ _ _)
  with_reducible exact only_refl _ _

theorem State.keyDrop_touch : ∀ s x1, (State.keyDrop s x1).onlyChanges s [.fabric, .vault] := by
  intro s x1
  unfold State.keyDrop
  conv => zeta
  with_reducible refine only_step ?_ (State.setKey_touch _ _ _)
  with_reducible refine only_set_sec _ ?_ ?_
  with_reducible refine only_step ?_ (State.setSa_touch _ _ _)
  with_reducible exact only_refl _ _
  exact (rfl : _ = true)

theorem State.flush_touch : ∀ s x1, (State.flush s x1).onlyChanges s [.tallies, .fabric] := by
  intro s x1
  unfold State.flush
  conv => zeta
  with_reducible refine only_step ?_ (State.freeFrames_touch _)
  with_reducible refine only_step ?_ (State.countN_touch _ _ _)
  with_reducible refine only_set_fab _ ?_ ?_
  with_reducible exact only_refl _ _
  exact (rfl : _ = true)

theorem State.setMac_touch : ∀ s x1 x2, (State.setMac s x1 x2).onlyChanges s [.ports] := by
  intro s x1 x2
  unfold State.setMac
  conv => zeta
  with_reducible refine only_set_ports _ ?_ ?_
  with_reducible exact only_refl _ _
  exact (rfl : _ = true)

theorem State.macDown_touch : ∀ s x1 x2, (State.macDown s x1 x2).onlyChanges s [.interrupts, .tallies, .daybook, .outputs, .flash, .ports, .fabric] := by
  intro s x1 x2
  unfold State.macDown
  conv => zeta
  with_reducible refine only_ite ?_ ?_
  with_reducible exact only_refl _ _
  with_reducible refine only_step ?_ (State.note_touch _ _ _)
  with_reducible refine only_step ?_ (State.count_touch _ _)
  with_reducible refine only_step ?_ (State.flush_touch _ _)
  with_reducible refine only_step ?_ (State.setMac_touch _ _ _)
  with_reducible exact only_refl _ _

theorem State.enterFast_touch : ∀ s, (State.enterFast s).onlyChanges s [.inaug] := by
  intro s
  unfold State.enterFast
  conv => zeta
  with_reducible refine only_ite ?_ ?_
  with_reducible exact only_refl _ _
  with_reducible refine only_foldl _ _ (fun _ _ => ?_) _ _ _ ?_
  with_reducible refine only_step ?_ (State.setBb_touch _ _ _)
  with_reducible exact only_refl _ _
  with_reducible refine only_set_inaug _ ?_ ?_
  with_reducible exact only_refl _ _
  exact (rfl : _ = true)

theorem State.abandon_touch : ∀ s, (State.abandon s).onlyChanges s [.tallies, .inaug] := by
  intro s
  unfold State.abandon
  conv => zeta
  with_reducible refine only_ite ?_ ?_
  with_reducible refine only_step ?_ (State.count_touch _ _)
  with_reducible refine only_set_inaug _ ?_ ?_
  with_reducible exact only_refl _ _
  exact (rfl : _ = true)
  with_reducible exact only_refl _ _

theorem State.topoChange_touch : ∀ s x1, (State.topoChange s x1).onlyChanges s [.interrupts, .tallies, .daybook, .outputs, .flash, .inaug] := by
  intro s x1
  unfold State.topoChange
  conv => zeta
  with_reducible refine only_ite ?_ ?_
  with_reducible refine only_ite ?_ ?_
  split
  with_reducible refine only_set_inaug _ ?_ ?_
  with_reducible exact only_refl _ _
  exact (rfl : _ = true)
  with_reducible refine only_set_inaug _ ?_ ?_
  with_reducible exact only_refl _ _
  exact (rfl : _ = true)
  with_reducible refine only_step ?_ (State.note_touch _ _ _)
  with_reducible refine only_step ?_ (State.count_touch _ _)
  split
  with_reducible refine only_set_inaug _ ?_ ?_
  with_reducible exact only_refl _ _
  exact (rfl : _ = true)
  with_reducible refine only_set_inaug _ ?_ ?_
  with_reducible exact only_refl _ _
  exact (rfl : _ = true)
  split
  split
  with_reducible refine only_set_inaug _ ?_ ?_
  with_reducible refine only_step ?_ (State.abandon_touch _)
  with_reducible refine only_set_inaug _ ?_ ?_
  with_reducible exact only_refl _ _
  exact (rfl : _ = true)
  exact (rfl : _ = true)
  with_reducible refine only_set_inaug _ ?_ ?_
  with_reducible refine only_step ?_ (State.abandon_touch _)
  with_reducible refine only_step ?_ (State.note_touch _ _ _)
  with_reducible refine only_set_inaug _ ?_ ?_
  with_reducible refine only_set_inaug _ ?_ ?_
  with_reducible exact only_refl _ _
  exact (rfl : _ = true)
  exact (rfl : _ = true)
  exact (rfl : _ = true)
  split
  with_reducible refine only_set_inaug _ ?_ ?_
  with_reducible refine only_step ?_ (State.abandon_touch _)
  with_reducible refine only_set_inaug _ ?_ ?_
  with_reducible exact only_refl _ _
  exact (rfl : _ = true)
  exact (rfl : _ = true)
  with_reducible refine only_set_inaug _ ?_ ?_
  with_reducible refine only_step ?_ (State.abandon_touch _)
  with_reducible refine only_step ?_ (State.note_touch _ _ _)
  with_reducible refine only_set_inaug _ ?_ ?_
  with_reducible refine only_set_inaug _ ?_ ?_
  with_reducible exact only_refl _ _
  exact (rfl : _ = true)
  exact (rfl : _ = true)
  exact (rfl : _ = true)

theorem State.newViews_touch : ∀ s x1 x2 x3, (State.newViews s x1 x2 x3).onlyChanges s [.interrupts, .tallies, .daybook, .outputs, .flash, .inaug] := by
  intro s x1 x2 x3
  unfold State.newViews
  conv => zeta
  with_reducible refine only_ite ?_ ?_
  with_reducible refine only_ite ?_ ?_
  with_reducible refine only_step ?_ (State.note_touch _ _ _)
  with_reducible refine only_step ?_ (State.count_touch _ _)
  with_reducible refine only_set_inaug _ ?_ ?_
  with_reducible exact only_refl _ _
  exact (rfl : _ = true)
  with_reducible refine only_set_inaug _ ?_ ?_
  with_reducible exact only_refl _ _
  exact (rfl : _ = true)
  with_reducible refine only_step ?_ (State.topoChange_touch _ _)
  with_reducible refine only_ite ?_ ?_
  with_reducible refine only_step ?_ (State.note_touch _ _ _)
  with_reducible refine only_step ?_ (State.count_touch _ _)
  with_reducible refine only_set_inaug _ ?_ ?_
  with_reducible exact only_refl _ _
  exact (rfl : _ = true)
  with_reducible refine only_set_inaug _ ?_ ?_
  with_reducible exact only_refl _ _
  exact (rfl : _ = true)

theorem State.takeLine_touch : ∀ s x1, (State.takeLine s x1).onlyChanges s [.interrupts, .clock, .tallies, .daybook, .outputs, .flash, .inaug] := by
  intro s x1
  unfold State.takeLine
  conv => zeta
  with_reducible refine only_ite ?_ ?_
  with_reducible refine only_step ?_ (State.newViews_touch _ _ _ _)
  with_reducible refine only_step ?_ (State.fresh_touch _ _)
  with_reducible exact only_refl _ _
  with_reducible refine only_step ?_ (State.newViews_touch _ _ _ _)
  with_reducible refine only_step ?_ (State.fresh_touch _ _)
  with_reducible exact only_refl _ _

theorem State.lineTo_touch : ∀ s x1 x2, (State.lineTo s x1 x2).onlyChanges s [.interrupts, .clock, .tallies, .daybook, .outputs, .flash, .inaug] := by
  intro s x1 x2
  unfold State.lineTo
  conv => zeta
  with_reducible refine only_ite ?_ ?_
  with_reducible refine only_step ?_ (State.setBb_touch _ _ _)
  with_reducible exact only_refl _ _
  with_reducible refine only_ite ?_ ?_
  with_reducible refine only_step ?_ (State.enterFast_touch _)
  with_reducible refine only_step ?_ (State.count_touch _ _)
  with_reducible refine only_set_inaug _ ?_ ?_
  with_reducible refine only_step ?_ (State.setBb_touch _ _ _)
  with_reducible exact only_refl _ _
  exact (rfl : _ = true)
  with_reducible refine only_ite ?_ ?_
  with_reducible refine only_step ?_ (State.note_touch _ _ _)
  with_reducible refine only_step ?_ (State.takeLine_touch _ _)
  with_reducible refine only_step ?_ (State.enterFast_touch _)
  with_reducible refine only_step ?_ (State.count_touch _ _)
  with_reducible refine only_set_inaug _ ?_ ?_
  with_reducible refine only_step ?_ (State.setBb_touch _ _ _)
  with_reducible exact only_refl _ _
  exact (rfl : _ = true)
  with_reducible refine only_step ?_ (State.takeLine_touch _ _)
  with_reducible refine only_step ?_ (State.enterFast_touch _)
  with_reducible refine only_step ?_ (State.count_touch _ _)
  with_reducible refine only_set_inaug _ ?_ ?_
  with_reducible refine only_step ?_ (State.setBb_touch _ _ _)
  with_reducible exact only_refl _ _
  exact (rfl : _ = true)

theorem State.bbDown_touch : ∀ s x1, (State.bbDown s x1).onlyChanges s [.interrupts, .clock, .tallies, .daybook, .outputs, .flash, .inaug] := by
  intro s x1
  unfold State.bbDown
  conv => zeta
  with_reducible refine only_step ?_ (State.lineTo_touch _ _ _)
  with_reducible exact only_refl _ _

theorem State.linkFall_touch : ∀ s x1 x2, (State.linkFall s x1 x2).onlyChanges s [.interrupts, .clock, .tallies, .daybook, .outputs, .flash, .ports, .fabric, .inaug, .time, .vault] := by
  intro s x1 x2
  unfold State.linkFall
  conv => zeta
  with_reducible refine only_ite ?_ ?_
  with_reducible exact only_refl _ _
  with_reducible refine only_ite ?_ ?_
  with_reducible refine only_step ?_ (State.bbDown_touch _ _)
  with_reducible refine only_step ?_ (State.portTimeLost_touch _ _)
  with_reducible refine only_step ?_ (State.keyDrop_touch _ _)
  with_reducible refine only_step ?_ (State.macDown_touch _ _ _)
  with_reducible exact only_refl _ _
  with_reducible refine only_step ?_ (State.portTimeLost_touch _ _)
  with_reducible refine only_step ?_ (State.keyDrop_touch _ _)
  with_reducible refine only_step ?_ (State.macDown_touch _ _ _)
  with_reducible exact only_refl _ _

theorem cmdMeasWheel_touch : ∀ b s, (cmdMeasWheel.run b s).st.onlyChanges s [.interrupts, .tallies, .daybook, .outputs, .flash, .measure] := by
  intro b s
  unfold cmdMeasWheel
  dsimp only
  with_reducible refine only_ite3 ?_ ?_
  with_reducible refine only_step ?_ (refuse_touch _ _)
  with_reducible exact only_refl _ _
  split
  with_reducible refine only_step ?_ (refuse_touch _ _)
  with_reducible exact only_refl _ _
  with_reducible refine only_step ?_ (ans_touch _ _ _)
  with_reducible refine only_step ?_ (State.note_touch _ _ _)
  with_reducible refine only_step ?_ (State.setTach_touch _ _ _)
  with_reducible exact only_refl _ _

theorem State.writeEnergy_touch : ∀ s, (State.writeEnergy s).onlyChanges s [.flash] := by
  intro s
  unfold State.writeEnergy
  conv => zeta
  with_reducible refine only_set_flash _ ?_ ?_
  with_reducible exact only_refl _ _
  exact (rfl : _ = true)

theorem State.writeDeferred_touch : ∀ s, (State.writeDeferred s).onlyChanges s [.daybook, .flash] := by
  intro s
  unfold State.writeDeferred
  conv => zeta
  with_reducible refine only_foldl _ _ (fun _ _ => ?_) _ _ _ ?_
  split
  with_reducible refine only_set_day _ ?_ ?_
  with_reducible exact only_refl _ _
  exact (rfl : _ = true)
  with_reducible refine only_set_flash _ ?_ ?_
  with_reducible exact only_refl _ _
  exact (rfl : _ = true)
  with_reducible refine only_step ?_ (State.writeEnergy_touch _)
  with_reducible exact only_refl _ _
  with_reducible refine only_set_flash _ ?_ ?_
  with_reducible exact only_refl _ _
  exact (rfl : _ = true)
  with_reducible refine only_set_flash _ ?_ ?_
  with_reducible exact only_refl _ _
  exact (rfl : _ = true)

theorem State.calm_touch : ∀ s, (State.calm s).onlyChanges s [.daybook, .flash] := by
  intro s
  unfold State.calm
  conv => zeta
  with_reducible refine only_ite ?_ ?_
  with_reducible exact only_refl _ _
  with_reducible refine only_step ?_ (State.writeDeferred_touch _)
  with_reducible exact only_refl _ _

theorem State.enterHeld_touch : ∀ s, (State.enterHeld s).onlyChanges s [.interrupts, .tallies, .daybook, .outputs, .flash] := by
  intro s
  unfold State.enterHeld
  conv => zeta
  with_reducible refine only_foldl _ _ (fun _ _ => ?_) _ _ _ ?_
  with_reducible refine only_step ?_ (State.enter_touch _ _)
  with_reducible exact only_refl _ _
  with_reducible refine only_set_day _ ?_ ?_
  with_reducible exact only_refl _ _
  exact (rfl : _ = true)

theorem State.serveAgain_touch : ∀ s, (State.serveAgain s).onlyChanges s [.mailbox, .interrupts, .tallies, .daybook, .outputs, .flash] := by
  intro s
  unfold State.serveAgain
  conv => zeta
  with_reducible refine only_step ?_ (State.calm_touch _)
  with_reducible refine only_step ?_ (State.enterHeld_touch _)
  split
  with_reducible refine only_step ?_ (State.note_touch _ _ _)
  with_reducible refine only_step ?_ (State.respond_touch _ _ _ _ _ _)
  with_reducible refine only_set_mbx _ ?_ ?_ ⟨rfl, rfl⟩
  with_reducible exact only_refl _ _
  exact (rfl : _ = true)
  with_reducible refine only_set_mbx _ ?_ ?_ ⟨rfl, rfl⟩
  with_reducible exact only_refl _ _
  exact (rfl : _ = true)

theorem State.acquire_touch : ∀ s x1 x2, (State.acquire s x1 x2).2.onlyChanges s [.can] := by
  intro s x1 x2
  unfold State.acquire
  conv => zeta
  split
  with_reducible exact only_refl _ _
  with_reducible refine only_ite2 ?_ ?_
  with_reducible exact only_refl _ _
  with_reducible refine only_ite2 ?_ ?_
  with_reducible exact only_refl _ _
  with_reducible refine only_step ?_ (State.setCtl_touch _ _ _)
  with_reducible exact only_refl _ _

theorem State.targetRead_touch : ∀ s x1 x2 x3 x4, (State.targetRead s x1 x2 x3 x4).2.onlyChanges s [.can] := by
  intro s x1 x2 x3 x4
  unfold State.targetRead
  conv => zeta
  with_reducible refine only_ite2 ?_ ?_
  with_reducible exact only_refl _ _
  with_reducible refine only_ite2 ?_ ?_
  with_reducible refine only_ite2 ?_ ?_
  with_reducible refine only_step ?_ (State.acquire_touch _ _ _)
  with_reducible exact only_refl _ _
  with_reducible exact only_refl _ _
  with_reducible exact only_refl _ _

theorem State.fetched_touch : ∀ s x1, (State.fetched s x1).onlyChanges s [.interrupts, .tallies, .daybook, .outputs, .flash, .can, .bridge] := by
  intro s x1
  unfold State.fetched
  conv => zeta
  split
  with_reducible exact only_refl _ _
  with_reducible refine only_ite ?_ ?_
  with_reducible exact only_refl _ _
  with_reducible refine only_ite ?_ ?_
  with_reducible refine only_ite ?_ ?_
  with_reducible refine only_step ?_ (State.dishonour_touch _ _ _ _ _ _ _)
  with_reducible refine only_step ?_ (State.setSlot_touch _ _ _)
  with_reducible exact only_refl _ _
  with_reducible refine only_step ?_ (State.setSlot_touch _ _ _)
  with_reducible exact only_refl _ _
  with_reducible refine only_ite ?_ ?_
  with_reducible refine only_step ?_ (State.dishonour_touch _ _ _ _ _ _ _)
  with_reducible refine only_step ?_ (State.setSlot_touch _ _ _)
  with_reducible refine only_ite2 ?_ ?_
  with_reducible refine only_step ?_ (State.targetRead_touch _ _ _ _ _)
  with_reducible exact only_refl _ _
  with_reducible refine only_step ?_ (State.targetRead_touch _ _ _ _ _)
  with_reducible exact only_refl _ _
  with_reducible refine only_step ?_ (State.setSlot_touch _ _ _)
  with_reducible refine only_ite2 ?_ ?_
  with_reducible refine only_step ?_ (State.targetRead_touch _ _ _ _ _)
  with_reducible exact only_refl _ _
  with_reducible refine only_step ?_ (State.targetRead_touch _ _ _ _ _)
  with_reducible exact only_refl _ _

theorem State.schedule_touch : ∀ s x1 x2, (State.schedule s x1 x2).onlyChanges s [.time] := by
  intro s x1 x2
  unfold State.schedule
  conv => zeta
  with_reducible refine only_step ?_ (State.setTport_touch _ _ _)
  with_reducible exact only_refl _ _

theorem State.timeDue_touch : ∀ s x1 x2, (State.timeDue s x1 x2).onlyChanges s [.time] := by
  intro s x1 x2
  unfold State.timeDue
  conv => zeta
  with_reducible refine only_ite ?_ ?_
  with_reducible exact only_refl _ _
  split
  with_reducible refine only_ite ?_ ?_
  with_reducible refine only_step ?_ (State.schedule_touch _ _ _)
  with_reducible refine only_step ?_ (State.setTport_touch _ _ _)
  with_reducible exact only_refl _ _
  with_reducible exact only_refl _ _
  with_reducible refine only_ite ?_ ?_
  with_reducible refine only_step ?_ (State.schedule_touch _ _ _)
  with_reducible refine only_step ?_ (State.setTport_touch _ _ _)
  with_reducible exact only_refl _ _
  with_reducible exact only_refl _ _
  with_reducible refine only_ite ?_ ?_
  with_reducible refine only_step ?_ (State.schedule_touch _ _ _)
  with_reducible refine only_step ?_ (State.setTport_touch _ _ _)
  with_reducible exact only_refl _ _
  with_reducible exact only_refl _ _
  with_reducible refine only_ite ?_ ?_
  with_reducible refine only_step ?_ (State.schedule_touch _ _ _)
  with_reducible exact only_refl _ _
  with_reducible exact only_refl _ _
  with_reducible exact only_refl _ _

theorem State.storeWrite_touch : ∀ s x1 x2, (State.storeWrite s x1 x2).onlyChanges s [.bridge] := by
  intro s x1 x2
  unfold State.storeWrite
  conv => zeta
  split
  with_reducible refine only_set_bridge _ ?_ ?_
  with_reducible exact only_refl _ _
  exact (rfl : _ = true)
  with_reducible refine only_set_bridge _ ?_ ?_
  with_reducible exact only_refl _ _
  exact (rfl : _ = true)

theorem State.swapPage_touch : ∀ s x1 x2, (State.swapPage s x1 x2).onlyChanges s [.bridge] := by
  intro s x1 x2
  unfold State.swapPage
  conv => zeta
  with_reducible refine only_step ?_ (State.storeWrite_touch _ _ _)
  with_reducible exact only_refl _ _

theorem State.mapCommit_touch : ∀ s x1 x2 x3 x4 x5 x6, (State.mapCommit s x1 x2 x3 x4 x5 x6).onlyChanges s [.interrupts, .clock, .tallies, .outputs, .store] := by
  intro s x1 x2 x3 x4 x5 x6
  unfold State.mapCommit
  conv => zeta
  split
  with_reducible exact only_refl _ _
  with_reducible refine only_step ?_ (State.commitPort_touch _ _ _ _ _ _)
  with_reducible exact only_refl _ _

theorem State.pageSwap_touch : ∀ s x1 x2 x3 x4, (State.pageSwap s x1 x2 x3 x4).onlyChanges s [.interrupts, .clock, .tallies, .outputs, .store, .bridge] := by
  intro s x1 x2 x3 x4
  unfold State.pageSwap
  conv => zeta
  with_reducible refine only_step ?_ (State.mapCommit_touch _ _ _ _ _ _ _)
  with_reducible refine only_step ?_ (State.swapPage_touch _ _ _)
  with_reducible exact only_refl _ _

theorem State.tsWrite_touch : ∀ s x1 x2 x3 x4, (State.tsWrite s x1 x2 x3 x4).onlyChanges s [.interrupts, .clock, .tallies, .outputs, .store, .bridge] := by
  intro s x1 x2 x3 x4
  unfold State.tsWrite
  conv => zeta
  with_reducible refine only_ite ?_ ?_
  with_reducible refine only_ite ?_ ?_
  with_reducible exact only_refl _ _
  with_reducible refine only_ite ?_ ?_
  with_reducible refine only_step ?_ (State.count_touch _ _)
  with_reducible exact only_refl _ _
  split
  with_reducible refine only_foldl _ _ (fun _ _ => ?_) _ _ _ ?_
  with_reducible refine only_ite ?_ ?_
  with_reducible refine only_step ?_ (State.storeWrite_touch _ _ _)
  with_reducible exact only_refl _ _
  with_reducible exact only_refl _ _
  with_reducible exact only_refl _ _
  with_reducible refine only_ite ?_ ?_
  with_reducible exact only_refl _ _
  with_reducible refine only_ite ?_ ?_
  with_reducible refine only_step ?_ (State.count_touch _ _)
  with_reducible exact only_refl _ _
  with_reducible refine only_step ?_ (State.pageSwap_touch _ _ _ _ _)
  with_reducible exact only_refl _ _
  with_reducible refine only_ite ?_ ?_
  with_reducible exact only_refl _ _
  with_reducible refine only_ite ?_ ?_
  with_reducible refine only_step ?_ (State.count_touch _ _)
  with_reducible exact only_refl _ _
  with_reducible refine only_foldl _ _ (fun _ _ => ?_) _ _ _ ?_
  with_reducible refine only_ite ?_ ?_
  with_reducible refine only_step ?_ (State.storeWrite_touch _ _ _)
  with_reducible exact only_refl _ _
  with_reducible exact only_refl _ _
  with_reducible exact only_refl _ _

theorem State.releaseFifo_touch : ∀ s x1 x2 x3, (State.releaseFifo s x1 x2 x3).onlyChanges s [.tallies, .can] := by
  intro s x1 x2 x3
  unfold State.releaseFifo
  conv => zeta
  split
  with_reducible exact only_refl _ _
  with_reducible refine only_ite ?_ ?_
  with_reducible exact only_refl _ _
  with_reducible refine only_ite ?_ ?_
  with_reducible refine only_step ?_ (State.setCtl_touch _ _ _)
  with_reducible exact only_refl _ _
  with_reducible refine only_step ?_ (State.count_touch _ _)
  with_reducible exact only_refl _ _

theorem State.canWrite_touch : ∀ s x1 x2 x3 x4, (State.canWrite s x1 x2 x3 x4).onlyChanges s [.tallies, .can] := by
  intro s x1 x2 x3 x4
  unfold State.canWrite
  conv => zeta
  with_reducible refine only_ite ?_ ?_
  with_reducible refine only_step ?_ (State.releaseFifo_touch _ _ _ _)
  with_reducible exact only_refl _ _
  with_reducible refine only_ite ?_ ?_
  split
  with_reducible refine only_step ?_ (State.setCtl_touch _ _ _)
  with_reducible exact only_refl _ _
  with_reducible exact only_refl _ _
  with_reducible exact only_refl _ _

theorem State.pinPort_touch : ∀ s x1, (State.pinPort s x1).onlyChanges s [.store] := by
  intro s x1
  unfold State.pinPort
  conv => zeta
  split
  with_reducible refine only_set_pd _ ?_ ?_
  with_reducible exact only_refl _ _
  exact (rfl : _ = true)
  with_reducible refine only_set_pd _ ?_ ?_
  with_reducible exact only_refl _ _
  exact (rfl : _ = true)

theorem State.setWinPort_touch : ∀ s x1, (State.setWinPort s x1).onlyChanges s [.store] := by
  intro s x1
  unfold State.setWinPort
  conv => zeta
  with_reducible refine only_set_pd _ ?_ ?_
  with_reducible exact only_refl _ _
  exact (rfl : _ = true)

theorem State.unpin_touch : ∀ s, (State.unpin s).onlyChanges s [.store] := by
  intro s
  unfold State.unpin
  conv => zeta
  with_reducible refine only_set_pd _ ?_ ?_
  with_reducible exact only_refl _ _
  exact (rfl : _ = true)

theorem State.regWrite_touch {l : List Part} (s : State) (f : State → State) (r v : Nat)
    (hl : ∀ x, (f x).onlyChanges x l) (hb : partsIn [.mailbox, .interrupts, .store] l = true) :
    (s.regWrite f r v).onlyChanges s l := by
  have h1 : partsIn [.mailbox] l = true := by simp [partsIn] at hb ⊢; simp [hb]
  have h2 : partsIn [.interrupts] l = true := by simp [partsIn] at hb ⊢; simp [hb]
  have h3 : partsIn [.store] l = true := by simp [partsIn] at hb ⊢; simp [hb]
  unfold State.regWrite
  conv => zeta
  with_reducible refine only_ite ?_ ?_
  with_reducible refine only_ite ?_ ?_
  split
  with_reducible exact only_trans (only_step (only_refl _ _) (State.ackResp_touch _) h1) (hl _)
  with_reducible exact hl _
  with_reducible refine only_ite ?_ ?_
  with_reducible exact only_step (only_refl _ _) (State.ackResp_touch _) h1
  with_reducible exact only_refl _ _
  with_reducible refine only_ite ?_ ?_
  with_reducible exact only_step (only_refl _ _) (State.clearInts_touch _ _) h2
  with_reducible refine only_ite ?_ ?_
  with_reducible exact only_step (only_refl _ _) (State.maskInts_touch _ _) h2
  with_reducible refine only_ite ?_ ?_
  with_reducible refine only_ite ?_ ?_
  with_reducible exact only_step (only_refl _ _) (State.pinPort_touch _ _) h3
  with_reducible exact only_step (only_step (only_refl _ _) (State.unpin_touch _) h3) (State.setWinPort_touch _ _) h3
  with_reducible exact only_refl _ _

theorem State.regBytes_touch {l : List Part} (s : State) (f : State → State) (o : Nat) (d : List Byte)
    (hl : ∀ x, (f x).onlyChanges x l) (hb : partsIn [.mailbox, .interrupts, .store] l = true) :
    (s.regBytes f o d).onlyChanges s l := by
  have h1 : l.contains .mailbox = true := by simp [partsIn] at hb ⊢; simp [hb]
  unfold State.regBytes
  conv => zeta
  split
  · exact State.regWrite_touch s f _ _ hl hb
  · split
    · exact only_set_mbx _ (only_refl s l) h1 ⟨rfl, rfl⟩
    · refine only_trans ?_ (State.regWrite_touch _ f _ _ hl hb)
      exact only_set_mbx _ (only_refl s l) h1 ⟨rfl, rfl⟩

theorem State.hifWrite_touch {l : List Part} (s : State) (f : State → State) (o : Nat) (d : List Byte)
    (hl : ∀ x, (f x).onlyChanges x l) (hb : partsIn [.mailbox, .interrupts, .store] l = true) :
    (s.hifWrite f o d).onlyChanges s l := by
  have h1 : l.contains .mailbox = true := by simp [partsIn] at hb ⊢; simp [hb]
  unfold State.hifWrite
  split
  · exact only_refl s l
  · split
    · exact State.regBytes_touch s f _ _ hl hb
    · split
      · exact only_set_mbx _ (only_refl s l) h1 ⟨rfl, rfl⟩
      · exact only_refl s l

theorem State.targetWrite_touch {l : List Part} (s : State) (f : State → State) (w : List Byte) (o be d : Nat)
    (hl : ∀ x, (f x).onlyChanges x l)
    (hb : partsIn [.mailbox, .interrupts, .clock, .tallies, .outputs, .store, .can, .bridge] l = true) :
    (s.targetWrite f w o be d).onlyChanges s l := by
  have h1 : partsIn [.mailbox, .interrupts, .store] l = true := by simp [partsIn] at hb ⊢; simp [hb]
  unfold State.targetWrite
  with_reducible refine only_ite ?_ ?_
  exact only_step (only_refl s l) (State.tsWrite_touch ..) (by simp [partsIn] at hb ⊢; simp [hb])
  with_reducible refine only_ite ?_ ?_
  exact only_step (only_refl s l) (State.canWrite_touch ..) (by simp [partsIn] at hb ⊢; simp [hb])
  with_reducible refine only_ite ?_ ?_
  exact State.hifWrite_touch s f _ _ hl h1
  with_reducible refine only_ite ?_ ?_
  exact State.hifWrite_touch s f _ _ hl h1
  exact State.hifWrite_touch s f _ _ hl h1

theorem State.deliverIn_touch {l : List Part} (s : State) (f : State → State)
    (hl : ∀ x, (f x).onlyChanges x l)
    (hb : partsIn [.mailbox, .interrupts, .clock, .tallies, .daybook, .outputs, .flash, .store, .can, .bridge] l = true) :
    (s.deliverIn f).onlyChanges s l := by
  have h1 : partsIn [.mailbox, .interrupts, .clock, .tallies, .outputs, .store, .can, .bridge] l = true := by
    simp [partsIn] at hb ⊢; simp [hb]
  have h2 : l.contains .bridge = true := by simp [partsIn] at hb ⊢; simp [hb]
  unfold State.deliverIn
  conv => zeta
  split
  · exact only_refl s l
  · split
    · exact only_refl s l
    · split
      · exact only_step (only_set_bridge _ (only_refl s l) h2) (State.dishonour_touch ..)
          (by simp [partsIn] at hb ⊢; simp [hb])
      · exact only_trans (only_set_bridge _ (only_refl s l) h2) (State.targetWrite_touch _ f _ _ _ _ hl h1)

theorem State.setHtx_touch : ∀ s x1 x2, (State.setHtx s x1 x2).onlyChanges s [.ports] := by
  intro s x1 x2
  unfold State.setHtx
  conv => zeta
  with_reducible refine only_set_ports _ ?_ ?_
  with_reducible exact only_refl _ _
  exact (rfl : _ = true)

theorem State.ringVector_touch : ∀ s x1, (State.ringVector s x1).onlyChanges s [.interrupts, .outputs, .ports] := by
  intro s x1
  unfold State.ringVector
  conv => zeta
  with_reducible refine only_ite ?_ ?_
  with_reducible refine only_step ?_ (State.raise_touch _ _)
  with_reducible refine only_ite ?_ ?_
  with_reducible refine only_step ?_ (State.setHrx_touch _ _ _)
  with_reducible exact only_refl _ _
  with_reducible refine only_step ?_ (State.setHtx_touch _ _ _)
  with_reducible exact only_refl _ _
  with_reducible refine only_ite ?_ ?_
  with_reducible refine only_step ?_ (State.setHrx_touch _ _ _)
  with_reducible exact only_refl _ _
  with_reducible refine only_step ?_ (State.setHtx_touch _ _ _)
  with_reducible exact only_refl _ _

theorem State.sysrstHit_touch : ∀ s x1, (State.sysrstHit s x1).2.onlyChanges s [.clock] := by
  intro s x1
  unfold State.sysrstHit
  conv => zeta
  with_reducible refine only_ite2 ?_ ?_
  with_reducible exact only_refl _ _
  with_reducible refine only_ite2 ?_ ?_
  with_reducible exact only_refl _ _
  with_reducible refine only_step ?_ (State.fresh_touch _ _)
  with_reducible exact only_refl _ _

theorem only_all {s t : State} (h : t.pending = s.pending) : t.onlyChanges s [.mailbox, .interrupts, .clock, .tallies, .daybook, .outputs, .system, .flash, .feeds, .lehr, .parison, .trackers, .pace, .gaffer, .ports, .fabric, .store, .inaug, .time, .can, .sleep, .measure, .triad, .twin, .bridge, .vault, .seeds] :=
  ⟨h, fun p hp => absurd (by cases p <;> decide) hp⟩
theorem State.mainReset_touch : ∀ s p, (State.mainReset s p).onlyChanges s [.mailbox, .interrupts, .clock, .tallies, .daybook, .outputs, .system, .flash, .feeds, .lehr, .parison, .trackers, .pace, .gaffer, .ports, .fabric, .store, .inaug, .time, .can, .sleep, .measure, .triad, .twin, .bridge, .vault, .seeds] := by
  intro s p
  apply only_all
  simp only [State.mainReset]
  exact (State.fillSlots_touch _).1

theorem State.inhibitUpdate_touch : ∀ s, (State.inhibitUpdate s).onlyChanges s [.interrupts, .tallies, .daybook, .outputs, .flash, .inaug] := by
  intro s
  unfold State.inhibitUpdate
  conv => zeta
  with_reducible refine only_ite ?_ ?_
  with_reducible exact only_refl _ _
  with_reducible refine only_ite ?_ ?_
  with_reducible refine only_step ?_ (State.note_touch _ _ _)
  with_reducible refine only_set_inaug _ ?_ ?_
  with_reducible exact only_refl _ _
  exact (rfl : _ = true)
  with_reducible refine only_ite ?_ ?_
  with_reducible refine only_ite ?_ ?_
  split
  with_reducible refine only_set_inaug _ ?_ ?_
  with_reducible refine only_step ?_ (State.abandon_touch _)
  with_reducible refine only_step ?_ (State.note_touch _ _ _)
  with_reducible refine only_set_inaug _ ?_ ?_
  with_reducible exact only_refl _ _
  exact (rfl : _ = true)
  exact (rfl : _ = true)
  with_reducible refine only_set_inaug _ ?_ ?_
  with_reducible refine only_step ?_ (State.abandon_touch _)
  with_reducible refine only_step ?_ (State.note_touch _ _ _)
  with_reducible refine only_set_inaug _ ?_ ?_
  with_reducible exact only_refl _ _
  exact (rfl : _ = true)
  exact (rfl : _ = true)
  with_reducible refine only_step ?_ (State.note_touch _ _ _)
  with_reducible refine only_set_inaug _ ?_ ?_
  with_reducible exact only_refl _ _
  exact (rfl : _ = true)
  with_reducible refine only_ite ?_ ?_
  split
  with_reducible refine only_set_inaug _ ?_ ?_
  with_reducible refine only_step ?_ (State.note_touch _ _ _)
  with_reducible refine only_set_inaug _ ?_ ?_
  with_reducible exact only_refl _ _
  exact (rfl : _ = true)
  exact (rfl : _ = true)
  with_reducible refine only_set_inaug _ ?_ ?_
  with_reducible refine only_step ?_ (State.note_touch _ _ _)
  with_reducible refine only_set_inaug _ ?_ ?_
  with_reducible exact only_refl _ _
  exact (rfl : _ = true)
  exact (rfl : _ = true)
  with_reducible refine only_ite ?_ ?_
  with_reducible refine only_ite ?_ ?_
  with_reducible refine only_step ?_ (State.note_touch _ _ _)
  with_reducible refine only_set_inaug _ ?_ ?_
  with_reducible exact only_refl _ _
  exact (rfl : _ = true)
  with_reducible refine only_step ?_ (State.note_touch _ _ _)
  split
  with_reducible refine only_set_inaug _ ?_ ?_
  with_reducible refine only_step ?_ (State.note_touch _ _ _)
  with_reducible refine only_set_inaug _ ?_ ?_
  with_reducible exact only_refl _ _
  exact (rfl : _ = true)
  exact (rfl : _ = true)
  with_reducible refine only_set_inaug _ ?_ ?_
  with_reducible refine only_step ?_ (State.note_touch _ _ _)
  with_reducible refine only_set_inaug _ ?_ ?_
  with_reducible exact only_refl _ _
  exact (rfl : _ = true)
  exact (rfl : _ = true)
  split
  split
  with_reducible refine only_set_inaug _ ?_ ?_
  with_reducible refine only_step ?_ (State.note_touch _ _ _)
  with_reducible refine only_set_inaug _ ?_ ?_
  with_reducible exact only_refl _ _
  exact (rfl : _ = true)
  exact (rfl : _ = true)
  with_reducible refine only_set_inaug _ ?_ ?_
  with_reducible refine only_step ?_ (State.note_touch _ _ _)
  with_reducible refine only_set_inaug _ ?_ ?_
  with_reducible refine only_step ?_ (State.note_touch _ _ _)
  with_reducible refine only_set_inaug _ ?_ ?_
  with_reducible exact only_refl _ _
  exact (rfl : _ = true)
  exact (rfl : _ = true)
  exact (rfl : _ = true)
  split
  with_reducible refine only_set_inaug _ ?_ ?_
  with_reducible refine only_step ?_ (State.note_touch _ _ _)
  with_reducible refine only_set_inaug _ ?_ ?_
  with_reducible exact only_refl _ _
  exact (rfl : _ = true)
  exact (rfl : _ = true)
  with_reducible refine only_set_inaug _ ?_ ?_
  with_reducible refine only_step ?_ (State.note_touch _ _ _)
  with_reducible refine only_set_inaug _ ?_ ?_
  with_reducible refine only_step ?_ (State.note_touch _ _ _)
  with_reducible refine only_set_inaug _ ?_ ?_
  with_reducible exact only_refl _ _
  exact (rfl : _ = true)
  exact (rfl : _ = true)
  exact (rfl : _ = true)

theorem State.setInaug_touch : ∀ s x1, (State.setInaug s x1).onlyChanges s [.interrupts, .tallies, .daybook, .outputs, .flash, .ports, .inaug] := by
  intro s x1
  unfold State.setInaug
  conv => zeta
  with_reducible refine only_step ?_ (State.inhibitUpdate_touch _) ?_
  with_reducible refine only_step ?_ (State.insertion_touch _) ?_
  with_reducible refine only_ite ?_ ?_
  with_reducible refine only_ite ?_ ?_
  with_reducible refine only_step ?_ (State.enterFast_touch _) ?_
  with_reducible refine only_set_inaug _ ?_ ?_
  with_reducible refine only_set_inaug _ ?_ ?_
  with_reducible exact only_refl _ _
  exact (rfl : _ = true)
  exact (rfl : _ = true)
  exact (rfl : _ = true)
  with_reducible refine only_set_inaug _ ?_ ?_
  with_reducible exact only_refl _ _
  exact (rfl : _ = true)
  with_reducible refine only_ite ?_ ?_
  split
  with_reducible refine only_set_inaug _ ?_ ?_
  with_reducible refine only_step ?_ (State.enterFast_touch _) ?_
  with_reducible refine only_set_inaug _ ?_ ?_
  with_reducible refine only_set_inaug _ ?_ ?_
  with_reducible exact only_refl _ _
  exact (rfl : _ = true)
  exact (rfl : _ = true)
  exact (rfl : _ = true)
  exact (rfl : _ = true)
  with_reducible refine only_set_inaug _ ?_ ?_
  with_reducible refine only_set_inaug _ ?_ ?_
  with_reducible exact only_refl _ _
  exact (rfl : _ = true)
  exact (rfl : _ = true)
  split
  with_reducible refine only_set_inaug _ ?_ ?_
  with_reducible refine only_step ?_ (State.enterFast_touch _) ?_
  with_reducible refine only_set_inaug _ ?_ ?_
  with_reducible refine only_set_inaug _ ?_ ?_
  with_reducible exact only_refl _ _
  exact (rfl : _ = true)
  exact (rfl : _ = true)
  exact (rfl : _ = true)
  exact (rfl : _ = true)
  with_reducible refine only_set_inaug _ ?_ ?_
  with_reducible refine only_set_inaug _ ?_ ?_
  with_reducible exact only_refl _ _
  exact (rfl : _ = true)
  exact (rfl : _ = true)
  exact (rfl : _ = true)
  exact (rfl : _ = true)

theorem State.persist_touch : ∀ s x1 x2, (State.persist s x1 x2).onlyChanges s [.tallies, .daybook, .flash] := by
  intro s x1 x2
  unfold State.persist
  conv => zeta
  with_reducible refine only_ite ?_ ?_
  with_reducible refine only_step ?_ (State.deferWrite_touch _ _)
  with_reducible exact only_refl _ _
  with_reducible refine only_set_flash _ ?_ ?_
  with_reducible exact only_refl _ _
  exact (rfl : _ = true)

theorem cmdInaugConfig_touch : ∀ b s, (cmdInaugConfig.run b s).st.onlyChanges s [.interrupts, .tallies, .daybook, .outputs, .flash, .ports, .inaug] := by
  intro b s
  unfold cmdInaugConfig
  dsimp only
  with_reducible refine only_ite3 ?_ ?_
  with_reducible refine only_step ?_ (ans_touch _ _ _)
  with_reducible exact only_refl _ _
  with_reducible refine only_ite3 ?_ ?_
  with_reducible refine only_step ?_ (refuse_touch _ _)
  with_reducible exact only_refl _ _
  with_reducible refine only_ite3 ?_ ?_
  with_reducible refine only_step ?_ (refuse_touch _ _)
  with_reducible exact only_refl _ _
  with_reducible refine only_step ?_ (ans_touch _ _ _)
  with_reducible refine only_ite ?_ ?_
  with_reducible refine only_step ?_ (State.persist_touch _ _ _)
  with_reducible refine only_step ?_ (State.setInaug_touch _ _)
  with_reducible exact only_refl _ _
  with_reducible refine only_step ?_ (State.setInaug_touch _ _)
  with_reducible exact only_refl _ _

theorem State.bothLost_touch : ∀ s, (State.bothLost s).onlyChanges s [.mailbox, .interrupts, .clock, .tallies, .daybook, .outputs, .system, .flash, .feeds, .lehr, .parison, .trackers, .pace, .gaffer, .ports, .fabric, .store, .inaug, .time, .can, .sleep, .measure, .triad, .twin, .bridge, .vault, .seeds] := by
  intro s
  apply only_all
  simp only [State.bothLost]
  exact (State.mainReset_touch s false).1

theorem State.canLossOne_touch : ∀ s x1, (State.canLossOne s x1).onlyChanges s [.mailbox, .interrupts, .tallies, .outputs, .can] := by
  intro s x1
  unfold State.canLossOne
  conv => zeta
  split
  with_reducible refine only_step ?_ (State.withdrawBufs_touch _ _ _ _)
  split
  with_reducible refine only_ite ?_ ?_
  with_reducible refine only_step ?_ (State.finish_touch _ _ _ _)
  with_reducible exact only_refl _ _
  with_reducible exact only_refl _ _
  with_reducible exact only_refl _ _
  with_reducible refine only_step ?_ (State.setCtl_touch _ _ _)
  with_reducible refine only_step ?_ (State.withdrawBufs_touch _ _ _ _)
  split
  with_reducible refine only_ite ?_ ?_
  with_reducible refine only_step ?_ (State.finish_touch _ _ _ _)
  with_reducible exact only_refl _ _
  with_reducible exact only_refl _ _
  with_reducible exact only_refl _ _

theorem State.canLoss_touch : ∀ s x1, (State.canLoss s x1).onlyChanges s [.mailbox, .interrupts, .tallies, .outputs, .can] := by
  intro s x1
  unfold State.canLoss
  conv => zeta
  with_reducible refine only_foldl _ _ (fun _ _ => ?_) _ _ _ ?_
  with_reducible refine only_ite ?_ ?_
  with_reducible exact only_refl _ _
  with_reducible refine only_step ?_ (State.canLossOne_touch _ _)
  with_reducible exact only_refl _ _
  with_reducible exact only_refl _ _

theorem State.abandon2_touch : ∀ s x1, (State.abandon2 s x1).onlyChanges s [.mailbox, .interrupts, .tallies, .outputs, .feeds, .can] := by
  intro s x1
  unfold State.abandon2
  conv => zeta
  with_reducible refine only_step ?_ (State.canLoss_touch _ _)
  with_reducible refine only_step ?_ (State.setFeed_touch _ _ _)
  with_reducible exact only_refl _ _

theorem State.spineLost_touch : ∀ s x1, (State.spineLost s x1).onlyChanges s [.gaffer] := by
  intro s x1
  unfold State.spineLost
  conv => zeta
  with_reducible refine only_ite ?_ ?_
  split
  split
  with_reducible refine only_set_gaf _ ?_ ?_
  with_reducible exact only_refl _ _
  exact (rfl : _ = true)
  with_reducible refine only_set_gaf _ ?_ ?_
  with_reducible exact only_refl _ _
  exact (rfl : _ = true)
  split
  with_reducible refine only_set_gaf _ ?_ ?_
  with_reducible exact only_refl _ _
  exact (rfl : _ = true)
  with_reducible refine only_set_gaf _ ?_ ?_
  with_reducible exact only_refl _ _
  exact (rfl : _ = true)
  split
  split
  split
  with_reducible refine only_set_gaf _ ?_ ?_
  with_reducible exact only_refl _ _
  exact (rfl : _ = true)
  with_reducible refine only_set_gaf _ ?_ ?_
  with_reducible exact only_refl _ _
  exact (rfl : _ = true)
  split
  with_reducible refine only_set_gaf _ ?_ ?_
  with_reducible exact only_refl _ _
  exact (rfl : _ = true)
  with_reducible refine only_set_gaf _ ?_ ?_
  with_reducible exact only_refl _ _
  exact (rfl : _ = true)
  split
  with_reducible refine only_set_gaf _ ?_ ?_
  with_reducible exact only_refl _ _
  exact (rfl : _ = true)
  with_reducible exact only_refl _ _

theorem State.gafferGone_touch : ∀ s x1, (State.gafferGone s x1).onlyChanges s [.tallies, .parison, .gaffer] := by
  intro s x1
  unfold State.gafferGone
  conv => zeta
  with_reducible refine only_step ?_ (State.spineLost_touch _ _)
  with_reducible refine only_step ?_ (State.countN_touch _ _ _)
  with_reducible refine only_set_par_gaf _ _ ?_ ?_ ?_
  with_reducible exact only_refl _ _
  exact (rfl : _ = true)
  exact (rfl : _ = true)

theorem State.portGone_touch : ∀ s x1, (State.portGone s x1).onlyChanges s [.interrupts, .clock, .tallies, .daybook, .outputs, .flash, .ports, .fabric, .inaug, .time, .vault] := by
  intro s x1
  unfold State.portGone
  conv => zeta
  with_reducible refine only_step ?_ (State.setGates_touch _ _ _)
  with_reducible refine only_ite ?_ ?_
  with_reducible refine only_step ?_ (State.linkFall_touch _ _ _)
  with_reducible exact only_refl _ _
  with_reducible refine only_step ?_ (State.flush_touch _ _)
  with_reducible exact only_refl _ _

theorem State.mdioGone_touch : ∀ s x1, (State.mdioGone s x1).onlyChanges s [.mailbox, .interrupts, .tallies, .outputs, .ports] := by
  intro s x1
  unfold State.mdioGone
  conv => zeta
  split
  split
  split
  with_reducible refine only_set_ports _ ?_ ?_
  with_reducible refine only_step ?_ (State.finish_touch _ _ _ _)
  with_reducible exact only_refl _ _
  exact (rfl : _ = true)
  with_reducible refine only_set_ports _ ?_ ?_
  with_reducible refine only_step ?_ (State.finish_touch _ _ _ _)
  with_reducible exact only_refl _ _
  exact (rfl : _ = true)
  split
  with_reducible refine only_set_ports _ ?_ ?_
  with_reducible exact only_refl _ _
  exact (rfl : _ = true)
  with_reducible refine only_set_ports _ ?_ ?_
  with_reducible exact only_refl _ _
  exact (rfl : _ = true)
  split
  with_reducible refine only_set_ports _ ?_ ?_
  with_reducible exact only_refl _ _
  exact (rfl : _ = true)
  with_reducible refine only_set_ports _ ?_ ?_
  with_reducible exact only_refl _ _
  exact (rfl : _ = true)

theorem State.coreOut_touch : ∀ s x1, (State.coreOut s x1).onlyChanges s [.triad] := by
  intro s x1
  unfold State.coreOut
  conv => zeta
  split
  with_reducible refine only_ite ?_ ?_
  with_reducible refine only_step ?_ (State.endResync_touch _)
  with_reducible refine only_step ?_ (State.setCore_touch _ _ _)
  with_reducible exact only_refl _ _
  with_reducible refine only_step ?_ (State.setCore_touch _ _ _)
  with_reducible exact only_refl _ _
  with_reducible refine only_step ?_ (State.setCore_touch _ _ _)
  with_reducible exact only_refl _ _

theorem State.breach_touch : ∀ s x1 x2 x3, (State.breach s x1 x2 x3).onlyChanges s [.interrupts, .tallies, .daybook, .outputs, .flash] := by
  intro s x1 x2 x3
  unfold State.breach
  conv => zeta
  with_reducible refine only_step ?_ (State.note_touch _ _ _)
  with_reducible exact only_refl _ _

theorem State.overrun_touch : ∀ s x1, (State.overrun s x1).onlyChanges s [.interrupts, .tallies, .daybook, .outputs, .flash, .triad] := by
  intro s x1
  unfold State.overrun
  conv => zeta
  with_reducible refine only_step ?_ (State.breach_touch _ _ _ _)
  with_reducible refine only_step ?_ (State.count_touch _ _)
  with_reducible refine only_step ?_ (State.holdSnaps_touch _ _)
  with_reducible exact only_refl _ _

theorem State.joinReady_touch : ∀ s, (State.joinReady s).onlyChanges s [.interrupts, .tallies, .daybook, .outputs, .flash, .triad] := by
  intro s
  unfold State.joinReady
  conv => zeta
  with_reducible refine only_step ?_ (State.triUpdate_touch _ _)
  with_reducible refine only_foldl _ _ (fun _ _ => ?_) _ _ _ ?_
  with_reducible refine only_ite ?_ ?_
  with_reducible refine only_step ?_ (State.setCore_touch _ _ _)
  with_reducible exact only_refl _ _
  with_reducible exact only_refl _ _
  with_reducible exact only_refl _ _

theorem State.showSnaps_touch : ∀ s x1, (State.showSnaps s x1).onlyChanges s [.store] := by
  intro s x1
  unfold State.showSnaps
  conv => zeta
  with_reducible refine only_foldl _ _ (fun _ _ => ?_) _ _ _ ?_
  split
  with_reducible refine only_step ?_ (State.setPort_touch _ _ _)
  with_reducible exact only_refl _ _
  with_reducible exact only_refl _ _
  with_reducible exact only_refl _ _

theorem State.begin_touch : ∀ s x1, (State.begin s x1).onlyChanges s [.interrupts, .clock, .tallies, .daybook, .outputs, .flash, .store, .triad, .twin, .seeds] := by
  intro s r
  have h0 := only_step (only_sub (b := [.interrupts, .clock, .tallies, .daybook, .outputs, .flash, .store, .triad, .twin, .seeds]) (State.seal_touch s) rfl) (State.joinReady_touch _) rfl
  simp only [State.begin]
  generalize s.seal.joinReady = u at h0 ⊢
  exact only_set_triad _ (only_step h0 (State.showSnaps_touch _ _) rfl) rfl

theorem State.nextTask_touch : ∀ s, (State.nextTask s).onlyChanges s [.interrupts, .clock, .tallies, .daybook, .outputs, .flash, .store, .triad, .twin, .seeds] := by
  intro s
  unfold State.nextTask
  conv => zeta
  with_reducible refine only_foldl _ _ (fun _ _ => ?_) _ _ _ ?_
  with_reducible refine only_ite ?_ ?_
  with_reducible exact only_refl _ _
  with_reducible refine only_ite ?_ ?_
  with_reducible refine only_step ?_ (State.overrun_touch _ _)
  with_reducible refine only_set_triad _ ?_ ?_
  with_reducible exact only_refl _ _
  exact (rfl : _ = true)
  with_reducible refine only_ite ?_ ?_
  with_reducible refine only_step ?_ (State.begin_touch _ _)
  with_reducible refine only_set_triad _ ?_ ?_
  with_reducible exact only_refl _ _
  exact (rfl : _ = true)
  with_reducible refine only_step ?_ (State.count_touch _ _)
  with_reducible refine only_step ?_ (State.holdSnaps_touch _ _)
  with_reducible refine only_set_triad _ ?_ ?_
  with_reducible exact only_refl _ _
  exact (rfl : _ = true)
  with_reducible exact only_refl _ _

theorem State.stopLone_touch : ∀ s, (State.stopLone s).onlyChanges s [.triad] := by
  intro s
  unfold State.stopLone
  conv => zeta
  with_reducible refine only_ite ?_ ?_
  with_reducible refine only_step ?_ (State.stopTask_touch _)
  with_reducible exact only_refl _ _
  with_reducible exact only_refl _ _

theorem State.triadLoss_touch : ∀ s x1, (State.triadLoss s x1).onlyChanges s [.interrupts, .clock, .tallies, .daybook, .outputs, .flash, .store, .triad, .twin, .seeds] := by
  intro s x1
  unfold State.triadLoss
  conv => zeta
  with_reducible refine only_step ?_ (State.nextTask_touch _)
  with_reducible refine only_step ?_ (State.triUpdate_touch _ _)
  with_reducible refine only_step ?_ (State.fillSlots_touch _)
  with_reducible refine only_step ?_ (State.stopLone_touch _)
  with_reducible refine only_foldl _ _ (fun _ _ => ?_) _ _ _ ?_
  with_reducible refine only_step ?_ (State.setCore_touch _ _ _)
  with_reducible exact only_refl _ _
  with_reducible refine only_foldl _ _ (fun _ _ => ?_) _ _ _ ?_
  with_reducible refine only_step ?_ (State.coreOut_touch _ _)
  with_reducible exact only_refl _ _
  with_reducible exact only_refl _ _

theorem State.setAxle_touch : ∀ s x1, (State.setAxle s x1).onlyChanges s [.pace] := by
  intro s x1
  unfold State.setAxle
  conv => zeta
  with_reducible refine only_set_pace _ ?_ ?_
  with_reducible exact only_refl _ _
  exact (rfl : _ = true)

theorem State.axleExclude_touch : ∀ s x1 x2 x3, (State.axleExclude s x1 x2 x3).onlyChanges s [.interrupts, .tallies, .daybook, .outputs, .flash, .pace] := by
  intro s x1 x2 x3
  unfold State.axleExclude
  conv => zeta
  with_reducible refine only_ite ?_ ?_
  with_reducible refine only_ite ?_ ?_
  with_reducible refine only_step ?_ (State.coast_touch _ _ _)
  with_reducible refine only_set_pace _ ?_ ?_
  with_reducible refine only_step ?_ (State.note_touch _ _ _)
  with_reducible refine only_step ?_ (State.count_touch _ _)
  with_reducible refine only_step ?_ (State.setAxle_touch _ _)
  with_reducible exact only_refl _ _
  exact (rfl : _ = true)
  with_reducible refine only_step ?_ (State.note_touch _ _ _)
  with_reducible refine only_step ?_ (State.count_touch _ _)
  with_reducible refine only_step ?_ (State.setAxle_touch _ _)
  with_reducible exact only_refl _ _
  with_reducible refine only_ite ?_ ?_
  with_reducible refine only_step ?_ (State.rebase_touch _ _ _)
  with_reducible refine only_step ?_ (State.note_touch _ _ _)
  with_reducible refine only_step ?_ (State.count_touch _ _)
  with_reducible refine only_step ?_ (State.setAxle_touch _ _)
  with_reducible exact only_refl _ _
  with_reducible refine only_step ?_ (State.note_touch _ _ _)
  with_reducible refine only_step ?_ (State.count_touch _ _)
  with_reducible refine only_step ?_ (State.setAxle_touch _ _)
  with_reducible exact only_refl _ _

theorem State.axleLoss_touch : ∀ s x1, (State.axleLoss s x1).onlyChanges s [.interrupts, .tallies, .daybook, .outputs, .flash, .pace] := by
  intro s x1
  unfold State.axleLoss
  conv => zeta
  with_reducible refine only_foldl _ _ (fun _ _ => ?_) _ _ _ ?_
  with_reducible refine only_step ?_ (State.axleExclude_touch _ _ _ _)
  with_reducible exact only_refl _ _
  with_reducible exact only_refl _ _

theorem State.lineLost_touch : ∀ s x1, (State.lineLost s x1).onlyChanges s [.interrupts, .tallies, .daybook, .outputs, .flash, .pace] := by
  intro s x1
  unfold State.lineLost
  conv => zeta
  with_reducible refine only_ite ?_ ?_
  with_reducible exact only_refl _ _
  with_reducible refine only_ite ?_ ?_
  with_reducible refine only_step ?_ (State.coast_touch _ _ _)
  with_reducible refine only_set_pace _ ?_ ?_
  with_reducible exact only_refl _ _
  exact (rfl : _ = true)
  with_reducible refine only_ite ?_ ?_
  with_reducible refine only_step ?_ (State.coast_touch _ _ _)
  with_reducible exact only_refl _ _
  with_reducible exact only_refl _ _

theorem State.trackerLoss_touch : ∀ s x1 x2, (State.trackerLoss s x1 x2).onlyChanges s [.interrupts, .tallies, .daybook, .outputs, .flash, .trackers, .pace] := by
  intro s x1 x2
  unfold State.trackerLoss
  conv => zeta
  split
  with_reducible exact only_refl _ _
  split
  with_reducible refine only_ite ?_ ?_
  with_reducible exact only_refl _ _
  with_reducible refine only_ite ?_ ?_
  with_reducible refine only_step ?_ (State.lineLost_touch _ _)
  with_reducible refine only_step ?_ (State.paceSource_touch _ _ _ _)
  with_reducible exact only_refl _ _
  with_reducible refine only_step ?_ (State.paceSource_touch _ _ _ _)
  with_reducible exact only_refl _ _
  with_reducible exact only_refl _ _

theorem State.measRestartIf_touch : ∀ s x1 x2, (State.measRestartIf s x1 x2).onlyChanges s [.measure] := by
  intro s x1 x2
  unfold State.measRestartIf
  conv => zeta
  with_reducible refine only_foldl _ _ (fun _ _ => ?_) _ _ _ ?_
  split
  with_reducible refine only_ite ?_ ?_
  with_reducible refine only_step ?_ (State.setTach_touch _ _ _)
  with_reducible exact only_refl _ _
  with_reducible exact only_refl _ _
  with_reducible exact only_refl _ _
  with_reducible refine only_foldl _ _ (fun _ _ => ?_) _ _ _ ?_
  split
  with_reducible refine only_ite ?_ ?_
  with_reducible refine only_step ?_ (State.setPair_touch _ _ _)
  with_reducible exact only_refl _ _
  with_reducible exact only_refl _ _
  with_reducible exact only_refl _ _
  with_reducible refine only_foldl _ _ (fun _ _ => ?_) _ _ _ ?_
  split
  with_reducible refine only_ite ?_ ?_
  with_reducible refine only_step ?_ (State.setChan_touch _ _ _)
  with_reducible exact only_refl _ _
  with_reducible exact only_refl _ _
  with_reducible exact only_refl _ _
  with_reducible exact only_refl _ _

theorem State.inputsGone_touch : ∀ s x1 x2, (State.inputsGone s x1 x2).onlyChanges s [.interrupts, .tallies, .daybook, .outputs, .flash, .trackers, .pace, .measure] := by
  intro s x1 x2
  unfold State.inputsGone
  conv => zeta
  with_reducible refine only_step ?_ (State.axleLoss_touch _ _)
  with_reducible refine only_step ?_ (State.trackerLoss_touch _ _ _)
  with_reducible refine only_step ?_ (State.trackerLoss_touch _ _ _)
  with_reducible refine only_step ?_ (State.measRestartIf_touch _ _ _)
  with_reducible exact only_refl _ _

theorem State.isolate_touch : ∀ s x1 x2, (State.isolate s x1 x2).onlyChanges s [.mailbox, .interrupts, .clock, .tallies, .daybook, .outputs, .flash, .feeds, .lehr, .parison, .trackers, .pace, .gaffer, .ports, .fabric, .store, .inaug, .time, .can, .sleep, .measure, .triad, .twin, .vault, .seeds] := by
  intro s d rail
  unfold State.isolate
  extract_lets gone held mask u0 f u1 u2 u3 u4 y u5 u6 u7 far u8
  have h0 : u0.onlyChanges s [.mailbox, .interrupts, .clock, .tallies, .daybook, .outputs, .flash, .feeds, .lehr, .parison, .trackers, .pace, .gaffer, .ports, .fabric, .store, .inaug, .time, .can, .sleep, .measure, .triad, .twin, .vault, .seeds] := only_sub (State.gafferGone_touch s d) rfl
  clear_value u0
  have h1 : u1.onlyChanges s [.mailbox, .interrupts, .clock, .tallies, .daybook, .outputs, .flash, .feeds, .lehr, .parison, .trackers, .pace, .gaffer, .ports, .fabric, .store, .inaug, .time, .can, .sleep, .measure, .triad, .twin, .vault, .seeds] := only_step h0 (State.setFeed_touch ..) rfl
  clear_value u1
  have h2 : u2.onlyChanges s [.mailbox, .interrupts, .clock, .tallies, .daybook, .outputs, .flash, .feeds, .lehr, .parison, .trackers, .pace, .gaffer, .ports, .fabric, .store, .inaug, .time, .can, .sleep, .measure, .triad, .twin, .vault, .seeds] :=
    only_foldl _ _ (fun a b => only_sub (State.portGone_touch a b) rfl) _ _ _ h1
  clear_value u2
  have h3 : u3.onlyChanges s [.mailbox, .interrupts, .clock, .tallies, .daybook, .outputs, .flash, .feeds, .lehr, .parison, .trackers, .pace, .gaffer, .ports, .fabric, .store, .inaug, .time, .can, .sleep, .measure, .triad, .twin, .vault, .seeds] := only_step (only_step (only_step h2
      (State.insertion_touch _) rfl) (State.mdioGone_touch _ _) rfl) (State.canLoss_touch _ _) rfl
  clear_value u3
  have h4 : u4.onlyChanges s [.mailbox, .interrupts, .clock, .tallies, .daybook, .outputs, .flash, .feeds, .lehr, .parison, .trackers, .pace, .gaffer, .ports, .fabric, .store, .inaug, .time, .can, .sleep, .measure, .triad, .twin, .vault, .seeds] := only_step (only_step h3 (State.inputsGone_touch _ _ _) rfl)
    (State.triadLoss_touch _ _) rfl
  clear_value y u4
  have h5 : u5.onlyChanges s [.mailbox, .interrupts, .clock, .tallies, .daybook, .outputs, .flash, .feeds, .lehr, .parison, .trackers, .pace, .gaffer, .ports, .fabric, .store, .inaug, .time, .can, .sleep, .measure, .triad, .twin, .vault, .seeds] := only_set_lehr _ h4 rfl
  clear_value u5
  have h6 : u6.onlyChanges s [.mailbox, .interrupts, .clock, .tallies, .daybook, .outputs, .flash, .feeds, .lehr, .parison, .trackers, .pace, .gaffer, .ports, .fabric, .store, .inaug, .time, .can, .sleep, .measure, .triad, .twin, .vault, .seeds] := only_step (only_step h5 (State.count_touch _ _) rfl) (State.note_touch _ _ _) rfl
  clear_value u6
  have h7 : u7.onlyChanges s [.mailbox, .interrupts, .clock, .tallies, .daybook, .outputs, .flash, .feeds, .lehr, .parison, .trackers, .pace, .gaffer, .ports, .fabric, .store, .inaug, .time, .can, .sleep, .measure, .triad, .twin, .vault, .seeds] := only_step h6 (State.note_touch _ _ _) rfl
  clear_value u7
  have h8 : u8.onlyChanges s [.mailbox, .interrupts, .clock, .tallies, .daybook, .outputs, .flash, .feeds, .lehr, .parison, .trackers, .pace, .gaffer, .ports, .fabric, .store, .inaug, .time, .can, .sleep, .measure, .triad, .twin, .vault, .seeds] := by
    unfold u8
    split
    · exact only_step h7 (State.selfAbort_touch _ _) rfl
    · exact h7
  exact only_step h8 (State.calm_touch _) rfl

theorem State.feedLost_touch : ∀ s x1 x2, (State.feedLost s x1 x2).onlyChanges s [.mailbox, .interrupts, .clock, .tallies, .daybook, .outputs, .system, .flash, .feeds, .lehr, .parison, .trackers, .pace, .gaffer, .ports, .fabric, .store, .inaug, .time, .can, .sleep, .measure, .triad, .twin, .bridge, .vault, .seeds] := by
  intro s x1 x2
  unfold State.feedLost
  conv => zeta
  with_reducible refine only_ite ?_ ?_
  with_reducible exact only_refl _ _
  with_reducible refine only_ite ?_ ?_
  with_reducible refine only_step ?_ (State.setFeed_touch _ _ _)
  with_reducible exact only_refl _ _
  with_reducible refine only_ite ?_ ?_
  with_reducible refine only_step ?_ (State.bothLost_touch _)
  with_reducible exact only_refl _ _
  split
  with_reducible refine only_step ?_ (State.setFeed_touch _ _ _)
  with_reducible exact only_refl _ _
  with_reducible refine only_step ?_ (State.abandon2_touch _ _)
  with_reducible exact only_refl _ _
  with_reducible refine only_step ?_ (State.isolate_touch _ _ _)
  with_reducible refine only_step ?_ (State.setFeed_touch _ _ _)
  with_reducible exact only_refl _ _

theorem cmdTwinStatus_touch : ∀ b s, (cmdTwinStatus.run b s).st.onlyChanges s [.clock] := by
  intro b s
  unfold cmdTwinStatus
  dsimp only
  with_reducible refine only_step ?_ (ans_touch _ _ _)
  with_reducible refine only_step ?_ (State.fresh_touch _ _)
  with_reducible exact only_refl _ _

theorem State.vaultOp_touch : ∀ s x1 x2, (State.vaultOp s x1 x2).onlyChanges s [.vault] := by
  intro s x1 x2
  unfold State.vaultOp
  conv => zeta
  with_reducible refine only_set_sec _ ?_ ?_
  with_reducible exact only_refl _ _
  exact (rfl : _ = true)

theorem State.keyInit_touch : ∀ s x1, (State.keyInit s x1).onlyChanges s [.outputs, .vault] := by
  intro s x1
  unfold State.keyInit
  conv => zeta
  with_reducible refine only_ite ?_ ?_
  with_reducible exact only_refl _ _
  with_reducible refine only_ite ?_ ?_
  with_reducible refine only_ite ?_ ?_
  with_reducible refine only_step ?_ (State.keySend_touch _ _ _ _ _)
  with_reducible exact only_refl _ _
  with_reducible exact only_refl _ _
  with_reducible refine only_step ?_ (State.vaultOp_touch _ _ _)
  with_reducible refine only_step ?_ (State.setKey_touch _ _ _)
  with_reducible refine only_set_sec _ ?_ ?_
  with_reducible exact only_refl _ _
  exact (rfl : _ = true)

theorem State.overReq_touch : ∀ s, (State.overReq s).onlyChanges s [.interrupts, .tallies, .daybook, .outputs, .flash] := by
  intro s
  unfold State.overReq
  conv => zeta
  with_reducible refine only_step ?_ (State.noteOnce_touch _ _ _ _)
  with_reducible refine only_step ?_ (State.count_touch _ _)
  with_reducible exact only_refl _ _

theorem State.flbAsk_touch : ∀ s, (State.flbAsk s).onlyChanges s [.bridge] := by
  intro s
  unfold State.flbAsk
  conv => zeta
  with_reducible refine only_set_bridge _ ?_ ?_
  with_reducible exact only_refl _ _
  exact (rfl : _ = true)

theorem State.enqueueOut_touch : ∀ s x1 x2 x3, (State.enqueueOut s x1 x2 x3).onlyChanges s [.bridge] := by
  intro s x1 x2 x3
  unfold State.enqueueOut
  conv => zeta
  with_reducible refine only_step ?_ (State.flbAsk_touch _)
  with_reducible refine only_set_bridge _ ?_ ?_
  with_reducible exact only_refl _ _
  exact (rfl : _ = true)

theorem cmdFlbWrite_touch : ∀ b s, (cmdFlbWrite.run b s).st.onlyChanges s [.mailbox, .interrupts, .clock, .tallies, .daybook, .outputs, .flash, .store, .can, .bridge] := by
  intro b s
  unfold cmdFlbWrite
  dsimp only
  with_reducible refine only_ite3 ?_ ?_
  with_reducible refine only_step ?_ (refuse_touch _ _)
  with_reducible exact only_refl _ _
  with_reducible refine only_ite3 ?_ ?_
  split
  with_reducible refine only_step ?_ (refuse_touch _ _)
  with_reducible exact only_refl _ _
  with_reducible refine only_ite3 ?_ ?_
  with_reducible refine only_step ?_ (refuse_touch _ _)
  with_reducible exact only_refl _ _
  with_reducible refine only_ite3 ?_ ?_
  with_reducible refine only_step ?_ (refuse_touch _ _)
  with_reducible exact only_refl _ _
  with_reducible refine only_step ?_ (ans_touch _ _ _)
  with_reducible refine only_foldl _ _ (fun _ _ => ?_) _ _ _ ?_
  with_reducible refine only_step ?_ (State.targetWrite_touch (l := [.mailbox, .interrupts, .clock, .tallies, .daybook, .outputs, .flash, .store, .can, .bridge]) (hl := ?_) (hb := ?_) _ _ _ _ _ _)
  with_reducible exact only_refl _ _
  intro _
  with_reducible refine only_step ?_ (State.overReq_touch _)
  with_reducible exact only_refl _ _
  exact (rfl : _ = true)
  with_reducible exact only_refl _ _
  with_reducible refine only_ite3 ?_ ?_
  with_reducible refine only_step ?_ (refuse_touch _ _)
  with_reducible exact only_refl _ _
  split
  with_reducible refine only_step ?_ (refuse_touch _ _)
  with_reducible exact only_refl _ _
  with_reducible refine only_ite3 ?_ ?_
  with_reducible refine only_step ?_ (refuse_touch _ _)
  with_reducible exact only_refl _ _
  with_reducible refine only_step ?_ (ans_touch _ _ _)
  with_reducible refine only_step ?_ (State.enqueueOut_touch _ _ _ _)
  with_reducible exact only_refl _ _

theorem State.thaw_touch : ∀ s, (State.thaw s).onlyChanges s [.interrupts, .tallies, .daybook, .outputs, .flash, .time] := by
  intro s
  unfold State.thaw
  conv => zeta
  with_reducible refine only_ite ?_ ?_
  with_reducible exact only_refl _ _
  with_reducible refine only_step ?_ (State.note_touch _ _ _)
  with_reducible refine only_step ?_ (State.count_touch _ _)
  with_reducible refine only_ite ?_ ?_
  with_reducible refine only_step ?_ (State.toTime_touch _ _)
  split
  with_reducible refine only_set_time _ ?_ ?_
  with_reducible exact only_refl _ _
  exact (rfl : _ = true)
  with_reducible refine only_set_time _ ?_ ?_
  with_reducible exact only_refl _ _
  exact (rfl : _ = true)
  with_reducible refine only_step ?_ (State.toTime_touch _ _)
  with_reducible refine only_step ?_ (State.setRate_touch _ _ _)
  split
  with_reducible refine only_set_time _ ?_ ?_
  with_reducible exact only_refl _ _
  exact (rfl : _ = true)
  with_reducible refine only_set_time _ ?_ ?_
  with_reducible exact only_refl _ _
  exact (rfl : _ = true)

theorem State.vaultStart_touch : ∀ s, (State.vaultStart s).onlyChanges s [.interrupts, .tallies, .daybook, .outputs, .flash, .vault] := by
  intro s
  unfold State.vaultStart
  conv => zeta
  split
  with_reducible refine only_set_sec _ ?_ ?_
  with_reducible exact only_refl _ _
  exact (rfl : _ = true)
  with_reducible refine only_step ?_ (State.note_touch _ _ _)
  with_reducible refine only_set_sec _ ?_ ?_
  with_reducible exact only_refl _ _
  exact (rfl : _ = true)

theorem State.loaderStart_touch : ∀ s x1, (State.loaderStart s x1).onlyChanges s [.mailbox, .interrupts, .tallies, .daybook, .outputs, .system, .flash] := by
  intro s x1
  unfold State.loaderStart
  conv => zeta
  with_reducible refine only_step ?_ (State.note_touch _ _ _)
  split
  with_reducible refine only_set_sys_hif _ _ ?_ ?_ ?_
  with_reducible exact only_refl _ _
  exact (rfl : _ = true)
  exact ⟨rfl, rfl, rfl⟩
  with_reducible refine only_set_sys_hif _ _ ?_ ?_ ?_
  with_reducible exact only_refl _ _
  exact (rfl : _ = true)
  exact ⟨rfl, rfl, rfl⟩

theorem State.pickImage_touch : ∀ s, (State.pickImage s).onlyChanges s [.mailbox, .interrupts, .tallies, .daybook, .outputs, .system, .flash] := by
  intro s
  unfold State.pickImage
  conv => zeta
  with_reducible refine only_ite ?_ ?_
  with_reducible refine only_set_sys _ ?_ ?_
  with_reducible exact only_refl _ _
  exact (rfl : _ = true)
  with_reducible refine only_ite ?_ ?_
  with_reducible refine only_step ?_ (State.note_touch _ _ _)
  with_reducible refine only_set_sys _ ?_ ?_
  with_reducible exact only_refl _ _
  exact (rfl : _ = true)
  with_reducible refine only_step ?_ (State.loaderStart_touch _ _)
  with_reducible exact only_refl _ _

theorem State.startUp_touch : ∀ s x1, (State.startUp s x1).onlyChanges s [.mailbox, .interrupts, .clock, .tallies, .daybook, .outputs, .system, .flash, .vault] := by
  intro s x1
  unfold State.startUp
  conv => zeta
  with_reducible refine only_ite ?_ ?_
  with_reducible refine only_step ?_ (State.loaderStart_touch _ _)
  with_reducible refine only_ite ?_ ?_
  with_reducible refine only_step ?_ (State.note_touch _ _ _)
  with_reducible refine only_step ?_ (State.vaultStart_touch _)
  split
  with_reducible refine only_set_clk_sys _ _ ?_ ?_ ?_
  with_reducible exact only_refl _ _
  exact (rfl : _ = true)
  exact (rfl : _ = true)
  with_reducible refine only_set_clk_sys _ _ ?_ ?_ ?_
  with_reducible exact only_refl _ _
  exact (rfl : _ = true)
  exact (rfl : _ = true)
  with_reducible refine only_step ?_ (State.vaultStart_touch _)
  split
  with_reducible refine only_set_clk_sys _ _ ?_ ?_ ?_
  with_reducible exact only_refl _ _
  exact (rfl : _ = true)
  exact (rfl : _ = true)
  with_reducible refine only_set_clk_sys _ _ ?_ ?_ ?_
  with_reducible exact only_refl _ _
  exact (rfl : _ = true)
  exact (rfl : _ = true)
  with_reducible refine only_ite ?_ ?_
  with_reducible refine only_step ?_ (State.loaderStart_touch _ _)
  with_reducible refine only_ite ?_ ?_
  with_reducible refine only_step ?_ (State.note_touch _ _ _)
  with_reducible refine only_step ?_ (State.vaultStart_touch _)
  split
  with_reducible refine only_set_clk_sys _ _ ?_ ?_ ?_
  with_reducible exact only_refl _ _
  exact (rfl : _ = true)
  exact (rfl : _ = true)
  with_reducible refine only_set_clk_sys _ _ ?_ ?_ ?_
  with_reducible exact only_refl _ _
  exact (rfl : _ = true)
  exact (rfl : _ = true)
  with_reducible refine only_step ?_ (State.vaultStart_touch _)
  split
  with_reducible refine only_set_clk_sys _ _ ?_ ?_ ?_
  with_reducible exact only_refl _ _
  exact (rfl : _ = true)
  exact (rfl : _ = true)
  with_reducible refine only_set_clk_sys _ _ ?_ ?_ ?_
  with_reducible exact only_refl _ _
  exact (rfl : _ = true)
  exact (rfl : _ = true)
  with_reducible refine only_step ?_ (State.pickImage_touch _)
  with_reducible refine only_ite ?_ ?_
  with_reducible refine only_step ?_ (State.note_touch _ _ _)
  with_reducible refine only_step ?_ (State.vaultStart_touch _)
  split
  with_reducible refine only_set_clk_sys _ _ ?_ ?_ ?_
  with_reducible exact only_refl _ _
  exact (rfl : _ = true)
  exact (rfl : _ = true)
  with_reducible refine only_set_clk_sys _ _ ?_ ?_ ?_
  with_reducible exact only_refl _ _
  exact (rfl : _ = true)
  exact (rfl : _ = true)
  with_reducible refine only_step ?_ (State.vaultStart_touch _)
  split
  with_reducible refine only_set_clk_sys _ _ ?_ ?_ ?_
  with_reducible exact only_refl _ _
  exact (rfl : _ = true)
  exact (rfl : _ = true)
  with_reducible refine only_set_clk_sys _ _ ?_ ?_ ?_
  with_reducible exact only_refl _ _
  exact (rfl : _ = true)
  exact (rfl : _ = true)

theorem State.tryStart_touch : ∀ s x1, (State.tryStart s x1).onlyChanges s [.mailbox, .interrupts, .clock, .tallies, .daybook, .outputs, .system, .flash, .vault] := by
  intro s x1
  unfold State.tryStart
  conv => zeta
  with_reducible refine only_ite ?_ ?_
  with_reducible exact only_refl _ _
  with_reducible refine only_ite ?_ ?_
  with_reducible refine only_set_sys _ ?_ ?_
  with_reducible exact only_refl _ _
  exact (rfl : _ = true)
  with_reducible refine only_step ?_ (State.startUp_touch _ _)
  with_reducible exact only_refl _ _

theorem State.measRestart_touch : ∀ s x1, (State.measRestart s x1).onlyChanges s [.measure] := by
  intro s x1
  unfold State.measRestart
  conv => zeta
  with_reducible refine only_step ?_ (State.measRestartIf_touch _ _ _)
  with_reducible exact only_refl _ _

theorem State.measReturn_touch : ∀ s x1 x2, (State.measReturn s x1 x2).onlyChanges s [.interrupts, .tallies, .daybook, .outputs, .flash, .measure] := by
  intro s x1 x2
  unfold State.measReturn
  conv => zeta
  with_reducible refine only_step ?_ (State.note_touch _ _ _)
  with_reducible refine only_step ?_ (State.count_touch _ _)
  with_reducible refine only_step ?_ (State.measRestart_touch _ _)
  with_reducible exact only_refl _ _

theorem State.canReturnOne_touch : ∀ s x1 x2, (State.canReturnOne s x1 x2).onlyChanges s [.can] := by
  intro s x1 x2
  unfold State.canReturnOne
  conv => zeta
  with_reducible refine only_ite ?_ ?_
  with_reducible refine only_step ?_ (State.setCtl_touch _ _ _)
  with_reducible exact only_refl _ _
  with_reducible refine only_step ?_ (State.setCtl_touch _ _ _)
  with_reducible exact only_refl _ _

theorem State.canReturn_touch : ∀ s x1, (State.canReturn s x1).onlyChanges s [.can, .sleep] := by
  intro s x1
  unfold State.canReturn
  conv => zeta
  split
  with_reducible exact only_refl _ _
  with_reducible refine only_step ?_ (State.fillConsent_touch _)
  with_reducible refine only_foldl _ _ (fun _ _ => ?_) _ _ _ ?_
  with_reducible refine only_ite ?_ ?_
  with_reducible exact only_refl _ _
  with_reducible refine only_step ?_ (State.canReturnOne_touch _ _ _)
  with_reducible exact only_refl _ _
  with_reducible exact only_refl _ _

theorem State.returnStart_touch : ∀ s x1, (State.returnStart s x1).onlyChanges s [.mailbox, .interrupts, .clock, .tallies, .daybook, .outputs, .system, .flash, .feeds, .can, .sleep, .measure, .vault] := by
  intro s x1
  unfold State.returnStart
  conv => zeta
  with_reducible refine only_ite ?_ ?_
  with_reducible exact only_refl _ _
  with_reducible refine only_ite ?_ ?_
  with_reducible refine only_ite ?_ ?_
  with_reducible refine only_step ?_ (State.tryStart_touch _ _)
  with_reducible refine only_step ?_ (State.judgeWake_touch _ _)
  with_reducible refine only_set_sleep _ ?_ ?_
  with_reducible refine only_step ?_ (State.setFeed_touch _ _ _)
  with_reducible exact only_refl _ _
  exact (rfl : _ = true)
  with_reducible refine only_step ?_ (State.setFeed_touch _ _ _)
  with_reducible exact only_refl _ _
  with_reducible refine only_step ?_ (State.measReturn_touch _ _ _)
  with_reducible refine only_step ?_ (State.canReturn_touch _ _)
  with_reducible refine only_step ?_ (State.setFeed_touch _ _ _)
  with_reducible refine only_ite ?_ ?_
  with_reducible exact only_refl _ _
  with_reducible refine only_step ?_ (State.send_touch _ _)
  with_reducible exact only_refl _ _

theorem State.delayed_touch : ∀ s x1 x2, (State.delayed s x1 x2).onlyChanges s [.interrupts, .tallies, .daybook, .outputs, .flash, .time] := by
  intro s x1 x2
  unfold State.delayed
  conv => zeta
  with_reducible refine only_ite ?_ ?_
  with_reducible refine only_step ?_ (State.reroute_touch _ _ _ _)
  with_reducible refine only_step ?_ (State.setTport_touch _ _ _)
  with_reducible exact only_refl _ _
  with_reducible refine only_step ?_ (State.setTport_touch _ _ _)
  with_reducible exact only_refl _ _

theorem State.respIn_touch : ∀ s x1, (State.respIn s x1).onlyChanges s [.interrupts, .tallies, .daybook, .outputs, .flash, .time] := by
  intro s x1
  unfold State.respIn
  conv => zeta
  with_reducible refine only_step ?_ (State.acceptTime_touch (l := [.interrupts, .tallies, .daybook, .outputs, .flash, .time]) (hl := ?_) (hb := ?_) _ _ _)
  with_reducible exact only_refl _ _
  intro _
  split
  with_reducible exact only_refl _ _
  with_reducible refine only_ite ?_ ?_
  with_reducible exact only_refl _ _
  with_reducible refine only_ite ?_ ?_
  with_reducible refine only_step ?_ (State.setTport_touch _ _ _)
  with_reducible exact only_refl _ _
  with_reducible refine only_step ?_ (State.delayed_touch _ _ _)
  with_reducible exact only_refl _ _
  exact (rfl : _ = true)

theorem State.keyResp_touch : ∀ s x1, (State.keyResp s x1).onlyChanges s [.outputs, .vault] := by
  intro s x1
  unfold State.keyResp
  conv => zeta
  with_reducible refine only_ite ?_ ?_
  with_reducible exact only_refl _ _
  with_reducible refine only_ite ?_ ?_
  with_reducible refine only_step ?_ (State.keySend_touch _ _ _ _ _)
  with_reducible exact only_refl _ _
  with_reducible refine only_ite ?_ ?_
  with_reducible exact only_refl _ _
  with_reducible refine only_step ?_ (State.vaultOp_touch _ _ _)
  with_reducible refine only_step ?_ (State.setKey_touch _ _ _)
  with_reducible exact only_refl _ _

theorem State.roleTo_touch : ∀ s x1 x2 x3, (State.roleTo s x1 x2 x3).onlyChanges s [.interrupts, .tallies, .daybook, .outputs, .flash, .twin] := by
  intro s x1 x2 x3
  unfold State.roleTo
  conv => zeta
  with_reducible refine only_ite ?_ ?_
  with_reducible exact only_refl _ _
  with_reducible refine only_step ?_ (State.note_touch _ _ _)
  with_reducible refine only_set_twin _ ?_ ?_
  with_reducible exact only_refl _ _
  exact (rfl : _ = true)

theorem State.prefConflict_touch : ∀ s, (State.prefConflict s).onlyChanges s [.interrupts, .tallies, .daybook, .outputs, .flash] := by
  intro s
  unfold State.prefConflict
  conv => zeta
  with_reducible refine only_step ?_ (State.noteOnce_touch _ _ _ _)
  with_reducible exact only_refl _ _

theorem State.decide3_touch : ∀ s x1 x2, (State.decide3 s x1 x2).onlyChanges s [.interrupts, .tallies, .daybook, .outputs, .flash, .twin] := by
  intro s x1 x2
  unfold State.decide3
  conv => zeta
  with_reducible refine only_ite ?_ ?_
  with_reducible refine only_ite ?_ ?_
  with_reducible refine only_ite ?_ ?_
  with_reducible refine only_set_twin _ ?_ ?_
  with_reducible exact only_refl _ _
  exact (rfl : _ = true)
  with_reducible exact only_refl _ _
  with_reducible refine only_ite ?_ ?_
  with_reducible refine only_ite ?_ ?_
  with_reducible refine only_step ?_ (State.roleTo_touch _ _ _ _)
  with_reducible exact only_refl _ _
  with_reducible exact only_refl _ _
  with_reducible exact only_refl _ _
  with_reducible refine only_ite ?_ ?_
  with_reducible refine only_ite ?_ ?_
  with_reducible refine only_step ?_ (State.roleTo_touch _ _ _ _)
  with_reducible exact only_refl _ _
  with_reducible refine only_ite ?_ ?_
  with_reducible refine only_ite ?_ ?_
  with_reducible refine only_step ?_ (State.note_touch _ _ _)
  with_reducible refine only_step ?_ (State.roleTo_touch _ _ _ _)
  with_reducible exact only_refl _ _
  with_reducible refine only_step ?_ (State.roleTo_touch _ _ _ _)
  with_reducible exact only_refl _ _
  with_reducible exact only_refl _ _
  with_reducible refine only_ite ?_ ?_
  with_reducible refine only_ite ?_ ?_
  split
  split
  with_reducible refine only_set_twin _ ?_ ?_
  with_reducible refine only_step ?_ (State.roleTo_touch _ _ _ _)
  with_reducible refine only_step ?_ (State.prefConflict_touch _)
  with_reducible exact only_refl _ _
  exact (rfl : _ = true)
  with_reducible refine only_set_twin _ ?_ ?_
  with_reducible refine only_step ?_ (State.roleTo_touch _ _ _ _)
  with_reducible exact only_refl _ _
  exact (rfl : _ = true)
  split
  with_reducible refine only_set_twin _ ?_ ?_
  with_reducible refine only_step ?_ (State.roleTo_touch _ _ _ _)
  with_reducible refine only_step ?_ (State.prefConflict_touch _)
  with_reducible exact only_refl _ _
  exact (rfl : _ = true)
  with_reducible refine only_set_twin _ ?_ ?_
  with_reducible refine only_step ?_ (State.roleTo_touch _ _ _ _)
  with_reducible exact only_refl _ _
  exact (rfl : _ = true)
  with_reducible refine only_step ?_ (State.roleTo_touch _ _ _ _)
  with_reducible refine only_ite ?_ ?_
  with_reducible refine only_step ?_ (State.prefConflict_touch _)
  with_reducible exact only_refl _ _
  with_reducible exact only_refl _ _
  with_reducible exact only_refl _ _

theorem State.judge_touch : ∀ s x1, (State.judge s x1).onlyChanges s [.interrupts, .tallies, .daybook, .outputs, .flash, .twin] := by
  intro s x1
  unfold State.judge
  conv => zeta
  with_reducible refine only_ite ?_ ?_
  with_reducible exact only_refl _ _
  split
  with_reducible refine only_step ?_ (State.decide3_touch _ _ _)
  with_reducible refine only_ite ?_ ?_
  with_reducible refine only_step ?_ (State.count_touch _ _)
  split
  with_reducible refine only_set_twin _ ?_ ?_
  with_reducible exact only_refl _ _
  exact (rfl : _ = true)
  with_reducible refine only_set_twin _ ?_ ?_
  with_reducible exact only_refl _ _
  exact (rfl : _ = true)
  split
  with_reducible refine only_set_twin _ ?_ ?_
  with_reducible exact only_refl _ _
  exact (rfl : _ = true)
  with_reducible refine only_set_twin _ ?_ ?_
  with_reducible exact only_refl _ _
  exact (rfl : _ = true)
  with_reducible refine only_ite ?_ ?_
  with_reducible refine only_step ?_ (State.count_touch _ _)
  split
  with_reducible refine only_set_twin _ ?_ ?_
  with_reducible exact only_refl _ _
  exact (rfl : _ = true)
  with_reducible refine only_set_twin _ ?_ ?_
  with_reducible exact only_refl _ _
  exact (rfl : _ = true)
  split
  with_reducible refine only_set_twin _ ?_ ?_
  with_reducible exact only_refl _ _
  exact (rfl : _ = true)
  with_reducible refine only_set_twin _ ?_ ?_
  with_reducible exact only_refl _ _
  exact (rfl : _ = true)

theorem State.setSeed_touch : ∀ s x1 x2, (State.setSeed s x1 x2).onlyChanges s [.seeds] := by
  intro s x1 x2
  unfold State.setSeed
  conv => zeta
  with_reducible refine only_set_seeds _ ?_ ?_
  with_reducible exact only_refl _ _
  exact (rfl : _ = true)

theorem State.simulateWarn_touch : ∀ s x1 x2, (State.simulateWarn s x1 x2).onlyChanges s [.interrupts, .tallies, .daybook, .outputs, .flash, .feeds, .seeds] := by
  intro s x1 x2
  unfold State.simulateWarn
  conv => zeta
  with_reducible refine only_ite ?_ ?_
  with_reducible refine only_step ?_ (State.setFeed_touch _ _ _)
  with_reducible refine only_step ?_ (State.setSeed_touch _ _ _)
  with_reducible refine only_step ?_ (State.seedHit_touch _ _)
  with_reducible exact only_refl _ _
  with_reducible refine only_step ?_ (State.note_touch _ _ _)
  with_reducible refine only_step ?_ (State.count_touch _ _)
  with_reducible refine only_step ?_ (State.setFeed_touch _ _ _)
  with_reducible refine only_step ?_ (State.setSeed_touch _ _ _)
  with_reducible refine only_step ?_ (State.seedHit_touch _ _)
  with_reducible exact only_refl _ _

theorem State.signalIn_touch : ∀ s x1 x2 x3, (State.signalIn s x1 x2 x3).onlyChanges s [.interrupts, .tallies, .daybook, .outputs, .flash, .time] := by
  intro s x1 x2 x3
  unfold State.signalIn
  conv => zeta
  with_reducible refine only_step ?_ (State.acceptTime_touch (l := [.interrupts, .tallies, .daybook, .outputs, .flash, .time]) (hl := ?_) (hb := ?_) _ _ _)
  with_reducible exact only_refl _ _
  intro _
  with_reducible refine only_ite ?_ ?_
  with_reducible exact only_refl _ _
  with_reducible refine only_step ?_ (State.setTport_touch _ _ _)
  with_reducible exact only_refl _ _
  exact (rfl : _ = true)

theorem cmdLedgerRead_touch : ∀ b s, (cmdLedgerRead.run b s).st.onlyChanges s [] := by
  intro b s
  unfold cmdLedgerRead
  dsimp only
  with_reducible refine only_ite3 ?_ ?_
  with_reducible refine only_step ?_ (refuse_touch _ _)
  with_reducible exact only_refl _ _
  with_reducible refine only_ite3 ?_ ?_
  with_reducible refine only_ite3 ?_ ?_
  with_reducible refine only_step ?_ (refuse_touch _ _)
  with_reducible exact only_refl _ _
  with_reducible refine only_step ?_ (ans_touch _ _ _)
  with_reducible exact only_refl _ _
  with_reducible refine only_ite3 ?_ ?_
  with_reducible refine only_step ?_ (refuse_touch _ _)
  with_reducible exact only_refl _ _
  split
  with_reducible refine only_step ?_ (ans_touch _ _ _)
  with_reducible exact only_refl _ _
  with_reducible refine only_step ?_ (ans_touch _ _ _)
  with_reducible exact only_refl _ _
  with_reducible refine only_step ?_ (ans_touch _ _ _)
  with_reducible exact only_refl _ _

theorem State.intoFifo_touch : ∀ s x1 x2 x3 x4 x5, (State.intoFifo s x1 x2 x3 x4 x5).onlyChanges s [.interrupts, .tallies, .daybook, .outputs, .flash, .can] := by
  intro s x1 x2 x3 x4 x5
  unfold State.intoFifo
  conv => zeta
  split
  with_reducible exact only_refl _ _
  with_reducible refine only_ite ?_ ?_
  with_reducible refine only_step ?_ (State.setCtl_touch _ _ _)
  with_reducible exact only_refl _ _
  with_reducible refine only_step ?_ (State.noteOnce_touch _ _ _ _)
  with_reducible refine only_step ?_ (State.count_touch _ _)
  with_reducible refine only_step ?_ (State.setCtl_touch _ _ _)
  with_reducible exact only_refl _ _

theorem State.canReceive_touch : ∀ s x1 x2 x3, (State.canReceive s x1 x2 x3).onlyChanges s [.interrupts, .clock, .tallies, .daybook, .outputs, .flash, .store, .can] := by
  intro s x1 x2 x3
  unfold State.canReceive
  conv => zeta
  split
  with_reducible exact only_refl _ _
  with_reducible refine only_ite ?_ ?_
  with_reducible exact only_refl _ _
  split
  with_reducible refine only_step ?_ (State.count_touch _ _)
  with_reducible refine only_ite ?_ ?_
  with_reducible refine only_step ?_ (State.setErr_touch _ _ _ _)
  with_reducible refine only_ite ?_ ?_
  with_reducible refine only_step ?_ (State.count_touch _ _)
  with_reducible refine only_step ?_ (State.count_touch _ _)
  with_reducible exact only_refl _ _
  with_reducible refine only_step ?_ (State.count_touch _ _)
  with_reducible exact only_refl _ _
  with_reducible refine only_ite ?_ ?_
  with_reducible refine only_step ?_ (State.count_touch _ _)
  with_reducible refine only_step ?_ (State.count_touch _ _)
  with_reducible exact only_refl _ _
  with_reducible refine only_step ?_ (State.count_touch _ _)
  with_reducible exact only_refl _ _
  with_reducible refine only_ite ?_ ?_
  with_reducible refine only_step ?_ (State.intoFifo_touch _ _ _ _ _ _)
  split
  with_reducible refine only_ite ?_ ?_
  with_reducible refine only_step ?_ (State.setErr_touch _ _ _ _)
  with_reducible refine only_ite ?_ ?_
  with_reducible refine only_step ?_ (State.count_touch _ _)
  with_reducible refine only_step ?_ (State.count_touch _ _)
  with_reducible exact only_refl _ _
  with_reducible refine only_step ?_ (State.count_touch _ _)
  with_reducible exact only_refl _ _
  with_reducible refine only_ite ?_ ?_
  with_reducible refine only_step ?_ (State.count_touch _ _)
  with_reducible refine only_step ?_ (State.count_touch _ _)
  with_reducible exact only_refl _ _
  with_reducible refine only_step ?_ (State.count_touch _ _)
  with_reducible exact only_refl _ _
  with_reducible refine only_ite ?_ ?_
  with_reducible refine only_step ?_ (State.count_touch _ _)
  with_reducible refine only_ite ?_ ?_
  with_reducible refine only_step ?_ (State.setErr_touch _ _ _ _)
  with_reducible refine only_ite ?_ ?_
  with_reducible refine only_step ?_ (State.count_touch _ _)
  with_reducible refine only_step ?_ (State.count_touch _ _)
  with_reducible exact only_refl _ _
  with_reducible refine only_step ?_ (State.count_touch _ _)
  with_reducible exact only_refl _ _
  with_reducible refine only_ite ?_ ?_
  with_reducible refine only_step ?_ (State.count_touch _ _)
  with_reducible refine only_step ?_ (State.count_touch _ _)
  with_reducible exact only_refl _ _
  with_reducible refine only_step ?_ (State.count_touch _ _)
  with_reducible exact only_refl _ _
  with_reducible refine only_step ?_ (State.mapCommit_touch _ _ _ _ _ _ _)
  with_reducible refine only_ite ?_ ?_
  with_reducible refine only_step ?_ (State.setErr_touch _ _ _ _)
  with_reducible refine only_ite ?_ ?_
  with_reducible refine only_step ?_ (State.count_touch _ _)
  with_reducible refine only_step ?_ (State.count_touch _ _)
  with_reducible exact only_refl _ _
  with_reducible refine only_step ?_ (State.count_touch _ _)
  with_reducible exact only_refl _ _
  with_reducible refine only_ite ?_ ?_
  with_reducible refine only_step ?_ (State.count_touch _ _)
  with_reducible refine only_step ?_ (State.count_touch _ _)
  with_reducible exact only_refl _ _
  with_reducible refine only_step ?_ (State.count_touch _ _)
  with_reducible exact only_refl _ _
  split
  with_reducible refine only_ite ?_ ?_
  with_reducible refine only_step ?_ (State.setErr_touch _ _ _ _)
  with_reducible refine only_ite ?_ ?_
  with_reducible refine only_step ?_ (State.count_touch _ _)
  with_reducible refine only_step ?_ (State.count_touch _ _)
  with_reducible exact only_refl _ _
  with_reducible refine only_step ?_ (State.count_touch _ _)
  with_reducible exact only_refl _ _
  with_reducible refine only_ite ?_ ?_
  with_reducible refine only_step ?_ (State.count_touch _ _)
  with_reducible refine only_step ?_ (State.count_touch _ _)
  with_reducible exact only_refl _ _
  with_reducible refine only_step ?_ (State.count_touch _ _)
  with_reducible exact only_refl _ _
  with_reducible refine only_ite ?_ ?_
  with_reducible refine only_step ?_ (State.count_touch _ _)
  with_reducible refine only_ite ?_ ?_
  with_reducible refine only_step ?_ (State.setErr_touch _ _ _ _)
  with_reducible refine only_ite ?_ ?_
  with_reducible refine only_step ?_ (State.count_touch _ _)
  with_reducible refine only_step ?_ (State.count_touch _ _)
  with_reducible exact only_refl _ _
  with_reducible refine only_step ?_ (State.count_touch _ _)
  with_reducible exact only_refl _ _
  with_reducible refine only_ite ?_ ?_
  with_reducible refine only_step ?_ (State.count_touch _ _)
  with_reducible refine only_step ?_ (State.count_touch _ _)
  with_reducible exact only_refl _ _
  with_reducible refine only_step ?_ (State.count_touch _ _)
  with_reducible exact only_refl _ _
  with_reducible refine only_step ?_ (State.mapCommit_touch _ _ _ _ _ _ _)
  with_reducible refine only_ite ?_ ?_
  with_reducible refine only_step ?_ (State.setErr_touch _ _ _ _)
  with_reducible refine only_ite ?_ ?_
  with_reducible refine only_step ?_ (State.count_touch _ _)
  with_reducible refine only_step ?_ (State.count_touch _ _)
  with_reducible exact only_refl _ _
  with_reducible refine only_step ?_ (State.count_touch _ _)
  with_reducible exact only_refl _ _
  with_reducible refine only_ite ?_ ?_
  with_reducible refine only_step ?_ (State.count_touch _ _)
  with_reducible refine only_step ?_ (State.count_touch _ _)
  with_reducible exact only_refl _ _
  with_reducible refine only_step ?_ (State.count_touch _ _)
  with_reducible exact only_refl _ _

theorem State.seedOver_touch : ∀ s x1 x2, (State.seedOver s x1 x2).onlyChanges s [.interrupts, .tallies, .daybook, .outputs, .flash, .pace, .gaffer, .seeds] := by
  intro s x1 x2
  unfold State.seedOver
  conv => zeta
  with_reducible refine only_step ?_ (State.note_touch _ _ _)
  with_reducible refine only_step ?_ (State.count_touch _ _)
  split
  with_reducible refine only_set_seeds _ ?_ ?_
  with_reducible refine only_step ?_ (State.paceShift_touch _ _)
  with_reducible exact only_refl _ _
  exact (rfl : _ = true)
  with_reducible refine only_set_seeds _ ?_ ?_
  with_reducible exact only_refl _ _
  exact (rfl : _ = true)

theorem cmdSeedClear_touch : ∀ b s, (cmdSeedClear.run b s).st.onlyChanges s [.interrupts, .tallies, .daybook, .outputs, .flash, .pace, .gaffer, .seeds] := by
  intro b s
  unfold cmdSeedClear
  dsimp only
  with_reducible refine only_step ?_ (ans_touch _ _ _)
  with_reducible refine only_foldl _ _ (fun _ _ => ?_) _ _ _ ?_
  with_reducible refine only_step ?_ (State.seedOver_touch _ _ _)
  with_reducible exact only_refl _ _
  with_reducible exact only_refl _ _

theorem cmdFwSwap_touch : ∀ b s, (cmdFwSwap.run b s).st.onlyChanges s [.mailbox, .interrupts, .tallies, .daybook, .outputs, .system, .flash, .vault] := by
  intro b s
  unfold cmdFwSwap
  dsimp only
  with_reducible refine only_ite3 ?_ ?_
  with_reducible refine only_step ?_ (refuse_touch _ _)
  with_reducible exact only_refl _ _
  with_reducible refine only_ite3 ?_ ?_
  with_reducible refine only_step ?_ (refuse_touch _ _)
  with_reducible refine only_step ?_ (State.count_touch _ _)
  with_reducible exact only_refl _ _
  with_reducible refine only_ite3 ?_ ?_
  with_reducible refine only_step ?_ (refuse_touch _ _)
  with_reducible exact only_refl _ _
  with_reducible refine only_ite3 ?_ ?_
  with_reducible refine only_step ?_ (refuse_touch _ _)
  with_reducible exact only_refl _ _
  with_reducible refine only_ite3 ?_ ?_
  with_reducible refine only_step ?_ (refuse_touch _ _)
  with_reducible exact only_refl _ _
  with_reducible refine only_ite3 ?_ ?_
  with_reducible refine only_step ?_ (ans_touch _ _ _)
  with_reducible refine only_set_sys_hif _ _ ?_ ?_ ?_
  with_reducible refine only_step ?_ (State.recordUpd_touch _ _)
  with_reducible exact only_refl _ _
  exact (rfl : _ = true)
  exact ⟨rfl, rfl, rfl⟩
  with_reducible refine only_step ?_ (ans_touch _ _ _)
  with_reducible refine only_set_sys _ ?_ ?_
  with_reducible refine only_step ?_ (State.recordUpd_touch _ _)
  with_reducible exact only_refl _ _
  exact (rfl : _ = true)

theorem State.saveEnergy_touch : ∀ s, (State.saveEnergy s).onlyChanges s [.tallies, .daybook, .flash, .measure] := by
  intro s
  unfold State.saveEnergy
  conv => zeta
  with_reducible refine only_ite ?_ ?_
  with_reducible refine only_step ?_ (State.deferWrite_touch _ _)
  with_reducible refine only_set_meas _ ?_ ?_
  with_reducible exact only_refl _ _
  exact (rfl : _ = true)
  with_reducible refine only_step ?_ (State.writeEnergy_touch _)
  with_reducible refine only_set_meas _ ?_ ?_
  with_reducible exact only_refl _ _
  exact (rfl : _ = true)

theorem State.arm_touch : ∀ s, (State.arm s).onlyChanges s [.tallies, .can, .sleep] := by
  intro s
  unfold State.arm
  conv => zeta
  with_reducible refine only_ite ?_ ?_
  with_reducible refine only_step ?_ (State.wakeReq_touch _ _ _)
  with_reducible refine only_set_sleep _ ?_ ?_
  with_reducible exact only_refl _ _
  exact (rfl : _ = true)
  with_reducible refine only_set_sleep _ ?_ ?_
  with_reducible exact only_refl _ _
  exact (rfl : _ = true)

theorem State.soloAgree_touch : ∀ s, (State.soloAgree s).onlyChanges s [.tallies, .can, .sleep] := by
  intro s
  unfold State.soloAgree
  conv => zeta
  with_reducible refine only_step ?_ (State.arm_touch _)
  with_reducible refine only_step ?_ (State.count_touch _ _)
  with_reducible refine only_set_sleep _ ?_ ?_
  with_reducible exact only_refl _ _
  exact (rfl : _ = true)

theorem State.tryAgree_touch : ∀ s, (State.tryAgree s).onlyChanges s [.interrupts, .tallies, .daybook, .outputs, .flash, .can, .sleep] := by
  intro s
  unfold State.tryAgree
  conv => zeta
  with_reducible refine only_ite ?_ ?_
  with_reducible exact only_refl _ _
  with_reducible refine only_step ?_ (State.arm_touch _)
  with_reducible refine only_step ?_ (State.fillConsent_touch _)
  with_reducible refine only_step ?_ (State.note_touch _ _ _)
  with_reducible refine only_step ?_ (State.count_touch _ _)
  with_reducible refine only_set_sleep _ ?_ ?_
  with_reducible exact only_refl _ _
  exact (rfl : _ = true)

theorem State.voteReady_touch : ∀ s, (State.voteReady s).onlyChanges s [.interrupts, .tallies, .daybook, .outputs, .flash, .can, .sleep] := by
  intro s
  unfold State.voteReady
  conv => zeta
  with_reducible refine only_ite ?_ ?_
  with_reducible exact only_refl _ _
  with_reducible refine only_ite ?_ ?_
  with_reducible refine only_step ?_ (State.soloAgree_touch _)
  with_reducible refine only_step ?_ (State.fillConsent_touch _)
  split
  with_reducible refine only_set_sleep _ ?_ ?_
  with_reducible exact only_refl _ _
  exact (rfl : _ = true)
  with_reducible refine only_set_sleep _ ?_ ?_
  with_reducible exact only_refl _ _
  exact (rfl : _ = true)
  with_reducible refine only_step ?_ (State.tryAgree_touch _)
  with_reducible refine only_step ?_ (State.fillConsent_touch _)
  split
  with_reducible refine only_set_sleep _ ?_ ?_
  with_reducible exact only_refl _ _
  exact (rfl : _ = true)
  with_reducible refine only_set_sleep _ ?_ ?_
  with_reducible exact only_refl _ _
  exact (rfl : _ = true)

theorem State.voteAwake_touch : ∀ s, (State.voteAwake s).onlyChanges s [.tallies, .can, .sleep] := by
  intro s
  unfold State.voteAwake
  conv => zeta
  with_reducible refine only_ite ?_ ?_
  with_reducible refine only_step ?_ (State.selfAbort_touch _ _)
  with_reducible exact only_refl _ _
  with_reducible refine only_step ?_ (State.fillConsent_touch _)
  with_reducible refine only_set_sleep _ ?_ ?_
  with_reducible exact only_refl _ _
  exact (rfl : _ = true)

theorem cmdSleep_touch : ∀ b s, (cmdSleep.run b s).st.onlyChanges s [.interrupts, .tallies, .daybook, .outputs, .flash, .can, .sleep] := by
  intro b s
  unfold cmdSleep
  dsimp only
  with_reducible refine only_ite3 ?_ ?_
  with_reducible refine only_step ?_ (refuse_touch _ _)
  with_reducible exact only_refl _ _
  with_reducible refine only_ite3 ?_ ?_
  with_reducible refine only_step ?_ (refuse_touch _ _)
  with_reducible exact only_refl _ _
  with_reducible refine only_ite3 ?_ ?_
  with_reducible refine only_step ?_ (ans_touch _ _ _)
  with_reducible exact only_refl _ _
  with_reducible refine only_ite3 ?_ ?_
  with_reducible refine only_ite3 ?_ ?_
  with_reducible refine only_step ?_ (refuse_touch _ _)
  with_reducible exact only_refl _ _
  with_reducible refine only_ite3 ?_ ?_
  with_reducible refine only_step ?_ (refuse_touch _ _)
  with_reducible exact only_refl _ _
  with_reducible refine only_step ?_ (ans_touch _ _ _)
  with_reducible refine only_step ?_ (State.voteReady_touch _)
  with_reducible exact only_refl _ _
  with_reducible refine only_step ?_ (ans_touch _ _ _)
  with_reducible refine only_step ?_ (State.voteAwake_touch _)
  with_reducible exact only_refl _ _

theorem State.runImage_touch : ∀ s x1, (State.runImage s x1).onlyChanges s [.system] := by
  intro s x1
  unfold State.runImage
  conv => zeta
  with_reducible refine only_set_sys _ ?_ ?_
  with_reducible exact only_refl _ _
  exact (rfl : _ = true)

theorem State.nameSlot_touch : ∀ s, (State.nameSlot s).onlyChanges s [.tallies, .daybook, .flash] := by
  intro s
  unfold State.nameSlot
  conv => zeta
  with_reducible refine only_ite ?_ ?_
  with_reducible exact only_refl _ _
  with_reducible refine only_step ?_ (State.setBoot_touch _ _ _)
  with_reducible exact only_refl _ _

theorem State.swapDone_touch : ∀ s x1, (State.swapDone s x1).onlyChanges s [.mailbox, .interrupts, .tallies, .daybook, .outputs, .system, .flash, .ports, .inaug] := by
  intro s w
  have h0 := only_step (only_step (only_sub (b := [.mailbox, .interrupts, .tallies, .daybook, .outputs, .system, .flash, .ports, .inaug]) (State.runImage_touch s w.slot) rfl)
    (State.serveAgain_touch _) rfl) (State.insertion_touch _) rfl
  simp only [State.swapDone]
  generalize (s.runImage w.slot).serveAgain.insertion = u at h0 ⊢
  exact only_step (only_step (only_step (only_set_sys _ h0 rfl) (State.nameSlot_touch _) rfl)
    (State.count_touch _ _) rfl) (State.note_touch _ _ _) rfl

theorem State.openSoon_touch : ∀ s x1, (State.openSoon s x1).onlyChanges s [.inaug] := by
  intro s x1
  unfold State.openSoon
  conv => zeta
  split
  with_reducible refine only_set_inaug _ ?_ ?_
  with_reducible exact only_refl _ _
  exact (rfl : _ = true)
  with_reducible exact only_refl _ _

theorem State.keyInstall_touch : ∀ s x1, (State.keyInstall s x1).onlyChanges s [.interrupts, .tallies, .daybook, .outputs, .flash, .fabric, .inaug, .vault] := by
  intro s x1
  unfold State.keyInstall
  conv => zeta
  with_reducible refine only_step ?_ (State.note_touch _ _ _)
  with_reducible refine only_step ?_ (State.count_touch _ _)
  with_reducible refine only_ite ?_ ?_
  with_reducible refine only_step ?_ (State.setKey_touch _ _ _)
  with_reducible refine only_step ?_ (State.setSa_touch _ _ _)
  with_reducible exact only_refl _ _
  with_reducible refine only_step ?_ (State.openSoon_touch _ _)
  with_reducible refine only_step ?_ (State.setKey_touch _ _ _)
  with_reducible refine only_step ?_ (State.setSa_touch _ _ _)
  with_reducible exact only_refl _ _

theorem State.keyDone_touch : ∀ s x1, (State.keyDone s x1).onlyChanges s [.interrupts, .tallies, .daybook, .outputs, .flash, .fabric, .inaug, .vault] := by
  intro s x1
  unfold State.keyDone
  conv => zeta
  with_reducible refine only_ite ?_ ?_
  with_reducible exact only_refl _ _
  with_reducible refine only_step ?_ (State.keyInstall_touch _ _)
  with_reducible refine only_step ?_ (State.setKey_touch _ _ _)
  with_reducible exact only_refl _ _

theorem cmdCanRead_touch : ∀ b s, (cmdCanRead.run b s).st.onlyChanges s [.can] := by
  intro b s
  unfold cmdCanRead
  dsimp only
  with_reducible refine only_ite3 ?_ ?_
  with_reducible refine only_step ?_ (refuse_touch _ _)
  with_reducible exact only_refl _ _
  with_reducible refine only_ite3 ?_ ?_
  with_reducible refine only_step ?_ (refuse_touch _ _)
  with_reducible exact only_refl _ _
  split
  with_reducible refine only_step ?_ (refuse_touch _ _)
  with_reducible exact only_refl _ _
  with_reducible refine only_ite3 ?_ ?_
  with_reducible refine only_step ?_ (refuse_touch _ _)
  with_reducible exact only_refl _ _
  with_reducible refine only_step ?_ (ans_touch _ _ _)
  with_reducible refine only_step ?_ (State.setCtl_touch _ _ _)
  with_reducible exact only_refl _ _

theorem State.frameError_touch : ∀ s x1 x2 x3 x4 x5, (State.frameError s x1 x2 x3 x4 x5).onlyChanges s [.mailbox, .interrupts, .tallies, .daybook, .outputs, .flash, .can, .sleep] := by
  intro s x1 x2 x3 x4 x5
  unfold State.frameError
  conv => zeta
  split
  with_reducible exact only_refl _ _
  with_reducible refine only_ite ?_ ?_
  with_reducible exact only_refl _ _
  split
  with_reducible exact only_refl _ _
  with_reducible refine only_ite ?_ ?_
  with_reducible exact only_refl _ _
  with_reducible refine only_ite ?_ ?_
  with_reducible refine only_step ?_ (State.tdcRange_touch _ _ _ _)
  with_reducible exact only_refl _ _
  with_reducible refine only_step ?_ (State.canError_touch _ _ _ _ _)
  with_reducible exact only_refl _ _
  with_reducible refine only_step ?_ (State.canError_touch _ _ _ _ _)
  with_reducible exact only_refl _ _

theorem State.restartLoad_touch : ∀ s, (State.restartLoad s).onlyChanges s
    [.interrupts, .tallies, .daybook, .outputs, .flash, .triad] := by
  intro s
  unfold State.restartLoad
  split
  · next p _ =>
    have h0 := only_step (only_sub (b := [.interrupts, .tallies, .daybook, .outputs, .flash, .triad])
      (State.fillSlots_touch s) rfl) (State.loadAll_touch _ p) rfl
    simp only
    generalize s.fillSlots.loadAll p = u at h0 ⊢
    split
    · exact only_step (only_set_triad _ h0 rfl) (State.triTo_touch _ _ _) rfl
    · exact only_refl _ _
  · exact only_refl _ _

theorem cmdAttest_touch : ∀ b s, (cmdAttest.run b s).st.onlyChanges s [.vault] := by
  intro b s
  unfold cmdAttest
  dsimp only
  with_reducible refine only_ite3 ?_ ?_
  with_reducible refine only_step ?_ (refuse_touch _ _)
  with_reducible exact only_refl _ _
  with_reducible refine only_ite3 ?_ ?_
  with_reducible refine only_step ?_ (refuse_touch _ _)
  with_reducible exact only_refl _ _
  with_reducible refine only_ite3 ?_ ?_
  with_reducible refine only_step ?_ (refuse_touch _ _)
  with_reducible exact only_refl _ _
  with_reducible refine only_ite3 ?_ ?_
  with_reducible refine only_ite3 ?_ ?_
  with_reducible refine only_step ?_ (refuse_touch _ _)
  with_reducible exact only_refl _ _
  with_reducible refine only_step ?_ (ans_touch _ _ _)
  with_reducible exact only_refl _ _
  with_reducible refine only_ite3 ?_ ?_
  with_reducible refine only_step ?_ (refuse_touch _ _)
  with_reducible exact only_refl _ _
  with_reducible refine only_step ?_ (ans_touch _ _ _)
  with_reducible refine only_set_sec _ ?_ ?_
  with_reducible exact only_refl _ _
  exact (rfl : _ = true)

theorem State.hrxDone_touch : ∀ s x1, (State.hrxDone s x1).onlyChanges s [.interrupts, .tallies, .daybook, .outputs, .flash, .ports, .fabric] := by
  intro s x1
  unfold State.hrxDone
  conv => zeta
  split
  split
  with_reducible refine only_step ?_ (State.hrxPump_touch _ _ _ _)
  with_reducible exact only_refl _ _
  with_reducible refine only_ite ?_ ?_
  with_reducible refine only_step ?_ (State.hrxPump_touch _ _ _ _)
  with_reducible exact only_refl _ _
  with_reducible refine only_step ?_ (State.hrxPump_touch _ _ _ _)
  with_reducible refine only_step ?_ (State.ringVector_touch _ _)
  with_reducible refine only_step ?_ (State.freeFrames_touch _)
  with_reducible refine only_step ?_ (State.count_touch _ _)
  with_reducible refine only_step ?_ (State.take_touch _ _)
  with_reducible refine only_step ?_ (State.setHrx_touch _ _ _)
  with_reducible refine only_foldl _ _ (fun _ _ => ?_) _ _ _ ?_
  with_reducible refine only_step ?_ (State.send_touch _ _)
  with_reducible exact only_refl _ _
  with_reducible refine only_step ?_ (State.hrxPump_touch _ _ _ _)
  with_reducible exact only_refl _ _
  with_reducible refine only_step ?_ (State.hrxPump_touch _ _ _ _)
  with_reducible exact only_refl _ _

theorem State.keyPolicy_touch : ∀ s x1, (State.keyPolicy s x1).onlyChanges s [.vault] := by
  intro s x1
  unfold State.keyPolicy
  conv => zeta
  with_reducible refine only_step ?_ (State.setKey_touch _ _ _)
  with_reducible exact only_refl _ _

theorem State.canRejoin_touch : ∀ s, (State.canRejoin s).onlyChanges s [.can] := by
  intro s
  unfold State.canRejoin
  conv => zeta
  with_reducible refine only_foldl _ _ (fun _ _ => ?_) _ _ _ ?_
  split
  with_reducible refine only_ite ?_ ?_
  with_reducible refine only_step ?_ (State.setCtl_touch _ _ _)
  with_reducible exact only_refl _ _
  with_reducible exact only_refl _ _
  with_reducible exact only_refl _ _
  with_reducible exact only_refl _ _

theorem State.goActive_touch : ∀ s x1 x2, (State.goActive s x1 x2).onlyChanges s [.interrupts, .tallies, .daybook, .outputs, .flash, .ports, .fabric, .time, .can, .twin, .vault, .seeds] := by
  intro s x1 x2
  unfold State.goActive
  conv => zeta
  with_reducible refine only_step ?_ (State.mirrorCheck_touch _)
  with_reducible refine only_ite ?_ ?_
  with_reducible refine only_step ?_ (State.egressAll_touch _)
  with_reducible refine only_ite ?_ ?_
  with_reducible refine only_step ?_ (State.holdover_touch _)
  with_reducible refine only_step ?_ (State.canRejoin_touch _)
  with_reducible refine only_set_twin _ ?_ ?_
  with_reducible refine only_step ?_ (State.roleTo_touch _ _ _ _)
  with_reducible exact only_refl _ _
  exact (rfl : _ = true)
  with_reducible refine only_step ?_ (State.canRejoin_touch _)
  with_reducible refine only_set_twin _ ?_ ?_
  with_reducible refine only_step ?_ (State.roleTo_touch _ _ _ _)
  with_reducible exact only_refl _ _
  exact (rfl : _ = true)
  with_reducible refine only_set_twin _ ?_ ?_
  with_reducible refine only_step ?_ (State.roleTo_touch _ _ _ _)
  with_reducible exact only_refl _ _
  exact (rfl : _ = true)

theorem State.bridgeQuiet_touch : ∀ s, (State.bridgeQuiet s).onlyChanges s [.mailbox, .interrupts, .tallies, .daybook, .outputs, .flash, .bridge] := by
  intro s
  unfold State.bridgeQuiet
  conv => zeta
  with_reducible refine only_step ?_ (State.finish_touch _ _ _ _)
  with_reducible refine only_foldl _ _ (fun _ _ => ?_) _ _ _ ?_
  with_reducible refine only_step ?_ (State.dishonour_touch _ _ _ _ _ _ _)
  with_reducible exact only_refl _ _
  with_reducible refine only_set_bridge _ ?_ ?_
  with_reducible exact only_refl _ _
  exact (rfl : _ = true)

theorem State.goQuiet_touch : ∀ s x1 x2, (State.goQuiet s x1 x2).onlyChanges s [.mailbox, .interrupts, .tallies, .daybook, .outputs, .flash, .fabric, .time, .twin, .bridge] := by
  intro s x1 x2
  unfold State.goQuiet
  conv => zeta
  with_reducible refine only_ite ?_ ?_
  with_reducible refine only_set_twin _ ?_ ?_
  with_reducible refine only_step ?_ (State.roleTo_touch _ _ _ _)
  with_reducible exact only_refl _ _
  exact (rfl : _ = true)
  with_reducible refine only_ite ?_ ?_
  with_reducible refine only_step ?_ (State.holdover_touch _)
  with_reducible refine only_foldl _ _ (fun _ _ => ?_) _ _ _ ?_
  with_reducible refine only_ite ?_ ?_
  with_reducible refine only_step ?_ (State.flush_touch _ _)
  with_reducible exact only_refl _ _
  with_reducible exact only_refl _ _
  with_reducible refine only_step ?_ (State.bridgeQuiet_touch _)
  with_reducible refine only_set_twin _ ?_ ?_
  with_reducible refine only_step ?_ (State.roleTo_touch _ _ _ _)
  with_reducible exact only_refl _ _
  exact (rfl : _ = true)
  with_reducible refine only_foldl _ _ (fun _ _ => ?_) _ _ _ ?_
  with_reducible refine only_ite ?_ ?_
  with_reducible refine only_step ?_ (State.flush_touch _ _)
  with_reducible exact only_refl _ _
  with_reducible exact only_refl _ _
  with_reducible refine only_step ?_ (State.bridgeQuiet_touch _)
  with_reducible refine only_set_twin _ ?_ ?_
  with_reducible refine only_step ?_ (State.roleTo_touch _ _ _ _)
  with_reducible exact only_refl _ _
  exact (rfl : _ = true)

theorem State.setTwin_touch : ∀ s x1, (State.setTwin s x1).onlyChanges s [.mailbox, .interrupts, .tallies, .daybook, .outputs, .flash, .ports, .fabric, .time, .can, .twin, .bridge, .vault, .seeds] := by
  intro s x1
  unfold State.setTwin
  conv => zeta
  with_reducible refine only_ite ?_ ?_
  with_reducible refine only_set_twin _ ?_ ?_
  with_reducible exact only_refl _ _
  exact (rfl : _ = true)
  with_reducible refine only_ite ?_ ?_
  with_reducible refine only_step ?_ (State.keyDrop_touch _ _)
  with_reducible refine only_set_twin _ ?_ ?_
  with_reducible refine only_step ?_ (State.roleTo_touch _ _ _ _)
  with_reducible refine only_set_twin _ ?_ ?_
  with_reducible exact only_refl _ _
  exact (rfl : _ = true)
  exact (rfl : _ = true)
  with_reducible refine only_ite ?_ ?_
  with_reducible refine only_step ?_ (State.goActive_touch _ _ _)
  with_reducible refine only_ite ?_ ?_
  with_reducible refine only_step ?_ (State.keyStart_touch _ _)
  with_reducible refine only_step ?_ (State.keyPolicy_touch _ _)
  with_reducible refine only_set_twin _ ?_ ?_
  with_reducible exact only_refl _ _
  exact (rfl : _ = true)
  with_reducible refine only_set_twin _ ?_ ?_
  with_reducible exact only_refl _ _
  exact (rfl : _ = true)
  with_reducible refine only_step ?_ (State.goQuiet_touch _ _ _)
  with_reducible refine only_ite ?_ ?_
  with_reducible refine only_step ?_ (State.keyStart_touch _ _)
  with_reducible refine only_step ?_ (State.keyPolicy_touch _ _)
  with_reducible refine only_set_twin _ ?_ ?_
  with_reducible exact only_refl _ _
  exact (rfl : _ = true)
  with_reducible refine only_set_twin _ ?_ ?_
  with_reducible exact only_refl _ _
  exact (rfl : _ = true)

theorem cmdTwinConfig_touch : ∀ b s, (cmdTwinConfig.run b s).st.onlyChanges s [.mailbox, .interrupts, .tallies, .daybook, .outputs, .flash, .ports, .fabric, .time, .can, .twin, .bridge, .vault, .seeds] := by
  intro b s
  unfold cmdTwinConfig
  dsimp only
  with_reducible refine only_ite3 ?_ ?_
  with_reducible refine only_step ?_ (ans_touch _ _ _)
  with_reducible exact only_refl _ _
  with_reducible refine only_ite3 ?_ ?_
  with_reducible refine only_step ?_ (refuse_touch _ _)
  with_reducible exact only_refl _ _
  with_reducible refine only_ite3 ?_ ?_
  with_reducible refine only_step ?_ (refuse_touch _ _)
  with_reducible exact only_refl _ _
  with_reducible refine only_ite3 ?_ ?_
  with_reducible refine only_step ?_ (refuse_touch _ _)
  with_reducible exact only_refl _ _
  with_reducible refine only_step ?_ (ans_touch _ _ _)
  with_reducible refine only_ite ?_ ?_
  with_reducible refine only_step ?_ (State.persist_touch _ _ _)
  with_reducible refine only_step ?_ (State.setTwin_touch _ _)
  with_reducible exact only_refl _ _
  with_reducible refine only_step ?_ (State.setTwin_touch _ _)
  with_reducible exact only_refl _ _

theorem cmdLehrConfig_touch : ∀ b s, (cmdLehrConfig.run b s).st.onlyChanges s [.tallies, .daybook, .flash, .lehr] := by
  intro b s
  unfold cmdLehrConfig
  dsimp only
  with_reducible refine only_ite3 ?_ ?_
  with_reducible refine only_step ?_ (ans_touch _ _ _)
  with_reducible exact only_refl _ _
  with_reducible refine only_ite3 ?_ ?_
  with_reducible refine only_step ?_ (refuse_touch _ _)
  with_reducible exact only_refl _ _
  with_reducible refine only_ite3 ?_ ?_
  with_reducible refine only_step ?_ (refuse_touch _ _)
  with_reducible exact only_refl _ _
  with_reducible refine only_step ?_ (ans_touch _ _ _)
  with_reducible refine only_ite ?_ ?_
  with_reducible refine only_step ?_ (State.persist_touch _ _ _)
  with_reducible refine only_set_lehr _ ?_ ?_
  with_reducible exact only_refl _ _
  exact (rfl : _ = true)
  with_reducible refine only_set_lehr _ ?_ ?_
  with_reducible exact only_refl _ _
  exact (rfl : _ = true)

theorem State.topoRefused_touch : ∀ s x1 x2, (State.topoRefused s x1 x2).onlyChanges s [.interrupts, .tallies, .daybook, .outputs, .flash, .inaug] := by
  intro s x1 x2
  unfold State.topoRefused
  conv => zeta
  with_reducible refine only_step ?_ (State.note_touch _ _ _)
  with_reducible refine only_step ?_ (State.count_touch _ _)
  with_reducible refine only_set_inaug _ ?_ ?_
  with_reducible exact only_refl _ _
  exact (rfl : _ = true)

theorem State.agree_touch : ∀ s, (State.agree s).onlyChanges s [.inaug] := by
  intro s
  unfold State.agree
  conv => zeta
  split
  with_reducible exact only_refl _ _
  with_reducible refine only_ite ?_ ?_
  with_reducible refine only_set_inaug _ ?_ ?_
  with_reducible exact only_refl _ _
  exact (rfl : _ = true)
  with_reducible exact only_refl _ _

theorem State.settled_touch : ∀ s, (State.settled s).onlyChanges s [.interrupts, .tallies, .daybook, .outputs, .flash, .inaug] := by
  intro s
  unfold State.settled
  conv => zeta
  split
  with_reducible exact only_refl _ _
  with_reducible refine only_ite ?_ ?_
  with_reducible exact only_refl _ _
  split
  with_reducible refine only_step ?_ (State.topoRefused_touch _ _ _)
  with_reducible refine only_set_inaug _ ?_ ?_
  with_reducible exact only_refl _ _
  exact (rfl : _ = true)
  with_reducible refine only_ite ?_ ?_
  with_reducible refine only_step ?_ (State.topoRefused_touch _ _ _)
  with_reducible refine only_set_inaug _ ?_ ?_
  with_reducible exact only_refl _ _
  exact (rfl : _ = true)
  with_reducible refine only_step ?_ (State.agree_touch _)
  with_reducible refine only_set_inaug _ ?_ ?_
  with_reducible refine only_set_inaug _ ?_ ?_
  with_reducible exact only_refl _ _
  exact (rfl : _ = true)
  exact (rfl : _ = true)

theorem State.warnOver_touch : ∀ s x1 x2, (State.warnOver s x1 x2).onlyChanges s [.daybook, .flash, .feeds] := by
  intro s x1 x2
  unfold State.warnOver
  conv => zeta
  with_reducible refine only_step ?_ (State.calm_touch _)
  with_reducible refine only_step ?_ (State.setFeed_touch _ _ _)
  with_reducible exact only_refl _ _

theorem cmdRestep_touch : ∀ b s, (cmdRestep.run b s).st.onlyChanges s [.interrupts, .tallies, .daybook, .outputs, .flash, .time, .vault] := by
  intro b s
  unfold cmdRestep
  dsimp only
  with_reducible refine only_ite3 ?_ ?_
  with_reducible refine only_step ?_ (refuse_touch _ _)
  with_reducible exact only_refl _ _
  with_reducible refine only_ite3 ?_ ?_
  with_reducible refine only_step ?_ (refuse_touch _ _)
  with_reducible refine only_step ?_ (State.takeWarrant_touch _ _ _)
  with_reducible exact only_refl _ _
  with_reducible refine only_ite3 ?_ ?_
  with_reducible refine only_step ?_ (refuse_touch _ _)
  with_reducible refine only_step ?_ (State.takeWarrant_touch _ _ _)
  with_reducible exact only_refl _ _
  with_reducible refine only_ite3 ?_ ?_
  with_reducible refine only_step ?_ (refuse_touch _ _)
  with_reducible refine only_step ?_ (State.takeWarrant_touch _ _ _)
  with_reducible exact only_refl _ _
  split
  with_reducible refine only_step ?_ (refuse_touch _ _)
  with_reducible refine only_step ?_ (State.takeWarrant_touch _ _ _)
  with_reducible exact only_refl _ _
  with_reducible refine only_step ?_ (ans_touch _ _ _)
  split
  with_reducible refine only_set_time _ ?_ ?_
  with_reducible refine only_step ?_ (State.payWarrant_touch _ _ _ (by assumption))
  with_reducible refine only_step ?_ (State.takeWarrant_touch _ _ _)
  with_reducible exact only_refl _ _
  exact (rfl : _ = true)
  with_reducible refine only_set_time _ ?_ ?_
  with_reducible refine only_step ?_ (State.payWarrant_touch _ _ _ (by assumption))
  with_reducible refine only_step ?_ (State.takeWarrant_touch _ _ _)
  with_reducible exact only_refl _ _
  exact (rfl : _ = true)

theorem State.swapBack_touch : ∀ s x1, (State.swapBack s x1).onlyChanges s [.mailbox, .interrupts, .tallies, .daybook, .outputs, .system, .flash, .ports, .inaug] := by
  intro s x1
  unfold State.swapBack
  conv => zeta
  with_reducible refine only_ite ?_ ?_
  with_reducible refine only_step ?_ (State.note_touch _ _ _)
  with_reducible refine only_step ?_ (State.count_touch _ _)
  with_reducible refine only_step ?_ (State.insertion_touch _)
  with_reducible refine only_step ?_ (State.serveAgain_touch _)
  with_reducible refine only_step ?_ (State.runImage_touch _ _)
  with_reducible refine only_set_sys _ ?_ ?_
  with_reducible exact only_refl _ _
  exact (rfl : _ = true)
  with_reducible refine only_step ?_ (State.serveAgain_touch _)
  with_reducible refine only_step ?_ (State.loaderStart_touch _ _)
  with_reducible refine only_set_sys _ ?_ ?_
  with_reducible exact only_refl _ _
  exact (rfl : _ = true)

theorem State.laneTo_touch : ∀ s x1 x2, (State.laneTo s x1 x2).onlyChanges s [.interrupts, .tallies, .daybook, .outputs, .flash, .fabric, .time, .twin, .vault] := by
  intro s x1 x2
  unfold State.laneTo
  conv => zeta
  with_reducible refine only_ite ?_ ?_
  with_reducible exact only_refl _ _
  with_reducible refine only_ite ?_ ?_
  with_reducible refine only_ite ?_ ?_
  with_reducible refine only_step ?_ (State.keyStart_touch _ _) ?_
  with_reducible refine only_step ?_ (State.keyPolicy_touch _ _) ?_
  with_reducible refine only_step ?_ (State.note_touch _ _ _) ?_
  with_reducible refine only_ite ?_ ?_
  split
  with_reducible refine only_set_twin _ ?_ ?_
  with_reducible exact only_refl _ _
  exact (rfl : _ = true)
  with_reducible refine only_set_twin _ ?_ ?_
  with_reducible exact only_refl _ _
  exact (rfl : _ = true)
  with_reducible refine only_step ?_ (State.count_touch _ _) ?_
  split
  with_reducible refine only_set_twin _ ?_ ?_
  with_reducible exact only_refl _ _
  exact (rfl : _ = true)
  with_reducible refine only_set_twin _ ?_ ?_
  with_reducible exact only_refl _ _
  exact (rfl : _ = true)
  exact (rfl : _ = true)
  exact (rfl : _ = true)
  exact (rfl : _ = true)
  exact (rfl : _ = true)
  with_reducible refine only_step ?_ (State.note_touch _ _ _) ?_
  with_reducible refine only_ite ?_ ?_
  split
  with_reducible refine only_set_twin _ ?_ ?_
  with_reducible exact only_refl _ _
  exact (rfl : _ = true)
  with_reducible refine only_set_twin _ ?_ ?_
  with_reducible exact only_refl _ _
  exact (rfl : _ = true)
  with_reducible refine only_step ?_ (State.count_touch _ _) ?_
  split
  with_reducible refine only_set_twin _ ?_ ?_
  with_reducible exact only_refl _ _
  exact (rfl : _ = true)
  with_reducible refine only_set_twin _ ?_ ?_
  with_reducible exact only_refl _ _
  exact (rfl : _ = true)
  exact (rfl : _ = true)
  exact (rfl : _ = true)
  with_reducible refine only_ite ?_ ?_
  with_reducible refine only_ite ?_ ?_
  with_reducible refine only_step ?_ (State.holdover_touch _) ?_
  with_reducible refine only_step ?_ (State.keyDrop_touch _ _) ?_
  with_reducible refine only_step ?_ (State.note_touch _ _ _) ?_
  with_reducible refine only_ite ?_ ?_
  split
  with_reducible refine only_set_twin _ ?_ ?_
  with_reducible exact only_refl _ _
  exact (rfl : _ = true)
  with_reducible refine only_set_twin _ ?_ ?_
  with_reducible exact only_refl _ _
  exact (rfl : _ = true)
  with_reducible refine only_step ?_ (State.count_touch _ _) ?_
  split
  with_reducible refine only_set_twin _ ?_ ?_
  with_reducible exact only_refl _ _
  exact (rfl : _ = true)
  with_reducible refine only_set_twin _ ?_ ?_
  with_reducible exact only_refl _ _
  exact (rfl : _ = true)
  exact (rfl : _ = true)
  exact (rfl : _ = true)
  exact (rfl : _ = true)
  exact (rfl : _ = true)
  with_reducible refine only_step ?_ (State.keyDrop_touch _ _) ?_
  with_reducible refine only_step ?_ (State.note_touch _ _ _) ?_
  with_reducible refine only_ite ?_ ?_
  split
  with_reducible refine only_set_twin _ ?_ ?_
  with_reducible exact only_refl _ _
  exact (rfl : _ = true)
  with_reducible refine only_set_twin _ ?_ ?_
  with_reducible exact only_refl _ _
  exact (rfl : _ = true)
  with_reducible refine only_step ?_ (State.count_touch _ _) ?_
  split
  with_reducible refine only_set_twin _ ?_ ?_
  with_reducible exact only_refl _ _
  exact (rfl : _ = true)
  with_reducible refine only_set_twin _ ?_ ?_
  with_reducible exact only_refl _ _
  exact (rfl : _ = true)
  exact (rfl : _ = true)
  exact (rfl : _ = true)
  exact (rfl : _ = true)
  with_reducible refine only_step ?_ (State.note_touch _ _ _) ?_
  with_reducible refine only_ite ?_ ?_
  split
  with_reducible refine only_set_twin _ ?_ ?_
  with_reducible exact only_refl _ _
  exact (rfl : _ = true)
  with_reducible refine only_set_twin _ ?_ ?_
  with_reducible exact only_refl _ _
  exact (rfl : _ = true)
  with_reducible refine only_step ?_ (State.count_touch _ _) ?_
  split
  with_reducible refine only_set_twin _ ?_ ?_
  with_reducible exact only_refl _ _
  exact (rfl : _ = true)
  with_reducible refine only_set_twin _ ?_ ?_
  with_reducible exact only_refl _ _
  exact (rfl : _ = true)
  exact (rfl : _ = true)
  exact (rfl : _ = true)

theorem State.planSwap_touch : ∀ s x1, (State.planSwap s x1).onlyChanges s [.twin] := by
  intro s x1
  unfold State.planSwap
  conv => zeta
  split
  with_reducible refine only_set_twin _ ?_ ?_
  with_reducible exact only_refl _ _
  exact (rfl : _ = true)
  with_reducible refine only_set_twin _ ?_ ?_
  with_reducible exact only_refl _ _
  exact (rfl : _ = true)

theorem cmdTwinDrill_touch : ∀ b s, (cmdTwinDrill.run b s).st.onlyChanges s [.twin] := by
  intro b s
  unfold cmdTwinDrill
  dsimp only
  with_reducible refine only_ite3 ?_ ?_
  with_reducible refine only_step ?_ (refuse_touch _ _)
  with_reducible exact only_refl _ _
  with_reducible refine only_ite3 ?_ ?_
  with_reducible refine only_step ?_ (refuse_touch _ _)
  with_reducible exact only_refl _ _
  with_reducible refine only_ite3 ?_ ?_
  with_reducible refine only_step ?_ (refuse_touch _ _)
  with_reducible exact only_refl _ _
  with_reducible refine only_step ?_ (ans_touch _ _ _)
  with_reducible refine only_step ?_ (State.planSwap_touch _ _)
  with_reducible exact only_refl _ _

theorem cmdDishonourRead_touch : ∀ b s, (cmdDishonourRead.run b s).st.onlyChanges s [.bridge] := by
  intro b s
  unfold cmdDishonourRead
  dsimp only
  with_reducible refine only_ite3 ?_ ?_
  with_reducible refine only_step ?_ (refuse_touch _ _)
  with_reducible exact only_refl _ _
  with_reducible refine only_step ?_ (ans_touch _ _ _)
  with_reducible refine only_set_bridge _ ?_ ?_
  with_reducible exact only_refl _ _
  exact (rfl : _ = true)

theorem State.counterWarrant_touch : ∀ s x1, (State.counterWarrant s x1).st.onlyChanges s [.interrupts, .tallies, .daybook, .outputs, .flash, .vault] := by
  intro s x1
  unfold State.counterWarrant
  conv => zeta
  with_reducible refine only_ite3 ?_ ?_
  with_reducible refine only_ite3 ?_ ?_
  with_reducible refine only_step ?_ (refuse_touch _ _)
  with_reducible exact only_refl _ _
  with_reducible refine only_step ?_ (ans_touch _ _ _)
  with_reducible refine only_step ?_ (State.saveRecord_touch _)
  split
  split
  split
  with_reducible refine only_set_sec _ ?_ ?_
  with_reducible exact only_refl _ _
  exact (rfl : _ = true)
  with_reducible refine only_set_sec _ ?_ ?_
  with_reducible exact only_refl _ _
  exact (rfl : _ = true)
  split
  with_reducible refine only_set_sec _ ?_ ?_
  with_reducible exact only_refl _ _
  exact (rfl : _ = true)
  with_reducible refine only_set_sec _ ?_ ?_
  with_reducible exact only_refl _ _
  exact (rfl : _ = true)
  split
  split
  with_reducible refine only_set_sec _ ?_ ?_
  with_reducible exact only_refl _ _
  exact (rfl : _ = true)
  with_reducible refine only_set_sec _ ?_ ?_
  with_reducible exact only_refl _ _
  exact (rfl : _ = true)
  split
  with_reducible refine only_set_sec _ ?_ ?_
  with_reducible exact only_refl _ _
  exact (rfl : _ = true)
  with_reducible refine only_set_sec _ ?_ ?_
  with_reducible exact only_refl _ _
  exact (rfl : _ = true)
  with_reducible refine only_step ?_ (ans_touch _ _ _)
  with_reducible refine only_step ?_ (State.recordUpd_touch _ _)
  with_reducible exact only_refl _ _

theorem State.lifeWarrant_touch : ∀ s x1, (State.lifeWarrant s x1).st.onlyChanges s [.interrupts, .tallies, .daybook, .outputs, .flash, .vault] := by
  intro s x1
  unfold State.lifeWarrant
  conv => zeta
  with_reducible refine only_ite3 ?_ ?_
  with_reducible refine only_step ?_ (refuse_touch _ _)
  with_reducible exact only_refl _ _
  with_reducible refine only_step ?_ (ans_touch _ _ _)
  with_reducible refine only_step ?_ (State.note_touch _ _ _)
  with_reducible refine only_step ?_ (State.recordUpd_touch _ _)
  with_reducible exact only_refl _ _

theorem cmdWarrant_touch : ∀ b s, (cmdWarrant.run b s).st.onlyChanges s [.interrupts, .tallies, .daybook, .outputs, .flash, .vault] := by
  intro b s
  unfold cmdWarrant
  dsimp only
  with_reducible refine only_ite3 ?_ ?_
  with_reducible refine only_ite3 ?_ ?_
  with_reducible refine only_step ?_ (refuse_touch _ _)
  with_reducible exact only_refl _ _
  with_reducible refine only_step ?_ (ans_touch _ _ _)
  with_reducible refine only_set_sec _ ?_ ?_
  with_reducible refine only_step ?_ (State.draw_touch _ _)
  with_reducible exact only_refl _ _
  exact (rfl : _ = true)
  with_reducible refine only_ite3 ?_ ?_
  split
  with_reducible refine only_step ?_ (ans_touch _ _ _)
  with_reducible refine only_set_sec _ ?_ ?_
  with_reducible exact only_refl _ _
  exact (rfl : _ = true)
  with_reducible refine only_step ?_ (refuse_touch _ _)
  with_reducible exact only_refl _ _
  with_reducible refine only_ite3 ?_ ?_
  with_reducible refine only_step ?_ (ans_touch _ _ _)
  with_reducible refine only_set_sec _ ?_ ?_
  with_reducible exact only_refl _ _
  exact (rfl : _ = true)
  with_reducible refine only_ite3 ?_ ?_
  with_reducible refine only_step ?_ (refuse_touch _ _)
  with_reducible exact only_refl _ _
  with_reducible refine only_ite3 ?_ ?_
  with_reducible refine only_step ?_ (refuse_touch _ _)
  with_reducible refine only_step ?_ (State.takeWarrant_touch _ _ _)
  with_reducible exact only_refl _ _
  with_reducible refine only_ite3 ?_ ?_
  with_reducible refine only_step ?_ (refuse_touch _ _)
  with_reducible refine only_step ?_ (State.takeWarrant_touch _ _ _)
  with_reducible exact only_refl _ _
  with_reducible refine only_ite3 ?_ ?_
  with_reducible refine only_step ?_ (State.counterWarrant_touch _ _)
  with_reducible refine only_step ?_ (State.takeWarrant_touch _ _ _)
  with_reducible exact only_refl _ _
  with_reducible refine only_step ?_ (State.lifeWarrant_touch _ _)
  with_reducible refine only_step ?_ (State.takeWarrant_touch _ _ _)
  with_reducible exact only_refl _ _

theorem cmdInaugStatus_touch : ∀ b s, (cmdInaugStatus.run b s).st.onlyChanges s [] := by
  intro b s
  unfold cmdInaugStatus
  dsimp only
  with_reducible refine only_step ?_ (ans_touch _ _ _)
  with_reducible exact only_refl _ _

theorem State.keyVerified_touch : ∀ s x1, (State.keyVerified s x1).onlyChanges s [.interrupts, .tallies, .daybook, .outputs, .flash, .vault] := by
  intro s x1
  unfold State.keyVerified
  conv => zeta
  with_reducible refine only_ite ?_ ?_
  with_reducible refine only_step ?_ (State.keyFail_touch _ _ _)
  with_reducible exact only_refl _ _
  with_reducible refine only_ite ?_ ?_
  with_reducible refine only_step ?_ (State.keyFail_touch _ _ _)
  with_reducible exact only_refl _ _
  with_reducible refine only_step ?_ (State.vaultOp_touch _ _ _)
  with_reducible refine only_step ?_ (State.setKey_touch _ _ _)
  with_reducible refine only_step ?_ (State.draw_touch _ _)
  with_reducible refine only_step ?_ (State.draw_touch _ _)
  with_reducible exact only_refl _ _

theorem State.keySigned_touch : ∀ s x1, (State.keySigned s x1).onlyChanges s [.outputs, .vault] := by
  intro s x1
  unfold State.keySigned
  conv => zeta
  with_reducible refine only_step ?_ (State.keyAsk_touch _ _ _ _ _)
  with_reducible refine only_step ?_ (State.setKey_touch _ _ _)
  with_reducible exact only_refl _ _

theorem State.keyRespVerified_touch : ∀ s x1, (State.keyRespVerified s x1).onlyChanges s [.interrupts, .tallies, .daybook, .outputs, .flash, .vault] := by
  intro s x1
  unfold State.keyRespVerified
  conv => zeta
  with_reducible refine only_ite ?_ ?_
  with_reducible refine only_step ?_ (State.keyFail_touch _ _ _)
  with_reducible exact only_refl _ _
  with_reducible refine only_ite ?_ ?_
  with_reducible refine only_step ?_ (State.keyFail_touch _ _ _)
  with_reducible exact only_refl _ _
  with_reducible refine only_step ?_ (State.vaultOp_touch _ _ _)
  with_reducible refine only_step ?_ (State.setKey_touch _ _ _)
  with_reducible exact only_refl _ _

theorem State.keyConfirmed_touch : ∀ s x1, (State.keyConfirmed s x1).onlyChanges s [.interrupts, .tallies, .daybook, .outputs, .flash, .fabric, .inaug, .vault] := by
  intro s x1
  unfold State.keyConfirmed
  conv => zeta
  with_reducible refine only_ite ?_ ?_
  with_reducible refine only_step ?_ (State.keyFail_touch _ _ _)
  with_reducible exact only_refl _ _
  with_reducible refine only_step ?_ (State.keySend_touch _ _ _ _ _)
  with_reducible refine only_step ?_ (State.setKey_touch _ _ _)
  with_reducible refine only_step ?_ (State.keyInstall_touch _ _)
  with_reducible exact only_refl _ _

theorem State.vaultDone_touch : ∀ s x1, (State.vaultDone s x1).onlyChanges s [.interrupts, .tallies, .daybook, .outputs, .flash, .fabric, .inaug, .vault] := by
  intro s x1
  unfold State.vaultDone
  conv => zeta
  split
  with_reducible exact only_refl _ _
  with_reducible refine only_ite ?_ ?_
  with_reducible exact only_refl _ _
  with_reducible refine only_ite ?_ ?_
  split
  with_reducible refine only_step ?_ (State.count_touch _ _)
  with_reducible refine only_set_sec _ ?_ ?_
  with_reducible refine only_set_sec _ ?_ ?_
  with_reducible exact only_refl _ _
  exact (rfl : _ = true)
  exact (rfl : _ = true)
  with_reducible refine only_set_sec _ ?_ ?_
  with_reducible exact only_refl _ _
  exact (rfl : _ = true)
  with_reducible refine only_ite ?_ ?_
  with_reducible refine only_step ?_ (State.keyVerified_touch _ _)
  with_reducible refine only_set_sec _ ?_ ?_
  with_reducible exact only_refl _ _
  exact (rfl : _ = true)
  with_reducible refine only_ite ?_ ?_
  with_reducible refine only_step ?_ (State.keySigned_touch _ _)
  with_reducible refine only_set_sec _ ?_ ?_
  with_reducible exact only_refl _ _
  exact (rfl : _ = true)
  with_reducible refine only_ite ?_ ?_
  with_reducible refine only_step ?_ (State.keyRespVerified_touch _ _)
  with_reducible refine only_set_sec _ ?_ ?_
  with_reducible exact only_refl _ _
  exact (rfl : _ = true)
  with_reducible refine only_ite ?_ ?_
  with_reducible refine only_step ?_ (State.keyAsk_touch _ _ _ _ _)
  with_reducible refine only_set_sec _ ?_ ?_
  with_reducible exact only_refl _ _
  exact (rfl : _ = true)
  with_reducible refine only_ite ?_ ?_
  with_reducible refine only_step ?_ (State.keyConfirmed_touch _ _)
  with_reducible refine only_set_sec _ ?_ ?_
  with_reducible exact only_refl _ _
  exact (rfl : _ = true)
  with_reducible refine only_set_sec _ ?_ ?_
  with_reducible exact only_refl _ _
  exact (rfl : _ = true)

theorem State.receivePd_touch : ∀ s x1, (State.receivePd s x1).onlyChanges s [.interrupts, .clock, .tallies, .daybook, .outputs, .flash, .store] := by
  intro s x1
  unfold State.receivePd
  conv => zeta
  split
  with_reducible refine only_step ?_ (State.count_touch _ _)
  with_reducible exact only_refl _ _
  with_reducible refine only_ite ?_ ?_
  with_reducible refine only_step ?_ (State.count_touch _ _)
  with_reducible exact only_refl _ _
  with_reducible refine only_ite ?_ ?_
  with_reducible refine only_ite ?_ ?_
  with_reducible refine only_step ?_ (State.noteOnce_touch _ _ _ _)
  with_reducible refine only_step ?_ (State.count_touch _ _)
  with_reducible refine only_step ?_ (State.setPort_touch _ _ _)
  with_reducible exact only_refl _ _
  with_reducible refine only_step ?_ (State.count_touch _ _)
  with_reducible refine only_step ?_ (State.setPort_touch _ _ _)
  with_reducible exact only_refl _ _
  with_reducible refine only_step ?_ (State.count_touch _ _)
  with_reducible refine only_step ?_ (State.commitAs_touch _ _ _ _ _ _ _ _ _ _)
  with_reducible refine only_step ?_ (State.setPort_touch _ _ _)
  with_reducible exact only_refl _ _

theorem cmdCanRecover_touch : ∀ b s, (cmdCanRecover.run b s).st.onlyChanges s [.can] := by
  intro b s
  unfold cmdCanRecover
  dsimp only
  with_reducible refine only_ite3 ?_ ?_
  with_reducible refine only_step ?_ (refuse_touch _ _)
  with_reducible exact only_refl _ _
  with_reducible refine only_ite3 ?_ ?_
  with_reducible refine only_step ?_ (refuse_touch _ _)
  with_reducible exact only_refl _ _
  split
  with_reducible refine only_step ?_ (refuse_touch _ _)
  with_reducible exact only_refl _ _
  with_reducible refine only_ite3 ?_ ?_
  with_reducible refine only_step ?_ (refuse_touch _ _)
  with_reducible exact only_refl _ _
  with_reducible refine only_ite3 ?_ ?_
  with_reducible refine only_step ?_ (refuse_touch _ _)
  with_reducible exact only_refl _ _
  with_reducible refine only_step ?_ (ans_touch _ _ _)
  with_reducible refine only_step ?_ (State.setCtl_touch _ _ _)
  with_reducible exact only_refl _ _

theorem State.restoreEnergy_touch : ∀ s, (State.restoreEnergy s).onlyChanges s [.interrupts, .tallies, .daybook, .outputs, .flash, .measure] := by
  intro s
  unfold State.restoreEnergy
  conv => zeta
  with_reducible refine only_ite ?_ ?_
  with_reducible exact only_refl _ _
  with_reducible refine only_step ?_ (State.note_touch _ _ _)
  with_reducible refine only_set_meas _ ?_ ?_
  with_reducible exact only_refl _ _
  exact (rfl : _ = true)

theorem State.applyRecords_touch : ∀ s, (State.applyRecords s).onlyChanges s [.mailbox, .interrupts, .tallies, .daybook, .outputs, .flash, .lehr, .ports, .fabric, .inaug, .time, .can, .sleep, .twin, .bridge, .vault, .seeds] := by
  intro s
  have h0 : ((List.range 24).foldl (fun s p =>
      s.setMac p { s.mac p with conf := s.confOr p (s.mac p).conf }) s : State).onlyChanges s [.mailbox, .interrupts, .tallies, .daybook, .outputs, .flash, .lehr, .ports, .fabric, .inaug, .time, .can, .sleep, .twin, .bridge, .vault, .seeds] :=
    only_foldl _ _ (fun u p => only_sub (State.setMac_touch ..) rfl) _ _ _ (only_refl _ _)
  simp only [State.applyRecords]
  generalize ((List.range 24).foldl (fun s p =>
      s.setMac p { s.mac p with conf := s.confOr p (s.mac p).conf }) s : State) = u at h0 ⊢
  refine only_step ?_ (State.setTwin_touch _ _) rfl
  exact only_set_ports_inaug_time_sleep_lehr_bridge _ _ _ _ _ _ h0 rfl rfl rfl rfl rfl rfl

theorem State.reportWake_touch : ∀ s, (State.reportWake s).onlyChanges s [.interrupts, .tallies, .daybook, .outputs, .flash, .sleep] := by
  intro s
  unfold State.reportWake
  conv => zeta
  split
  split
  with_reducible refine only_set_sleep _ ?_ ?_
  with_reducible refine only_foldl _ _ (fun _ _ => ?_) _ _ _ ?_
  with_reducible refine only_step ?_ (State.note_touch _ _ _)
  with_reducible exact only_refl _ _
  with_reducible refine only_foldl _ _ (fun _ _ => ?_) _ _ _ ?_
  with_reducible refine only_step ?_ (State.note_touch _ _ _)
  with_reducible exact only_refl _ _
  with_reducible exact only_refl _ _
  exact (rfl : _ = true)
  with_reducible refine only_set_sleep _ ?_ ?_
  with_reducible refine only_foldl _ _ (fun _ _ => ?_) _ _ _ ?_
  with_reducible refine only_step ?_ (State.note_touch _ _ _)
  with_reducible exact only_refl _ _
  with_reducible refine only_set_sleep _ ?_ ?_
  with_reducible refine only_foldl _ _ (fun _ _ => ?_) _ _ _ ?_
  with_reducible refine only_step ?_ (State.countN_touch _ _ _)
  with_reducible exact only_refl _ _
  with_reducible refine only_foldl _ _ (fun _ _ => ?_) _ _ _ ?_
  with_reducible refine only_step ?_ (State.note_touch _ _ _)
  with_reducible exact only_refl _ _
  with_reducible exact only_refl _ _
  exact (rfl : _ = true)
  exact (rfl : _ = true)
  split
  split
  split
  with_reducible refine only_set_sleep _ ?_ ?_
  with_reducible refine only_foldl _ _ (fun _ _ => ?_) _ _ _ ?_
  with_reducible refine only_step ?_ (State.note_touch _ _ _)
  with_reducible exact only_refl _ _
  with_reducible refine only_foldl _ _ (fun _ _ => ?_) _ _ _ ?_
  with_reducible refine only_step ?_ (State.note_touch _ _ _)
  with_reducible exact only_refl _ _
  with_reducible refine only_step ?_ (State.note_touch _ _ _)
  with_reducible refine only_step ?_ (State.count_touch _ _)
  with_reducible refine only_step ?_ (State.count_touch _ _)
  with_reducible exact only_refl _ _
  exact (rfl : _ = true)
  with_reducible refine only_set_sleep _ ?_ ?_
  with_reducible refine only_foldl _ _ (fun _ _ => ?_) _ _ _ ?_
  with_reducible refine only_step ?_ (State.note_touch _ _ _)
  with_reducible exact only_refl _ _
  with_reducible refine only_set_sleep _ ?_ ?_
  with_reducible refine only_foldl _ _ (fun _ _ => ?_) _ _ _ ?_
  with_reducible refine only_step ?_ (State.countN_touch _ _ _)
  with_reducible exact only_refl _ _
  with_reducible refine only_foldl _ _ (fun _ _ => ?_) _ _ _ ?_
  with_reducible refine only_step ?_ (State.note_touch _ _ _)
  with_reducible exact only_refl _ _
  with_reducible refine only_step ?_ (State.note_touch _ _ _)
  with_reducible refine only_step ?_ (State.count_touch _ _)
  with_reducible refine only_step ?_ (State.count_touch _ _)
  with_reducible exact only_refl _ _
  exact (rfl : _ = true)
  exact (rfl : _ = true)
  split
  with_reducible refine only_set_sleep _ ?_ ?_
  with_reducible refine only_foldl _ _ (fun _ _ => ?_) _ _ _ ?_
  with_reducible refine only_step ?_ (State.note_touch _ _ _)
  with_reducible exact only_refl _ _
  with_reducible refine only_foldl _ _ (fun _ _ => ?_) _ _ _ ?_
  with_reducible refine only_step ?_ (State.note_touch _ _ _)
  with_reducible exact only_refl _ _
  with_reducible refine only_step ?_ (State.note_touch _ _ _)
  with_reducible refine only_step ?_ (State.count_touch _ _)
  with_reducible exact only_refl _ _
  exact (rfl : _ = true)
  with_reducible refine only_set_sleep _ ?_ ?_
  with_reducible refine only_foldl _ _ (fun _ _ => ?_) _ _ _ ?_
  with_reducible refine only_step ?_ (State.note_touch _ _ _)
  with_reducible exact only_refl _ _
  with_reducible refine only_set_sleep _ ?_ ?_
  with_reducible refine only_foldl _ _ (fun _ _ => ?_) _ _ _ ?_
  with_reducible refine only_step ?_ (State.countN_touch _ _ _)
  with_reducible exact only_refl _ _
  with_reducible refine only_foldl _ _ (fun _ _ => ?_) _ _ _ ?_
  with_reducible refine only_step ?_ (State.note_touch _ _ _)
  with_reducible exact only_refl _ _
  with_reducible refine only_step ?_ (State.note_touch _ _ _)
  with_reducible refine only_step ?_ (State.count_touch _ _)
  with_reducible exact only_refl _ _
  exact (rfl : _ = true)
  exact (rfl : _ = true)
  split
  split
  with_reducible refine only_set_sleep _ ?_ ?_
  with_reducible refine only_foldl _ _ (fun _ _ => ?_) _ _ _ ?_
  with_reducible refine only_step ?_ (State.note_touch _ _ _)
  with_reducible exact only_refl _ _
  with_reducible refine only_foldl _ _ (fun _ _ => ?_) _ _ _ ?_
  with_reducible refine only_step ?_ (State.note_touch _ _ _)
  with_reducible exact only_refl _ _
  with_reducible refine only_step ?_ (State.note_touch _ _ _)
  with_reducible refine only_step ?_ (State.count_touch _ _)
  with_reducible exact only_refl _ _
  exact (rfl : _ = true)
  with_reducible refine only_set_sleep _ ?_ ?_
  with_reducible refine only_foldl _ _ (fun _ _ => ?_) _ _ _ ?_
  with_reducible refine only_step ?_ (State.note_touch _ _ _)
  with_reducible exact only_refl _ _
  with_reducible refine only_set_sleep _ ?_ ?_
  with_reducible refine only_foldl _ _ (fun _ _ => ?_) _ _ _ ?_
  with_reducible refine only_step ?_ (State.countN_touch _ _ _)
  with_reducible exact only_refl _ _
  with_reducible refine only_foldl _ _ (fun _ _ => ?_) _ _ _ ?_
  with_reducible refine only_step ?_ (State.note_touch _ _ _)
  with_reducible exact only_refl _ _
  with_reducible refine only_step ?_ (State.note_touch _ _ _)
  with_reducible refine only_step ?_ (State.count_touch _ _)
  with_reducible exact only_refl _ _
  exact (rfl : _ = true)
  exact (rfl : _ = true)
  split
  with_reducible refine only_set_sleep _ ?_ ?_
  with_reducible refine only_foldl _ _ (fun _ _ => ?_) _ _ _ ?_
  with_reducible refine only_step ?_ (State.note_touch _ _ _)
  with_reducible exact only_refl _ _
  with_reducible refine only_foldl _ _ (fun _ _ => ?_) _ _ _ ?_
  with_reducible refine only_step ?_ (State.note_touch _ _ _)
  with_reducible exact only_refl _ _
  with_reducible refine only_step ?_ (State.note_touch _ _ _)
  with_reducible exact only_refl _ _
  exact (rfl : _ = true)
  with_reducible refine only_set_sleep _ ?_ ?_
  with_reducible refine only_foldl _ _ (fun _ _ => ?_) _ _ _ ?_
  with_reducible refine only_step ?_ (State.note_touch _ _ _)
  with_reducible exact only_refl _ _
  with_reducible refine only_set_sleep _ ?_ ?_
  with_reducible refine only_foldl _ _ (fun _ _ => ?_) _ _ _ ?_
  with_reducible refine only_step ?_ (State.countN_touch _ _ _)
  with_reducible exact only_refl _ _
  with_reducible refine only_foldl _ _ (fun _ _ => ?_) _ _ _ ?_
  with_reducible refine only_step ?_ (State.note_touch _ _ _)
  with_reducible exact only_refl _ _
  with_reducible refine only_step ?_ (State.note_touch _ _ _)
  with_reducible exact only_refl _ _
  exact (rfl : _ = true)
  exact (rfl : _ = true)

theorem State.boot_touch : ∀ s, (State.boot s).onlyChanges s [.mailbox, .interrupts, .tallies, .daybook, .outputs, .system, .flash, .lehr, .ports, .fabric, .inaug, .time, .can, .sleep, .measure, .twin, .bridge, .vault, .seeds] := by
  intro s
  unfold State.boot
  extract_lets u0 y u1 u2 u3 u4 load z
  have h0 : u0.onlyChanges s [.mailbox, .interrupts, .tallies, .daybook, .outputs, .system, .flash, .lehr, .ports, .fabric, .inaug, .time, .can, .sleep, .measure, .twin, .bridge, .vault, .seeds] := only_sub (State.runImage_touch ..) rfl
  clear_value u0
  have h1 : u1.onlyChanges s [.mailbox, .interrupts, .tallies, .daybook, .outputs, .system, .flash, .lehr, .ports, .fabric, .inaug, .time, .can, .sleep, .measure, .twin, .bridge, .vault, .seeds] := only_set_day _ h0 rfl
  clear_value u1
  have h2 : u2.onlyChanges s [.mailbox, .interrupts, .tallies, .daybook, .outputs, .system, .flash, .lehr, .ports, .fabric, .inaug, .time, .can, .sleep, .measure, .twin, .bridge, .vault, .seeds] := only_step (only_step (only_step (only_step h1
    (State.applyRecords_touch _) rfl) (State.restoreEnergy_touch _) rfl) (State.serveAgain_touch _) rfl)
    (State.insertion_touch _) rfl
  clear_value u2
  have h3 : u3.onlyChanges s [.mailbox, .interrupts, .tallies, .daybook, .outputs, .system, .flash, .lehr, .ports, .fabric, .inaug, .time, .can, .sleep, .measure, .twin, .bridge, .vault, .seeds] := only_step h2 (State.note_touch ..) rfl
  clear_value u3
  have h4 : u4.onlyChanges s [.mailbox, .interrupts, .tallies, .daybook, .outputs, .system, .flash, .lehr, .ports, .fabric, .inaug, .time, .can, .sleep, .measure, .twin, .bridge, .vault, .seeds] := only_step (only_step h3 (State.reportWake_touch _) rfl)
    (State.nameSlot_touch _) rfl
  clear_value u4
  exact only_set_sys _ h4 rfl

theorem State.setWake_touch : ∀ s x1, (State.setWake s x1).onlyChanges s [.can, .sleep] := by
  intro s x1
  unfold State.setWake
  conv => zeta
  with_reducible refine only_step ?_ (State.fillConsent_touch _)
  split
  with_reducible refine only_set_sleep _ ?_ ?_
  with_reducible exact only_refl _ _
  exact (rfl : _ = true)
  split
  split
  with_reducible refine only_set_sleep _ ?_ ?_
  with_reducible exact only_refl _ _
  exact (rfl : _ = true)
  with_reducible refine only_set_sleep _ ?_ ?_
  with_reducible exact only_refl _ _
  exact (rfl : _ = true)
  split
  with_reducible refine only_set_sleep _ ?_ ?_
  with_reducible exact only_refl _ _
  exact (rfl : _ = true)
  with_reducible refine only_set_sleep _ ?_ ?_
  with_reducible exact only_refl _ _
  exact (rfl : _ = true)

theorem cmdWakeConfig_touch : ∀ b s, (cmdWakeConfig.run b s).st.onlyChanges s [.tallies, .daybook, .flash, .can, .sleep] := by
  intro b s
  unfold cmdWakeConfig
  dsimp only
  with_reducible refine only_ite3 ?_ ?_
  with_reducible refine only_step ?_ (ans_touch _ _ _)
  with_reducible exact only_refl _ _
  with_reducible refine only_ite3 ?_ ?_
  with_reducible refine only_step ?_ (refuse_touch _ _)
  with_reducible exact only_refl _ _
  with_reducible refine only_ite3 ?_ ?_
  with_reducible refine only_step ?_ (refuse_touch _ _)
  with_reducible exact only_refl _ _
  with_reducible refine only_step ?_ (ans_touch _ _ _)
  with_reducible refine only_ite ?_ ?_
  with_reducible refine only_step ?_ (State.persist_touch _ _ _)
  with_reducible refine only_step ?_ (State.setWake_touch _ _)
  with_reducible exact only_refl _ _
  with_reducible refine only_step ?_ (State.setWake_touch _ _)
  with_reducible exact only_refl _ _

theorem State.dropFrame_touch : ∀ s x1, (State.dropFrame s x1).onlyChanges s [.tallies, .fabric] := by
  intro s x1
  unfold State.dropFrame
  conv => zeta
  with_reducible refine only_step ?_ (State.freeFrames_touch _)
  with_reducible refine only_set_fab _ ?_ ?_
  with_reducible refine only_foldl _ _ (fun _ _ => ?_) _ _ _ ?_
  with_reducible refine only_step ?_ (State.countN_touch _ _ _)
  with_reducible refine only_ite ?_ ?_
  with_reducible refine only_set_fab _ ?_ ?_
  with_reducible exact only_refl _ _
  exact (rfl : _ = true)
  with_reducible exact only_refl _ _
  with_reducible exact only_refl _ _
  exact (rfl : _ = true)

theorem State.packetError_touch : ∀ s, (State.packetError s).onlyChanges s [.clock, .tallies, .fabric] := by
  intro s
  unfold State.packetError
  conv => zeta
  split
  with_reducible refine only_step ?_ (State.dropFrame_touch _ _)
  with_reducible refine only_step ?_ (State.fresh_touch _ _)
  with_reducible exact only_refl _ _
  with_reducible refine only_step ?_ (State.fresh_touch _ _)
  with_reducible exact only_refl _ _

theorem State.uncancel_touch : ∀ s, (State.uncancel s).onlyChanges s [.can] := by
  intro s
  unfold State.uncancel
  conv => zeta
  with_reducible refine only_set_can _ ?_ ?_
  with_reducible exact only_refl _ _
  exact (rfl : _ = true)

theorem State.flbAbandon_touch : ∀ s, (State.flbAbandon s).onlyChanges s [.bridge] := by
  intro s
  unfold State.flbAbandon
  conv => zeta
  split
  with_reducible exact only_refl _ _
  with_reducible refine only_step ?_ (State.flbAsk_touch _)
  split
  with_reducible refine only_set_bridge _ ?_ ?_
  with_reducible exact only_refl _ _
  exact (rfl : _ = true)
  with_reducible refine only_set_bridge _ ?_ ?_
  with_reducible exact only_refl _ _
  exact (rfl : _ = true)

theorem State.tellerFall_touch : ∀ s x1, (State.tellerFall s x1).onlyChanges s [.mailbox, .system, .can, .bridge] := by
  intro s x1
  unfold State.tellerFall
  extract_lets y0
  have h0 : y0.onlyChanges s [.mailbox, .system, .can, .bridge] := by
    first
      | exact only_refl _ _
      | (unfold y0
         conv => zeta
         split
         with_reducible refine only_ite ?_ ?_
         with_reducible refine only_step ?_ (State.uncancel_touch _)
         with_reducible exact only_refl _ _
         with_reducible refine only_ite ?_ ?_
         with_reducible refine only_step ?_ (State.flbAbandon_touch _)
         with_reducible exact only_refl _ _
         with_reducible exact only_refl _ _
         with_reducible exact only_refl _ _)
  clear_value y0
  conv => zeta
  with_reducible refine only_set_sys_hif _ _ ?_ ?_ ?_
  with_reducible exact h0
  exact (rfl : _ = true)
  exact ⟨rfl, rfl, rfl⟩

theorem State.vaultFall_touch : ∀ s, (State.vaultFall s).onlyChanges s [.interrupts, .tallies, .daybook, .outputs, .flash, .vault] := by
  intro s
  unfold State.vaultFall
  conv => zeta
  with_reducible refine only_foldl _ _ (fun _ _ => ?_) _ _ _ ?_
  with_reducible refine only_ite ?_ ?_
  with_reducible refine only_step ?_ (State.keyFail_touch _ _ _)
  with_reducible exact only_refl _ _
  with_reducible exact only_refl _ _
  with_reducible refine only_set_sec _ ?_ ?_
  with_reducible exact only_refl _ _
  exact (rfl : _ = true)

theorem State.canRamError_touch : ∀ s x1 x2, (State.canRamError s x1 x2).onlyChanges s [.can] := by
  intro s x1 x2
  unfold State.canRamError
  conv => zeta
  split
  with_reducible exact only_refl _ _
  with_reducible refine only_ite ?_ ?_
  split
  with_reducible refine only_step ?_ (State.setCtl_touch _ _ _)
  with_reducible exact only_refl _ _
  with_reducible exact only_refl _ _
  with_reducible refine only_ite ?_ ?_
  with_reducible refine only_step ?_ (State.setCtl_touch _ _ _)
  with_reducible exact only_refl _ _
  with_reducible exact only_refl _ _

theorem State.epochDrop_touch : ∀ s x1, (State.epochDrop s x1).onlyChanges s [.tallies, .twin] := by
  intro s x1
  unfold State.epochDrop
  conv => zeta
  with_reducible refine only_step ?_ (State.count_touch _ _)
  with_reducible refine only_set_twin _ ?_ ?_
  with_reducible exact only_refl _ _
  exact (rfl : _ = true)

theorem State.memEffect_touch : ∀ s x1 x2, (State.memEffect s x1 x2).onlyChanges s [.mailbox, .interrupts, .clock, .tallies, .daybook, .outputs, .system, .flash, .lehr, .fabric, .store, .can, .twin, .bridge, .vault] := by
  intro s x1 x2
  unfold State.memEffect
  conv => zeta
  with_reducible refine only_ite ?_ ?_
  with_reducible refine only_step ?_ (State.packetError_touch _)
  with_reducible exact only_refl _ _
  with_reducible refine only_ite ?_ ?_
  with_reducible refine only_ite ?_ ?_
  with_reducible refine only_set_pd _ ?_ ?_
  with_reducible exact only_refl _ _
  exact (rfl : _ = true)
  with_reducible exact only_refl _ _
  with_reducible refine only_ite ?_ ?_
  with_reducible refine only_step ?_ (State.note_touch _ _ _)
  with_reducible refine only_step ?_ (State.count_touch _ _)
  with_reducible refine only_ite ?_ ?_
  with_reducible exact only_refl _ _
  with_reducible refine only_set_fab _ ?_ ?_
  with_reducible exact only_refl _ _
  exact (rfl : _ = true)
  with_reducible refine only_ite ?_ ?_
  with_reducible refine only_set_lehr _ ?_ ?_
  with_reducible exact only_refl _ _
  exact (rfl : _ = true)
  with_reducible refine only_ite ?_ ?_
  with_reducible refine only_ite ?_ ?_
  with_reducible refine only_step ?_ (State.tellerFall_touch _ _)
  with_reducible exact only_refl _ _
  with_reducible exact only_refl _ _
  with_reducible refine only_ite ?_ ?_
  with_reducible refine only_step ?_ (State.vaultFall_touch _)
  with_reducible exact only_refl _ _
  with_reducible refine only_ite ?_ ?_
  with_reducible refine only_step ?_ (State.canRamError_touch _ _ _)
  with_reducible exact only_refl _ _
  with_reducible refine only_ite ?_ ?_
  with_reducible refine only_step ?_ (State.epochDrop_touch _ _)
  split
  with_reducible refine only_set_twin _ ?_ ?_
  with_reducible exact only_refl _ _
  exact (rfl : _ = true)
  with_reducible exact only_refl _ _
  with_reducible exact only_refl _ _

theorem State.memError_touch : ∀ s x1 x2 x3, (State.memError s x1 x2 x3).onlyChanges s [.mailbox, .interrupts, .clock, .tallies, .daybook, .outputs, .system, .flash, .lehr, .fabric, .store, .can, .twin, .bridge, .vault] := by
  intro s x1 x2 x3
  unfold State.memError
  conv => zeta
  with_reducible refine only_ite ?_ ?_
  with_reducible exact only_refl _ _
  with_reducible refine only_step ?_ (State.memEffect_touch _ _ _)
  with_reducible refine only_step ?_ (State.note_touch _ _ _)
  with_reducible refine only_step ?_ (State.count_touch _ _)
  with_reducible exact only_refl _ _

theorem State.htxDone_touch : ∀ s x1 x2 x3 x4, (State.htxDone s x1 x2 x3 x4).onlyChanges s [.interrupts, .tallies, .outputs, .ports] := by
  intro s x1 x2 x3 x4
  unfold State.htxDone
  conv => zeta
  with_reducible refine only_step ?_ (State.ringVector_touch _ _)
  with_reducible refine only_step ?_ (State.count_touch _ _)
  with_reducible refine only_step ?_ (State.setHtx_touch _ _ _)
  with_reducible refine only_step ?_ (State.send_touch _ _)
  with_reducible exact only_refl _ _

theorem State.police_touch : ∀ s x1 x2, (State.police s x1 x2).2.onlyChanges s [.tallies, .fabric] := by
  intro s x1 x2
  unfold State.police
  conv => zeta
  split
  with_reducible exact only_refl _ _
  with_reducible refine only_ite2 ?_ ?_
  with_reducible refine only_step ?_ (State.count_touch _ _)
  with_reducible refine only_set_fab _ ?_ ?_
  with_reducible exact only_refl _ _
  exact (rfl : _ = true)
  with_reducible refine only_ite2 ?_ ?_
  with_reducible refine only_step ?_ (State.count_touch _ _)
  with_reducible refine only_set_fab _ ?_ ?_
  with_reducible exact only_refl _ _
  exact (rfl : _ = true)
  with_reducible refine only_step ?_ (State.count_touch _ _)
  with_reducible refine only_set_fab _ ?_ ?_
  with_reducible exact only_refl _ _
  exact (rfl : _ = true)

theorem State.lowest_touch : ∀ s x1 x2, (State.lowest s x1 x2).onlyChanges s [.tallies] := by
  intro s x1 x2
  unfold State.lowest
  conv => zeta
  with_reducible refine only_set_tly _ ?_ ?_
  with_reducible exact only_refl _ _
  exact (rfl : _ = true)

theorem State.store_touch : ∀ s x1, (State.store s x1).onlyChanges s [.tallies, .fabric] := by
  intro s x1
  unfold State.store
  conv => zeta
  with_reducible refine only_step ?_ (State.lowest_touch _ _ _)
  with_reducible refine only_set_fab _ ?_ ?_
  with_reducible exact only_refl _ _
  exact (rfl : _ = true)

theorem State.peak_touch : ∀ s x1 x2, (State.peak s x1 x2).onlyChanges s [.tallies] := by
  intro s x1 x2
  unfold State.peak
  conv => zeta
  with_reducible refine only_set_tly _ ?_ ?_
  with_reducible exact only_refl _ _
  exact (rfl : _ = true)

theorem State.enqueue_touch : ∀ s x1 x2 x3 x4 x5, (State.enqueue s x1 x2 x3 x4 x5).onlyChanges s [.interrupts, .tallies, .daybook, .outputs, .flash, .fabric] := by
  intro s x1 x2 x3 x4 x5
  unfold State.enqueue
  conv => zeta
  with_reducible refine only_ite ?_ ?_
  with_reducible refine only_ite ?_ ?_
  with_reducible refine only_step ?_ (State.count_touch _ _)
  with_reducible exact only_refl _ _
  with_reducible refine only_ite ?_ ?_
  with_reducible refine only_step ?_ (State.count_touch _ _)
  with_reducible exact only_refl _ _
  with_reducible refine only_ite ?_ ?_
  with_reducible refine only_step ?_ (State.count_touch _ _)
  with_reducible exact only_refl _ _
  with_reducible refine only_step ?_ (State.peak_touch _ _ _)
  with_reducible refine only_set_fab _ ?_ ?_
  with_reducible exact only_refl _ _
  exact (rfl : _ = true)
  with_reducible refine only_ite ?_ ?_
  with_reducible refine only_step ?_ (State.count_touch _ _)
  with_reducible exact only_refl _ _
  with_reducible refine only_ite ?_ ?_
  with_reducible refine only_step ?_ (State.count_touch _ _)
  with_reducible exact only_refl _ _
  with_reducible refine only_ite ?_ ?_
  with_reducible refine only_step ?_ (State.count_touch _ _)
  with_reducible exact only_refl _ _
  with_reducible refine only_ite ?_ ?_
  with_reducible refine only_ite ?_ ?_
  with_reducible refine only_step ?_ (State.breach_touch _ _ _ _)
  with_reducible refine only_step ?_ (State.count_touch _ _)
  with_reducible exact only_refl _ _
  with_reducible refine only_step ?_ (State.count_touch _ _)
  with_reducible exact only_refl _ _
  with_reducible refine only_step ?_ (State.peak_touch _ _ _)
  with_reducible refine only_set_fab _ ?_ ?_
  with_reducible exact only_refl _ _
  exact (rfl : _ = true)

theorem State.deliver_touch : ∀ s x1 x2, (State.deliver s x1 x2).onlyChanges s [.store] := by
  intro s x1 x2
  unfold State.deliver
  conv => zeta
  split
  with_reducible refine only_set_pd _ ?_ ?_
  with_reducible exact only_refl _ _
  exact (rfl : _ = true)
  with_reducible refine only_set_pd _ ?_ ?_
  with_reducible exact only_refl _ _
  exact (rfl : _ = true)

theorem State.toTeller_touch : ∀ s x1, (State.toTeller s x1).onlyChanges s [.tallies, .fabric] := by
  intro s x1
  unfold State.toTeller
  conv => zeta
  with_reducible refine only_ite ?_ ?_
  with_reducible refine only_step ?_ (State.count_touch _ _)
  with_reducible exact only_refl _ _
  with_reducible refine only_set_fab _ ?_ ?_
  with_reducible refine only_step ?_ (State.store_touch _ _)
  with_reducible exact only_refl _ _
  exact (rfl : _ = true)

theorem State.forward_touch : ∀ s x1 x2, (State.forward s x1 x2).onlyChanges s [.interrupts, .tallies, .daybook, .outputs, .flash, .ports, .fabric, .store, .vault, .seeds] := by
  intro s x1 x2
  unfold State.forward
  conv => zeta
  with_reducible refine only_ite ?_ ?_
  with_reducible refine only_step ?_ (State.count_touch _ _)
  with_reducible exact only_refl _ _
  split
  split
  with_reducible refine only_foldl _ _ (fun _ _ => ?_) _ _ _ ?_
  with_reducible refine only_step ?_ (State.egress_touch _ _)
  with_reducible exact only_refl _ _
  with_reducible refine only_step ?_ (State.freeFrames_touch _)
  with_reducible refine only_step ?_ (State.toTeller_touch _ _)
  with_reducible refine only_step ?_ (State.deliver_touch _ _ _)
  with_reducible refine only_foldl _ _ (fun _ _ => ?_) _ _ _ ?_
  with_reducible refine only_step ?_ (State.enqueue_touch _ _ _ _ _ _)
  with_reducible exact only_refl _ _
  with_reducible refine only_step ?_ (State.store_touch _ _)
  with_reducible exact only_refl _ _
  with_reducible refine only_foldl _ _ (fun _ _ => ?_) _ _ _ ?_
  with_reducible refine only_step ?_ (State.egress_touch _ _)
  with_reducible exact only_refl _ _
  with_reducible refine only_step ?_ (State.freeFrames_touch _)
  with_reducible refine only_step ?_ (State.toTeller_touch _ _)
  with_reducible refine only_foldl _ _ (fun _ _ => ?_) _ _ _ ?_
  with_reducible refine only_step ?_ (State.enqueue_touch _ _ _ _ _ _)
  with_reducible exact only_refl _ _
  with_reducible refine only_step ?_ (State.store_touch _ _)
  with_reducible exact only_refl _ _
  split
  with_reducible refine only_foldl _ _ (fun _ _ => ?_) _ _ _ ?_
  with_reducible refine only_step ?_ (State.egress_touch _ _)
  with_reducible exact only_refl _ _
  with_reducible refine only_step ?_ (State.freeFrames_touch _)
  with_reducible refine only_step ?_ (State.deliver_touch _ _ _)
  with_reducible refine only_foldl _ _ (fun _ _ => ?_) _ _ _ ?_
  with_reducible refine only_step ?_ (State.enqueue_touch _ _ _ _ _ _)
  with_reducible exact only_refl _ _
  with_reducible refine only_step ?_ (State.store_touch _ _)
  with_reducible exact only_refl _ _
  with_reducible refine only_foldl _ _ (fun _ _ => ?_) _ _ _ ?_
  with_reducible refine only_step ?_ (State.egress_touch _ _)
  with_reducible exact only_refl _ _
  with_reducible refine only_step ?_ (State.freeFrames_touch _)
  with_reducible refine only_foldl _ _ (fun _ _ => ?_) _ _ _ ?_
  with_reducible refine only_step ?_ (State.enqueue_touch _ _ _ _ _ _)
  with_reducible exact only_refl _ _
  with_reducible refine only_step ?_ (State.store_touch _ _)
  with_reducible exact only_refl _ _

theorem State.viaLedger_touch {l : List Part} (s : State) (h : Heads) (f : Frame) (g : State → State)
    (hl : ∀ x, (g x).onlyChanges x l)
    (hb : partsIn [.interrupts, .tallies, .daybook, .outputs, .flash, .ports, .fabric, .store, .vault, .seeds] l = true) :
    (s.viaLedger h f g).onlyChanges s l := by
  have h1 : partsIn [.tallies] l = true := by simp [partsIn] at hb ⊢; simp [hb]
  have h2 : partsIn [.tallies, .fabric] l = true := by simp [partsIn] at hb ⊢; simp [hb]
  have h3 : partsIn [.interrupts, .tallies, .daybook, .outputs, .flash, .ports, .fabric, .store, .vault, .seeds] l = true := by simp [partsIn] at hb ⊢; simp [hb]
  unfold State.viaLedger
  conv => zeta
  split
  · exact only_trans (only_step (only_refl s l) (State.count_touch ..) h1) (hl _)
  · repeat' first
      | with_reducible exact only_refl _ _
      | exact h1
      | exact h2
      | exact h3
      | with_reducible refine only_step ?_ (State.count_touch _ _) h1
      | with_reducible refine only_step ?_ (State.police_touch _ _ _) h2
      | with_reducible refine only_step ?_ (State.forward_touch _ _ _) h3
      | split

theorem State.htxTake_touch : ∀ s x1 x2, (State.htxTake s x1 x2).onlyChanges s [.interrupts, .tallies, .daybook, .outputs, .flash, .ports, .fabric, .store, .vault, .seeds] := by
  intro s q data
  have pads : ∀ (u : State) (l : List Nat) (d : Nat), u.onlyChanges s [.interrupts, .tallies, .daybook, .outputs, .flash, .ports, .fabric, .store, .vault, .seeds] →
      (l.foldl (fun s p => if bit d p then s.count (tlPort p mTxPad) else s) u).onlyChanges s [.interrupts, .tallies, .daybook, .outputs, .flash, .ports, .fabric, .store, .vault, .seeds] := by
    intro u l d hu
    refine only_foldl _ _ (fun v p => ?_) _ _ _ hu
    split
    · exact only_sub (State.count_touch ..) rfl
    · exact only_refl _ _
  unfold State.htxTake
  extract_lets x pad bytes h m f u0 dests u1
  have h0 : u0.onlyChanges s [.interrupts, .tallies, .daybook, .outputs, .flash, .ports, .fabric, .store, .vault, .seeds] := only_sub (State.htxDone_touch ..) rfl
  clear_value dests u0
  have h1 : u1.onlyChanges s [.interrupts, .tallies, .daybook, .outputs, .flash, .ports, .fabric, .store, .vault, .seeds] := by
    unfold u1
    split
    · exact pads _ _ _ h0
    · exact h0
  clear_value u1
  split
  · exact only_refl _ _
  · extract_lets p e u2
    have h2 : u2.onlyChanges s [.interrupts, .tallies, .daybook, .outputs, .flash, .ports, .fabric, .store, .vault, .seeds] := by
      unfold u2
      split
      · exact only_step h0 (State.count_touch ..) rfl
      · exact h0
    clear_value u2
    split
    · exact only_sub (State.htxDone_touch ..) rfl
    · split
      · exact only_sub (State.htxDone_touch ..) rfl
      · split
        · exact only_sub (State.setHtx_touch ..) rfl
        · split
          · exact only_step h1 (State.viaLedger_touch (l := [.interrupts, .tallies, .daybook, .outputs, .flash, .ports, .fabric, .store, .vault, .seeds]) _ _ _ _ (fun v => only_refl v _) rfl) rfl
          · exact only_step (only_step (only_step (only_step h2 (State.store_touch ..) rfl)
              (State.enqueue_touch ..) rfl) (State.freeFrames_touch ..) rfl) (State.egress_touch ..) rfl

theorem State.feedBytes_touch : ∀ s x1, (State.feedBytes s x1).2.onlyChanges s [.clock, .feeds] := by
  intro s x1
  unfold State.feedBytes
  conv => zeta
  with_reducible refine only_step ?_ (State.setFeed_touch _ _ _)
  with_reducible refine only_step ?_ (State.fresh_touch _ _)
  with_reducible refine only_step ?_ (State.fresh_touch _ _)
  with_reducible refine only_step ?_ (State.fresh_touch _ _)
  with_reducible refine only_step ?_ (State.fresh_touch _ _)
  with_reducible refine only_step ?_ (State.fresh_touch _ _)
  with_reducible refine only_step ?_ (State.fresh_touch _ _)
  with_reducible exact only_refl _ _

theorem cmdFeedStatus_touch : ∀ b s, (cmdFeedStatus.run b s).st.onlyChanges s [.clock, .feeds] := by
  intro b s
  unfold cmdFeedStatus
  dsimp only
  with_reducible refine only_step ?_ (ans_touch _ _ _)
  with_reducible refine only_step ?_ (State.feedBytes_touch _ _)
  with_reducible refine only_step ?_ (State.feedBytes_touch _ _)
  with_reducible exact only_refl _ _

theorem State.edgeTo_touch : ∀ s x1, (State.edgeTo s x1).onlyChanges s [.gaffer] := by
  intro s x1
  unfold State.edgeTo
  conv => zeta
  with_reducible refine only_foldl _ _ (fun _ _ => ?_) _ _ _ ?_
  with_reducible refine only_step ?_ (State.wait_touch _ _ _ _ _)
  with_reducible exact only_refl _ _
  with_reducible exact only_refl _ _

theorem State.axleStep_touch : ∀ s x1, (State.axleStep s x1).onlyChanges s [.interrupts, .tallies, .daybook, .outputs, .flash, .pace, .gaffer] := by
  intro s x1
  unfold State.axleStep
  conv => zeta
  with_reducible refine only_ite ?_ ?_
  with_reducible exact only_refl _ _
  with_reducible refine only_ite ?_ ?_
  with_reducible refine only_set_pace _ ?_ ?_
  with_reducible refine only_step ?_ (State.rebase_touch _ _ _)
  with_reducible refine only_step ?_ (State.edgeTo_touch _ _)
  with_reducible exact only_refl _ _
  exact (rfl : _ = true)
  with_reducible refine only_ite ?_ ?_
  with_reducible refine only_step ?_ (State.axleExclude_touch _ _ _ _)
  with_reducible refine only_step ?_ (State.setAxle_touch _ _)
  with_reducible exact only_refl _ _
  split
  with_reducible refine only_set_pace _ ?_ ?_
  with_reducible refine only_step ?_ (State.rebase_touch _ _ _)
  with_reducible refine only_step ?_ (State.setAxle_touch _ _)
  with_reducible exact only_refl _ _
  exact (rfl : _ = true)
  with_reducible refine only_set_pace _ ?_ ?_
  with_reducible refine only_step ?_ (State.rebase_touch _ _ _)
  with_reducible refine only_step ?_ (State.setAxle_touch _ _)
  with_reducible exact only_refl _ _
  exact (rfl : _ = true)

theorem State.axleEdge_touch : ∀ s x1 x2, (State.axleEdge s x1 x2).onlyChanges s [.interrupts, .tallies, .daybook, .outputs, .flash, .pace, .gaffer] := by
  intro s x1 x2
  unfold State.axleEdge
  conv => zeta
  with_reducible refine only_ite ?_ ?_
  with_reducible exact only_refl _ _
  split
  with_reducible exact only_refl _ _
  with_reducible refine only_ite ?_ ?_
  with_reducible refine only_step ?_ (State.setAxle_touch _ _)
  with_reducible exact only_refl _ _
  split
  with_reducible refine only_step ?_ (State.axleExclude_touch _ _ _ _)
  with_reducible refine only_step ?_ (State.setAxle_touch _ _)
  with_reducible exact only_refl _ _
  with_reducible refine only_step ?_ (State.axleStep_touch _ _)
  with_reducible refine only_step ?_ (State.setAxle_touch _ _)
  with_reducible exact only_refl _ _

theorem State.tachEdge_touch : ∀ s x1 x2 x3, (State.tachEdge s x1 x2 x3).onlyChanges s [.interrupts, .tallies, .daybook, .outputs, .flash, .pace, .gaffer, .measure] := by
  intro s x1 x2 x3
  unfold State.tachEdge
  conv => zeta
  split
  with_reducible exact only_refl _ _
  with_reducible refine only_ite ?_ ?_
  with_reducible exact only_refl _ _
  with_reducible refine only_ite ?_ ?_
  with_reducible refine only_step ?_ (State.axleEdge_touch _ _ _)
  with_reducible refine only_step ?_ (State.count_touch _ _)
  with_reducible refine only_step ?_ (State.setTach_touch _ _ _)
  with_reducible exact only_refl _ _
  with_reducible refine only_step ?_ (State.axleEdge_touch _ _ _)
  split
  split
  split
  split
  with_reducible refine only_set_meas _ ?_ ?_
  with_reducible refine only_step ?_ (State.setTach_touch _ _ _)
  with_reducible exact only_refl _ _
  exact (rfl : _ = true)
  with_reducible refine only_set_meas _ ?_ ?_
  with_reducible refine only_step ?_ (State.setTach_touch _ _ _)
  with_reducible exact only_refl _ _
  exact (rfl : _ = true)
  split
  with_reducible refine only_set_meas _ ?_ ?_
  with_reducible refine only_step ?_ (State.setTach_touch _ _ _)
  with_reducible exact only_refl _ _
  exact (rfl : _ = true)
  with_reducible refine only_set_meas _ ?_ ?_
  with_reducible refine only_step ?_ (State.setTach_touch _ _ _)
  with_reducible exact only_refl _ _
  exact (rfl : _ = true)
  split
  split
  with_reducible refine only_set_meas _ ?_ ?_
  with_reducible refine only_step ?_ (State.setTach_touch _ _ _)
  with_reducible exact only_refl _ _
  exact (rfl : _ = true)
  with_reducible refine only_set_meas _ ?_ ?_
  with_reducible refine only_step ?_ (State.setTach_touch _ _ _)
  with_reducible exact only_refl _ _
  exact (rfl : _ = true)
  split
  with_reducible refine only_set_meas _ ?_ ?_
  with_reducible refine only_step ?_ (State.setTach_touch _ _ _)
  with_reducible exact only_refl _ _
  exact (rfl : _ = true)
  with_reducible refine only_set_meas _ ?_ ?_
  with_reducible refine only_step ?_ (State.setTach_touch _ _ _)
  with_reducible exact only_refl _ _
  exact (rfl : _ = true)
  split
  split
  split
  with_reducible refine only_set_meas _ ?_ ?_
  with_reducible refine only_step ?_ (State.setTach_touch _ _ _)
  with_reducible exact only_refl _ _
  exact (rfl : _ = true)
  with_reducible refine only_set_meas _ ?_ ?_
  with_reducible refine only_step ?_ (State.setTach_touch _ _ _)
  with_reducible exact only_refl _ _
  exact (rfl : _ = true)
  split
  with_reducible refine only_set_meas _ ?_ ?_
  with_reducible refine only_step ?_ (State.setTach_touch _ _ _)
  with_reducible exact only_refl _ _
  exact (rfl : _ = true)
  with_reducible refine only_set_meas _ ?_ ?_
  with_reducible refine only_step ?_ (State.setTach_touch _ _ _)
  with_reducible exact only_refl _ _
  exact (rfl : _ = true)
  split
  split
  with_reducible refine only_set_meas _ ?_ ?_
  with_reducible refine only_step ?_ (State.setTach_touch _ _ _)
  with_reducible exact only_refl _ _
  exact (rfl : _ = true)
  with_reducible refine only_set_meas _ ?_ ?_
  with_reducible refine only_step ?_ (State.setTach_touch _ _ _)
  with_reducible exact only_refl _ _
  exact (rfl : _ = true)
  split
  with_reducible refine only_set_meas _ ?_ ?_
  with_reducible refine only_step ?_ (State.setTach_touch _ _ _)
  with_reducible exact only_refl _ _
  exact (rfl : _ = true)
  with_reducible refine only_set_meas _ ?_ ?_
  with_reducible refine only_step ?_ (State.setTach_touch _ _ _)
  with_reducible exact only_refl _ _
  exact (rfl : _ = true)

theorem State.setRes_touch : ∀ s x1 x2, (State.setRes s x1 x2).onlyChanges s [.lehr] := by
  intro s x1 x2
  unfold State.setRes
  conv => zeta
  split
  with_reducible refine only_set_lehr _ ?_ ?_
  with_reducible exact only_refl _ _
  exact (rfl : _ = true)
  with_reducible refine only_set_lehr _ ?_ ?_
  with_reducible exact only_refl _ _
  exact (rfl : _ = true)

theorem State.setPend_touch : ∀ s x1 x2, (State.setPend s x1 x2).onlyChanges s [.lehr] := by
  intro s x1 x2
  unfold State.setPend
  conv => zeta
  split
  with_reducible refine only_set_lehr _ ?_ ?_
  with_reducible exact only_refl _ _
  exact (rfl : _ = true)
  with_reducible refine only_set_lehr _ ?_ ?_
  with_reducible exact only_refl _ _
  exact (rfl : _ = true)

theorem State.voltageAnswer_touch : ∀ s x1 x2 x3 x4, (State.voltageAnswer s x1 x2 x3 x4).onlyChanges s [.interrupts, .tallies, .daybook, .outputs, .flash, .feeds, .lehr] := by
  intro s x1 x2 x3 x4
  unfold State.voltageAnswer
  conv => zeta
  split
  with_reducible exact only_refl _ _
  with_reducible refine only_ite ?_ ?_
  with_reducible refine only_step ?_ (State.count_touch _ _)
  with_reducible refine only_step ?_ (State.setRes_touch _ _ _)
  with_reducible refine only_step ?_ (State.setPend_touch _ _ _)
  with_reducible exact only_refl _ _
  with_reducible refine only_ite ?_ ?_
  with_reducible exact only_refl _ _
  with_reducible refine only_step ?_ (State.note_touch _ _ _)
  split
  with_reducible refine only_set_lehr _ ?_ ?_
  with_reducible refine only_step ?_ (State.send_touch _ _)
  with_reducible refine only_step ?_ (State.setFeed_touch _ _ _)
  with_reducible refine only_step ?_ (State.setRes_touch _ _ _)
  with_reducible refine only_step ?_ (State.setPend_touch _ _ _)
  with_reducible exact only_refl _ _
  exact (rfl : _ = true)
  with_reducible refine only_set_lehr _ ?_ ?_
  with_reducible refine only_step ?_ (State.send_touch _ _)
  with_reducible refine only_step ?_ (State.setFeed_touch _ _ _)
  with_reducible refine only_step ?_ (State.setRes_touch _ _ _)
  with_reducible refine only_step ?_ (State.setPend_touch _ _ _)
  with_reducible exact only_refl _ _
  exact (rfl : _ = true)

theorem State.falseWake_touch : ∀ s x1, (State.falseWake s x1).onlyChanges s [.interrupts, .tallies, .daybook, .outputs, .flash, .sleep] := by
  intro s x1
  unfold State.falseWake
  conv => zeta
  with_reducible refine only_ite ?_ ?_
  split
  split
  with_reducible refine only_set_sleep _ ?_ ?_
  with_reducible exact only_refl _ _
  exact (rfl : _ = true)
  with_reducible refine only_set_sleep _ ?_ ?_
  with_reducible exact only_refl _ _
  exact (rfl : _ = true)
  split
  with_reducible refine only_set_sleep _ ?_ ?_
  with_reducible exact only_refl _ _
  exact (rfl : _ = true)
  with_reducible refine only_set_sleep _ ?_ ?_
  with_reducible exact only_refl _ _
  exact (rfl : _ = true)
  with_reducible refine only_ite ?_ ?_
  with_reducible refine only_step ?_ (State.note_touch _ _ _)
  split
  split
  with_reducible refine only_set_sleep _ ?_ ?_
  with_reducible exact only_refl _ _
  exact (rfl : _ = true)
  with_reducible refine only_set_sleep _ ?_ ?_
  with_reducible exact only_refl _ _
  exact (rfl : _ = true)
  split
  with_reducible refine only_set_sleep _ ?_ ?_
  with_reducible exact only_refl _ _
  exact (rfl : _ = true)
  with_reducible refine only_set_sleep _ ?_ ?_
  with_reducible exact only_refl _ _
  exact (rfl : _ = true)
  split
  split
  with_reducible refine only_set_sleep _ ?_ ?_
  with_reducible refine only_set_sleep _ ?_ ?_
  with_reducible exact only_refl _ _
  exact (rfl : _ = true)
  exact (rfl : _ = true)
  with_reducible refine only_set_sleep _ ?_ ?_
  with_reducible refine only_set_sleep _ ?_ ?_
  with_reducible exact only_refl _ _
  exact (rfl : _ = true)
  exact (rfl : _ = true)
  split
  with_reducible refine only_set_sleep _ ?_ ?_
  with_reducible refine only_set_sleep _ ?_ ?_
  with_reducible exact only_refl _ _
  exact (rfl : _ = true)
  exact (rfl : _ = true)
  with_reducible refine only_set_sleep _ ?_ ?_
  with_reducible refine only_set_sleep _ ?_ ?_
  with_reducible exact only_refl _ _
  exact (rfl : _ = true)
  exact (rfl : _ = true)

theorem State.dinRecord_touch : ∀ s x1 x2 x3, (State.dinRecord s x1 x2 x3).2.onlyChanges s [.clock, .measure] := by
  intro s x1 x2 x3
  unfold State.dinRecord
  conv => zeta
  split
  split
  with_reducible refine only_set_meas _ ?_ ?_
  with_reducible refine only_step ?_ (State.fresh_touch _ _)
  with_reducible refine only_step ?_ (State.fresh_touch _ _)
  with_reducible exact only_refl _ _
  exact (rfl : _ = true)
  with_reducible refine only_set_meas _ ?_ ?_
  with_reducible refine only_step ?_ (State.fresh_touch _ _)
  with_reducible refine only_step ?_ (State.fresh_touch _ _)
  with_reducible exact only_refl _ _
  exact (rfl : _ = true)
  split
  with_reducible refine only_set_meas _ ?_ ?_
  with_reducible refine only_step ?_ (State.fresh_touch _ _)
  with_reducible refine only_step ?_ (State.fresh_touch _ _)
  with_reducible exact only_refl _ _
  exact (rfl : _ = true)
  with_reducible refine only_set_meas _ ?_ ?_
  with_reducible refine only_step ?_ (State.fresh_touch _ _)
  with_reducible refine only_step ?_ (State.fresh_touch _ _)
  with_reducible exact only_refl _ _
  exact (rfl : _ = true)

theorem cmdCommit_touch : ∀ b s, (cmdCommit.run b s).st.onlyChanges s [.interrupts, .tallies, .daybook, .outputs, .flash, .parison, .trackers, .fabric, .measure] := by
  intro b s
  unfold cmdCommit
  dsimp only
  with_reducible refine only_ite3 ?_ ?_
  with_reducible refine only_step ?_ (refuse_touch _ _)
  with_reducible exact only_refl _ _
  with_reducible refine only_step ?_ (ans_touch _ _ _)
  with_reducible refine only_ite ?_ ?_
  with_reducible refine only_step ?_ (State.setBoot_touch _ _ _)
  with_reducible refine only_step ?_ (Commit.report_touch _ _)
  with_reducible refine only_step ?_ (State.commit_touch _ _ _ _)
  with_reducible exact only_refl _ _
  with_reducible refine only_step ?_ (Commit.report_touch _ _)
  with_reducible refine only_step ?_ (State.commit_touch _ _ _ _)
  with_reducible exact only_refl _ _

theorem State.poll_touch : ∀ s x1 x2 x3, (State.poll s x1 x2 x3).onlyChanges s [.interrupts, .tallies, .daybook, .outputs, .flash, .bridge] := by
  intro s k result cause
  unfold State.poll
  extract_lets e a due y u0 fail
  split
  · exact only_refl _ _
  · have h0 : u0.onlyChanges s [.interrupts, .tallies, .daybook, .outputs, .flash, .bridge] := only_set_bridge _ (only_refl _ _) rfl
    clear_value u0
    have hf : ∀ c, (fail u0 c).onlyChanges s [.interrupts, .tallies, .daybook, .outputs, .flash, .bridge] := fun c =>
      only_step (only_step h0 (State.count_touch ..) rfl) (State.noteOnce_touch ..) rfl
    clear_value fail
    split
    · exact hf _
    · exact hf _
    · extract_lets new v1
      have h1 := only_step h0 (State.count_touch u0 (tlFlb 10)) rfl
      have h2 : v1.onlyChanges s [.interrupts, .tallies, .daybook, .outputs, .flash, .bridge] := only_set_bridge _ h1 rfl
      clear_value v1
      split
      · exact h2
      · split
        · exact h2
        · exact only_step h2 (State.note_touch ..) rfl

theorem State.mapOut_touch : ∀ s x1 x2, (State.mapOut s x1 x2).2.onlyChanges s [.tallies, .store] := by
  intro s x1 x2
  unfold State.mapOut
  conv => zeta
  split
  with_reducible exact only_refl _ _
  with_reducible refine only_ite2 ?_ ?_
  with_reducible exact only_refl _ _
  with_reducible refine only_ite2 ?_ ?_
  with_reducible refine only_step ?_ (State.count_touch _ _)
  with_reducible exact only_refl _ _
  with_reducible refine only_ite2 ?_ ?_
  with_reducible refine only_step ?_ (State.count_touch _ _)
  with_reducible exact only_refl _ _
  with_reducible refine only_set_pd _ ?_ ?_
  with_reducible exact only_refl _ _
  exact (rfl : _ = true)

theorem State.present_touch : ∀ s x1 x2, (State.present s x1 x2).onlyChanges s [.tallies, .store, .bridge] := by
  intro s x1 x2
  unfold State.present
  conv => zeta
  split
  with_reducible refine only_step ?_ (State.mapOut_touch _ _ _)
  with_reducible exact only_refl _ _
  with_reducible refine only_step ?_ (State.swapPage_touch _ _ _)
  with_reducible refine only_step ?_ (State.storeWrite_touch _ _ _)
  with_reducible refine only_step ?_ (State.mapOut_touch _ _ _)
  with_reducible exact only_refl _ _

theorem State.presentAll_touch : ∀ s, (State.presentAll s).onlyChanges s [.tallies, .store, .bridge] := by
  intro s
  unfold State.presentAll
  conv => zeta
  split
  with_reducible exact only_refl _ _
  with_reducible refine only_ite ?_ ?_
  with_reducible exact only_refl _ _
  split
  with_reducible refine only_foldl _ _ (fun _ _ => ?_) _ _ _ ?_
  with_reducible refine only_step ?_ (State.present_touch _ _ _)
  with_reducible exact only_refl _ _
  with_reducible refine only_set_bridge _ ?_ ?_
  with_reducible exact only_refl _ _
  exact (rfl : _ = true)
  with_reducible refine only_foldl _ _ (fun _ _ => ?_) _ _ _ ?_
  with_reducible refine only_step ?_ (State.present_touch _ _ _)
  with_reducible exact only_refl _ _
  with_reducible refine only_set_bridge _ ?_ ?_
  with_reducible exact only_refl _ _
  exact (rfl : _ = true)

theorem State.doubleClaim_touch : ∀ s x1 x2, (State.doubleClaim s x1 x2).onlyChanges s [.mailbox, .interrupts, .tallies, .daybook, .outputs, .flash, .fabric, .time, .twin, .bridge] := by
  intro s x1 x2
  unfold State.doubleClaim
  conv => zeta
  with_reducible refine only_ite ?_ ?_
  with_reducible refine only_step ?_ (State.noteOnce_touch _ _ _ _)
  with_reducible refine only_ite ?_ ?_
  with_reducible refine only_step ?_ (State.prefConflict_touch _)
  with_reducible exact only_refl _ _
  with_reducible exact only_refl _ _
  with_reducible refine only_step ?_ (State.count_touch _ _)
  with_reducible refine only_step ?_ (State.goQuiet_touch _ _ _)
  with_reducible refine only_step ?_ (State.noteOnce_touch _ _ _ _)
  with_reducible refine only_ite ?_ ?_
  with_reducible refine only_step ?_ (State.prefConflict_touch _)
  with_reducible exact only_refl _ _
  with_reducible exact only_refl _ _

theorem State.escrowTime_touch : ∀ s x1, (State.escrowTime s x1).onlyChanges s [.interrupts, .clock, .tallies, .daybook, .outputs, .flash, .parison, .gaffer, .fabric, .inaug, .time] := by
  intro s x1
  unfold State.escrowTime
  conv => zeta
  with_reducible refine only_step ?_ (State.offset_touch _ _)
  with_reducible refine only_ite ?_ ?_
  with_reducible exact only_refl _ _
  with_reducible refine only_step ?_ (State.toTime_touch _ _)
  with_reducible refine only_set_time _ ?_ ?_
  with_reducible exact only_refl _ _
  exact (rfl : _ = true)

theorem State.heardFrom_touch : ∀ s x1 x2, (State.heardFrom s x1 x2).onlyChanges s [.mailbox, .interrupts, .clock, .tallies, .daybook, .outputs, .flash, .parison, .gaffer, .fabric, .inaug, .time, .twin, .bridge] := by
  intro s x1 x2
  unfold State.heardFrom
  conv => zeta
  with_reducible refine only_ite ?_ ?_
  with_reducible refine only_ite ?_ ?_
  with_reducible refine only_step ?_ (State.doubleClaim_touch _ _ _)
  with_reducible exact only_refl _ _
  with_reducible refine only_ite ?_ ?_
  with_reducible refine only_step ?_ (State.planSwap_touch _ _)
  with_reducible refine only_step ?_ (State.mirrorCheck_touch _)
  split
  split
  with_reducible exact only_refl _ _
  split
  with_reducible refine only_set_twin _ ?_ ?_
  with_reducible exact only_refl _ _
  exact (rfl : _ = true)
  with_reducible refine only_set_twin _ ?_ ?_
  with_reducible exact only_refl _ _
  exact (rfl : _ = true)
  split
  with_reducible exact only_refl _ _
  split
  with_reducible refine only_set_twin _ ?_ ?_
  with_reducible exact only_refl _ _
  exact (rfl : _ = true)
  with_reducible refine only_set_twin _ ?_ ?_
  with_reducible exact only_refl _ _
  exact (rfl : _ = true)
  with_reducible refine only_step ?_ (State.mirrorCheck_touch _)
  split
  split
  with_reducible exact only_refl _ _
  split
  with_reducible refine only_set_twin _ ?_ ?_
  with_reducible exact only_refl _ _
  exact (rfl : _ = true)
  with_reducible refine only_set_twin _ ?_ ?_
  with_reducible exact only_refl _ _
  exact (rfl : _ = true)
  split
  with_reducible exact only_refl _ _
  split
  with_reducible refine only_set_twin _ ?_ ?_
  with_reducible exact only_refl _ _
  exact (rfl : _ = true)
  with_reducible refine only_set_twin _ ?_ ?_
  with_reducible exact only_refl _ _
  exact (rfl : _ = true)
  with_reducible refine only_ite ?_ ?_
  with_reducible refine only_step ?_ (State.escrowTime_touch _ _)
  with_reducible refine only_ite ?_ ?_
  with_reducible exact only_refl _ _
  split
  split
  with_reducible refine only_set_twin _ ?_ ?_
  with_reducible exact only_refl _ _
  exact (rfl : _ = true)
  with_reducible refine only_set_twin _ ?_ ?_
  with_reducible exact only_refl _ _
  exact (rfl : _ = true)
  with_reducible refine only_set_twin _ ?_ ?_
  with_reducible exact only_refl _ _
  exact (rfl : _ = true)
  with_reducible refine only_set_twin _ ?_ ?_
  with_reducible exact only_refl _ _
  exact (rfl : _ = true)
  with_reducible exact only_refl _ _

theorem State.heartbeatIn_touch : ∀ s x1, (State.heartbeatIn s x1).onlyChanges s [.mailbox, .interrupts, .clock, .tallies, .daybook, .outputs, .flash, .parison, .gaffer, .fabric, .inaug, .time, .twin, .bridge] := by
  intro s x1
  unfold State.heartbeatIn
  conv => zeta
  with_reducible refine only_ite ?_ ?_
  with_reducible exact only_refl _ _
  with_reducible refine only_step ?_ (State.heardFrom_touch _ _ _)
  with_reducible refine only_set_twin _ ?_ ?_
  with_reducible exact only_refl _ _
  exact (rfl : _ = true)

theorem State.expireQueue_touch : ∀ s, (State.expireQueue s).onlyChanges s [.interrupts, .tallies, .daybook, .outputs, .flash, .triad] := by
  intro s
  unfold State.expireQueue
  conv => zeta
  with_reducible refine only_foldl _ _ (fun _ _ => ?_) _ _ _ ?_
  with_reducible refine only_step ?_ (State.overrun_touch _ _)
  with_reducible exact only_refl _ _
  with_reducible refine only_set_triad _ ?_ ?_
  with_reducible exact only_refl _ _
  exact (rfl : _ = true)

theorem State.handOver_touch : ∀ s, (State.handOver s).onlyChanges s [.store] := by
  intro s
  unfold State.handOver
  conv => zeta
  with_reducible refine only_set_pd _ ?_ ?_
  with_reducible exact only_refl _ _
  exact (rfl : _ = true)

theorem State.releaseTask_touch : ∀ s x1 x2 x3, (State.releaseTask s x1 x2 x3).onlyChanges s [.interrupts, .clock, .tallies, .daybook, .outputs, .flash, .store, .triad, .twin, .seeds] := by
  intro s x1 x2 x3
  unfold State.releaseTask
  conv => zeta
  with_reducible refine only_ite ?_ ?_
  with_reducible refine only_step ?_ (State.expireQueue_touch _)
  with_reducible refine only_ite ?_ ?_
  with_reducible refine only_step ?_ (State.count_touch _ _)
  with_reducible refine only_step ?_ (State.endResync_touch _)
  with_reducible exact only_refl _ _
  with_reducible exact only_refl _ _
  with_reducible refine only_ite ?_ ?_
  with_reducible refine only_step ?_ (State.count_touch _ _)
  with_reducible refine only_step ?_ (State.expireQueue_touch _)
  with_reducible refine only_ite ?_ ?_
  with_reducible refine only_step ?_ (State.count_touch _ _)
  with_reducible refine only_step ?_ (State.endResync_touch _)
  with_reducible exact only_refl _ _
  with_reducible exact only_refl _ _
  split
  with_reducible refine only_step ?_ (State.begin_touch _ _)
  with_reducible refine only_step ?_ (State.handOver_touch _)
  with_reducible refine only_step ?_ (State.expireQueue_touch _)
  with_reducible refine only_ite ?_ ?_
  with_reducible refine only_step ?_ (State.count_touch _ _)
  with_reducible refine only_step ?_ (State.endResync_touch _)
  with_reducible exact only_refl _ _
  with_reducible exact only_refl _ _
  with_reducible refine only_ite ?_ ?_
  with_reducible refine only_step ?_ (State.breach_touch _ _ _ _)
  with_reducible refine only_step ?_ (State.count_touch _ _)
  with_reducible refine only_step ?_ (State.expireQueue_touch _)
  with_reducible refine only_ite ?_ ?_
  with_reducible refine only_step ?_ (State.count_touch _ _)
  with_reducible refine only_step ?_ (State.endResync_touch _)
  with_reducible exact only_refl _ _
  with_reducible exact only_refl _ _
  split
  with_reducible refine only_set_triad _ ?_ ?_
  with_reducible refine only_step ?_ (State.handOver_touch _)
  with_reducible refine only_step ?_ (State.expireQueue_touch _)
  with_reducible refine only_step ?_ (State.count_touch _ _)
  with_reducible refine only_step ?_ (State.endResync_touch _)
  with_reducible exact only_refl _ _
  exact (rfl : _ = true)
  with_reducible refine only_set_triad _ ?_ ?_
  with_reducible refine only_step ?_ (State.handOver_touch _)
  with_reducible refine only_step ?_ (State.expireQueue_touch _)
  with_reducible exact only_refl _ _
  exact (rfl : _ = true)

theorem cmdBridgeConfig_touch : ∀ b s, (cmdBridgeConfig.run b s).st.onlyChanges s [.tallies, .daybook, .flash, .bridge] := by
  intro b s
  unfold cmdBridgeConfig
  dsimp only
  with_reducible refine only_ite3 ?_ ?_
  with_reducible refine only_step ?_ (ans_touch _ _ _)
  with_reducible exact only_refl _ _
  with_reducible refine only_ite3 ?_ ?_
  with_reducible refine only_step ?_ (refuse_touch _ _)
  with_reducible exact only_refl _ _
  with_reducible refine only_ite3 ?_ ?_
  with_reducible refine only_step ?_ (refuse_touch _ _)
  with_reducible exact only_refl _ _
  with_reducible refine only_step ?_ (ans_touch _ _ _)
  with_reducible refine only_ite ?_ ?_
  with_reducible refine only_step ?_ (State.persist_touch _ _ _)
  with_reducible refine only_set_bridge _ ?_ ?_
  with_reducible exact only_refl _ _
  exact (rfl : _ = true)
  with_reducible refine only_set_bridge _ ?_ ?_
  with_reducible exact only_refl _ _
  exact (rfl : _ = true)

theorem cmdCanCancel_touch : ∀ b s, (cmdCanCancel.run b s).st.onlyChanges s [.tallies, .can] := by
  intro b s
  unfold cmdCanCancel
  dsimp only
  with_reducible refine only_ite3 ?_ ?_
  with_reducible refine only_step ?_ (refuse_touch _ _)
  with_reducible exact only_refl _ _
  with_reducible refine only_ite3 ?_ ?_
  with_reducible refine only_step ?_ (refuse_touch _ _)
  with_reducible exact only_refl _ _
  split
  with_reducible refine only_step ?_ (refuse_touch _ _)
  with_reducible exact only_refl _ _
  split
  with_reducible refine only_step ?_ (refuse_touch _ _)
  with_reducible exact only_refl _ _
  split
  with_reducible refine only_step ?_ (ans_touch _ _ _)
  with_reducible exact only_refl _ _
  with_reducible refine only_step ?_ (ans_touch _ _ _)
  with_reducible refine only_step ?_ (State.count_touch _ _)
  with_reducible refine only_step ?_ (State.setCtl_touch _ _ _)
  with_reducible exact only_refl _ _
  with_reducible refine only_step ?_ (holdOn_touch _)
  with_reducible refine only_step ?_ (State.setCtl_touch _ _ _)
  with_reducible exact only_refl _ _

theorem State.hello_touch : ∀ s x1 x2 x3 x4, (State.hello s x1 x2 x3 x4).onlyChanges s [.interrupts, .clock, .tallies, .daybook, .outputs, .flash, .inaug] := by
  intro s x1 x2 x3 x4
  unfold State.hello
  conv => zeta
  with_reducible refine only_ite ?_ ?_
  with_reducible exact only_refl _ _
  with_reducible refine only_ite ?_ ?_
  with_reducible refine only_step ?_ (State.enterFast_touch _)
  with_reducible refine only_ite ?_ ?_
  with_reducible refine only_ite ?_ ?_
  with_reducible refine only_step ?_ (State.setBb_touch _ _ _)
  with_reducible exact only_refl _ _
  with_reducible refine only_step ?_ (State.lineTo_touch _ _ _)
  with_reducible exact only_refl _ _
  with_reducible refine only_ite ?_ ?_
  with_reducible refine only_step ?_ (State.lineTo_touch _ _ _)
  with_reducible exact only_refl _ _
  with_reducible refine only_step ?_ (State.lineTo_touch _ _ _)
  with_reducible exact only_refl _ _
  with_reducible refine only_ite ?_ ?_
  with_reducible refine only_ite ?_ ?_
  with_reducible refine only_step ?_ (State.setBb_touch _ _ _)
  with_reducible exact only_refl _ _
  with_reducible refine only_step ?_ (State.lineTo_touch _ _ _)
  with_reducible exact only_refl _ _
  with_reducible refine only_ite ?_ ?_
  with_reducible refine only_step ?_ (State.lineTo_touch _ _ _)
  with_reducible exact only_refl _ _
  with_reducible refine only_step ?_ (State.lineTo_touch _ _ _)
  with_reducible exact only_refl _ _

theorem State.retireCore_touch : ∀ s x1 x2, (State.retireCore s x1 x2).onlyChanges s [.interrupts, .clock, .tallies, .daybook, .outputs, .flash, .store, .triad, .twin, .seeds] := by
  intro s x1 x2
  unfold State.retireCore
  conv => zeta
  with_reducible refine only_ite ?_ ?_
  with_reducible exact only_refl _ _
  with_reducible refine only_step ?_ (State.nextTask_touch _)
  with_reducible refine only_step ?_ (State.triUpdate_touch _ _)
  with_reducible refine only_step ?_ (State.stopLone_touch _)
  with_reducible refine only_step ?_ (State.note_touch _ _ _)
  with_reducible refine only_step ?_ (State.count_touch _ _)
  with_reducible refine only_step ?_ (State.fillSlots_touch _)
  with_reducible refine only_step ?_ (State.setCore_touch _ _ _)
  with_reducible refine only_step ?_ (State.coreOut_touch _ _)
  with_reducible exact only_refl _ _

theorem State.blame_touch : ∀ s x1, (State.blame s x1).onlyChanges s [.interrupts, .clock, .tallies, .daybook, .outputs, .flash, .store, .triad, .twin, .seeds] := by
  intro s x1
  unfold State.blame
  conv => zeta
  with_reducible refine only_ite ?_ ?_
  with_reducible refine only_step ?_ (State.retireCore_touch _ _ _)
  with_reducible refine only_step ?_ (State.count_touch _ _)
  with_reducible refine only_step ?_ (State.setCore_touch _ _ _)
  with_reducible exact only_refl _ _
  with_reducible refine only_step ?_ (State.triUpdate_touch _ _)
  with_reducible refine only_step ?_ (State.count_touch _ _)
  with_reducible refine only_step ?_ (State.setCore_touch _ _ _)
  with_reducible exact only_refl _ _

theorem State.fallSilent_touch : ∀ s, (State.fallSilent s).onlyChanges s [.interrupts, .clock, .tallies, .daybook, .outputs, .flash, .store, .triad, .twin, .seeds] := by
  intro s
  unfold State.fallSilent
  conv => zeta
  with_reducible refine only_step ?_ (State.nextTask_touch _)
  with_reducible refine only_step ?_ (State.triTo_touch _ _ _)
  with_reducible refine only_set_triad _ ?_ ?_
  with_reducible refine only_step ?_ (State.stopTask_touch _)
  with_reducible exact only_refl _ _
  exact (rfl : _ = true)

theorem State.compare_touch : ∀ s x1, (State.compare s x1).onlyChanges s [.interrupts, .clock, .tallies, .daybook, .outputs, .flash, .store, .triad, .twin, .seeds] := by
  intro s x1
  unfold State.compare
  conv => zeta
  split
  with_reducible exact only_refl _ _
  with_reducible refine only_ite ?_ ?_
  with_reducible exact only_refl _ _
  split
  with_reducible refine only_step ?_ (State.blame_touch _ _)
  with_reducible refine only_step ?_ (State.note_touch _ _ _)
  split
  split
  split
  with_reducible refine only_set_triad _ ?_ ?_
  with_reducible exact only_refl _ _
  exact (rfl : _ = true)
  with_reducible refine only_set_triad _ ?_ ?_
  with_reducible exact only_refl _ _
  exact (rfl : _ = true)
  split
  with_reducible refine only_set_triad _ ?_ ?_
  with_reducible exact only_refl _ _
  exact (rfl : _ = true)
  with_reducible refine only_set_triad _ ?_ ?_
  with_reducible exact only_refl _ _
  exact (rfl : _ = true)
  split
  split
  with_reducible refine only_set_triad _ ?_ ?_
  with_reducible exact only_refl _ _
  exact (rfl : _ = true)
  with_reducible refine only_set_triad _ ?_ ?_
  with_reducible exact only_refl _ _
  exact (rfl : _ = true)
  split
  with_reducible refine only_set_triad _ ?_ ?_
  with_reducible exact only_refl _ _
  exact (rfl : _ = true)
  with_reducible refine only_set_triad _ ?_ ?_
  with_reducible exact only_refl _ _
  exact (rfl : _ = true)
  with_reducible refine only_step ?_ (State.fallSilent_touch _)
  with_reducible refine only_step ?_ (State.note_touch _ _ _)
  split
  split
  split
  with_reducible refine only_set_triad _ ?_ ?_
  with_reducible exact only_refl _ _
  exact (rfl : _ = true)
  with_reducible refine only_set_triad _ ?_ ?_
  with_reducible exact only_refl _ _
  exact (rfl : _ = true)
  split
  with_reducible refine only_set_triad _ ?_ ?_
  with_reducible exact only_refl _ _
  exact (rfl : _ = true)
  with_reducible refine only_set_triad _ ?_ ?_
  with_reducible exact only_refl _ _
  exact (rfl : _ = true)
  split
  split
  with_reducible refine only_set_triad _ ?_ ?_
  with_reducible exact only_refl _ _
  exact (rfl : _ = true)
  with_reducible refine only_set_triad _ ?_ ?_
  with_reducible exact only_refl _ _
  exact (rfl : _ = true)
  split
  with_reducible refine only_set_triad _ ?_ ?_
  with_reducible exact only_refl _ _
  exact (rfl : _ = true)
  with_reducible refine only_set_triad _ ?_ ?_
  with_reducible exact only_refl _ _
  exact (rfl : _ = true)

theorem State.corrupt_touch : ∀ s, (State.corrupt s).onlyChanges s [.interrupts, .clock, .tallies, .daybook, .outputs, .flash, .store, .triad, .twin, .seeds] := by
  intro s
  unfold State.corrupt
  conv => zeta
  split
  with_reducible exact only_refl _ _
  with_reducible refine only_ite ?_ ?_
  with_reducible exact only_refl _ _
  split
  with_reducible refine only_step ?_ (State.injectCan_touch _ _ _ _)
  with_reducible refine only_step ?_ (State.fresh_touch _ _)
  with_reducible refine only_step ?_ (State.fresh_touch _ _)
  with_reducible refine only_step ?_ (State.fresh_touch _ _)
  with_reducible exact only_refl _ _
  with_reducible refine only_step ?_ (State.compare_touch _ _)
  with_reducible refine only_step ?_ (State.injectCan_touch _ _ _ _)
  with_reducible refine only_step ?_ (State.fresh_touch _ _)
  with_reducible refine only_step ?_ (State.fresh_touch _ _)
  with_reducible refine only_step ?_ (State.fresh_touch _ _)
  with_reducible exact only_refl _ _

theorem State.taskLate_touch : ∀ s, (State.taskLate s).onlyChanges s [.interrupts, .clock, .tallies, .daybook, .outputs, .flash, .store, .triad, .twin, .seeds] := by
  intro s
  unfold State.taskLate
  conv => zeta
  with_reducible refine only_step ?_ (State.expireQueue_touch _) ?_
  split
  with_reducible refine only_ite ?_ ?_
  split
  with_reducible refine only_step ?_ (State.nextTask_touch _) ?_
  with_reducible refine only_step ?_ (State.overrun_touch _ _) ?_
  with_reducible refine only_step ?_ (State.stopTask_touch _) ?_
  with_reducible refine only_step ?_ (State.corrupt_touch _) ?_
  with_reducible exact only_refl _ _
  exact (rfl : _ = true)
  exact (rfl : _ = true)
  exact (rfl : _ = true)
  exact (rfl : _ = true)
  with_reducible refine only_step ?_ (State.corrupt_touch _) ?_
  with_reducible exact only_refl _ _
  exact (rfl : _ = true)
  with_reducible exact only_refl _ _
  with_reducible exact only_refl _ _
  exact (rfl : _ = true)

theorem State.noteHandover_touch : ∀ s x1 x2 x3, (State.noteHandover s x1 x2 x3).onlyChanges s [.interrupts, .tallies, .daybook, .outputs, .flash] := by
  intro s x1 x2 x3
  unfold State.noteHandover
  conv => zeta
  with_reducible refine only_step ?_ (State.note_touch _ _ _)
  with_reducible exact only_refl _ _

theorem State.wornOut_touch : ∀ s x1, (State.wornOut s x1).onlyChanges s [.mailbox, .interrupts, .clock, .tallies, .daybook, .outputs, .flash, .feeds, .lehr, .parison, .trackers, .pace, .gaffer, .ports, .fabric, .store, .inaug, .time, .can, .sleep, .measure, .triad, .twin, .vault, .seeds] := by
  intro s x1
  unfold State.wornOut
  conv => zeta
  with_reducible refine only_ite ?_ ?_
  with_reducible exact only_refl _ _
  with_reducible refine only_step ?_ (State.isolate_touch _ _ _)
  with_reducible refine only_set_lehr _ ?_ ?_
  with_reducible exact only_refl _ _
  exact (rfl : _ = true)

theorem State.wornHandover_touch : ∀ s x1 x2, (State.wornHandover s x1 x2).onlyChanges s [.mailbox, .interrupts, .clock, .tallies, .daybook, .outputs, .flash, .feeds, .lehr, .parison, .trackers, .pace, .gaffer, .ports, .fabric, .store, .inaug, .time, .can, .sleep, .measure, .triad, .twin, .vault, .seeds] := by
  intro s x1 x2
  unfold State.wornHandover
  conv => zeta
  with_reducible refine only_step ?_ (State.wornOut_touch _ _)
  split
  with_reducible refine only_ite ?_ ?_
  with_reducible exact only_refl _ _
  with_reducible refine only_step ?_ (State.noteHandover_touch _ _ _ _)
  split
  with_reducible refine only_set_gaf _ ?_ ?_
  with_reducible exact only_refl _ _
  exact (rfl : _ = true)
  split
  with_reducible refine only_set_gaf _ ?_ ?_
  with_reducible exact only_refl _ _
  exact (rfl : _ = true)
  with_reducible refine only_set_gaf _ ?_ ?_
  with_reducible exact only_refl _ _
  exact (rfl : _ = true)
  with_reducible refine only_ite ?_ ?_
  with_reducible exact only_refl _ _
  with_reducible refine only_step ?_ (State.noteHandover_touch _ _ _ _)
  with_reducible refine only_set_gaf _ ?_ ?_
  with_reducible exact only_refl _ _
  exact (rfl : _ = true)

theorem State.htxRead_touch : ∀ s x1 x2, (State.htxRead s x1 x2).onlyChanges s [.interrupts, .tallies, .outputs, .ports] := by
  intro s x1 x2
  unfold State.htxRead
  conv => zeta
  with_reducible refine only_ite ?_ ?_
  with_reducible exact only_refl _ _
  split
  with_reducible refine only_step ?_ (State.setHtx_touch _ _ _)
  with_reducible exact only_refl _ _
  with_reducible refine only_ite ?_ ?_
  with_reducible refine only_step ?_ (State.setHtx_touch _ _ _)
  with_reducible exact only_refl _ _
  with_reducible refine only_ite ?_ ?_
  with_reducible refine only_step ?_ (State.setHtx_touch _ _ _)
  with_reducible exact only_refl _ _
  with_reducible refine only_ite ?_ ?_
  with_reducible refine only_step ?_ (State.htxDone_touch _ _ _ _ _)
  with_reducible exact only_refl _ _
  with_reducible refine only_ite ?_ ?_
  with_reducible refine only_step ?_ (State.htxDone_touch _ _ _ _ _)
  with_reducible exact only_refl _ _
  with_reducible refine only_ite ?_ ?_
  with_reducible refine only_step ?_ (State.setHtx_touch _ _ _)
  with_reducible exact only_refl _ _
  with_reducible refine only_step ?_ (State.setHtx_touch _ _ _)
  with_reducible exact only_refl _ _

theorem State.holdsOver_touch : ∀ s, (State.holdsOver s).onlyChanges s [.interrupts, .tallies, .daybook, .outputs, .flash, .ports, .fabric, .vault, .seeds] := by
  intro s
  unfold State.holdsOver
  conv => zeta
  with_reducible refine only_foldl _ _ (fun _ _ => ?_) _ _ _ ?_
  with_reducible refine only_step ?_ (State.egress_touch _ _)
  with_reducible exact only_refl _ _
  with_reducible refine only_set_seeds _ ?_ ?_
  with_reducible exact only_refl _ _
  exact (rfl : _ = true)

theorem State.txEnd_touch : ∀ s x1, (State.txEnd s x1).onlyChanges s [.interrupts, .tallies, .daybook, .outputs, .flash, .ports, .fabric, .vault, .seeds] := by
  intro s x1
  unfold State.txEnd
  conv => zeta
  split
  with_reducible exact only_refl _ _
  with_reducible refine only_ite ?_ ?_
  with_reducible exact only_refl _ _
  split
  with_reducible refine only_step ?_ (State.egress_touch _ _)
  with_reducible refine only_set_fab _ ?_ ?_
  with_reducible exact only_refl _ _
  exact (rfl : _ = true)
  with_reducible refine only_step ?_ (State.egress_touch _ _)
  with_reducible refine only_step ?_ (State.freeFrames_touch _)
  with_reducible refine only_step ?_ (State.send_touch _ _)
  with_reducible refine only_ite ?_ ?_
  with_reducible refine only_step ?_ (State.count_touch _ _)
  with_reducible refine only_step ?_ (State.count_touch _ _)
  with_reducible refine only_step ?_ (State.count_touch _ _)
  with_reducible refine only_step ?_ (State.countN_touch _ _ _)
  with_reducible refine only_step ?_ (State.count_touch _ _)
  with_reducible refine only_set_fab _ ?_ ?_
  with_reducible exact only_refl _ _
  exact (rfl : _ = true)
  with_reducible refine only_step ?_ (State.count_touch _ _)
  with_reducible refine only_step ?_ (State.count_touch _ _)
  with_reducible refine only_step ?_ (State.countN_touch _ _ _)
  with_reducible refine only_step ?_ (State.count_touch _ _)
  with_reducible refine only_set_fab _ ?_ ?_
  with_reducible exact only_refl _ _
  exact (rfl : _ = true)

theorem cmdEnrol_touch : ∀ b s, (cmdEnrol.run b s).st.onlyChanges s [.interrupts, .tallies, .daybook, .outputs, .flash, .vault] := by
  intro b s
  unfold cmdEnrol
  dsimp -zeta only
  extract_lets y0
  clear_value y0
  conv => zeta
  with_reducible refine only_ite3 ?_ ?_
  with_reducible refine only_ite3 ?_ ?_
  with_reducible refine only_step ?_ (refuse_touch _ _)
  with_reducible refine only_step ?_ (State.takeWarrant_touch _ _ _)
  with_reducible exact only_refl _ _
  with_reducible refine only_ite3 ?_ ?_
  with_reducible refine only_step ?_ (refuse_touch _ _)
  with_reducible refine only_step ?_ (State.takeWarrant_touch _ _ _)
  with_reducible exact only_refl _ _
  with_reducible refine only_step ?_ (ans_touch _ _ _)
  with_reducible refine only_step ?_ (State.note_touch _ _ _)
  with_reducible refine only_set_day _ ?_ ?_
  with_reducible refine only_step ?_ (State.saveRecord_touch _)
  with_reducible refine only_set_sec _ ?_ ?_
  with_reducible refine only_step ?_ (State.draw_touch _ _)
  with_reducible refine only_step ?_ (State.takeWarrant_touch _ _ _)
  with_reducible exact only_refl _ _
  exact (rfl : _ = true)
  exact (rfl : _ = true)
  with_reducible refine only_ite3 ?_ ?_
  with_reducible refine only_ite3 ?_ ?_
  with_reducible refine only_step ?_ (refuse_touch _ _)
  with_reducible exact only_refl _ _
  split
  with_reducible refine only_step ?_ (refuse_touch _ _)
  with_reducible exact only_refl _ _
  with_reducible refine only_ite3 ?_ ?_
  with_reducible refine only_step ?_ (ans_touch _ _ _)
  with_reducible refine only_set_sec _ ?_ ?_
  with_reducible exact only_refl _ _
  exact (rfl : _ = true)
  with_reducible refine only_ite3 ?_ ?_
  with_reducible refine only_step ?_ (ans_touch _ _ _)
  with_reducible refine only_set_flash_sec _ _ ?_ ?_ ?_
  with_reducible refine only_set_sec _ ?_ ?_
  with_reducible exact only_refl _ _
  exact (rfl : _ = true)
  exact (rfl : _ = true)
  exact (rfl : _ = true)
  with_reducible refine only_step ?_ (refuse_touch _ _)
  with_reducible refine only_set_sec _ ?_ ?_
  with_reducible refine only_set_sec _ ?_ ?_
  with_reducible exact only_refl _ _
  exact (rfl : _ = true)
  exact (rfl : _ = true)
  with_reducible refine only_ite3 ?_ ?_
  with_reducible refine only_ite3 ?_ ?_
  with_reducible refine only_step ?_ (refuse_touch _ _)
  with_reducible exact only_refl _ _
  with_reducible refine only_step ?_ (ans_touch _ _ _)
  with_reducible exact only_refl _ _
  with_reducible refine only_step ?_ (refuse_touch _ _)
  with_reducible exact only_refl _ _

theorem cmdDaybookRead_touch : ∀ b s, (cmdDaybookRead.run b s).st.onlyChanges s [] := by
  intro b s
  unfold cmdDaybookRead
  dsimp only
  with_reducible refine only_ite3 ?_ ?_
  with_reducible refine only_step ?_ (refuse_touch _ _)
  with_reducible exact only_refl _ _
  with_reducible refine only_step ?_ (ans_touch _ _ _)
  with_reducible exact only_refl _ _

theorem cmdPin_touch : ∀ b s, (cmdPin.run b s).st.onlyChanges s [.interrupts, .tallies, .daybook, .outputs, .flash, .vault] := by
  intro b s
  unfold cmdPin
  dsimp only
  with_reducible refine only_ite3 ?_ ?_
  with_reducible refine only_step ?_ (refuse_touch _ _)
  with_reducible exact only_refl _ _
  with_reducible refine only_ite3 ?_ ?_
  with_reducible refine only_step ?_ (refuse_touch _ _)
  with_reducible refine only_step ?_ (State.takeWarrant_touch _ _ _)
  with_reducible exact only_refl _ _
  with_reducible refine only_ite3 ?_ ?_
  with_reducible refine only_step ?_ (refuse_touch _ _)
  with_reducible refine only_step ?_ (State.takeWarrant_touch _ _ _)
  with_reducible exact only_refl _ _
  with_reducible refine only_ite3 ?_ ?_
  with_reducible refine only_step ?_ (refuse_touch _ _)
  with_reducible refine only_step ?_ (State.takeWarrant_touch _ _ _)
  with_reducible exact only_refl _ _
  with_reducible refine only_ite3 ?_ ?_
  with_reducible refine only_step ?_ (refuse_touch _ _)
  with_reducible refine only_step ?_ (State.takeWarrant_touch _ _ _)
  with_reducible exact only_refl _ _
  with_reducible refine only_step ?_ (ans_touch _ _ _)
  with_reducible refine only_step ?_ (State.recordUpd_touch _ _)
  with_reducible refine only_step ?_ (State.takeWarrant_touch _ _ _)
  with_reducible exact only_refl _ _

theorem State.stayExpire_touch : ∀ s, (State.stayExpire s).onlyChanges s [.interrupts, .tallies, .daybook, .outputs, .flash, .can, .sleep] := by
  intro s
  unfold State.stayExpire
  conv => zeta
  with_reducible refine only_step ?_ (State.tryAgree_touch _)
  with_reducible refine only_foldl _ _ (fun _ _ => ?_) _ _ _ ?_
  with_reducible refine only_step ?_ (State.note_touch _ _ _)
  with_reducible refine only_step ?_ (State.count_touch _ _)
  with_reducible exact only_refl _ _
  with_reducible refine only_set_sleep _ ?_ ?_
  with_reducible exact only_refl _ _
  exact (rfl : _ = true)

theorem State.settleEnergy_touch : ∀ s x1, (State.settleEnergy s x1).onlyChanges s [.tallies, .measure] := by
  intro s x1
  unfold State.settleEnergy
  conv => zeta
  split
  with_reducible exact only_refl _ _
  with_reducible refine only_ite ?_ ?_
  with_reducible exact only_refl _ _
  with_reducible refine only_ite ?_ ?_
  with_reducible refine only_step ?_ (State.count_touch _ _)
  with_reducible refine only_step ?_ (State.setPair_touch _ _ _)
  with_reducible exact only_refl _ _
  with_reducible refine only_ite ?_ ?_
  with_reducible refine only_set_meas _ ?_ ?_
  with_reducible refine only_step ?_ (State.setPair_touch _ _ _)
  with_reducible exact only_refl _ _
  exact (rfl : _ = true)
  with_reducible refine only_set_meas _ ?_ ?_
  with_reducible refine only_step ?_ (State.setPair_touch _ _ _)
  with_reducible exact only_refl _ _
  exact (rfl : _ = true)

theorem State.closeCycle_touch : ∀ s x1, (State.closeCycle s x1).onlyChanges s [.tallies, .measure] := by
  intro s x1
  unfold State.closeCycle
  conv => zeta
  with_reducible refine only_set_meas _ ?_ ?_
  with_reducible refine only_foldl _ _ (fun _ _ => ?_) _ _ _ ?_
  split
  with_reducible refine only_step ?_ (State.setPair_touch _ _ _) ?_
  with_reducible refine only_step ?_ (State.settleEnergy_touch _ _) ?_
  with_reducible exact only_refl _ _
  exact (rfl : _ = true)
  exact (rfl : _ = true)
  with_reducible refine only_step ?_ (State.settleEnergy_touch _ _) ?_
  with_reducible exact only_refl _ _
  exact (rfl : _ = true)
  with_reducible refine only_foldl _ _ (fun _ _ => ?_) _ _ _ ?_
  split
  with_reducible refine only_step ?_ (State.setChan_touch _ _ _) ?_
  with_reducible exact only_refl _ _
  exact (rfl : _ = true)
  with_reducible exact only_refl _ _
  with_reducible exact only_refl _ _
  exact (rfl : _ = true)

theorem State.takeGrid_touch : ∀ s x1 x2 x3, (State.takeGrid s x1 x2 x3).onlyChanges s [.measure] := by
  intro s x1 x2 x3
  unfold State.takeGrid
  conv => zeta
  with_reducible refine only_foldl _ _ (fun _ _ => ?_) _ _ _ ?_
  split
  with_reducible refine only_ite ?_ ?_
  with_reducible refine only_step ?_ (State.setChan_touch _ _ _)
  with_reducible exact only_refl _ _
  with_reducible exact only_refl _ _
  with_reducible exact only_refl _ _
  with_reducible exact only_refl _ _

theorem State.paceGrid_touch : ∀ s x1, (State.paceGrid s x1).onlyChanges s [.tallies, .measure] := by
  intro s g
  unfold State.paceGrid
  extract_lets at_ start u0 y z u1 u2 l u3 w u4
  have hs : ∀ (u : State) b, u.onlyChanges s [.tallies, .measure] →
      (start u b).onlyChanges s [.tallies, .measure] := fun u b h => only_set_meas _ h rfl
  clear_value start
  have h0 : u0.onlyChanges s [.tallies, .measure] := by
    unfold u0
    split
    · exact only_refl _ _
    · exact only_sub (State.closeCycle_touch ..) rfl
  clear_value u0
  have h1 : u1.onlyChanges s [.tallies, .measure] := by
    unfold u1
    split
    · exact only_refl _ _
    · exact only_sub (State.closeCycle_touch ..) rfl
  clear_value u1
  have h2 : u2.onlyChanges s [.tallies, .measure] := by
    unfold u2
    split
    · exact hs _ _ (only_set_meas _ h0 rfl)
    · split
      · split
        · exact hs _ _ (only_refl _ _)
        · split
          · exact only_refl _ _
          · exact only_set_meas _ (only_refl _ _) rfl
      · exact hs _ _ h1
  clear_value u2
  have h3 : u3.onlyChanges s [.tallies, .measure] := only_step h2 (State.takeGrid_touch ..) rfl
  clear_value u3
  have h4 : u4.onlyChanges s [.tallies, .measure] := only_set_meas _ h3 rfl
  clear_value u4
  split
  · exact only_step h4 (State.closeCycle_touch ..) rfl
  · exact h4

theorem State.fixedGrid_touch : ∀ s x1, (State.fixedGrid s x1).onlyChanges s [.tallies, .measure] := by
  intro s t
  unfold State.fixedGrid
  extract_lets y u0 u1 k z u2
  have h0 : u0.onlyChanges s [.tallies, .measure] := by
    unfold u0
    split
    · exact only_set_meas _ (only_refl _ _) rfl
    · exact only_refl _ _
  clear_value y u0
  have h1 : u1.onlyChanges s [.tallies, .measure] := only_step h0 (State.takeGrid_touch ..) rfl
  clear_value z u1
  have h2 : u2.onlyChanges s [.tallies, .measure] := only_set_meas _ h1 rfl
  clear_value u2
  split
  · exact only_step h2 (State.closeCycle_touch ..) rfl
  · exact h2

theorem State.gridSample_touch : ∀ s, (State.gridSample s).onlyChanges s [.tallies, .measure] := by
  intro s
  have fx : ∀ u : State, u.onlyChanges s [.tallies, .measure] → ∀ m t,
      (({ u with meas := m } : State).fixedGrid t).onlyChanges s [.tallies, .measure] := fun u h m t =>
    only_step (only_set_meas m h rfl) (State.fixedGrid_touch ..) rfl
  unfold State.gridSample
  extract_lets unit pos g tol near due y u0 z u1
  have h0 : u0.onlyChanges s [.tallies, .measure] := by
    unfold u0
    split
    · exact only_refl _ _
    · exact only_sub (State.closeCycle_touch ..) rfl
  clear_value u0
  have h1 : u1.onlyChanges s [.tallies, .measure] := only_set_meas _ h0 rfl
  clear_value u1 near
  split
  · split
    · exact only_sub (State.paceGrid_touch ..) rfl
    · exact only_refl _ _
  · split
    · split
      · exact only_sub (State.fixedGrid_touch ..) rfl
      · exact only_refl _ _
    · split
      · split
        · exact only_refl _ _
        · split
          · exact fx _ (only_refl _ _) _ _
          · exact only_sub (State.paceGrid_touch ..) rfl
      · split
        · exact only_step h1 (State.fixedGrid_touch ..) rfl
        · exact h1

theorem cmdLinkPolicy_touch : ∀ b s, (cmdLinkPolicy.run b s).st.onlyChanges s [.interrupts, .tallies, .daybook, .outputs, .flash, .vault] := by
  intro b s
  unfold cmdLinkPolicy
  dsimp only
  with_reducible refine only_ite3 ?_ ?_
  with_reducible refine only_step ?_ (ans_touch _ _ _)
  with_reducible exact only_refl _ _
  with_reducible refine only_ite3 ?_ ?_
  with_reducible refine only_step ?_ (refuse_touch _ _)
  with_reducible exact only_refl _ _
  with_reducible refine only_ite3 ?_ ?_
  with_reducible refine only_step ?_ (refuse_touch _ _)
  with_reducible exact only_refl _ _
  with_reducible refine only_ite3 ?_ ?_
  with_reducible refine only_step ?_ (refuse_touch _ _)
  with_reducible exact only_refl _ _
  with_reducible refine only_ite3 ?_ ?_
  with_reducible refine only_step ?_ (refuse_touch _ _)
  with_reducible exact only_refl _ _
  with_reducible refine only_step ?_ (ans_touch _ _ _)
  with_reducible refine only_step ?_ (State.recordUpd_touch _ _)
  with_reducible exact only_refl _ _

theorem State.sample_touch : ∀ s x1 x2, (State.sample s x1 x2).onlyChanges s [.store] := by
  intro s x1 x2
  unfold State.sample
  conv => zeta
  split
  with_reducible exact only_refl _ _
  with_reducible refine only_ite ?_ ?_
  with_reducible exact only_refl _ _
  with_reducible refine only_step ?_ (State.setPort_touch _ _ _)
  with_reducible exact only_refl _ _

theorem State.bridgeDelay_touch : ∀ s x1 x2, (State.bridgeDelay s x1 x2).2.onlyChanges s [.interrupts, .tallies, .daybook, .outputs, .flash, .seeds] := by
  intro s x1 x2
  unfold State.bridgeDelay
  conv => zeta
  with_reducible refine only_step ?_ (State.inject_touch _ _ _)
  with_reducible exact only_refl _ _

theorem State.flbStart_touch : ∀ s, (State.flbStart s).onlyChanges s [.interrupts, .tallies, .daybook, .outputs, .flash, .bridge, .seeds] := by
  intro s
  unfold State.flbStart
  conv => zeta
  split
  with_reducible exact only_refl _ _
  with_reducible refine only_step ?_ (State.send_touch _ _)
  with_reducible refine only_set_bridge _ ?_ ?_
  with_reducible refine only_step ?_ (State.bridgeDelay_touch _ _ _)
  with_reducible exact only_refl _ _
  exact (rfl : _ = true)

theorem State.flbNext_touch : ∀ s, (State.flbNext s).onlyChanges s [.interrupts, .tallies, .daybook, .outputs, .flash, .bridge, .seeds] := by
  intro s
  unfold State.flbNext
  conv => zeta
  with_reducible refine only_ite ?_ ?_
  with_reducible refine only_step ?_ (State.flbStart_touch _)
  with_reducible refine only_set_bridge _ ?_ ?_
  with_reducible exact only_refl _ _
  exact (rfl : _ = true)
  with_reducible refine only_step ?_ (State.flbAsk_touch _)
  with_reducible refine only_set_bridge _ ?_ ?_
  with_reducible refine only_set_bridge _ ?_ ?_
  with_reducible exact only_refl _ _
  exact (rfl : _ = true)
  exact (rfl : _ = true)

theorem State.readDone_touch : ∀ s, (State.readDone s).onlyChanges s [.mailbox, .interrupts, .tallies, .outputs, .bridge] := by
  intro s
  unfold State.readDone
  conv => zeta
  with_reducible refine only_ite ?_ ?_
  with_reducible exact only_refl _ _
  split
  with_reducible refine only_step ?_ (State.finish_touch _ _ _ _)
  with_reducible refine only_set_bridge _ ?_ ?_
  with_reducible exact only_refl _ _
  exact (rfl : _ = true)
  with_reducible exact only_refl _ _

theorem State.flbDone_touch : ∀ s x1 x2, (State.flbDone s x1 x2).onlyChanges s [.mailbox, .interrupts, .tallies, .daybook, .outputs, .flash, .bridge, .seeds] := by
  intro s x1 x2
  unfold State.flbDone
  conv => zeta
  with_reducible refine only_ite ?_ ?_
  with_reducible refine only_step ?_ (State.flbNext_touch _)
  with_reducible refine only_step ?_ (State.count_touch _ _)
  with_reducible exact only_refl _ _
  with_reducible refine only_step ?_ (State.readDone_touch _)
  with_reducible refine only_step ?_ (State.flbNext_touch _)
  with_reducible refine only_step ?_ (State.count_touch _ _)
  with_reducible refine only_set_bridge _ ?_ ?_
  with_reducible exact only_refl _ _
  exact (rfl : _ = true)

theorem State.flbFail_touch : ∀ s x1 x2, (State.flbFail s x1 x2).onlyChanges s [.mailbox, .interrupts, .tallies, .daybook, .outputs, .flash, .bridge, .seeds] := by
  intro s x1 x2
  unfold State.flbFail
  extract_lets y0
  have h0 : y0.onlyChanges s [.mailbox, .interrupts, .tallies, .daybook, .outputs, .flash, .bridge, .seeds] := by
    first
      | exact only_refl _ _
      | (unfold y0
         conv => zeta
         with_reducible refine only_step ?_ (State.count_touch _ _)
         with_reducible exact only_refl _ _)
  clear_value y0
  conv => zeta
  with_reducible refine only_ite ?_ ?_
  with_reducible refine only_step ?_ (State.flbNext_touch _)
  with_reducible refine only_step ?_ (State.dishonour_touch _ _ _ _ _ _ _)
  with_reducible exact h0
  with_reducible refine only_step ?_ (State.finish_touch _ _ _ _)
  with_reducible refine only_step ?_ (State.flbNext_touch _)
  with_reducible refine only_set_bridge _ ?_ ?_
  with_reducible exact h0
  exact (rfl : _ = true)

theorem State.flbResponse_touch : ∀ s x1 x2, (State.flbResponse s x1 x2).onlyChanges s [.mailbox, .interrupts, .tallies, .daybook, .outputs, .flash, .bridge, .seeds] := by
  intro s x1 x2
  unfold State.flbResponse
  conv => zeta
  split
  with_reducible exact only_refl _ _
  with_reducible refine only_ite ?_ ?_
  with_reducible exact only_refl _ _
  split
  with_reducible refine only_step ?_ (State.flbDone_touch _ _ _)
  with_reducible exact only_refl _ _
  with_reducible refine only_step ?_ (State.flbFail_touch _ _ _)
  with_reducible exact only_refl _ _
  with_reducible refine only_ite ?_ ?_
  with_reducible refine only_step ?_ (State.flbFail_touch _ _ _)
  with_reducible exact only_refl _ _
  with_reducible refine only_step ?_ (State.flbAsk_touch _)
  with_reducible refine only_set_bridge _ ?_ ?_
  with_reducible exact only_refl _ _
  exact (rfl : _ = true)

theorem State.setTimeConf_touch : ∀ s x1, (State.setTimeConf s x1).onlyChanges s [.interrupts, .tallies, .daybook, .outputs, .flash, .time] := by
  intro s x1
  unfold State.setTimeConf
  conv => zeta
  with_reducible refine only_ite ?_ ?_
  with_reducible refine only_set_time _ ?_ ?_
  with_reducible exact only_refl _ _
  exact (rfl : _ = true)
  with_reducible refine only_step ?_ (State.bmc_touch _)
  with_reducible refine only_foldl _ _ (fun _ _ => ?_) _ _ _ ?_
  with_reducible refine only_ite ?_ ?_
  with_reducible refine only_step ?_ (State.setTport_touch _ _ _)
  with_reducible exact only_refl _ _
  with_reducible exact only_refl _ _
  with_reducible refine only_set_time _ ?_ ?_
  with_reducible exact only_refl _ _
  exact (rfl : _ = true)

theorem cmdTimeConfig_touch : ∀ b s, (cmdTimeConfig.run b s).st.onlyChanges s [.interrupts, .tallies, .daybook, .outputs, .flash, .time] := by
  intro b s
  unfold cmdTimeConfig
  dsimp only
  with_reducible refine only_ite3 ?_ ?_
  with_reducible refine only_step ?_ (ans_touch _ _ _)
  with_reducible exact only_refl _ _
  with_reducible refine only_ite3 ?_ ?_
  with_reducible refine only_step ?_ (refuse_touch _ _)
  with_reducible exact only_refl _ _
  with_reducible refine only_ite3 ?_ ?_
  with_reducible refine only_step ?_ (refuse_touch _ _)
  with_reducible exact only_refl _ _
  with_reducible refine only_ite3 ?_ ?_
  with_reducible refine only_step ?_ (refuse_touch _ _)
  with_reducible exact only_refl _ _
  with_reducible refine only_step ?_ (ans_touch _ _ _)
  with_reducible refine only_ite ?_ ?_
  with_reducible refine only_step ?_ (State.persist_touch _ _ _)
  with_reducible refine only_step ?_ (State.setTimeConf_touch _ _)
  with_reducible exact only_refl _ _
  with_reducible refine only_step ?_ (State.setTimeConf_touch _ _)
  with_reducible exact only_refl _ _

theorem State.commitPoint_touch : ∀ s x1, (State.commitPoint s x1).onlyChanges s [.outputs, .can] := by
  intro s x1
  unfold State.commitPoint
  conv => zeta
  split
  with_reducible exact only_refl _ _
  with_reducible refine only_ite ?_ ?_
  with_reducible exact only_refl _ _
  split
  with_reducible exact only_refl _ _
  with_reducible refine only_step ?_ (State.send_touch _ _)
  with_reducible refine only_step ?_ (State.setCtl_touch _ _ _)
  with_reducible exact only_refl _ _

theorem cmdIdentify_touch : ∀ b s, (cmdIdentify.run b s).st.onlyChanges s [] := by
  intro b s
  unfold cmdIdentify
  dsimp only
  with_reducible refine only_step ?_ (ans_touch _ _ _)
  with_reducible exact only_refl _ _

theorem State.actAt_touch : ∀ s x1, (State.actAt s x1).st.onlyChanges s [.tallies, .parison] := by
  intro s x1
  unfold State.actAt
  conv => zeta
  with_reducible refine only_ite3 ?_ ?_
  with_reducible refine only_step ?_ (refuse_touch _ _)
  with_reducible exact only_refl _ _
  split
  with_reducible refine only_step ?_ (refuse_touch _ _)
  with_reducible exact only_refl _ _
  with_reducible refine only_ite3 ?_ ?_
  with_reducible refine only_step ?_ (refuse_touch _ _)
  with_reducible exact only_refl _ _
  with_reducible refine only_ite3 ?_ ?_
  with_reducible refine only_step ?_ (refuse_touch _ _)
  with_reducible exact only_refl _ _
  with_reducible refine only_ite3 ?_ ?_
  with_reducible refine only_step ?_ (refuse_touch _ _)
  with_reducible exact only_refl _ _
  with_reducible refine only_ite3 ?_ ?_
  with_reducible refine only_step ?_ (refuse_touch _ _)
  with_reducible exact only_refl _ _
  with_reducible refine only_ite3 ?_ ?_
  with_reducible refine only_step ?_ (refuse_touch _ _)
  with_reducible exact only_refl _ _
  with_reducible refine only_ite3 ?_ ?_
  with_reducible refine only_step ?_ (refuse_touch _ _)
  with_reducible refine only_step ?_ (State.count_touch _ _)
  with_reducible exact only_refl _ _
  with_reducible refine only_ite3 ?_ ?_
  with_reducible refine only_step ?_ (refuse_touch _ _)
  with_reducible exact only_refl _ _
  with_reducible refine only_step ?_ (ans_touch _ _ _)
  with_reducible refine only_set_par _ ?_ ?_
  with_reducible exact only_refl _ _
  exact (rfl : _ = true)

theorem cmdActAt_touch : ∀ b s, (cmdActAt.run b s).st.onlyChanges s [.tallies, .parison] := by
  intro b s
  unfold cmdActAt
  dsimp only
  with_reducible refine only_ite3 ?_ ?_
  with_reducible refine only_step ?_ (refuse_touch _ _)
  with_reducible exact only_refl _ _
  with_reducible refine only_step ?_ (State.actAt_touch _ _)
  with_reducible exact only_refl _ _

theorem State.commitIn_touch : ∀ s x1 x2, (State.commitIn s x1 x2).onlyChanges s [.interrupts, .tallies, .daybook, .outputs, .flash, .can, .sleep] := by
  intro s x1 x2
  unfold State.commitIn
  conv => zeta
  with_reducible refine only_ite ?_ ?_
  with_reducible exact only_refl _ _
  with_reducible refine only_ite ?_ ?_
  with_reducible refine only_step ?_ (State.takeRound_touch _ _)
  with_reducible refine only_set_sleep _ ?_ ?_
  with_reducible exact only_refl _ _
  exact (rfl : _ = true)
  with_reducible refine only_ite ?_ ?_
  with_reducible refine only_step ?_ (State.note_touch _ _ _)
  with_reducible refine only_step ?_ (State.takeRound_touch _ _)
  with_reducible refine only_set_sleep _ ?_ ?_
  with_reducible exact only_refl _ _
  exact (rfl : _ = true)
  with_reducible refine only_ite ?_ ?_
  with_reducible refine only_step ?_ (State.selfAbort_touch _ _)
  with_reducible refine only_step ?_ (State.takeRound_touch _ _)
  with_reducible refine only_set_sleep _ ?_ ?_
  with_reducible exact only_refl _ _
  exact (rfl : _ = true)
  with_reducible refine only_step ?_ (State.arm_touch _)
  with_reducible refine only_set_sleep _ ?_ ?_
  with_reducible refine only_step ?_ (State.takeRound_touch _ _)
  with_reducible refine only_set_sleep _ ?_ ?_
  with_reducible exact only_refl _ _
  exact (rfl : _ = true)
  exact (rfl : _ = true)

theorem State.slotEnd_touch : ∀ s x1, (State.slotEnd s x1).onlyChanges s [.interrupts, .tallies, .daybook, .outputs, .flash, .bridge] := by
  intro s x1
  unfold State.slotEnd
  conv => zeta
  split
  with_reducible refine only_ite ?_ ?_
  with_reducible refine only_ite ?_ ?_
  with_reducible refine only_step ?_ (State.count_touch _ _)
  with_reducible refine only_step ?_ (State.dishonour_touch _ _ _ _ _ _ _)
  with_reducible refine only_step ?_ (State.setSlot_touch _ _ _)
  with_reducible exact only_refl _ _
  with_reducible refine only_step ?_ (State.setSlot_touch _ _ _)
  with_reducible exact only_refl _ _
  with_reducible exact only_refl _ _
  with_reducible exact only_refl _ _

theorem State.arbLost_touch : ∀ s x1, (State.arbLost s x1).onlyChanges s [.mailbox, .interrupts, .tallies, .outputs, .can, .sleep] := by
  intro s x1
  unfold State.arbLost
  conv => zeta
  split
  with_reducible exact only_refl _ _
  split
  with_reducible exact only_refl _ _
  with_reducible refine only_ite ?_ ?_
  with_reducible exact only_refl _ _
  with_reducible refine only_step ?_ (State.frameEnd_touch _ _ _ _ _ _ _ _)
  with_reducible refine only_step ?_ (State.count_touch _ _)
  with_reducible exact only_refl _ _

theorem State.lineAlign_touch : ∀ s x1, (State.lineAlign s x1).onlyChanges s [.interrupts, .tallies, .daybook, .outputs, .flash, .pace, .gaffer] := by
  intro s x1
  unfold State.lineAlign
  conv => zeta
  with_reducible refine only_step ?_ (State.align_touch _ _ _ _ _ _)
  with_reducible refine only_set_pace _ ?_ ?_
  with_reducible exact only_refl _ _
  exact (rfl : _ = true)

theorem State.lineValid_touch : ∀ s x1 x2 x3 x4, (State.lineValid s x1 x2 x3 x4).onlyChanges s [.interrupts, .tallies, .daybook, .outputs, .flash, .pace, .gaffer] := by
  intro s x1 x2 x3 x4
  unfold State.lineValid
  conv => zeta
  with_reducible refine only_ite ?_ ?_
  with_reducible exact only_refl _ _
  with_reducible refine only_ite ?_ ?_
  with_reducible refine only_set_pace _ ?_ ?_
  with_reducible refine only_step ?_ (State.note_touch _ _ _)
  with_reducible exact only_refl _ _
  exact (rfl : _ = true)
  with_reducible refine only_ite ?_ ?_
  with_reducible exact only_refl _ _
  with_reducible refine only_ite ?_ ?_
  with_reducible refine only_step ?_ (State.lineAlign_touch _ _)
  with_reducible refine only_step ?_ (State.note_touch _ _ _)
  with_reducible refine only_set_pace _ ?_ ?_
  with_reducible exact only_refl _ _
  exact (rfl : _ = true)
  with_reducible refine only_ite ?_ ?_
  with_reducible refine only_step ?_ (State.lineAlign_touch _ _)
  with_reducible exact only_refl _ _
  with_reducible exact only_refl _ _

theorem State.crossing_touch : ∀ s x1, (State.crossing s x1).onlyChanges s [.interrupts, .tallies, .daybook, .outputs, .flash, .trackers, .pace, .gaffer] := by
  intro s x1
  unfold State.crossing
  conv => zeta
  split
  with_reducible exact only_refl _ _
  split
  with_reducible exact only_refl _ _
  split
  with_reducible refine only_step ?_ (State.note_touch _ _ _)
  with_reducible refine only_step ?_ (State.count_touch _ _)
  with_reducible refine only_step ?_ (State.setTracker_touch _ _ _)
  with_reducible exact only_refl _ _
  with_reducible refine only_step ?_ (State.setTracker_touch _ _ _)
  with_reducible exact only_refl _ _
  with_reducible refine only_ite ?_ ?_
  with_reducible refine only_ite ?_ ?_
  with_reducible refine only_step ?_ (State.lineLost_touch _ _)
  with_reducible refine only_step ?_ (State.note_touch _ _ _)
  with_reducible refine only_step ?_ (State.count_touch _ _)
  with_reducible refine only_step ?_ (State.setTracker_touch _ _ _)
  with_reducible exact only_refl _ _
  with_reducible refine only_step ?_ (State.note_touch _ _ _)
  with_reducible refine only_step ?_ (State.count_touch _ _)
  with_reducible refine only_step ?_ (State.setTracker_touch _ _ _)
  with_reducible exact only_refl _ _
  with_reducible refine only_step ?_ (State.setTracker_touch _ _ _)
  with_reducible exact only_refl _ _
  with_reducible refine only_ite ?_ ?_
  with_reducible refine only_step ?_ (State.lineValid_touch _ _ _ _ _)
  with_reducible refine only_step ?_ (State.setTracker_touch _ _ _)
  with_reducible exact only_refl _ _
  with_reducible refine only_step ?_ (State.setTracker_touch _ _ _)
  with_reducible exact only_refl _ _

theorem State.snapOne_touch : ∀ s x1, (State.snapOne s x1).onlyChanges s [.tallies] := by
  intro s x1
  unfold State.snapOne
  conv => zeta
  with_reducible refine only_step ?_ (State.tlyClear_touch _ _)
  with_reducible refine only_set_tly _ ?_ ?_
  with_reducible exact only_refl _ _
  exact (rfl : _ = true)

theorem State.snapGroups_touch : ∀ s x1, (State.snapGroups s x1).onlyChanges s [.tallies, .gaffer] := by
  intro s x1
  unfold State.snapGroups
  conv => zeta
  with_reducible refine only_set_tly _ ?_ ?_
  with_reducible refine only_foldl _ _ (fun _ _ => ?_) _ _ _ ?_
  with_reducible refine only_step ?_ (State.snapOne_touch _ _)
  with_reducible exact only_refl _ _
  with_reducible refine only_step ?_ (State.spineCount_touch _)
  with_reducible exact only_refl _ _
  exact (rfl : _ = true)

theorem State.goDown_touch : ∀ s x1, (State.goDown s x1).onlyChanges s [.mailbox, .interrupts, .clock, .tallies, .daybook, .outputs, .system, .flash, .feeds, .lehr, .parison, .trackers, .pace, .gaffer, .ports, .fabric, .store, .inaug, .time, .can, .sleep, .measure, .triad, .twin, .bridge, .vault, .seeds] := by
  intro s t
  unfold State.goDown
  extract_lets u0 r u1 lost u2 w y u3 u4 off z1 z2
  apply only_all
  have h0 := ((only_step (only_step (only_sub (b := [.mailbox, .interrupts, .clock, .tallies, .daybook, .outputs, .system, .flash, .feeds, .lehr, .parison, .trackers, .pace, .gaffer, .ports, .fabric, .store, .inaug, .time, .can, .sleep, .measure, .triad, .twin, .bridge, .vault, .seeds]) (State.saveEnergy_touch s) rfl) (State.count_touch ..) rfl)
    (State.note_touch ..) rfl : u0.onlyChanges s _)).1
  clear_value u0
  have h1 : u1.pending = s.pending := by
    refine Eq.trans ?_ h0
    unfold u1 r
    split
    · exact (State.fresh_touch _ _).1
    · rfl
  clear_value lost u1 r
  have h2 : u2.pending = s.pending := by
    unfold u2
    split
    · exact (State.writeDeferred_touch _).1.trans h1
    · exact h1
  clear_value u2
  have h4 : u4.pending = u3.pending := (State.mainReset_touch u3 false).1
  exact h4.trans h2

theorem State.addEnergy_touch : ∀ s x1 x2 x3, (State.addEnergy s x1 x2 x3).onlyChanges s [.tallies, .measure] := by
  intro s x1 x2 x3
  unfold State.addEnergy
  conv => zeta
  split
  with_reducible exact only_refl _ _
  with_reducible refine only_ite ?_ ?_
  with_reducible refine only_step ?_ (State.setPair_touch _ _ _)
  with_reducible exact only_refl _ _
  split
  with_reducible refine only_step ?_ (State.setPair_touch _ _ _)
  with_reducible refine only_ite ?_ ?_
  with_reducible refine only_step ?_ (State.settleEnergy_touch _ _)
  with_reducible exact only_refl _ _
  with_reducible exact only_refl _ _
  with_reducible refine only_ite ?_ ?_
  with_reducible refine only_step ?_ (State.settleEnergy_touch _ _)
  with_reducible exact only_refl _ _
  with_reducible exact only_refl _ _

theorem State.pairOutput_touch : ∀ s x1 x2 x3 x4 x5, (State.pairOutput s x1 x2 x3 x4 x5).onlyChanges s [.tallies, .measure] := by
  intro s x1 x2 x3 x4 x5
  unfold State.pairOutput
  conv => zeta
  split
  with_reducible exact only_refl _ _
  with_reducible refine only_ite ?_ ?_
  with_reducible exact only_refl _ _
  split
  with_reducible refine only_ite ?_ ?_
  with_reducible refine only_step ?_ (State.addEnergy_touch _ _ _ _)
  with_reducible refine only_step ?_ (State.setPair_touch _ _ _)
  with_reducible exact only_refl _ _
  with_reducible refine only_step ?_ (State.setPair_touch _ _ _)
  with_reducible exact only_refl _ _
  with_reducible refine only_step ?_ (State.setPair_touch _ _ _)
  with_reducible exact only_refl _ _

theorem State.pairClose_touch : ∀ s x1, (State.pairClose s x1).onlyChanges s [.clock, .tallies, .measure] := by
  intro s x1
  unfold State.pairClose
  conv => zeta
  split
  with_reducible exact only_refl _ _
  split
  split
  with_reducible refine only_ite ?_ ?_
  with_reducible exact only_refl _ _
  with_reducible refine only_ite ?_ ?_
  with_reducible refine only_step ?_ (State.count_touch _ _)
  with_reducible refine only_step ?_ (State.setPair_touch _ _ _)
  with_reducible refine only_step ?_ (State.fresh_touch _ _)
  with_reducible exact only_refl _ _
  with_reducible refine only_step ?_ (State.setPair_touch _ _ _)
  with_reducible refine only_step ?_ (State.fresh_touch _ _)
  with_reducible exact only_refl _ _
  with_reducible exact only_refl _ _
  with_reducible exact only_refl _ _

theorem State.filterOut_touch : ∀ s x1 x2, (State.filterOut s x1 x2).onlyChanges s [.clock, .tallies, .trackers, .measure] := by
  intro s ch raw
  unfold State.filterOut
  split
  · exact only_refl _ _
  · extract_lets g f clip u0 level u1 tt v y now due w u2 u3
    have h0 : u0.onlyChanges s [.clock, .tallies, .trackers, .measure] :=
      only_ite (only_sub (State.count_touch ..) rfl) (only_refl _ _)
    clear_value u0
    have hl : ∀ (u : State) k, u.onlyChanges s [.clock, .tallies, .trackers, .measure] →
        (level u k).onlyChanges s [.clock, .tallies, .trackers, .measure] := by
      intro u k hu
      unfold level
      split
      · exact only_ite (only_step hu (State.setTracker_touch ..) rfl) hu
      · exact hu
    clear_value level
    have h1 : u1.onlyChanges s [.clock, .tallies, .trackers, .measure] := hl _ _ (hl _ _ h0)
    clear_value u1
    have h2 : u2.onlyChanges s [.clock, .tallies, .trackers, .measure] :=
      only_step h1 (State.setChan_touch ..) rfl
    clear_value u2
    have h3 : u3.onlyChanges s [.clock, .tallies, .trackers, .measure] :=
      only_foldl _ _ (fun a b => only_sub (State.pairOutput_touch ..) rfl) _ _ _ h2
    clear_value u3
    refine only_ite (only_refl _ _) (only_ite (only_sub (State.setChan_touch ..) rfl) ?_)
    exact only_foldl _ _ (fun a b => only_sub (State.pairClose_touch ..) rfl) _ _ _ h3

theorem State.holdPorts_touch : ∀ s x1 x2, (State.holdPorts s x1 x2).onlyChanges s [.interrupts, .tallies, .daybook, .outputs, .flash, .seeds] := by
  intro s x1 x2
  unfold State.holdPorts
  conv => zeta
  with_reducible refine only_ite ?_ ?_
  with_reducible refine only_step ?_ (State.setSeed_touch _ _ _)
  with_reducible exact only_refl _ _
  with_reducible refine only_set_seeds _ ?_ ?_
  with_reducible refine only_step ?_ (State.setSeed_touch _ _ _)
  with_reducible refine only_step ?_ (State.seedHit_touch _ _)
  with_reducible exact only_refl _ _
  exact (rfl : _ = true)

theorem State.cancelActivation_touch : ∀ s, (State.cancelActivation s).st.onlyChanges s [.interrupts, .tallies, .daybook, .outputs, .flash, .parison] := by
  intro s
  unfold State.cancelActivation
  conv => zeta
  split
  with_reducible refine only_ite3 ?_ ?_
  with_reducible refine only_step ?_ (refuse_touch _ _)
  with_reducible refine only_step ?_ (State.count_touch _ _)
  with_reducible exact only_refl _ _
  with_reducible refine only_step ?_ (timeAns_touch _ _)
  with_reducible refine only_step ?_ (State.note_touch _ _ _)
  with_reducible refine only_set_par _ ?_ ?_
  with_reducible exact only_refl _ _
  exact (rfl : _ = true)
  with_reducible refine only_step ?_ (refuse_touch _ _)
  with_reducible exact only_refl _ _

theorem cmdActivate_touch : ∀ b s, (cmdActivate.run b s).st.onlyChanges s [.interrupts, .tallies, .daybook, .outputs, .flash, .parison] := by
  intro b s
  unfold cmdActivate
  dsimp only
  with_reducible refine only_ite3 ?_ ?_
  with_reducible refine only_step ?_ (State.cancelActivation_touch _)
  with_reducible exact only_refl _ _
  with_reducible refine only_ite3 ?_ ?_
  with_reducible refine only_step ?_ (refuse_touch _ _)
  with_reducible exact only_refl _ _
  with_reducible refine only_step ?_ (State.activate_touch _ _ _)
  with_reducible exact only_refl _ _

theorem cmdTriadStatus_touch : ∀ b s, (cmdTriadStatus.run b s).st.onlyChanges s [] := by
  intro b s
  unfold cmdTriadStatus
  dsimp only
  with_reducible refine only_step ?_ (ans_touch _ _ _)
  with_reducible exact only_refl _ _

theorem State.vaultBack_touch : ∀ s, (State.vaultBack s).onlyChanges s [.interrupts, .tallies, .daybook, .outputs, .flash, .vault] := by
  intro s
  unfold State.vaultBack
  conv => zeta
  with_reducible refine only_ite ?_ ?_
  with_reducible exact only_refl _ _
  with_reducible refine only_foldl _ _ (fun _ _ => ?_) _ _ _ ?_
  with_reducible refine only_ite ?_ ?_
  with_reducible refine only_step ?_ (State.keyStart_touch _ _)
  with_reducible exact only_refl _ _
  with_reducible exact only_refl _ _
  with_reducible refine only_set_sec _ ?_ ?_
  with_reducible exact only_refl _ _
  exact (rfl : _ = true)

theorem State.resyncStart_touch : ∀ s, (State.resyncStart s).onlyChanges s [.triad] := by
  intro s
  unfold State.resyncStart
  conv => zeta
  with_reducible refine only_ite ?_ ?_
  with_reducible exact only_refl _ _
  split
  with_reducible refine only_set_triad _ ?_ ?_
  with_reducible exact only_refl _ _
  exact (rfl : _ = true)
  with_reducible exact only_refl _ _

theorem cmdCanStatus_touch : ∀ b s, (cmdCanStatus.run b s).st.onlyChanges s [] := by
  intro b s
  unfold cmdCanStatus
  dsimp only
  with_reducible refine only_ite3 ?_ ?_
  with_reducible refine only_step ?_ (refuse_touch _ _)
  with_reducible exact only_refl _ _
  with_reducible refine only_ite3 ?_ ?_
  with_reducible refine only_step ?_ (refuse_touch _ _)
  with_reducible exact only_refl _ _
  split
  with_reducible refine only_step ?_ (refuse_touch _ _)
  with_reducible exact only_refl _ _
  with_reducible refine only_step ?_ (ans_touch _ _ _)
  with_reducible exact only_refl _ _

theorem cmdTriadRestart_touch : ∀ b s, (cmdTriadRestart.run b s).st.onlyChanges s [.triad] := by
  intro b s
  unfold cmdTriadRestart
  dsimp only
  with_reducible refine only_ite3 ?_ ?_
  with_reducible refine only_step ?_ (ans_touch _ _ _)
  with_reducible refine only_set_triad _ ?_ ?_
  with_reducible exact only_refl _ _
  exact (rfl : _ = true)
  with_reducible refine only_step ?_ (refuse_touch _ _)
  with_reducible exact only_refl _ _

theorem State.topologyIn_touch : ∀ s x1 x2, (State.topologyIn s x1 x2).onlyChanges s [.interrupts, .tallies, .daybook, .outputs, .flash, .inaug] := by
  intro s x1 x2
  unfold State.topologyIn
  conv => zeta
  with_reducible refine only_ite ?_ ?_
  with_reducible exact only_refl _ _
  with_reducible refine only_step ?_ (State.agree_touch _)
  with_reducible refine only_step ?_ (State.inhibitUpdate_touch _)
  with_reducible refine only_step ?_ (State.newViews_touch _ _ _ _)
  split
  with_reducible refine only_set_inaug _ ?_ ?_
  with_reducible refine only_step ?_ (State.enterFast_touch _)
  with_reducible exact only_refl _ _
  exact (rfl : _ = true)
  with_reducible refine only_set_inaug _ ?_ ?_
  with_reducible exact only_refl _ _
  exact (rfl : _ = true)

theorem State.flbAnswer_touch : ∀ s x1 x2, (State.flbAnswer s x1 x2).onlyChanges s [.outputs] := by
  intro s x1 x2
  unfold State.flbAnswer
  conv => zeta
  with_reducible refine only_step ?_ (State.send_touch _ _)
  with_reducible exact only_refl _ _

theorem State.flbRetry_touch : ∀ s x1, (State.flbRetry s x1).onlyChanges s [.tallies, .outputs] := by
  intro s x1
  unfold State.flbRetry
  conv => zeta
  with_reducible refine only_step ?_ (State.flbAnswer_touch _ _ _)
  with_reducible refine only_step ?_ (State.count_touch _ _)
  with_reducible exact only_refl _ _

theorem State.flbEnter_touch : ∀ s x1 x2, (State.flbEnter s x1 x2).2.onlyChanges s [.tallies, .outputs, .bridge] := by
  intro s x1 x2
  unfold State.flbEnter
  conv => zeta
  with_reducible refine only_ite2 ?_ ?_
  with_reducible refine only_ite ?_ ?_
  with_reducible exact only_refl _ _
  with_reducible refine only_set_bridge _ ?_ ?_
  with_reducible exact only_refl _ _
  exact (rfl : _ = true)
  split
  with_reducible refine only_ite ?_ ?_
  with_reducible exact only_refl _ _
  with_reducible refine only_set_bridge _ ?_ ?_
  with_reducible exact only_refl _ _
  exact (rfl : _ = true)
  with_reducible refine only_ite2 ?_ ?_
  with_reducible refine only_step ?_ (State.flbRetry_touch _ _) ?_
  with_reducible refine only_ite ?_ ?_
  split
  with_reducible refine only_set_bridge _ ?_ ?_
  with_reducible exact only_refl _ _
  exact (rfl : _ = true)
  with_reducible refine only_set_bridge _ ?_ ?_
  with_reducible refine only_set_bridge _ ?_ ?_
  with_reducible exact only_refl _ _
  exact (rfl : _ = true)
  exact (rfl : _ = true)
  with_reducible refine only_ite ?_ ?_
  with_reducible exact only_refl _ _
  with_reducible refine only_set_bridge _ ?_ ?_
  with_reducible exact only_refl _ _
  exact (rfl : _ = true)
  exact (rfl : _ = true)
  with_reducible refine only_ite2 ?_ ?_
  with_reducible refine only_step ?_ (State.flbRetry_touch _ _) ?_
  with_reducible refine only_ite ?_ ?_
  split
  with_reducible refine only_set_bridge _ ?_ ?_
  with_reducible exact only_refl _ _
  exact (rfl : _ = true)
  with_reducible refine only_set_bridge _ ?_ ?_
  with_reducible refine only_set_bridge _ ?_ ?_
  with_reducible exact only_refl _ _
  exact (rfl : _ = true)
  exact (rfl : _ = true)
  with_reducible refine only_ite ?_ ?_
  with_reducible exact only_refl _ _
  with_reducible refine only_set_bridge _ ?_ ?_
  with_reducible exact only_refl _ _
  exact (rfl : _ = true)
  exact (rfl : _ = true)
  with_reducible refine only_ite2 ?_ ?_
  with_reducible refine only_step ?_ (State.flbAnswer_touch _ _ _) ?_
  with_reducible refine only_ite ?_ ?_
  split
  with_reducible refine only_set_bridge _ ?_ ?_
  with_reducible exact only_refl _ _
  exact (rfl : _ = true)
  with_reducible refine only_set_bridge _ ?_ ?_
  with_reducible refine only_set_bridge _ ?_ ?_
  with_reducible exact only_refl _ _
  exact (rfl : _ = true)
  exact (rfl : _ = true)
  with_reducible refine only_ite ?_ ?_
  with_reducible exact only_refl _ _
  with_reducible refine only_set_bridge _ ?_ ?_
  with_reducible exact only_refl _ _
  exact (rfl : _ = true)
  exact (rfl : _ = true)
  with_reducible refine only_ite ?_ ?_
  split
  with_reducible refine only_set_bridge _ ?_ ?_
  with_reducible exact only_refl _ _
  exact (rfl : _ = true)
  with_reducible refine only_set_bridge _ ?_ ?_
  with_reducible refine only_set_bridge _ ?_ ?_
  with_reducible exact only_refl _ _
  exact (rfl : _ = true)
  exact (rfl : _ = true)
  with_reducible refine only_ite ?_ ?_
  with_reducible exact only_refl _ _
  with_reducible refine only_set_bridge _ ?_ ?_
  with_reducible exact only_refl _ _
  exact (rfl : _ = true)

theorem State.flbWriteIn_touch : ∀ s x1 x2 x3 x4, (State.flbWriteIn s x1 x2 x3 x4).onlyChanges s [.interrupts, .tallies, .daybook, .outputs, .flash, .bridge, .seeds] := by
  intro s addr be d lock
  unfold State.flbWriteIn
  extract_lets a r
  have h0 : r.2.onlyChanges s [.interrupts, .tallies, .daybook, .outputs, .flash, .bridge, .seeds] := only_sub (State.flbEnter_touch ..) rfl
  clear_value r
  split
  · exact h0
  · split
    · exact only_step h0 (State.flbAnswer_touch ..) rfl
    · split
      · exact only_step h0 (State.flbRetry_touch ..) rfl
      · extract_lets x u0 e z u1
        have hx : u0.onlyChanges s [.interrupts, .tallies, .daybook, .outputs, .flash, .bridge, .seeds] := only_step h0 (State.bridgeDelay_touch ..) rfl
        clear_value u0
        have h1 : u1.onlyChanges s [.interrupts, .tallies, .daybook, .outputs, .flash, .bridge, .seeds] := only_set_bridge _ hx rfl
        clear_value u1
        exact only_step (only_step h1 (State.count_touch ..) rfl) (State.flbAnswer_touch ..) rfl

theorem State.restorePort_touch : ∀ s x1 x2, (State.restorePort s x1 x2).onlyChanges s [.interrupts, .clock, .tallies, .outputs, .store] := by
  intro s x1 x2
  unfold State.restorePort
  conv => zeta
  split
  with_reducible exact only_refl _ _
  with_reducible refine only_ite ?_ ?_
  with_reducible exact only_refl _ _
  split
  with_reducible refine only_step ?_ (State.setPort_touch _ _ _)
  with_reducible refine only_step ?_ (State.commitAs_touch _ _ _ _ _ _ _ _ _ _)
  with_reducible exact only_refl _ _
  with_reducible refine only_step ?_ (State.commitAs_touch _ _ _ _ _ _ _ _ _ _)
  with_reducible exact only_refl _ _

theorem State.tcmWrite_touch : ∀ s x1 x2, (State.tcmWrite s x1 x2).onlyChanges s [.triad] := by
  intro s x1 x2
  unfold State.tcmWrite
  conv => zeta
  with_reducible refine only_foldl _ _ (fun _ _ => ?_) _ _ _ ?_
  with_reducible refine only_step ?_ (State.setCore_touch _ _ _)
  with_reducible exact only_refl _ _
  with_reducible exact only_refl _ _

theorem State.restoreEpoch_touch : ∀ s, (State.restoreEpoch s).onlyChanges s [.interrupts, .clock, .tallies, .outputs, .store, .triad] := by
  intro s
  unfold State.restoreEpoch
  conv => zeta
  split
  with_reducible exact only_refl _ _
  with_reducible refine only_foldl _ _ (fun _ _ => ?_) _ _ _ ?_
  with_reducible refine only_ite ?_ ?_
  with_reducible refine only_step ?_ (State.restorePort_touch _ _ _)
  with_reducible exact only_refl _ _
  with_reducible refine only_ite ?_ ?_
  with_reducible refine only_step ?_ (State.tcmWrite_touch _ _ _)
  with_reducible exact only_refl _ _
  with_reducible exact only_refl _ _
  with_reducible exact only_refl _ _

theorem State.takeover_touch : ∀ s, (State.takeover s).onlyChanges s [.interrupts, .clock, .tallies, .daybook, .outputs, .flash, .ports, .fabric, .store, .time, .can, .triad, .twin, .vault, .seeds] := by
  intro s
  unfold State.takeover
  conv => zeta
  split
  with_reducible exact only_refl _ _
  with_reducible refine only_ite ?_ ?_
  with_reducible exact only_refl _ _
  with_reducible refine only_ite ?_ ?_
  with_reducible refine only_step ?_ (State.count_touch _ _)
  with_reducible refine only_step ?_ (State.goActive_touch _ _ _)
  with_reducible refine only_step ?_ (State.restoreEpoch_touch _)
  with_reducible exact only_refl _ _
  with_reducible refine only_step ?_ (State.goActive_touch _ _ _)
  with_reducible exact only_refl _ _

theorem cmdFwStage_touch : ∀ b s, (cmdFwStage.run b s).st.onlyChanges s [.system, .flash] := by
  intro b s
  unfold cmdFwStage
  dsimp -zeta only
  conv => zeta
  split
  with_reducible refine only_step ?_ (refuse_touch _ _)
  with_reducible exact only_refl _ _
  with_reducible refine only_ite3 ?_ ?_
  with_reducible refine only_step ?_ (refuse_touch _ _)
  with_reducible exact only_refl _ _
  with_reducible refine only_ite3 ?_ ?_
  with_reducible refine only_step ?_ (refuse_touch _ _)
  with_reducible exact only_refl _ _
  with_reducible refine only_ite3 ?_ ?_
  with_reducible refine only_step ?_ (refuse_touch _ _)
  with_reducible exact only_refl _ _
  with_reducible refine only_step ?_ (ans_touch _ _ _)
  with_reducible refine only_set_flash_sys _ _ ?_ ?_ ?_
  with_reducible exact only_refl _ _
  exact (rfl : _ = true)
  exact (rfl : _ = true)

theorem State.request_touch : ∀ s x1 x2, (State.request s x1 x2).onlyChanges s [.outputs, .feeds, .lehr] := by
  intro s x1 x2
  unfold State.request
  conv => zeta
  with_reducible refine only_ite ?_ ?_
  with_reducible exact only_refl _ _
  with_reducible refine only_step ?_ (State.send_touch _ _)
  with_reducible refine only_step ?_ (State.setPend_touch _ _ _)
  with_reducible refine only_step ?_ (State.setFeed_touch _ _ _)
  with_reducible exact only_refl _ _

theorem State.lehrAction_touch : ∀ s x1 x2 x3, (State.lehrAction s x1 x2 x3).onlyChanges s [.interrupts, .tallies, .daybook, .outputs, .flash] := by
  intro s x1 x2 x3
  unfold State.lehrAction
  conv => zeta
  with_reducible refine only_step ?_ (State.note_touch _ _ _)
  with_reducible exact only_refl _ _

theorem State.setUnit_touch : ∀ s x1 x2 x3, (State.setUnit s x1 x2 x3).onlyChanges s [.lehr] := by
  intro s x1 x2 x3
  unfold State.setUnit
  conv => zeta
  split
  with_reducible refine only_set_lehr _ ?_ ?_
  with_reducible exact only_refl _ _
  exact (rfl : _ = true)
  with_reducible refine only_set_lehr _ ?_ ?_
  with_reducible exact only_refl _ _
  exact (rfl : _ = true)

theorem State.bringSpare_touch : ∀ s u c t, State.bringSpare s u c = some t → t.onlyChanges s
    [.interrupts, .clock, .tallies, .daybook, .outputs, .flash, .lehr, .fabric, .store, .time, .triad, .twin, .vault, .seeds] := by
  intro s u c t h
  simp only [State.bringSpare] at h
  split at h
  · cases h; exact only_sub (State.setUnit_touch ..) rfl
  · split at h
    · cases h
      exact only_step (only_set_lehr _ (only_sub (State.fresh_touch ..) rfl) rfl) (State.setUnit_touch ..) rfl
    · split at h
      · cases h
        exact only_step (only_step (only_set_twin _ (only_refl s _) rfl) (State.laneTo_touch ..) rfl) (State.setUnit_touch ..) rfl
      · split at h
        · cases h
          exact only_step (only_step (only_set_twin _ (only_refl s _) rfl) (State.laneTo_touch ..) rfl) (State.setUnit_touch ..) rfl
        · split at h
          · cases h
            exact only_step (only_sub (State.retireCore_touch ..) rfl) (State.setUnit_touch ..) rfl
          · cases h

theorem State.markRetired_touch : ∀ s x1, (State.markRetired s x1).onlyChanges s [.system, .lehr] := by
  intro s x1
  unfold State.markRetired
  conv => zeta
  with_reducible refine only_set_sys _ ?_ ?_
  with_reducible refine only_step ?_ (State.setUnit_touch _ _ _ _)
  with_reducible exact only_refl _ _
  exact (rfl : _ = true)

theorem snd_only {s t : State} {l : List Part} {b : Bool} (h : t.onlyChanges s l) :
    ((b, t) : Bool × State).2.onlyChanges s l := h
theorem State.retireUnit_touch : ∀ s x1, (State.retireUnit s x1).2.onlyChanges s [.mailbox, .interrupts, .clock, .tallies, .daybook, .outputs, .system, .flash, .feeds, .lehr, .parison, .trackers, .pace, .gaffer, .ports, .fabric, .store, .inaug, .time, .can, .sleep, .measure, .triad, .twin, .vault, .seeds] := by
  intro s u
  have go : ∀ (v w : State) (b : List Part), v.onlyChanges s [.mailbox, .interrupts, .clock, .tallies, .daybook, .outputs, .system, .flash, .feeds, .lehr, .parison, .trackers, .pace, .gaffer, .ports, .fabric, .store, .inaug, .time, .can, .sleep, .measure, .triad, .twin, .vault, .seeds] → w.onlyChanges v b →
      partsIn b [.mailbox, .interrupts, .clock, .tallies, .daybook, .outputs, .system, .flash, .feeds, .lehr, .parison, .trackers, .pace, .gaffer, .ports, .fabric, .store, .inaug, .time, .can, .sleep, .measure, .triad, .twin, .vault, .seeds] = true → w.onlyChanges s [.mailbox, .interrupts, .clock, .tallies, .daybook, .outputs, .system, .flash, .feeds, .lehr, .parison, .trackers, .pace, .gaffer, .ports, .fabric, .store, .inaug, .time, .can, .sleep, .measure, .triad, .twin, .vault, .seeds] := fun v w b h k hb => only_step h k hb
  have h0 := only_refl s [.mailbox, .interrupts, .clock, .tallies, .daybook, .outputs, .system, .flash, .feeds, .lehr, .parison, .trackers, .pace, .gaffer, .ports, .fabric, .store, .inaug, .time, .can, .sleep, .measure, .triad, .twin, .vault, .seeds]
  have lanes : ∀ (tw : Twin) k, ((({ s with twin := tw } : State).laneTo k false).setUnit u 3 0).onlyChanges s [.mailbox, .interrupts, .clock, .tallies, .daybook, .outputs, .system, .flash, .feeds, .lehr, .parison, .trackers, .pace, .gaffer, .ports, .fabric, .store, .inaug, .time, .can, .sleep, .measure, .triad, .twin, .vault, .seeds] :=
    fun tw k => go _ _ _ (go _ _ _ (only_set_twin _ h0 rfl) (State.laneTo_touch ..) rfl) (State.setUnit_touch ..) rfl
  have bad : (s.setUnit u 2 0).onlyChanges s [.mailbox, .interrupts, .clock, .tallies, .daybook, .outputs, .system, .flash, .feeds, .lehr, .parison, .trackers, .pace, .gaffer, .ports, .fabric, .store, .inaug, .time, .can, .sleep, .measure, .triad, .twin, .vault, .seeds] := go _ _ _ h0 (State.setUnit_touch ..) rfl
  have mark := go _ _ _ h0 (State.markRetired_touch s u) rfl
  have wear : ∀ l g k, (({ s.markRetired u with lehr := l, gaf := g } : State).wornOut k).onlyChanges s [.mailbox, .interrupts, .clock, .tallies, .daybook, .outputs, .system, .flash, .feeds, .lehr, .parison, .trackers, .pace, .gaffer, .ports, .fabric, .store, .inaug, .time, .can, .sleep, .measure, .triad, .twin, .vault, .seeds] :=
    fun l g k => only_step (only_set_gaf g (only_set_lehr l mark rfl) rfl) (State.wornOut_touch _ k) rfl
  have gone : ∀ a b, ((s.markRetired u).inputsGone a b).onlyChanges s [.mailbox, .interrupts, .clock, .tallies, .daybook, .outputs, .system, .flash, .feeds, .lehr, .parison, .trackers, .pace, .gaffer, .ports, .fabric, .store, .inaug, .time, .can, .sleep, .measure, .triad, .twin, .vault, .seeds] :=
    fun a b => only_step mark (State.inputsGone_touch _ a b) rfl
  have p0 : ((s.portGone u).markRetired u).onlyChanges s [.mailbox, .interrupts, .clock, .tallies, .daybook, .outputs, .system, .flash, .feeds, .lehr, .parison, .trackers, .pace, .gaffer, .ports, .fabric, .store, .inaug, .time, .can, .sleep, .measure, .triad, .twin, .vault, .seeds] :=
    go _ _ _ (go _ _ _ h0 (State.portGone_touch ..) rfl) (State.markRetired_touch ..) rfl
  have p1 : ((s.canLossOne (u - 0x20)).markRetired u).onlyChanges s [.mailbox, .interrupts, .clock, .tallies, .daybook, .outputs, .system, .flash, .feeds, .lehr, .parison, .trackers, .pace, .gaffer, .ports, .fabric, .store, .inaug, .time, .can, .sleep, .measure, .triad, .twin, .vault, .seeds] :=
    go _ _ _ (go _ _ _ h0 (State.canLossOne_touch ..) rfl) (State.markRetired_touch ..) rfl
  have p2 : ((s.retireCore (u - 0x50) 4).setUnit u 3 0).onlyChanges s [.mailbox, .interrupts, .clock, .tallies, .daybook, .outputs, .system, .flash, .feeds, .lehr, .parison, .trackers, .pace, .gaffer, .ports, .fabric, .store, .inaug, .time, .can, .sleep, .measure, .triad, .twin, .vault, .seeds] :=
    go _ _ _ (go _ _ _ h0 (State.retireCore_touch ..) rfl) (State.setUnit_touch ..) rfl
  clear h0
  unfold State.retireUnit
  extract_lets g
  split
  · exact snd_only p0
  · split
    · exact snd_only p1
    · split
      · have h := gone (fun n => decide (n + 0x28 = u)) fun _ => false
        exact snd_only h
      · split
        · have h := gone (fun _ => false) fun n => decide (n + 0x30 = u)
          exact snd_only h
        · split
          · exact snd_only p2
          · split
            · exact snd_only (lanes _ _)
            · split
              · exact snd_only (lanes _ _)
              · split
                · split
                  · exact snd_only bad
                  · exact snd_only (wear _ _ _)
                · exact snd_only bad

theorem State.worn_touch : ∀ s x1 x2, (State.worn s x1 x2).onlyChanges s [.mailbox, .interrupts, .clock, .tallies, .daybook, .outputs, .system, .flash, .feeds, .lehr, .parison, .trackers, .pace, .gaffer, .ports, .fabric, .store, .inaug, .time, .can, .sleep, .measure, .triad, .twin, .vault, .seeds] := by
  intro s u m
  unfold State.worn
  extract_lets u0 r u1
  have h0 : u0.onlyChanges s [.mailbox, .interrupts, .clock, .tallies, .daybook, .outputs, .system, .flash, .feeds, .lehr, .parison, .trackers, .pace, .gaffer, .ports, .fabric, .store, .inaug, .time, .can, .sleep, .measure, .triad, .twin, .vault, .seeds] := only_sub (State.lehrAction_touch ..) rfl
  clear_value u0
  have h1 : r.2.onlyChanges s [.mailbox, .interrupts, .clock, .tallies, .daybook, .outputs, .system, .flash, .feeds, .lehr, .parison, .trackers, .pace, .gaffer, .ports, .fabric, .store, .inaug, .time, .can, .sleep, .measure, .triad, .twin, .vault, .seeds] := only_step h0 (State.retireUnit_touch ..) rfl
  clear_value r
  refine only_step ?_ (State.note_touch ..) rfl
  unfold u1
  split
  · exact only_step h1 (State.count_touch ..) rfl
  · exact h1

theorem State.lehrUnit_touch : ∀ s x1 x2 x3 x4 x5, (State.lehrUnit s x1 x2 x3 x4 x5).onlyChanges s [.mailbox, .interrupts, .clock, .tallies, .daybook, .outputs, .system, .flash, .feeds, .lehr, .parison, .trackers, .pace, .gaffer, .ports, .fabric, .store, .inaug, .time, .can, .sleep, .measure, .triad, .twin, .vault, .seeds] := by
  intro s x1 x2 x3 x4 x5
  unfold State.lehrUnit
  conv => zeta
  with_reducible refine only_ite ?_ ?_
  with_reducible exact only_refl _ _
  with_reducible refine only_ite ?_ ?_
  with_reducible refine only_set_lehr _ ?_ ?_
  with_reducible exact only_refl _ _
  exact (rfl : _ = true)
  with_reducible refine only_ite ?_ ?_
  with_reducible refine only_step ?_ (State.lehrAction_touch _ _ _ _)
  split
  with_reducible refine only_foldl _ _ (fun _ _ => ?_) _ _ _ ?_
  with_reducible refine only_step ?_ (State.request_touch _ _ _)
  with_reducible exact only_refl _ _
  with_reducible refine only_set_lehr _ ?_ ?_
  with_reducible exact only_refl _ _
  exact (rfl : _ = true)
  with_reducible refine only_foldl _ _ (fun _ _ => ?_) _ _ _ ?_
  with_reducible refine only_step ?_ (State.request_touch _ _ _)
  with_reducible exact only_refl _ _
  with_reducible refine only_set_lehr _ ?_ ?_
  with_reducible exact only_refl _ _
  exact (rfl : _ = true)
  with_reducible refine only_ite ?_ ?_
  with_reducible refine only_set_lehr _ ?_ ?_
  with_reducible exact only_refl _ _
  exact (rfl : _ = true)
  split
  with_reducible refine only_step ?_ (State.lehrAction_touch _ _ _ _)
  with_reducible refine only_step ?_ (State.count_touch _ _)
  with_reducible refine only_step ?_ (State.bringSpare_touch _ _ _ _ (by assumption))
  with_reducible refine only_set_lehr _ ?_ ?_
  with_reducible exact only_refl _ _
  exact (rfl : _ = true)
  with_reducible refine only_step ?_ (State.worn_touch _ _ _)
  with_reducible refine only_set_lehr _ ?_ ?_
  with_reducible exact only_refl _ _
  exact (rfl : _ = true)

theorem State.lehrOne_touch : ∀ s x1 x2, (State.lehrOne s x1 x2).onlyChanges s [.mailbox, .interrupts, .clock, .tallies, .daybook, .outputs, .system, .flash, .feeds, .lehr, .parison, .trackers, .pace, .gaffer, .ports, .fabric, .store, .inaug, .time, .can, .sleep, .measure, .triad, .twin, .vault, .seeds] := by
  intro s x1 x2
  unfold State.lehrOne
  conv => zeta
  with_reducible refine only_ite ?_ ?_
  with_reducible exact only_refl _ _
  with_reducible refine only_step ?_ (State.lehrUnit_touch _ _ _ _ _ _)
  with_reducible exact only_refl _ _

theorem State.lehrLower_touch : ∀ s x1 x2, (State.lehrLower s x1 x2).onlyChanges s [.interrupts, .tallies, .daybook, .outputs, .flash, .feeds, .lehr] := by
  intro s x1 x2
  unfold State.lehrLower
  conv => zeta
  with_reducible refine only_ite ?_ ?_
  with_reducible refine only_step ?_ (State.lehrAction_touch _ _ _ _)
  with_reducible refine only_step ?_ (State.request_touch _ _ _)
  split
  with_reducible refine only_set_lehr _ ?_ ?_
  with_reducible exact only_refl _ _
  exact (rfl : _ = true)
  with_reducible refine only_set_lehr _ ?_ ?_
  with_reducible exact only_refl _ _
  exact (rfl : _ = true)
  split
  with_reducible refine only_set_lehr _ ?_ ?_
  with_reducible exact only_refl _ _
  exact (rfl : _ = true)
  with_reducible refine only_set_lehr _ ?_ ?_
  with_reducible exact only_refl _ _
  exact (rfl : _ = true)

theorem State.lehr1_touch : ∀ s x1, (State.lehr1 s x1).onlyChanges s [.mailbox, .interrupts, .clock, .tallies, .daybook, .outputs, .system, .flash, .feeds, .lehr, .parison, .trackers, .pace, .gaffer, .ports, .fabric, .store, .inaug, .time, .can, .sleep, .measure, .triad, .twin, .vault, .seeds] := by
  intro s x1
  unfold State.lehr1
  conv => zeta
  with_reducible refine only_step ?_ (State.lehrLower_touch _ _ _)
  with_reducible refine only_step ?_ (State.lehrLower_touch _ _ _)
  split
  split
  with_reducible refine only_foldl _ _ (fun _ _ => ?_) _ _ _ ?_
  with_reducible refine only_step ?_ (State.lehrOne_touch _ _ _)
  with_reducible exact only_refl _ _
  with_reducible refine only_step ?_ (State.request_touch _ _ _)
  with_reducible refine only_step ?_ (State.request_touch _ _ _)
  with_reducible refine only_step ?_ (State.count_touch _ _)
  with_reducible refine only_set_lehr _ ?_ ?_
  with_reducible exact only_refl _ _
  exact (rfl : _ = true)
  with_reducible refine only_foldl _ _ (fun _ _ => ?_) _ _ _ ?_
  with_reducible refine only_step ?_ (State.lehrOne_touch _ _ _)
  with_reducible exact only_refl _ _
  with_reducible refine only_step ?_ (State.request_touch _ _ _)
  with_reducible refine only_step ?_ (State.count_touch _ _)
  with_reducible refine only_set_lehr _ ?_ ?_
  with_reducible exact only_refl _ _
  exact (rfl : _ = true)
  split
  with_reducible refine only_foldl _ _ (fun _ _ => ?_) _ _ _ ?_
  with_reducible refine only_step ?_ (State.lehrOne_touch _ _ _)
  with_reducible exact only_refl _ _
  with_reducible refine only_step ?_ (State.request_touch _ _ _)
  with_reducible refine only_step ?_ (State.count_touch _ _)
  with_reducible refine only_set_lehr _ ?_ ?_
  with_reducible exact only_refl _ _
  exact (rfl : _ = true)
  with_reducible refine only_foldl _ _ (fun _ _ => ?_) _ _ _ ?_
  with_reducible refine only_step ?_ (State.lehrOne_touch _ _ _)
  with_reducible exact only_refl _ _
  with_reducible refine only_step ?_ (State.count_touch _ _)
  with_reducible refine only_set_lehr _ ?_ ?_
  with_reducible exact only_refl _ _
  exact (rfl : _ = true)

theorem State.stage_touch : ∀ s x1, (State.stage s x1).onlyChanges s [.flash, .parison] := by
  intro s x1
  unfold State.stage
  extract_lets y0
  clear_value y0
  conv => zeta
  with_reducible refine only_set_par_flash _ _ ?_ ?_ ?_
  with_reducible exact only_refl _ _
  exact (rfl : _ = true)
  exact (rfl : _ = true)

theorem cmdStage_touch : ∀ b s, (cmdStage.run b s).st.onlyChanges s [.flash, .parison] := by
  intro b s
  unfold cmdStage
  dsimp only
  split
  with_reducible refine only_step ?_ (refuse_touch _ _)
  with_reducible exact only_refl _ _
  with_reducible refine only_ite3 ?_ ?_
  with_reducible refine only_step ?_ (refuse_touch _ _)
  with_reducible exact only_refl _ _
  with_reducible refine only_step ?_ (ans_touch _ _ _)
  with_reducible refine only_step ?_ (State.stage_touch _ _)
  with_reducible exact only_refl _ _

theorem State.reqIn_touch : ∀ s x1, (State.reqIn s x1).onlyChanges s [.interrupts, .tallies, .daybook, .outputs, .flash, .time] := by
  intro s x1
  unfold State.reqIn
  conv => zeta
  with_reducible refine only_step ?_ (State.acceptTime_touch (l := [.interrupts, .tallies, .daybook, .outputs, .flash, .time]) (hl := ?_) (hb := ?_) _ _ _)
  with_reducible exact only_refl _ _
  intro _
  with_reducible refine only_step ?_ (State.schedule_touch _ _ _)
  with_reducible refine only_step ?_ (State.setTport_touch _ _ _)
  with_reducible exact only_refl _ _
  exact (rfl : _ = true)

theorem cmdLehrReport_touch : ∀ b s, (cmdLehrReport.run b s).st.onlyChanges s [] := by
  intro b s
  unfold cmdLehrReport
  dsimp only
  with_reducible refine only_step ?_ (ans_touch _ _ _)
  with_reducible exact only_refl _ _

theorem State.macUp_touch : ∀ s x1 x2, (State.macUp s x1 x2).onlyChanges s [.interrupts, .tallies, .daybook, .outputs, .flash, .ports] := by
  intro s x1 x2
  unfold State.macUp
  conv => zeta
  with_reducible refine only_ite ?_ ?_
  with_reducible exact only_refl _ _
  with_reducible refine only_ite ?_ ?_
  with_reducible refine only_step ?_ (State.count_touch _ _)
  with_reducible exact only_refl _ _
  with_reducible refine only_step ?_ (State.note_touch _ _ _)
  with_reducible refine only_step ?_ (State.setMac_touch _ _ _)
  with_reducible exact only_refl _ _

theorem State.bbUp_touch : ∀ s x1, (State.bbUp s x1).onlyChanges s [.interrupts, .clock, .tallies, .daybook, .outputs, .flash, .inaug] := by
  intro s x1
  unfold State.bbUp
  conv => zeta
  with_reducible refine only_step ?_ (State.lineTo_touch _ _ _)
  with_reducible exact only_refl _ _

theorem State.linkRise_touch : ∀ s x1 x2, (State.linkRise s x1 x2).onlyChanges s [.interrupts, .clock, .tallies, .daybook, .outputs, .flash, .ports, .inaug, .vault] := by
  intro s x1 x2
  unfold State.linkRise
  conv => zeta
  with_reducible refine only_ite ?_ ?_
  with_reducible refine only_step ?_ (State.macUp_touch _ _ _)
  with_reducible exact only_refl _ _
  with_reducible refine only_ite ?_ ?_
  with_reducible refine only_step ?_ (State.bbUp_touch _ _)
  with_reducible refine only_step ?_ (State.keyPolicy_touch _ _)
  with_reducible refine only_step ?_ (State.macUp_touch _ _ _)
  with_reducible exact only_refl _ _
  with_reducible refine only_step ?_ (State.keyStart_touch _ _)
  with_reducible refine only_step ?_ (State.keyPolicy_touch _ _)
  with_reducible refine only_step ?_ (State.macUp_touch _ _ _)
  with_reducible exact only_refl _ _

theorem cmdTimeStatus_touch : ∀ b s, (cmdTimeStatus.run b s).st.onlyChanges s [] := by
  intro b s
  unfold cmdTimeStatus
  dsimp only
  with_reducible refine only_step ?_ (ans_touch _ _ _)
  with_reducible exact only_refl _ _

theorem State.flbReadIn_touch : ∀ s x1 x2 x3, (State.flbReadIn s x1 x2 x3).onlyChanges s [.interrupts, .tallies, .daybook, .outputs, .flash, .bridge, .seeds] := by
  intro s x1 x2 x3
  unfold State.flbReadIn
  conv => zeta
  split
  with_reducible refine only_step ?_ (State.flbEnter_touch _ _ _)
  with_reducible exact only_refl _ _
  with_reducible refine only_ite ?_ ?_
  with_reducible refine only_step ?_ (State.flbAnswer_touch _ _ _)
  with_reducible refine only_step ?_ (State.flbEnter_touch _ _ _)
  with_reducible exact only_refl _ _
  split
  split
  with_reducible refine only_ite ?_ ?_
  with_reducible refine only_step ?_ (State.flbRetry_touch _ _)
  with_reducible refine only_foldl _ _ (fun _ _ => ?_) _ _ _ ?_
  with_reducible refine only_step ?_ (State.slotEnd_touch _ _)
  with_reducible exact only_refl _ _
  with_reducible refine only_step ?_ (State.flbEnter_touch _ _ _)
  with_reducible exact only_refl _ _
  with_reducible refine only_ite ?_ ?_
  with_reducible refine only_step ?_ (State.flbAnswer_touch _ _ _)
  with_reducible refine only_step ?_ (State.setSlot_touch _ _ _)
  with_reducible refine only_foldl _ _ (fun _ _ => ?_) _ _ _ ?_
  with_reducible refine only_step ?_ (State.slotEnd_touch _ _)
  with_reducible exact only_refl _ _
  with_reducible refine only_step ?_ (State.flbEnter_touch _ _ _)
  with_reducible exact only_refl _ _
  with_reducible refine only_step ?_ (State.flbAnswer_touch _ _ _)
  with_reducible refine only_step ?_ (State.count_touch _ _)
  with_reducible refine only_ite ?_ ?_
  with_reducible refine only_step ?_ (State.setSlot_touch _ _ _)
  with_reducible refine only_foldl _ _ (fun _ _ => ?_) _ _ _ ?_
  with_reducible refine only_step ?_ (State.slotEnd_touch _ _)
  with_reducible exact only_refl _ _
  with_reducible refine only_step ?_ (State.flbEnter_touch _ _ _)
  with_reducible exact only_refl _ _
  with_reducible refine only_foldl _ _ (fun _ _ => ?_) _ _ _ ?_
  with_reducible refine only_step ?_ (State.slotEnd_touch _ _)
  with_reducible exact only_refl _ _
  with_reducible refine only_step ?_ (State.flbEnter_touch _ _ _)
  with_reducible exact only_refl _ _
  with_reducible refine only_foldl _ _ (fun _ _ => ?_) _ _ _ ?_
  with_reducible refine only_step ?_ (State.slotEnd_touch _ _)
  with_reducible exact only_refl _ _
  with_reducible refine only_step ?_ (State.flbEnter_touch _ _ _)
  with_reducible exact only_refl _ _
  split
  with_reducible refine only_step ?_ (State.flbRetry_touch _ _)
  with_reducible refine only_foldl _ _ (fun _ _ => ?_) _ _ _ ?_
  with_reducible refine only_step ?_ (State.slotEnd_touch _ _)
  with_reducible exact only_refl _ _
  with_reducible refine only_step ?_ (State.flbEnter_touch _ _ _)
  with_reducible exact only_refl _ _
  with_reducible refine only_step ?_ (State.flbAnswer_touch _ _ _)
  with_reducible refine only_step ?_ (State.setSlot_touch _ _ _)
  with_reducible refine only_step ?_ (State.bridgeDelay_touch _ _ _)
  with_reducible refine only_foldl _ _ (fun _ _ => ?_) _ _ _ ?_
  with_reducible refine only_step ?_ (State.slotEnd_touch _ _)
  with_reducible exact only_refl _ _
  with_reducible refine only_step ?_ (State.flbEnter_touch _ _ _)
  with_reducible exact only_refl _ _

theorem State.keyNextAck_touch : ∀ s x1, (State.keyNextAck s x1).onlyChanges s [.interrupts, .tallies, .daybook, .outputs, .flash, .ports, .fabric, .vault, .seeds] := by
  intro s x1
  unfold State.keyNextAck
  conv => zeta
  with_reducible refine only_ite ?_ ?_
  with_reducible exact only_refl _ _
  with_reducible refine only_ite ?_ ?_
  with_reducible refine only_step ?_ (State.count_touch _ _)
  with_reducible exact only_refl _ _
  with_reducible refine only_ite ?_ ?_
  with_reducible exact only_refl _ _
  with_reducible refine only_step ?_ (State.egress_touch _ _)
  with_reducible refine only_step ?_ (State.count_touch _ _)
  with_reducible refine only_step ?_ (State.setKey_touch _ _ _)
  with_reducible refine only_step ?_ (State.setSa_touch _ _ _)
  with_reducible exact only_refl _ _

theorem State.insideRead_touch : ∀ s w a n, (State.insideRead s w a n).2.onlyChanges s [.can] := by
  intro s w a n
  have aux : ∀ (l : List (Nat × Nat × Nat)) (x : Tab Byte × State) (f : Tab Byte × State → Nat × Nat × Nat → Tab Byte × State),
      (∀ x p, (f x p).2.onlyChanges x.2 [.can]) → (l.foldl f x).2.onlyChanges x.2 [.can] := by
    intro l
    induction l with
    | nil => intro x f _; exact only_refl _ _
    | cons p l ih => intro x f hf; exact only_trans (hf x p) (ih _ f hf)
  exact aux _ _ _ fun x p => State.targetRead_touch ..

theorem cmdFlbRead_touch : ∀ b s, (cmdFlbRead.run b s).st.onlyChanges s [.can, .bridge] := by
  intro b s
  unfold cmdFlbRead
  dsimp only
  with_reducible refine only_ite3 ?_ ?_
  with_reducible refine only_step ?_ (refuse_touch _ _)
  with_reducible exact only_refl _ _
  with_reducible refine only_ite3 ?_ ?_
  split
  with_reducible refine only_step ?_ (refuse_touch _ _)
  with_reducible exact only_refl _ _
  with_reducible refine only_ite3 ?_ ?_
  with_reducible refine only_step ?_ (refuse_touch _ _)
  with_reducible exact only_refl _ _
  with_reducible refine only_ite3 ?_ ?_
  with_reducible refine only_step ?_ (ans_touch _ _ _)
  with_reducible exact only_refl _ _
  with_reducible refine only_step ?_ (ans_touch _ _ _)
  with_reducible refine only_step ?_ (State.insideRead_touch _ _ _ _)
  with_reducible exact only_refl _ _
  with_reducible refine only_ite3 ?_ ?_
  with_reducible refine only_step ?_ (refuse_touch _ _)
  with_reducible exact only_refl _ _
  split
  with_reducible refine only_step ?_ (refuse_touch _ _)
  with_reducible exact only_refl _ _
  with_reducible refine only_step ?_ (holdOn_touch _)
  with_reducible refine only_step ?_ (State.enqueueOut_touch _ _ _ _)
  with_reducible refine only_set_bridge _ ?_ ?_
  with_reducible exact only_refl _ _
  exact (rfl : _ = true)

theorem cmdMeasRead_touch : ∀ b s, (cmdMeasRead.run b s).st.onlyChanges s [.clock, .measure] := by
  intro b s
  unfold cmdMeasRead
  dsimp only
  with_reducible refine only_ite3 ?_ ?_
  with_reducible refine only_step ?_ (refuse_touch _ _)
  with_reducible exact only_refl _ _
  with_reducible refine only_ite3 ?_ ?_
  with_reducible refine only_step ?_ (refuse_touch _ _)
  with_reducible exact only_refl _ _
  split
  split
  with_reducible refine only_step ?_ (refuse_touch _ _)
  with_reducible exact only_refl _ _
  with_reducible refine only_ite3 ?_ ?_
  with_reducible refine only_step ?_ (refuse_touch _ _)
  with_reducible exact only_refl _ _
  with_reducible refine only_step ?_ (ans_touch _ _ _)
  with_reducible exact only_refl _ _
  split
  with_reducible refine only_step ?_ (refuse_touch _ _)
  with_reducible exact only_refl _ _
  with_reducible refine only_ite3 ?_ ?_
  with_reducible refine only_step ?_ (refuse_touch _ _)
  with_reducible exact only_refl _ _
  with_reducible refine only_step ?_ (ans_touch _ _ _)
  with_reducible exact only_refl _ _
  split
  with_reducible refine only_step ?_ (refuse_touch _ _)
  with_reducible exact only_refl _ _
  with_reducible refine only_ite3 ?_ ?_
  with_reducible refine only_step ?_ (refuse_touch _ _)
  with_reducible exact only_refl _ _
  with_reducible refine only_ite3 ?_ ?_
  with_reducible refine only_step ?_ (ans_touch _ _ _)
  with_reducible exact only_refl _ _
  with_reducible refine only_step ?_ (ans_touch _ _ _)
  with_reducible refine only_step ?_ (State.tachRecord_touch _ _ _ _)
  with_reducible exact only_refl _ _
  with_reducible refine only_ite3 ?_ ?_
  with_reducible refine only_step ?_ (refuse_touch _ _)
  with_reducible exact only_refl _ _
  with_reducible refine only_ite3 ?_ ?_
  with_reducible refine only_step ?_ (ans_touch _ _ _)
  with_reducible exact only_refl _ _
  with_reducible refine only_step ?_ (ans_touch _ _ _)
  with_reducible refine only_step ?_ (State.dinRecord_touch _ _ _ _)
  with_reducible exact only_refl _ _

theorem State.sinkExpire_touch : ∀ s x1, (State.sinkExpire s x1).onlyChanges s [.interrupts, .clock, .tallies, .daybook, .outputs, .flash, .store] := by
  intro s x1
  unfold State.sinkExpire
  conv => zeta
  split
  with_reducible exact only_refl _ _
  split
  with_reducible exact only_refl _ _
  with_reducible refine only_ite ?_ ?_
  with_reducible exact only_refl _ _
  with_reducible refine only_step ?_ (State.noteOnce_touch _ _ _ _)
  with_reducible refine only_ite ?_ ?_
  with_reducible refine only_step ?_ (State.commitAs_touch _ _ _ _ _ _ _ _ _ _)
  with_reducible refine only_step ?_ (State.setPort_touch _ _ _)
  with_reducible refine only_step ?_ (State.count_touch _ _)
  with_reducible exact only_refl _ _
  with_reducible refine only_step ?_ (State.post_touch _ _ _)
  with_reducible refine only_step ?_ (State.setPort_touch _ _ _)
  with_reducible refine only_step ?_ (State.count_touch _ _)
  with_reducible exact only_refl _ _

theorem cmdMdio_touch : ∀ b s, (cmdMdio.run b s).st.onlyChanges s [.outputs, .ports] := by
  intro b s
  unfold cmdMdio
  dsimp only
  with_reducible refine only_ite3 ?_ ?_
  with_reducible refine only_step ?_ (refuse_touch _ _)
  with_reducible exact only_refl _ _
  with_reducible refine only_ite3 ?_ ?_
  with_reducible refine only_step ?_ (refuse_touch _ _)
  with_reducible exact only_refl _ _
  with_reducible refine only_step ?_ (holdOn_touch _)
  split
  with_reducible refine only_set_ports _ ?_ ?_
  with_reducible refine only_step ?_ (State.send_touch _ _)
  with_reducible exact only_refl _ _
  exact (rfl : _ = true)
  with_reducible refine only_set_ports _ ?_ ?_
  with_reducible refine only_step ?_ (State.send_touch _ _)
  with_reducible exact only_refl _ _
  exact (rfl : _ = true)

theorem State.takeTime_touch : ∀ s, (State.takeTime s).onlyChanges s [.interrupts, .tallies, .daybook, .outputs, .flash, .gaffer] := by
  intro s
  unfold State.takeTime
  conv => zeta
  split
  with_reducible exact only_refl _ _
  with_reducible refine only_ite ?_ ?_
  with_reducible exact only_refl _ _
  with_reducible refine only_step ?_ (State.noteHandover_touch _ _ _ _)
  split
  with_reducible refine only_set_gaf _ ?_ ?_
  with_reducible refine only_step ?_ (State.spineCount_touch _)
  with_reducible exact only_refl _ _
  exact (rfl : _ = true)
  split
  with_reducible refine only_set_gaf _ ?_ ?_
  with_reducible refine only_step ?_ (State.spineCount_touch _)
  with_reducible exact only_refl _ _
  exact (rfl : _ = true)
  with_reducible refine only_set_gaf _ ?_ ?_
  with_reducible refine only_step ?_ (State.spineCount_touch _)
  with_reducible exact only_refl _ _
  exact (rfl : _ = true)

theorem State.takePace_touch : ∀ s, (State.takePace s).onlyChanges s [.interrupts, .tallies, .daybook, .outputs, .flash, .gaffer] := by
  intro s
  unfold State.takePace
  conv => zeta
  split
  with_reducible exact only_refl _ _
  with_reducible refine only_ite ?_ ?_
  with_reducible exact only_refl _ _
  with_reducible refine only_step ?_ (State.noteHandover_touch _ _ _ _)
  with_reducible refine only_set_gaf _ ?_ ?_
  with_reducible refine only_step ?_ (State.spineCount_touch _)
  with_reducible exact only_refl _ _
  exact (rfl : _ = true)

theorem State.missed_touch : ∀ s x1, (State.missed s x1).onlyChanges s [.interrupts, .tallies, .daybook, .outputs, .flash, .trackers, .pace] := by
  intro s x1
  unfold State.missed
  conv => zeta
  split
  with_reducible exact only_refl _ _
  split
  with_reducible refine only_ite ?_ ?_
  with_reducible refine only_ite ?_ ?_
  with_reducible refine only_step ?_ (State.lineLost_touch _ _)
  with_reducible refine only_step ?_ (State.setTracker_touch _ _ _)
  with_reducible exact only_refl _ _
  with_reducible refine only_step ?_ (State.setTracker_touch _ _ _)
  with_reducible exact only_refl _ _
  with_reducible exact only_refl _ _
  with_reducible exact only_refl _ _

theorem State.driveOut_touch : ∀ s x1 x2 x3, (State.driveOut s x1 x2 x3).onlyChanges s [.sleep] := by
  intro s x1 x2 x3
  unfold State.driveOut
  conv => zeta
  split
  with_reducible refine only_set_sleep _ ?_ ?_
  with_reducible exact only_refl _ _
  exact (rfl : _ = true)
  with_reducible refine only_set_sleep _ ?_ ?_
  with_reducible exact only_refl _ _
  exact (rfl : _ = true)

theorem State.takeLevels_touch : ∀ s x1, (State.takeLevels s x1).onlyChanges s [.sleep] := by
  intro s x1
  unfold State.takeLevels
  conv => zeta
  with_reducible refine only_ite ?_ ?_
  with_reducible refine only_step ?_ (State.driveOut_touch _ _ _ _)
  with_reducible refine only_ite ?_ ?_
  with_reducible refine only_step ?_ (State.driveOut_touch _ _ _ _)
  with_reducible exact only_refl _ _
  with_reducible exact only_refl _ _
  with_reducible refine only_ite ?_ ?_
  with_reducible refine only_step ?_ (State.driveOut_touch _ _ _ _)
  with_reducible exact only_refl _ _
  with_reducible exact only_refl _ _

theorem State.epochIn_touch : ∀ s x1 x2, (State.epochIn s x1 x2).onlyChanges s [.tallies, .sleep, .twin] := by
  intro s x1 x2
  unfold State.epochIn
  conv => zeta
  with_reducible refine only_ite ?_ ?_
  with_reducible exact only_refl _ _
  with_reducible refine only_ite ?_ ?_
  with_reducible refine only_step ?_ (State.epochDrop_touch _ _)
  with_reducible exact only_refl _ _
  with_reducible refine only_ite ?_ ?_
  with_reducible refine only_step ?_ (State.epochDrop_touch _ _)
  with_reducible exact only_refl _ _
  with_reducible refine only_ite ?_ ?_
  with_reducible refine only_step ?_ (State.epochDrop_touch _ _)
  with_reducible exact only_refl _ _
  with_reducible refine only_step ?_ (State.count_touch _ _)
  split
  with_reducible refine only_foldl _ _ (fun _ _ => ?_) _ _ _ ?_
  with_reducible refine only_ite ?_ ?_
  with_reducible refine only_step ?_ (State.takeLevels_touch _ _)
  with_reducible exact only_refl _ _
  with_reducible exact only_refl _ _
  with_reducible refine only_set_twin _ ?_ ?_
  with_reducible exact only_refl _ _
  exact (rfl : _ = true)
  with_reducible refine only_foldl _ _ (fun _ _ => ?_) _ _ _ ?_
  with_reducible refine only_ite ?_ ?_
  with_reducible refine only_step ?_ (State.takeLevels_touch _ _)
  with_reducible exact only_refl _ _
  with_reducible exact only_refl _ _
  with_reducible refine only_set_twin _ ?_ ?_
  with_reducible exact only_refl _ _
  exact (rfl : _ = true)

theorem cmdPortWrite_touch : ∀ b s, (cmdPortWrite.run b s).st.onlyChanges s [.interrupts, .clock, .tallies, .outputs, .store] := by
  intro b s
  unfold cmdPortWrite
  dsimp only
  with_reducible refine only_ite3 ?_ ?_
  with_reducible refine only_step ?_ (refuse_touch _ _)
  with_reducible exact only_refl _ _
  split
  with_reducible refine only_step ?_ (refuse_touch _ _)
  with_reducible exact only_refl _ _
  with_reducible refine only_ite3 ?_ ?_
  with_reducible refine only_step ?_ (refuse_touch _ _)
  with_reducible exact only_refl _ _
  with_reducible refine only_ite3 ?_ ?_
  with_reducible refine only_step ?_ (refuse_touch _ _)
  with_reducible exact only_refl _ _
  with_reducible refine only_step ?_ (ans_touch _ _ _)
  with_reducible refine only_step ?_ (State.commitPort_touch _ _ _ _ _ _)
  with_reducible exact only_refl _ _

theorem cmdCanWrite_touch : ∀ b s, (cmdCanWrite.run b s).st.onlyChanges s [.can] := by
  intro b s
  unfold cmdCanWrite
  dsimp only
  with_reducible refine only_ite3 ?_ ?_
  with_reducible refine only_step ?_ (refuse_touch _ _)
  with_reducible exact only_refl _ _
  with_reducible refine only_ite3 ?_ ?_
  with_reducible refine only_step ?_ (refuse_touch _ _)
  with_reducible exact only_refl _ _
  split
  with_reducible refine only_step ?_ (refuse_touch _ _)
  with_reducible exact only_refl _ _
  split
  with_reducible refine only_step ?_ (refuse_touch _ _)
  with_reducible exact only_refl _ _
  with_reducible refine only_ite3 ?_ ?_
  with_reducible refine only_step ?_ (refuse_touch _ _)
  with_reducible exact only_refl _ _
  with_reducible refine only_ite3 ?_ ?_
  with_reducible refine only_step ?_ (refuse_touch _ _)
  with_reducible exact only_refl _ _
  with_reducible refine only_ite3 ?_ ?_
  with_reducible refine only_step ?_ (refuse_touch _ _)
  with_reducible exact only_refl _ _
  with_reducible refine only_step ?_ (ans_touch _ _ _)
  with_reducible refine only_step ?_ (State.setCtl_touch _ _ _)
  with_reducible exact only_refl _ _

theorem State.announceIn_touch : ∀ s x1, (State.announceIn s x1).onlyChanges s [.interrupts, .tallies, .daybook, .outputs, .flash, .time] := by
  intro s x1
  unfold State.announceIn
  conv => zeta
  with_reducible refine only_step ?_ (State.acceptTime_touch (l := [.interrupts, .tallies, .daybook, .outputs, .flash, .time]) (hl := ?_) (hb := ?_) _ _ _)
  with_reducible exact only_refl _ _
  intro _
  with_reducible refine only_ite ?_ ?_
  with_reducible exact only_refl _ _
  with_reducible refine only_step ?_ (State.bmc_touch _)
  with_reducible refine only_step ?_ (State.setTport_touch _ _ _)
  with_reducible exact only_refl _ _
  exact (rfl : _ = true)

theorem State.setRings_touch : ∀ s x1, (State.setRings s x1).onlyChanges s [.ports] := by
  intro s x1
  unfold State.setRings
  conv => zeta
  with_reducible refine only_foldl _ _ (fun _ _ => ?_) _ _ _ ?_
  with_reducible refine only_ite ?_ ?_
  with_reducible refine only_step ?_ (State.setHtx_touch _ _ _)
  with_reducible refine only_ite ?_ ?_
  with_reducible refine only_step ?_ (State.setHrx_touch _ _ _)
  with_reducible exact only_refl _ _
  with_reducible exact only_refl _ _
  with_reducible refine only_ite ?_ ?_
  with_reducible refine only_step ?_ (State.setHrx_touch _ _ _)
  with_reducible exact only_refl _ _
  with_reducible exact only_refl _ _
  with_reducible refine only_set_ports _ ?_ ?_
  with_reducible exact only_refl _ _
  exact (rfl : _ = true)

theorem cmdMacConfig_touch : ∀ b s, (cmdMacConfig.run b s).st.onlyChanges s [.interrupts, .clock, .tallies, .daybook, .outputs, .flash, .ports, .fabric, .inaug, .time, .vault] := by
  intro b s
  unfold cmdMacConfig
  dsimp -zeta only
  extract_lets y0 y1 y2
  clear_value y0
  clear_value y1
  clear_value y2
  conv => zeta
  with_reducible refine only_ite3 ?_ ?_
  with_reducible refine only_step ?_ (refuse_touch _ _)
  with_reducible exact only_refl _ _
  with_reducible refine only_ite3 ?_ ?_
  with_reducible refine only_ite3 ?_ ?_
  with_reducible refine only_step ?_ (refuse_touch _ _)
  with_reducible exact only_refl _ _
  with_reducible refine only_ite3 ?_ ?_
  with_reducible refine only_step ?_ (ans_touch _ _ _)
  with_reducible exact only_refl _ _
  with_reducible refine only_ite3 ?_ ?_
  with_reducible refine only_step ?_ (refuse_touch _ _)
  with_reducible exact only_refl _ _
  with_reducible refine only_ite3 ?_ ?_
  with_reducible refine only_step ?_ (refuse_touch _ _)
  with_reducible exact only_refl _ _
  with_reducible refine only_step ?_ (ans_touch _ _ _)
  with_reducible refine only_ite ?_ ?_
  with_reducible refine only_step ?_ (State.persist_touch _ _ _)
  with_reducible refine only_step ?_ (State.note_touch _ _ _)
  with_reducible refine only_step ?_ (State.setRings_touch _ _)
  with_reducible exact only_refl _ _
  with_reducible refine only_step ?_ (State.note_touch _ _ _)
  with_reducible refine only_step ?_ (State.setRings_touch _ _)
  with_reducible exact only_refl _ _
  with_reducible refine only_ite3 ?_ ?_
  with_reducible refine only_step ?_ (refuse_touch _ _)
  with_reducible exact only_refl _ _
  with_reducible refine only_ite3 ?_ ?_
  with_reducible refine only_step ?_ (refuse_touch _ _)
  with_reducible exact only_refl _ _
  with_reducible refine only_ite3 ?_ ?_
  with_reducible refine only_step ?_ (ans_touch _ _ _)
  with_reducible exact only_refl _ _
  with_reducible refine only_ite3 ?_ ?_
  with_reducible refine only_step ?_ (refuse_touch _ _)
  with_reducible exact only_refl _ _
  with_reducible refine only_ite3 ?_ ?_
  with_reducible refine only_step ?_ (refuse_touch _ _)
  with_reducible exact only_refl _ _
  with_reducible refine only_step ?_ (ans_touch _ _ _)
  with_reducible refine only_ite ?_ ?_
  with_reducible refine only_step ?_ (State.persist_touch _ _ _)
  with_reducible refine only_ite ?_ ?_
  with_reducible refine only_step ?_ (State.insertion_touch _)
  with_reducible refine only_step ?_ (State.setMac_touch _ _ _)
  with_reducible refine only_ite ?_ ?_
  with_reducible exact only_refl _ _
  with_reducible refine only_step ?_ (State.linkFall_touch _ _ _)
  with_reducible exact only_refl _ _
  with_reducible refine only_step ?_ (State.note_touch _ _ _)
  with_reducible refine only_step ?_ (State.insertion_touch _)
  with_reducible refine only_step ?_ (State.setMac_touch _ _ _)
  with_reducible refine only_ite ?_ ?_
  with_reducible exact only_refl _ _
  with_reducible refine only_step ?_ (State.linkFall_touch _ _ _)
  with_reducible exact only_refl _ _
  with_reducible refine only_ite ?_ ?_
  with_reducible refine only_step ?_ (State.insertion_touch _)
  with_reducible refine only_step ?_ (State.setMac_touch _ _ _)
  with_reducible refine only_ite ?_ ?_
  with_reducible exact only_refl _ _
  with_reducible refine only_step ?_ (State.linkFall_touch _ _ _)
  with_reducible exact only_refl _ _
  with_reducible refine only_step ?_ (State.note_touch _ _ _)
  with_reducible refine only_step ?_ (State.insertion_touch _)
  with_reducible refine only_step ?_ (State.setMac_touch _ _ _)
  with_reducible refine only_ite ?_ ?_
  with_reducible exact only_refl _ _
  with_reducible refine only_step ?_ (State.linkFall_touch _ _ _)
  with_reducible exact only_refl _ _

theorem State.suppress_touch : ∀ s, (State.suppress s).onlyChanges s [.tallies] := by
  intro s
  unfold State.suppress
  conv => zeta
  with_reducible refine only_step ?_ (State.count_touch _ _)
  with_reducible exact only_refl _ _

theorem State.armOne_touch : ∀ s x1 x2 x3, (State.armOne s x1 x2 x3).onlyChanges s [.tallies, .store, .can] := by
  intro s x1 x2 x3
  unfold State.armOne
  conv => zeta
  split
  with_reducible exact only_refl _ _
  with_reducible refine only_ite ?_ ?_
  with_reducible refine only_step ?_ (State.count_touch _ _)
  with_reducible exact only_refl _ _
  with_reducible refine only_ite ?_ ?_
  with_reducible refine only_step ?_ (State.count_touch _ _)
  with_reducible exact only_refl _ _
  with_reducible refine only_ite ?_ ?_
  split
  with_reducible exact only_refl _ _
  split
  with_reducible refine only_step ?_ (State.mapOut_touch _ _ _)
  with_reducible exact only_refl _ _
  with_reducible refine only_step ?_ (State.count_touch _ _)
  with_reducible refine only_step ?_ (State.setCtl_touch _ _ _)
  with_reducible refine only_step ?_ (State.mapOut_touch _ _ _)
  with_reducible exact only_refl _ _
  with_reducible refine only_ite ?_ ?_
  with_reducible refine only_step ?_ (State.count_touch _ _)
  with_reducible exact only_refl _ _
  with_reducible refine only_ite ?_ ?_
  with_reducible refine only_step ?_ (State.count_touch _ _)
  with_reducible exact only_refl _ _
  with_reducible refine only_step ?_ (State.count_touch _ _)
  with_reducible refine only_step ?_ (State.setCtl_touch _ _ _)
  with_reducible exact only_refl _ _

theorem State.armMask_touch : ∀ s x1 x2, (State.armMask s x1 x2).onlyChanges s [.tallies, .store, .can] := by
  intro s x1 x2
  unfold State.armMask
  conv => zeta
  with_reducible refine only_foldl _ _ (fun _ _ => ?_) _ _ _ ?_
  with_reducible refine only_ite ?_ ?_
  split
  with_reducible refine only_step ?_ (State.armOne_touch _ _ _ _)
  with_reducible exact only_refl _ _
  with_reducible exact only_refl _ _
  with_reducible exact only_refl _ _
  with_reducible exact only_refl _ _

theorem State.tickTwin_touch : ∀ s, (State.tickTwin s).onlyChanges s [.outputs, .twin] := by
  intro s
  unfold State.tickTwin
  conv => zeta
  with_reducible refine only_ite ?_ ?_
  with_reducible refine only_ite ?_ ?_
  with_reducible refine only_step ?_ (State.send_touch _ _)
  with_reducible refine only_ite ?_ ?_
  with_reducible refine only_step ?_ (State.send_touch _ _)
  with_reducible refine only_set_twin _ ?_ ?_
  with_reducible exact only_refl _ _
  exact (rfl : _ = true)
  with_reducible refine only_set_twin _ ?_ ?_
  with_reducible exact only_refl _ _
  exact (rfl : _ = true)
  with_reducible refine only_ite ?_ ?_
  with_reducible refine only_step ?_ (State.send_touch _ _)
  with_reducible refine only_set_twin _ ?_ ?_
  with_reducible exact only_refl _ _
  exact (rfl : _ = true)
  with_reducible refine only_set_twin _ ?_ ?_
  with_reducible exact only_refl _ _
  exact (rfl : _ = true)
  with_reducible refine only_set_twin _ ?_ ?_
  with_reducible exact only_refl _ _
  exact (rfl : _ = true)

theorem State.tickPairs_touch : ∀ s x1, (State.tickPairs s x1).onlyChanges s [.time] := by
  intro s x1
  unfold State.tickPairs
  conv => zeta
  split
  split
  with_reducible refine only_set_time _ ?_ ?_
  with_reducible exact only_refl _ _
  exact (rfl : _ = true)
  with_reducible refine only_set_time _ ?_ ?_
  with_reducible exact only_refl _ _
  exact (rfl : _ = true)
  split
  with_reducible refine only_set_time _ ?_ ?_
  with_reducible exact only_refl _ _
  exact (rfl : _ = true)
  with_reducible refine only_set_time _ ?_ ?_
  with_reducible exact only_refl _ _
  exact (rfl : _ = true)

theorem State.openGates_touch : ∀ s x1 x2, (State.openGates s x1 x2).onlyChanges s [.interrupts, .tallies, .daybook, .outputs, .flash, .ports, .fabric, .vault, .seeds] := by
  intro s x1 x2
  unfold State.openGates
  conv => zeta
  with_reducible refine only_step ?_ (State.egress_touch _ _)
  with_reducible refine only_step ?_ (State.setGates_touch _ _ _)
  with_reducible exact only_refl _ _

theorem State.doutDrive_touch : ∀ s x1 x2, (State.doutDrive s x1 x2).onlyChanges s [.tallies, .sleep] := by
  intro s x1 x2
  unfold State.doutDrive
  conv => zeta
  with_reducible refine only_ite ?_ ?_
  with_reducible refine only_step ?_ (State.suppress_touch _)
  with_reducible exact only_refl _ _
  with_reducible refine only_ite ?_ ?_
  with_reducible refine only_ite ?_ ?_
  with_reducible refine only_step ?_ (State.count_touch _ _)
  with_reducible exact only_refl _ _
  with_reducible refine only_step ?_ (State.driveOut_touch _ _ _ _)
  with_reducible exact only_refl _ _
  with_reducible refine only_step ?_ (State.driveOut_touch _ _ _ _)
  with_reducible exact only_refl _ _

theorem State.keyConfirm_touch : ∀ s x1, (State.keyConfirm s x1).onlyChanges s [.outputs, .vault] := by
  intro s x1
  unfold State.keyConfirm
  conv => zeta
  with_reducible refine only_ite ?_ ?_
  with_reducible exact only_refl _ _
  with_reducible refine only_ite ?_ ?_
  with_reducible refine only_step ?_ (State.keySend_touch _ _ _ _ _)
  with_reducible exact only_refl _ _
  with_reducible refine only_ite ?_ ?_
  with_reducible exact only_refl _ _
  with_reducible refine only_step ?_ (State.vaultOp_touch _ _ _)
  with_reducible refine only_step ?_ (State.setKey_touch _ _ _)
  with_reducible exact only_refl _ _

theorem State.swapRoles_touch : ∀ s, (State.swapRoles s).onlyChanges s [.mailbox, .interrupts, .tallies, .daybook, .outputs, .flash, .fabric, .time, .twin, .bridge] := by
  intro s
  unfold State.swapRoles
  conv => zeta
  split
  with_reducible exact only_refl _ _
  with_reducible refine only_ite ?_ ?_
  with_reducible exact only_refl _ _
  with_reducible refine only_ite ?_ ?_
  with_reducible refine only_ite ?_ ?_
  split
  with_reducible refine only_set_twin _ ?_ ?_
  with_reducible refine only_step ?_ (State.goQuiet_touch _ _ _)
  with_reducible exact only_refl _ _
  exact (rfl : _ = true)
  with_reducible refine only_step ?_ (State.goQuiet_touch _ _ _)
  with_reducible exact only_refl _ _
  with_reducible refine only_set_twin _ ?_ ?_
  with_reducible exact only_refl _ _
  exact (rfl : _ = true)
  with_reducible refine only_ite ?_ ?_
  with_reducible refine only_set_twin _ ?_ ?_
  with_reducible exact only_refl _ _
  exact (rfl : _ = true)
  with_reducible refine only_set_twin _ ?_ ?_
  with_reducible exact only_refl _ _
  exact (rfl : _ = true)

theorem State.followIn_touch : ∀ s x1, (State.followIn s x1).onlyChanges s [.interrupts, .clock, .tallies, .daybook, .outputs, .flash, .parison, .gaffer, .fabric, .inaug, .time] := by
  intro s x1
  unfold State.followIn
  conv => zeta
  with_reducible refine only_step ?_ (State.acceptTime_touch (l := [.interrupts, .clock, .tallies, .daybook, .outputs, .flash, .parison, .gaffer, .fabric, .inaug, .time]) (hl := ?_) (hb := ?_) _ _ _)
  with_reducible exact only_refl _ _
  intro _
  split
  with_reducible refine only_ite ?_ ?_
  with_reducible exact only_refl _ _
  with_reducible refine only_ite ?_ ?_
  with_reducible refine only_step ?_ (State.synced_touch _ _ _ _ _)
  with_reducible refine only_step ?_ (State.setTport_touch _ _ _)
  with_reducible exact only_refl _ _
  with_reducible refine only_step ?_ (State.setTport_touch _ _ _)
  with_reducible exact only_refl _ _
  with_reducible exact only_refl _ _
  exact (rfl : _ = true)

theorem State.rxCount_touch : ∀ s x1 x2 x3 x4 x5, (State.rxCount s x1 x2 x3 x4 x5).onlyChanges s [.tallies] := by
  intro s x1 x2 x3 x4 x5
  unfold State.rxCount
  conv => zeta
  with_reducible refine only_step ?_ (State.count_touch _ _)
  with_reducible refine only_ite ?_ ?_
  with_reducible refine only_step ?_ (State.count_touch _ _)
  with_reducible refine only_step ?_ (State.count_touch _ _)
  with_reducible refine only_step ?_ (State.countN_touch _ _ _)
  with_reducible refine only_step ?_ (State.count_touch _ _)
  with_reducible exact only_refl _ _
  with_reducible refine only_step ?_ (State.count_touch _ _)
  with_reducible refine only_step ?_ (State.countN_touch _ _ _)
  with_reducible refine only_step ?_ (State.count_touch _ _)
  with_reducible exact only_refl _ _

theorem State.secFail_touch : ∀ s x1 x2 x3, (State.secFail s x1 x2 x3).onlyChanges s [.interrupts, .tallies, .daybook, .outputs, .flash] := by
  intro s x1 x2 x3
  unfold State.secFail
  conv => zeta
  with_reducible refine only_step ?_ (State.noteOnce_touch _ _ _ _)
  with_reducible refine only_step ?_ (State.count_touch _ _)
  with_reducible exact only_refl _ _

theorem State.toHost_touch : ∀ s x1 x2, (State.toHost s x1 x2).onlyChanges s [.interrupts, .tallies, .daybook, .outputs, .flash, .ports, .fabric, .vault, .seeds] := by
  intro s x1 x2
  unfold State.toHost
  conv => zeta
  with_reducible refine only_step ?_ (State.egress_touch _ _)
  with_reducible refine only_step ?_ (State.freeFrames_touch _)
  with_reducible refine only_step ?_ (State.enqueue_touch _ _ _ _ _ _)
  with_reducible refine only_step ?_ (State.store_touch _ _)
  with_reducible exact only_refl _ _

theorem State.steer_touch : ∀ s x1 x2 x3, (State.steer s x1 x2 x3).onlyChanges s [.interrupts, .tallies, .daybook, .outputs, .flash, .ports, .fabric, .store, .vault, .seeds] := by
  intro s x1 x2 x3
  unfold State.steer
  conv => zeta
  with_reducible refine only_ite ?_ ?_
  with_reducible refine only_step ?_ (State.count_touch _ _)
  with_reducible exact only_refl _ _
  with_reducible refine only_ite ?_ ?_
  with_reducible refine only_step ?_ (State.toHost_touch _ _ _)
  with_reducible exact only_refl _ _
  with_reducible refine only_step ?_ (State.viaLedger_touch (l := [.interrupts, .tallies, .daybook, .outputs, .flash, .ports, .fabric, .store, .vault, .seeds]) (hl := ?_) (hb := ?_) _ _ _ _)
  with_reducible exact only_refl _ _
  intro _
  with_reducible refine only_ite ?_ ?_
  with_reducible refine only_step ?_ (State.toHost_touch _ _ _)
  with_reducible exact only_refl _ _
  with_reducible refine only_step ?_ (State.count_touch _ _)
  with_reducible exact only_refl _ _
  exact (rfl : _ = true)

theorem State.rxOpen_touch : ∀ s x1 x2 x3 x4, (State.rxOpen s x1 x2 x3 x4).onlyChanges s [.interrupts, .tallies, .daybook, .outputs, .flash, .ports, .fabric, .store, .vault, .seeds] := by
  intro s x1 x2 x3 x4
  unfold State.rxOpen
  conv => zeta
  with_reducible refine only_ite ?_ ?_
  with_reducible refine only_step ?_ (State.injects_touch _ _ _)
  with_reducible exact only_refl _ _
  with_reducible refine only_ite ?_ ?_
  with_reducible refine only_step ?_ (State.count_touch _ _)
  with_reducible refine only_step ?_ (State.injects_touch _ _ _)
  with_reducible exact only_refl _ _
  with_reducible refine only_ite ?_ ?_
  with_reducible refine only_step ?_ (State.count_touch _ _)
  with_reducible refine only_step ?_ (State.rxCount_touch _ _ _ _ _ _)
  with_reducible refine only_step ?_ (State.injects_touch _ _ _)
  with_reducible exact only_refl _ _
  with_reducible refine only_ite ?_ ?_
  with_reducible refine only_step ?_ (State.count_touch _ _)
  with_reducible refine only_step ?_ (State.injects_touch _ _ _)
  with_reducible exact only_refl _ _
  with_reducible refine only_ite ?_ ?_
  with_reducible refine only_ite ?_ ?_
  with_reducible refine only_step ?_ (State.breach_touch _ _ _ _)
  with_reducible refine only_step ?_ (State.count_touch _ _)
  with_reducible refine only_step ?_ (State.injects_touch _ _ _)
  with_reducible exact only_refl _ _
  with_reducible refine only_step ?_ (State.count_touch _ _)
  with_reducible refine only_step ?_ (State.injects_touch _ _ _)
  with_reducible exact only_refl _ _
  split
  with_reducible refine only_step ?_ (State.secFail_touch _ _ _ _)
  with_reducible refine only_step ?_ (State.rxCount_touch _ _ _ _ _ _)
  with_reducible refine only_step ?_ (State.injects_touch _ _ _)
  with_reducible exact only_refl _ _
  with_reducible refine only_ite ?_ ?_
  split
  with_reducible refine only_ite ?_ ?_
  with_reducible refine only_step ?_ (State.setSa_touch _ _ _)
  with_reducible refine only_step ?_ (State.rxCount_touch _ _ _ _ _ _)
  with_reducible refine only_step ?_ (State.injects_touch _ _ _)
  with_reducible exact only_refl _ _
  with_reducible refine only_step ?_ (State.rxCount_touch _ _ _ _ _ _)
  with_reducible refine only_step ?_ (State.injects_touch _ _ _)
  with_reducible exact only_refl _ _
  with_reducible refine only_step ?_ (State.rxCount_touch _ _ _ _ _ _)
  with_reducible refine only_step ?_ (State.injects_touch _ _ _)
  with_reducible exact only_refl _ _
  with_reducible refine only_step ?_ (State.steer_touch _ _ _ _)
  split
  with_reducible refine only_ite ?_ ?_
  with_reducible refine only_step ?_ (State.setSa_touch _ _ _)
  with_reducible refine only_step ?_ (State.rxCount_touch _ _ _ _ _ _)
  with_reducible refine only_step ?_ (State.injects_touch _ _ _)
  with_reducible exact only_refl _ _
  with_reducible refine only_step ?_ (State.rxCount_touch _ _ _ _ _ _)
  with_reducible refine only_step ?_ (State.injects_touch _ _ _)
  with_reducible exact only_refl _ _
  with_reducible refine only_step ?_ (State.rxCount_touch _ _ _ _ _ _)
  with_reducible refine only_step ?_ (State.injects_touch _ _ _)
  with_reducible exact only_refl _ _

theorem State.rxFrame_touch : ∀ s x1, (State.rxFrame s x1).onlyChanges s [.interrupts, .tallies, .daybook, .outputs, .flash, .ports, .fabric, .store, .vault, .seeds] := by
  intro s x1
  unfold State.rxFrame
  conv => zeta
  with_reducible refine only_ite ?_ ?_
  with_reducible exact only_refl _ _
  with_reducible refine only_ite ?_ ?_
  with_reducible refine only_step ?_ (State.count_touch _ _)
  with_reducible exact only_refl _ _
  with_reducible refine only_ite ?_ ?_
  with_reducible refine only_step ?_ (State.count_touch _ _)
  with_reducible exact only_refl _ _
  with_reducible refine only_ite ?_ ?_
  with_reducible refine only_step ?_ (State.count_touch _ _)
  with_reducible exact only_refl _ _
  with_reducible refine only_ite ?_ ?_
  with_reducible refine only_step ?_ (State.count_touch _ _)
  with_reducible exact only_refl _ _
  with_reducible refine only_ite ?_ ?_
  with_reducible refine only_ite ?_ ?_
  with_reducible refine only_step ?_ (State.injects_touch _ _ _)
  with_reducible exact only_refl _ _
  with_reducible refine only_step ?_ (State.rxCount_touch _ _ _ _ _ _)
  with_reducible refine only_step ?_ (State.injects_touch _ _ _)
  with_reducible exact only_refl _ _
  with_reducible refine only_step ?_ (State.rxOpen_touch _ _ _ _ _)
  with_reducible exact only_refl _ _

theorem State.sideband_touch : ∀ s x1 x2, (State.sideband s x1 x2).onlyChanges s [.interrupts, .tallies, .daybook, .outputs, .flash, .bridge] := by
  intro s x1 x2
  unfold State.sideband
  conv => zeta
  with_reducible refine only_ite ?_ ?_
  with_reducible exact only_refl _ _
  with_reducible refine only_ite ?_ ?_
  with_reducible refine only_step ?_ (State.note_touch _ _ _)
  with_reducible refine only_step ?_ (State.count_touch _ _)
  split
  with_reducible refine only_set_bridge _ ?_ ?_
  with_reducible exact only_refl _ _
  exact (rfl : _ = true)
  with_reducible refine only_set_bridge _ ?_ ?_
  with_reducible exact only_refl _ _
  exact (rfl : _ = true)
  split
  with_reducible refine only_set_bridge _ ?_ ?_
  with_reducible exact only_refl _ _
  exact (rfl : _ = true)
  with_reducible refine only_set_bridge _ ?_ ?_
  with_reducible exact only_refl _ _
  exact (rfl : _ = true)

theorem State.voteIn_touch : ∀ s x1, (State.voteIn s x1).onlyChanges s [.interrupts, .tallies, .daybook, .outputs, .flash, .can, .sleep] := by
  intro s x1
  unfold State.voteIn
  conv => zeta
  with_reducible refine only_ite ?_ ?_
  with_reducible refine only_step ?_ (State.takeRound_touch _ _)
  with_reducible exact only_refl _ _
  with_reducible refine only_step ?_ (State.tryAgree_touch _)
  split
  with_reducible refine only_set_sleep _ ?_ ?_
  with_reducible exact only_refl _ _
  exact (rfl : _ = true)
  split
  with_reducible refine only_set_sleep _ ?_ ?_
  with_reducible exact only_refl _ _
  exact (rfl : _ = true)
  with_reducible refine only_set_sleep _ ?_ ?_
  with_reducible exact only_refl _ _
  exact (rfl : _ = true)

theorem cmdPortRead_touch : ∀ b s, (cmdPortRead.run b s).st.onlyChanges s [.store] := by
  intro b s
  unfold cmdPortRead
  dsimp only
  with_reducible refine only_ite3 ?_ ?_
  with_reducible refine only_step ?_ (refuse_touch _ _)
  with_reducible exact only_refl _ _
  split
  with_reducible refine only_step ?_ (refuse_touch _ _)
  with_reducible exact only_refl _ _
  with_reducible refine only_ite3 ?_ ?_
  with_reducible refine only_step ?_ (refuse_touch _ _)
  with_reducible exact only_refl _ _
  with_reducible refine only_step ?_ (ans_touch _ _ _)
  with_reducible refine only_ite ?_ ?_
  with_reducible refine only_step ?_ (State.setPort_touch _ _ _)
  with_reducible exact only_refl _ _
  with_reducible exact only_refl _ _

theorem State.pubSend_touch : ∀ s x1 x2 x3, (State.pubSend s x1 x2 x3).onlyChanges s [.interrupts, .tallies, .daybook, .outputs, .flash, .ports, .fabric, .store, .vault, .seeds] := by
  intro s x1 x2 x3
  unfold State.pubSend
  conv => zeta
  with_reducible refine only_ite ?_ ?_
  with_reducible refine only_step ?_ (State.breach_touch _ _ _ _)
  with_reducible refine only_step ?_ (State.count_touch _ _)
  with_reducible exact only_refl _ _
  with_reducible refine only_foldl _ _ (fun _ _ => ?_) _ _ _ ?_
  with_reducible refine only_step ?_ (State.egress_touch _ _)
  with_reducible exact only_refl _ _
  with_reducible refine only_step ?_ (State.freeFrames_touch _)
  with_reducible refine only_foldl _ _ (fun _ _ => ?_) _ _ _ ?_
  with_reducible refine only_step ?_ (State.enqueue_touch _ _ _ _ _ _)
  with_reducible exact only_refl _ _
  with_reducible refine only_step ?_ (State.count_touch _ _)
  with_reducible refine only_step ?_ (State.store_touch _ _)
  with_reducible refine only_step ?_ (State.setPort_touch _ _ _)
  with_reducible exact only_refl _ _

theorem State.publish_touch : ∀ s x1, (State.publish s x1).onlyChanges s [.interrupts, .tallies, .daybook, .outputs, .flash, .ports, .fabric, .store, .vault, .seeds] := by
  intro s x1
  unfold State.publish
  conv => zeta
  split
  with_reducible exact only_refl _ _
  with_reducible refine only_ite ?_ ?_
  with_reducible refine only_step ?_ (State.suppress_touch _)
  with_reducible exact only_refl _ _
  with_reducible refine only_ite ?_ ?_
  with_reducible exact only_refl _ _
  split
  with_reducible exact only_refl _ _
  split
  with_reducible refine only_step ?_ (State.noteOnce_touch _ _ _ _)
  with_reducible refine only_step ?_ (State.count_touch _ _)
  with_reducible exact only_refl _ _
  with_reducible refine only_step ?_ (State.pubSend_touch _ _ _ _)
  with_reducible exact only_refl _ _

theorem State.axleRejoin_touch : ∀ s x1, (State.axleRejoin s x1).onlyChanges s [.interrupts, .tallies, .daybook, .outputs, .flash, .pace, .gaffer] := by
  intro s x1
  unfold State.axleRejoin
  conv => zeta
  split
  with_reducible exact only_refl _ _
  split
  with_reducible exact only_refl _ _
  with_reducible refine only_ite ?_ ?_
  with_reducible exact only_refl _ _
  with_reducible refine only_ite ?_ ?_
  with_reducible refine only_ite ?_ ?_
  with_reducible refine only_step ?_ (State.rebase_touch _ _ _)
  with_reducible refine only_step ?_ (State.note_touch _ _ _)
  with_reducible refine only_set_pace _ ?_ ?_
  with_reducible refine only_step ?_ (State.note_touch _ _ _)
  with_reducible refine only_step ?_ (State.setAxle_touch _ _)
  with_reducible exact only_refl _ _
  exact (rfl : _ = true)
  with_reducible refine only_step ?_ (State.align_touch _ _ _ _ _ _)
  with_reducible refine only_step ?_ (State.note_touch _ _ _)
  with_reducible refine only_set_pace _ ?_ ?_
  with_reducible refine only_step ?_ (State.note_touch _ _ _)
  with_reducible refine only_step ?_ (State.setAxle_touch _ _)
  with_reducible exact only_refl _ _
  exact (rfl : _ = true)
  with_reducible refine only_ite ?_ ?_
  with_reducible refine only_step ?_ (State.rebase_touch _ _ _)
  with_reducible refine only_step ?_ (State.note_touch _ _ _)
  with_reducible refine only_set_pace _ ?_ ?_
  with_reducible refine only_step ?_ (State.note_touch _ _ _)
  with_reducible refine only_step ?_ (State.setAxle_touch _ _)
  with_reducible exact only_refl _ _
  exact (rfl : _ = true)
  with_reducible refine only_step ?_ (State.rebase_touch _ _ _)
  with_reducible refine only_step ?_ (State.note_touch _ _ _)
  with_reducible refine only_step ?_ (State.setAxle_touch _ _)
  with_reducible exact only_refl _ _

theorem State.keyRepeat_touch : ∀ s x1, (State.keyRepeat s x1).onlyChanges s [.interrupts, .tallies, .daybook, .outputs, .flash, .vault] := by
  intro s x1
  unfold State.keyRepeat
  conv => zeta
  split
  with_reducible exact only_refl _ _
  with_reducible refine only_ite ?_ ?_
  with_reducible exact only_refl _ _
  with_reducible refine only_ite ?_ ?_
  with_reducible refine only_step ?_ (State.keyFail_touch _ _ _)
  with_reducible exact only_refl _ _
  with_reducible refine only_step ?_ (State.keySend_touch _ _ _ _ _)
  with_reducible refine only_step ?_ (State.setKey_touch _ _ _)
  with_reducible exact only_refl _ _

theorem State.forget_touch : ∀ s x1, (State.forget s x1).onlyChanges s [.time] := by
  intro s x1
  unfold State.forget
  conv => zeta
  split
  with_reducible refine only_ite ?_ ?_
  with_reducible refine only_step ?_ (State.setTport_touch _ _ _)
  with_reducible exact only_refl _ _
  with_reducible exact only_refl _ _
  with_reducible exact only_refl _ _

theorem State.announceLost_touch : ∀ s, (State.announceLost s).onlyChanges s [.interrupts, .tallies, .daybook, .outputs, .flash, .time] := by
  intro s
  unfold State.announceLost
  conv => zeta
  with_reducible refine only_ite ?_ ?_
  split
  with_reducible refine only_ite ?_ ?_
  with_reducible refine only_step ?_ (State.holdover_touch _)
  with_reducible refine only_foldl _ _ (fun _ _ => ?_) _ _ _ ?_
  with_reducible refine only_step ?_ (State.forget_touch _ _)
  with_reducible exact only_refl _ _
  with_reducible exact only_refl _ _
  with_reducible refine only_foldl _ _ (fun _ _ => ?_) _ _ _ ?_
  with_reducible refine only_step ?_ (State.forget_touch _ _)
  with_reducible exact only_refl _ _
  with_reducible exact only_refl _ _
  with_reducible refine only_foldl _ _ (fun _ _ => ?_) _ _ _ ?_
  with_reducible refine only_step ?_ (State.forget_touch _ _)
  with_reducible exact only_refl _ _
  with_reducible exact only_refl _ _
  with_reducible refine only_ite ?_ ?_
  with_reducible refine only_foldl _ _ (fun _ _ => ?_) _ _ _ ?_
  with_reducible refine only_step ?_ (State.forget_touch _ _)
  with_reducible exact only_refl _ _
  with_reducible exact only_refl _ _
  with_reducible refine only_ite ?_ ?_
  with_reducible refine only_foldl _ _ (fun _ _ => ?_) _ _ _ ?_
  with_reducible refine only_step ?_ (State.forget_touch _ _)
  with_reducible exact only_refl _ _
  with_reducible exact only_refl _ _
  with_reducible refine only_ite ?_ ?_
  with_reducible refine only_step ?_ (State.selectOwn_touch _)
  with_reducible refine only_foldl _ _ (fun _ _ => ?_) _ _ _ ?_
  with_reducible refine only_step ?_ (State.forget_touch _ _)
  with_reducible exact only_refl _ _
  with_reducible exact only_refl _ _
  with_reducible refine only_step ?_ (State.bmc_touch _)
  with_reducible refine only_foldl _ _ (fun _ _ => ?_) _ _ _ ?_
  with_reducible refine only_step ?_ (State.forget_touch _ _)
  with_reducible exact only_refl _ _
  with_reducible exact only_refl _ _

theorem State.voteWrite_touch : ∀ s x1 x2, (State.voteWrite s x1 x2).onlyChanges s [.triad] := by
  intro s x1 x2
  unfold State.voteWrite
  conv => zeta
  split
  split
  with_reducible refine only_set_triad _ ?_ ?_
  with_reducible exact only_refl _ _
  exact (rfl : _ = true)
  with_reducible refine only_set_triad _ ?_ ?_
  with_reducible exact only_refl _ _
  exact (rfl : _ = true)
  split
  with_reducible refine only_set_triad _ ?_ ?_
  with_reducible exact only_refl _ _
  exact (rfl : _ = true)
  with_reducible exact only_refl _ _

theorem State.commitWrites_touch : ∀ s x1 x2, (State.commitWrites s x1 x2).onlyChanges s [.interrupts, .clock, .tallies, .outputs, .store, .triad] := by
  intro s x1 x2
  unfold State.commitWrites
  conv => zeta
  with_reducible refine only_foldl _ _ (fun _ _ => ?_) _ _ _ ?_
  split
  with_reducible refine only_step ?_ (State.commitPort_touch _ _ _ _ _ _)
  with_reducible exact only_refl _ _
  with_reducible exact only_refl _ _
  with_reducible refine only_foldl _ _ (fun _ _ => ?_) _ _ _ ?_
  with_reducible refine only_ite ?_ ?_
  with_reducible exact only_refl _ _
  with_reducible refine only_ite ?_ ?_
  with_reducible refine only_step ?_ (State.tcmWrite_touch _ _ _)
  with_reducible exact only_refl _ _
  with_reducible refine only_step ?_ (State.voteWrite_touch _ _ _)
  with_reducible exact only_refl _ _
  with_reducible refine only_step ?_ (State.countN_touch _ _ _)
  with_reducible exact only_refl _ _

theorem State.taskEnd_touch : ∀ s x1, (State.taskEnd s x1).onlyChanges s [.interrupts, .clock, .tallies, .daybook, .outputs, .flash, .store, .triad, .twin, .seeds] := by
  intro s x1
  unfold State.taskEnd
  conv => zeta
  split
  with_reducible exact only_refl _ _
  with_reducible refine only_ite ?_ ?_
  with_reducible refine only_step ?_ (State.nextTask_touch _)
  with_reducible refine only_step ?_ (State.overrun_touch _ _)
  with_reducible refine only_step ?_ (State.stopTask_touch _)
  with_reducible refine only_step ?_ (State.corrupt_touch _)
  with_reducible exact only_refl _ _
  split
  with_reducible refine only_step ?_ (State.corrupt_touch _)
  with_reducible exact only_refl _ _
  with_reducible refine only_step ?_ (State.nextTask_touch _)
  with_reducible refine only_step ?_ (State.stopTask_touch _)
  with_reducible refine only_step ?_ (State.count_touch _ _)
  with_reducible refine only_step ?_ (State.commitWrites_touch _ _ _)
  with_reducible refine only_step ?_ (State.corrupt_touch _)
  with_reducible exact only_refl _ _

theorem State.respFollowIn_touch : ∀ s x1, (State.respFollowIn s x1).onlyChanges s [.interrupts, .tallies, .daybook, .outputs, .flash, .time] := by
  intro s x1
  unfold State.respFollowIn
  conv => zeta
  with_reducible refine only_step ?_ (State.acceptTime_touch (l := [.interrupts, .tallies, .daybook, .outputs, .flash, .time]) (hl := ?_) (hb := ?_) _ _ _)
  with_reducible exact only_refl _ _
  intro _
  split
  with_reducible refine only_ite ?_ ?_
  with_reducible exact only_refl _ _
  with_reducible refine only_step ?_ (State.delayed_touch _ _ _)
  with_reducible exact only_refl _ _
  with_reducible exact only_refl _ _
  exact (rfl : _ = true)

theorem cmdPdRing_touch : ∀ b s, (cmdPdRing.run b s).st.onlyChanges s [.store] := by
  intro b s
  unfold cmdPdRing
  dsimp only
  with_reducible refine only_ite3 ?_ ?_
  with_reducible refine only_step ?_ (refuse_touch _ _)
  with_reducible exact only_refl _ _
  with_reducible refine only_ite3 ?_ ?_
  with_reducible refine only_step ?_ (ans_touch _ _ _)
  with_reducible exact only_refl _ _
  with_reducible refine only_ite3 ?_ ?_
  with_reducible refine only_step ?_ (refuse_touch _ _)
  with_reducible exact only_refl _ _
  with_reducible refine only_step ?_ (ans_touch _ _ _)
  split
  with_reducible refine only_set_pd _ ?_ ?_
  with_reducible exact only_refl _ _
  exact (rfl : _ = true)
  with_reducible refine only_set_pd _ ?_ ?_
  with_reducible exact only_refl _ _
  exact (rfl : _ = true)

end Sys2Proof.Machine
end

