-- ==== Sys2Proof/Laws/Commands.lean ====
section
/-! SUPPORT. Which parts of the state each command can change, composed from the lemmas of its
operations. -/

namespace Sys2Proof.Machine

-- One proof at a time: hundreds at once would need more threads than memory allows.
set_option Elab.async false

/-- The next state of an outcome differs from `s` in these parts at most. -/
def touched (o : Out) (s : State) (l : List Part) : Prop := ∀ t, o = .next t → t.onlyChanges s l
theorem touched_go {s u : State} {l : List Part} (h : u.onlyChanges s l) : touched (go u) s l := by
  intro t ht
  cases ht
  exact only_trans h (only_sub (State.pins_touch u) rfl)
theorem commands_touch (c : Cmd) (h : c ∈ commands) : ∀ b s, (c.run b s).st.onlyChanges s allParts := by
  rcases List.mem_append.1 h with h | h
  · exact (List.forall_mem_cons.2 ⟨fun b s => only_sub (cmdIdentify_touch b s) rfl,
    (List.forall_mem_cons.2 ⟨fun b s => only_sub (cmdTallyRead_touch b s) rfl,
    (List.forall_mem_cons.2 ⟨fun b s => only_sub (cmdDaybookRead_touch b s) rfl,
    (List.forall_mem_cons.2 ⟨fun b s => only_sub (cmdStage_touch b s) rfl,
    (List.forall_mem_cons.2 ⟨fun b s => only_sub (cmdCommit_touch b s) rfl,
    (List.forall_mem_cons.2 ⟨fun b s => only_sub (cmdActivate_touch b s) rfl,
    (List.forall_mem_cons.2 ⟨fun b s => only_sub (cmdActAt_touch b s) rfl,
    (List.forall_mem_cons.2 ⟨fun b s => only_sub (cmdMacConfig_touch b s) rfl,
    (List.forall_mem_cons.2 ⟨fun b s => only_sub (cmdMdio_touch b s) rfl,
    (List.forall_mem_cons.2 ⟨fun b s => only_sub (cmdLedgerRead_touch b s) rfl,
    (List.forall_mem_cons.2 ⟨fun b s => only_sub (cmdPortRead_touch b s) rfl,
    (List.forall_mem_cons.2 ⟨fun b s => only_sub (cmdPortWrite_touch b s) rfl,
    (List.forall_mem_cons.2 ⟨fun b s => only_sub (cmdPdRing_touch b s) rfl,
    (List.forall_mem_cons.2 ⟨fun b s => only_sub (cmdInaugConfig_touch b s) rfl,
    (List.forall_mem_cons.2 ⟨fun b s => only_sub (cmdInaugStatus_touch b s) rfl,
    (List.forall_mem_cons.2 ⟨fun b s => only_sub (cmdTimeConfig_touch b s) rfl,
    (List.forall_mem_cons.2 ⟨fun b s => only_sub (cmdTimeStatus_touch b s) rfl,
    (List.forall_mem_cons.2 ⟨fun b s => only_sub (cmdRestep_touch b s) rfl,
    (List.forall_mem_cons.2 ⟨fun b s => only_sub (cmdCanWrite_touch b s) rfl,
    (List.forall_mem_cons.2 ⟨fun b s => only_sub (cmdCanRead_touch b s) rfl,
    (List.forall_mem_cons.2 ⟨fun b s => only_sub (cmdCanCancel_touch b s) rfl,
    (List.forall_mem_cons.2 ⟨fun b s => only_sub (cmdCanRecover_touch b s) rfl,
    (List.forall_mem_cons.2 ⟨fun b s => only_sub (cmdCanStatus_touch b s) rfl, fun _ h => absurd h List.not_mem_nil⟩)⟩)⟩)⟩)⟩)⟩)⟩)⟩)⟩)⟩)⟩)⟩)⟩)⟩)⟩)⟩)⟩)⟩)⟩)⟩)⟩)⟩)⟩ : ∀ c ∈ _, ∀ b s, (Cmd.run c b s).st.onlyChanges s allParts) c h
  · exact (List.forall_mem_cons.2 ⟨fun b s => only_sub (cmdWakeConfig_touch b s) rfl,
    (List.forall_mem_cons.2 ⟨fun b s => only_sub (cmdSleep_touch b s) rfl,
    (List.forall_mem_cons.2 ⟨fun b s => only_sub (cmdMeasRead_touch b s) rfl,
    (List.forall_mem_cons.2 ⟨fun b s => only_sub (cmdMeasWheel_touch b s) rfl,
    (List.forall_mem_cons.2 ⟨fun b s => only_sub (cmdTriadStatus_touch b s) rfl,
    (List.forall_mem_cons.2 ⟨fun b s => only_sub (cmdTriadRestart_touch b s) rfl,
    (List.forall_mem_cons.2 ⟨fun b s => only_sub (cmdTwinConfig_touch b s) rfl,
    (List.forall_mem_cons.2 ⟨fun b s => only_sub (cmdTwinStatus_touch b s) rfl,
    (List.forall_mem_cons.2 ⟨fun b s => only_sub (cmdTwinDrill_touch b s) rfl,
    (List.forall_mem_cons.2 ⟨fun b s => only_sub (cmdFeedStatus_touch b s) rfl,
    (List.forall_mem_cons.2 ⟨fun b s => only_sub (cmdLehrConfig_touch b s) rfl,
    (List.forall_mem_cons.2 ⟨fun b s => only_sub (cmdLehrReport_touch b s) rfl,
    (List.forall_mem_cons.2 ⟨fun b s => only_sub (cmdBridgeConfig_touch b s) rfl,
    (List.forall_mem_cons.2 ⟨fun b s => only_sub (cmdFlbRead_touch b s) rfl,
    (List.forall_mem_cons.2 ⟨fun b s => only_sub (cmdFlbWrite_touch b s) rfl,
    (List.forall_mem_cons.2 ⟨fun b s => only_sub (cmdDishonourRead_touch b s) rfl,
    (List.forall_mem_cons.2 ⟨fun b s => only_sub (cmdPin_touch b s) rfl,
    (List.forall_mem_cons.2 ⟨fun b s => only_sub (cmdEnrol_touch b s) rfl,
    (List.forall_mem_cons.2 ⟨fun b s => only_sub (cmdWarrant_touch b s) rfl,
    (List.forall_mem_cons.2 ⟨fun b s => only_sub (cmdAttest_touch b s) rfl,
    (List.forall_mem_cons.2 ⟨fun b s => only_sub (cmdLinkPolicy_touch b s) rfl,
    (List.forall_mem_cons.2 ⟨fun b s => only_sub (cmdFwStage_touch b s) rfl,
    (List.forall_mem_cons.2 ⟨fun b s => only_sub (cmdFwSwap_touch b s) rfl,
    (List.forall_mem_cons.2 ⟨fun b s => only_sub (cmdSeedArm_touch b s) rfl,
    (List.forall_mem_cons.2 ⟨fun b s => only_sub (cmdSeedClear_touch b s) rfl, fun _ h => absurd h List.not_mem_nil⟩)⟩)⟩)⟩)⟩)⟩)⟩)⟩)⟩)⟩)⟩)⟩)⟩)⟩)⟩)⟩)⟩)⟩)⟩)⟩)⟩)⟩)⟩)⟩)⟩ : ∀ c ∈ _, ∀ b s, (Cmd.run c b s).st.onlyChanges s allParts) c h
theorem ring_touch : ∀ s, (ring s).onlyChanges s [.mailbox, .interrupts, .clock, .tallies, .daybook, .outputs, .system, .flash, .feeds, .lehr, .parison, .trackers, .pace, .gaffer, .ports, .fabric, .store, .inaug, .time, .can, .sleep, .measure, .triad, .twin, .bridge, .vault, .seeds] := by
  intro s
  refine State.ringReq_touch _ _ (fun o c h => commands_touch c ?_) rfl
  exact List.mem_of_find?_eq_some h
theorem execWakeAlarm_touch : ∀ x0 s, touched (execWakeAlarm x0 s) s [.tallies, .can, .sleep] := by
  intro x0 s
  unfold execWakeAlarm
  conv => zeta
  with_reducible refine touched_go ?_
  with_reducible refine only_ite ?_ ?_
  with_reducible refine only_step ?_ (State.wakeReq_touch _ _ _)
  with_reducible refine only_step ?_ (State.elapse_touch _ _)
  with_reducible exact only_refl _ _
  with_reducible refine only_step ?_ (State.elapse_touch _ _)
  with_reducible exact only_refl _ _

theorem execMbSeedArm_touch : ∀ x0 x1 s, touched (execMbSeedArm x0 x1 s) s [.mailbox, .interrupts, .tallies, .daybook, .outputs, .flash, .pace, .gaffer, .vault, .seeds] := by
  intro x0 x1 s
  unfold execMbSeedArm
  conv => zeta
  with_reducible refine touched_go ?_
  exact only_trans (only_sub (State.elapse_touch _ _) rfl) (State.submit_touch _ _ _ (fun b v => only_sub (cmdSeedArm_touch b v) rfl) rfl)

theorem execTellerTakesFrame_touch : ∀ x0 s, touched (execTellerTakesFrame x0 s) s [.fabric] := by
  intro x0 s
  unfold execTellerTakesFrame
  conv => zeta
  split
  split
  with_reducible refine touched_go ?_
  with_reducible refine only_step ?_ (State.freeFrames_touch _)
  with_reducible refine only_step ?_ (State.take_touch _ _)
  with_reducible refine only_step ?_ (State.elapse_touch _ _)
  with_reducible exact only_refl _ _
  with_reducible refine touched_go ?_
  with_reducible refine only_step ?_ (State.elapse_touch _ _)
  with_reducible exact only_refl _ _
  with_reducible refine touched_go ?_
  with_reducible refine only_step ?_ (State.elapse_touch _ _)
  with_reducible exact only_refl _ _

theorem execConsentAbortRx_touch : ∀ x0 s, touched (execConsentAbortRx x0 s) s [.interrupts, .tallies, .daybook, .outputs, .flash, .can, .sleep] := by
  intro x0 s
  unfold execConsentAbortRx
  conv => zeta
  with_reducible refine touched_go ?_
  with_reducible refine only_step ?_ (State.takeConsent_touch (l := [.interrupts, .tallies, .daybook, .outputs, .flash, .can, .sleep]) (hl := ?_) (hb := ?_) _ _ _)
  with_reducible refine only_step ?_ (State.elapse_touch _ _)
  with_reducible exact only_refl _ _
  intro _
  intro _
  intro _
  with_reducible refine only_step ?_ (State.abortIn_touch _ _)
  with_reducible exact only_refl _ _
  exact (rfl : _ = true)

theorem execAssay_touch : ∀ x0 x1 s, touched (execAssay x0 x1 s) s [.interrupts, .tallies, .daybook, .outputs, .flash, .triad] := by
  intro x0 x1 s
  unfold execAssay
  conv => zeta
  with_reducible refine touched_go ?_
  with_reducible refine only_step ?_ (State.assay_touch _ _)
  with_reducible refine only_step ?_ (State.elapse_touch _ _)
  with_reducible exact only_refl _ _

theorem execMbTallyRead_touch : ∀ x0 x1 s, touched (execMbTallyRead x0 x1 s) s [.mailbox, .interrupts, .tallies, .daybook, .outputs, .flash, .gaffer] := by
  intro x0 x1 s
  unfold execMbTallyRead
  conv => zeta
  with_reducible refine touched_go ?_
  exact only_trans (only_sub (State.elapse_touch _ _) rfl) (State.submit_touch _ _ _ (fun b v => only_sub (cmdTallyRead_touch b v) rfl) rfl)

theorem execDefaultParison_touch : ∀ x0 s, touched (execDefaultParison x0 s) s [.interrupts, .tallies, .daybook, .outputs, .system, .flash, .parison, .trackers, .fabric, .measure] := by
  intro x0 s
  unfold execDefaultParison
  conv => zeta
  split
  with_reducible refine touched_go ?_
  with_reducible refine only_ite ?_ ?_
  with_reducible refine only_step ?_ (State.loadDefault_touch _ _)
  with_reducible refine only_step ?_ (State.elapse_touch _ _)
  with_reducible exact only_refl _ _
  with_reducible refine only_step ?_ (State.elapse_touch _ _)
  with_reducible exact only_refl _ _
  with_reducible refine touched_go ?_
  with_reducible refine only_step ?_ (State.elapse_touch _ _)
  with_reducible exact only_refl _ _

theorem execEscrowSnapshot_touch : ∀ x0 s, touched (execEscrowSnapshot x0 s) s [.interrupts, .clock, .tallies, .daybook, .outputs, .flash, .twin, .seeds] := by
  intro x0 s
  unfold execEscrowSnapshot
  conv => zeta
  with_reducible refine touched_go ?_
  with_reducible refine only_step ?_ (State.seal_touch _)
  with_reducible refine only_step ?_ (State.elapse_touch _ _)
  with_reducible exact only_refl _ _

theorem execActivation_touch : ∀ x0 s, touched (execActivation x0 s) s [.interrupts, .tallies, .daybook, .outputs, .flash, .parison, .trackers, .pace, .gaffer, .ports, .fabric, .store, .inaug, .can, .sleep, .measure, .triad, .twin, .bridge, .vault, .seeds] := by
  intro x0 s
  unfold execActivation
  conv => zeta
  split
  split
  with_reducible refine touched_go ?_
  with_reducible refine only_step ?_ (State.elapse_touch _ _)
  with_reducible exact only_refl _ _
  split
  with_reducible refine touched_go ?_
  with_reducible refine only_step ?_ (State.activateCold_touch _ _ _)
  with_reducible refine only_step ?_ (State.rebindBy_touch _ _)
  with_reducible refine only_step ?_ (State.elapse_touch _ _)
  with_reducible exact only_refl _ _
  with_reducible refine touched_go ?_
  with_reducible refine only_step ?_ (State.activateWarm_touch _ _ _)
  with_reducible refine only_step ?_ (State.rebindBy_touch _ _)
  with_reducible refine only_step ?_ (State.elapse_touch _ _)
  with_reducible exact only_refl _ _
  with_reducible refine touched_go ?_
  with_reducible refine only_step ?_ (State.elapse_touch _ _)
  with_reducible exact only_refl _ _

theorem execCanTxComplete_touch : ∀ x0 x1 x2 s, touched (execCanTxComplete x0 x1 x2 s) s [.mailbox, .interrupts, .clock, .tallies, .daybook, .outputs, .flash, .can, .sleep, .seeds] := by
  intro x0 x1 x2 s
  unfold execCanTxComplete
  conv => zeta
  with_reducible refine touched_go ?_
  with_reducible refine only_step ?_ (State.txComplete_touch _ _ _)
  with_reducible refine only_step ?_ (State.elapse_touch _ _)
  with_reducible exact only_refl _ _

theorem execKeyNextRx_touch : ∀ x0 x1 s, touched (execKeyNextRx x0 x1 s) s [.tallies, .outputs, .fabric] := by
  intro x0 x1 s
  unfold execKeyNextRx
  conv => zeta
  with_reducible refine touched_go ?_
  with_reducible refine only_step ?_ (State.keyNext_touch _ _)
  with_reducible refine only_step ?_ (State.elapse_touch _ _)
  with_reducible exact only_refl _ _

theorem execFeedReturn_touch : ∀ x0 x1 s, touched (execFeedReturn x0 x1 s) s [.interrupts, .tallies, .daybook, .outputs, .flash, .feeds, .trackers, .gaffer, .ports, .inaug, .triad] := by
  intro x0 x1 s
  unfold execFeedReturn
  conv => zeta
  with_reducible refine touched_go ?_
  with_reducible refine only_ite ?_ ?_
  with_reducible refine only_step ?_ (State.returned_touch _ _)
  with_reducible refine only_step ?_ (State.elapse_touch _ _)
  with_reducible exact only_refl _ _
  with_reducible refine only_step ?_ (State.elapse_touch _ _)
  with_reducible exact only_refl _ _

theorem execTachLatch_touch : ∀ x0 x1 s, touched (execTachLatch x0 x1 s) s [.interrupts, .clock, .tallies, .daybook, .outputs, .flash, .parison, .gaffer, .store, .measure, .seeds] := by
  intro x0 x1 s
  unfold execTachLatch
  conv => zeta
  with_reducible refine touched_go ?_
  with_reducible refine only_step ?_ (State.act_touch (l := [.interrupts, .clock, .tallies, .daybook, .outputs, .flash, .parison, .gaffer, .store, .measure, .seeds]) (hl := ?_) (hb := ?_) _ _ _ _)
  with_reducible refine only_step ?_ (State.elapse_touch _ _)
  with_reducible exact only_refl _ _
  intro _
  intro _
  with_reducible refine only_step ?_ (State.toUnit_touch (l := [.interrupts, .clock, .tallies, .daybook, .outputs, .flash, .parison, .gaffer, .store, .measure, .seeds]) (hl := ?_) (hb := ?_) _ _ _)
  with_reducible exact only_refl _ _
  intro _
  split
  with_reducible refine only_step ?_ (State.capture_touch _ _ _ _)
  with_reducible refine only_step ?_ (State.setTach_touch _ _ _)
  with_reducible refine only_step ?_ (State.tachRecord_touch _ _ _ _)
  with_reducible exact only_refl _ _
  with_reducible exact only_refl _ _
  exact (rfl : _ = true)
  exact (rfl : _ = true)

theorem execDoorbellAck_touch : ∀ x0 s, touched (execDoorbellAck x0 s) s [.mailbox] := by
  intro x0 s
  unfold execDoorbellAck
  conv => zeta
  with_reducible refine touched_go ?_
  with_reducible refine only_ite ?_ ?_
  with_reducible refine only_step ?_ (State.ackResp_touch _)
  with_reducible refine only_step ?_ (State.elapse_touch _ _)
  with_reducible exact only_refl _ _
  with_reducible refine only_step ?_ (State.elapse_touch _ _)
  with_reducible exact only_refl _ _

theorem execFeedWarn_touch : ∀ x0 x1 x2 x3 s, touched (execFeedWarn x0 x1 x2 x3 s) s [.interrupts, .tallies, .daybook, .outputs, .flash, .feeds] := by
  intro x0 x1 x2 x3 s
  unfold execFeedWarn
  conv => zeta
  with_reducible refine touched_go ?_
  with_reducible refine only_step ?_ (State.feedWarning_touch _ _ _ _)
  with_reducible refine only_step ?_ (State.elapse_touch _ _)
  with_reducible exact only_refl _ _

theorem execTriadResync_touch : ∀ x0 s, touched (execTriadResync x0 s) s [.interrupts, .tallies, .daybook, .outputs, .flash, .triad] := by
  intro x0 s
  unfold execTriadResync
  conv => zeta
  split
  with_reducible refine touched_go ?_
  with_reducible refine only_step ?_ (State.note_touch _ _ _)
  with_reducible refine only_step ?_ (State.count_touch _ _)
  with_reducible refine only_step ?_ (State.setCore_touch _ _ _)
  with_reducible refine only_step ?_ (State.endResync_touch _)
  with_reducible refine only_step ?_ (State.elapse_touch _ _)
  with_reducible exact only_refl _ _
  with_reducible refine touched_go ?_
  with_reducible refine only_step ?_ (State.elapse_touch _ _)
  with_reducible exact only_refl _ _

theorem execTimeMessageDeparture_touch : ∀ x0 x1 s, touched (execTimeMessageDeparture x0 x1 s) s [.interrupts, .tallies, .daybook, .outputs, .flash, .ports, .fabric, .time, .vault, .seeds] := by
  intro x0 x1 s
  unfold execTimeMessageDeparture
  conv => zeta
  with_reducible refine touched_go ?_
  with_reducible refine only_step ?_ (State.timeDepart_touch _ _)
  with_reducible refine only_step ?_ (State.elapse_touch _ _)
  with_reducible exact only_refl _ _

theorem execSyncRx_touch : ∀ x0 x1 s, touched (execSyncRx x0 x1 s) s [.interrupts, .clock, .tallies, .daybook, .outputs, .flash, .parison, .gaffer, .fabric, .inaug, .time] := by
  intro x0 x1 s
  unfold execSyncRx
  conv => zeta
  with_reducible refine touched_go ?_
  with_reducible refine only_step ?_ (State.syncIn_touch _ _)
  with_reducible refine only_step ?_ (State.elapse_touch _ _)
  with_reducible exact only_refl _ _

theorem execLinkDown_touch : ∀ x0 x1 x2 s, touched (execLinkDown x0 x1 x2 s) s [.interrupts, .clock, .tallies, .daybook, .outputs, .flash, .ports, .fabric, .inaug, .time, .vault] := by
  intro x0 x1 x2 s
  unfold execLinkDown
  conv => zeta
  with_reducible refine touched_go ?_
  with_reducible refine only_step ?_ (State.linkFall_touch _ _ _)
  with_reducible refine only_step ?_ (State.elapse_touch _ _)
  with_reducible exact only_refl _ _

theorem execMbMeasWheel_touch : ∀ x0 x1 s, touched (execMbMeasWheel x0 x1 s) s [.mailbox, .interrupts, .tallies, .daybook, .outputs, .flash, .measure] := by
  intro x0 x1 s
  unfold execMbMeasWheel
  conv => zeta
  with_reducible refine touched_go ?_
  exact only_trans (only_sub (State.elapse_touch _ _) rfl) (State.submit_touch _ _ _ (fun b v => only_sub (cmdMeasWheel_touch b v) rfl) rfl)

theorem execEscrowSeal_touch : ∀ x0 x1 s, touched (execEscrowSeal x0 x1 s) s [.interrupts, .tallies, .daybook, .outputs, .flash, .parison, .gaffer, .twin, .seeds] := by
  intro x0 x1 s
  unfold execEscrowSeal
  conv => zeta
  with_reducible refine touched_go ?_
  with_reducible refine only_step ?_ (State.act_touch (l := [.interrupts, .tallies, .daybook, .outputs, .flash, .parison, .gaffer, .twin, .seeds]) (hl := ?_) (hb := ?_) _ _ _ _)
  with_reducible refine only_step ?_ (State.elapse_touch _ _)
  with_reducible exact only_refl _ _
  intro _
  intro _
  with_reducible refine only_ite ?_ ?_
  with_reducible refine only_set_twin _ ?_ ?_
  with_reducible exact only_refl _ _
  exact (rfl : _ = true)
  with_reducible exact only_refl _ _
  exact (rfl : _ = true)

theorem execTellerRestartComplete_touch : ∀ x0 s, touched (execTellerRestartComplete x0 s) s [.mailbox, .interrupts, .tallies, .daybook, .outputs, .system, .flash, .ports, .inaug] := by
  intro x0 s
  unfold execTellerRestartComplete
  conv => zeta
  with_reducible refine touched_go ?_
  with_reducible refine only_ite ?_ ?_
  with_reducible refine only_step ?_ (State.insertion_touch _)
  with_reducible refine only_step ?_ (State.serveAgain_touch _)
  with_reducible refine only_set_sys _ ?_ ?_
  with_reducible refine only_step ?_ (State.elapse_touch _ _)
  with_reducible exact only_refl _ _
  exact (rfl : _ = true)
  with_reducible refine only_step ?_ (State.elapse_touch _ _)
  with_reducible exact only_refl _ _

theorem execCloseGate_touch : ∀ x0 x1 s, touched (execCloseGate x0 x1 s) s [.interrupts, .tallies, .daybook, .outputs, .flash, .parison, .gaffer, .ports, .fabric, .vault, .seeds] := by
  intro x0 x1 s
  unfold execCloseGate
  conv => zeta
  with_reducible refine touched_go ?_
  with_reducible refine only_step ?_ (State.act_touch (l := [.interrupts, .tallies, .daybook, .outputs, .flash, .parison, .gaffer, .ports, .fabric, .vault, .seeds]) (hl := ?_) (hb := ?_) _ _ _ _)
  with_reducible refine only_step ?_ (State.elapse_touch _ _)
  with_reducible exact only_refl _ _
  intro _
  intro _
  with_reducible refine only_step ?_ (State.toUnit_touch (l := [.interrupts, .tallies, .daybook, .outputs, .flash, .parison, .gaffer, .ports, .fabric, .vault, .seeds]) (hl := ?_) (hb := ?_) _ _ _)
  with_reducible exact only_refl _ _
  intro _
  with_reducible refine only_step ?_ (State.egress_touch _ _)
  with_reducible refine only_step ?_ (State.closeGates_touch _ _ _)
  with_reducible exact only_refl _ _
  exact (rfl : _ = true)
  exact (rfl : _ = true)

theorem execFlbFetchComplete_touch : ∀ x0 x1 s, touched (execFlbFetchComplete x0 x1 s) s [.interrupts, .tallies, .daybook, .outputs, .flash, .can, .bridge] := by
  intro x0 x1 s
  unfold execFlbFetchComplete
  conv => zeta
  with_reducible refine touched_go ?_
  with_reducible refine only_step ?_ (State.fetched_touch _ _)
  with_reducible refine only_step ?_ (State.elapse_touch _ _)
  with_reducible exact only_refl _ _

theorem execSdRecovery_touch : ∀ x0 x1 s, touched (execSdRecovery x0 x1 s) s [.interrupts, .tallies, .daybook, .outputs, .flash, .measure] := by
  intro x0 x1 s
  unfold execSdRecovery
  conv => zeta
  split
  with_reducible refine touched_go ?_
  with_reducible refine only_step ?_ (State.elapse_touch _ _)
  with_reducible exact only_refl _ _
  split
  with_reducible refine touched_go ?_
  with_reducible refine only_step ?_ (State.elapse_touch _ _)
  with_reducible exact only_refl _ _
  with_reducible refine touched_go ?_
  with_reducible refine only_step ?_ (State.noteOnce_touch _ _ _ _)
  with_reducible refine only_step ?_ (State.setChan_touch _ _ _)
  with_reducible refine only_step ?_ (State.elapse_touch _ _)
  with_reducible exact only_refl _ _

theorem execKeyingRetry_touch : ∀ x0 x1 s, touched (execKeyingRetry x0 x1 s) s [.interrupts, .tallies, .daybook, .outputs, .flash, .vault] := by
  intro x0 x1 s
  unfold execKeyingRetry
  conv => zeta
  split
  split
  with_reducible refine touched_go ?_
  with_reducible refine only_step ?_ (State.keyStart_touch _ _)
  with_reducible refine only_step ?_ (State.elapse_touch _ _)
  with_reducible exact only_refl _ _
  with_reducible refine touched_go ?_
  with_reducible refine only_step ?_ (State.elapse_touch _ _)
  with_reducible exact only_refl _ _
  with_reducible refine touched_go ?_
  with_reducible refine only_step ?_ (State.elapse_touch _ _)
  with_reducible exact only_refl _ _

theorem execTimeMessageDue_touch : ∀ x0 x1 x2 s, touched (execTimeMessageDue x0 x1 x2 s) s [.time] := by
  intro x0 x1 x2 s
  unfold execTimeMessageDue
  conv => zeta
  with_reducible refine touched_go ?_
  with_reducible refine only_step ?_ (State.timeDue_touch _ _ _)
  with_reducible refine only_step ?_ (State.elapse_touch _ _)
  with_reducible exact only_refl _ _

theorem execFlbWriteDelivery_touch : ∀ x0 s, touched (execFlbWriteDelivery x0 s) s [.mailbox, .interrupts, .clock, .tallies, .daybook, .outputs, .system, .flash, .feeds, .lehr, .parison, .trackers, .pace, .gaffer, .ports, .fabric, .store, .inaug, .time, .can, .sleep, .measure, .triad, .twin, .bridge, .vault, .seeds] := by
  intro x0 s
  unfold execFlbWriteDelivery
  conv => zeta
  with_reducible refine touched_go ?_
  with_reducible refine only_step ?_ (State.deliverIn_touch (l := [.mailbox, .interrupts, .clock, .tallies, .daybook, .outputs, .system, .flash, .feeds, .lehr, .parison, .trackers, .pace, .gaffer, .ports, .fabric, .store, .inaug, .time, .can, .sleep, .measure, .triad, .twin, .bridge, .vault, .seeds]) (hl := ?_) (hb := ?_) _ _)
  with_reducible refine only_step ?_ (State.elapse_touch _ _)
  with_reducible exact only_refl _ _
  intro _
  with_reducible exact ring_touch _
  exact (rfl : _ = true)

theorem execWakePattern_touch : ∀ x0 x1 s, touched (execWakePattern x0 x1 s) s [.tallies, .can, .sleep] := by
  intro x0 x1 s
  unfold execWakePattern
  conv => zeta
  with_reducible refine touched_go ?_
  with_reducible refine only_ite ?_ ?_
  with_reducible refine only_step ?_ (State.wakeReq_touch _ _ _)
  with_reducible refine only_step ?_ (State.elapse_touch _ _)
  with_reducible exact only_refl _ _
  with_reducible refine only_step ?_ (State.elapse_touch _ _)
  with_reducible exact only_refl _ _

theorem execMsixHoldoffExpiry_touch : ∀ x0 x1 s, touched (execMsixHoldoffExpiry x0 x1 s) s [.interrupts, .outputs, .ports, .store] := by
  intro x0 x1 s
  unfold execMsixHoldoffExpiry
  conv => zeta
  with_reducible refine touched_go ?_
  with_reducible refine only_ite ?_ ?_
  with_reducible refine only_ite ?_ ?_
  with_reducible refine only_step ?_ (State.pdVector_touch _)
  with_reducible refine only_step ?_ (State.elapse_touch _ _)
  with_reducible exact only_refl _ _
  with_reducible refine only_step ?_ (State.elapse_touch _ _)
  with_reducible exact only_refl _ _
  with_reducible refine only_ite ?_ ?_
  with_reducible refine only_step ?_ (State.ringVector_touch _ _)
  with_reducible refine only_step ?_ (State.elapse_touch _ _)
  with_reducible exact only_refl _ _
  with_reducible refine only_step ?_ (State.elapse_touch _ _)
  with_reducible exact only_refl _ _

theorem execSysrstNAssert_touch : ∀ x0 x1 s, touched (execSysrstNAssert x0 x1 s) s [.mailbox, .interrupts, .clock, .tallies, .daybook, .outputs, .system, .flash, .feeds, .lehr, .parison, .trackers, .pace, .gaffer, .ports, .fabric, .store, .inaug, .time, .can, .sleep, .measure, .triad, .twin, .bridge, .vault, .seeds] := by
  intro x0 x1 s
  unfold execSysrstNAssert
  conv => zeta
  with_reducible refine touched_go ?_
  with_reducible refine only_ite ?_ ?_
  with_reducible refine only_step ?_ (State.sysrstHit_touch _ _)
  with_reducible refine only_step ?_ (State.elapse_touch _ _)
  with_reducible exact only_refl _ _
  with_reducible refine only_ite ?_ ?_
  with_reducible refine only_step ?_ (State.wakeReq_touch _ _ _)
  with_reducible refine only_step ?_ (State.sysrstHit_touch _ _)
  with_reducible refine only_step ?_ (State.elapse_touch _ _)
  with_reducible exact only_refl _ _
  with_reducible refine only_step ?_ (State.mainReset_touch _ _)
  with_reducible refine only_set_sys _ ?_ ?_
  with_reducible refine only_step ?_ (State.sysrstHit_touch _ _)
  with_reducible refine only_step ?_ (State.elapse_touch _ _)
  with_reducible exact only_refl _ _
  exact (rfl : _ = true)

theorem execMbInaugConfig_touch : ∀ x0 x1 s, touched (execMbInaugConfig x0 x1 s) s [.mailbox, .interrupts, .tallies, .daybook, .outputs, .flash, .ports, .inaug] := by
  intro x0 x1 s
  unfold execMbInaugConfig
  conv => zeta
  with_reducible refine touched_go ?_
  exact only_trans (only_sub (State.elapse_touch _ _) rfl) (State.submit_touch _ _ _ (fun b v => only_sub (cmdInaugConfig_touch b v) rfl) rfl)

theorem execFeedLoss_touch : ∀ x0 x1 x2 s, touched (execFeedLoss x0 x1 x2 s) s [.mailbox, .interrupts, .clock, .tallies, .daybook, .outputs, .system, .flash, .feeds, .lehr, .parison, .trackers, .pace, .gaffer, .ports, .fabric, .store, .inaug, .time, .can, .sleep, .measure, .triad, .twin, .bridge, .vault, .seeds] := by
  intro x0 x1 x2 s
  unfold execFeedLoss
  conv => zeta
  with_reducible refine touched_go ?_
  with_reducible refine only_step ?_ (State.feedLost_touch _ _ _)
  with_reducible refine only_step ?_ (State.elapse_touch _ _)
  with_reducible exact only_refl _ _

theorem execMbTwinStatus_touch : ∀ x0 x1 s, touched (execMbTwinStatus x0 x1 s) s [.mailbox, .interrupts, .clock, .tallies, .daybook, .outputs, .flash] := by
  intro x0 x1 s
  unfold execMbTwinStatus
  conv => zeta
  with_reducible refine touched_go ?_
  exact only_trans (only_sub (State.elapse_touch _ _) rfl) (State.submit_touch _ _ _ (fun b v => only_sub (cmdTwinStatus_touch b v) rfl) rfl)

theorem execPortWindowReady_touch : ∀ x0 s, touched (execPortWindowReady x0 s) s [.store] := by
  intro x0 s
  unfold execPortWindowReady
  conv => zeta
  with_reducible refine touched_go ?_
  with_reducible refine only_ite ?_ ?_
  with_reducible refine only_set_pd _ ?_ ?_
  with_reducible refine only_step ?_ (State.elapse_touch _ _)
  with_reducible exact only_refl _ _
  exact (rfl : _ = true)
  with_reducible refine only_step ?_ (State.elapse_touch _ _)
  with_reducible exact only_refl _ _

theorem execKeyInitRx_touch : ∀ x0 x1 s, touched (execKeyInitRx x0 x1 s) s [.outputs, .vault] := by
  intro x0 x1 s
  unfold execKeyInitRx
  conv => zeta
  with_reducible refine touched_go ?_
  with_reducible refine only_step ?_ (State.keyInit_touch _ _)
  with_reducible refine only_step ?_ (State.elapse_touch _ _)
  with_reducible exact only_refl _ _

theorem execBeaconSend_touch : ∀ x0 s, touched (execBeaconSend x0 s) s [.outputs, .twin] := by
  intro x0 s
  unfold execBeaconSend
  conv => zeta
  split
  with_reducible refine touched_go ?_
  with_reducible refine only_step ?_ (State.elapse_touch _ _)
  with_reducible exact only_refl _ _
  with_reducible refine touched_go ?_
  with_reducible refine only_foldl _ _ (fun _ _ => ?_) _ _ _ ?_
  with_reducible refine only_ite ?_ ?_
  with_reducible refine only_step ?_ (State.send_touch _ _)
  with_reducible exact only_refl _ _
  with_reducible exact only_refl _ _
  with_reducible refine only_set_twin _ ?_ ?_
  with_reducible refine only_step ?_ (State.elapse_touch _ _)
  with_reducible exact only_refl _ _
  exact (rfl : _ = true)

theorem execSyncTimeout_touch : ∀ x0 s, touched (execSyncTimeout x0 s) s [.interrupts, .tallies, .daybook, .outputs, .flash, .time] := by
  intro x0 s
  unfold execSyncTimeout
  conv => zeta
  split
  split
  with_reducible refine touched_go ?_
  with_reducible refine only_step ?_ (State.holdover_touch _)
  with_reducible refine only_step ?_ (State.elapse_touch _ _)
  with_reducible exact only_refl _ _
  with_reducible refine touched_go ?_
  with_reducible refine only_step ?_ (State.elapse_touch _ _)
  with_reducible exact only_refl _ _
  with_reducible refine touched_go ?_
  with_reducible refine only_step ?_ (State.elapse_touch _ _)
  with_reducible exact only_refl _ _

theorem execMbFlbWrite_touch : ∀ x0 x1 s, touched (execMbFlbWrite x0 x1 s) s [.mailbox, .interrupts, .clock, .tallies, .daybook, .outputs, .flash, .store, .can, .bridge] := by
  intro x0 x1 s
  unfold execMbFlbWrite
  conv => zeta
  with_reducible refine touched_go ?_
  exact only_trans (only_sub (State.elapse_touch _ _) rfl) (State.submit_touch _ _ _ (fun b v => only_sub (cmdFlbWrite_touch b v) rfl) rfl)

theorem execRebinding_touch : ∀ x0 s, touched (execRebinding x0 s) s [.interrupts, .tallies, .daybook, .outputs, .flash, .ports, .fabric, .inaug, .vault, .seeds] := by
  intro x0 s
  unfold execRebinding
  conv => zeta
  with_reducible refine touched_go ?_
  with_reducible refine only_step ?_ (State.rebind_touch _)
  with_reducible refine only_step ?_ (State.elapse_touch _ _)
  with_reducible exact only_refl _ _

theorem execFrozenEnd_touch : ∀ x0 s, touched (execFrozenEnd x0 s) s [.interrupts, .tallies, .daybook, .outputs, .flash, .time] := by
  intro x0 s
  unfold execFrozenEnd
  conv => zeta
  with_reducible refine touched_go ?_
  with_reducible refine only_step ?_ (State.thaw_touch _)
  with_reducible refine only_step ?_ (State.elapse_touch _ _)
  with_reducible exact only_refl _ _

theorem execReleaseWrite_touch : ∀ x0 x1 x2 x3 s, touched (execReleaseWrite x0 x1 x2 x3 s) s [.tallies, .can] := by
  intro x0 x1 x2 x3 s
  unfold execReleaseWrite
  conv => zeta
  with_reducible refine touched_go ?_
  with_reducible refine only_ite ?_ ?_
  with_reducible refine only_step ?_ (State.releaseFifo_touch _ _ _ _)
  with_reducible refine only_step ?_ (State.elapse_touch _ _)
  with_reducible exact only_refl _ _
  with_reducible refine only_step ?_ (State.elapse_touch _ _)
  with_reducible exact only_refl _ _

theorem execFeedReturnStart_touch : ∀ x0 x1 s, touched (execFeedReturnStart x0 x1 s) s [.mailbox, .interrupts, .clock, .tallies, .daybook, .outputs, .system, .flash, .feeds, .can, .sleep, .measure, .vault] := by
  intro x0 x1 s
  unfold execFeedReturnStart
  conv => zeta
  with_reducible refine touched_go ?_
  with_reducible refine only_step ?_ (State.returnStart_touch _ _)
  with_reducible refine only_step ?_ (State.elapse_touch _ _)
  with_reducible exact only_refl _ _

theorem execPdelayRespRx_touch : ∀ x0 x1 s, touched (execPdelayRespRx x0 x1 s) s [.interrupts, .tallies, .daybook, .outputs, .flash, .time] := by
  intro x0 x1 s
  unfold execPdelayRespRx
  conv => zeta
  with_reducible refine touched_go ?_
  with_reducible refine only_step ?_ (State.respIn_touch _ _)
  with_reducible refine only_step ?_ (State.elapse_touch _ _)
  with_reducible exact only_refl _ _

theorem execKeyRespRx_touch : ∀ x0 x1 s, touched (execKeyRespRx x0 x1 s) s [.outputs, .vault] := by
  intro x0 x1 s
  unfold execKeyRespRx
  conv => zeta
  with_reducible refine touched_go ?_
  with_reducible refine only_step ?_ (State.keyResp_touch _ _)
  with_reducible refine only_step ?_ (State.elapse_touch _ _)
  with_reducible exact only_refl _ _

theorem execHelloLoss_touch : ∀ x0 x1 s, touched (execHelloLoss x0 x1 s) s [.interrupts, .clock, .tallies, .daybook, .outputs, .flash, .inaug] := by
  intro x0 x1 s
  unfold execHelloLoss
  conv => zeta
  with_reducible refine touched_go ?_
  with_reducible refine only_ite ?_ ?_
  with_reducible refine only_step ?_ (State.lineTo_touch _ _ _)
  with_reducible refine only_step ?_ (State.count_touch _ _)
  with_reducible refine only_step ?_ (State.elapse_touch _ _)
  with_reducible exact only_refl _ _
  with_reducible refine only_step ?_ (State.elapse_touch _ _)
  with_reducible exact only_refl _ _

theorem execBoundaryJudgement_touch : ∀ x0 x1 s, touched (execBoundaryJudgement x0 x1 s) s [.interrupts, .tallies, .daybook, .outputs, .flash, .twin] := by
  intro x0 x1 s
  unfold execBoundaryJudgement
  conv => zeta
  with_reducible refine touched_go ?_
  with_reducible refine only_step ?_ (State.judge_touch _ _)
  with_reducible refine only_step ?_ (State.elapse_touch _ _)
  with_reducible exact only_refl _ _

theorem execSeedFeedWarnStart_touch : ∀ x0 x1 s, touched (execSeedFeedWarnStart x0 x1 s) s [.interrupts, .tallies, .daybook, .outputs, .flash, .feeds, .seeds] := by
  intro x0 x1 s
  unfold execSeedFeedWarnStart
  conv => zeta
  split
  with_reducible refine touched_go ?_
  with_reducible refine only_ite ?_ ?_
  with_reducible refine only_step ?_ (State.simulateWarn_touch _ _ _)
  with_reducible refine only_step ?_ (State.elapse_touch _ _)
  with_reducible exact only_refl _ _
  with_reducible refine only_step ?_ (State.elapse_touch _ _)
  with_reducible exact only_refl _ _
  with_reducible refine touched_go ?_
  with_reducible refine only_step ?_ (State.elapse_touch _ _)
  with_reducible exact only_refl _ _

theorem execIntMaskWrite_touch : ∀ x0 x1 s, touched (execIntMaskWrite x0 x1 s) s [.interrupts] := by
  intro x0 x1 s
  unfold execIntMaskWrite
  conv => zeta
  with_reducible refine touched_go ?_
  with_reducible refine only_ite ?_ ?_
  with_reducible refine only_step ?_ (State.maskInts_touch _ _)
  with_reducible refine only_step ?_ (State.elapse_touch _ _)
  with_reducible exact only_refl _ _
  with_reducible refine only_step ?_ (State.elapse_touch _ _)
  with_reducible exact only_refl _ _

theorem execSignalingRx_touch : ∀ x0 x1 x2 x3 s, touched (execSignalingRx x0 x1 x2 x3 s) s [.interrupts, .tallies, .daybook, .outputs, .flash, .time] := by
  intro x0 x1 x2 x3 s
  unfold execSignalingRx
  conv => zeta
  with_reducible refine touched_go ?_
  with_reducible refine only_step ?_ (State.signalIn_touch _ _ _ _)
  with_reducible refine only_step ?_ (State.elapse_touch _ _)
  with_reducible exact only_refl _ _

theorem execMbLedgerRead_touch : ∀ x0 x1 s, touched (execMbLedgerRead x0 x1 s) s [.mailbox, .interrupts, .tallies, .daybook, .outputs, .flash] := by
  intro x0 x1 s
  unfold execMbLedgerRead
  conv => zeta
  with_reducible refine touched_go ?_
  exact only_trans (only_sub (State.elapse_touch _ _) rfl) (State.submit_touch _ _ _ (fun b v => only_sub (cmdLedgerRead_touch b v) rfl) rfl)

theorem execCanFrameReceive_touch : ∀ x0 x1 x2 x3 s, touched (execCanFrameReceive x0 x1 x2 x3 s) s [.interrupts, .clock, .tallies, .daybook, .outputs, .flash, .store, .can] := by
  intro x0 x1 x2 x3 s
  unfold execCanFrameReceive
  conv => zeta
  with_reducible refine touched_go ?_
  with_reducible refine only_step ?_ (State.canReceive_touch _ _ _ _)
  with_reducible refine only_step ?_ (State.elapse_touch _ _)
  with_reducible exact only_refl _ _

theorem execMbSeedClear_touch : ∀ x0 x1 s, touched (execMbSeedClear x0 x1 s) s [.mailbox, .interrupts, .tallies, .daybook, .outputs, .flash, .pace, .gaffer, .seeds] := by
  intro x0 x1 s
  unfold execMbSeedClear
  conv => zeta
  with_reducible refine touched_go ?_
  exact only_trans (only_sub (State.elapse_touch _ _) rfl) (State.submit_touch _ _ _ (fun b v => only_sub (cmdSeedClear_touch b v) rfl) rfl)

theorem execLedgerRewriteComplete_touch : ∀ x0 x1 x2 s, touched (execLedgerRewriteComplete x0 x1 x2 s) s [.fabric] := by
  intro x0 x1 x2 s
  unfold execLedgerRewriteComplete
  conv => zeta
  with_reducible refine touched_go ?_
  with_reducible refine only_ite ?_ ?_
  with_reducible refine only_set_fab _ ?_ ?_
  with_reducible refine only_step ?_ (State.elapse_touch _ _)
  with_reducible exact only_refl _ _
  exact (rfl : _ = true)
  with_reducible refine only_step ?_ (State.elapse_touch _ _)
  with_reducible exact only_refl _ _

theorem execMbFwSwap_touch : ∀ x0 x1 s, touched (execMbFwSwap x0 x1 s) s [.mailbox, .interrupts, .tallies, .daybook, .outputs, .system, .flash, .vault] := by
  intro x0 x1 s
  unfold execMbFwSwap
  conv => zeta
  with_reducible refine touched_go ?_
  exact only_trans (only_sub (State.elapse_touch _ _) rfl) (State.submit_touch _ _ _ (fun b v => only_sub (cmdFwSwap_touch b v) rfl) rfl)

theorem execSeedEnd_touch : ∀ x0 x1 s, touched (execSeedEnd x0 x1 s) s [.interrupts, .tallies, .daybook, .outputs, .flash, .pace, .gaffer, .seeds] := by
  intro x0 x1 s
  unfold execSeedEnd
  conv => zeta
  split
  with_reducible refine touched_go ?_
  with_reducible refine only_ite ?_ ?_
  with_reducible refine only_step ?_ (State.seedOver_touch _ _ _)
  with_reducible refine only_step ?_ (State.elapse_touch _ _)
  with_reducible exact only_refl _ _
  with_reducible refine only_step ?_ (State.elapse_touch _ _)
  with_reducible exact only_refl _ _
  with_reducible refine touched_go ?_
  with_reducible refine only_step ?_ (State.elapse_touch _ _)
  with_reducible exact only_refl _ _

theorem execEnergySave_touch : ∀ x0 s, touched (execEnergySave x0 s) s [.tallies, .daybook, .flash, .measure] := by
  intro x0 s
  unfold execEnergySave
  conv => zeta
  with_reducible refine touched_go ?_
  with_reducible refine only_ite ?_ ?_
  with_reducible refine only_step ?_ (State.saveEnergy_touch _)
  with_reducible refine only_step ?_ (State.elapse_touch _ _)
  with_reducible exact only_refl _ _
  with_reducible refine only_step ?_ (State.elapse_touch _ _)
  with_reducible exact only_refl _ _

theorem execKeyAbortRx_touch : ∀ x0 x1 s, touched (execKeyAbortRx x0 x1 s) s [.interrupts, .tallies, .daybook, .outputs, .flash, .vault] := by
  intro x0 x1 s
  unfold execKeyAbortRx
  conv => zeta
  with_reducible refine touched_go ?_
  with_reducible refine only_ite ?_ ?_
  with_reducible refine only_step ?_ (State.keyFail_touch _ _ _)
  with_reducible refine only_set_sec _ ?_ ?_
  with_reducible refine only_step ?_ (State.elapse_touch _ _)
  with_reducible exact only_refl _ _
  exact (rfl : _ = true)
  with_reducible refine only_step ?_ (State.elapse_touch _ _)
  with_reducible exact only_refl _ _

theorem execCoastingLimitExpiry_touch : ∀ x0 s, touched (execCoastingLimitExpiry x0 s) s [.interrupts, .tallies, .daybook, .outputs, .flash, .pace] := by
  intro x0 s
  unfold execCoastingLimitExpiry
  conv => zeta
  with_reducible refine touched_go ?_
  with_reducible refine only_ite ?_ ?_
  with_reducible refine only_step ?_ (State.substitute_touch _ _)
  with_reducible refine only_step ?_ (State.elapse_touch _ _)
  with_reducible exact only_refl _ _
  with_reducible refine only_step ?_ (State.elapse_touch _ _)
  with_reducible exact only_refl _ _

theorem execVoteAwake_touch : ∀ x0 x1 s, touched (execVoteAwake x0 x1 s) s [.mailbox, .interrupts, .tallies, .daybook, .outputs, .flash, .can, .sleep] := by
  intro x0 x1 s
  unfold execVoteAwake
  conv => zeta
  with_reducible refine touched_go ?_
  exact only_trans (only_sub (State.elapse_touch _ _) rfl) (State.submit_touch _ _ _ (fun b v => only_sub (cmdSleep_touch b v) rfl) rfl)

theorem execPorstNRelease_touch : ∀ x0 x1 x2 x3 x4 s, touched (execPorstNRelease x0 x1 x2 x3 x4 s) s [.mailbox, .interrupts, .clock, .tallies, .daybook, .outputs, .system, .flash, .sleep, .vault] := by
  intro x0 x1 x2 x3 x4 s
  unfold execPorstNRelease
  extract_lets u y z v
  refine touched_go ?_
  have h0 : u.onlyChanges s [.mailbox, .interrupts, .clock, .tallies, .daybook, .outputs, .system, .flash, .sleep, .vault] := only_sub (State.elapse_touch _ _) rfl
  clear_value u
  have hz : ∀ a b, ({ u with sys := a, sleep := b } : State).onlyChanges s [.mailbox, .interrupts, .clock, .tallies, .daybook, .outputs, .system, .flash, .sleep, .vault] := fun a b =>
    only_set_sleep b (only_set_sys a h0 rfl) rfl
  have h1 := hz { u.sys with porst := false, bootSrc := x1, hostsel := x2, pref := x3, sfdp := x4 } { u.sleep with vka := true }
  change v.onlyChanges s _ at h1
  clear_value v
  split
  · exact h0
  · exact only_step h1 (State.tryStart_touch ..) rfl

theorem execFwSwapComplete_touch : ∀ x0 s, touched (execFwSwapComplete x0 s) s [.mailbox, .interrupts, .tallies, .daybook, .outputs, .system, .flash, .ports, .inaug] := by
  intro x0 s
  unfold execFwSwapComplete
  conv => zeta
  split
  with_reducible refine touched_go ?_
  with_reducible refine only_ite ?_ ?_
  with_reducible refine only_step ?_ (State.swapDone_touch _ _)
  with_reducible refine only_step ?_ (State.elapse_touch _ _)
  with_reducible exact only_refl _ _
  with_reducible refine only_step ?_ (State.elapse_touch _ _)
  with_reducible exact only_refl _ _
  with_reducible refine touched_go ?_
  with_reducible refine only_step ?_ (State.elapse_touch _ _)
  with_reducible exact only_refl _ _

theorem execKeyDoneRx_touch : ∀ x0 x1 s, touched (execKeyDoneRx x0 x1 s) s [.interrupts, .tallies, .daybook, .outputs, .flash, .fabric, .inaug, .vault] := by
  intro x0 x1 s
  unfold execKeyDoneRx
  conv => zeta
  with_reducible refine touched_go ?_
  with_reducible refine only_step ?_ (State.keyDone_touch _ _)
  with_reducible refine only_step ?_ (State.elapse_touch _ _)
  with_reducible exact only_refl _ _

theorem execMbCanRead_touch : ∀ x0 x1 s, touched (execMbCanRead x0 x1 s) s [.mailbox, .interrupts, .tallies, .daybook, .outputs, .flash, .can] := by
  intro x0 x1 s
  unfold execMbCanRead
  conv => zeta
  with_reducible refine touched_go ?_
  exact only_trans (only_sub (State.elapse_touch _ _) rfl) (State.submit_touch _ _ _ (fun b v => only_sub (cmdCanRead_touch b v) rfl) rfl)

theorem execCanFrameError_touch : ∀ x0 x1 x2 x3 x4 x5 s, touched (execCanFrameError x0 x1 x2 x3 x4 x5 s) s [.mailbox, .interrupts, .tallies, .daybook, .outputs, .flash, .can, .sleep] := by
  intro x0 x1 x2 x3 x4 x5 s
  unfold execCanFrameError
  conv => zeta
  with_reducible refine touched_go ?_
  with_reducible refine only_step ?_ (State.frameError_touch _ _ _ _ _ _)
  with_reducible refine only_step ?_ (State.elapse_touch _ _)
  with_reducible exact only_refl _ _

theorem execVoteReady_touch : ∀ x0 x1 s, touched (execVoteReady x0 x1 s) s [.mailbox, .interrupts, .tallies, .daybook, .outputs, .flash, .can, .sleep] := by
  intro x0 x1 s
  unfold execVoteReady
  conv => zeta
  with_reducible refine touched_go ?_
  exact only_trans (only_sub (State.elapse_touch _ _) rfl) (State.submit_touch _ _ _ (fun b v => only_sub (cmdSleep_touch b v) rfl) rfl)

theorem execStandstillTimeout_touch : ∀ x0 s, touched (execStandstillTimeout x0 s) s [.pace] := by
  intro x0 s
  unfold execStandstillTimeout
  conv => zeta
  split
  with_reducible refine touched_go ?_
  with_reducible refine only_set_pace _ ?_ ?_
  with_reducible refine only_step ?_ (State.rebase_touch _ _ _)
  with_reducible refine only_step ?_ (State.elapse_touch _ _)
  with_reducible exact only_refl _ _
  exact (rfl : _ = true)
  with_reducible refine touched_go ?_
  with_reducible refine only_step ?_ (State.elapse_touch _ _)
  with_reducible exact only_refl _ _

theorem execDcRuleExpiry_touch : ∀ x0 s, touched (execDcRuleExpiry x0 s) s [.interrupts, .tallies, .daybook, .outputs, .flash, .pace] := by
  intro x0 s
  unfold execDcRuleExpiry
  conv => zeta
  with_reducible refine touched_go ?_
  with_reducible refine only_ite ?_ ?_
  with_reducible refine only_step ?_ (State.substitute_touch _ _)
  with_reducible refine only_step ?_ (State.elapse_touch _ _)
  with_reducible exact only_refl _ _
  with_reducible refine only_step ?_ (State.elapse_touch _ _)
  with_reducible exact only_refl _ _

theorem execMark_touch : ∀ x0 x1 s, touched (execMark x0 x1 s) s [.interrupts, .tallies, .daybook, .outputs, .flash, .parison, .gaffer, .seeds] := by
  intro x0 x1 s
  unfold execMark
  conv => zeta
  with_reducible refine touched_go ?_
  with_reducible refine only_step ?_ (State.act_touch (l := [.interrupts, .tallies, .daybook, .outputs, .flash, .parison, .gaffer, .seeds]) (hl := ?_) (hb := ?_) _ _ _ _)
  with_reducible refine only_step ?_ (State.elapse_touch _ _)
  with_reducible exact only_refl _ _
  intro _
  intro _
  with_reducible refine only_step ?_ (State.note_touch _ _ _)
  with_reducible exact only_refl _ _
  exact (rfl : _ = true)

theorem execTriadRestartLoad_touch : ∀ x0 s, touched (execTriadRestartLoad x0 s) s [.interrupts, .tallies, .daybook, .outputs, .flash, .triad] := by
  intro x0 s
  unfold execTriadRestartLoad
  conv => zeta
  with_reducible refine touched_go ?_
  with_reducible refine only_step ?_ (State.restartLoad_touch _)
  with_reducible refine only_step ?_ (State.elapse_touch _ _)
  with_reducible exact only_refl _ _

theorem execAttestRead_touch : ∀ x0 x1 s, touched (execAttestRead x0 x1 s) s [.mailbox, .interrupts, .tallies, .daybook, .outputs, .flash, .vault] := by
  intro x0 x1 s
  unfold execAttestRead
  conv => zeta
  with_reducible refine touched_go ?_
  exact only_trans (only_sub (State.elapse_touch _ _) rfl) (State.submit_touch _ _ _ (fun b v => only_sub (cmdAttest_touch b v) rfl) rfl)

theorem execHostRxComplete_touch : ∀ x0 x1 s, touched (execHostRxComplete x0 x1 s) s [.interrupts, .tallies, .daybook, .outputs, .flash, .ports, .fabric] := by
  intro x0 x1 s
  unfold execHostRxComplete
  conv => zeta
  with_reducible refine touched_go ?_
  with_reducible refine only_step ?_ (State.hrxDone_touch _ _)
  with_reducible refine only_step ?_ (State.elapse_touch _ _)
  with_reducible exact only_refl _ _

theorem execMbTwinConfig_touch : ∀ x0 x1 s, touched (execMbTwinConfig x0 x1 s) s [.mailbox, .interrupts, .tallies, .daybook, .outputs, .flash, .ports, .fabric, .time, .can, .twin, .bridge, .vault, .seeds] := by
  intro x0 x1 s
  unfold execMbTwinConfig
  conv => zeta
  with_reducible refine touched_go ?_
  exact only_trans (only_sub (State.elapse_touch _ _) rfl) (State.submit_touch _ _ _ (fun b v => only_sub (cmdTwinConfig_touch b v) rfl) rfl)

theorem execMbLehrConfig_touch : ∀ x0 x1 s, touched (execMbLehrConfig x0 x1 s) s [.mailbox, .interrupts, .tallies, .daybook, .outputs, .flash, .lehr] := by
  intro x0 x1 s
  unfold execMbLehrConfig
  conv => zeta
  with_reducible refine touched_go ?_
  exact only_trans (only_sub (State.elapse_touch _ _) rfl) (State.submit_touch _ _ _ (fun b v => only_sub (cmdLehrConfig_touch b v) rfl) rfl)

theorem execSettleExpiry_touch : ∀ x0 s, touched (execSettleExpiry x0 s) s [.interrupts, .tallies, .daybook, .outputs, .flash, .inaug] := by
  intro x0 s
  unfold execSettleExpiry
  conv => zeta
  with_reducible refine touched_go ?_
  with_reducible refine only_step ?_ (State.settled_touch _)
  with_reducible refine only_step ?_ (State.elapse_touch _ _)
  with_reducible exact only_refl _ _

theorem execFeedWarnEnd_touch : ∀ x0 x1 s, touched (execFeedWarnEnd x0 x1 s) s [.daybook, .flash, .feeds] := by
  intro x0 x1 s
  unfold execFeedWarnEnd
  conv => zeta
  with_reducible refine touched_go ?_
  with_reducible refine only_ite ?_ ?_
  with_reducible refine only_step ?_ (State.warnOver_touch _ _ _)
  with_reducible refine only_step ?_ (State.elapse_touch _ _)
  with_reducible exact only_refl _ _
  with_reducible refine only_step ?_ (State.elapse_touch _ _)
  with_reducible exact only_refl _ _

theorem execRestepSet_touch : ∀ x0 x1 s, touched (execRestepSet x0 x1 s) s [.mailbox, .interrupts, .tallies, .daybook, .outputs, .flash, .time, .vault] := by
  intro x0 x1 s
  unfold execRestepSet
  conv => zeta
  with_reducible refine touched_go ?_
  exact only_trans (only_sub (State.elapse_touch _ _) rfl) (State.submit_touch _ _ _ (fun b v => only_sub (cmdRestep_touch b v) rfl) rfl)

theorem execFwRevert_touch : ∀ x0 s, touched (execFwRevert x0 s) s [.mailbox, .interrupts, .tallies, .daybook, .outputs, .system, .flash, .ports, .inaug] := by
  intro x0 s
  unfold execFwRevert
  conv => zeta
  split
  with_reducible refine touched_go ?_
  with_reducible refine only_ite ?_ ?_
  with_reducible refine only_step ?_ (State.swapBack_touch _ _)
  with_reducible refine only_step ?_ (State.elapse_touch _ _)
  with_reducible exact only_refl _ _
  with_reducible refine only_step ?_ (State.elapse_touch _ _)
  with_reducible exact only_refl _ _
  with_reducible refine touched_go ?_
  with_reducible refine only_step ?_ (State.elapse_touch _ _)
  with_reducible exact only_refl _ _

theorem execTachSilenceTimeout_touch : ∀ x0 x1 s, touched (execTachSilenceTimeout x0 x1 s) s [.interrupts, .tallies, .daybook, .outputs, .flash, .pace] := by
  intro x0 x1 s
  unfold execTachSilenceTimeout
  conv => zeta
  split
  with_reducible refine touched_go ?_
  with_reducible refine only_step ?_ (State.elapse_touch _ _)
  with_reducible exact only_refl _ _
  split
  with_reducible refine touched_go ?_
  with_reducible refine only_step ?_ (State.elapse_touch _ _)
  with_reducible exact only_refl _ _
  split
  with_reducible refine touched_go ?_
  with_reducible refine only_step ?_ (State.axleExclude_touch _ _ _ _)
  with_reducible refine only_step ?_ (State.elapse_touch _ _)
  with_reducible exact only_refl _ _
  with_reducible refine touched_go ?_
  with_reducible refine only_step ?_ (State.elapse_touch _ _)
  with_reducible exact only_refl _ _

theorem execTwinLane_touch : ∀ x0 x1 x2 s, touched (execTwinLane x0 x1 x2 s) s [.interrupts, .tallies, .daybook, .outputs, .flash, .fabric, .time, .twin, .vault] := by
  intro x0 x1 x2 s
  unfold execTwinLane
  conv => zeta
  with_reducible refine touched_go ?_
  with_reducible refine only_step ?_ (State.laneTo_touch _ _ _)
  with_reducible refine only_step ?_ (State.elapse_touch _ _)
  with_reducible exact only_refl _ _

theorem execCanBusJoin_touch : ∀ x0 x1 s, touched (execCanBusJoin x0 x1 s) s [.can] := by
  intro x0 x1 s
  unfold execCanBusJoin
  conv => zeta
  split
  with_reducible refine touched_go ?_
  with_reducible refine only_step ?_ (State.elapse_touch _ _)
  with_reducible exact only_refl _ _
  split
  with_reducible refine touched_go ?_
  with_reducible refine only_step ?_ (State.elapse_touch _ _)
  with_reducible exact only_refl _ _
  with_reducible refine touched_go ?_
  with_reducible refine only_step ?_ (State.setCtl_touch _ _ _)
  with_reducible refine only_step ?_ (State.elapse_touch _ _)
  with_reducible exact only_refl _ _

theorem execRtcWrite_touch : ∀ x0 s, touched (execRtcWrite x0 s) s [.time] := by
  intro x0 s
  unfold execRtcWrite
  conv => zeta
  with_reducible refine touched_go ?_
  with_reducible refine only_ite ?_ ?_
  with_reducible refine only_set_time _ ?_ ?_
  with_reducible refine only_step ?_ (State.elapse_touch _ _)
  with_reducible exact only_refl _ _
  exact (rfl : _ = true)
  with_reducible refine only_step ?_ (State.elapse_touch _ _)
  with_reducible exact only_refl _ _

theorem execPortWindowRelease_touch : ∀ x0 s, touched (execPortWindowRelease x0 s) s [.store] := by
  intro x0 s
  unfold execPortWindowRelease
  conv => zeta
  with_reducible refine touched_go ?_
  with_reducible refine only_step ?_ (State.when_touch (l := [.store]) (hl := ?_) _ _ _)
  with_reducible refine only_step ?_ (State.elapse_touch _ _)
  with_reducible exact only_refl _ _
  intro _
  with_reducible refine only_step ?_ (State.unpin_touch _)
  with_reducible exact only_refl _ _

theorem execBothFeedsLost_touch : ∀ x0 s, touched (execBothFeedsLost x0 s) s [.mailbox, .interrupts, .clock, .tallies, .daybook, .outputs, .system, .flash, .feeds, .lehr, .parison, .trackers, .pace, .gaffer, .ports, .fabric, .store, .inaug, .time, .can, .sleep, .measure, .triad, .twin, .bridge, .vault, .seeds] := by
  intro x0 s
  unfold execBothFeedsLost
  conv => zeta
  with_reducible refine touched_go ?_
  with_reducible refine only_ite ?_ ?_
  with_reducible refine only_step ?_ (State.elapse_touch _ _)
  with_reducible exact only_refl _ _
  with_reducible refine only_step ?_ (State.bothLost_touch _)
  with_reducible refine only_step ?_ (State.elapse_touch _ _)
  with_reducible exact only_refl _ _

theorem execMbTwinDrill_touch : ∀ x0 x1 s, touched (execMbTwinDrill x0 x1 s) s [.mailbox, .interrupts, .tallies, .daybook, .outputs, .flash, .twin] := by
  intro x0 x1 s
  unfold execMbTwinDrill
  conv => zeta
  with_reducible refine touched_go ?_
  exact only_trans (only_sub (State.elapse_touch _ _) rfl) (State.submit_touch _ _ _ (fun b v => only_sub (cmdTwinDrill_touch b v) rfl) rfl)

theorem execMbDishonourRead_touch : ∀ x0 x1 s, touched (execMbDishonourRead x0 x1 s) s [.mailbox, .interrupts, .tallies, .daybook, .outputs, .flash, .bridge] := by
  intro x0 x1 s
  unfold execMbDishonourRead
  conv => zeta
  with_reducible refine touched_go ?_
  exact only_trans (only_sub (State.elapse_touch _ _) rfl) (State.submit_touch _ _ _ (fun b v => only_sub (cmdDishonourRead_touch b v) rfl) rfl)

theorem execDrillDwellExpiry_touch : ∀ x0 s, touched (execDrillDwellExpiry x0 s) s [.interrupts, .tallies, .daybook, .outputs, .flash, .twin] := by
  intro x0 s
  unfold execDrillDwellExpiry
  conv => zeta
  split
  split
  with_reducible refine touched_go ?_
  with_reducible refine only_step ?_ (State.note_touch _ _ _)
  with_reducible refine only_set_twin _ ?_ ?_
  with_reducible refine only_step ?_ (State.elapse_touch _ _)
  with_reducible exact only_refl _ _
  exact (rfl : _ = true)
  with_reducible refine touched_go ?_
  with_reducible refine only_step ?_ (State.elapse_touch _ _)
  with_reducible exact only_refl _ _
  with_reducible refine touched_go ?_
  with_reducible refine only_step ?_ (State.elapse_touch _ _)
  with_reducible exact only_refl _ _

theorem execDrbgReseed_touch : ∀ x0 s, touched (execDrbgReseed x0 s) s [.vault] := by
  intro x0 s
  unfold execDrbgReseed
  conv => zeta
  with_reducible refine touched_go ?_
  with_reducible refine only_ite ?_ ?_
  with_reducible refine only_step ?_ (State.elapse_touch _ _)
  with_reducible exact only_refl _ _
  with_reducible refine only_set_sec _ ?_ ?_
  with_reducible refine only_step ?_ (State.elapse_touch _ _)
  with_reducible exact only_refl _ _
  exact (rfl : _ = true)

theorem execWarrantChallenge_touch : ∀ x0 x1 s, touched (execWarrantChallenge x0 x1 s) s [.mailbox, .interrupts, .tallies, .daybook, .outputs, .flash, .vault] := by
  intro x0 x1 s
  unfold execWarrantChallenge
  conv => zeta
  with_reducible refine touched_go ?_
  exact only_trans (only_sub (State.elapse_touch _ _) rfl) (State.submit_touch _ _ _ (fun b v => only_sub (cmdWarrant_touch b v) rfl) rfl)

theorem execMbInaugStatus_touch : ∀ x0 x1 s, touched (execMbInaugStatus x0 x1 s) s [.mailbox, .interrupts, .tallies, .daybook, .outputs, .flash] := by
  intro x0 x1 s
  unfold execMbInaugStatus
  conv => zeta
  with_reducible refine touched_go ?_
  exact only_trans (only_sub (State.elapse_touch _ _) rfl) (State.submit_touch _ _ _ (fun b v => only_sub (cmdInaugStatus_touch b v) rfl) rfl)

theorem execGafferWordRewrite_touch : ∀ x0 x1 s, touched (execGafferWordRewrite x0 x1 s) s [.lehr] := by
  intro x0 x1 s
  unfold execGafferWordRewrite
  conv => zeta
  with_reducible refine touched_go ?_
  with_reducible refine only_ite ?_ ?_
  with_reducible refine only_set_lehr _ ?_ ?_
  with_reducible refine only_step ?_ (State.elapse_touch _ _)
  with_reducible exact only_refl _ _
  exact (rfl : _ = true)
  with_reducible refine only_step ?_ (State.elapse_touch _ _)
  with_reducible exact only_refl _ _

theorem execCanRecoveryComplete_touch : ∀ x0 x1 s, touched (execCanRecoveryComplete x0 x1 s) s [.interrupts, .tallies, .daybook, .outputs, .flash, .can] := by
  intro x0 x1 s
  unfold execCanRecoveryComplete
  conv => zeta
  split
  with_reducible refine touched_go ?_
  with_reducible refine only_step ?_ (State.elapse_touch _ _)
  with_reducible exact only_refl _ _
  split
  with_reducible refine touched_go ?_
  with_reducible refine only_step ?_ (State.elapse_touch _ _)
  with_reducible exact only_refl _ _
  with_reducible refine touched_go ?_
  with_reducible refine only_step ?_ (State.noteErr_touch _ _ _ _ _)
  with_reducible refine only_step ?_ (State.setCtl_touch _ _ _)
  with_reducible refine only_step ?_ (State.elapse_touch _ _)
  with_reducible exact only_refl _ _

theorem execColdStrandStart_touch : ∀ x0 s, touched (execColdStrandStart x0 s) s [.interrupts, .tallies, .daybook, .outputs, .flash, .parison, .trackers, .pace, .gaffer, .ports, .fabric, .inaug, .twin, .vault, .seeds] := by
  intro x0 s
  unfold execColdStrandStart
  conv => zeta
  split
  split
  split
  with_reducible refine touched_go ?_
  with_reducible refine only_step ?_ (State.elapse_touch _ _)
  with_reducible exact only_refl _ _
  with_reducible refine touched_go ?_
  with_reducible refine only_step ?_ (State.note_touch _ _ _)
  with_reducible refine only_step ?_ (State.pairBegin_touch _)
  with_reducible refine only_step ?_ (State.initGates_touch _ _)
  with_reducible refine only_step ?_ (State.overUpdate_touch _)
  with_reducible refine only_step ?_ (State.beginStrands_touch _ _)
  with_reducible refine only_set_par _ ?_ ?_
  with_reducible refine only_step ?_ (State.elapse_touch _ _)
  with_reducible exact only_refl _ _
  exact (rfl : _ = true)
  with_reducible refine touched_go ?_
  with_reducible refine only_step ?_ (State.elapse_touch _ _)
  with_reducible exact only_refl _ _
  with_reducible refine touched_go ?_
  with_reducible refine only_step ?_ (State.elapse_touch _ _)
  with_reducible exact only_refl _ _

theorem execVaultOperationComplete_touch : ∀ x0 x1 s, touched (execVaultOperationComplete x0 x1 s) s [.interrupts, .tallies, .daybook, .outputs, .flash, .fabric, .inaug, .vault] := by
  intro x0 x1 s
  unfold execVaultOperationComplete
  conv => zeta
  with_reducible refine touched_go ?_
  with_reducible refine only_step ?_ (State.vaultDone_touch _ _)
  with_reducible refine only_step ?_ (State.elapse_touch _ _)
  with_reducible exact only_refl _ _

theorem execPdFrameArrival_touch : ∀ x0 s, touched (execPdFrameArrival x0 s) s [.interrupts, .clock, .tallies, .daybook, .outputs, .flash, .store] := by
  intro x0 s
  unfold execPdFrameArrival
  conv => zeta
  split
  with_reducible refine touched_go ?_
  with_reducible refine only_step ?_ (State.elapse_touch _ _)
  with_reducible exact only_refl _ _
  with_reducible refine touched_go ?_
  with_reducible refine only_step ?_ (State.receivePd_touch _ _)
  with_reducible refine only_set_pd _ ?_ ?_
  with_reducible refine only_step ?_ (State.elapse_touch _ _)
  with_reducible exact only_refl _ _
  exact (rfl : _ = true)

theorem execMbCanRecover_touch : ∀ x0 x1 s, touched (execMbCanRecover x0 x1 s) s [.mailbox, .interrupts, .tallies, .daybook, .outputs, .flash, .can] := by
  intro x0 x1 s
  unfold execMbCanRecover
  conv => zeta
  with_reducible refine touched_go ?_
  exact only_trans (only_sub (State.elapse_touch _ _) rfl) (State.submit_touch _ _ _ (fun b v => only_sub (cmdCanRecover_touch b v) rfl) rfl)

theorem execBoot_touch : ∀ x0 s, touched (execBoot x0 s) s [.mailbox, .interrupts, .tallies, .daybook, .outputs, .system, .flash, .lehr, .ports, .fabric, .inaug, .time, .can, .sleep, .measure, .twin, .bridge, .vault, .seeds] := by
  intro x0 s
  unfold execBoot
  conv => zeta
  with_reducible refine touched_go ?_
  with_reducible refine only_ite ?_ ?_
  with_reducible refine only_step ?_ (State.boot_touch _)
  with_reducible refine only_step ?_ (State.elapse_touch _ _)
  with_reducible exact only_refl _ _
  with_reducible refine only_step ?_ (State.elapse_touch _ _)
  with_reducible exact only_refl _ _

theorem execMbWakeConfig_touch : ∀ x0 x1 s, touched (execMbWakeConfig x0 x1 s) s [.mailbox, .interrupts, .tallies, .daybook, .outputs, .flash, .can, .sleep] := by
  intro x0 x1 s
  unfold execMbWakeConfig
  conv => zeta
  with_reducible refine touched_go ?_
  exact only_trans (only_sub (State.elapse_touch _ _) rfl) (State.submit_touch _ _ _ (fun b v => only_sub (cmdWakeConfig_touch b v) rfl) rfl)

theorem execScrubPass_touch : ∀ x0 x1 x2 x3 s, touched (execScrubPass x0 x1 x2 x3 s) s [.mailbox, .interrupts, .clock, .tallies, .daybook, .outputs, .system, .flash, .lehr, .fabric, .store, .can, .twin, .bridge, .vault] := by
  intro x0 x1 x2 x3 s
  unfold execScrubPass
  conv => zeta
  with_reducible refine touched_go ?_
  with_reducible refine only_ite ?_ ?_
  with_reducible refine only_step ?_ (State.elapse_touch _ _)
  with_reducible exact only_refl _ _
  with_reducible refine only_ite ?_ ?_
  with_reducible refine only_step ?_ (State.count_touch _ _)
  with_reducible refine only_step ?_ (State.elapse_touch _ _)
  with_reducible exact only_refl _ _
  with_reducible refine only_step ?_ (State.memError_touch _ _ _ _)
  with_reducible refine only_step ?_ (State.elapse_touch _ _)
  with_reducible exact only_refl _ _

theorem execHostTxFetchComplete_touch : ∀ x0 x1 x2 s, touched (execHostTxFetchComplete x0 x1 x2 s) s [.interrupts, .tallies, .daybook, .outputs, .flash, .ports, .fabric, .store, .vault, .seeds] := by
  intro x0 x1 x2 s
  unfold execHostTxFetchComplete
  conv => zeta
  with_reducible refine touched_go ?_
  with_reducible refine only_ite ?_ ?_
  with_reducible refine only_step ?_ (State.htxTake_touch _ _ _)
  with_reducible refine only_step ?_ (State.elapse_touch _ _)
  with_reducible exact only_refl _ _
  with_reducible refine only_step ?_ (State.elapse_touch _ _)
  with_reducible exact only_refl _ _

theorem execMbFeedStatus_touch : ∀ x0 x1 s, touched (execMbFeedStatus x0 x1 s) s [.mailbox, .interrupts, .clock, .tallies, .daybook, .outputs, .flash, .feeds] := by
  intro x0 x1 s
  unfold execMbFeedStatus
  conv => zeta
  with_reducible refine touched_go ?_
  exact only_trans (only_sub (State.elapse_touch _ _) rfl) (State.submit_touch _ _ _ (fun b v => only_sub (cmdFeedStatus_touch b v) rfl) rfl)

theorem execDelayReqRx_touch : ∀ x0 x1 s, touched (execDelayReqRx x0 x1 s) s [.tallies] := by
  intro x0 x1 s
  unfold execDelayReqRx
  conv => zeta
  with_reducible refine touched_go ?_
  with_reducible refine only_ite ?_ ?_
  with_reducible refine only_step ?_ (State.count_touch _ _)
  with_reducible refine only_step ?_ (State.elapse_touch _ _)
  with_reducible exact only_refl _ _
  with_reducible refine only_step ?_ (State.elapse_touch _ _)
  with_reducible exact only_refl _ _

theorem execWarrantApply_touch : ∀ x0 x1 s, touched (execWarrantApply x0 x1 s) s [.mailbox, .interrupts, .tallies, .daybook, .outputs, .flash, .vault] := by
  intro x0 x1 s
  unfold execWarrantApply
  conv => zeta
  with_reducible refine touched_go ?_
  exact only_trans (only_sub (State.elapse_touch _ _) rfl) (State.submit_touch _ _ _ (fun b v => only_sub (cmdWarrant_touch b v) rfl) rfl)

theorem execTachEdge_touch : ∀ x0 x1 x2 x3 s, touched (execTachEdge x0 x1 x2 x3 s) s [.interrupts, .tallies, .daybook, .outputs, .flash, .pace, .gaffer, .measure] := by
  intro x0 x1 x2 x3 s
  unfold execTachEdge
  conv => zeta
  with_reducible refine touched_go ?_
  with_reducible refine only_step ?_ (State.tachEdge_touch _ _ _ _)
  with_reducible refine only_step ?_ (State.elapse_touch _ _)
  with_reducible exact only_refl _ _

theorem execBlockLoss_touch : ∀ x0 x1 s, touched (execBlockLoss x0 x1 s) s [.tallies] := by
  intro x0 x1 s
  unfold execBlockLoss
  conv => zeta
  with_reducible refine touched_go ?_
  with_reducible refine only_ite ?_ ?_
  with_reducible refine only_step ?_ (State.count_touch _ _)
  with_reducible refine only_step ?_ (State.elapse_touch _ _)
  with_reducible exact only_refl _ _
  with_reducible refine only_step ?_ (State.elapse_touch _ _)
  with_reducible exact only_refl _ _

theorem execVoltageConfirm_touch : ∀ x0 x1 x2 x3 x4 s, touched (execVoltageConfirm x0 x1 x2 x3 x4 s) s [.interrupts, .tallies, .daybook, .outputs, .flash, .feeds, .lehr] := by
  intro x0 x1 x2 x3 x4 s
  unfold execVoltageConfirm
  conv => zeta
  with_reducible refine touched_go ?_
  with_reducible refine only_step ?_ (State.voltageAnswer_touch _ _ _ _ _)
  with_reducible refine only_step ?_ (State.elapse_touch _ _)
  with_reducible exact only_refl _ _

theorem execTValidExpiry_touch : ∀ x0 x1 s, touched (execTValidExpiry x0 x1 s) s [.interrupts, .tallies, .daybook, .outputs, .flash, .sleep] := by
  intro x0 x1 s
  unfold execTValidExpiry
  conv => zeta
  split
  with_reducible refine touched_go ?_
  with_reducible refine only_ite ?_ ?_
  with_reducible refine only_step ?_ (State.falseWake_touch _ _)
  with_reducible refine only_step ?_ (State.elapse_touch _ _)
  with_reducible exact only_refl _ _
  with_reducible refine only_step ?_ (State.elapse_touch _ _)
  with_reducible exact only_refl _ _
  with_reducible refine touched_go ?_
  with_reducible refine only_step ?_ (State.elapse_touch _ _)
  with_reducible exact only_refl _ _

theorem execDinSample_touch : ∀ x0 x1 s, touched (execDinSample x0 x1 s) s [.interrupts, .clock, .tallies, .daybook, .outputs, .flash, .parison, .gaffer, .store, .measure, .seeds] := by
  intro x0 x1 s
  unfold execDinSample
  conv => zeta
  with_reducible refine touched_go ?_
  with_reducible refine only_step ?_ (State.act_touch (l := [.interrupts, .clock, .tallies, .daybook, .outputs, .flash, .parison, .gaffer, .store, .measure, .seeds]) (hl := ?_) (hb := ?_) _ _ _ _)
  with_reducible refine only_step ?_ (State.elapse_touch _ _)
  with_reducible exact only_refl _ _
  intro _
  intro _
  with_reducible refine only_step ?_ (State.toUnit_touch (l := [.interrupts, .clock, .tallies, .daybook, .outputs, .flash, .parison, .gaffer, .store, .measure, .seeds]) (hl := ?_) (hb := ?_) _ _ _)
  with_reducible exact only_refl _ _
  intro _
  with_reducible refine only_step ?_ (State.capture_touch _ _ _ _)
  with_reducible refine only_set_meas _ ?_ ?_
  with_reducible refine only_step ?_ (State.dinRecord_touch _ _ _ _)
  with_reducible exact only_refl _ _
  exact (rfl : _ = true)
  exact (rfl : _ = true)
  exact (rfl : _ = true)

theorem execMbParisonCommit_touch : ∀ x0 x1 s, touched (execMbParisonCommit x0 x1 s) s [.mailbox, .interrupts, .tallies, .daybook, .outputs, .flash, .parison, .trackers, .fabric, .measure] := by
  intro x0 x1 s
  unfold execMbParisonCommit
  conv => zeta
  with_reducible refine touched_go ?_
  exact only_trans (only_sub (State.elapse_touch _ _) rfl) (State.submit_touch _ _ _ (fun b v => only_sub (cmdCommit_touch b v) rfl) rfl)

theorem execFlbPoll_touch : ∀ x0 x1 x2 x3 s, touched (execFlbPoll x0 x1 x2 x3 s) s [.interrupts, .tallies, .daybook, .outputs, .flash, .bridge] := by
  intro x0 x1 x2 x3 s
  unfold execFlbPoll
  conv => zeta
  with_reducible refine touched_go ?_
  with_reducible refine only_step ?_ (State.poll_touch _ _ _ _)
  with_reducible refine only_step ?_ (State.elapse_touch _ _)
  with_reducible exact only_refl _ _

theorem execTrafficStorePresentation_touch : ∀ x0 s, touched (execTrafficStorePresentation x0 s) s [.tallies, .store, .bridge] := by
  intro x0 s
  unfold execTrafficStorePresentation
  conv => zeta
  with_reducible refine touched_go ?_
  with_reducible refine only_step ?_ (State.presentAll_touch _)
  with_reducible refine only_step ?_ (State.elapse_touch _ _)
  with_reducible exact only_refl _ _

theorem execWarrantClear_touch : ∀ x0 x1 s, touched (execWarrantClear x0 x1 s) s [.mailbox, .interrupts, .tallies, .daybook, .outputs, .flash, .vault] := by
  intro x0 x1 s
  unfold execWarrantClear
  conv => zeta
  with_reducible refine touched_go ?_
  exact only_trans (only_sub (State.elapse_touch _ _) rfl) (State.submit_touch _ _ _ (fun b v => only_sub (cmdWarrant_touch b v) rfl) rfl)

theorem execHeartbeatRx_touch : ∀ x0 x1 s, touched (execHeartbeatRx x0 x1 s) s [.mailbox, .interrupts, .clock, .tallies, .daybook, .outputs, .flash, .parison, .gaffer, .fabric, .inaug, .time, .twin, .bridge] := by
  intro x0 x1 s
  unfold execHeartbeatRx
  conv => zeta
  with_reducible refine touched_go ?_
  with_reducible refine only_step ?_ (State.heartbeatIn_touch _ _)
  with_reducible refine only_step ?_ (State.elapse_touch _ _)
  with_reducible exact only_refl _ _

theorem execWakeFrame_touch : ∀ x0 x1 x2 s, touched (execWakeFrame x0 x1 x2 s) s [.tallies, .can, .sleep] := by
  intro x0 x1 x2 s
  unfold execWakeFrame
  conv => zeta
  with_reducible refine touched_go ?_
  with_reducible refine only_ite ?_ ?_
  with_reducible refine only_step ?_ (State.wakeReq_touch _ _ _)
  with_reducible refine only_step ?_ (State.elapse_touch _ _)
  with_reducible exact only_refl _ _
  with_reducible refine only_step ?_ (State.elapse_touch _ _)
  with_reducible exact only_refl _ _

theorem execPaceHoldEnd_touch : ∀ x0 s, touched (execPaceHoldEnd x0 s) s [.pace] := by
  intro x0 s
  unfold execPaceHoldEnd
  conv => zeta
  with_reducible refine touched_go ?_
  with_reducible refine only_ite ?_ ?_
  with_reducible refine only_set_pace _ ?_ ?_
  with_reducible refine only_step ?_ (State.elapse_touch _ _)
  with_reducible exact only_refl _ _
  exact (rfl : _ = true)
  with_reducible refine only_step ?_ (State.elapse_touch _ _)
  with_reducible exact only_refl _ _

theorem execPairWaitExpiry_touch : ∀ x0 s, touched (execPairWaitExpiry x0 s) s [.twin] := by
  intro x0 s
  unfold execPairWaitExpiry
  conv => zeta
  split
  split
  with_reducible refine touched_go ?_
  with_reducible refine only_set_twin _ ?_ ?_
  with_reducible refine only_step ?_ (State.elapse_touch _ _)
  with_reducible exact only_refl _ _
  exact (rfl : _ = true)
  with_reducible refine touched_go ?_
  with_reducible refine only_step ?_ (State.elapse_touch _ _)
  with_reducible exact only_refl _ _
  with_reducible refine touched_go ?_
  with_reducible refine only_step ?_ (State.elapse_touch _ _)
  with_reducible exact only_refl _ _

theorem execTaskRelease_touch : ∀ x0 x1 s, touched (execTaskRelease x0 x1 s) s [.interrupts, .clock, .tallies, .daybook, .outputs, .flash, .parison, .gaffer, .store, .triad, .twin, .seeds] := by
  intro x0 x1 s
  unfold execTaskRelease
  conv => zeta
  with_reducible refine touched_go ?_
  with_reducible refine only_step ?_ (State.act_touch (l := [.interrupts, .clock, .tallies, .daybook, .outputs, .flash, .parison, .gaffer, .store, .triad, .twin, .seeds]) (hl := ?_) (hb := ?_) _ _ _ _)
  with_reducible refine only_step ?_ (State.elapse_touch _ _)
  with_reducible exact only_refl _ _
  intro _
  intro _
  with_reducible refine only_step ?_ (State.releaseTask_touch _ _ _ _)
  with_reducible exact only_refl _ _
  exact (rfl : _ = true)

theorem execSeedFeedWarnEnd_touch : ∀ x0 x1 s, touched (execSeedFeedWarnEnd x0 x1 s) s [.daybook, .flash, .feeds] := by
  intro x0 x1 s
  unfold execSeedFeedWarnEnd
  conv => zeta
  with_reducible refine touched_go ?_
  with_reducible refine only_ite ?_ ?_
  with_reducible refine only_step ?_ (State.elapse_touch _ _)
  with_reducible exact only_refl _ _
  with_reducible refine only_step ?_ (State.warnOver_touch _ _ _)
  with_reducible refine only_step ?_ (State.elapse_touch _ _)
  with_reducible exact only_refl _ _

theorem execMbBridgeConfig_touch : ∀ x0 x1 s, touched (execMbBridgeConfig x0 x1 s) s [.mailbox, .interrupts, .tallies, .daybook, .outputs, .flash, .bridge] := by
  intro x0 x1 s
  unfold execMbBridgeConfig
  conv => zeta
  with_reducible refine touched_go ?_
  exact only_trans (only_sub (State.elapse_touch _ _) rfl) (State.submit_touch _ _ _ (fun b v => only_sub (cmdBridgeConfig_touch b v) rfl) rfl)

theorem execHelloSend_touch : ∀ x0 x1 s, touched (execHelloSend x0 x1 s) s [.outputs, .inaug] := by
  intro x0 x1 s
  unfold execHelloSend
  conv => zeta
  with_reducible refine touched_go ?_
  with_reducible refine only_ite ?_ ?_
  with_reducible refine only_step ?_ (State.elapse_touch _ _)
  with_reducible exact only_refl _ _
  with_reducible refine only_step ?_ (State.send_touch _ _)
  with_reducible refine only_step ?_ (State.send_touch _ _)
  with_reducible refine only_step ?_ (State.setBb_touch _ _ _)
  with_reducible refine only_step ?_ (State.elapse_touch _ _)
  with_reducible exact only_refl _ _

theorem execMbCanCancel_touch : ∀ x0 x1 s, touched (execMbCanCancel x0 x1 s) s [.mailbox, .interrupts, .tallies, .daybook, .outputs, .flash, .can] := by
  intro x0 x1 s
  unfold execMbCanCancel
  conv => zeta
  with_reducible refine touched_go ?_
  exact only_trans (only_sub (State.elapse_touch _ _) rfl) (State.submit_touch _ _ _ (fun b v => only_sub (cmdCanCancel_touch b v) rfl) rfl)

theorem execHelloRx_touch : ∀ x0 x1 x2 x3 x4 s, touched (execHelloRx x0 x1 x2 x3 x4 s) s [.interrupts, .clock, .tallies, .daybook, .outputs, .flash, .inaug] := by
  intro x0 x1 x2 x3 x4 s
  unfold execHelloRx
  conv => zeta
  with_reducible refine touched_go ?_
  with_reducible refine only_step ?_ (State.hello_touch _ _ _ _ _)
  with_reducible refine only_step ?_ (State.elapse_touch _ _)
  with_reducible exact only_refl _ _

theorem execTaskDeadline_touch : ∀ x0 s, touched (execTaskDeadline x0 s) s [.interrupts, .clock, .tallies, .daybook, .outputs, .flash, .store, .triad, .twin, .seeds] := by
  intro x0 s
  unfold execTaskDeadline
  conv => zeta
  with_reducible refine touched_go ?_
  with_reducible refine only_step ?_ (State.taskLate_touch _)
  with_reducible refine only_step ?_ (State.elapse_touch _ _)
  with_reducible exact only_refl _ _

theorem execGafferRetireHandover_touch : ∀ x0 x1 s, touched (execGafferRetireHandover x0 x1 s) s [.mailbox, .interrupts, .clock, .tallies, .daybook, .outputs, .system, .flash, .feeds, .lehr, .parison, .trackers, .pace, .gaffer, .ports, .fabric, .store, .inaug, .time, .can, .sleep, .measure, .triad, .twin, .vault, .seeds] := by
  intro x0 x1 s
  unfold execGafferRetireHandover
  extract_lets u
  have h0 : u.onlyChanges s [.mailbox, .interrupts, .clock, .tallies, .daybook, .outputs, .system, .flash, .feeds, .lehr, .parison, .trackers, .pace, .gaffer, .ports, .fabric, .store, .inaug, .time, .can, .sleep, .measure, .triad, .twin, .vault, .seeds] := only_sub (State.elapse_touch _ _) rfl
  clear_value u
  split
  · exact touched_go h0
  · refine touched_go ?_
    split
    · exact only_step h0 (State.wornHandover_touch ..) rfl
    · have hz : ∀ a b, ({ u with lehr := a, sys := b } : State).onlyChanges s [.mailbox, .interrupts, .clock, .tallies, .daybook, .outputs, .system, .flash, .feeds, .lehr, .parison, .trackers, .pace, .gaffer, .ports, .fabric, .store, .inaug, .time, .can, .sleep, .measure, .triad, .twin, .vault, .seeds] := fun a b =>
        only_set_sys b (only_set_lehr a h0 rfl) rfl
      exact hz _ _

theorem execHostTxPoll_touch : ∀ x0 x1 x2 s, touched (execHostTxPoll x0 x1 x2 s) s [.interrupts, .tallies, .outputs, .ports] := by
  intro x0 x1 x2 s
  unfold execHostTxPoll
  conv => zeta
  split
  with_reducible refine touched_go ?_
  with_reducible refine only_step ?_ (State.elapse_touch _ _)
  with_reducible exact only_refl _ _
  with_reducible refine touched_go ?_
  with_reducible refine only_step ?_ (State.htxRead_touch _ _ _)
  with_reducible refine only_step ?_ (State.elapse_touch _ _)
  with_reducible exact only_refl _ _

theorem execFrameTxEnd_touch : ∀ x0 x1 s, touched (execFrameTxEnd x0 x1 s) s [.interrupts, .tallies, .daybook, .outputs, .flash, .ports, .fabric, .vault, .seeds] := by
  intro x0 x1 s
  unfold execFrameTxEnd
  conv => zeta
  with_reducible refine touched_go ?_
  with_reducible refine only_step ?_ (State.holdsOver_touch _)
  with_reducible refine only_step ?_ (State.txEnd_touch _ _)
  with_reducible refine only_step ?_ (State.elapse_touch _ _)
  with_reducible exact only_refl _ _

theorem execEnrolCert_touch : ∀ x0 x1 s, touched (execEnrolCert x0 x1 s) s [.mailbox, .interrupts, .tallies, .daybook, .outputs, .flash, .vault] := by
  intro x0 x1 s
  unfold execEnrolCert
  conv => zeta
  with_reducible refine touched_go ?_
  exact only_trans (only_sub (State.elapse_touch _ _) rfl) (State.submit_touch _ _ _ (fun b v => only_sub (cmdEnrol_touch b v) rfl) rfl)

theorem execResyncCheckFail_touch : ∀ x0 s, touched (execResyncCheckFail x0 s) s [.interrupts, .clock, .tallies, .daybook, .outputs, .flash, .store, .triad, .twin, .seeds] := by
  intro x0 s
  unfold execResyncCheckFail
  conv => zeta
  split
  with_reducible refine touched_go ?_
  with_reducible refine only_ite ?_ ?_
  with_reducible refine only_step ?_ (State.retireCore_touch _ _ _)
  with_reducible refine only_step ?_ (State.setCore_touch _ _ _)
  with_reducible refine only_step ?_ (State.endResync_touch _)
  with_reducible refine only_step ?_ (State.elapse_touch _ _)
  with_reducible exact only_refl _ _
  with_reducible refine only_step ?_ (State.setCore_touch _ _ _)
  with_reducible refine only_step ?_ (State.endResync_touch _)
  with_reducible refine only_step ?_ (State.elapse_touch _ _)
  with_reducible exact only_refl _ _
  with_reducible refine touched_go ?_
  with_reducible refine only_step ?_ (State.elapse_touch _ _)
  with_reducible exact only_refl _ _

theorem execSdCapture_touch : ∀ x0 x1 s, touched (execSdCapture x0 x1 s) s [.interrupts, .clock, .tallies, .daybook, .outputs, .flash, .parison, .gaffer, .store, .measure, .seeds] := by
  intro x0 x1 s
  unfold execSdCapture
  conv => zeta
  with_reducible refine touched_go ?_
  with_reducible refine only_step ?_ (State.act_touch (l := [.interrupts, .clock, .tallies, .daybook, .outputs, .flash, .parison, .gaffer, .store, .measure, .seeds]) (hl := ?_) (hb := ?_) _ _ _ _)
  with_reducible refine only_step ?_ (State.elapse_touch _ _)
  with_reducible exact only_refl _ _
  intro _
  intro _
  with_reducible refine only_step ?_ (State.toUnit_touch (l := [.interrupts, .clock, .tallies, .daybook, .outputs, .flash, .parison, .gaffer, .store, .measure, .seeds]) (hl := ?_) (hb := ?_) _ _ _)
  with_reducible exact only_refl _ _
  intro _
  split
  with_reducible refine only_step ?_ (State.capture_touch _ _ _ _)
  with_reducible refine only_step ?_ (State.setPair_touch _ _ _)
  with_reducible exact only_refl _ _
  with_reducible refine only_step ?_ (State.capture_touch _ _ _ _)
  with_reducible refine only_step ?_ (State.setChan_touch _ _ _)
  with_reducible exact only_refl _ _
  with_reducible exact only_refl _ _
  exact (rfl : _ = true)
  exact (rfl : _ = true)

theorem execMbDaybookRead_touch : ∀ x0 x1 s, touched (execMbDaybookRead x0 x1 s) s [.mailbox, .interrupts, .tallies, .daybook, .outputs, .flash] := by
  intro x0 x1 s
  unfold execMbDaybookRead
  conv => zeta
  with_reducible refine touched_go ?_
  exact only_trans (only_sub (State.elapse_touch _ _) rfl) (State.submit_touch _ _ _ (fun b v => only_sub (cmdDaybookRead_touch b v) rfl) rfl)

theorem execMbPinBehaviour_touch : ∀ x0 x1 s, touched (execMbPinBehaviour x0 x1 s) s [.mailbox, .interrupts, .tallies, .daybook, .outputs, .flash, .vault] := by
  intro x0 x1 s
  unfold execMbPinBehaviour
  conv => zeta
  with_reducible refine touched_go ?_
  exact only_trans (only_sub (State.elapse_touch _ _) rfl) (State.submit_touch _ _ _ (fun b v => only_sub (cmdPin_touch b v) rfl) rfl)

theorem execFlbLockRelease_touch : ∀ x0 s, touched (execFlbLockRelease x0 s) s [.bridge] := by
  intro x0 s
  unfold execFlbLockRelease
  conv => zeta
  with_reducible refine touched_go ?_
  with_reducible refine only_set_bridge _ ?_ ?_
  with_reducible refine only_step ?_ (State.elapse_touch _ _)
  with_reducible exact only_refl _ _
  exact (rfl : _ = true)

theorem execStayAwakeExpiry_touch : ∀ x0 s, touched (execStayAwakeExpiry x0 s) s [.interrupts, .tallies, .daybook, .outputs, .flash, .can, .sleep] := by
  intro x0 s
  unfold execStayAwakeExpiry
  conv => zeta
  split
  with_reducible refine touched_go ?_
  with_reducible refine only_ite ?_ ?_
  with_reducible refine only_step ?_ (State.stayExpire_touch _)
  with_reducible refine only_step ?_ (State.elapse_touch _ _)
  with_reducible exact only_refl _ _
  with_reducible refine only_step ?_ (State.elapse_touch _ _)
  with_reducible exact only_refl _ _
  with_reducible refine touched_go ?_
  with_reducible refine only_step ?_ (State.elapse_touch _ _)
  with_reducible exact only_refl _ _

theorem execGridSample_touch : ∀ x0 s, touched (execGridSample x0 s) s [.tallies, .measure] := by
  intro x0 s
  unfold execGridSample
  conv => zeta
  with_reducible refine touched_go ?_
  with_reducible refine only_ite ?_ ?_
  with_reducible refine only_step ?_ (State.gridSample_touch _)
  with_reducible refine only_step ?_ (State.elapse_touch _ _)
  with_reducible exact only_refl _ _
  with_reducible refine only_step ?_ (State.elapse_touch _ _)
  with_reducible exact only_refl _ _

theorem execMbLinkPolicy_touch : ∀ x0 x1 s, touched (execMbLinkPolicy x0 x1 s) s [.mailbox, .interrupts, .tallies, .daybook, .outputs, .flash, .vault] := by
  intro x0 x1 s
  unfold execMbLinkPolicy
  conv => zeta
  with_reducible refine touched_go ?_
  exact only_trans (only_sub (State.elapse_touch _ _) rfl) (State.submit_touch _ _ _ (fun b v => only_sub (cmdLinkPolicy_touch b v) rfl) rfl)

theorem execOptrnApply_touch : ∀ x0 s, touched (execOptrnApply x0 s) s [.inaug] := by
  intro x0 s
  unfold execOptrnApply
  conv => zeta
  split
  split
  with_reducible refine touched_go ?_
  split
  with_reducible refine only_set_inaug _ ?_ ?_
  with_reducible refine only_step ?_ (State.elapse_touch _ _)
  with_reducible exact only_refl _ _
  exact (rfl : _ = true)
  with_reducible refine only_set_inaug _ ?_ ?_
  with_reducible refine only_step ?_ (State.elapse_touch _ _)
  with_reducible exact only_refl _ _
  exact (rfl : _ = true)
  with_reducible refine touched_go ?_
  with_reducible refine only_step ?_ (State.elapse_touch _ _)
  with_reducible exact only_refl _ _
  with_reducible refine touched_go ?_
  with_reducible refine only_step ?_ (State.elapse_touch _ _)
  with_reducible exact only_refl _ _

theorem execSamplePort_touch : ∀ x0 x1 s, touched (execSamplePort x0 x1 s) s [.interrupts, .tallies, .daybook, .outputs, .flash, .parison, .gaffer, .store, .seeds] := by
  intro x0 x1 s
  unfold execSamplePort
  conv => zeta
  with_reducible refine touched_go ?_
  with_reducible refine only_step ?_ (State.act_touch (l := [.interrupts, .tallies, .daybook, .outputs, .flash, .parison, .gaffer, .store, .seeds]) (hl := ?_) (hb := ?_) _ _ _ _)
  with_reducible refine only_step ?_ (State.elapse_touch _ _)
  with_reducible exact only_refl _ _
  intro _
  intro _
  with_reducible refine only_step ?_ (State.sample_touch _ _ _)
  with_reducible exact only_refl _ _
  exact (rfl : _ = true)

theorem execFlbOutboundResponse_touch : ∀ x0 x1 x2 s, touched (execFlbOutboundResponse x0 x1 x2 s) s [.mailbox, .interrupts, .tallies, .daybook, .outputs, .flash, .bridge, .seeds] := by
  intro x0 x1 x2 s
  unfold execFlbOutboundResponse
  conv => zeta
  with_reducible refine touched_go ?_
  with_reducible refine only_step ?_ (State.flbResponse_touch _ _ _)
  with_reducible refine only_step ?_ (State.elapse_touch _ _)
  with_reducible exact only_refl _ _

theorem execFlbBusGrant_touch : ∀ x0 s, touched (execFlbBusGrant x0 s) s [.interrupts, .tallies, .daybook, .outputs, .flash, .bridge, .seeds] := by
  intro x0 s
  unfold execFlbBusGrant
  conv => zeta
  with_reducible refine touched_go ?_
  with_reducible refine only_ite ?_ ?_
  with_reducible refine only_step ?_ (State.flbStart_touch _)
  with_reducible refine only_set_bridge _ ?_ ?_
  with_reducible refine only_step ?_ (State.elapse_touch _ _)
  with_reducible exact only_refl _ _
  exact (rfl : _ = true)
  with_reducible refine only_step ?_ (State.elapse_touch _ _)
  with_reducible exact only_refl _ _

theorem execMbTimeConfig_touch : ∀ x0 x1 s, touched (execMbTimeConfig x0 x1 s) s [.mailbox, .interrupts, .tallies, .daybook, .outputs, .flash, .time] := by
  intro x0 x1 s
  unfold execMbTimeConfig
  conv => zeta
  with_reducible refine touched_go ?_
  exact only_trans (only_sub (State.elapse_touch _ _) rfl) (State.submit_touch _ _ _ (fun b v => only_sub (cmdTimeConfig_touch b v) rfl) rfl)

theorem execMdioFrameComplete_touch : ∀ x0 x1 x2 x3 s, touched (execMdioFrameComplete x0 x1 x2 x3 s) s [.mailbox, .interrupts, .tallies, .outputs, .ports] := by
  intro x0 x1 x2 x3 s
  unfold execMdioFrameComplete
  conv => zeta
  split
  with_reducible refine touched_go ?_
  with_reducible refine only_step ?_ (State.elapse_touch _ _)
  with_reducible exact only_refl _ _
  split
  with_reducible refine touched_go ?_
  with_reducible refine only_step ?_ (State.finish_touch _ _ _ _)
  with_reducible refine only_step ?_ (State.count_touch _ _)
  split
  with_reducible refine only_set_ports _ ?_ ?_
  with_reducible refine only_step ?_ (State.elapse_touch _ _)
  with_reducible exact only_refl _ _
  exact (rfl : _ = true)
  with_reducible refine only_set_ports _ ?_ ?_
  with_reducible refine only_step ?_ (State.elapse_touch _ _)
  with_reducible exact only_refl _ _
  exact (rfl : _ = true)
  with_reducible refine touched_go ?_
  with_reducible refine only_step ?_ (State.finish_touch _ _ _ _)
  split
  with_reducible refine only_set_ports _ ?_ ?_
  with_reducible refine only_step ?_ (State.elapse_touch _ _)
  with_reducible exact only_refl _ _
  exact (rfl : _ = true)
  with_reducible refine only_set_ports _ ?_ ?_
  with_reducible refine only_step ?_ (State.elapse_touch _ _)
  with_reducible exact only_refl _ _
  exact (rfl : _ = true)

theorem execCanCommitPoint_touch : ∀ x0 x1 s, touched (execCanCommitPoint x0 x1 s) s [.outputs, .can] := by
  intro x0 x1 s
  unfold execCanCommitPoint
  conv => zeta
  with_reducible refine touched_go ?_
  with_reducible refine only_step ?_ (State.commitPoint_touch _ _)
  with_reducible refine only_step ?_ (State.elapse_touch _ _)
  with_reducible exact only_refl _ _

theorem execMbIdentify_touch : ∀ x0 x1 s, touched (execMbIdentify x0 x1 s) s [.mailbox, .interrupts, .tallies, .daybook, .outputs, .flash] := by
  intro x0 x1 s
  unfold execMbIdentify
  conv => zeta
  with_reducible refine touched_go ?_
  exact only_trans (only_sub (State.elapse_touch _ _) rfl) (State.submit_touch _ _ _ (fun b v => only_sub (cmdIdentify_touch b v) rfl) rfl)

theorem execMbActAt_touch : ∀ x0 x1 s, touched (execMbActAt x0 x1 s) s [.mailbox, .interrupts, .tallies, .daybook, .outputs, .flash, .parison] := by
  intro x0 x1 s
  unfold execMbActAt
  conv => zeta
  with_reducible refine touched_go ?_
  exact only_trans (only_sub (State.elapse_touch _ _) rfl) (State.submit_touch _ _ _ (fun b v => only_sub (cmdActAt_touch b v) rfl) rfl)

theorem execConsentCommitRx_touch : ∀ x0 s, touched (execConsentCommitRx x0 s) s [.interrupts, .tallies, .daybook, .outputs, .flash, .can, .sleep] := by
  intro x0 s
  unfold execConsentCommitRx
  conv => zeta
  with_reducible refine touched_go ?_
  with_reducible refine only_step ?_ (State.takeConsent_touch (l := [.interrupts, .tallies, .daybook, .outputs, .flash, .can, .sleep]) (hl := ?_) (hb := ?_) _ _ _)
  with_reducible refine only_step ?_ (State.elapse_touch _ _)
  with_reducible exact only_refl _ _
  intro _
  intro _
  intro _
  with_reducible refine only_step ?_ (State.commitIn_touch _ _ _)
  with_reducible exact only_refl _ _
  exact (rfl : _ = true)

theorem execResyncSelftestFail_touch : ∀ x0 s, touched (execResyncSelftestFail x0 s) s [.interrupts, .clock, .tallies, .daybook, .outputs, .flash, .store, .triad, .twin, .seeds] := by
  intro x0 s
  unfold execResyncSelftestFail
  conv => zeta
  split
  with_reducible refine touched_go ?_
  with_reducible refine only_step ?_ (State.retireCore_touch _ _ _)
  with_reducible refine only_step ?_ (State.endResync_touch _)
  with_reducible refine only_step ?_ (State.elapse_touch _ _)
  with_reducible exact only_refl _ _
  with_reducible refine touched_go ?_
  with_reducible refine only_step ?_ (State.elapse_touch _ _)
  with_reducible exact only_refl _ _

theorem execFlbSlotExpiry_touch : ∀ x0 x1 s, touched (execFlbSlotExpiry x0 x1 s) s [.interrupts, .tallies, .daybook, .outputs, .flash, .bridge] := by
  intro x0 x1 s
  unfold execFlbSlotExpiry
  conv => zeta
  with_reducible refine touched_go ?_
  with_reducible refine only_step ?_ (State.slotEnd_touch _ _)
  with_reducible refine only_step ?_ (State.elapse_touch _ _)
  with_reducible exact only_refl _ _

theorem execAcquireRead_touch : ∀ x0 x1 x2 s, touched (execAcquireRead x0 x1 x2 s) s [.outputs, .can] := by
  intro x0 x1 x2 s
  unfold execAcquireRead
  conv => zeta
  with_reducible refine touched_go ?_
  with_reducible refine only_ite ?_ ?_
  with_reducible refine only_step ?_ (State.elapse_touch _ _)
  with_reducible exact only_refl _ _
  with_reducible refine only_step ?_ (State.send_touch _ _)
  with_reducible refine only_step ?_ (State.acquire_touch _ _ _)
  with_reducible refine only_step ?_ (State.elapse_touch _ _)
  with_reducible exact only_refl _ _

theorem execCanArbitrationLost_touch : ∀ x0 x1 s, touched (execCanArbitrationLost x0 x1 s) s [.mailbox, .interrupts, .tallies, .outputs, .can, .sleep] := by
  intro x0 x1 s
  unfold execCanArbitrationLost
  conv => zeta
  with_reducible refine touched_go ?_
  with_reducible refine only_step ?_ (State.arbLost_touch _ _)
  with_reducible refine only_step ?_ (State.elapse_touch _ _)
  with_reducible exact only_refl _ _

theorem execZeroCrossing_touch : ∀ x0 x1 s, touched (execZeroCrossing x0 x1 s) s [.interrupts, .tallies, .daybook, .outputs, .flash, .trackers, .pace, .gaffer] := by
  intro x0 x1 s
  unfold execZeroCrossing
  conv => zeta
  with_reducible refine touched_go ?_
  with_reducible refine only_step ?_ (State.crossing_touch _ _)
  with_reducible refine only_step ?_ (State.elapse_touch _ _)
  with_reducible exact only_refl _ _

theorem execSysrstNRelease_touch : ∀ x0 s, touched (execSysrstNRelease x0 s) s [.mailbox, .interrupts, .clock, .tallies, .daybook, .outputs, .system, .flash, .vault] := by
  intro x0 s
  unfold execSysrstNRelease
  conv => zeta
  with_reducible refine touched_go ?_
  with_reducible refine only_ite ?_ ?_
  with_reducible refine only_step ?_ (State.elapse_touch _ _)
  with_reducible exact only_refl _ _
  with_reducible refine only_step ?_ (State.tryStart_touch _ _)
  with_reducible refine only_set_sys _ ?_ ?_
  with_reducible refine only_step ?_ (State.elapse_touch _ _)
  with_reducible exact only_refl _ _
  exact (rfl : _ = true)

theorem execTallySnap_touch : ∀ x0 x1 s, touched (execTallySnap x0 x1 s) s [.interrupts, .tallies, .daybook, .outputs, .flash, .parison, .gaffer, .seeds] := by
  intro x0 x1 s
  unfold execTallySnap
  conv => zeta
  with_reducible refine touched_go ?_
  with_reducible refine only_step ?_ (State.act_touch (l := [.interrupts, .tallies, .daybook, .outputs, .flash, .parison, .gaffer, .seeds]) (hl := ?_) (hb := ?_) _ _ _ _)
  with_reducible refine only_step ?_ (State.elapse_touch _ _)
  with_reducible exact only_refl _ _
  intro _
  intro _
  with_reducible refine only_step ?_ (State.snapGroups_touch _ _)
  with_reducible exact only_refl _ _
  exact (rfl : _ = true)

theorem execSleepCommit_touch : ∀ x0 s, touched (execSleepCommit x0 s) s [.mailbox, .interrupts, .clock, .tallies, .daybook, .outputs, .system, .flash, .feeds, .lehr, .parison, .trackers, .pace, .gaffer, .ports, .fabric, .store, .inaug, .time, .can, .sleep, .measure, .triad, .twin, .bridge, .vault, .seeds] := by
  intro x0 s
  unfold execSleepCommit
  conv => zeta
  split
  with_reducible refine touched_go ?_
  with_reducible refine only_ite ?_ ?_
  with_reducible refine only_step ?_ (State.goDown_touch _ _)
  with_reducible refine only_step ?_ (State.elapse_touch _ _)
  with_reducible exact only_refl _ _
  with_reducible refine only_step ?_ (State.elapse_touch _ _)
  with_reducible exact only_refl _ _
  with_reducible refine touched_go ?_
  with_reducible refine only_step ?_ (State.elapse_touch _ _)
  with_reducible exact only_refl _ _

theorem execLedgerBankSwitch_touch : ∀ x0 s, touched (execLedgerBankSwitch x0 s) s [.lehr, .fabric] := by
  intro x0 s
  unfold execLedgerBankSwitch
  extract_lets u
  have h0 : u.onlyChanges s [.lehr, .fabric] := only_sub (State.elapse_touch _ _) rfl
  clear_value u
  have hz : ∀ a b, ({ u with lehr := a, fab := b } : State).onlyChanges s [.lehr, .fabric] := fun a b =>
    only_set_fab b (only_set_lehr a h0 rfl) rfl
  split
  · exact touched_go h0
  · split
    · exact touched_go h0
    · exact touched_go (hz _ _)

theorem execSdFilterOutput_touch : ∀ x0 x1 x2 s, touched (execSdFilterOutput x0 x1 x2 s) s [.clock, .tallies, .trackers, .measure] := by
  intro x0 x1 x2 s
  unfold execSdFilterOutput
  conv => zeta
  with_reducible refine touched_go ?_
  with_reducible refine only_step ?_ (State.filterOut_touch _ _ _)
  with_reducible refine only_step ?_ (State.elapse_touch _ _)
  with_reducible exact only_refl _ _

theorem execSleepConsentStatus_touch : ∀ x0 x1 s, touched (execSleepConsentStatus x0 x1 s) s [.mailbox, .interrupts, .tallies, .daybook, .outputs, .flash, .can, .sleep] := by
  intro x0 x1 s
  unfold execSleepConsentStatus
  conv => zeta
  with_reducible refine touched_go ?_
  exact only_trans (only_sub (State.elapse_touch _ _) rfl) (State.submit_touch _ _ _ (fun b v => only_sub (cmdSleep_touch b v) rfl) rfl)

theorem execBackpressureHold_touch : ∀ x0 x1 s, touched (execBackpressureHold x0 x1 s) s [.interrupts, .tallies, .daybook, .outputs, .flash, .ports, .fabric, .vault, .seeds] := by
  intro x0 x1 s
  unfold execBackpressureHold
  conv => zeta
  split
  with_reducible refine touched_go ?_
  with_reducible refine only_ite ?_ ?_
  with_reducible refine only_step ?_ (State.holdPorts_touch _ _ _)
  with_reducible refine only_step ?_ (State.holdsOver_touch _)
  with_reducible refine only_step ?_ (State.elapse_touch _ _)
  with_reducible exact only_refl _ _
  with_reducible refine only_step ?_ (State.holdsOver_touch _)
  with_reducible refine only_step ?_ (State.elapse_touch _ _)
  with_reducible exact only_refl _ _
  with_reducible refine touched_go ?_
  with_reducible refine only_step ?_ (State.holdsOver_touch _)
  with_reducible refine only_step ?_ (State.elapse_touch _ _)
  with_reducible exact only_refl _ _

theorem execEnrolReadCert_touch : ∀ x0 x1 s, touched (execEnrolReadCert x0 x1 s) s [.mailbox, .interrupts, .tallies, .daybook, .outputs, .flash, .vault] := by
  intro x0 x1 s
  unfold execEnrolReadCert
  conv => zeta
  with_reducible refine touched_go ?_
  exact only_trans (only_sub (State.elapse_touch _ _) rfl) (State.submit_touch _ _ _ (fun b v => only_sub (cmdEnrol_touch b v) rfl) rfl)

theorem execParisonActivateCancel_touch : ∀ x0 x1 s, touched (execParisonActivateCancel x0 x1 s) s [.mailbox, .interrupts, .tallies, .daybook, .outputs, .flash, .parison] := by
  intro x0 x1 s
  unfold execParisonActivateCancel
  conv => zeta
  with_reducible refine touched_go ?_
  exact only_trans (only_sub (State.elapse_touch _ _) rfl) (State.submit_touch _ _ _ (fun b v => only_sub (cmdActivate_touch b v) rfl) rfl)

theorem execRestepMaster_touch : ∀ x0 x1 s, touched (execRestepMaster x0 x1 s) s [.mailbox, .interrupts, .tallies, .daybook, .outputs, .flash, .time, .vault] := by
  intro x0 x1 s
  unfold execRestepMaster
  conv => zeta
  with_reducible refine touched_go ?_
  exact only_trans (only_sub (State.elapse_touch _ _) rfl) (State.submit_touch _ _ _ (fun b v => only_sub (cmdRestep_touch b v) rfl) rfl)

theorem execMbTriadStatus_touch : ∀ x0 x1 s, touched (execMbTriadStatus x0 x1 s) s [.mailbox, .interrupts, .tallies, .daybook, .outputs, .flash] := by
  intro x0 x1 s
  unfold execMbTriadStatus
  conv => zeta
  with_reducible refine touched_go ?_
  exact only_trans (only_sub (State.elapse_touch _ _) rfl) (State.submit_touch _ _ _ (fun b v => only_sub (cmdTriadStatus_touch b v) rfl) rfl)

theorem execHrxDescriptorReread_touch : ∀ x0 x1 x2 s, touched (execHrxDescriptorReread x0 x1 x2 s) s [.interrupts, .tallies, .daybook, .outputs, .flash, .ports, .fabric] := by
  intro x0 x1 x2 s
  unfold execHrxDescriptorReread
  conv => zeta
  split
  with_reducible refine touched_go ?_
  with_reducible refine only_step ?_ (State.elapse_touch _ _)
  with_reducible exact only_refl _ _
  with_reducible refine touched_go ?_
  with_reducible refine only_step ?_ (State.hrxPump_touch _ _ _ _)
  with_reducible refine only_step ?_ (State.setHrx_touch _ _ _)
  with_reducible refine only_step ?_ (State.elapse_touch _ _)
  with_reducible exact only_refl _ _

theorem execReturnAbandon_touch : ∀ x0 x1 s, touched (execReturnAbandon x0 x1 s) s [.mailbox, .interrupts, .tallies, .outputs, .feeds, .can] := by
  intro x0 x1 s
  unfold execReturnAbandon
  conv => zeta
  with_reducible refine touched_go ?_
  with_reducible refine only_ite ?_ ?_
  with_reducible refine only_step ?_ (State.abandon2_touch _ _)
  with_reducible refine only_step ?_ (State.elapse_touch _ _)
  with_reducible exact only_refl _ _
  with_reducible refine only_step ?_ (State.elapse_touch _ _)
  with_reducible exact only_refl _ _

theorem execVaultRestart_touch : ∀ x0 s, touched (execVaultRestart x0 s) s [.interrupts, .tallies, .daybook, .outputs, .flash, .vault] := by
  intro x0 s
  unfold execVaultRestart
  conv => zeta
  with_reducible refine touched_go ?_
  with_reducible refine only_step ?_ (State.vaultBack_touch _)
  with_reducible refine only_step ?_ (State.elapse_touch _ _)
  with_reducible exact only_refl _ _

theorem execVkaLoss_touch : ∀ x0 s, touched (execVkaLoss x0 s) s [.mailbox, .interrupts, .clock, .tallies, .daybook, .outputs, .system, .flash, .feeds, .lehr, .parison, .trackers, .pace, .gaffer, .ports, .fabric, .store, .inaug, .time, .can, .sleep, .measure, .triad, .twin, .bridge, .vault, .seeds] := by
  intro x0 s
  unfold execVkaLoss
  extract_lets u v y z
  have h0 : v.pending = s.pending := (State.mainReset_touch u true).1
  clear_value v
  exact touched_go (only_all h0)

theorem execMbParisonActivate_touch : ∀ x0 x1 s, touched (execMbParisonActivate x0 x1 s) s [.mailbox, .interrupts, .tallies, .daybook, .outputs, .flash, .parison] := by
  intro x0 x1 s
  unfold execMbParisonActivate
  conv => zeta
  with_reducible refine touched_go ?_
  exact only_trans (only_sub (State.elapse_touch _ _) rfl) (State.submit_touch _ _ _ (fun b v => only_sub (cmdActivate_touch b v) rfl) rfl)

theorem execResyncStart_touch : ∀ x0 s, touched (execResyncStart x0 s) s [.triad] := by
  intro x0 s
  unfold execResyncStart
  conv => zeta
  with_reducible refine touched_go ?_
  with_reducible refine only_step ?_ (State.resyncStart_touch _)
  with_reducible refine only_step ?_ (State.elapse_touch _ _)
  with_reducible exact only_refl _ _

theorem execRekeyTimer_touch : ∀ x0 x1 s, touched (execRekeyTimer x0 x1 s) s [.interrupts, .tallies, .daybook, .outputs, .flash, .vault] := by
  intro x0 x1 s
  unfold execRekeyTimer
  conv => zeta
  split
  split
  with_reducible refine touched_go ?_
  with_reducible refine only_step ?_ (State.keyStart_touch _ _)
  with_reducible refine only_step ?_ (State.elapse_touch _ _)
  with_reducible exact only_refl _ _
  with_reducible refine touched_go ?_
  with_reducible refine only_step ?_ (State.elapse_touch _ _)
  with_reducible exact only_refl _ _
  with_reducible refine touched_go ?_
  with_reducible refine only_step ?_ (State.elapse_touch _ _)
  with_reducible exact only_refl _ _

theorem execMbCanStatus_touch : ∀ x0 x1 s, touched (execMbCanStatus x0 x1 s) s [.mailbox, .interrupts, .tallies, .daybook, .outputs, .flash] := by
  intro x0 x1 s
  unfold execMbCanStatus
  conv => zeta
  with_reducible refine touched_go ?_
  exact only_trans (only_sub (State.elapse_touch _ _) rfl) (State.submit_touch _ _ _ (fun b v => only_sub (cmdCanStatus_touch b v) rfl) rfl)

theorem execRegisterWrite_touch : ∀ x0 x1 x2 s, touched (execRegisterWrite x0 x1 x2 s) s [.mailbox, .interrupts, .clock, .tallies, .daybook, .outputs, .system, .flash, .feeds, .lehr, .parison, .trackers, .pace, .gaffer, .ports, .fabric, .store, .inaug, .time, .can, .sleep, .measure, .triad, .twin, .bridge, .vault, .seeds] := by
  intro x0 x1 x2 s
  unfold execRegisterWrite
  conv => zeta
  with_reducible refine touched_go ?_
  with_reducible refine only_ite ?_ ?_
  with_reducible refine only_step ?_ (State.hifWrite_touch (l := [.mailbox, .interrupts, .clock, .tallies, .daybook, .outputs, .system, .flash, .feeds, .lehr, .parison, .trackers, .pace, .gaffer, .ports, .fabric, .store, .inaug, .time, .can, .sleep, .measure, .triad, .twin, .bridge, .vault, .seeds]) (hl := ?_) (hb := ?_) _ _ _ _)
  with_reducible refine only_step ?_ (State.elapse_touch _ _)
  with_reducible exact only_refl _ _
  intro _
  with_reducible refine only_step ?_ (ring_touch _)
  with_reducible exact only_refl _ _
  exact (rfl : _ = true)
  with_reducible refine only_step ?_ (State.elapse_touch _ _)
  with_reducible exact only_refl _ _

theorem execMbTriadRestart_touch : ∀ x0 x1 s, touched (execMbTriadRestart x0 x1 s) s [.mailbox, .interrupts, .tallies, .daybook, .outputs, .flash, .triad] := by
  intro x0 x1 s
  unfold execMbTriadRestart
  conv => zeta
  with_reducible refine touched_go ?_
  exact only_trans (only_sub (State.elapse_touch _ _) rfl) (State.submit_touch _ _ _ (fun b v => only_sub (cmdTriadRestart_touch b v) rfl) rfl)

theorem execMemUncorr_touch : ∀ x0 x1 x2 x3 s, touched (execMemUncorr x0 x1 x2 x3 s) s [.mailbox, .interrupts, .clock, .tallies, .daybook, .outputs, .system, .flash, .lehr, .fabric, .store, .can, .twin, .bridge, .vault] := by
  intro x0 x1 x2 x3 s
  unfold execMemUncorr
  conv => zeta
  with_reducible refine touched_go ?_
  with_reducible refine only_step ?_ (State.memError_touch _ _ _ _)
  with_reducible refine only_step ?_ (State.elapse_touch _ _)
  with_reducible exact only_refl _ _

theorem execPageSwap_touch : ∀ x0 s, touched (execPageSwap x0 s) s [.mailbox, .interrupts, .clock, .tallies, .daybook, .outputs, .flash, .store, .can, .bridge] := by
  intro x0 s
  unfold execPageSwap
  extract_lets u
  have h0 : u.onlyChanges s [.mailbox, .interrupts, .clock, .tallies, .daybook, .outputs, .flash, .store, .can, .bridge] := only_sub (State.elapse_touch _ _) rfl
  clear_value u
  split
  · refine touched_go ?_
    split
    · exact only_trans h0 (State.deliverIn_touch u id (fun x => only_refl x _) rfl)
    · exact h0
  · exact touched_go h0

theorem execPortWindowPin_touch : ∀ x0 x1 s, touched (execPortWindowPin x0 x1 s) s [.store] := by
  intro x0 x1 s
  unfold execPortWindowPin
  conv => zeta
  with_reducible refine touched_go ?_
  with_reducible refine only_step ?_ (State.when_touch (l := [.store]) (hl := ?_) _ _ _)
  with_reducible refine only_step ?_ (State.elapse_touch _ _)
  with_reducible exact only_refl _ _
  intro _
  with_reducible refine only_step ?_ (State.pinPort_touch _ _)
  with_reducible exact only_refl _ _

theorem execTopologyRx_touch : ∀ x0 x1 x2 s, touched (execTopologyRx x0 x1 x2 s) s [.interrupts, .tallies, .daybook, .outputs, .flash, .inaug] := by
  intro x0 x1 x2 s
  unfold execTopologyRx
  conv => zeta
  with_reducible refine touched_go ?_
  with_reducible refine only_step ?_ (State.topologyIn_touch _ _ _)
  with_reducible refine only_step ?_ (State.elapse_touch _ _)
  with_reducible exact only_refl _ _

theorem execNop_touch : ∀ x0 x1 s, touched (execNop x0 x1 s) s [.interrupts, .tallies, .daybook, .outputs, .flash, .parison, .gaffer, .seeds] := by
  intro x0 x1 s
  unfold execNop
  conv => zeta
  with_reducible refine touched_go ?_
  with_reducible refine only_step ?_ (State.act_touch (l := [.interrupts, .tallies, .daybook, .outputs, .flash, .parison, .gaffer, .seeds]) (hl := ?_) (hb := ?_) _ _ _ _)
  with_reducible refine only_step ?_ (State.elapse_touch _ _)
  with_reducible exact only_refl _ _
  intro _
  intro _
  with_reducible exact only_refl _ _
  exact (rfl : _ = true)

theorem execFlbInboundWrite_touch : ∀ x0 x1 x2 x3 x4 s, touched (execFlbInboundWrite x0 x1 x2 x3 x4 s) s [.interrupts, .tallies, .daybook, .outputs, .flash, .bridge, .seeds] := by
  intro x0 x1 x2 x3 x4 s
  unfold execFlbInboundWrite
  conv => zeta
  with_reducible refine touched_go ?_
  with_reducible refine only_step ?_ (State.flbWriteIn_touch _ _ _ _ _)
  with_reducible refine only_step ?_ (State.elapse_touch _ _)
  with_reducible exact only_refl _ _

theorem execParisonLoadComplete_touch : ∀ x0 s, touched (execParisonLoadComplete x0 s) s [.interrupts, .tallies, .daybook, .outputs, .flash, .parison, .trackers, .fabric, .store, .can, .sleep, .measure, .triad, .bridge] := by
  intro x0 s
  unfold execParisonLoadComplete
  extract_lets u
  have h0 : u.onlyChanges s [.interrupts, .tallies, .daybook, .outputs, .flash, .parison, .trackers, .fabric, .store, .can, .sleep, .measure, .triad, .bridge] := only_sub (State.elapse_touch _ _) rfl
  clear_value u
  have hz : ∀ a b, ({ u with par := a, fab := b } : State).onlyChanges s [.interrupts, .tallies, .daybook, .outputs, .flash, .parison, .trackers, .fabric, .store, .can, .sleep, .measure, .triad, .bridge] := fun a b =>
    only_set_fab b (only_set_par a h0 rfl) rfl
  split
  · exact touched_go h0
  · split
    · exact touched_go h0
    · extract_lets p d slots v
      have h1 : v.onlyChanges s [.interrupts, .tallies, .daybook, .outputs, .flash, .parison, .trackers, .fabric, .store, .can, .sleep, .measure, .triad, .bridge] := hz _ _
      clear_value v
      exact touched_go (only_step (only_step h1 (State.unitsActivate_touch ..) rfl) (State.recheckOneOffs_touch ..) rfl)

theorem execTakeoverComplete_touch : ∀ x0 s, touched (execTakeoverComplete x0 s) s [.interrupts, .clock, .tallies, .daybook, .outputs, .flash, .ports, .fabric, .store, .time, .can, .triad, .twin, .vault, .seeds] := by
  intro x0 s
  unfold execTakeoverComplete
  conv => zeta
  with_reducible refine touched_go ?_
  with_reducible refine only_step ?_ (State.takeover_touch _)
  with_reducible refine only_step ?_ (State.elapse_touch _ _)
  with_reducible exact only_refl _ _

theorem execMbFwStage_touch : ∀ x0 x1 s, touched (execMbFwStage x0 x1 s) s [.mailbox, .interrupts, .tallies, .daybook, .outputs, .system, .flash] := by
  intro x0 x1 s
  unfold execMbFwStage
  conv => zeta
  with_reducible refine touched_go ?_
  exact only_trans (only_sub (State.elapse_touch _ _) rfl) (State.submit_touch _ _ _ (fun b v => only_sub (cmdFwStage_touch b v) rfl) rfl)

theorem execLehrRun_touch : ∀ x0 x1 s, touched (execLehrRun x0 x1 s) s [.mailbox, .interrupts, .clock, .tallies, .daybook, .outputs, .system, .flash, .feeds, .lehr, .parison, .trackers, .pace, .gaffer, .ports, .fabric, .store, .inaug, .time, .can, .sleep, .measure, .triad, .twin, .vault, .seeds] := by
  intro x0 x1 s
  unfold execLehrRun
  conv => zeta
  with_reducible refine touched_go ?_
  with_reducible refine only_ite ?_ ?_
  with_reducible refine only_step ?_ (State.lehr1_touch _ _)
  with_reducible refine only_step ?_ (State.elapse_touch _ _)
  with_reducible exact only_refl _ _
  with_reducible refine only_step ?_ (State.elapse_touch _ _)
  with_reducible exact only_refl _ _

theorem execMbParisonStage_touch : ∀ x0 x1 s, touched (execMbParisonStage x0 x1 s) s [.mailbox, .interrupts, .tallies, .daybook, .outputs, .flash, .parison] := by
  intro x0 x1 s
  unfold execMbParisonStage
  conv => zeta
  with_reducible refine touched_go ?_
  exact only_trans (only_sub (State.elapse_touch _ _) rfl) (State.submit_touch _ _ _ (fun b v => only_sub (cmdStage_touch b v) rfl) rfl)

theorem execPdelayReqRx_touch : ∀ x0 x1 s, touched (execPdelayReqRx x0 x1 s) s [.interrupts, .tallies, .daybook, .outputs, .flash, .time] := by
  intro x0 x1 s
  unfold execPdelayReqRx
  conv => zeta
  with_reducible refine touched_go ?_
  with_reducible refine only_step ?_ (State.reqIn_touch _ _)
  with_reducible refine only_step ?_ (State.elapse_touch _ _)
  with_reducible exact only_refl _ _

theorem execMbLehrReport_touch : ∀ x0 x1 s, touched (execMbLehrReport x0 x1 s) s [.mailbox, .interrupts, .tallies, .daybook, .outputs, .flash] := by
  intro x0 x1 s
  unfold execMbLehrReport
  conv => zeta
  with_reducible refine touched_go ?_
  exact only_trans (only_sub (State.elapse_touch _ _) rfl) (State.submit_touch _ _ _ (fun b v => only_sub (cmdLehrReport_touch b v) rfl) rfl)

theorem execFastModeExit_touch : ∀ x0 s, touched (execFastModeExit x0 s) s [.inaug] := by
  intro x0 s
  unfold execFastModeExit
  conv => zeta
  split
  split
  with_reducible refine touched_go ?_
  with_reducible refine only_set_inaug _ ?_ ?_
  with_reducible refine only_step ?_ (State.elapse_touch _ _)
  with_reducible exact only_refl _ _
  exact (rfl : _ = true)
  with_reducible refine touched_go ?_
  with_reducible refine only_step ?_ (State.elapse_touch _ _)
  with_reducible exact only_refl _ _
  with_reducible refine touched_go ?_
  with_reducible refine only_step ?_ (State.elapse_touch _ _)
  with_reducible exact only_refl _ _

theorem execLinkUp_touch : ∀ x0 x1 x2 s, touched (execLinkUp x0 x1 x2 s) s [.interrupts, .clock, .tallies, .daybook, .outputs, .flash, .ports, .inaug, .vault] := by
  intro x0 x1 x2 s
  unfold execLinkUp
  conv => zeta
  with_reducible refine touched_go ?_
  with_reducible refine only_step ?_ (State.linkRise_touch _ _ _)
  with_reducible refine only_step ?_ (State.elapse_touch _ _)
  with_reducible exact only_refl _ _

theorem execMbTimeStatus_touch : ∀ x0 x1 s, touched (execMbTimeStatus x0 x1 s) s [.mailbox, .interrupts, .tallies, .daybook, .outputs, .flash] := by
  intro x0 x1 s
  unfold execMbTimeStatus
  conv => zeta
  with_reducible refine touched_go ?_
  exact only_trans (only_sub (State.elapse_touch _ _) rfl) (State.submit_touch _ _ _ (fun b v => only_sub (cmdTimeStatus_touch b v) rfl) rfl)

theorem execPorstNAssert_touch : ∀ x0 x1 s, touched (execPorstNAssert x0 x1 s) s [.mailbox, .interrupts, .clock, .tallies, .daybook, .outputs, .system, .flash, .feeds, .lehr, .parison, .trackers, .pace, .gaffer, .ports, .fabric, .store, .inaug, .time, .can, .sleep, .measure, .triad, .twin, .bridge, .vault, .seeds] := by
  intro x0 x1 s
  unfold execPorstNAssert
  conv => zeta
  with_reducible refine touched_go ?_
  with_reducible refine only_ite ?_ ?_
  with_reducible refine only_step ?_ (State.mainReset_touch _ _)
  split
  with_reducible refine only_set_sys _ ?_ ?_
  with_reducible refine only_step ?_ (State.fresh_touch _ _)
  with_reducible refine only_step ?_ (State.elapse_touch _ _)
  with_reducible exact only_refl _ _
  exact (rfl : _ = true)
  with_reducible refine only_set_sys _ ?_ ?_
  with_reducible refine only_step ?_ (State.elapse_touch _ _)
  with_reducible exact only_refl _ _
  exact (rfl : _ = true)
  with_reducible refine only_ite ?_ ?_
  with_reducible refine only_step ?_ (State.fresh_touch _ _)
  with_reducible refine only_step ?_ (State.elapse_touch _ _)
  with_reducible exact only_refl _ _
  with_reducible refine only_step ?_ (State.elapse_touch _ _)
  with_reducible exact only_refl _ _

theorem execFlbInboundRead_touch : ∀ x0 x1 x2 x3 s, touched (execFlbInboundRead x0 x1 x2 x3 s) s [.interrupts, .tallies, .daybook, .outputs, .flash, .bridge, .seeds] := by
  intro x0 x1 x2 x3 s
  unfold execFlbInboundRead
  conv => zeta
  with_reducible refine touched_go ?_
  with_reducible refine only_step ?_ (State.flbReadIn_touch _ _ _ _)
  with_reducible refine only_step ?_ (State.elapse_touch _ _)
  with_reducible exact only_refl _ _

theorem execKeyNextAckRx_touch : ∀ x0 x1 s, touched (execKeyNextAckRx x0 x1 s) s [.interrupts, .tallies, .daybook, .outputs, .flash, .ports, .fabric, .vault, .seeds] := by
  intro x0 x1 s
  unfold execKeyNextAckRx
  conv => zeta
  with_reducible refine touched_go ?_
  with_reducible refine only_step ?_ (State.keyNextAck_touch _ _)
  with_reducible refine only_step ?_ (State.elapse_touch _ _)
  with_reducible exact only_refl _ _

theorem execMbFlbRead_touch : ∀ x0 x1 s, touched (execMbFlbRead x0 x1 s) s [.mailbox, .interrupts, .tallies, .daybook, .outputs, .flash, .can, .bridge] := by
  intro x0 x1 s
  unfold execMbFlbRead
  conv => zeta
  with_reducible refine touched_go ?_
  exact only_trans (only_sub (State.elapse_touch _ _) rfl) (State.submit_touch _ _ _ (fun b v => only_sub (cmdFlbRead_touch b v) rfl) rfl)

theorem execFwSwap_touch : ∀ x0 s, touched (execFwSwap x0 s) s [.mailbox, .system, .can, .bridge] := by
  intro x0 s
  unfold execFwSwap
  conv => zeta
  split
  with_reducible refine touched_go ?_
  with_reducible refine only_ite ?_ ?_
  with_reducible refine only_step ?_ (State.elapse_touch _ _)
  with_reducible exact only_refl _ _
  with_reducible refine only_set_sys _ ?_ ?_
  with_reducible refine only_step ?_ (State.tellerFall_touch _ _)
  with_reducible refine only_step ?_ (State.elapse_touch _ _)
  with_reducible exact only_refl _ _
  exact (rfl : _ = true)
  with_reducible refine touched_go ?_
  with_reducible refine only_step ?_ (State.elapse_touch _ _)
  with_reducible exact only_refl _ _

theorem execMbMeasRead_touch : ∀ x0 x1 s, touched (execMbMeasRead x0 x1 s) s [.mailbox, .interrupts, .clock, .tallies, .daybook, .outputs, .flash, .measure] := by
  intro x0 x1 s
  unfold execMbMeasRead
  conv => zeta
  with_reducible refine touched_go ?_
  exact only_trans (only_sub (State.elapse_touch _ _) rfl) (State.submit_touch _ _ _ (fun b v => only_sub (cmdMeasRead_touch b v) rfl) rfl)

theorem execSecTrng_touch : ∀ x0 x1 s, touched (execSecTrng x0 x1 s) s [.interrupts, .tallies, .daybook, .outputs, .flash, .vault] := by
  intro x0 x1 s
  unfold execSecTrng
  conv => zeta
  with_reducible refine touched_go ?_
  with_reducible refine only_ite ?_ ?_
  with_reducible refine only_step ?_ (State.elapse_touch _ _)
  with_reducible exact only_refl _ _
  with_reducible refine only_step ?_ (State.note_touch _ _ _)
  with_reducible refine only_step ?_ (State.count_touch _ _)
  with_reducible refine only_set_sec _ ?_ ?_
  with_reducible refine only_step ?_ (State.elapse_touch _ _)
  with_reducible exact only_refl _ _
  exact (rfl : _ = true)

theorem execSinkTimeout_touch : ∀ x0 x1 s, touched (execSinkTimeout x0 x1 s) s [.interrupts, .clock, .tallies, .daybook, .outputs, .flash, .store] := by
  intro x0 x1 s
  unfold execSinkTimeout
  conv => zeta
  with_reducible refine touched_go ?_
  with_reducible refine only_step ?_ (State.sinkExpire_touch _ _)
  with_reducible refine only_step ?_ (State.elapse_touch _ _)
  with_reducible exact only_refl _ _

theorem execMbMdio_touch : ∀ x0 x1 s, touched (execMbMdio x0 x1 s) s [.mailbox, .interrupts, .tallies, .daybook, .outputs, .flash, .ports] := by
  intro x0 x1 s
  unfold execMbMdio
  conv => zeta
  with_reducible refine touched_go ?_
  exact only_trans (only_sub (State.elapse_touch _ _) rfl) (State.submit_touch _ _ _ (fun b v => only_sub (cmdMdio_touch b v) rfl) rfl)

theorem execSpineHandover_touch : ∀ x0 x1 s, touched (execSpineHandover x0 x1 s) s [.interrupts, .tallies, .daybook, .outputs, .flash, .gaffer] := by
  intro x0 x1 s
  unfold execSpineHandover
  conv => zeta
  with_reducible refine touched_go ?_
  split
  with_reducible refine only_step ?_ (State.takeTime_touch _)
  with_reducible refine only_step ?_ (State.elapse_touch _ _)
  with_reducible exact only_refl _ _
  with_reducible refine only_step ?_ (State.takePace_touch _)
  with_reducible refine only_step ?_ (State.elapse_touch _ _)
  with_reducible exact only_refl _ _

theorem execCrossingTimeout_touch : ∀ x0 s, touched (execCrossingTimeout x0 s) s [.interrupts, .tallies, .daybook, .outputs, .flash, .trackers, .pace] := by
  intro x0 s
  unfold execCrossingTimeout
  conv => zeta
  with_reducible refine touched_go ?_
  with_reducible refine only_step ?_ (State.missed_touch _ _)
  with_reducible refine only_step ?_ (State.missed_touch _ _)
  with_reducible refine only_step ?_ (State.elapse_touch _ _)
  with_reducible exact only_refl _ _

theorem execSoloFallback_touch : ∀ x0 s, touched (execSoloFallback x0 s) s [.tallies, .can, .sleep] := by
  intro x0 s
  unfold execSoloFallback
  conv => zeta
  with_reducible refine touched_go ?_
  with_reducible refine only_ite ?_ ?_
  with_reducible refine only_step ?_ (State.elapse_touch _ _)
  with_reducible exact only_refl _ _
  with_reducible refine only_ite ?_ ?_
  with_reducible refine only_step ?_ (State.soloAgree_touch _)
  with_reducible refine only_set_sleep _ ?_ ?_
  with_reducible refine only_step ?_ (State.elapse_touch _ _)
  with_reducible exact only_refl _ _
  exact (rfl : _ = true)
  with_reducible refine only_set_sleep _ ?_ ?_
  with_reducible refine only_step ?_ (State.elapse_touch _ _)
  with_reducible exact only_refl _ _
  exact (rfl : _ = true)

theorem execEpochReceive_touch : ∀ x0 x1 x2 s, touched (execEpochReceive x0 x1 x2 s) s [.tallies, .sleep, .twin] := by
  intro x0 x1 x2 s
  unfold execEpochReceive
  conv => zeta
  with_reducible refine touched_go ?_
  with_reducible refine only_step ?_ (State.epochIn_touch _ _ _)
  with_reducible refine only_step ?_ (State.elapse_touch _ _)
  with_reducible exact only_refl _ _

theorem execRestepSetBoundary_touch : ∀ x0 s, touched (execRestepSetBoundary x0 s) s [.interrupts, .clock, .tallies, .daybook, .outputs, .flash, .parison, .gaffer, .fabric, .inaug, .time] := by
  intro x0 s
  unfold execRestepSetBoundary
  conv => zeta
  split
  split
  with_reducible refine touched_go ?_
  with_reducible refine only_step ?_ (State.elapse_touch _ _)
  with_reducible exact only_refl _ _
  with_reducible refine touched_go ?_
  with_reducible refine only_ite ?_ ?_
  with_reducible refine only_step ?_ (State.stepBy_touch _ _ _)
  with_reducible refine only_set_time _ ?_ ?_
  with_reducible refine only_step ?_ (State.elapse_touch _ _)
  with_reducible exact only_refl _ _
  exact (rfl : _ = true)
  with_reducible refine only_step ?_ (State.toTime_touch _ _)
  with_reducible refine only_step ?_ (State.stepBy_touch _ _ _)
  with_reducible refine only_set_time _ ?_ ?_
  with_reducible refine only_step ?_ (State.elapse_touch _ _)
  with_reducible exact only_refl _ _
  exact (rfl : _ = true)
  with_reducible refine touched_go ?_
  with_reducible refine only_step ?_ (State.elapse_touch _ _)
  with_reducible exact only_refl _ _

theorem execFlbOutboundTimeout_touch : ∀ x0 s, touched (execFlbOutboundTimeout x0 s) s [.mailbox, .interrupts, .tallies, .daybook, .outputs, .flash, .bridge, .seeds] := by
  intro x0 s
  unfold execFlbOutboundTimeout
  conv => zeta
  split
  with_reducible refine touched_go ?_
  with_reducible refine only_step ?_ (State.elapse_touch _ _)
  with_reducible exact only_refl _ _
  split
  with_reducible refine touched_go ?_
  with_reducible refine only_step ?_ (State.flbFail_touch _ _ _)
  with_reducible refine only_step ?_ (State.elapse_touch _ _)
  with_reducible exact only_refl _ _
  with_reducible refine touched_go ?_
  with_reducible refine only_step ?_ (State.elapse_touch _ _)
  with_reducible exact only_refl _ _

theorem execFlbLock_touch : ∀ x0 s, touched (execFlbLock x0 s) s [.interrupts, .tallies, .daybook, .outputs, .flash, .bridge] := by
  intro x0 s
  unfold execFlbLock
  conv => zeta
  split
  split
  with_reducible refine touched_go ?_
  with_reducible refine only_step ?_ (State.note_touch _ _ _)
  with_reducible refine only_step ?_ (State.count_touch _ _)
  with_reducible refine only_set_bridge _ ?_ ?_
  with_reducible refine only_step ?_ (State.elapse_touch _ _)
  with_reducible exact only_refl _ _
  exact (rfl : _ = true)
  with_reducible refine touched_go ?_
  with_reducible refine only_step ?_ (State.elapse_touch _ _)
  with_reducible exact only_refl _ _
  with_reducible refine touched_go ?_
  with_reducible refine only_step ?_ (State.elapse_touch _ _)
  with_reducible exact only_refl _ _

theorem execMbPortWrite_touch : ∀ x0 x1 s, touched (execMbPortWrite x0 x1 s) s [.mailbox, .interrupts, .clock, .tallies, .daybook, .outputs, .flash, .store] := by
  intro x0 x1 s
  unfold execMbPortWrite
  conv => zeta
  with_reducible refine touched_go ?_
  exact only_trans (only_sub (State.elapse_touch _ _) rfl) (State.submit_touch _ _ _ (fun b v => only_sub (cmdPortWrite_touch b v) rfl) rfl)

theorem execWakeValid_touch : ∀ x0 x1 s, touched (execWakeValid x0 x1 s) s [.sleep] := by
  intro x0 x1 s
  unfold execWakeValid
  conv => zeta
  with_reducible refine touched_go ?_
  with_reducible refine only_ite ?_ ?_
  with_reducible refine only_set_sleep _ ?_ ?_
  with_reducible refine only_step ?_ (State.elapse_touch _ _)
  with_reducible exact only_refl _ _
  exact (rfl : _ = true)
  with_reducible refine only_step ?_ (State.elapse_touch _ _)
  with_reducible exact only_refl _ _

theorem execMbCanWrite_touch : ∀ x0 x1 s, touched (execMbCanWrite x0 x1 s) s [.mailbox, .interrupts, .tallies, .daybook, .outputs, .flash, .can] := by
  intro x0 x1 s
  unfold execMbCanWrite
  conv => zeta
  with_reducible refine touched_go ?_
  exact only_trans (only_sub (State.elapse_touch _ _) rfl) (State.submit_touch _ _ _ (fun b v => only_sub (cmdCanWrite_touch b v) rfl) rfl)

theorem execAnnounceRx_touch : ∀ x0 x1 s, touched (execAnnounceRx x0 x1 s) s [.interrupts, .tallies, .daybook, .outputs, .flash, .time] := by
  intro x0 x1 s
  unfold execAnnounceRx
  conv => zeta
  with_reducible refine touched_go ?_
  with_reducible refine only_step ?_ (State.announceIn_touch _ _)
  with_reducible refine only_step ?_ (State.elapse_touch _ _)
  with_reducible exact only_refl _ _

theorem execEnrolGenerate_touch : ∀ x0 x1 s, touched (execEnrolGenerate x0 x1 s) s [.mailbox, .interrupts, .tallies, .daybook, .outputs, .flash, .vault] := by
  intro x0 x1 s
  unfold execEnrolGenerate
  conv => zeta
  with_reducible refine touched_go ?_
  exact only_trans (only_sub (State.elapse_touch _ _) rfl) (State.submit_touch _ _ _ (fun b v => only_sub (cmdEnrol_touch b v) rfl) rfl)

theorem execTriadMismatch_touch : ∀ x0 x1 s, touched (execTriadMismatch x0 x1 s) s [.interrupts, .clock, .tallies, .daybook, .outputs, .flash, .store, .triad, .twin, .seeds] := by
  intro x0 x1 s
  unfold execTriadMismatch
  conv => zeta
  with_reducible refine touched_go ?_
  with_reducible refine only_step ?_ (State.compare_touch _ _)
  with_reducible refine only_step ?_ (State.elapse_touch _ _)
  with_reducible exact only_refl _ _

theorem execMbMacConfig_touch : ∀ x0 x1 s, touched (execMbMacConfig x0 x1 s) s [.mailbox, .interrupts, .clock, .tallies, .daybook, .outputs, .flash, .ports, .fabric, .inaug, .time, .vault] := by
  intro x0 x1 s
  unfold execMbMacConfig
  conv => zeta
  with_reducible refine touched_go ?_
  exact only_trans (only_sub (State.elapse_touch _ _) rfl) (State.submit_touch _ _ _ (fun b v => only_sub (cmdMacConfig_touch b v) rfl) rfl)

theorem execCanArm_touch : ∀ x0 x1 s, touched (execCanArm x0 x1 s) s [.interrupts, .tallies, .daybook, .outputs, .flash, .parison, .gaffer, .store, .can, .seeds] := by
  intro x0 x1 s
  unfold execCanArm
  conv => zeta
  with_reducible refine touched_go ?_
  with_reducible refine only_step ?_ (State.act_touch (l := [.interrupts, .tallies, .daybook, .outputs, .flash, .parison, .gaffer, .store, .can, .seeds]) (hl := ?_) (hb := ?_) _ _ _ _)
  with_reducible refine only_step ?_ (State.elapse_touch _ _)
  with_reducible exact only_refl _ _
  intro _
  intro _
  with_reducible refine only_step ?_ (State.toUnit_touch (l := [.interrupts, .tallies, .daybook, .outputs, .flash, .parison, .gaffer, .store, .can, .seeds]) (hl := ?_) (hb := ?_) _ _ _)
  with_reducible exact only_refl _ _
  intro _
  with_reducible refine only_ite ?_ ?_
  with_reducible refine only_step ?_ (State.suppress_touch _)
  with_reducible exact only_refl _ _
  with_reducible refine only_step ?_ (State.armMask_touch _ _ _)
  with_reducible exact only_refl _ _
  exact (rfl : _ = true)
  exact (rfl : _ = true)

theorem execIntStatusClear_touch : ∀ x0 x1 s, touched (execIntStatusClear x0 x1 s) s [.interrupts] := by
  intro x0 x1 s
  unfold execIntStatusClear
  conv => zeta
  with_reducible refine touched_go ?_
  with_reducible refine only_ite ?_ ?_
  with_reducible refine only_step ?_ (State.clearInts_touch _ _)
  with_reducible refine only_step ?_ (State.elapse_touch _ _)
  with_reducible exact only_refl _ _
  with_reducible refine only_step ?_ (State.elapse_touch _ _)
  with_reducible exact only_refl _ _

theorem execTimeStrandResume_touch : ∀ x0 s, touched (execTimeStrandResume x0 s) s [.gaffer] := by
  intro x0 s
  unfold execTimeStrandResume
  conv => zeta
  split
  split
  with_reducible refine touched_go ?_
  with_reducible refine only_set_gaf _ ?_ ?_
  with_reducible refine only_step ?_ (State.elapse_touch _ _)
  with_reducible exact only_refl _ _
  exact (rfl : _ = true)
  with_reducible refine touched_go ?_
  with_reducible refine only_step ?_ (State.elapse_touch _ _)
  with_reducible exact only_refl _ _
  with_reducible refine touched_go ?_
  with_reducible refine only_step ?_ (State.elapse_touch _ _)
  with_reducible exact only_refl _ _

theorem execFeedGood_touch : ∀ x0 x1 s, touched (execFeedGood x0 x1 s) s [.mailbox, .interrupts, .clock, .tallies, .daybook, .outputs, .system, .flash, .feeds, .sleep, .vault] := by
  intro x0 x1 s
  unfold execFeedGood
  conv => zeta
  with_reducible refine touched_go ?_
  with_reducible refine only_ite ?_ ?_
  with_reducible refine only_step ?_ (State.elapse_touch _ _)
  with_reducible exact only_refl _ _
  with_reducible refine only_ite ?_ ?_
  with_reducible refine only_step ?_ (State.tryStart_touch _ _)
  with_reducible refine only_set_sleep _ ?_ ?_
  with_reducible refine only_step ?_ (State.setFeed_touch _ _ _)
  with_reducible refine only_step ?_ (State.elapse_touch _ _)
  with_reducible exact only_refl _ _
  exact (rfl : _ = true)
  with_reducible refine only_ite ?_ ?_
  with_reducible refine only_step ?_ (State.setFeed_touch _ _ _)
  with_reducible refine only_step ?_ (State.elapse_touch _ _)
  with_reducible exact only_refl _ _
  with_reducible refine only_step ?_ (State.elapse_touch _ _)
  with_reducible exact only_refl _ _

theorem execTick125us_touch : ∀ x0 s, touched (execTick125us x0 s) s [.outputs, .time, .twin] := by
  intro x0 s
  unfold execTick125us
  conv => zeta
  with_reducible refine touched_go ?_
  with_reducible refine only_ite ?_ ?_
  with_reducible refine only_step ?_ (State.tickTwin_touch _)
  with_reducible refine only_step ?_ (State.tickPairs_touch _ _)
  with_reducible refine only_step ?_ (State.elapse_touch _ _)
  with_reducible exact only_refl _ _
  with_reducible refine only_step ?_ (State.elapse_touch _ _)
  with_reducible exact only_refl _ _

theorem execOpenGate_touch : ∀ x0 x1 s, touched (execOpenGate x0 x1 s) s [.interrupts, .tallies, .daybook, .outputs, .flash, .parison, .gaffer, .ports, .fabric, .vault, .seeds] := by
  intro x0 x1 s
  unfold execOpenGate
  conv => zeta
  with_reducible refine touched_go ?_
  with_reducible refine only_step ?_ (State.act_touch (l := [.interrupts, .tallies, .daybook, .outputs, .flash, .parison, .gaffer, .ports, .fabric, .vault, .seeds]) (hl := ?_) (hb := ?_) _ _ _ _)
  with_reducible refine only_step ?_ (State.elapse_touch _ _)
  with_reducible exact only_refl _ _
  intro _
  intro _
  with_reducible refine only_step ?_ (State.toUnit_touch (l := [.interrupts, .tallies, .daybook, .outputs, .flash, .parison, .gaffer, .ports, .fabric, .vault, .seeds]) (hl := ?_) (hb := ?_) _ _ _)
  with_reducible exact only_refl _ _
  intro _
  with_reducible refine only_step ?_ (State.openGates_touch _ _ _)
  with_reducible exact only_refl _ _
  exact (rfl : _ = true)
  exact (rfl : _ = true)

theorem execWakePin_touch : ∀ x0 x1 x2 s, touched (execWakePin x0 x1 x2 s) s [.tallies, .can, .sleep] := by
  intro x0 x1 x2 s
  unfold execWakePin
  conv => zeta
  with_reducible refine touched_go ?_
  with_reducible refine only_ite ?_ ?_
  with_reducible refine only_step ?_ (State.wakeReq_touch _ _ _)
  with_reducible refine only_step ?_ (State.elapse_touch _ _)
  with_reducible exact only_refl _ _
  with_reducible refine only_step ?_ (State.elapse_touch _ _)
  with_reducible exact only_refl _ _

theorem execRelaySettleExpiry_touch : ∀ x0 x1 s, touched (execRelaySettleExpiry x0 x1 s) s [.interrupts, .clock, .tallies, .daybook, .outputs, .flash, .inaug] := by
  intro x0 x1 s
  unfold execRelaySettleExpiry
  conv => zeta
  split
  with_reducible refine touched_go ?_
  with_reducible refine only_step ?_ (State.elapse_touch _ _)
  with_reducible exact only_refl _ _
  split
  with_reducible refine touched_go ?_
  with_reducible refine only_step ?_ (State.elapse_touch _ _)
  with_reducible exact only_refl _ _
  with_reducible refine touched_go ?_
  with_reducible refine only_step ?_ (State.takeLine_touch _ _)
  with_reducible refine only_step ?_ (State.takeLine_touch _ _)
  split
  with_reducible refine only_set_inaug _ ?_ ?_
  with_reducible refine only_step ?_ (State.elapse_touch _ _)
  with_reducible exact only_refl _ _
  exact (rfl : _ = true)
  with_reducible refine only_set_inaug _ ?_ ?_
  with_reducible refine only_step ?_ (State.elapse_touch _ _)
  with_reducible exact only_refl _ _
  exact (rfl : _ = true)

theorem execDoutDrive_touch : ∀ x0 x1 s, touched (execDoutDrive x0 x1 s) s [.interrupts, .tallies, .daybook, .outputs, .flash, .parison, .gaffer, .sleep, .seeds] := by
  intro x0 x1 s
  unfold execDoutDrive
  conv => zeta
  with_reducible refine touched_go ?_
  with_reducible refine only_step ?_ (State.act_touch (l := [.interrupts, .tallies, .daybook, .outputs, .flash, .parison, .gaffer, .sleep, .seeds]) (hl := ?_) (hb := ?_) _ _ _ _)
  with_reducible refine only_step ?_ (State.elapse_touch _ _)
  with_reducible exact only_refl _ _
  intro _
  intro _
  with_reducible refine only_step ?_ (State.toUnit_touch (l := [.interrupts, .tallies, .daybook, .outputs, .flash, .parison, .gaffer, .sleep, .seeds]) (hl := ?_) (hb := ?_) _ _ _)
  with_reducible exact only_refl _ _
  intro _
  with_reducible refine only_step ?_ (State.doutDrive_touch _ _ _)
  with_reducible exact only_refl _ _
  exact (rfl : _ = true)
  exact (rfl : _ = true)

theorem execKeyConfirmRx_touch : ∀ x0 x1 s, touched (execKeyConfirmRx x0 x1 s) s [.outputs, .vault] := by
  intro x0 x1 s
  unfold execKeyConfirmRx
  conv => zeta
  with_reducible refine touched_go ?_
  with_reducible refine only_step ?_ (State.keyConfirm_touch _ _)
  with_reducible refine only_step ?_ (State.elapse_touch _ _)
  with_reducible exact only_refl _ _

theorem execTwinActTimeout_touch : ∀ x0 s, touched (execTwinActTimeout x0 s) s [.twin] := by
  intro x0 s
  unfold execTwinActTimeout
  conv => zeta
  with_reducible refine touched_go ?_
  with_reducible refine only_ite ?_ ?_
  with_reducible refine only_set_twin _ ?_ ?_
  with_reducible refine only_step ?_ (State.elapse_touch _ _)
  with_reducible exact only_refl _ _
  exact (rfl : _ = true)
  with_reducible refine only_step ?_ (State.elapse_touch _ _)
  with_reducible exact only_refl _ _

theorem execPlannedSwitchover_touch : ∀ x0 s, touched (execPlannedSwitchover x0 s) s [.mailbox, .interrupts, .tallies, .daybook, .outputs, .flash, .fabric, .time, .twin, .bridge] := by
  intro x0 s
  unfold execPlannedSwitchover
  conv => zeta
  with_reducible refine touched_go ?_
  with_reducible refine only_step ?_ (State.swapRoles_touch _)
  with_reducible refine only_step ?_ (State.elapse_touch _ _)
  with_reducible exact only_refl _ _

theorem execWarrantStage_touch : ∀ x0 x1 s, touched (execWarrantStage x0 x1 s) s [.mailbox, .interrupts, .tallies, .daybook, .outputs, .flash, .vault] := by
  intro x0 x1 s
  unfold execWarrantStage
  conv => zeta
  with_reducible refine touched_go ?_
  exact only_trans (only_sub (State.elapse_touch _ _) rfl) (State.submit_touch _ _ _ (fun b v => only_sub (cmdWarrant_touch b v) rfl) rfl)

theorem execFollowUpRx_touch : ∀ x0 x1 s, touched (execFollowUpRx x0 x1 s) s [.interrupts, .clock, .tallies, .daybook, .outputs, .flash, .parison, .gaffer, .fabric, .inaug, .time] := by
  intro x0 x1 s
  unfold execFollowUpRx
  conv => zeta
  with_reducible refine touched_go ?_
  with_reducible refine only_step ?_ (State.followIn_touch _ _)
  with_reducible refine only_step ?_ (State.elapse_touch _ _)
  with_reducible exact only_refl _ _

theorem execBeaconRx_touch : ∀ x0 x1 x2 s, touched (execBeaconRx x0 x1 x2 s) s [.mailbox, .interrupts, .tallies, .daybook, .outputs, .flash, .fabric, .time, .twin, .bridge] := by
  intro x0 x1 x2 s
  unfold execBeaconRx
  conv => zeta
  with_reducible refine touched_go ?_
  with_reducible refine only_ite ?_ ?_
  with_reducible refine only_step ?_ (State.doubleClaim_touch _ _ _)
  with_reducible refine only_step ?_ (State.elapse_touch _ _)
  with_reducible exact only_refl _ _
  with_reducible refine only_step ?_ (State.elapse_touch _ _)
  with_reducible exact only_refl _ _

theorem execWakeFrameErr_touch : ∀ x0 x1 s, touched (execWakeFrameErr x0 x1 s) s [.tallies, .can, .sleep] := by
  intro x0 x1 s
  unfold execWakeFrameErr
  conv => zeta
  with_reducible refine touched_go ?_
  with_reducible refine only_ite ?_ ?_
  with_reducible refine only_step ?_ (State.wakeReq_touch _ _ _)
  with_reducible refine only_step ?_ (State.elapse_touch _ _)
  with_reducible exact only_refl _ _
  with_reducible refine only_step ?_ (State.elapse_touch _ _)
  with_reducible exact only_refl _ _

theorem execFrameReceive_touch : ∀ x0 x1 s, touched (execFrameReceive x0 x1 s) s [.interrupts, .tallies, .daybook, .outputs, .flash, .ports, .fabric, .store, .vault, .seeds] := by
  intro x0 x1 s
  unfold execFrameReceive
  conv => zeta
  with_reducible refine touched_go ?_
  with_reducible refine only_step ?_ (State.rxFrame_touch _ _)
  with_reducible refine only_step ?_ (State.elapse_touch _ _)
  with_reducible exact only_refl _ _

theorem execFlbSideband_touch : ∀ x0 x1 x2 s, touched (execFlbSideband x0 x1 x2 s) s [.interrupts, .tallies, .daybook, .outputs, .flash, .bridge] := by
  intro x0 x1 x2 s
  unfold execFlbSideband
  conv => zeta
  with_reducible refine touched_go ?_
  with_reducible refine only_step ?_ (State.sideband_touch _ _ _)
  with_reducible refine only_step ?_ (State.elapse_touch _ _)
  with_reducible exact only_refl _ _

theorem execConsentVoteRx_touch : ∀ x0 s, touched (execConsentVoteRx x0 s) s [.interrupts, .tallies, .daybook, .outputs, .flash, .can, .sleep] := by
  intro x0 s
  unfold execConsentVoteRx
  conv => zeta
  with_reducible refine touched_go ?_
  with_reducible refine only_step ?_ (State.takeConsent_touch (l := [.interrupts, .tallies, .daybook, .outputs, .flash, .can, .sleep]) (hl := ?_) (hb := ?_) _ _ _)
  with_reducible refine only_step ?_ (State.elapse_touch _ _)
  with_reducible exact only_refl _ _
  intro _
  intro _
  intro _
  with_reducible refine only_step ?_ (State.voteIn_touch _ _)
  with_reducible exact only_refl _ _
  exact (rfl : _ = true)

theorem execMbPortRead_touch : ∀ x0 x1 s, touched (execMbPortRead x0 x1 s) s [.mailbox, .interrupts, .tallies, .daybook, .outputs, .flash, .store] := by
  intro x0 x1 s
  unfold execMbPortRead
  conv => zeta
  with_reducible refine touched_go ?_
  exact only_trans (only_sub (State.elapse_touch _ _) rfl) (State.submit_touch _ _ _ (fun b v => only_sub (cmdPortRead_touch b v) rfl) rfl)

theorem execTakebackTimer_touch : ∀ x0 s, touched (execTakebackTimer x0 s) s [.twin] := by
  intro x0 s
  unfold execTakebackTimer
  conv => zeta
  with_reducible refine touched_go ?_
  with_reducible refine only_ite ?_ ?_
  with_reducible refine only_set_twin _ ?_ ?_
  with_reducible refine only_step ?_ (State.elapse_touch _ _)
  with_reducible exact only_refl _ _
  exact (rfl : _ = true)
  with_reducible refine only_step ?_ (State.elapse_touch _ _)
  with_reducible exact only_refl _ _

theorem execPublishPort_touch : ∀ x0 x1 s, touched (execPublishPort x0 x1 s) s [.interrupts, .tallies, .daybook, .outputs, .flash, .parison, .gaffer, .ports, .fabric, .store, .vault, .seeds] := by
  intro x0 x1 s
  unfold execPublishPort
  conv => zeta
  with_reducible refine touched_go ?_
  with_reducible refine only_step ?_ (State.act_touch (l := [.interrupts, .tallies, .daybook, .outputs, .flash, .parison, .gaffer, .ports, .fabric, .store, .vault, .seeds]) (hl := ?_) (hb := ?_) _ _ _ _)
  with_reducible refine only_step ?_ (State.elapse_touch _ _)
  with_reducible exact only_refl _ _
  intro _
  intro _
  with_reducible refine only_step ?_ (State.publish_touch _ _)
  with_reducible exact only_refl _ _
  exact (rfl : _ = true)

theorem execTachRejoin_touch : ∀ x0 x1 s, touched (execTachRejoin x0 x1 s) s [.interrupts, .tallies, .daybook, .outputs, .flash, .pace, .gaffer] := by
  intro x0 x1 s
  unfold execTachRejoin
  conv => zeta
  with_reducible refine touched_go ?_
  with_reducible refine only_step ?_ (State.axleRejoin_touch _ _)
  with_reducible refine only_step ?_ (State.elapse_touch _ _)
  with_reducible exact only_refl _ _

theorem execKeyingRetransmitTimeout_touch : ∀ x0 x1 s, touched (execKeyingRetransmitTimeout x0 x1 s) s [.interrupts, .tallies, .daybook, .outputs, .flash, .vault] := by
  intro x0 x1 s
  unfold execKeyingRetransmitTimeout
  conv => zeta
  with_reducible refine touched_go ?_
  with_reducible refine only_step ?_ (State.keyRepeat_touch _ _)
  with_reducible refine only_step ?_ (State.elapse_touch _ _)
  with_reducible exact only_refl _ _

theorem execAnnounceTimeout_touch : ∀ x0 s, touched (execAnnounceTimeout x0 s) s [.interrupts, .tallies, .daybook, .outputs, .flash, .time] := by
  intro x0 s
  unfold execAnnounceTimeout
  conv => zeta
  with_reducible refine touched_go ?_
  with_reducible refine only_step ?_ (State.announceLost_touch _)
  with_reducible refine only_step ?_ (State.elapse_touch _ _)
  with_reducible exact only_refl _ _

theorem execTaskEnd_touch : ∀ x0 x1 s, touched (execTaskEnd x0 x1 s) s [.interrupts, .clock, .tallies, .daybook, .outputs, .flash, .store, .triad, .twin, .seeds] := by
  intro x0 x1 s
  unfold execTaskEnd
  conv => zeta
  with_reducible refine touched_go ?_
  with_reducible refine only_step ?_ (State.taskEnd_touch _ _)
  with_reducible refine only_step ?_ (State.elapse_touch _ _)
  with_reducible exact only_refl _ _

theorem execPdelayRespFollowUpRx_touch : ∀ x0 x1 s, touched (execPdelayRespFollowUpRx x0 x1 s) s [.interrupts, .tallies, .daybook, .outputs, .flash, .time] := by
  intro x0 x1 s
  unfold execPdelayRespFollowUpRx
  conv => zeta
  with_reducible refine touched_go ?_
  with_reducible refine only_step ?_ (State.respFollowIn_touch _ _)
  with_reducible refine only_step ?_ (State.elapse_touch _ _)
  with_reducible exact only_refl _ _

theorem execMbPdRing_touch : ∀ x0 x1 s, touched (execMbPdRing x0 x1 s) s [.mailbox, .interrupts, .tallies, .daybook, .outputs, .flash, .store] := by
  intro x0 x1 s
  unfold execMbPdRing
  conv => zeta
  with_reducible refine touched_go ?_
  exact only_trans (only_sub (State.elapse_touch _ _) rfl) (State.submit_touch _ _ _ (fun b v => only_sub (cmdPdRing_touch b v) rfl) rfl)

theorem execSdStuck_touch : ∀ x0 x1 s, touched (execSdStuck x0 x1 s) s [.interrupts, .tallies, .daybook, .outputs, .flash, .measure] := by
  intro x0 x1 s
  unfold execSdStuck
  conv => zeta
  split
  with_reducible refine touched_go ?_
  with_reducible refine only_step ?_ (State.elapse_touch _ _)
  with_reducible exact only_refl _ _
  split
  with_reducible refine touched_go ?_
  with_reducible refine only_step ?_ (State.elapse_touch _ _)
  with_reducible exact only_refl _ _
  with_reducible refine touched_go ?_
  with_reducible refine only_step ?_ (State.noteOnce_touch _ _ _ _)
  with_reducible refine only_step ?_ (State.count_touch _ _)
  with_reducible refine only_step ?_ (State.setChan_touch _ _ _)
  with_reducible refine only_step ?_ (State.elapse_touch _ _)
  with_reducible exact only_refl _ _

theorem execHostTxResume_touch : ∀ x0 s, touched (execHostTxResume x0 s) s [.interrupts, .tallies, .daybook, .outputs, .flash, .ports, .fabric, .store, .vault, .seeds] := by
  intro x0 s
  unfold execHostTxResume
  conv => zeta
  with_reducible refine touched_go ?_
  with_reducible refine only_foldl _ _ (fun _ _ => ?_) _ _ _ ?_
  split
  with_reducible refine only_ite ?_ ?_
  with_reducible exact only_refl _ _
  with_reducible refine only_step ?_ (State.htxTake_touch _ _ _)
  with_reducible refine only_step ?_ (State.setHtx_touch _ _ _)
  with_reducible exact only_refl _ _
  with_reducible exact only_refl _ _
  with_reducible refine only_step ?_ (State.elapse_touch _ _)
  with_reducible exact only_refl _ _

theorem execAttestSign_touch : ∀ x0 x1 s, touched (execAttestSign x0 x1 s) s [.mailbox, .interrupts, .tallies, .daybook, .outputs, .flash, .vault] := by
  intro x0 x1 s
  unfold execAttestSign
  conv => zeta
  with_reducible refine touched_go ?_
  exact only_trans (only_sub (State.elapse_touch _ _) rfl) (State.submit_touch _ _ _ (fun b v => only_sub (cmdAttest_touch b v) rfl) rfl)

theorem execLatchedWakeRelease_touch : ∀ x0 s, touched (execLatchedWakeRelease x0 s) s [.sleep] := by
  intro x0 s
  unfold execLatchedWakeRelease
  conv => zeta
  split
  with_reducible refine touched_go ?_
  with_reducible refine only_ite ?_ ?_
  with_reducible refine only_step ?_ (State.wakeUp_touch _ _)
  with_reducible refine only_step ?_ (State.elapse_touch _ _)
  with_reducible exact only_refl _ _
  with_reducible refine only_step ?_ (State.elapse_touch _ _)
  with_reducible exact only_refl _ _
  with_reducible refine touched_go ?_
  with_reducible refine only_step ?_ (State.elapse_touch _ _)
  with_reducible exact only_refl _ _

end Sys2Proof.Machine
end

