-- ==== Sys2Proof/WellFormed.lean ====
section
/-! DEFINITION. Which commands can stand on the block's pins and interfaces: the ranges of the operands
that a type leaves wider than the hardware does. -/

namespace Sys2Proof

/-- A request fits the request area: 20 bytes of header after SEQUENCE, at most 4,064 body bytes
(R511). -/
def Req.wf (r : Req) : Bool := decide (r.rsv.length ≤ 20) && decide (r.body.length ≤ 4064)

/-- A write lies in the window; to a register it has 1 to 4 bytes (R507, R508). -/
def registerOk (off : U16) (data : List Byte) : Bool :=
  !data.isEmpty && decide (off.toNat + data.length ≤ 65536) &&
    (decide (0x1C ≤ off.toNat) || decide (data.length ≤ 4))

/-- The line rates of a port in Mb/s (R89). -/
def speedOk (mbps : Nat) : Bool := mbps == 100 || mbps == 1000 || mbps == 10000

/-- The widths of a task's writes in bytes (R368). -/
def sizeOk (n : Nat) : Bool := n == 1 || n == 2 || n == 4 || n == 8

/-- Data bytes that a DLC names (ISO 11898-1). -/
def dlcBytes (fdf : Bool) (dlc : Nat) : Nat :=
  if dlc ≤ 8 then dlc
  else if !fdf then 8
  else match dlc with
    | 9 => 12 | 10 => 16 | 11 => 20 | 12 => 24 | 13 => 32 | 14 => 48 | _ => 64

/-- A frame that can stand on a CAN bus: an identifier of 11 bits unless extended, no remote CAN FD
frame, bit-rate switching and error state only in CAN FD, the data bytes its DLC names. -/
def CanFrame.wf (f : CanFrame) : Bool :=
  (f.ide || decide (f.id.toNat < 2048)) && !(f.fdf && f.rtr) && (f.fdf || (!f.brs && !f.esi)) &&
    f.data.length == (if f.rtr then 0 else dlcBytes f.fdf f.dlc.toNat)

/-- The check of a command. -/
def Instr.wf : Instr → Bool
  | .mbIdentify _ r => r.wf
  | .doorbellAck _ => true
  | .intStatusClear _ _ => true
  | .intMaskWrite _ _ => true
  | .portWindowPin _ _ => true
  | .portWindowRelease _ => true
  | .registerWrite _ off data => registerOk off data
  | .mbTallyRead _ r => r.wf
  | .mbDaybookRead _ r => r.wf
  | .mbParisonStage _ r => r.wf
  | .mbParisonCommit _ r => r.wf
  | .mbParisonActivate _ r => r.wf
  | .parisonActivateCancel _ r => r.wf
  | .mbActAt _ r => r.wf
  | .mbMacConfig _ r => r.wf
  | .mbMdio _ r => r.wf
  | .mdioFrameComplete _ _ _ _ => true
  | .mbLedgerRead _ r => r.wf
  | .mbPortRead _ r => r.wf
  | .mbPortWrite _ r => r.wf
  | .mbPdRing _ r => r.wf
  | .mbInaugConfig _ r => r.wf
  | .mbInaugStatus _ r => r.wf
  | .mbTimeConfig _ r => r.wf
  | .mbTimeStatus _ r => r.wf
  | .restepMaster _ r => r.wf
  | .restepSet _ r => r.wf
  | .mbCanWrite _ r => r.wf
  | .mbCanRead _ r => r.wf
  | .mbCanCancel _ r => r.wf
  | .mbCanRecover _ r => r.wf
  | .mbCanStatus _ r => r.wf
  | .mbWakeConfig _ r => r.wf
  | .sleepConsentStatus _ r => r.wf
  | .voteReady _ r => r.wf
  | .voteAwake _ r => r.wf
  | .mbMeasRead _ r => r.wf
  | .mbMeasWheel _ r => r.wf
  | .mbTriadStatus _ r => r.wf
  | .mbTriadRestart _ r => r.wf
  | .mbTwinConfig _ r => r.wf
  | .mbTwinStatus _ r => r.wf
  | .mbTwinDrill _ r => r.wf
  | .mbFeedStatus _ r => r.wf
  | .mbLehrConfig _ r => r.wf
  | .mbLehrReport _ r => r.wf
  | .mbBridgeConfig _ r => r.wf
  | .mbFlbRead _ r => r.wf
  | .mbFlbWrite _ r => r.wf
  | .mbDishonourRead _ r => r.wf
  | .mbPinBehaviour _ r => r.wf
  | .enrolGenerate _ r => r.wf
  | .enrolCert _ r => r.wf
  | .enrolReadCert _ r => r.wf
  | .warrantChallenge _ r => r.wf
  | .warrantStage _ r => r.wf
  | .warrantApply _ r => r.wf
  | .warrantClear _ r => r.wf
  | .attestSign _ r => r.wf
  | .attestRead _ r => r.wf
  | .mbLinkPolicy _ r => r.wf
  | .mbFwStage _ r => r.wf
  | .mbFwSwap _ r => r.wf
  | .mbSeedArm _ r => r.wf
  | .mbSeedClear _ r => r.wf
  | .nop _ _ => true
  | .openGate _ _ => true
  | .closeGate _ _ => true
  | .publishPort _ _ => true
  | .samplePort _ _ => true
  | .canArm _ _ => true
  | .sdCapture _ _ => true
  | .tachLatch _ _ => true
  | .dinSample _ _ => true
  | .doutDrive _ _ => true
  | .taskRelease _ _ => true
  | .escrowSeal _ _ => true
  | .tallySnap _ _ => true
  | .mark _ _ => true
  | .zeroCrossing _ _ => true
  | .paceHoldEnd _ => true
  | .crossingTimeout _ => true
  | .coastingLimitExpiry _ => true
  | .dcRuleExpiry _ => true
  | .tachEdge _ _ _ _ => true
  | .tachRejoin _ _ => true
  | .tachSilenceTimeout _ _ => true
  | .standstillTimeout _ => true
  | .timeStrandResume _ => true
  | .activation _ => true
  | .parisonLoadComplete _ => true
  | .coldStrandStart _ => true
  | .frameReceive _ f => f.bytes.length ≤ 16383
  | .ledgerRewriteComplete _ _ _ => true
  | .pdFrameArrival _ => true
  | .sinkTimeout _ _ => true
  | .frameTxEnd _ _ => true
  | .hrxDescriptorReread _ _ descs => !descs.isEmpty
  | .hostRxComplete _ _ => true
  | .hostTxPoll _ _ descs => !descs.isEmpty
  | .hostTxFetchComplete _ _ _ => true
  | .hostTxResume _ => true
  | .msixHoldoffExpiry _ _ => true
  | .linkUp _ _ mbps => speedOk mbps
  | .linkDown _ _ _ => true
  | .relaySettleExpiry _ _ => true
  | .helloSend _ _ => true
  | .helloRx _ _ _ periodMs _ => periodMs ≠ 0
  | .helloLoss _ _ => true
  | .topologyRx _ _ t => t.lineA.length ≤ 63 && t.lineB.length ≤ 63
  | .settleExpiry _ => true
  | .rebinding _ => true
  | .fastModeExit _ => true
  | .optrnApply _ => true
  | .syncRx _ _ => true
  | .followUpRx _ _ => true
  | .announceRx _ _ => true
  | .pdelayReqRx _ _ => true
  | .pdelayRespRx _ _ => true
  | .pdelayRespFollowUpRx _ _ => true
  | .signalingRx _ _ _ _ => true
  | .delayReqRx _ _ => true
  | .timeMessageDue _ _ _ => true
  | .timeMessageDeparture _ _ => true
  | .announceTimeout _ => true
  | .syncTimeout _ => true
  | .frozenEnd _ => true
  | .restepSetBoundary _ => true
  | .rtcWrite _ => true
  | .tick125us _ => true
  | .twinActTimeout _ => true
  | .canCommitPoint _ _ => true
  | .canArbitrationLost _ _ => true
  | .canTxComplete _ _ _ => true
  | .canFrameError _ _ _ _ _ _ => true
  | .canFrameReceive _ _ f _ => f.wf
  | .canRecoveryComplete _ _ => true
  | .canBusJoin _ _ => true
  | .acquireRead _ _ _ => true
  | .releaseWrite _ _ _ _ => true
  | .consentVoteRx _ => true
  | .consentCommitRx _ => true
  | .consentAbortRx _ => true
  | .sleepCommit _ => true
  | .stayAwakeExpiry _ => true
  | .soloFallback _ => true
  | .wakePattern _ _ => true
  | .wakeFrame _ _ f => f.wf
  | .wakeFrameErr _ _ => true
  | .wakePin _ _ _ => true
  | .wakeAlarm _ => true
  | .latchedWakeRelease _ => true
  | .tValidExpiry _ _ => true
  | .vkaLoss _ => true
  | .sdFilterOutput _ _ raw => decide (-8388608 ≤ raw) && decide (raw ≤ 8388607)
  | .sdStuck _ _ => true
  | .sdRecovery _ _ => true
  | .gridSample _ => true
  | .energySave _ => true
  | .taskEnd _ writes => writes.all fun w => sizeOk w.data.length
  | .taskDeadline _ => true
  | .triadMismatch _ _ => true
  | .resyncStart _ => true
  | .resyncSelftestFail _ => true
  | .resyncCheckFail _ => true
  | .triadResync _ => true
  | .assay _ _ => true
  | .escrowSnapshot _ => true
  | .epochReceive _ _ _ => true
  | .heartbeatRx _ _ => true
  | .boundaryJudgement _ _ => true
  | .takeoverComplete _ => true
  | .beaconSend _ => true
  | .beaconRx _ _ _ => true
  | .plannedSwitchover _ => true
  | .takebackTimer _ => true
  | .drillDwellExpiry _ => true
  | .pairWaitExpiry _ => true
  | .twinLane _ _ _ => true
  | .feedWarn _ _ _ _ => true
  | .feedWarnEnd _ _ => true
  | .feedLoss _ _ _ => true
  | .bothFeedsLost _ => true
  | .feedReturnStart _ _ => true
  | .returnAbandon _ _ => true
  | .feedReturn _ _ => true
  | .spineHandover _ _ => true
  | .gafferRetireHandover _ _ => true
  | .lehrRun _ readings => readings.all fun x => decide (x.margin ≤ 100)
  | .voltageConfirm _ _ _ _ _ => true
  | .ledgerBankSwitch _ => true
  | .scrubPass _ _ _ bitsInError => bitsInError ≠ 0
  | .memUncorr _ _ _ _ => true
  | .tellerRestartComplete _ => true
  | .flbInboundRead _ _ be _ => be != 0
  | .flbInboundWrite _ _ be _ _ => be != 0
  | .pageSwap _ => true
  | .flbFetchComplete _ _ => true
  | .flbSlotExpiry _ _ => true
  | .flbWriteDelivery _ => true
  | .flbBusGrant _ => true
  | .flbOutboundResponse _ _ _ => true
  | .flbOutboundTimeout _ => true
  | .flbLock _ => true
  | .flbSideband _ _ _ => true
  | .flbPoll _ _ _ _ => true
  | .trafficStorePresentation _ => true
  | .keyInitRx _ _ => true
  | .keyRespRx _ _ => true
  | .keyConfirmRx _ _ => true
  | .keyDoneRx _ _ => true
  | .keyNextRx _ _ => true
  | .keyNextAckRx _ _ => true
  | .keyAbortRx _ _ => true
  | .vaultOperationComplete _ _ => true
  | .keyingRetransmitTimeout _ _ => true
  | .keyingRetry _ _ => true
  | .rekeyTimer _ _ => true
  | .secTrng _ _ => true
  | .drbgReseed _ => true
  | .porstNAssert _ lowNs => lowNs ≠ 0
  | .porstNRelease _ _ _ _ _ => true
  | .sysrstNAssert _ lowNs => lowNs ≠ 0
  | .sysrstNRelease _ => true
  | .boot _ => true
  | .defaultParison _ => true
  | .fwSwap _ => true
  | .fwSwapComplete _ => true
  | .fwRevert _ => true
  | .seedEnd _ _ => true
  | .backpressureHold _ _ => true
  | .seedFeedWarnStart _ _ => true
  | .seedFeedWarnEnd _ _ => true
  | .flbLockRelease _ => true
  | .wakeValid _ _ => true
  | .feedGood _ _ => true
  | .tellerTakesFrame _ => true
  | .gafferWordRewrite _ _ => true
  | .vaultRestart _ => true
  | .triadRestartLoad _ => true
  | .portWindowReady _ => true
  | .blockLoss _ _ => true

end Sys2Proof
end

