-- ==== Sys2Proof/Tests/Slice0.lean ====
section
/-! SUPPORT. Tests. -/

namespace Sys2Proof.Tests

theorem test_reset : Machine.State.reset.pending = [] := by decide

end Sys2Proof.Tests
end

/-! SUPPORT. Chapter 1, issue: when an action is due (R12), what an issue leaves behind (R16, R19, R38,
R45), one-off actions (R43), and the return from a step of network time (R40). -/

namespace Sys2Proof.Machine

/-! ### Instants at which an offset recurs -/

/-- The next recurrence of an offset is a recurrence, at or after `t`, and less than a round later. -/
theorem nextAt_spec (t : Nat) {l o : Nat} (ho : o < l) :
    ∃ j, nextAt t l o = j * l + o ∧ t ≤ j * l + o ∧ j * l + o < t + l := by
  have hdiv := Nat.div_add_mod t l
  have hmod := Nat.mod_lt t (show 0 < l by omega)
  have hsucc : (t / l + 1) * l = t / l * l + l := Nat.succ_mul _ _
  rw [Nat.mul_comm] at hdiv
  simp only [nextAt, show l ≠ 0 by omega, if_false]
  split
  · exact ⟨t / l, rfl, by omega, by omega⟩
  · exact ⟨t / l + 1, by omega, by omega, by omega⟩

/-- Two rounds that begin less than a round apart are the same. -/
theorem round_unique {l j k : Nat} (hjk : j * l < k * l + l) (hkj : k * l < j * l + l) : j = k := by
  rw [← Nat.succ_mul] at hjk hkj
  have hle := Nat.lt_of_mul_lt_mul_right hjk
  have hge := Nat.lt_of_mul_lt_mul_right hkj
  omega

/-- An offset is due in the round in which it lies within 2 ns of `t`; in rounds longer than that
window there is one such round at most (R12). -/
theorem dueRound_eq_some_iff {t l o k : Nat} (ho : o < l) (hl : 4 < l) :
    dueRound t l o = some (k + 1) ↔ t ≤ k * l + o + 2 ∧ k * l + o ≤ t + 2 := by
  obtain ⟨j, hj, hge, hlt⟩ := nextAt_spec (t - 2) ho
  have hround : (j * l + o) / l = j := by
    rw [Nat.mul_comm, Nat.mul_add_div (by omega), Nat.div_eq_of_lt ho, Nat.add_zero]
  simp only [dueRound, show l ≠ 0 by omega, if_false, hj, hround]
  constructor
  · intro h
    split at h
    · obtain rfl : j = k := by simpa using h
      omega
    · cases h
  · intro ⟨hlo, hhi⟩
    obtain rfl : j = k := round_unique (l := l) (by omega) (by omega)
    rw [if_pos (by omega)]

/-! ### Waiting actions, seeds and memory errors -/

theorem waitingFor_of_nil {s : State} (r : ActRef) (h : s.gaf.waiting = []) :
    s.waitingFor r = none := by simp [State.waitingFor, h]

/-- The action that has waited longest is the first of its gaffer, whatever it waits for. -/
theorem waitingFor_front {s : State} {w : Waiting} {ws : List Waiting}
    (h : s.gaf.waiting = w :: ws) : s.waitingFor w.ref = some w := by
  by_cases hk : w.kind = .rewritten <;> simp [State.waitingFor, h, hk]

@[simp] theorem dropWaiting_front (w : Waiting) (ws : List Waiting) :
    dropWaiting w.ref (w :: ws) = ws := by simp [dropWaiting]

theorem inject_of_unarmed {s : State} (h : s.seeds.armed = []) (k : Nat) (pred : List Byte → Bool) :
    s.inject k pred = ([], s) := by
  simp only [State.inject, State.injectCan, h, List.foldl_nil, Prod.mk.injEq, true_and]
  rw [← h]

theorem delaySeed_of_unarmed {s : State} (h : s.seeds.armed = []) (g st : Nat) (a : Act) :
    s.delaySeed g st a = (none, s) := by simp [State.delaySeed, inject_of_unarmed h]

theorem gafBroken_of_nil {s : State} (h : s.lehr.gafBad = []) (g : Nat) (r : ActRef) :
    s.gafBroken g r = false := by simp [State.gafBroken, h, Tab.get]

/-! ### What an issue keeps in mind -/

/-- A place is taken as issued in the round of its issue, whatever else the issue notes. -/
@[simp] theorem markIssued_useTime_issued (s : State) (r : ActRef) (k tgt : Nat) :
    Tab.get 0 ((s.markIssued r k).useTime tgt).gaf.issued r.key = k := Tab.get_set_self ..

@[simp] theorem markIssued_usePace_issued (s : State) (r : ActRef) (k g tgt : Nat) :
    Tab.get 0 ((s.markIssued r k).usePace g tgt).gaf.issued r.key = k := Tab.get_set_self ..

theorem markIssued_useTime_only (s : State) (r : ActRef) (k tgt : Nat) :
    ((s.markIssued r k).useTime tgt).onlyChanges s [.gaffer] :=
  only_trans (State.markIssued_touch ..) (State.useTime_touch ..)

theorem markIssued_usePace_only (s : State) (r : ActRef) (k g tgt : Nat) :
    ((s.markIssued r k).usePace g tgt).onlyChanges s [.gaffer] :=
  only_trans (State.markIssued_touch ..) (State.usePace_touch ..)

/-- With no seed armed a due action of the time strand goes out at once, with mark 0. -/
theorem issueDue_time {s : State} (h : s.seeds.armed = []) (l ix k : Nat) (a : Act) :
    let r : ActRef := { st := 0, l := l, ix := ix }
    s.issueDue r a k = (some { act := a, mark := 0, gaf := s.gafOf 0 l, ix := some r },
      (s.markIssued r k).useTime a.tgt) := by
  have hm : (s.markIssued { st := 0, l := l, ix := ix } k).seeds.armed = [] := h
  simp [State.issueDue, delaySeed_of_unarmed hm]

/-- With no seed armed a due action of the pace strand goes out at once, with the strand's mark. -/
theorem issueDue_pace {s : State} (h : s.seeds.armed = []) (l ix k : Nat) (a : Act) :
    let r : ActRef := { st := 1, l := l, ix := ix }
    s.issueDue r a k = (some { act := a, mark := s.stateMark, gaf := s.gafOf 1 l, ix := some r },
      (s.markIssued r k).usePace (s.gafOf 1 l) a.tgt) := by
  have hm : (s.markIssued { st := 1, l := l, ix := ix } k).seeds.armed = [] := h
  simp only [State.issueDue, delaySeed_of_unarmed hm]
  rfl

/-! ### A due pace action: issued, or waiting (R16, R19) -/

theorem issuePace_free {s : State} {l ix k : Nat} {a : Act} (hw : s.gaf.waiting = [])
    (hnear : s.timeNear a.tgt = false) (hslot : s.slotFree (s.gafOf 1 l) = true) :
    let r : ActRef := { st := 1, l := l, ix := ix }
    s.issuePace r a k = s.issueDue r a k := by
  simp [State.issuePace, hw, hnear, hslot]

/-- Near an action of the time strand a due pace action begins to wait. -/
theorem issuePace_near {s : State} {r : ActRef} {k : Nat} {a : Act} (hw : s.gaf.waiting = [])
    (hnear : s.timeNear a.tgt = true) :
    ∃ u, s.issuePace r a k = (none, u) ∧
      u.gaf.waiting = [{ ref := r, kind := .deferred, since := s.now }] ∧
      u.onlyChanges s [.gaffer] := by
  simp only [State.issuePace, hw, hnear, List.filter_nil, List.any_nil, Bool.or_self,
    Bool.false_eq_true, if_false, List.isEmpty_nil, Bool.not_true, if_true, List.nil_append]
  exact ⟨_, rfl, rfl, only_set_gaf _ (State.markIssued_touch ..) rfl⟩

/-- A waiting pace action for no unit in particular, a clock and more after it began to wait and with
a slot free: it goes out and leaves the queue, catch-up with mark 4 and a deferred one with mark 8. -/
theorem issueWaiting_free {s : State} {w : Waiting} {ws : List Waiting} {a : Act}
    (hq : s.gaf.waiting = w :: ws) (hst : w.ref.st = 1) (hsince : w.since + 2 ≤ s.now)
    (htgt : a.tgt = 0xFF) (hslot : s.slotFree (s.gafOf 1 w.ref.l) = true) :
    ∃ u, s.issueWaiting w.ref a w = (some
        { act := a, gaf := s.gafOf 1 w.ref.l, ix := some w.ref
          mark := match w.kind with
            | .caughtUp => s.stateMark + 4
            | .deferred => s.stateMark + 8
            | _ => s.stateMark }, u) ∧
      u.gaf.waiting = ws ∧ u.onlyChanges s [.gaffer, .tallies] := by
  have hready : ¬ s.now < w.since + 2 := by omega
  have hleft : (({ s with gaf := { s.gaf with waiting := ws } }).usePace (s.gafOf 1 w.ref.l)
      0xFF).onlyChanges s [.gaffer, .tallies] :=
    only_step (only_set_gaf _ (only_refl s _) rfl) (State.usePace_touch ..)
  simp only [State.issueWaiting, hst, htgt, hslot, hq, hready, dropWaiting_front, ne_eq,
    not_true_eq_false, decide_false, Bool.false_and, Bool.false_eq_true, if_false, if_true,
    decide_true, Bool.not_true, Bool.and_false]
  cases w.kind
  case caughtUp => exact ⟨_, rfl, rfl, only_step hleft (State.count_touch ..)⟩
  case deferred => exact ⟨_, rfl, rfl, only_step hleft (State.count_touch ..)⟩
  case edge => exact ⟨_, rfl, rfl, hleft⟩
  case rewritten => exact ⟨_, rfl, rfl, hleft⟩

/-! ### Issue of an entry -/

/-- The round (plus 1) in which an entry is due now, by the rule of its strand: on the time strand none
while issue is paused or not begun, and none of a relaxed window. -/
def State.entryDue (s : State) (p : Par) (st : Nat) (a : Act) : Option Nat :=
  if st = 0 then
    (if s.gaf.paused.isSome || s.net + 2 < s.gaf.startNet then none
     else if s.relaxed && a.window && (a.op = 1 || a.op = 2) then none
     else dueRound s.net p.round (p.eff s.boundP a))
  else s.paceDue a.off

theorem entryDue_pace (s : State) (p : Par) (a : Act) : s.entryDue p 1 a = s.paceDue a.off :=
  if_neg (by decide)

theorem entryDue_time {s : State} {a : Act} (p : Par) (hpaused : s.gaf.paused = none)
    (hstart : s.gaf.startNet ≤ s.net + 2)
    (hwindow : (s.relaxed && a.window && (a.op = 1 || a.op = 2)) = false) :
    s.entryDue p 0 a = dueRound s.net p.round (p.eff s.boundP a) := by
  have hstarted : ¬ s.net + 2 < s.gaf.startNet := by omega
  simp [State.entryDue, hpaused, hstarted, hwindow]

/-- On the time strand an entry is due in no other round than that of its offset. -/
theorem dueRound_of_entryDue {s : State} {p : Par} {a : Act} {k : Nat}
    (h : s.entryDue p 0 a = some k) : dueRound s.net p.round (p.eff s.boundP a) = some k := by
  simp only [State.entryDue, if_true] at h
  split at h
  · cases h
  · split at h
    · cases h
    · exact h

theorem entry_of_acts {s : State} {p : Par} {a : Act} {st l ix : Nat} (hp : s.par.force = some p)
    (ha : (p.acts st l)[ix]? = some a) : s.entry { st := st, l := l, ix := ix } = some a := by
  simpa [State.entry, hp] using ha

section
variable {s : State} {p : Par} {a : Act} {r : ActRef} (hp : s.par.force = some p)
  (ha : s.entry r = some a)

include hp ha

/-- Nothing is issued out of its round, nor twice in one. -/
theorem issueEntry_none (op : Nat) (hw : s.gaf.waiting = [])
    (hdone : ∀ k, s.entryDue p r.st a = some k → Tab.get 0 s.gaf.issued r.key = k) :
    s.issueEntry op r = (none, s) := by
  simp only [State.issueEntry, ha, hp, waitingFor_of_nil _ hw]
  rw [← State.entryDue]
  split
  · rfl
  · split
    · rfl
    · next k hk => rw [if_pos (hdone k hk)]

variable (hactive : s.gaf.active = true) (hlive : s.listLive r.st r.l = true)

include hactive hlive

theorem issueEntry_due {k : Nat} (hw : s.gaf.waiting = []) (hbad : s.lehr.gafBad = [])
    (hdue : s.entryDue p r.st a = some k) (hnew : Tab.get 0 s.gaf.issued r.key ≠ k) :
    s.issueEntry a.op r = if r.st = 0 then s.issueDue r a k else s.issuePace r a k := by
  simp only [State.issueEntry, ha, hp, hactive, hlive, waitingFor_of_nil _ hw]
  rw [← State.entryDue, hdue]
  simp [hnew, gafBroken_of_nil hbad]

theorem issueEntry_waiting {w : Waiting} (hw : s.waitingFor r = some w) :
    s.issueEntry a.op r = s.issueWaiting r a w := by
  simp [State.issueEntry, ha, hp, hactive, hlive, hw]

end

/-! ### One-off actions (R43) -/

/-- Nothing is issued before the first pending instant. -/
theorem issueOneOff_none {s : State} (op : Nat)
    (h : s.par.oneOffs = [] ∨ ∀ o ∈ s.par.oneOffs, s.net + 2 < o.net) :
    s.issueOneOff op = (none, s) := by
  unfold State.issueOneOff
  split
  · rfl
  · next o l hleft =>
    have ho : o ∈ s.par.oneOffs := (List.mem_filter.1 (hleft ▸ List.mem_cons_self)).1
    have hlate : s.net + 2 < o.net := by
      rcases h with h | h
      · simp [h] at ho
      · exact h o ho
    simp [hlate]

/-- At the instant of the first pending action, and none behind it having passed, that action goes. -/
theorem issueOneOff_due {s : State} {o : OneOff} {l : List OneOff} (hl : s.par.oneOffs = o :: l)
    (hnotPast : s.net ≤ o.net + 2) (hnow : o.net ≤ s.net + 2) (hactive : s.gaf.active = true)
    (hpaused : s.gaf.paused = none) (hlive : s.live (s.oneOffGaf o.act) = true)
    (hrest : ∀ x ∈ l, s.net ≤ x.net + 2) :
    s.issueOneOff o.act.op =
      (some { act := o.act, mark := 0, gaf := s.oneOffGaf o.act, ix := none },
        { s with par := { s.par with oneOffs := l } }.useTime o.act.tgt) := by
  have hleft : s.oneOffsLeft = o :: l := by
    rw [State.oneOffsLeft, hl]
    exact List.filter_eq_self.2 (by simpa [hnotPast] using hrest)
  have hnow' : ¬ s.net + 2 < o.net := by omega
  simp [State.issueOneOff, hleft, hnow', hactive, hpaused, hlive]

/-! ### Commands that let time pass alone -/

/-- An event whose condition does not hold lets its time pass and changes nothing. -/
theorem go_elapse_only (s : State) (dt : Nat) :
    ∃ t, go (s.elapse dt) = .next t ∧ t.onlyChanges s [] :=
  ⟨_, rfl, only_pins (only_elapse s dt [])⟩

/-! ### The obligations -/

/-- Settles O11: the due round by the recurrences of an offset; the rest by what one issue leaves. -/
theorem timeActionsIssueWhenDue : Obligations.TimeActionsIssueWhenDue := by
  refine ⟨fun t l o k ho hl => dueRound_eq_some_iff ho hl, ?_, ?_⟩
  · intro s l ix k a p r hp hacts hactive hlive hw hpaused hstart hwindow hbad hseeds hdue hnew
    have ha : s.entry r = some a := entry_of_acts hp hacts
    have hissue := issueEntry_due hp ha hactive hlive hw hbad
      ((entryDue_time p hpaused hstart hwindow).trans hdue) hnew
    have honce : ((s.markIssued r k).useTime a.tgt).issueEntry a.op r = (none, _) :=
      issueEntry_none (s := (s.markIssued r k).useTime a.tgt) hp ha a.op hw fun j hj =>
        (markIssued_useTime_issued s r k a.tgt).trans
          (Option.some.inj (hdue.symm.trans (dueRound_of_entryDue hj)))
    exact ⟨_, hissue.trans (issueDue_time hseeds ..), markIssued_useTime_issued ..,
      markIssued_useTime_only .., congrArg Prod.fst honce⟩
  · intro s op l ix a p hp hacts hw hdue
    exact issueEntry_none hp (entry_of_acts hp hacts) op hw fun j hj =>
      absurd (hdue.symm.trans (dueRound_of_entryDue hj)) (by simp)

/-- Settles O12: a due pace action by what stands near it, a waiting one as the front of the queue. -/
theorem paceActionsIssueWhenReached : Obligations.PaceActionsIssueWhenReached := by
  refine ⟨?_, ?_⟩
  · intro s l ix k a p r hp hacts hactive hlive hw hbad hseeds hdue hnew
    have hissue : s.issueEntry a.op r = s.issuePace r a k :=
      issueEntry_due hp (entry_of_acts hp hacts) hactive hlive hw hbad
        ((entryDue_pace s p a).trans hdue) hnew
    refine ⟨fun hnear hslot => ?_, fun hnear => ?_⟩
    · exact ⟨_, (hissue.trans (issuePace_free hw hnear hslot)).trans (issueDue_pace hseeds ..),
        markIssued_usePace_issued .., markIssued_usePace_only ..⟩
    · obtain ⟨u, hu, hwaits⟩ := issuePace_near (r := r) (k := k) hw hnear
      exact ⟨u, hissue.trans hu, hwaits⟩
  · intro s l ix a p w ws r hp hacts hactive hlive hq href hsince htgt hslot
    have hfront : s.waitingFor r = some w := by rw [← href]; exact waitingFor_front hq
    have hissue := issueEntry_waiting hp (entry_of_acts hp hacts) hactive hlive hfront
    obtain ⟨u, hu, hleaves⟩ :=
      issueWaiting_free hq (by rw [href]) hsince htgt (by rw [href]; exact hslot)
    rw [href] at hu
    exact ⟨u, (hissue.trans hu).trans (by cases w.kind <;> rfl), hleaves⟩

/-- Settles O13: the pending actions not yet past, by whether the first of them has come. -/
theorem oneOffActionsIssueAtTheirInstant : Obligations.OneOffActionsIssueAtTheirInstant := by
  refine ⟨?_, fun s op h => issueOneOff_none op h⟩
  intro s o l hl hnotPast hnow hactive hpaused hlive hrest
  exact ⟨_, issueOneOff_due hl hnotPast hnow hactive hpaused hlive hrest, rfl,
    only_step (only_set_par _ (only_refl s _) rfl) (State.useTime_touch ..)⟩

/-- Settles O18: the command's own test of the boundary, either way. -/
theorem timeStrandResumesAtItsBoundary : Obligations.TimeStrandResumesAtItsBoundary := by
  refine ⟨?_, ?_⟩
  · intro s dt b hpaused hdue
    have hrun : exec (.timeStrandResume dt) s =
        go { s.elapse dt with gaf := { s.gaf with paused := none, startNet := b } } := by
      simp [exec, execTimeStrandResume, hpaused, hdue]
    exact ⟨_, hrun, by simp, only_pins (only_set_gaf _ (only_elapse s dt _) rfl)⟩
  · intro s dt hearly
    have hrun : exec (.timeStrandResume dt) s = go (s.elapse dt) := by
      simp only [exec, execTimeStrandResume, State.elapse_gaf]
      split
      · next b hb => rw [if_neg (by have := hearly b hb; omega)]
      · rfl
    rw [hrun]
    exact go_elapse_only s dt

end Sys2Proof.Machine

/-! SUPPORT. Chapter 1, the AXLE strand (R28 to R33): what an edge, silence, standstill and the return
of a single input do to the strand. -/

namespace Sys2Proof.Machine

/-! ### One input -/

/-- An input after a legal edge at `t`, an interval like the last. -/
def AxleIn.steadyEdge (a : AxleIn) (t : Nat) : AxleIn :=
  { a with edgeAt := some t, prevInt := a.interval, cnt := a.cnt + 1 }

/-- An input that follows the pace again. -/
def AxleIn.rejoined (a : AxleIn) : AxleIn := { a with excluded := false, agreeAt := none, off5 := 0 }

theorem find_single {a : AxleIn} {n : Nat} {l : List AxleIn} (hl : l = [a]) (hn : a.inp = n) :
    l.find? (·.inp = n) = some a := by simp [hl, hn]

theorem setAxle_single {s : State} {a b : AxleIn} (hl : s.pace.axle = [a]) (hb : a.inp = b.inp) :
    (s.setAxle b).pace = { s.pace with axle := [b] } := by
  simp [State.setAxle, hl, hb]

@[simp] theorem setAxle_clk (s : State) (b : AxleIn) : (s.setAxle b).clk = s.clk := rfl
@[simp] theorem setAxle_seeds (s : State) (b : AxleIn) : (s.setAxle b).seeds = s.seeds := rfl

theorem rate_turning {a : AxleIn} (h : a.interval ≠ 0) (u : Nat) :
    a.rate u = u * 2 ^ 16 / a.interval := if_neg h

/-- An input that turned as fast as before gives no reason to exclude it (R31). -/
theorem edgeFault_steady (c : List Byte) (a : AxleIn) : edgeFault c a a.interval true = none := by
  simp [edgeFault]

/-- An edge that breaks the sequence always does. -/
theorem edgeFault_illegal (c : List Byte) (a : AxleIn) (iv : Nat) :
    edgeFault c a iv false = some (if fld c 26 1 = 0 then 0 else 1) := by simp [edgeFault]

theorem edgeTo_of_none {s : State} {b : Nat} (h : s.spanActs s.paceAt b = []) : s.edgeTo b = s := by
  simp [State.edgeTo, h]

theorem count_self (s : State) (k : Nat) :
    Tab.get 0 (s.count k).tly.live k = min tlyMax (Tab.get 0 s.tly.live k + 1) :=
  Tab.get_upd_self 0 s.tly.live k fun v => min tlyMax (v + 1)

/-! ### The new reference -/

@[simp] theorem rebase_pos (s : State) (r : Nat) (c : Option Nat) :
    (s.rebase r c).pace.pos = s.paceAt := rfl
@[simp] theorem rebase_cap (s : State) (r : Nat) (c : Option Nat) : (s.rebase r c).pace.cap = c := rfl
@[simp] theorem rebase_state (s : State) (r : Nat) (c : Option Nat) :
    (s.rebase r c).pace.state = s.pace.state := rfl
@[simp] theorem rebase_axle (s : State) (r : Nat) (c : Option Nat) :
    (s.rebase r c).pace.axle = s.pace.axle := rfl

/-- The position of an AXLE strand does not depend on its state, its standstill or its inputs. -/
theorem paceAt_of_inputs {s t : State} {st : PaceState} {still : Bool} {l : List AxleIn}
    (hkind : s.pace.kind = 2) (hclk : t.clk = s.clk) (hseeds : t.seeds = s.seeds)
    (hpace : t.pace = { s.pace with state := st, still := still, axle := l }) :
    t.paceAt = s.paceAt := by
  have hfree : s.pace.freeRunning = true := by simp [PaceSt.freeRunning, hkind]
  have hfree' : t.pace.freeRunning = true := by simp [PaceSt.freeRunning, hpace, hkind]
  have hrun : t.run = s.run := by simp only [State.run, hclk]
  have hppm : t.ppm = s.ppm := by simp only [State.ppm, hseeds]
  simp only [State.paceAt, hfree, hfree', hrun, hppm]
  rw [hpace]
  rfl

/-! ### The strand begins to coast -/

@[simp] theorem coast_state (s : State) (cause rate : Nat) :
    (s.coast cause rate).pace.state = .coasting := by simp [State.coast]

@[simp] theorem coast_axle (s : State) (cause rate : Nat) :
    (s.coast cause rate).pace.axle = s.pace.axle.map fun a => { a with cnt := 0 } := by
  simp [State.coast]

theorem coast_tally (s : State) (cause rate : Nat) {k : Nat} (h0 : k ≠ tlStrand 0) (h5 : k ≠ tlFeed 5)
    (h6 : k ≠ tlFeed 6) :
    Tab.get 0 (s.coast cause rate).tly.live k = Tab.get 0 s.tly.live k := by
  simp only [State.coast]
  rw [note_tally _ _ _ _ h5 h6, State.count, count_tally _ _ _ _ h0]
  rfl

/-- The strand coasts with every input excluded, one exclusion more counted than in `s` (R33). -/
def State.coastsAfter (t s : State) : Prop :=
  t.pace.state = .coasting ∧ (∀ x ∈ t.pace.axle, x.excluded = true) ∧
    Tab.get 0 t.tly.live (tlStrand 5) = min tlyMax (Tab.get 0 s.tly.live (tlStrand 5) + 1)

theorem coastsAfter_pins {s t : State} (h : t.coastsAfter s) : t.pins.coastsAfter s := by
  rwa [State.coastsAfter, State.pins_pace, State.pins_tly]

/-- A tally of another unit does not count as an exclusion. -/
theorem coastsAfter_of_count {s t : State} {k : Nat} (hk : tlStrand 5 ≠ k)
    (h : t.coastsAfter (s.count k)) : t.coastsAfter s := by
  rwa [State.coastsAfter, State.count, count_tally _ _ _ _ hk] at h

/-- The exclusion of a LOCKED strand's only input counts, and the strand coasts (R33). -/
theorem axleExclude_last {s : State} {a b : AxleIn} (reason cause : Nat) (hl : s.pace.axle = [a])
    (hb : a.inp = b.inp) (hlocked : s.pace.state = .locked) :
    (s.axleExclude b reason cause).coastsAfter s := by
  have hset := setAxle_single (b := { b with excluded := true, agreeAt := none, off5 := 0 }) hl hb
  simp only [State.axleExclude, hset, State.note_pace, State.count_pace, List.all_cons, List.all_nil,
    Bool.and_true, if_true, hlocked, beq_self_eq_true]
  refine ⟨coast_state .., by simp, ?_⟩
  rw [coast_tally _ _ _ (by decide) (by decide) (by decide)]
  exact (note_tally _ _ _ _ (by decide) (by decide)).trans (count_self ..)

/-! ### Edges -/

/-- What an edge does beyond the strand stays in the measurement of its input (R341 to R343). -/
theorem tachEdge_legal {s : State} {n : Nat} {x : Tach} (fwd : Bool) (hx : s.tach n = some x)
    (hunit : s.absentUnit (0x30 + n) = false) :
    ∃ m, s.tachEdge n fwd true = ({ s with meas := m } : State).axleEdge n true := by
  simp only [State.tachEdge, hx, hunit, Bool.false_eq_true, if_false, Bool.not_true]
  exact ⟨_, rfl⟩

theorem tachEdge_illegal {s : State} {n : Nat} {x : Tach} (fwd : Bool) (hx : s.tach n = some x)
    (hunit : s.absentUnit (0x30 + n) = false) :
    ∃ m, s.tachEdge n fwd false =
      (({ s with meas := m } : State).count (tlMeas (24 + n))).axleEdge n false := by
  simp only [State.tachEdge, hx, hunit, Bool.false_eq_true, if_false, Bool.not_false, if_true]
  exact ⟨_, rfl⟩

/-- An edge of a LOCKED strand's only input, nothing being skipped: the strand is on the edge's
position, or beyond it if it has already passed, at the rate of the interval (R29, R30). -/
theorem axleStep_single {s : State} {a : AxleIn} {g : Nat} (hlocked : s.pace.state = .locked)
    (hl : s.pace.axle = [a]) (hcap : s.pace.cap = some g) (hskip : s.spanActs s.paceAt g = []) :
    let u := edgeUnits s.paceBlock
    let t := s.rebase (a.rate u) (some (g + u))
    s.axleStep a = { t with pace := { t.pace with pos := max g s.paceAt, still := false } } := by
  simp [State.axleStep, hlocked, hl, hcap, edgeTo_of_none hskip]

section
variable {s : State} {a : AxleIn} {n e : Nat} (hkind : s.pace.kind = 2)
  (hstarted : s.pace.started = true) (hlive : s.live (inputDomain n) = true)
  (hl : s.pace.axle = [a]) (hn : a.inp = n) (hin : a.excluded = false) (he : a.edgeAt = some e)

include hkind hstarted hlive hl hn hin he

/-- A legal edge of an input in use, an interval like the last: it is the strand's next edge. -/
theorem axleEdge_steady (hint : a.interval = s.run - e) :
    s.axleEdge n true = (s.setAxle (a.steadyEdge s.run)).axleStep (a.steadyEdge s.run) := by
  have hfind := find_single hl hn
  simp [AxleIn.steadyEdge, State.axleEdge, hkind, hstarted, hlive, hfind, hin, he, ← hint,
    edgeFault_steady]

/-- An illegal edge excludes its input; all else of it is the input's own record. -/
theorem axleEdge_illegal :
    ∃ b reason, b.inp = a.inp ∧ s.axleEdge n false = (s.setAxle b).axleExclude b reason 2 := by
  have hfind := find_single hl hn
  refine ⟨{ a with edgeAt := some s.run, prevInt := a.interval, interval := s.run - e },
    if fld s.paceBlock 26 1 = 0 then 0 else 1, rfl, ?_⟩
  simp [State.axleEdge, hkind, hstarted, hlive, hfind, hin, he, edgeFault_illegal]

variable (hlocked : s.pace.state = .locked)

include hlocked

theorem axleEdge_steady_single {g : Nat} (hint : a.interval = s.run - e) (hafter : e < s.run)
    (hcap : s.pace.cap = some g) (hskip : s.spanActs s.paceAt g = []) :
    let x := (s.axleEdge n true).pace
    x.pos = max g s.paceAt ∧ x.cap = some (g + edgeUnits s.paceBlock) ∧
      x.rate = edgeUnits s.paceBlock * 2 ^ 16 / (s.run - e) ∧ x.still = false ∧
      x.axle = [a.steadyEdge s.run] := by
  have hset : (s.setAxle (a.steadyEdge s.run)).pace.axle = [a.steadyEdge s.run] :=
    congrArg PaceSt.axle (setAxle_single (b := a.steadyEdge s.run) hl rfl)
  have hturns : (a.steadyEdge s.run).interval ≠ 0 := by simp only [AxleIn.steadyEdge]; omega
  rw [axleEdge_steady hkind hstarted hlive hl hn hin he hint,
    axleStep_single (s := s.setAxle (a.steadyEdge s.run)) hlocked hset hcap hskip,
    rate_turning hturns, ← hint]
  exact ⟨rfl, rfl, rfl, rfl, hset⟩

theorem axleEdge_illegal_last : (s.axleEdge n false).coastsAfter s := by
  obtain ⟨b, reason, hb, hedge⟩ := axleEdge_illegal hkind hstarted hlive hl hn hin he
  rw [hedge]
  exact axleExclude_last (s := s.setAxle b) reason 2
    (congrArg PaceSt.axle (setAxle_single hl hb.symm)) rfl hlocked

end

/-! ### Rejoining (R31, R33) -/

/-- Before it has agreed for 1 s an input stays excluded. -/
theorem axleRejoin_early {s : State} {a : AxleIn} {n t : Nat}
    (hfind : s.pace.axle.find? (·.inp = n) = some a) (hagree : a.agreeAt = some t)
    (hearly : s.run < t + 1000000000) : s.axleRejoin n = s := by
  simp [State.axleRejoin, hfind, hagree, hearly]

/-- After SUBSTITUTED a strand's only input locks it again where it stands, its next edge to come. -/
theorem axleRejoin_substituted {s : State} {a : AxleIn} {n t : Nat} (hkind : s.pace.kind = 2)
    (hl : s.pace.axle = [a]) (hn : a.inp = n) (hout : a.excluded = true) (hagree : a.agreeAt = some t)
    (hlong : t + 1000000000 ≤ s.run) (hlive : s.live (inputDomain n) = true)
    (hsub : s.pace.state = .substituted) :
    let x := (s.axleRejoin n).pace
    x.state = .locked ∧ x.pos = s.paceAt ∧
      x.axle = [a.rejoined] ∧
      x.cap = some (s.paceAt + edgeUnits s.paceBlock) := by
  have hfind := find_single hl hn
  have hset : (s.setAxle { a with excluded := false, agreeAt := none, off5 := 0 }).pace =
    { s.pace with axle := [a.rejoined] } := setAxle_single hl rfl
  have hlate : ¬ s.run < t + 1000000000 := by omega
  simp only [State.axleRejoin, hfind, hagree, hkind, hout, hlate, hlive, hsub, hset, State.note_pace,
    ne_eq, not_true_eq_false, decide_false, Bool.not_true, Bool.or_self, Bool.false_eq_true, if_false,
    List.length_singleton, if_true, beq_self_eq_true, reduceCtorEq, beq_iff_eq, rebase_state,
    rebase_pos, rebase_axle, rebase_cap, true_and]
  refine ⟨paceAt_of_inputs (st := .locked) (still := false) (l := [a.rejoined]) hkind (by simp)
    (by simp) (by simp [hkind]), ?_⟩
  rw [paceAt_of_inputs (st := .substituted) (still := s.pace.still) (l := [a.rejoined]) hkind (by simp)
    (by simp) (by simp [hset, hkind, hsub])]

/-! ### The commands (R29 to R33) -/

/-- Four intervals of silence after a rate of 1 rev/s or more exclude the input (R32). -/
theorem execTachSilenceTimeout_excludes {s : State} {a : AxleIn} {e : Nat} {n : Fin 8} (dt : Nat)
    (hkind : s.pace.kind = 2) (hstarted : s.pace.started = true)
    (hfind : s.pace.axle.find? (·.inp = n.val) = some a) (hin : a.excluded = false)
    (he : a.edgeAt = some e) (hturns : a.interval ≠ 0)
    (hfast : a.interval * edgesPerRev s.paceBlock ≤ 1000000000)
    (hsilent : e + 4 * a.interval ≤ (s.elapse dt).run) :
    exec (.tachSilenceTimeout dt n) s = go ((s.elapse dt).axleExclude a 4 2) := by
  have hblock : (s.elapse dt).paceBlock = s.paceBlock := rfl
  simp [exec, execTachSilenceTimeout, hfind, he, hkind, hstarted, hin, hturns, hblock, hfast, hsilent]

/-- Silence of a LOCKED strand's only input after a rate below 1 rev/s: the strand stands (R32). -/
theorem execStandstillTimeout_stops {s : State} {a : AxleIn} {e : Nat} (dt : Nat)
    (hkind : s.pace.kind = 2) (hstarted : s.pace.started = true) (hlocked : s.pace.state = .locked)
    (hmoves : s.pace.still = false) (hl : s.pace.axle = [a]) (hin : a.excluded = false)
    (he : a.edgeAt = some e) (hslow : 1000000000 < a.interval * edgesPerRev s.paceBlock)
    (hsilent : e + fld s.paceBlock 18 2 * 1000000 ≤ (s.elapse dt).run) :
    exec (.standstillTimeout dt) s =
      go { (s.elapse dt).rebase 0 s.pace.cap with
        pace := { ((s.elapse dt).rebase 0 s.pace.cap).pace with still := true } } := by
  have hblock : (s.elapse dt).paceBlock = s.paceBlock := rfl
  simp [exec, execStandstillTimeout, hkind, hstarted, hlocked, hmoves, hl, hin, he, hblock, hslow,
    hsilent]

/-- Settles O21: an edge as the measurement passes it to the strand, and the strand's own step for
each event; the tally of exclusions is none of those the measurement counts. -/
theorem axleStrandFollowsItsInputs : Obligations.AxleStrandFollowsItsInputs := by
  refine ⟨?_, ?_, ?_, ?_, ?_, ?_⟩
  · intro s dt n fwd x a e g u c hx hkind hstarted hlocked hlive hunit hl hn hin he hint hafter hcap
      hskip
    obtain ⟨m, hm⟩ := tachEdge_legal (s := u) fwd hx hunit
    exact ⟨_, congrArg go hm, axleEdge_steady_single (s := { u with meas := m }) hkind hstarted hlive
      hl hn hin he hlocked hint hafter hcap hskip⟩
  · intro s dt n fwd x a e hx hkind hstarted hlocked hlive hunit hl hn hin he
    obtain ⟨m, hm⟩ := tachEdge_illegal (s := s.elapse dt) fwd hx hunit
    have hother : tlStrand 5 ≠ tlMeas (24 + n) := by simp only [tlStrand, tlMeas, tly]; omega
    have hcoasts := axleEdge_illegal_last
      (s := ({ s.elapse dt with meas := m } : State).count (tlMeas (24 + n)))
      hkind hstarted hlive hl hn hin he hlocked
    exact ⟨_, congrArg go hm, coastsAfter_pins (coastsAfter_of_count hother hcoasts)⟩
  · intro s dt n a e u hkind hstarted hlocked hl hn hin he hturns hfast hsilent
    exact ⟨_, execTachSilenceTimeout_excludes dt hkind hstarted (find_single hl hn) hin he hturns hfast
      hsilent, coastsAfter_pins (axleExclude_last (s := u) 4 2 hl rfl hlocked)⟩
  · intro s dt a e u hkind hstarted hlocked hmoves hl hin he hslow hsilent
    refine ⟨_, execStandstillTimeout_stops dt hkind hstarted hlocked hmoves hl hin he hslow hsilent,
      ?_, rfl, ?_, rfl, hlocked⟩
    · exact only_pins (only_set_pace _ (only_step (only_elapse s dt _) (State.rebase_touch ..)) rfl)
    · simp [State.rateNow]
  · intro s dt n a t u hkind hl hn hout hagree hlong hlive hsub
    obtain ⟨hstate, hpos, haxle, hcap⟩ :=
      axleRejoin_substituted (s := u) hkind hl hn hout hagree hlong hlive hsub
    exact ⟨_, rfl, hstate, hpos, haxle, hcap⟩
  · intro s dt n a t hfind hagree hearly
    have hrun : exec (.tachRejoin dt n) s = go (s.elapse dt) :=
      congrArg go (axleRejoin_early (s := s.elapse dt) hfind hagree hearly)
    rw [hrun]
    exact go_elapse_only s dt

end Sys2Proof.Machine

/-! SUPPORT. Chapter 4, the gates (R154 to R158): a port's choice of a frame takes copies away and
leaves every gate, so a gate stands where the last operation on it has put it. -/

namespace Sys2Proof.Machine

/-! ### Folds -/

/-- What every step of a fold keeps, the fold keeps. -/
theorem foldl_keeps {σ α β : Type} (view : σ → β) (f : σ → α → σ)
    (h : ∀ s a, view (f s a) = view s) (l : List α) (s : σ) : view (l.foldl f s) = view s := by
  induction l generalizing s with
  | nil => rfl
  | cons a l ih => exact (ih (f s a)).trans (h s a)

/-! ### Taking copies away -/

/-- From `s` to `t` copies may have left the queues, and nothing else of the fabric that gates, queues
and ledger show has changed. -/
structure State.drainedFrom (t s : State) : Prop where
  gates : t.fab.gates = s.fab.gates
  ledger : t.fab.ledger = s.fab.ledger
  copies : t.fab.copies ⊆ s.fab.copies

theorem drainedFrom_refl (s : State) : s.drainedFrom s := ⟨rfl, rfl, List.Subset.refl _⟩

theorem State.drainedFrom.trans {s t u : State} (h : u.drainedFrom t) (k : t.drainedFrom s) :
    u.drainedFrom s :=
  ⟨h.gates.trans k.gates, h.ledger.trans k.ledger, List.Subset.trans h.copies k.copies⟩

/-- An operation that does not reach the fabric takes nothing away. -/
theorem drainedFrom_of_only {s t : State} {l : List Part} (h : t.onlyChanges s l)
    (hl : Part.fabric ∉ l) : t.drainedFrom s := by
  have hfab : t.fab = s.fab := h.2 .fabric hl
  exact ⟨by rw [hfab], by rw [hfab], by rw [hfab]; exact List.Subset.refl _⟩

theorem foldl_drainedFrom {α : Type} (f : State → α → State) (h : ∀ s a, (f s a).drainedFrom s)
    (l : List α) (s : State) : (l.foldl f s).drainedFrom s := by
  induction l generalizing s with
  | nil => exact drainedFrom_refl s
  | cons a l ih => exact (ih (f s a)).trans (h s a)

theorem dropCopy_subset (c : Copy) (l : List Copy) : dropCopy c l ⊆ l := by
  induction l with
  | nil => exact List.Subset.refl _
  | cons d l ih =>
    simp only [dropCopy]
    split
    · exact List.subset_cons_self d l
    · exact List.cons_subset_cons d ih

theorem take_drainedFrom (s : State) (c : Copy) : (s.take c).drainedFrom s :=
  ⟨rfl, rfl, dropCopy_subset c _⟩

theorem freeFrames_drainedFrom (s : State) : s.freeFrames.drainedFrom s :=
  ⟨rfl, rfl, List.Subset.refl _⟩

theorem setSa_drainedFrom (s : State) (l : Nat) (x : Sa) : (s.setSa l x).drainedFrom s :=
  ⟨rfl, rfl, List.Subset.refl _⟩

theorem setHrx_drainedFrom (s : State) (q : Nat) (x : RxRing) : (s.setHrx q x).drainedFrom s :=
  ⟨rfl, rfl, List.Subset.refl _⟩

theorem count_drainedFrom (s : State) (k : Nat) : (s.count k).drainedFrom s :=
  ⟨rfl, rfl, List.Subset.refl _⟩

theorem setTx_drainedFrom (s : State) (x : Tab (Option TxNow)) :
    ({ s with fab := { s.fab with tx := x } } : State).drainedFrom s :=
  ⟨rfl, rfl, List.Subset.refl _⟩

/-- A frame starts on a secured link: the packet number moves on (R160). -/
theorem securedStart_drainedFrom (s : State) (tx : Tab (Option TxNow)) (p : Nat) (x : Sa) :
    (({ s with fab := { s.fab with tx := tx } } : State).setSa p x).drainedFrom s :=
  (setSa_drainedFrom ..).trans (setTx_drainedFrom s tx)

/-- A seed on the choice of a frame is noted; then the copy leaves its queue (R563). -/
theorem injectsTake_drainedFrom (s : State) (k : Nat) (pred : List Byte → Bool) (c : Copy) :
    ((s.injects k pred).2.take c).drainedFrom s :=
  (take_drainedFrom _ c).trans (drainedFrom_of_only (State.injects_touch s k pred) (by decide))

theorem choose_drainedFrom (s : State) (p n : Nat) : (s.choose p n).drainedFrom s := by
  induction n generalizing s with
  | zero => exact drainedFrom_refl s
  | succ n ih =>
    rw [State.choose]
    split
    · exact drainedFrom_refl s
    split
    · exact drainedFrom_refl s
    next c _ =>
    dsimp only
    split
    · split
      · exact drainedFrom_refl s
      · exact (count_drainedFrom _ _).trans (setSa_drainedFrom ..)
    have htake := injectsTake_drainedFrom s 5
      (fun k => bit (fld k 0 4) p && fld k 4 1 = 1 && bit (fld k 5 1) c.queue) c
    split
    · exact ((ih _).trans (freeFrames_drainedFrom _)).trans htake
    split
    · exact htake
    split
    · exact (setTx_drainedFrom ..).trans htake
    split
    · exact ((drainedFrom_of_only (State.sendNext_touch ..) (by decide)).trans
        (drainedFrom_of_only (State.note_touch ..) (by decide))).trans
          ((securedStart_drainedFrom ..).trans htake)
    · exact (securedStart_drainedFrom ..).trans htake

theorem dropHost_drainedFrom (s : State) (q k : Nat) : (s.dropHost q k).drainedFrom s := by
  rw [State.dropHost]
  split
  · exact ((freeFrames_drainedFrom _).trans (count_drainedFrom ..)).trans (take_drainedFrom ..)
  · exact drainedFrom_refl s

theorem hrxPump_drainedFrom (s : State) (q : Nat) (justRead : Bool) (n : Nat) :
    (s.hrxPump q justRead n).drainedFrom s := by
  induction n generalizing s with
  | zero => exact drainedFrom_refl s
  | succ n ih =>
    rw [State.hrxPump]
    split
    · exact drainedFrom_refl s
    split
    · split
      · exact (ih _).trans (dropHost_drainedFrom ..)
      · exact drainedFrom_refl s
    split
    · exact (ih _).trans (take_drainedFrom ..)
    dsimp only
    split
    · exact drainedFrom_refl s
    split
    · exact setHrx_drainedFrom ..
    split
    · exact (((ih _).trans (drainedFrom_of_only (State.noteOnce_touch ..) (by decide))).trans
        (dropHost_drainedFrom ..)).trans (setHrx_drainedFrom ..)
    · exact setHrx_drainedFrom ..

/-- A port's choice takes copies from its queues and leaves every gate (R155). -/
theorem egress_drainedFrom (s : State) (p : Nat) : (s.egress p).drainedFrom s := by
  rw [State.egress]
  split
  · exact foldl_drainedFrom _ (fun s q => hrxPump_drainedFrom s q _ _) _ s
  · exact choose_drainedFrom ..

theorem sweep_drainedFrom (s : State) (p q : Nat) : (s.sweep p q).drainedFrom s := by
  rw [State.sweep]
  split
  · exact drainedFrom_refl s
  · exact ⟨rfl, rfl, List.filter_sublist.subset⟩

/-! ### Where a gate stands -/

theorem setGates_gates (s : State) (p m q : Nat) :
    Tab.get 0 (s.setGates p m).fab.gates q = if q = p then m % 256 else Tab.get 0 s.fab.gates q :=
  Tab.get_set 0 s.fab.gates p q _

/-- The sweep of the queues of a mask whose gates have closed (R158). -/
def State.sweepMask (p m : Nat) (s : State) (q : Nat) : State := if bit m q then s.sweep p q else s

theorem sweepMask_drainedFrom (p m : Nat) (s : State) (q : Nat) :
    (s.sweepMask p m q).drainedFrom s := by
  rw [State.sweepMask]
  split
  · exact sweep_drainedFrom ..
  · exact drainedFrom_refl s

theorem closeGates_eq (s : State) (p m : Nat) :
    let was := Tab.get 0 s.fab.gates p
    s.closeGates p m =
      (List.range 8).foldl (State.sweepMask p (was &&& m)) (s.setGates p (was - (was &&& m))) := rfl

theorem openGates_gates (s : State) (p m q : Nat) :
    Tab.get 0 (s.openGates p m).fab.gates q =
      if q = p then (Tab.get 0 s.fab.gates p ||| m) % 256 else Tab.get 0 s.fab.gates q := by
  rw [State.openGates, (egress_drainedFrom ..).gates, setGates_gates]

theorem closeGates_gates (s : State) (p m q : Nat) :
    let was := Tab.get 0 s.fab.gates p
    Tab.get 0 (s.closeGates p m).fab.gates q =
      if q = p then (was - (was &&& m)) % 256 else Tab.get 0 s.fab.gates q := by
  rw [closeGates_eq, (foldl_drainedFrom _ (sweepMask_drainedFrom p _) _ _).gates, setGates_gates]

theorem closeGates_ledger (s : State) (p m : Nat) :
    (s.closeGates p m).fab.ledger = s.fab.ledger :=
  (foldl_drainedFrom _ (sweepMask_drainedFrom p _) _ _).ledger

theorem gatesTo_gates (s : State) (p m q : Nat) :
    Tab.get 0 (s.gatesTo p m).fab.gates q = if q = p then m % 256 else Tab.get 0 s.fab.gates q := by
  rw [State.gatesTo, (egress_drainedFrom ..).gates, setGates_gates]
  split
  · rfl
  · next h => rw [closeGates_gates, if_neg h]

theorem gatesTo_ledger (s : State) (p m : Nat) : (s.gatesTo p m).fab.ledger = s.fab.ledger :=
  (egress_drainedFrom ..).ledger.trans (closeGates_ledger ..)

/-! ### What is left behind a closed gate (R158) -/

/-- No copy waits in a queue. -/
def State.queueEmpty (s : State) (p q : Nat) : Prop :=
  ∀ c ∈ s.fab.copies, ¬(c.port = p ∧ c.queue = q)

theorem State.drainedFrom.queueEmpty {s t : State} {p q : Nat} (h : t.drainedFrom s)
    (hs : s.queueEmpty p q) : t.queueEmpty p q := fun c hc => hs c (h.copies hc)

theorem sweep_queueEmpty {s : State} {p q : Nat} (h : s.scheduled p q = true) :
    (s.sweep p q).queueEmpty p q := by
  intro c hc
  rw [State.sweep, h] at hc
  have hkept := (List.mem_filter.1 hc).2
  exact fun ⟨hp, hq⟩ => by simp [hp, hq] at hkept

theorem sweepMask_scheduled (p m : Nat) (s : State) (x q : Nat) :
    (s.sweepMask p m x).scheduled p q = s.scheduled p q := by
  simp only [State.sweepMask, State.sweep]
  split
  · split <;> rfl
  · rfl

theorem foldl_sweepMask_queueEmpty {p m q : Nat} (hm : bit m q = true) (l : List Nat) (s : State)
    (hq : q ∈ l) (h : s.scheduled p q = true) : (l.foldl (State.sweepMask p m) s).queueEmpty p q := by
  induction l generalizing s with
  | nil => cases hq
  | cons x l ih =>
    rcases List.mem_cons.1 hq with rfl | hq
    · refine (foldl_drainedFrom _ (sweepMask_drainedFrom p m) l _).queueEmpty ?_
      rw [State.sweepMask, if_pos hm]
      exact sweep_queueEmpty h
    · exact ih _ hq ((sweepMask_scheduled p m s x q).trans h)

theorem closeGates_queueEmpty {s : State} {p m q : Nat} (hq : q < 8)
    (hclosed : bit (Tab.get 0 s.fab.gates p &&& m) q = true) (h : s.scheduled p q = true) :
    (s.closeGates p m).queueEmpty p q :=
  foldl_sweepMask_queueEmpty hclosed _ _ (List.mem_range.2 hq) h

end Sys2Proof.Machine

/-! SUPPORT. What an issued action does at its target: gates (R156, R158), the snapshot of tallies
(R527), the event of MARK (R55). -/

namespace Sys2Proof.Machine

/-! ### An issued action reaches its target -/

theorem act_issued {s u : State} {op : Nat} {src : ActSrc} {i : Issued}
    (h : s.issue op src = (some i, u)) (f : Issued → State → State) : s.act op src f = f i u := by
  simp [State.act, h]

theorem toUnit_present {s : State} {tgt : Nat} (h : s.absentUnit tgt = false) (f : State → State) :
    s.toUnit tgt f = f s := by simp [State.toUnit, h]

theorem toUnit_absent {s : State} {tgt : Nat} (h : s.absentUnit tgt = true) (f : State → State) :
    s.toUnit tgt f = s.absentReq := by simp [State.toUnit, h]

/-- A request to an absent unit counts, and that is all it does (R162). -/
theorem absentReq_counts (s : State) :
    s.absentReq.pins.onlyChanges s [.tallies] ∧
      Tab.get 0 s.absentReq.pins.tly.live (tlFab 8) =
        min tlyMax (Tab.get 0 s.tly.live (tlFab 8) + 1) := by
  refine ⟨only_pins (State.count_touch s (tlFab 8)), ?_⟩
  rw [State.pins_tly]
  exact count_self s (tlFab 8)

/-! ### Entering an event -/

theorem pushKeep_getLast? {α : Type} {n : Nat} (hn : 0 < n) (l : List α) (a : α) :
    (pushKeep n l a).getLast? = some a := by
  have hkept : ¬ (l ++ [a]).length ≤ l.length + 1 - n := by simp; omega
  rw [pushKeep, List.getLast?_drop, if_neg hkept, List.getLast?_concat]

/-- While the teller runs, an event of no vector and not of the persistent class is the last of the
daybook, whole if its content has at most 40 bytes. -/
theorem note_last {s : State} {code : Nat} {args : List Byte} (hup : s.tellerUp = true)
    (hvec : evVector code = none) (hper : evPersistent code = false) (hlen : args.length ≤ 40) :
    (s.note code args).day.vol.getLast? = some
      { num := s.day.volNext % 2 ^ 32, code := code, persist := false, args := args, time := s.net
        boot := s.day.boot % 2 ^ 16 } := by
  simp only [State.note, hvec, hup, if_true, State.enter, hper, Bool.false_eq_true, if_false,
    State.raise_day, List.take_of_length_le hlen]
  exact pushKeep_getLast? (by decide) _ _

/-! ### One tally moves into its snapshot -/

theorem snapOne_live (s : State) (k j : Nat) :
    Tab.get 0 (s.snapOne k).tly.live j = if j = k then s.tlyBase k else Tab.get 0 s.tly.live j :=
  Tab.get_set 0 s.tly.live k j _

theorem snapOne_snap (s : State) (k j : Nat) :
    Tab.get 0 (s.snapOne k).tly.snap j =
      if j = k then min tlyMax (Tab.get 0 s.tly.snap k + s.tlyVal k) else Tab.get 0 s.tly.snap j :=
  Tab.get_set 0 s.tly.snap k j _

theorem snapOne_tlyBase (s : State) (k j : Nat) : (s.snapOne k).tlyBase j = s.tlyBase j := rfl

theorem snapOne_tlyVal {s : State} {k j : Nat} (h : j ≠ k) : (s.snapOne k).tlyVal j = s.tlyVal j := by
  have hlive := snapOne_live s k j
  rw [if_neg h] at hlive
  simp only [State.tlyVal, hlive]
  rfl

theorem foldl_snapOne_not_mem {l : List Nat} {k : Nat} (h : k ∉ l) (s : State) :
    Tab.get 0 (l.foldl State.snapOne s).tly.snap k = Tab.get 0 s.tly.snap k ∧
      Tab.get 0 (l.foldl State.snapOne s).tly.live k = Tab.get 0 s.tly.live k := by
  induction l generalizing s with
  | nil => exact ⟨rfl, rfl⟩
  | cons j l ih =>
    obtain ⟨hj, hl⟩ : k ≠ j ∧ k ∉ l := by simpa using h
    obtain ⟨hsnap, hlive⟩ := ih hl (s.snapOne j)
    exact ⟨hsnap.trans ((snapOne_snap s j k).trans (if_neg hj)),
      hlive.trans ((snapOne_live s j k).trans (if_neg hj))⟩

/-- Of tallies each named once, each adds its value to its snapshot and restarts. -/
theorem foldl_snapOne_mem {l : List Nat} (hl : l.Nodup) {k : Nat} (h : k ∈ l) (s : State) :
    Tab.get 0 (l.foldl State.snapOne s).tly.snap k =
        min tlyMax (Tab.get 0 s.tly.snap k + s.tlyVal k) ∧
      Tab.get 0 (l.foldl State.snapOne s).tly.live k = s.tlyBase k := by
  induction l generalizing s with
  | nil => cases h
  | cons j l ih =>
    obtain ⟨hnew, hl⟩ := List.nodup_cons.1 hl
    by_cases hk : k = j
    · subst hk
      obtain ⟨hsnap, hlive⟩ := foldl_snapOne_not_mem hnew (s.snapOne k)
      exact ⟨hsnap.trans ((snapOne_snap s k k).trans (if_pos rfl)),
        hlive.trans ((snapOne_live s k k).trans (if_pos rfl))⟩
    · have hrest : k ∈ l := (List.mem_cons.1 h).resolve_left hk
      obtain ⟨hsnap, hlive⟩ := ih hl hrest (s.snapOne j)
      rw [snapOne_snap, if_neg hk, snapOne_tlyVal hk] at hsnap
      exact ⟨hsnap, hlive.trans (snapOne_tlyBase s j k)⟩

/-! ### TALLY_SNAP -/

theorem nodup_eraseDups (l : List Nat) : l.eraseDups.Nodup := by
  match l with
  | [] => simp
  | a :: l =>
    rw [List.eraseDups_cons, List.nodup_cons]
    have hshorter := List.length_filter_le (fun b => !b == a) l
    exact ⟨by simp, nodup_eraseDups _⟩
termination_by l.length

/-- The tallies of the groups of a mask, each once. -/
def State.snapKeys (s : State) (mask : Nat) : List Nat :=
  ((s.tly.live.map (·.1)) ++ [tlFab 4, tlFab 5, tlFab 6]).eraseDups.filter
    fun k => bit mask (k / 2 ^ 32)

/-- The time of the snapshot on the groups of a mask. -/
def stampGroups (mask at_ : Nat) (t : Tab Nat) (g : Nat) : Tab Nat :=
  if bit mask g then Tab.set 0 t g at_ else t

theorem snapGroups_eq (s : State) (mask : Nat) :
    let v := s.spineCount
    let w := (v.snapKeys mask).foldl State.snapOne v
    s.snapGroups mask = { w with tly := { w.tly with
      snapAt := (List.range 16).foldl (stampGroups mask (w.net + 1)) w.tly.snapAt } } := rfl

theorem snapKeys_nodup (s : State) (mask : Nat) : (s.snapKeys mask).Nodup :=
  (nodup_eraseDups _).filter _

theorem mem_snapKeys {s : State} {mask k : Nat} (hk : k ∈ s.tly.live.map (·.1))
    (hbit : bit mask (k / 2 ^ 32) = true) : k ∈ s.snapKeys mask :=
  List.mem_filter.2 ⟨List.mem_eraseDups.2 (List.mem_append_left _ hk), hbit⟩

theorem not_mem_snapKeys {s : State} {mask k : Nat} (hbit : bit mask (k / 2 ^ 32) = false) :
    k ∉ s.snapKeys mask := fun h =>
  Bool.false_ne_true (hbit.symm.trans (List.mem_filter.1 h).2)

theorem get_stampGroups (mask at_ : Nat) (t : Tab Nat) (x g : Nat) :
    Tab.get 0 (stampGroups mask at_ t x) g =
      if g = x ∧ bit mask x = true then at_ else Tab.get 0 t g := by
  by_cases hx : bit mask x = true
  · simp [stampGroups, hx, Tab.get_set]
  · simp [stampGroups, hx]

theorem get_foldl_stampGroups (mask at_ g : Nat) (l : List Nat) (t : Tab Nat) :
    Tab.get 0 (l.foldl (stampGroups mask at_) t) g =
      if g ∈ l ∧ bit mask g = true then at_ else Tab.get 0 t g := by
  induction l generalizing t with
  | nil => simp
  | cons x l ih =>
    rw [List.foldl_cons, ih, get_stampGroups]
    by_cases hx : g = x
    · by_cases hg : bit mask x = true <;> simp [hx, hg]
    · simp [hx]

theorem spineCount_clk (s : State) : s.spineCount.clk = s.clk := by
  unfold State.spineCount
  split <;> rfl

theorem spineCount_snapAt (s : State) : s.spineCount.tly.snapAt = s.tly.snapAt := by
  unfold State.spineCount
  split <;> rfl

/-- The stamp of a group of the mask is the present network time plus 1; other stamps stay. -/
theorem snapGroups_snapAt (s : State) (mask : Nat) {g : Nat} (hg : g < 16) :
    Tab.get 0 (s.snapGroups mask).tly.snapAt g =
      if bit mask g then s.net + 1 else Tab.get 0 s.tly.snapAt g := by
  have hclk := foldl_keeps State.clk State.snapOne (fun _ _ => rfl)
    (s.spineCount.snapKeys mask) s.spineCount
  have hstamps := foldl_keeps (fun u : State => u.tly.snapAt) State.snapOne (fun _ _ => rfl)
    (s.spineCount.snapKeys mask) s.spineCount
  rw [snapGroups_eq, get_foldl_stampGroups, hstamps, spineCount_snapAt, State.net, hclk,
    spineCount_clk]
  simp [hg, State.net]

theorem snapGroups_of_mem {s : State} {mask k : Nat} (h : k ∈ s.spineCount.snapKeys mask) :
    let v := s.spineCount
    Tab.get 0 (s.snapGroups mask).tly.snap k = min tlyMax (Tab.get 0 v.tly.snap k + v.tlyVal k) ∧
      Tab.get 0 (s.snapGroups mask).tly.live k = v.tlyBase k :=
  foldl_snapOne_mem (snapKeys_nodup _ mask) h _

theorem snapGroups_of_not_mem {s : State} {mask k : Nat} (h : k ∉ s.spineCount.snapKeys mask) :
    let v := s.spineCount
    Tab.get 0 (s.snapGroups mask).tly.snap k = Tab.get 0 v.tly.snap k ∧
      Tab.get 0 (s.snapGroups mask).tly.live k = Tab.get 0 v.tly.live k :=
  foldl_snapOne_not_mem h _

/-! ### The obligation -/

/-- Settles O14: each action is its effect at the target, and the pins leave gates, tallies and daybook. -/
theorem issuedGateAndTallyActions : Obligations.IssuedGateAndTallyActions := by
  refine ⟨?_, ?_, ?_, ?_, ?_, ?_, ?_⟩
  · intro s u dt src i h
    exact ⟨_, congrArg go (act_issued h _), pins_only u []⟩
  · intro s u dt src i h hunit
    refine ⟨_, congrArg go ((act_issued h _).trans (toUnit_present hunit _)), ?_, fun q hq => ?_⟩
    · rw [State.pins_fab, openGates_gates, if_pos rfl]
    · rw [State.pins_fab, openGates_gates, if_neg hq]
  · intro s u dt src i h hunit was
    have hdrained := egress_drainedFrom (u.closeGates i.act.tgt (i.act.opnd % 256)) i.act.tgt
    refine ⟨_, congrArg go ((act_issued h _).trans (toUnit_present hunit _)), ?_, fun q hq => ?_,
      fun q hq hclosed hsched => ?_⟩
    · rw [State.pins_fab, hdrained.gates, closeGates_gates, if_pos rfl]
    · rw [State.pins_fab, hdrained.gates, closeGates_gates, if_neg hq]
    · rw [State.pins_fab]
      exact hdrained.queueEmpty (closeGates_queueEmpty hq hclosed hsched)
  · intro s u dt src i h hunit
    exact ⟨_, congrArg go ((act_issued h _).trans (toUnit_absent hunit _)), absentReq_counts u⟩
  · intro s u dt src i h hunit
    exact ⟨_, congrArg go ((act_issued h _).trans (toUnit_absent hunit _)), absentReq_counts u⟩
  · intro s u dt src i h hup
    refine ⟨_, _, congrArg go (act_issued h _), only_pins (State.note_touch ..),
      (congrArg (fun d : Day => d.vol.getLast?) (State.pins_day _)).trans
        (note_last hup (by decide) (by decide) (by simp [secNs])), rfl, rfl, rfl⟩
  · intro s u dt src i h
    refine ⟨_, congrArg go (act_issued h _), only_pins (State.snapGroups_touch ..), ?_, ?_, ?_⟩
    · intro k hbit hk
      rw [State.pins_tly]
      exact snapGroups_of_mem (mem_snapKeys hk hbit)
    · intro k hbit
      rw [State.pins_tly]
      exact snapGroups_of_not_mem (not_mem_snapKeys hbit)
    · intro g hg
      rw [State.pins_tly]
      exact snapGroups_snapAt u _ hg

end Sys2Proof.Machine

/-! SUPPORT. Chapter 2, requests of activation (R79, R80, R82) and one-off actions (R520). -/

namespace Sys2Proof.Machine

/-! ### Fields of zeros -/

theorem ofLe_eq_zero {l : List Byte} (h : l.all (· == 0) = true) : ofLe l = 0 := by
  induction l with
  | nil => rfl
  | cons x l ih =>
    simp only [List.all_cons, Bool.and_eq_true, beq_iff_eq] at h
    simp [ofLe, h.1, ih h.2]

theorem slice_slice (l : List Byte) {o n a k : Nat} (h : a + k ≤ n) :
    slice (slice l o n) a k = slice l (o + a) k := by
  simp only [slice, List.drop_take, List.take_take, List.drop_drop]
  rw [Nat.min_eq_left (by omega)]

/-- Part of a stretch of zeros is zeros. -/
theorem zeroAt_part {l : List Byte} {o n : Nat} (h : zeroAt l o n = true) (a : Nat) {k : Nat}
    (hk : a + k ≤ n) : zeroAt l (o + a) k = true := by
  rw [zeroAt, ← slice_slice l hk, List.all_eq_true]
  exact fun x hx => List.all_eq_true.1 h x (List.mem_of_mem_drop (List.mem_of_mem_take hx))

theorem fld_eq_zero {l : List Byte} {o n : Nat} (h : zeroAt l o n = true) : fld l o n = 0 :=
  ofLe_eq_zero h

/-! ### Rounding up -/

theorem ceilMul_mod (x : Nat) {m : Nat} (hm : 0 < m) : ceilMul x m % m = 0 := by
  rw [ceilMul, if_neg (by omega), Nat.mul_mod_left]

theorem le_ceilMul (x : Nat) {m : Nat} (hm : 0 < m) : x ≤ ceilMul x m := by
  have hdiv := Nat.div_add_mod (x + (m - 1)) m
  have hmod := Nat.mod_lt (x + (m - 1)) hm
  rw [ceilMul, if_neg (by omega), Nat.mul_comm]
  omega

/-- The whole multiple rounded up to is the least. -/
theorem ceilMul_le {x m b : Nat} (hm : 0 < m) (hb : b % m = 0) (hx : x ≤ b) : ceilMul x m ≤ b := by
  obtain ⟨k, rfl⟩ := Nat.dvd_of_mod_eq_zero hb
  rw [ceilMul, if_neg (by omega), Nat.mul_comm m k]
  refine Nat.mul_le_mul_right m (Nat.lt_succ_iff.1 (Nat.div_lt_of_lt_mul ?_))
  rw [Nat.mul_succ]
  omega

/-! ### Activation requests -/

/-- A request of activation pending, or none. -/
def State.setActiv (s : State) (a : Option Activ) : State :=
  { s with par := { s.par with activ := a } }

theorem setActiv_only (s : State) (a : Option Activ) (l : List Part) :
    (s.setActiv a).onlyChanges s (.parison :: l) :=
  only_set_par _ (only_refl _ _) rfl

section
variable {s : State} {p : Par} (hp : s.par.committed = some p) (husable : s.time.state ≠ .unusable)
  (hnone : s.par.activ = none)

include hp husable hnone

/-- With NEXT the earliest T that R79 accepts is taken (R80). -/
theorem activate_next (t : Nat) :
    s.activate true t = timeAns (s.nextActivation p)
      (s.setActiv (some { net := s.nextActivation p })) := by
  simp [State.activate, State.setActiv, hp, husable, hnone]

theorem activate_taken {t : Nat} (hround : t % (s.roundsFor p).1 = 0)
    (hahead : s.net + 2 * (s.roundsFor p).2 ≤ t) :
    s.activate false t = timeAns t (s.setActiv (some { net := t })) := by
  simp [State.activate, State.setActiv, hp, husable, hnone, hround, Nat.not_lt.2 hahead]

theorem activate_malformed {t : Nat} (hround : t % (s.roundsFor p).1 ≠ 0) :
    s.activate false t = refuse stMalformed s := by
  simp [State.activate, hp, husable, hnone, hround]

theorem activate_late {t : Nat} (hround : t % (s.roundsFor p).1 = 0)
    (hlate : t < s.net + 2 * (s.roundsFor p).2) :
    s.activate false t = refuse stLate (s.count (tlStrand 15)) := by
  simp [State.activate, hp, husable, hnone, hround, hlate]

end

theorem cancelActivation_taken {s : State} {a : Activ} {p : Par} (ha : s.par.activ = some a)
    (hp : s.par.committed = some p) (hahead : s.net + (s.roundsFor p).2 ≤ a.net) :
    s.cancelActivation = timeAns a.net ((s.setActiv none).note (ev 2 2)
      (p.hash.take 8 ++ secNs a.net)) := by
  simp [State.cancelActivation, State.setActiv, ha, hp, Nat.not_lt.2 hahead]

theorem cancelActivation_denied {s : State} (ha : s.par.activ = none) :
    s.cancelActivation = refuse stDenied s := by simp [State.cancelActivation, ha]

/-! ### MB_PARISON_ACTIVATE -/

/-- A request with NEXT alone has the layout of the command, and it runs as one with NEXT. -/
theorem cmdActivate_next {b : List Byte} (hlen : b.length = 24) (hopts : fld b 0 4 = 1)
    (h4 : zeroAt b 4 4 = true) (h20 : zeroAt b 20 4 = true) (h8 : zeroAt b 8 12 = true) :
    cmdActivate.shape b = true ∧ ∀ s, cmdActivate.run b s = s.activate true (timeAt b 8) := by
  have hns : fld b 16 4 = 0 := fld_eq_zero (zeroAt_part h8 8 (by decide))
  exact ⟨by simp [cmdActivate, hlen, hopts, h4, h20, h8], fun s => by
    simp [cmdActivate, hopts, hns, bit]⟩

/-- A request without options runs with the T it gives. -/
theorem cmdActivate_given {b : List Byte} (hlen : b.length = 24) (hopts : fld b 0 4 = 0)
    (h4 : zeroAt b 4 4 = true) (h20 : zeroAt b 20 4 = true) (hns : fld b 16 4 ≤ 999999999) :
    cmdActivate.shape b = true ∧ ∀ s, cmdActivate.run b s = s.activate false (timeAt b 8) :=
  ⟨by simp [cmdActivate, hlen, hopts, h4, h20, bit], fun s => by
    simp [cmdActivate, hopts, Nat.not_lt.2 hns, bit]⟩

/-- A request with CANCEL alone runs as one of CANCEL. -/
theorem cmdActivate_cancel {b : List Byte} (hlen : b.length = 24) (hopts : fld b 0 4 = 2)
    (h4 : zeroAt b 4 4 = true) (h20 : zeroAt b 20 4 = true) :
    cmdActivate.shape b = true ∧ ∀ s, cmdActivate.run b s = s.cancelActivation :=
  ⟨by simp [cmdActivate, hlen, hopts, h4, h20, bit], fun s => by
    simp [cmdActivate, hopts, bit]⟩

/-! ### PARISON_ACTIVATE_CANCEL -/

theorem fld_cons (x : Byte) (l : List Byte) (n : Nat) :
    fld (x :: l) 0 (n + 1) = x.toNat + 256 * fld l 0 n := rfl

theorem zeroAt_cons (x : Byte) (l : List Byte) (o n : Nat) :
    zeroAt (x :: l) (o + 1) n = zeroAt l o n := rfl

/-- Setting CANCEL in a request without options gives a request of CANCEL alone. -/
theorem withOp_cancel {r : Req} (hp : r.plain) (hlen : r.body.length = 24)
    (hopts : fld r.body 0 4 = 0) (hzero : zeroAt r.body 4 20 = true) :
    let q := withOp r (r.body.headD 0 ||| 2)
    q.plain ∧ q.body.length = 24 ∧ fld q.body 0 4 = 2 ∧ zeroAt q.body 4 4 = true ∧
      zeroAt q.body 20 4 = true := by
  have h4 := zeroAt_part hzero 0 (k := 4) (by decide)
  have h20 := zeroAt_part hzero 16 (k := 4) (by decide)
  obtain ⟨hsize, hmax, hrsv⟩ := hp
  match hbody : r.body with
  | [] => simp [hbody] at hlen
  | x :: l =>
    rw [hbody] at hlen hopts h4 h20
    rw [fld_cons] at hopts
    have hx : x = 0 := BitVec.eq_of_toNat_eq (by simp; omega)
    have hq : (withOp r ((x :: l).headD 0 ||| 2)).body = 2 :: l := by
      simp [withOp, overlay, padTo, hbody, hx]
    simp only [Req.plain, hq, fld_cons, zeroAt_cons] at h4 h20 ⊢
    refine ⟨⟨?_, ?_, hrsv⟩, hlen, ?_, h4, h20⟩
    · exact hsize.trans (by simp [hbody])
    · simp at hlen ⊢; omega
    · simp; omega

/-! ### One-off actions -/

theorem insertByPos_perm {α : Type} (x : Nat × α) (l : List (Nat × α)) :
    (insertByPos x l).Perm (x :: l) := by
  induction l with
  | nil => exact .refl _
  | cons y l ih =>
    simp only [insertByPos]
    split
    · exact .refl _
    · exact (ih.cons y).trans (.swap x y l)

/-- The pending one-off actions with one more, in the order of their instants. -/
def placeOneOff (o : OneOff) (l : List OneOff) : List OneOff :=
  (insertByPos (o.net, o.act) (l.map fun x => (x.net, x.act))).map fun x => ⟨x.1, x.2⟩

theorem placeOneOff_perm (o : OneOff) (l : List OneOff) : (placeOneOff o l).Perm (o :: l) := by
  have h := (insertByPos_perm (o.net, o.act) (l.map fun x => (x.net, x.act))).map
    fun x => (⟨x.1, x.2⟩ : OneOff)
  simpa [placeOneOff, Function.comp_def] using h

/-- A one-off action joins those whose instants have not passed. -/
def State.addOneOff (s : State) (o : OneOff) : State :=
  { s with par := { s.par with oneOffs := placeOneOff o s.oneOffsLeft } }

section
variable {s : State} {p : Par} {o : OneOff} (hlayout : oneOffOk o.act = true)
  (hp : s.par.force = some p) (hnone : s.par.activ = none) (hactive : s.gaf.active = true)
  (hnames : o.act.op = 10 ∨ namesOk p o.act.op o.act.tgt o.act.opnd = true)
  (htask : s.taskBarred p o = false) (husable : s.time.state ≠ .unusable)
  (hlive : s.live (s.oneOffGaf o.act) = true)

include hlayout hp hnone hactive hnames htask husable hlive

/-- What R520 asks of the action itself holds: its instant and the room for it decide. -/
theorem actAt_eq :
    s.actAt o =
      if o.net < s.net + 20000 then refuse stLate (s.count (tlStrand 15))
      else if s.oneOffsLeft.length ≥ 16 || s.crowded p s.oneOffsLeft o then refuse stFull s
      else ans stOk [] (s.addOneOff o) := by
  have hnamed : (decide (o.act.op ≠ 10) && !namesOk p o.act.op o.act.tgt o.act.opnd) = false := by
    rcases hnames with h | h <;> simp [h]
  simp only [State.actAt, State.addOneOff, placeOneOff, hlayout, hnone, hp, hactive, hnamed, htask,
    hlive, Bool.not_true, Bool.false_eq_true, if_false, beq_iff_eq, husable]

theorem actAt_placed (hahead : s.net + 20000 ≤ o.net) (hroom : s.oneOffsLeft.length < 16)
    (hfits : s.crowded p s.oneOffsLeft o = false) : s.actAt o = ans stOk [] (s.addOneOff o) := by
  rw [actAt_eq hlayout hp hnone hactive hnames htask husable hlive, if_neg (Nat.not_lt.2 hahead),
    if_neg (by simp [hroom, hfits])]

theorem actAt_late (hlate : o.net < s.net + 20000) :
    s.actAt o = refuse stLate (s.count (tlStrand 15)) := by
  rw [actAt_eq hlayout hp hnone hactive hnames htask husable hlive, if_pos hlate]

theorem actAt_full (hahead : s.net + 20000 ≤ o.net)
    (hfull : 16 ≤ s.oneOffsLeft.length ∨ s.crowded p s.oneOffsLeft o = true) :
    s.actAt o = refuse stFull s := by
  rw [actAt_eq hlayout hp hnone hactive hnames htask husable hlive, if_neg (Nat.not_lt.2 hahead),
    if_pos (by simpa using hfull)]

end

theorem cmdActAt_run {b : List Byte} (hns : fld b 8 4 ≤ 999999999) (s : State) :
    cmdActAt.run b s = s.actAt { net := timeAt b 0, act := actOf (b.drop 16) } :=
  if_neg (Nat.not_lt.2 hns)

/-! ### The obligation -/

/-- A mailbox row that completes at once: besides the answer, the parison and the tallies are those
its run left, but for the count of commands. -/
theorem mailbox_parison {s : State} {dt : Nat} {c : Cmd} {r : Req} (l : List Part)
    (hop : c.op < 65536) (hfree : s.mbxFree) (hplain : r.plain) (hshape : c.shape r.body = true)
    {st : Nat} {b : List Byte} {u : State}
    (hrun : c.run r.body ((s.elapse dt).writeReq c.op r) = ans st b u)
    (hl : ∀ p ∈ answerParts, p ∈ l) (hu : u.onlyChanges ((s.elapse dt).writeReq c.op r) l) :
    ∃ t, go ((s.elapse dt).submit c r) = .next t ∧ t.answered c.op r st b ∧ t.onlyChanges s l ∧
      t.par = u.par ∧ ∀ k, k ≠ tlSec 5 → Tab.get 0 t.tly.live k = Tab.get 0 u.tly.live k := by
  obtain ⟨t, hgo, hans, honly, rfl⟩ :=
    mailbox_change s dt c r l hop hfree hplain hshape st b u hrun hl hu
  refine ⟨_, hgo, hans, honly, by simp, fun k hk => ?_⟩
  rw [State.pins_tly, respond_live _ _ _ _ _ _ _ hk]

/-- Settles O23: each request by its layout, the state that its run finds, and what the run leaves. -/
theorem activationAndOneOffRequests : Obligations.ActivationAndOneOffRequests := by
  refine ⟨?_, ?_, ?_, ?_, ?_⟩
  · intro s dt r p hfree hplain hlen hopts h4 h20 h8 hp husable hnone hround
    obtain ⟨hshape, hrun⟩ := cmdActivate_next hlen hopts h4 h20 h8
    obtain ⟨t, hgo, hans, honly, hpar, -⟩ := mailbox_parison (.parison :: answerParts) (by decide)
      hfree hplain hshape
      ((hrun _).trans (activate_next (s := (s.elapse dt).writeReq 0x0103 r) hp husable hnone _))
      (fun q hq => List.mem_cons_of_mem _ hq) (setActiv_only ..)
    exact ⟨t, _, hgo, hans, by rw [hpar]; rfl, ceilMul_mod _ hround, le_ceilMul _ hround,
      fun b hb hx => ceilMul_le hround hb hx, by rw [hpar]; exact hp, by rw [hpar]; rfl, honly⟩
  · intro s dt r p hfree hplain hlen hopts h4 h20 hns hp husable hnone a
    obtain ⟨hshape, hrun⟩ := cmdActivate_given hlen hopts h4 h20 hns
    refine ⟨fun hround hahead => ?_, fun hround => ?_, fun hround hlate => ?_⟩
    · obtain ⟨t, hgo, hans, honly, hpar, -⟩ := mailbox_parison (.parison :: answerParts) (by decide)
        hfree hplain hshape
        ((hrun _).trans (activate_taken (s := (s.elapse dt).writeReq 0x0103 r) hp husable hnone hround
          hahead)) (fun q hq => List.mem_cons_of_mem _ hq) (setActiv_only ..)
      exact ⟨t, hgo, hans, by rw [hpar]; rfl, by rw [hpar]; exact hp, by rw [hpar]; rfl, honly⟩
    · exact mailbox_read s dt cmdActivate r (by decide) hfree hplain hshape _ _
        ((hrun _).trans (activate_malformed (s := (s.elapse dt).writeReq 0x0103 r) hp husable hnone
          hround))
    · obtain ⟨t, hgo, hans, honly, -⟩ := mailbox_parison answerParts (by decide) hfree hplain hshape
        ((hrun _).trans (activate_late (s := (s.elapse dt).writeReq 0x0103 r) hp husable hnone hround
          hlate)) (fun q hq => hq) (only_sub (State.count_touch ..) rfl)
      exact ⟨t, hgo, hans, honly⟩
  · intro s dt r a p hfree hplain hlen hopts hzero ha hp hahead
    obtain ⟨hplain', hlen', hopts', h4, h20⟩ := withOp_cancel hplain hlen hopts hzero
    obtain ⟨hshape, hrun⟩ := cmdActivate_cancel hlen' hopts' h4 h20
    obtain ⟨t, hgo, hans, honly, hpar, -⟩ := mailbox_parison (.parison :: mailParts) (by decide) hfree
      hplain' hshape
      ((hrun _).trans (cancelActivation_taken (s := (s.elapse dt).writeReq 0x0103 _) ha hp hahead))
      (by decide) (only_step (setActiv_only ..) (State.note_touch ..))
    exact ⟨t, hgo, hans, by rw [hpar, State.note_par]; rfl, honly⟩
  · intro s dt r hfree hplain hlen hopts hzero hnone
    obtain ⟨hplain', hlen', hopts', h4, h20⟩ := withOp_cancel hplain hlen hopts hzero
    obtain ⟨hshape, hrun⟩ := cmdActivate_cancel hlen' hopts' h4 h20
    exact mailbox_read s dt cmdActivate _ (by decide) hfree hplain' hshape _ _
      ((hrun _).trans (cancelActivation_denied hnone))
  · intro s dt r p hfree hplain hlen hzero hns o e hlayout hp hnone hactive hnames htask husable hlive
    have hshape : cmdActAt.shape r.body = true := by simp [cmdActAt, hlen, hzero]
    have hrun := cmdActAt_run (b := r.body) hns (e.writeReq 0x0104 r)
    refine ⟨fun hahead hroom hfits => ?_, fun hlate => ?_, fun hahead hfull => ?_⟩
    · obtain ⟨t, hgo, hans, honly, hpar, -⟩ := mailbox_parison (.parison :: answerParts) (by decide)
        hfree hplain hshape
        (hrun.trans (actAt_placed (s := e.writeReq 0x0104 r) hlayout hp hnone hactive hnames htask
          husable hlive hahead hroom hfits))
        (fun q hq => List.mem_cons_of_mem _ hq) (only_set_par _ (only_refl _ _) rfl)
      have hperm : t.par.oneOffs.Perm (o :: e.oneOffsLeft) := by
        rw [hpar]; exact placeOneOff_perm o e.oneOffsLeft
      exact ⟨t, hgo, hans, hperm.length_eq, hperm.mem_iff.2 List.mem_cons_self,
        fun x hx => hperm.mem_iff.2 (List.mem_cons_of_mem _ hx), by rw [hpar]; rfl, honly⟩
    · obtain ⟨t, hgo, hans, honly, -, htly⟩ := mailbox_parison answerParts (by decide) hfree hplain
        hshape
        (hrun.trans (actAt_late (s := e.writeReq 0x0104 r) hlayout hp hnone hactive hnames htask
          husable hlive hlate)) (fun q hq => hq) (only_sub (State.count_touch ..) rfl)
      exact ⟨t, hgo, hans, (htly _ (by decide)).trans (count_self ..), honly⟩
    · exact mailbox_read s dt cmdActAt r (by decide) hfree hplain hshape _ _
        (hrun.trans (actAt_full (s := e.writeReq 0x0104 r) hlayout hp hnone hactive hnames htask
          husable hlive hahead hfull))

end Sys2Proof.Machine

/-! SUPPORT. Chapter 2, activation (R83 to R85): a warm one, a cold one with its load and the start of
its strand. -/

namespace Sys2Proof.Machine

/-! ### What an operation leaves, from the parts it changes -/

section
variable {s t : State} {l : List Part} (h : t.onlyChanges s l)

include h

theorem only_par_eq (hl : Part.parison ∉ l) : t.par = s.par := h.2 .parison hl

theorem only_gaf_eq (hl : Part.gaffer ∉ l) : t.gaf = s.gaf := h.2 .gaffer hl

theorem only_fab_eq (hl : Part.fabric ∉ l) : t.fab = s.fab := h.2 .fabric hl

/-- Which domains answer does not change while the feeds do not. -/
theorem only_hasDom (hl : Part.feeds ∉ l) (d : Nat) : t.hasDom d = s.hasDom d := by
  obtain ⟨hA, hB⟩ := h.2 .feeds hl
  simp only [State.hasDom, State.feed, hA, hB]

end

theorem fld_one_lt (l : List Byte) (o : Nat) : fld l o 1 < 256 := by
  unfold fld slice
  match l.drop o with
  | [] => simp [ofLe]
  | x :: _ => have := x.isLt; simp [ofLe]; omega

/-! ### Every gate at once -/

/-- A fold over ports of an operation that sets one port's gates to `v` and keeps `P`. -/
theorem foldl_gates {P : State → Prop} {f : State → Nat → State} {v : Nat → Nat}
    (hP : ∀ s p, P s → P (f s p))
    (hf : ∀ s p, P s → ∀ q, Tab.get 0 (f s p).fab.gates q =
      if q = p then v p else Tab.get 0 s.fab.gates q)
    (l : List Nat) (s : State) (hs : P s) (q : Nat) :
    Tab.get 0 (l.foldl f s).fab.gates q = if q ∈ l then v q else Tab.get 0 s.fab.gates q := by
  induction l generalizing s with
  | nil => simp
  | cons p l ih =>
    rw [List.foldl_cons, ih _ (hP s p hs), hf s p hs]
    by_cases hq : q = p <;> simp [hq]

theorem closeGates_all (s : State) (p q : Nat) :
    Tab.get 0 (s.closeGates p 255).fab.gates q = if q = p then 0 else Tab.get 0 s.fab.gates q := by
  rw [closeGates_gates]
  congr 1
  have hmask := Nat.and_two_pow_sub_one_eq_mod (Tab.get 0 s.fab.gates p) 8
  rw [hmask]
  omega

theorem closeAll_gates (s : State) {q : Nat} (hq : q < 25) :
    Tab.get 0 s.closeAll.fab.gates q = 0 := by
  rw [State.closeAll, foldl_gates (P := fun _ => True) (v := fun _ => 0) (fun _ _ _ => trivial)
    (fun s p _ q => closeGates_all s p q) _ s trivial, if_pos (List.mem_range.2 hq)]

/-- One port's gates at an activation (R83, R154). -/
def State.initGate (p : Par) (s : State) (q : Nat) : State :=
  if !s.hasDom (portDomain q) then s.setGates q 0
  else s.gatesTo q (if q = 24 then 255 else fld p.manifest (64 + 16 * q) 1)

theorem initGates_eq (s : State) (p : Par) :
    s.initGates p = (List.range 25).foldl (State.initGate p) s := rfl

theorem initGate_hasDom (p : Par) (s : State) (q d : Nat) :
    (s.initGate p q).hasDom d = s.hasDom d := by
  rw [State.initGate]
  split
  · rfl
  · exact only_hasDom (State.gatesTo_touch ..) (by decide) d

theorem initGate_ledger (p : Par) (s : State) (q : Nat) :
    (s.initGate p q).fab.ledger = s.fab.ledger := by
  rw [State.initGate]
  split
  · rfl
  · exact gatesTo_ledger ..

theorem initGates_ledger (s : State) (p : Par) : (s.initGates p).fab.ledger = s.fab.ledger := by
  rw [initGates_eq]
  exact foldl_keeps (fun u : State => u.fab.ledger) (State.initGate p) (initGate_ledger p) _ s

/-- The initial gates of a port: none without its domain, else those of the manifest. -/
def Par.initMask (p : Par) (has : Nat → Bool) (q : Nat) : Nat :=
  if has (portDomain q) then (if q = 24 then 255 else fld p.manifest (64 + 16 * q) 1) else 0

theorem initGate_gates (p : Par) (s : State) (r q : Nat) :
    Tab.get 0 (s.initGate p r).fab.gates q =
      if q = r then p.initMask s.hasDom r else Tab.get 0 s.fab.gates q := by
  have hbyte := fld_one_lt p.manifest (64 + 16 * r)
  rw [State.initGate, Par.initMask]
  cases s.hasDom (portDomain r)
  · exact setGates_gates s r 0 q
  · refine (gatesTo_gates s r _ q).trans ?_
    congr 1
    simp only [if_true]
    split <;> omega

/-- Every frame port whose domain is present has its initial gates (R83). -/
theorem initGates_gates {s : State} (p : Par) {q : Nat} (hq : q < 24)
    (hdom : s.hasDom (portDomain q) = true) :
    Tab.get 0 (s.initGates p).fab.gates q = fld p.manifest (64 + 16 * q) 1 := by
  have hall := foldl_gates (P := fun u => u.hasDom = s.hasDom) (f := State.initGate p)
    (v := p.initMask s.hasDom)
    (fun u r hu => (funext (initGate_hasDom p u r)).trans hu)
    (fun u r hu j => hu ▸ initGate_gates p u r j) (List.range 25) s rfl q
  rw [initGates_eq, hall, if_pos (List.mem_range.2 (by omega)), Par.initMask, if_pos hdom,
    if_neg (by omega)]

/-! ### The strands begin (R44, R83) -/

/-- The gaffers issue from `t` on, with nothing issued and nothing waiting. -/
def State.beganAt (s : State) (t : Nat) : Prop :=
  s.gaf.active = true ∧ s.gaf.startNet = t ∧ s.gaf.issued = [] ∧ s.gaf.waiting = []

theorem beganAt_of_only {s u : State} {l : List Part} {t : Nat} (h : u.onlyChanges s l)
    (hl : Part.gaffer ∉ l) (hs : s.beganAt t) : u.beganAt t := by
  rwa [State.beganAt, only_gaf_eq h hl]

theorem beginStrands_beganAt (s : State) (t : Nat) : (s.beginStrands t).beganAt t := by
  rw [State.beginStrands]
  refine beganAt_of_only (State.paceStart_touch _) (by decide) ?_
  refine beganAt_of_only (State.activateTracker_touch _) (by decide) ?_
  exact ⟨rfl, rfl, rfl, rfl⟩

/-- The strands begin at `t` and the ports take the initial gates of `p`. -/
def State.openStrands (s : State) (p : Par) (t : Nat) : State :=
  (s.beginStrands t).overUpdate.initGates p

/-- `u` is `s` once its strands have begun at `t` with the initial gates of `p`: of the parison only
the pending one-off actions may differ, and the ledger is the same. -/
structure State.openedFrom (u s : State) (p : Par) (t : Nat) : Prop where
  began : u.beganAt t
  gates : ∀ q, q < 24 → s.hasDom (portDomain q) = true →
    Tab.get 0 u.fab.gates q = fld p.manifest (64 + 16 * q) 1
  ledger : u.fab.ledger = s.fab.ledger
  par : u.par = { s.par with oneOffs := u.par.oneOffs }

theorem openStrands_openedFrom (s : State) (p : Par) (t : Nat) :
    (s.openStrands p t).openedFrom s p t := by
  have hbegin := State.beginStrands_touch s t
  have hover := State.overUpdate_touch (s.beginStrands t)
  have hinit := State.initGates_touch (s.beginStrands t).overUpdate p
  have hpar := (only_par_eq hinit (by decide)).trans
    ((only_par_eq hover (by decide)).trans (only_par_eq hbegin (by decide)))
  rw [State.openStrands]
  refine ⟨?_, fun q hq hdom => ?_, ?_, ?_⟩
  · exact beganAt_of_only hinit (by decide)
      (beganAt_of_only hover (by decide) (beginStrands_beganAt s t))
  · refine initGates_gates p hq ?_
    rw [only_hasDom hover (by decide), only_hasDom hbegin (by decide), hdom]
  · rw [initGates_ledger, only_fab_eq hover (by decide),
      only_fab_eq hbegin (by decide)]
  · rw [hpar]

theorem State.openedFrom.of_only {s u v : State} {p : Par} {t : Nat} {l : List Part}
    (hu : u.openedFrom s p t) (h : v.onlyChanges u l) (hgaf : Part.gaffer ∉ l)
    (hfab : Part.fabric ∉ l) (hpar : Part.parison ∉ l) : v.openedFrom s p t := by
  have hf := only_fab_eq h hfab
  refine ⟨beganAt_of_only h hgaf hu.began, ?_, ?_, ?_⟩
  · rw [hf]; exact hu.gates
  · rw [hf]; exact hu.ledger
  · rw [only_par_eq h hpar]; exact hu.par

theorem recheckOneOffs_par (s : State) (p : Par) (from_ : Nat) :
    (s.recheckOneOffs p from_).par =
      { s.par with oneOffs := (s.recheckOneOffs p from_).par.oneOffs } := rfl

theorem State.openedFrom.recheckOneOffs {s u : State} {p : Par} {t : Nat} (hu : u.openedFrom s p t)
    (q : Par) (from_ : Nat) : (u.recheckOneOffs q from_).openedFrom s p t := by
  have honly := State.recheckOneOffs_touch u q from_
  have hf := only_fab_eq honly (by decide)
  refine ⟨beganAt_of_only honly (by decide) hu.began, ?_, ?_, ?_⟩
  · rw [hf]; exact hu.gates
  · rw [hf]; exact hu.ledger
  · rw [recheckOneOffs_par, hu.par]

/-! ### The units take their definitions (R83) -/

theorem fabActivate_gates (s : State) (old : Option Par) (p : Par) :
    (s.fabActivate old p).fab.gates = s.fab.gates := rfl

theorem fabActivate_ledger (s : State) (old : Option Par) (p : Par) :
    (s.fabActivate old p).fab.ledger = s.fab.ledger := rfl

/-- Of the fabric the units' activation reaches the policers and quotas alone. -/
theorem unitsActivate_fab (s : State) (old : Option Par) (p : Par) :
    (s.unitsActivate old p).fab = (s.fabActivate old p).fab := by
  unfold State.unitsActivate
  rw [only_fab_eq (State.measActivate_touch ..) (by decide),
    only_fab_eq (State.triadActivate_touch ..) (by decide),
    only_fab_eq (State.bridgeActivate_touch ..) (by decide),
    only_fab_eq (State.canActivate_touch ..) (by decide),
    only_fab_eq (State.portsActivate_touch ..) (by decide)]

/-! ### A warm activation (R83) -/

/-- A state about to begin the strands of `p` warm: `p` in force, the ledger flipped, the units on
their new definitions. -/
def State.warmReady (s : State) (p : Par) : State :=
  let v := s.spineCount
  (({ v with par := { v.par with force := some p, committed := none, cold := false, activ := none } } :
    State).flipLedger).unitsActivate s.par.force p

theorem activateWarm_eq (s : State) (p : Par) (t : Nat) :
    s.activateWarm p t =
      ((((s.warmReady p).openStrands p t).recheckOneOffs p 0).pairBegin).activated p t false := rfl

theorem activateWarm_openedFrom (s : State) (p : Par) (t : Nat) :
    (s.activateWarm p t).openedFrom (s.warmReady p) p t := by
  rw [activateWarm_eq]
  exact (((openStrands_openedFrom _ p t).recheckOneOffs p 0).of_only (State.pairBegin_touch _)
    (by decide) (by decide) (by decide)).of_only (State.activated_touch ..)
      (by decide) (by decide) (by decide)

theorem warmReady_par (s : State) (p : Par) :
    (s.warmReady p).par =
      { s.spineCount.par with force := some p, committed := none, cold := false, activ := none } :=
  only_par_eq (State.unitsActivate_touch ..) (by decide)

theorem warmReady_live (s : State) (p : Par) :
    (s.warmReady p).fab.ledger.live = s.fab.ledger.pending := by
  have hfab : s.spineCount.fab = s.fab := only_fab_eq (State.spineCount_touch s) (by decide)
  rw [State.warmReady, unitsActivate_fab, fabActivate_ledger, State.flipLedger]
  exact congrArg (fun f : Fab => f.ledger.pending) hfab

theorem warmReady_hasDom (s : State) (p : Par) (d : Nat) :
    (s.warmReady p).hasDom d = s.hasDom d :=
  (only_hasDom (State.unitsActivate_touch ..) (by decide) d).trans
    (only_hasDom (State.spineCount_touch s) (by decide) d)

/-! ### A cold activation (R84) -/

/-- Every gate is closed, no action is issued, the ledger is empty, and `p` waits for its load. -/
def State.coldStopped (s : State) (p : Par) (t : Nat) : State :=
  let v := s.spineCount.closeAll.triadHalt
  { v with
    gaf := { v.gaf with active := false, waiting := [], paused := none }, pace := pace0
    fab := { v.fab with ledger := { v.fab.ledger with slots := [], bad := [] } }
    par := { v.par with
      force := none, committed := none, cold := false, activ := none
      gap := some { net := t, par := p, start := none }
      oneOffs := v.oneOffsLeft.filter fun o => t + 100000000 ≤ o.net } }

/-- After the stop only the bridge's windows switch, and the activation is counted and reported. -/
theorem activateCold_eq (s : State) (p : Par) (t : Nat) : ∃ n,
    s.activateCold p t = (((s.coldStopped p t).countN (tlStrand 17) n).bridgeActivate
      s.spineCount.closeAll.triadHalt.windows []).activated p t true :=
  ⟨_, rfl⟩

theorem activateCold_only (s : State) (p : Par) (t : Nat) :
    (s.activateCold p t).onlyChanges (s.coldStopped p t)
      [.interrupts, .tallies, .daybook, .outputs, .flash, .bridge, .vault] := by
  obtain ⟨n, hn⟩ := activateCold_eq s p t
  rw [hn]
  exact only_step (only_step (only_sub (State.countN_touch ..) rfl) (State.bridgeActivate_touch ..))
    (State.activated_touch ..)

theorem coldStopped_gates (s : State) (p : Par) (t : Nat) {q : Nat} (hq : q < 25) :
    Tab.get 0 (s.coldStopped p t).fab.gates q = 0 := by
  have hfab : s.spineCount.closeAll.triadHalt.fab = s.spineCount.closeAll.fab :=
    only_fab_eq (State.triadHalt_touch _) (by decide)
  exact (congrArg (fun f : Fab => Tab.get 0 f.gates q) hfab).trans (closeAll_gates _ hq)

/-! ### The load of a cold activation (R84) -/

/-- The state in which the units load `g`'s parison, its strand to begin at `at_`. -/
def State.loaded (s : State) (g : ColdGap) (at_ : Nat) : State :=
  let gen := s.fab.ledger.pending
  { s with
    par := { s.par with force := some g.par, gap := some { g with start := some at_ } }
    fab := { s.fab with ledger := { s.fab.ledger with
      slots := (placeAll gen none g.par.entries []).getD [], live := gen } } }

theorem execParisonLoadComplete_loads {s : State} {g : ColdGap} (dt : Nat) (hg : s.par.gap = some g)
    (hstart : g.start = none) (hup : s.tellerUp = true) :
    let e := s.elapse dt
    let b := ceilMul (max e.net (g.net + 100000000)) g.par.round
    exec (.parisonLoadComplete dt) s =
      go (((e.loaded g b).unitsActivate none g.par).recheckOneOffs g.par b) := by
  have hup' : (s.elapse dt).tellerUp = true := hup
  simp only [exec, execParisonLoadComplete, State.elapse_par, hg, hstart, hup', Option.isSome_none,
    Bool.not_true, Bool.or_self, Bool.false_eq_true, if_false]
  rfl

theorem execParisonLoadComplete_idle {s : State} (dt : Nat)
    (h : ∀ g, s.par.gap = some g → g.start.isSome = true) :
    exec (.parisonLoadComplete dt) s = go (s.elapse dt) := by
  simp only [exec, execParisonLoadComplete, State.elapse_par]
  split
  · rfl
  · next g hg => simp [h g hg]

/-! ### The start of a cold strand (R84) -/

/-- The gap of a cold activation is over. -/
def State.gapOver (s : State) : State := { s with par := { s.par with gap := none } }

/-- The strands of `p` begin at `t` after a cold activation at `at_`, and the gap is reported. -/
def State.coldStart (s : State) (p : Par) (t at_ : Nat) : State :=
  ((s.gapOver.openStrands p t).pairBegin).note (ev 2 3) (lenArg (t - at_))

theorem coldStart_openedFrom (s : State) (p : Par) (t at_ : Nat) :
    (s.coldStart p t at_).openedFrom s.gapOver p t :=
  ((openStrands_openedFrom _ p t).of_only (State.pairBegin_touch _) (by decide) (by decide)
    (by decide)).of_only (State.note_touch ..) (by decide) (by decide) (by decide)

theorem execColdStrandStart_starts {s : State} {g : ColdGap} {b : Nat} (dt : Nat)
    (hg : s.par.gap = some g) (hstart : g.start = some b) (hdue : b ≤ (s.elapse dt).net + 2) :
    exec (.coldStrandStart dt) s = go ((s.elapse dt).coldStart g.par b g.net) := by
  have hnow : ¬ (s.elapse dt).net + 2 < b := Nat.not_lt.2 hdue
  simp only [exec, execColdStrandStart, State.elapse_par, hg, hstart, hnow, if_false]
  rfl

theorem execColdStrandStart_idle {s : State} (dt : Nat)
    (h : ∀ g b, s.par.gap = some g → g.start = some b → (s.elapse dt).net + 2 < b) :
    exec (.coldStrandStart dt) s = go (s.elapse dt) := by
  simp only [exec, execColdStrandStart, State.elapse_par]
  split
  · next g hg =>
    split
    · next b hb => rw [if_pos (h g b hg hb)]
    · rfl
  · rfl

/-! ### ACTIVATION -/

theorem execActivation_due {s : State} {a : Activ} {p : Par} (dt : Nat) (ha : s.par.activ = some a)
    (hp : s.par.committed = some p) (hdue : a.net ≤ (s.elapse dt).net + 2)
    (hrebind : s.inaug.pending = none) :
    exec (.activation dt) s = if s.par.cold then go ((s.elapse dt).activateCold p a.net)
      else go ((s.elapse dt).activateWarm p a.net) := by
  have hnow : ¬ (s.elapse dt).net + 2 < a.net := Nat.not_lt.2 hdue
  have hsame : (s.elapse dt).rebindBy a.net = s.elapse dt := by simp [State.rebindBy, hrebind]
  simp only [exec, execActivation, State.elapse_par, ha, hp, hnow, if_false, hsame]

theorem execActivation_idle {s : State} (dt : Nat)
    (h : s.par.activ = none ∨ s.par.committed = none ∨
      ∃ a, s.par.activ = some a ∧ (s.elapse dt).net + 2 < a.net) :
    exec (.activation dt) s = go (s.elapse dt) := by
  simp only [exec, execActivation, State.elapse_par]
  split
  · next a p ha hp =>
    obtain h | h | ⟨a', ha', hlate⟩ := h
    · simp [h] at ha
    · simp [h] at hp
    · obtain rfl : a = a' := Option.some.inj (ha.symm.trans ha')
      rw [if_pos hlate]
  · rfl

/-! ### The obligation -/

/-- Settles O24: what each step of an activation leaves to the next, and that the pins leave it all. -/
theorem activationSwitchesParisons : Obligations.ActivationSwitchesParisons := by
  refine ⟨?_, ?_, ?_, ?_, ?_, ?_, ?_⟩
  · intro s dt a p ha hp hdue hrebind hwarm
    have hopen := (activateWarm_openedFrom (s.elapse dt) p a.net).of_only (pins_only _ [])
      (by decide) (by decide) (by decide)
    have hpar := hopen.par
    rw [warmReady_par] at hpar
    obtain ⟨hactive, hstart, hissued, hwaiting⟩ := hopen.began
    refine ⟨_, by rw [execActivation_due dt ha hp hdue hrebind, hwarm]; rfl, by rw [hpar], by rw [hpar],
      by rw [hpar], by rw [hopen.ledger, warmReady_live]; rfl, hactive, hstart, hissued, hwaiting,
      fun q hq hdom => hopen.gates q hq ?_⟩
    rw [warmReady_hasDom]
    exact hdom
  · intro s dt a p ha hp hdue hrebind hcold
    have honly := only_pins (activateCold_only (s.elapse dt) p a.net)
    have hpar := only_par_eq honly (by decide)
    have hgaf := only_gaf_eq honly (by decide)
    have hfab := only_fab_eq honly (by decide)
    refine ⟨_, by rw [execActivation_due dt ha hp hdue hrebind, hcold]; rfl, by rw [hpar]; rfl,
      by rw [hpar]; rfl, by rw [hpar]; rfl, by rw [hpar]; rfl, by rw [hgaf]; rfl, by rw [hfab]; rfl,
      fun q hq => ?_⟩
    rw [hfab]
    exact coldStopped_gates _ p a.net hq
  · intro s dt h
    rw [execActivation_idle dt h]
    exact go_elapse_only s dt
  · intro s dt g hg hstart hup hround
    have hunits := fun u : State => State.unitsActivate_touch u none g.par
    have hcheck := fun (u : State) b => State.recheckOneOffs_touch u g.par b
    have hround' := ceilMul_mod (max (s.elapse dt).net (g.net + 100000000)) hround
    have hnext := le_ceilMul (max (s.elapse dt).net (g.net + 100000000)) hround
    obtain ⟨hnow, hgap⟩ := Nat.max_le.1 hnext
    refine ⟨_, _, execParisonLoadComplete_loads dt hg hstart hup, ?_, ?_, hround', hgap, hnow, ?_, ?_⟩
    · rw [State.pins_par, recheckOneOffs_par, only_par_eq (hunits _) (by decide)]; rfl
    · rw [State.pins_par, recheckOneOffs_par, only_par_eq (hunits _) (by decide)]; rfl
    · rw [State.pins_gaf, only_gaf_eq (hcheck _ _) (by decide), only_gaf_eq (hunits _) (by decide)]; rfl
    · rw [State.pins_fab, only_fab_eq (hcheck _ _) (by decide), unitsActivate_fab,
        fabActivate_gates]; rfl
  · intro s dt g b hg hstart hdue
    have hopen := (coldStart_openedFrom (s.elapse dt) g.par b g.net).of_only (pins_only _ [])
      (by decide) (by decide) (by decide)
    obtain ⟨hactive, hbegins, hissued, hwaiting⟩ := hopen.began
    exact ⟨_, execColdStrandStart_starts dt hg hstart hdue, by rw [hopen.par]; rfl,
      by rw [hopen.par]; rfl, hactive, hbegins, hissued, hwaiting, hopen.gates⟩
  · intro s dt h
    rw [execParisonLoadComplete_idle dt h]
    exact go_elapse_only s dt
  · intro s dt h
    rw [execColdStrandStart_idle dt h]
    exact go_elapse_only s dt

end Sys2Proof.Machine

/-! SUPPORT. Chapter 4, the ledger (R135 to R141) and the teller's queue (R153). -/

namespace Sys2Proof.Machine

/-! ### The ledger -/

/-- A slot found for a key is one of the key's four; its word is good, live in the generation and
holds the key (R135, R138, R141). -/
theorem Ledger.find_eq_some {l : Ledger} {gen key n : Nat} (h : l.find gen key = some n) :
    (∃ w, w < 4 ∧ n = slotNo w key) ∧ n ∉ l.bad ∧ bit (entryGen (Tab.get 0 l.slots n)) gen = true ∧
      entryKey (Tab.get 0 l.slots n) = key := by
  have hslot := List.mem_of_find?_eq_some h
  have hword := List.find?_some h
  simp only [List.mem_map, List.mem_range] at hslot
  simp only [Bool.and_eq_true, decide_eq_true_eq, Bool.not_eq_true', List.contains_eq_mem,
    decide_eq_false_iff_not] at hword
  obtain ⟨w, hw, hn⟩ := hslot
  obtain ⟨⟨hlive, hkey⟩, hgood⟩ := hword
  exact ⟨⟨w, hw, hn.symm⟩, hgood, hlive, hkey⟩

/-- What MB_LEDGER_READ returns of slot `n`: a word that is empty or failed reads as not found. -/
def Ledger.readOut (l : Ledger) (n : Nat) : List Byte :=
  let e := Tab.get 0 l.slots n
  let found := entryGen e ≠ 0 && !l.bad.contains n
  le 1 (bnat found) ++ le 1 (n / 4096) ++ le 2 (n % 4096) ++ le 1 (n / 1024) ++
    le 1 (l.phys (n / 1024)) ++ zeros 2 ++ (if found then le 16 e else zeros 16)

/-- A request of MB_LEDGER_READ that names a way and a bucket and no key reads that slot. -/
theorem cmdLedgerRead_slot {b : List Byte} (hlen : b.length = 24) (hmode : fld b 0 1 = 0)
    (hway : fld b 1 1 ≤ 3) (hbuck : fld b 2 2 ≤ 4095) (hzero : zeroAt b 4 20 = true) :
    cmdLedgerRead.shape b = true ∧ ∀ s, cmdLedgerRead.run b s =
      ans stOk (s.fab.ledger.readOut (4096 * fld b 1 1 + fld b 2 2)) s := by
  have hrsv : zeroAt b 4 4 = true := zeroAt_part hzero 0 (by decide)
  have hkey : fld b 8 16 = 0 := fld_eq_zero (zeroAt_part hzero 4 (by decide))
  refine ⟨by simp [cmdLedgerRead, hlen, hrsv], fun s => ?_⟩
  simp [cmdLedgerRead, hmode, hkey, Nat.not_lt.2 hway, Nat.not_lt.2 hbuck, Ledger.readOut, le]

/-- A completed rewrite takes its slot from the failed ones (R141). -/
theorem execLedgerRewriteComplete_up {s : State} (dt : Nat) (w : Fin 4) (b : BitVec 12)
    (hup : s.tellerUp = true) :
    execLedgerRewriteComplete dt w b s = go { s.elapse dt with fab := { s.fab with ledger :=
      { s.fab.ledger with bad := s.fab.ledger.bad.filter (· != 4096 * w.val + b.toNat) } } } := by
  have hup' : (s.elapse dt).tellerUp = true := hup
  simp [execLedgerRewriteComplete, hup']

/-! ### The teller's queue -/

theorem dropCopy_eq_erase (c : Copy) (l : List Copy) : dropCopy c l = l.erase c := by
  induction l with
  | nil => rfl
  | cons d l ih => simp [dropCopy, List.erase_cons, ih]

/-- The teller takes the first copy that waits for it (R153). -/
theorem execTellerTakesFrame_first {s : State} (dt : Nat) {l₁ l₂ : List Copy} {c : Copy}
    (hup : s.tellerUp = true) (hcopies : s.fab.copies = l₁ ++ c :: l₂)
    (hbefore : ∀ d ∈ l₁, d.port ≠ 25) (hc : c.port = 25) :
    execTellerTakesFrame dt s = go ((s.elapse dt).take c).freeFrames := by
  have hup' : (s.elapse dt).tellerUp = true := hup
  have hfirst : s.fab.copies.find? (fun d => d.port = 25) = some c :=
    List.find?_eq_some_iff_append.2 ⟨by simpa using hc, l₁, l₂, hcopies, by simpa using hbefore⟩
  simp [execTellerTakesFrame, hfirst, hup']

theorem execTellerTakesFrame_idle {s : State} (dt : Nat) (h : ∀ c ∈ s.fab.copies, c.port ≠ 25) :
    execTellerTakesFrame dt s = go (s.elapse dt) := by
  have hnone : s.fab.copies.find? (fun c => c.port = 25) = none :=
    List.find?_eq_none.2 (by simpa using h)
  simp [execTellerTakesFrame, hnone]

/-! ### The obligation -/

/-- Settles O32: a slot found by what the search tests; a slot read by the request's layout; a
rewrite and the teller's frame by what leaves the list of failed slots and the list of copies. -/
theorem ledgerAndTellerQueue : Obligations.LedgerAndTellerQueue := by
  refine ⟨fun l gen key n h => Ledger.find_eq_some h, ?_, ?_, ?_, ?_⟩
  · intro s dt r hfree hplain hlen hmode hway hbuck hzero n e found
    obtain ⟨hshape, hrun⟩ := cmdLedgerRead_slot hlen hmode hway hbuck hzero
    have hread : s.fab.ledger.readOut n = le 1 (bnat found) ++ le 1 (fld r.body 1 1) ++
        le 2 (fld r.body 2 2) ++ le 1 (n / 1024) ++ le 1 (s.fab.ledger.phys (n / 1024)) ++ zeros 2 ++
        (if found then le 16 e else zeros 16) := by
      rw [Ledger.readOut, show n / 4096 = fld r.body 1 1 by omega,
        show n % 4096 = fld r.body 2 2 by omega]
    rw [← hread]
    exact mailbox_read s dt cmdLedgerRead r (by decide) hfree hplain hshape _ _ (hrun _)
  · intro s dt w b hup
    have hdone := execLedgerRewriteComplete_up dt w b hup
    refine ⟨_, hdone, execLedgerRewriteComplete_touch dt w b s _ hdone, by rw [State.pins_fab],
      fun n => ?_⟩
    rw [State.pins_fab]
    simp only [List.mem_filter, bne_iff_ne]
  · intro s dt l₁ l₂ c hup hcopies hbefore hc
    have htaken := execTellerTakesFrame_first dt hup hcopies hbefore hc
    refine ⟨_, htaken, ?_, execTellerTakesFrame_touch dt s _ htaken⟩
    have hnew : c ∉ l₁ := fun hmem => hbefore c hmem hc
    calc ((s.elapse dt).take c).freeFrames.pins.fab.copies
        = s.fab.copies.erase c := by rw [State.pins_fab]; exact dropCopy_eq_erase c _
      _ = l₁ ++ l₂ := by rw [hcopies, List.erase_append_right _ hnew, List.erase_cons_head]
  · intro s dt h
    obtain ⟨t, hgo, honly⟩ := go_elapse_only s dt
    exact ⟨t, (execTellerTakesFrame_idle dt h).trans hgo, honly⟩

end Sys2Proof.Machine

/-! SUPPORT. Chapter 5, the port store: slots and commits (R174 to R178), what a commit and the posting
to the host ring leave of the other ports and of the tallies (R199, R200). -/

namespace Sys2Proof.Machine

/-! ### Slots -/

@[simp] theorem PdPort.slot_setSlot_self (p : PdPort) (i : Nat) (v : Slot) :
    (p.setSlot i v).slot i = v := by
  by_cases h0 : i = 0
  · simp [PdPort.setSlot, PdPort.slot, h0]
  · by_cases h1 : i = 1 <;> simp [PdPort.setSlot, PdPort.slot, h0, h1]

/-- Writing one of the three slots leaves the other two. -/
theorem PdPort.slot_setSlot_ne (p : PdPort) {i j : Nat} (v : Slot) (hi : i < 3) (hj : j < 3)
    (hne : i ≠ j) : (p.setSlot j v).slot i = p.slot i := by
  obtain rfl | rfl | rfl : j = 0 ∨ j = 1 ∨ j = 2 := by omega
  · simp [PdPort.setSlot, PdPort.slot, hne]
  · simp [PdPort.setSlot, PdPort.slot, hne]
  · have h0 : i = 0 ∨ i = 1 := by omega
    rcases h0 with rfl | rfl <;> rfl

/-- Writing a slot touches the slots alone. -/
theorem PdPort.setSlot_keeps (p : PdPort) (i : Nat) (v : Slot) :
    p.setSlot i v = { p with
      slot0 := (p.setSlot i v).slot0, slot1 := (p.setSlot i v).slot1
      slot2 := (p.setSlot i v).slot2 } := by
  unfold PdPort.setSlot
  split
  · rfl
  · split <;> rfl

@[simp] theorem PdPort.setSlot_conf (p : PdPort) (i : Nat) (v : Slot) : (p.setSlot i v).conf = p.conf :=
  (congrArg PdPort.conf (p.setSlot_keeps i v)).trans rfl
@[simp] theorem PdPort.setSlot_latest (p : PdPort) (i : Nat) (v : Slot) :
    (p.setSlot i v).latest = p.latest := (congrArg PdPort.latest (p.setSlot_keeps i v)).trans rfl
@[simp] theorem PdPort.setSlot_expired (p : PdPort) (i : Nat) (v : Slot) :
    (p.setSlot i v).expired = p.expired := (congrArg PdPort.expired (p.setSlot_keeps i v)).trans rfl
@[simp] theorem PdPort.setSlot_expiries (p : PdPort) (i : Nat) (v : Slot) :
    (p.setSlot i v).expiries = p.expiries := (congrArg PdPort.expiries (p.setSlot_keeps i v)).trans rfl

/-- Marking LATEST in place: its slot is the port's value. -/
@[simp] theorem PdPort.value_setSlot_latest (p : PdPort) (v : Slot) :
    (p.setSlot p.latest v).value = v := by simp [PdPort.value]

/-! ### A commit turns the roles of the slots (R177) -/

@[simp] theorem PdPort.commit_value (p : PdPort) (h : Option Nat) (v : Slot) :
    (p.commit h v).value = v := p.slot_setSlot_self p.write v
@[simp] theorem PdPort.commit_conf (p : PdPort) (h : Option Nat) (v : Slot) :
    (p.commit h v).conf = p.conf := p.setSlot_conf p.write v
@[simp] theorem PdPort.commit_expired (p : PdPort) (h : Option Nat) (v : Slot) :
    (p.commit h v).expired = p.expired := p.setSlot_expired p.write v
@[simp] theorem PdPort.commit_expiries (p : PdPort) (h : Option Nat) (v : Slot) :
    (p.commit h v).expiries = p.expiries := p.setSlot_expiries p.write v

/-- A commit writes no other slot than WRITE. -/
theorem PdPort.slot_commit_ne (p : PdPort) {i : Nat} (h : Option Nat) (v : Slot) (hi : i < 3)
    (hw : p.write < 3) (hne : i ≠ p.write) : (p.commit h v).slot i = p.slot i :=
  p.slot_setSlot_ne v hi hw hne

/-- The next WRITE is neither the new LATEST nor the HELD slot: the third slot, or the previous LATEST
where the third is held. -/
theorem PdPort.commit_write {p : PdPort} {h : Nat} (v : Slot) (hl : p.latest < 3) (hw : p.write < 3)
    (hlw : p.latest ≠ p.write) :
    (p.commit (some h) v).write < 3 ∧ p.write ≠ (p.commit (some h) v).write ∧
      h ≠ (p.commit (some h) v).write := by
  simp only [PdPort.commit, Option.some.injEq]
  split <;> omega

/-! ### The ports of a state -/

theorem port_setPort (s : State) (i j : Nat) (p : Option PdPort) :
    (s.setPort i p).port j = if j = i then p else s.port j := Tab.get_set none s.pd.ports i j p

@[simp] theorem port_setPort_self (s : State) (i : Nat) (p : Option PdPort) :
    (s.setPort i p).port i = p := by simp [port_setPort]

theorem port_setPort_ne (s : State) {i j : Nat} (p : Option PdPort) (h : j ≠ i) :
    (s.setPort i p).port j = s.port j := by simp [port_setPort, h]

/-- What leaves the port store alone leaves every port. -/
theorem port_of_pd {s t : State} (h : t.pd = s.pd) (i : Nat) : t.port i = s.port i := by
  rw [State.port, h, State.port]

/-! ### Posting to the host ring (R199, R200) -/

@[simp] theorem pdVector_ports (s : State) : s.pdVector.pd.ports = s.pd.ports := by
  unfold State.pdVector
  split
  · dsimp only
    split
    · rfl
    · rw [State.raise_pd]
  · rw [State.raise_pd]

@[simp] theorem pdVector_tly (s : State) : s.pdVector.tly = s.tly :=
  (State.pdVector_touch s).2 .tallies (by decide)

/-- Posting a value leaves every port. -/
@[simp] theorem port_post (s : State) (i : Nat) (p : PdPort) (j : Nat) :
    (s.post i p).port j = s.port j := by
  unfold State.post
  split
  · rfl
  · dsimp only
    split
    · rfl
    · split
      · rfl
      · rw [State.port, pdVector_ports]; rfl

/-- Posting a value counts a full ring or an entry that does not fit, and no other tally. -/
theorem post_tally (s : State) (i : Nat) (p : PdPort) {k : Nat} (h13 : k ≠ tlPd 13)
    (h14 : k ≠ tlPd 14) : Tab.get 0 (s.post i p).tly.live k = Tab.get 0 s.tly.live k := by
  unfold State.post
  split
  · rfl
  · dsimp only
    split
    · exact count_tally _ _ 1 _ h13
    · split
      · exact count_tally _ _ 1 _ h14
      · rw [pdVector_tly]; rfl

/-! ### Commits (R175 to R180) -/

section
variable (s : State) (i kind time seq quality : Nat) (etb optrn : U32) (data : List Byte)
  (restart : Bool)

/-- A commit gives its port the value with its header and COMMITS one higher; the record and the count
of expiries stay, and the expiry mark where the timer is not restarted. -/
theorem commitAs_port_self {p : PdPort} (hp : s.port i = some p) :
    ∃ q, (s.commitAs i kind time seq quality etb optrn data restart).port i = some q ∧
      q.conf = p.conf ∧ q.expiries = p.expiries ∧ (restart = false → q.expired = p.expired) ∧
      q.value =
        { time := time, seq := seq, commits := (p.value.commits + 1) % 2 ^ 32
          quality := BitVec.ofNat 8 quality, kind := kind, etb := etb, optrn := optrn
          data := data } := by
  cases restart with
  | false =>
    simp only [State.commitAs, hp, port_post, port_setPort_self, Bool.false_eq_true, if_false]
    exact ⟨_, rfl, PdPort.commit_conf .., PdPort.commit_expiries .., fun _ => PdPort.commit_expired ..,
      PdPort.commit_value ..⟩
  | true =>
    simp only [State.commitAs, hp, port_post, port_setPort_self, if_true]
    exact ⟨_, rfl, p.commit_conf (s.pinOf i) _, p.commit_expiries (s.pinOf i) _, by simp,
      p.commit_value (s.pinOf i) _⟩

theorem commitAs_port_ne {j : Nat} (h : j ≠ i) :
    (s.commitAs i kind time seq quality etb optrn data restart).port j = s.port j := by
  unfold State.commitAs
  split
  · rfl
  · exact (port_post ..).trans (port_setPort_ne _ _ h)

theorem commitAs_tally {k : Nat} (h13 : k ≠ tlPd 13) (h14 : k ≠ tlPd 14) :
    Tab.get 0 (s.commitAs i kind time seq quality etb optrn data restart).tly.live k =
      Tab.get 0 s.tly.live k := by
  unfold State.commitAs
  split
  · rfl
  · exact (post_tally _ _ _ h13 h14).trans rfl

/-- A commit by anything but a frame: the value with KIND, time and quality given. -/
theorem commitPort_port_self {p : PdPort} (hp : s.port i = some p) :
    ∃ q, (s.commitPort i kind time quality data).port i = some q ∧ q.conf = p.conf ∧
      q.value.data = data ∧ q.value.kind = kind ∧ q.value.time = time ∧
      q.value.quality = BitVec.ofNat 8 quality ∧
      q.value.commits = (p.value.commits + 1) % 2 ^ 32 := by
  simp only [State.commitPort, hp]
  obtain ⟨q, hq, hconf, -, -, hvalue⟩ := commitAs_port_self s i kind time
    (if pDir p.conf = 1 then p.lastSeq else 0) quality s.inaug.etbTopo s.inaug.optrn data true hp
  exact ⟨q, hq, hconf, by simp [hvalue]⟩

theorem commitPort_port_ne {j : Nat} (h : j ≠ i) :
    (s.commitPort i kind time quality data).port j = s.port j := by
  unfold State.commitPort
  split
  · rfl
  · exact commitAs_port_ne s i _ _ _ _ _ _ _ _ h

end

end Sys2Proof.Machine

/-! SUPPORT. Chapter 5, HIF_PORT_WINDOW (R197, R198). -/

namespace Sys2Proof.Machine

@[simp] theorem slotHeader_length (v : Slot) (size : Nat) : (slotHeader v size).length = 32 := by
  simp [slotHeader, secNs]

@[simp] theorem PdPort.header_length (p : PdPort) (v : Slot) : (p.header v).length = 32 :=
  slotHeader_length _ _

/-! ### Pinning and releasing -/

theorem pinPort_defined {s : State} {port : BitVec 12} {p : PdPort}
    (hp : s.port port.toNat = some p) :
    s.pinPort port = { s with pd := { s.pd with
      pin := some { port := port.toNat, slot := p.latest }, winPin := true, winReady := false
      winStatus := 0, winPort := port } } := by
  simp only [State.pinPort, hp]

theorem pinPort_undefined {s : State} {port : BitVec 12} (hp : s.port port.toNat = none) :
    s.pinPort port = { s with pd := { s.pd with
      pin := none, winPin := true, winReady := false, winStatus := 1, winPort := port } } := by
  simp only [State.pinPort, hp]

/-- While the main die runs, a write with PIN 1 pins. -/
theorem execPortWindowPin_awake {s : State} (dt : Nat) (port : BitVec 12) (h : s.awake = true) :
    exec (.portWindowPin dt port) s = go ((s.elapse dt).pinPort port) := by
  have hawake : (s.elapse dt).awake = true := h
  simp only [exec, execPortWindowPin, State.when, hawake, if_true]

/-- While the main die runs, a write with PIN 0 releases. -/
theorem execPortWindowRelease_awake {s : State} (dt : Nat) (h : s.awake = true) :
    exec (.portWindowRelease dt) s = go (s.elapse dt).unpin := by
  have hawake : (s.elapse dt).awake = true := h
  simp only [exec, execPortWindowRelease, State.when, hawake, if_true]

theorem execPortWindowReady_pinned {s : State} (dt : Nat) {q : Pin} (h : s.pd.pin = some q) :
    exec (.portWindowReady dt) s =
      go { s.elapse dt with pd := { s.pd with winReady := true } } := by
  simp [exec, execPortWindowReady, h]

/-! ### The aperture -/

theorem aperture_released {s : State} (h : s.pd.pin = none) (o : Nat) : s.aperture o = 0 := by
  simp [State.aperture, h]

/-- The aperture of a slot that can be read: its header, then its payload. -/
theorem aperture_ready {s : State} {q : Pin} {p : PdPort} (hpin : s.pd.pin = some q)
    (hready : s.pd.winReady = true) (hp : s.port q.port = some p) (o : Nat) :
    s.aperture o = (p.header (p.slot q.slot) ++ (p.slot q.slot).data).getD o 0 := by
  simp [State.aperture, hpin, hready, hp]

/-! ### The obligation -/

/-- Settles O9: the window by what each write leaves of it, the aperture as header and payload in a
row, and the held slot by the roles that a commit gives out. -/
theorem portWindowPins : Obligations.PortWindowPins := by
  refine ⟨?_, ?_, ?_, ?_, ?_⟩
  · intro s dt port p hawake hp
    have hp' : (s.elapse dt).port port.toNat = some p := hp
    have hrun := execPortWindowPin_awake dt port hawake
    have honly := execPortWindowPin_touch dt port s _ hrun
    rw [pinPort_defined hp'] at hrun honly
    exact ⟨_, hrun, by simp, by simp, by simp, by simp, by simp, honly⟩
  · intro s dt port hawake hp
    have hp' : (s.elapse dt).port port.toNat = none := hp
    have hrun := execPortWindowPin_awake dt port hawake
    have honly := execPortWindowPin_touch dt port s _ hrun
    rw [pinPort_undefined hp'] at hrun honly
    exact ⟨_, hrun, by simp, by simp, by simp, by simp, honly⟩
  · intro s dt hawake
    have hrun := execPortWindowRelease_awake dt hawake
    have hpin : (s.elapse dt).unpin.pins.pd.pin = none := by rw [State.pins_pd]; rfl
    exact ⟨_, hrun, hpin, by rw [State.pins_pd]; rfl, by rw [State.pins_pd]; rfl,
      execPortWindowRelease_touch dt s _ hrun, aperture_released hpin⟩
  · intro s dt q p hpin hp
    have hrun := execPortWindowReady_pinned dt hpin
    refine ⟨_, hrun, by simp, by simpa using hpin, execPortWindowReady_touch dt s _ hrun, ?_⟩
    have hshows := aperture_ready (q := q) (p := p)
      (s := ({ s.elapse dt with pd := { s.pd with winReady := true } } : State).pins)
      (by simpa using hpin) (by simp) (by simpa [State.port] using hp)
    refine ⟨fun o ho => ?_, fun o => ?_⟩
    · have hin : o < (p.header (p.slot q.slot)).length := by rw [PdPort.header_length]; exact ho
      rw [hshows, List.getD_eq_getElem?_getD, List.getElem?_append_left hin,
        List.getD_eq_getElem?_getD]
    · have hpast : (p.header (p.slot q.slot)).length ≤ 32 + o := by
        rw [PdPort.header_length]; exact Nat.le_add_right 32 o
      rw [hshows, List.getD_eq_getElem?_getD, List.getElem?_append_right hpast,
        PdPort.header_length, Nat.add_sub_cancel_left, List.getD_eq_getElem?_getD]
  · intro p h v hl hw hh hlw hhw q
    obtain ⟨hwrite, hlatest, hheld⟩ := PdPort.commit_write (h := h) v hl hw hlw
    exact ⟨p.commit_value _ v, p.slot_commit_ne _ v hh hw hhw, hw, hwrite, hlatest, hheld⟩

end Sys2Proof.Machine

/-! SUPPORT. Chapter 5, the host's commands on ports and on the process-data ring (R195, R196, R199). -/

namespace Sys2Proof.Machine

theorem fld_drop (l : List Byte) (k o n : Nat) : fld (l.drop k) o n = fld l (k + o) n := by
  simp only [fld, slice, List.drop_drop]

/-- A mailbox row that completes at once leaves the port store as its run left it. -/
theorem mailbox_store {s : State} {dt : Nat} {c : Cmd} {r : Req} (l : List Part)
    (hop : c.op < 65536) (hfree : s.mbxFree) (hplain : r.plain) (hshape : c.shape r.body = true)
    {st : Nat} {b : List Byte} {u : State}
    (hrun : c.run r.body ((s.elapse dt).writeReq c.op r) = ans st b u)
    (hl : ∀ p ∈ answerParts, p ∈ l) (hu : u.onlyChanges ((s.elapse dt).writeReq c.op r) l) :
    ∃ t, go ((s.elapse dt).submit c r) = .next t ∧ t.answered c.op r st b ∧ t.onlyChanges s l ∧
      t.pd = u.pd := by
  obtain ⟨t, hgo, hans, honly, rfl⟩ :=
    mailbox_change s dt c r l hop hfree hplain hshape st b u hrun hl hu
  exact ⟨_, hgo, hans, honly, by simp⟩

/-! ### MB_PORT_WRITE (R196) -/

/-- A whole value for a publish port of SOURCE HOST is committed. -/
theorem cmdPortWrite_run {b : List Byte} {s : State} {p : PdPort} (hix : fld b 0 2 ≤ 4095)
    (hp : s.port (fld b 0 2) = some p) (hdir : pDir p.conf = 1) (hsource : pSource p.conf = 1)
    (hlen : b.length = 4 + pSize p.conf) :
    cmdPortWrite.run b s = ans stOk [] (s.commitPort (fld b 0 2) 1 s.net 0 (b.drop 4)) := by
  simp [cmdPortWrite, Nat.not_lt.2 hix, hp, hdir, hsource, hlen]

/-! ### MB_PORT_READ (R195) -/

/-- What MB_PORT_READ returns of a port: the sink's state, the last refusal, the expiries, and LATEST
with its header. -/
def PdPort.readOut (p : PdPort) : List Byte :=
  le 1 (if p.sinkAt.isNone then 0 else if p.expired then 2 else 1) ++ le 1 p.lastStep ++ zeros 2 ++
    le 4 p.expiries ++ le 4 p.lastSrc.toNat ++ zeros 4 ++ p.header p.value ++
    padTo 0 (pSize p.conf) p.value.data

/-- The port with its counts cleared, where CLEAR asks for it. -/
def PdPort.cleared (p : PdPort) (clear : Nat) : PdPort :=
  if clear = 1 then { p with expiries := 0, lastStep := 0, lastSrc := 0 } else p

/-- A port whose stored word is good is read out, and written back where CLEAR clears its counts. -/
theorem cmdPortRead_run {b : List Byte} {s : State} {p : PdPort} (hix : fld b 0 2 ≤ 4095)
    (hp : s.port (fld b 0 2) = some p) (hgood : fld b 0 2 ∉ s.pd.bad) :
    cmdPortRead.run b s = ans stOk p.readOut (if bit (fld b 2 2) 0 then
      s.setPort (fld b 0 2) (some { p with expiries := 0, lastStep := 0, lastSrc := 0 }) else s) := by
  simp [cmdPortRead, Nat.not_lt.2 hix, hp, hgood, PdPort.readOut]

/-- What MB_PORT_READ leaves of the ports. -/
theorem port_clear (s : State) {i clear : Nat} {p : PdPort} (hp : s.port i = some p)
    (hclear : clear < 2) :
    let u := if bit clear 0 then
      s.setPort i (some { p with expiries := 0, lastStep := 0, lastSrc := 0 }) else s
    u.port i = some (p.cleared clear) ∧ (∀ j, j ≠ i → u.port j = s.port j) ∧
      u.onlyChanges s [.store] := by
  obtain rfl | rfl : clear = 0 ∨ clear = 1 := by omega
  · exact ⟨hp, fun _ _ => rfl, only_refl _ _⟩
  · exact ⟨port_setPort_self .., fun _ h => port_setPort_ne _ _ h, State.setPort_touch ..⟩

/-! ### MB_PD_RING (R199) -/

/-- A record of the ring with allowed values has the layout of the command, is taken and returned. -/
theorem cmdPdRing_set {b : List Byte} (hlen : b.length = 20) (hopts : fld b 0 4 = 0)
    (hbase : fld b 4 8 % 64 = 0) (hcount : fld b 12 2 ∈ [64, 128, 256, 512, 1024, 2048, 4096])
    (hsize : fld b 14 2 ∈ [256, 512, 1024, 2048]) (hflags : fld b 16 1 < 2)
    (hrsv : zeroAt b 18 2 = true) :
    cmdPdRing.shape b = true ∧ ∀ s : State, s.pcie = true → ∃ n, cmdPdRing.run b s =
      ans stOk (b.drop 4) { s with pd := { s.pd with ring := b.drop 4, ringIx := n } } := by
  refine ⟨by simp only [cmdPdRing, cfgOpts, cfgLen, hlen, hopts, hflags, hrsv]; rfl,
    fun s hpcie => ?_⟩
  refine ⟨_, (if_neg (by rw [hpcie]; decide)).trans
    ((if_neg (by rw [hopts]; decide)).trans (if_neg ?_))⟩
  simp only [List.mem_cons, List.not_mem_nil, or_false] at hcount hsize
  simp only [fld_drop, Nat.reduceAdd, hbase, ne_eq, not_true_eq_false, decide_false, Bool.false_or,
    Bool.or_eq_true, Bool.not_eq_true', Bool.or_eq_false_iff, decide_eq_false_iff_not]
  omega

/-- READ returns the record in force. -/
theorem cmdPdRing_read {b : List Byte} (hlen : b.length = 4) (hopts : fld b 0 4 = 2) :
    cmdPdRing.shape b = true ∧ ∀ s : State, s.pcie = true →
      cmdPdRing.run b s = ans stOk s.pd.ring s :=
  ⟨by simp only [cmdPdRing, cfgOpts, cfgLen, hlen, hopts]; rfl, fun s hpcie =>
    (if_neg (by rw [hpcie]; decide)).trans (if_pos (by rw [hopts]; decide))⟩

/-! ### The obligation -/

/-- Settles O25: each request by the run of its command, and the port store by what that run leaves. -/
theorem portMailboxCommands : Obligations.PortMailboxCommands := by
  refine ⟨?_, ?_, ?_, ?_⟩
  · intro s dt r p hfree hplain hrsv hix hp hdir hsource hlen
    have hshape : cmdPortWrite.shape r.body = true := by simp [cmdPortWrite, hlen, hrsv]
    let e := (s.elapse dt).writeReq 0x0302 r
    have hp' : e.port (fld r.body 0 2) = some p := hp
    obtain ⟨t, hgo, hans, honly, hpd⟩ := mailbox_store (.store :: .clock :: answerParts) (by decide)
      hfree hplain hshape (cmdPortWrite_run hix hp' hdir hsource hlen) (by decide)
      (only_sub (State.commitPort_touch ..) rfl)
    obtain ⟨q, hq, hconf, hdata, hkind, htime, hquality, hcommits⟩ :=
      commitPort_port_self e (fld r.body 0 2) 1 e.net 0 (r.body.drop 4) hp'
    exact ⟨t, q, hgo, hans, (port_of_pd hpd _).trans hq, hconf, hdata, hkind, htime, hquality, hcommits,
      fun j hj => (port_of_pd hpd j).trans (commitPort_port_ne e _ _ _ _ _ hj), honly⟩
  · intro s dt r p hfree hplain hlen hclear hix hp hgood
    have hshape : cmdPortRead.shape r.body = true := by
      simp only [cmdPortRead, hlen, hclear, decide_true, Bool.and_true]
    let e := (s.elapse dt).writeReq 0x0301 r
    have hp' : e.port (fld r.body 0 2) = some p := hp
    obtain ⟨hself, hothers, hstore⟩ := port_clear e hp' hclear
    obtain ⟨t, hgo, hans, honly, hpd⟩ := mailbox_store (.store :: answerParts) (by decide) hfree hplain
      hshape (cmdPortRead_run hix hp' hgood) (by decide) (only_sub hstore rfl)
    exact ⟨t, hgo, hans, (port_of_pd hpd _).trans hself,
      fun j hj => (port_of_pd hpd j).trans (hothers j hj), honly⟩
  · intro s dt r hfree hplain hpcie hlen hopts hbase hcount hsize hflags hrsv
    obtain ⟨hshape, hset⟩ := cmdPdRing_set hlen hopts hbase hcount hsize hflags hrsv
    obtain ⟨n, hrun⟩ := hset ((s.elapse dt).writeReq 0x0303 r) hpcie
    obtain ⟨t, hgo, hans, honly, hpd⟩ := mailbox_store (.store :: answerParts) (by decide) hfree hplain
      hshape hrun (by decide) (only_set_pd _ (only_refl _ _) rfl)
    exact ⟨t, hgo, hans, by rw [hpd], by rw [hpd]; rfl, honly⟩
  · intro s dt r hfree hplain hpcie hlen hopts
    obtain ⟨hshape, hrun⟩ := cmdPdRing_read hlen hopts
    exact mailbox_read s dt cmdPdRing r (by decide) hfree hplain hshape _ _ (hrun _ hpcie)

end Sys2Proof.Machine

/-! SUPPORT. Chapter 5, the sink timer (R187, R188). -/

namespace Sys2Proof.Machine

/-- A port whose timer has expired: marked, the expiry counted, no duplicate remembered. -/
def PdPort.expire (p : PdPort) : PdPort :=
  { p with expired := true, expiries := (p.expiries + 1) % 2 ^ 32, dup := none }

/-- The expired value: LATEST marked in place, or, with TMO_ZERO, a commit of zeros. -/
def State.expireValue (s : State) (i : Nat) (p : PdPort) : State :=
  if pTmoZero p.conf then
    (s.setPort i (some p.expire)).commitAs i 6 s.net 0
      (qTimeout + if p.value.quality.getLsbD 7 then qInit else 0) s.inaug.etbTopo s.inaug.optrn
      (zeros (pSize p.conf)) false
  else
    let q := p.expire.setSlot p.latest { p.value with quality := p.value.quality ||| 0x40 }
    (s.setPort i (some q)).post i q

/-- A timer that is due is counted, acts on the port's value, and is reported. -/
theorem sinkExpire_due {s : State} {i at_ : Nat} {p : PdPort} (hp : s.port i = some p)
    (hat : p.sinkAt = some at_) (hnot : p.expired = false) (hdue : at_ ≤ s.now) :
    s.sinkExpire i = ((s.count (tlPd 8)).expireValue i p).noteOnce i (ev 5 0)
      (le 4 i ++ le 1 (bnat (pTmoZero p.conf)) ++ secNs p.value.time) := by
  simp only [State.sinkExpire, hp]
  split
  · next hnone => simp [hat] at hnone
  · next t ht =>
    obtain rfl : t = at_ := Option.some.inj (ht.symm.trans hat)
    rw [if_neg (by simp [hnot, hdue])]
    rfl

/-- A port without a timer, expired already, or before its time: nothing happens. -/
theorem sinkExpire_idle {s : State} {i : Nat} {p : PdPort} (hp : s.port i = some p)
    (h : p.sinkAt = none ∨ p.expired = true ∨ ∃ at_, p.sinkAt = some at_ ∧ s.now < at_) :
    s.sinkExpire i = s := by
  simp only [State.sinkExpire, hp]
  split
  · rfl
  · next t hat =>
    rcases h with hnone | hexpired | ⟨at_, hat', hearly⟩
    · simp [hat] at hnone
    · simp [hexpired]
    · obtain rfl : t = at_ := Option.some.inj (hat.symm.trans hat')
      simp [hearly]

/-- The quality of the zeros that replace an expired value carries TIMEOUT, with INIT or without. -/
theorem timeout_marked (init : Bool) :
    (BitVec.ofNat 8 (qTimeout + if init then qInit else 0)).getLsbD 6 = true := by
  cases init <;> rfl

/-- An expired timer marks its port and counts, and its value carries TIMEOUT. -/
theorem expireValue_port_self (s : State) (i : Nat) (p : PdPort) :
    ∃ q, (s.expireValue i p).port i = some q ∧ q.expired = true ∧ q.conf = p.conf ∧
      q.expiries = (p.expiries + 1) % 2 ^ 32 ∧ q.value.quality.getLsbD 6 = true ∧
      if pTmoZero p.conf then q.value.data = zeros (pSize p.conf) ∧ q.value.kind = 6 ∧
          q.value.commits = (p.value.commits + 1) % 2 ^ 32
        else q.value = { p.value with quality := p.value.quality ||| 0x40 } := by
  unfold State.expireValue
  split
  · obtain ⟨q, hq, hconf, hexpiries, hexpired, hvalue⟩ :=
      commitAs_port_self (s.setPort i (some p.expire)) i 6 s.net 0
        (qTimeout + if p.value.quality.getLsbD 7 then qInit else 0) s.inaug.etbTopo s.inaug.optrn
        (zeros (pSize p.conf)) false (port_setPort_self ..)
    refine ⟨q, hq, hexpired rfl, hconf, hexpiries, ?_, by simp [hvalue]; rfl⟩
    rw [hvalue]
    exact timeout_marked _
  · have hvalue : (p.expire.setSlot p.latest
        { p.value with quality := p.value.quality ||| 0x40 }).value =
        { p.value with quality := p.value.quality ||| 0x40 } := p.expire.value_setSlot_latest _
    refine ⟨_, (port_post ..).trans (port_setPort_self ..), PdPort.setSlot_expired ..,
      PdPort.setSlot_conf .., PdPort.setSlot_expiries .., ?_, hvalue⟩
    rw [hvalue]
    simp

theorem expireValue_port_ne (s : State) {i j : Nat} (p : PdPort) (h : j ≠ i) :
    (s.expireValue i p).port j = s.port j := by
  unfold State.expireValue
  split
  · exact (commitAs_port_ne _ i _ _ _ _ _ _ _ _ h).trans (port_setPort_ne _ _ h)
  · exact (port_post ..).trans (port_setPort_ne _ _ h)

theorem expireValue_tally (s : State) (i : Nat) (p : PdPort) {k : Nat} (h13 : k ≠ tlPd 13)
    (h14 : k ≠ tlPd 14) : Tab.get 0 (s.expireValue i p).tly.live k = Tab.get 0 s.tly.live k := by
  unfold State.expireValue
  split
  · exact (commitAs_tally _ i _ _ _ _ _ _ _ _ h13 h14).trans rfl
  · exact (post_tally _ _ _ h13 h14).trans rfl

/-! ### The obligation -/

/-- Settles O26: an expired timer by the value it leaves, the event it enters touching neither ports
nor the count; a timer that is not due leaves time alone to pass. -/
theorem sinkTimerExpires : Obligations.SinkTimerExpires := by
  refine ⟨?_, ?_⟩
  · intro s dt port p at_ hp hat hnot hdue
    have hrun : exec (.sinkTimeout dt port) s = go _ :=
      congrArg go (sinkExpire_due (s := s.elapse dt) hp hat hnot hdue)
    have honly := only_sub (execSinkTimeout_touch dt port s _ hrun)
      (b := .store :: .clock :: eventParts) rfl
    let u := ((s.elapse dt).count (tlPd 8)).expireValue port.toNat p
    have hpd : ∀ c a, (u.noteOnce port.toNat c a).pins.pd = u.pd := by simp
    obtain ⟨q, hq, hexpired, hconf, hexpiries, htimeout, hvalue⟩ :=
      expireValue_port_self ((s.elapse dt).count (tlPd 8)) port.toNat p
    refine ⟨_, q, hrun, (port_of_pd (hpd ..) _).trans hq, hexpired, hconf, hexpiries, htimeout, hvalue,
      ?_, fun j hj => (port_of_pd (hpd ..) j).trans (expireValue_port_ne _ p hj), honly⟩
    rw [State.pins_tly, noteOnce_tally _ _ _ _ _ (by decide) (by decide),
      expireValue_tally _ _ _ (by decide) (by decide), count_self, State.elapse_tly]
  · intro s dt port p hp hidle
    have hrun : exec (.sinkTimeout dt port) s = go (s.elapse dt) :=
      congrArg go (sinkExpire_idle (s := s.elapse dt) hp hidle)
    rw [hrun]
    exact go_elapse_only s dt

end Sys2Proof.Machine

/-! SUPPORT. Chapter 6, what follows a change of the topology (R215 to R217, R219, R226): the course of
an inauguration moves on, and the lines, the numbering in force and the other chapters' tallies stay. -/

namespace Sys2Proof.Machine

/-! ### The course of an inauguration -/

/-- The inauguration without its course: settle time, end of fast mode, nodes seen, computation,
agreement and inhibition. -/
def Inaug.still (i : Inaug) : Inaug :=
  { i with
    settleAt := none, fastEnd := none, seen := [], computed := none, pending := none, changed := false
    inhibited := false }

/-- From `s` to `t` the course of the inauguration may have moved on; the rest of the inauguration and
the tallies of the chapters before it are the same. -/
structure State.courseFrom (t s : State) : Prop where
  still : t.inaug.still = s.inaug.still
  tally : ∀ k, k < tlInaug 0 → Tab.get 0 t.tly.live k = Tab.get 0 s.tly.live k

theorem courseFrom_refl (s : State) : s.courseFrom s := ⟨rfl, fun _ _ => rfl⟩

theorem State.courseFrom.trans {s t u : State} (h : u.courseFrom t) (k : t.courseFrom s) :
    u.courseFrom s :=
  ⟨h.still.trans k.still, fun n hn => (h.tally n hn).trans (k.tally n hn)⟩

/-! Each operation of a course after those before it. -/

theorem State.courseFrom.set {s t : State} (h : t.courseFrom s) {i : Inaug}
    (hi : i.still = t.inaug.still) : ({ t with inaug := i } : State).courseFrom s :=
  ⟨hi.trans h.still, h.tally⟩

theorem State.courseFrom.count {s t : State} (h : t.courseFrom s) (i : Nat) :
    (t.count (tlInaug i)).courseFrom s :=
  State.courseFrom.trans (t := t)
    ⟨rfl, fun k hk => count_tally t (tlInaug i) 1 k (by simp only [tlInaug, Machine.tly] at *; omega)⟩ h

theorem State.courseFrom.note {s t : State} (h : t.courseFrom s) (code : Nat) (args : List Byte) :
    (t.note code args).courseFrom s := by
  refine State.courseFrom.trans ⟨by rw [State.note_inaug], fun k hk => ?_⟩ h
  refine note_tally t code args k ?_ ?_ <;> simp only [tlInaug, tlFeed, Machine.tly] at * <;> omega

theorem State.courseFrom.ite {c : Prop} [Decidable c] {s t u : State} (ht : t.courseFrom s)
    (hu : u.courseFrom s) : (if c then t else u).courseFrom s := by
  split
  · exact ht
  · exact hu

/-! ### Topology changes (R219, R222, R226) -/

theorem State.courseFrom.abandon {s t : State} (h : t.courseFrom s) : t.abandon.courseFrom s := by
  rw [State.abandon]
  with_reducible refine .ite (.count (.set h ?_) 2) h
  rfl

/-- The first topology change since the last agreement is entered in the daybook. -/
theorem State.courseFrom.mark {c : Bool} {s t : State} (h : t.courseFrom s) {i : Inaug}
    (hi : i.still = t.inaug.still) (args : List Byte) :
    (if c then t else ({ t with inaug := i } : State).note (ev 6 0) args).courseFrom s :=
  .ite h (.note (.set h hi) _ _)

theorem topoChange_courseFrom (s : State) (ports : Nat) : (s.topoChange ports).courseFrom s := by
  unfold State.topoChange
  conv => zeta
  have hs := courseFrom_refl s
  with_reducible
    refine .ite (.ite (.set hs ?_) (.note (.count (.set hs ?_) 5) _ _))
      (.set (.abandon (.mark (.set hs ?_) ?_ _)) ?_)
  all_goals rfl

/-- New views of the lines change those and the course. -/
theorem newViews_courseFrom (s : State) (a b : List TopoNode) (ports : Nat) :
    (s.newViews a b ports).courseFrom { s with inaug := { s.inaug with viewA := a, viewB := b } } := by
  unfold State.newViews
  conv => zeta
  have hcross := fun (c : Prop) [Decidable c] (u : State) =>
    State.courseFrom.ite (c := c) (((courseFrom_refl u).count 4).note (ev 6 4) u.nbrOrder)
      (courseFrom_refl u)
  exact .ite (hcross ..) ((topoChange_courseFrom ..).trans (hcross ..))

theorem inhibitUpdate_courseFrom (s : State) : s.inhibitUpdate.courseFrom s := by
  unfold State.inhibitUpdate
  conv => zeta
  have hnote : ∀ i args, i.still = s.inaug.still →
      (({ s with inaug := i } : State).note (ev 6 5) args).courseFrom s :=
    fun i args hi => .note (.set (courseFrom_refl s) hi) _ _
  with_reducible refine .ite (courseFrom_refl s) (.ite (hnote _ _ ?_) (.ite ?begins ?ends))
  case begins =>
    with_reducible refine .ite (.set (.abandon (hnote _ _ ?_)) ?_) (hnote _ _ ?_)
    all_goals rfl
  case ends =>
    with_reducible
      refine .ite (.set (hnote _ _ ?_) ?_)
        (.ite (.mark (hnote _ _ ?_) ?_ _) (.set (.mark (hnote _ _ ?_) ?_ _) ?_))
    all_goals rfl
  rfl

/-- Agreement makes the computed numbering a pending one, or leaves the state as it is (R222). -/
theorem agree_cases (s : State) {n : Numbering} (hn : s.inaug.computed = some n) :
    s.agree = s ∨ ∃ b, s.agree = { s with inaug := { s.inaug with
      computed := none, changed := false, pending := some (b, n) } } := by
  simp only [State.agree, hn]
  split
  · exact .inr ⟨_, rfl⟩
  · exact .inl rfl

theorem agree_courseFrom (s : State) : s.agree.courseFrom s := by
  cases hn : s.inaug.computed with
  | none => simp only [State.agree, hn]; exact courseFrom_refl s
  | some n =>
    obtain h | ⟨b, h⟩ := agree_cases s hn
    · rw [h]; exact courseFrom_refl s
    · rw [h]; exact (courseFrom_refl s).set rfl

/-! ### The views of the lines -/

/-- The inauguration without its course and the views of the lines. -/
def Inaug.base (i : Inaug) : Inaug := { i.still with viewA := [], viewB := [] }

theorem newViews_base (s : State) (a b : List TopoNode) (ports : Nat) :
    (s.newViews a b ports).inaug.base = s.inaug.base :=
  congrArg (fun i : Inaug => { i with viewA := [], viewB := [] })
    (newViews_courseFrom s a b ports).still

/-- The teller takes a line state into the views and the course alone. -/
theorem takeLine_base (s : State) (p : Nat) : (s.takeLine p).inaug.base = s.inaug.base := by
  unfold State.takeLine
  dsimp only
  split <;> exact newViews_base ..

theorem takeLine_tally (s : State) (p : Nat) {k : Nat} (hk : k < tlInaug 0) :
    Tab.get 0 (s.takeLine p).tly.live k = Tab.get 0 s.tly.live k := by
  unfold State.takeLine
  dsimp only
  split <;> exact (newViews_courseFrom ..).tally k hk

/-! ### Backbone ports and fast mode (R216, R217) -/

theorem setBb_bb (s : State) (p q : Nat) (b : BbPort) :
    (s.setBb p b).bb q = if q = p then b else s.bb q := Tab.get_set bb0 s.inaug.bb p q b

/-- A backbone port but for when its next HELLO is due. -/
def BbPort.unsent (b : BbPort) : BbPort := { b with sendAt := 0 }

theorem BbPort.unsent_eq {b c : BbPort} (h : b.unsent = c.unsent) :
    b.line = c.line ∧ b.nbr = c.nbr ∧ b.lastAt = c.lastAt ∧ b.period = c.period :=
  ⟨congrArg (·.line) h, congrArg (·.nbr) h, congrArg (·.lastAt) h, congrArg (·.period) h⟩

/-- The next HELLO of a port is due at once. -/
def State.hurry (s : State) (p : Nat) : State := s.setBb p { s.bb p with sendAt := s.now }

theorem hurry_unsent (q : Nat) (s : State) (p : Nat) :
    ((s.hurry p).bb q).unsent = (s.bb q).unsent := by
  rw [State.hurry, setBb_bb]
  split
  · next h => rw [h]; rfl
  · rfl

/-- Fast mode touches of the backbone ports when their next HELLO is due, and nothing else but fast
mode itself. -/
theorem enterFast_unsent (s : State) (q : Nat) : (s.enterFast.bb q).unsent = (s.bb q).unsent := by
  unfold State.enterFast
  split
  · rfl
  · exact foldl_keeps (fun u : State => (u.bb q).unsent) State.hurry (hurry_unsent q) _ _

/-- The inauguration without its backbone ports and fast mode. -/
def Inaug.slow (i : Inaug) : Inaug := { i with bb := [], fast := false, fastEnd := none }

theorem enterFast_slow (s : State) : s.enterFast.inaug.slow = s.inaug.slow := by
  unfold State.enterFast
  split
  · rfl
  · exact foldl_keeps (fun u : State => u.inaug.slow) State.hurry (fun _ _ => rfl) _ _

theorem enterFast_fast (s : State) : s.enterFast.inaug.fast = true := by
  unfold State.enterFast
  split
  · assumption
  · exact foldl_keeps (fun u : State => u.inaug.fast) State.hurry (fun _ _ => rfl) _ _

theorem enterFast_tly (s : State) : s.enterFast.tly = s.tly :=
  (State.enterFast_touch s).2 .tallies (by decide)

/-! The pins touch the insertion controls and the relay settle times of the inauguration alone. -/

@[simp] theorem pins_bb (s : State) (p : Nat) : s.pins.bb p = s.bb p := rfl
@[simp] theorem pins_inaug_bb (s : State) : s.pins.inaug.bb = s.inaug.bb := rfl
@[simp] theorem pins_conf (s : State) : s.pins.inaug.conf = s.inaug.conf := rfl
@[simp] theorem pins_fast (s : State) : s.pins.inaug.fast = s.inaug.fast := rfl
@[simp] theorem pins_numbered (s : State) : s.pins.inaug.numbered = s.inaug.numbered := rfl

/-! ### Changes of a line state (R216, R217, R219) -/

/-- A port that keeps its line state changes alone. -/
theorem lineTo_same {s : State} {p : Nat} {b : BbPort} (h : (s.bb p).line = b.line) :
    s.lineTo p b = s.setBb p b := if_pos h

/-- The port is `b`, its change is counted, and fast mode begins. -/
def State.lineBegun (s : State) (p : Nat) (b : BbPort) : State :=
  (({ s.setBb p b with inaug := { (s.setBb p b).inaug with fastEnd := none } } : State).count
    (tlInaug 1)).enterFast

/-- What follows a change of line state touches the views and the course alone. -/
theorem lineTo_base {s : State} {p : Nat} {b : BbPort} (h : (s.bb p).line ≠ b.line) :
    (s.lineTo p b).inaug.base = (s.lineBegun p b).inaug.base := by
  unfold State.lineTo
  dsimp only
  rw [if_neg h]
  change (if (s.lineBegun p b).settling p then s.lineBegun p b else _).inaug.base = _
  split
  · rfl
  · split
    · rw [State.note_inaug]
      exact takeLine_base ..
    · exact takeLine_base ..

theorem lineTo_tally (s : State) (p : Nat) (b : BbPort) {k : Nat} (hk : k < tlInaug 0) :
    Tab.get 0 (s.lineTo p b).tly.live k = Tab.get 0 s.tly.live k := by
  by_cases h : (s.bb p).line = b.line
  · rw [lineTo_same h]; rfl
  have hbegun : Tab.get 0 (s.lineBegun p b).tly.live k = Tab.get 0 s.tly.live k := by
    rw [State.lineBegun, enterFast_tly]
    exact ((courseFrom_refl _).count 1).tally k hk
  unfold State.lineTo
  dsimp only
  rw [if_neg h]
  change Tab.get 0 (if (s.lineBegun p b).settling p then s.lineBegun p b else _).tly.live k = _
  split
  · exact hbegun
  · have htake := (takeLine_tally (s.lineBegun p b) p hk).trans hbegun
    split
    · exact (((courseFrom_refl _).note ..).tally k hk).trans htake
    · exact htake

theorem lineTo_numbered (s : State) (p : Nat) (b : BbPort) :
    (s.lineTo p b).inaug.numbered = s.inaug.numbered := by
  by_cases h : (s.bb p).line = b.line
  · rw [lineTo_same h]; rfl
  · exact (congrArg (·.numbered) (lineTo_base h)).trans
      (congrArg (·.numbered) (enterFast_slow _))

/-- A change of line state begins fast mode (R217). -/
theorem lineTo_fast {s : State} {p : Nat} {b : BbPort} (h : (s.bb p).line ≠ b.line) :
    (s.lineTo p b).inaug.fast = true :=
  (congrArg (·.fast) (lineTo_base h)).trans (enterFast_fast _)

/-- Of the backbone ports a change reaches its own, and when the next HELLOs are due. -/
theorem lineTo_unsent (s : State) (p q : Nat) (b : BbPort) :
    ((s.lineTo p b).bb q).unsent = (if q = p then b else s.bb q).unsent := by
  by_cases h : (s.bb p).line = b.line
  · rw [lineTo_same h, setBb_bb]
  · have hbb : (s.lineTo p b).inaug.bb = (s.lineBegun p b).inaug.bb := congrArg (·.bb) (lineTo_base h)
    rw [State.bb, hbb, ← setBb_bb]
    exact enterFast_unsent ..

end Sys2Proof.Machine

/-! SUPPORT. Chapter 6, the line states (R215 to R217): HELLOs heard, missed and sent, the relay settle
time and the end of fast mode. -/

namespace Sys2Proof.Machine

/-- What an operation that changes parts `l` at most leaves after time, with the pins up to date. -/
theorem go_only {s u : State} {dt : Nat} {l : List Part} (h : u.onlyChanges (s.elapse dt) l) :
    u.pins.onlyChanges s l := only_pins (only_trans (only_elapse s dt l) h)

/-! ### HELLO frames heard (R216) -/

/-- A backbone port at a HELLO: UP where the neighbour is the one of the last HELLO, else PENDING. -/
def BbPort.heard (b : BbPort) (mac : BitVec 48) (now period : Nat) : BbPort :=
  let c := { b with lastAt := now, period := period }
  if b.nbr = mac ∧ b.line ≠ .down then
    if b.line = .up then c
    else if 1 ≤ b.count then { c with line := .up, count := 2 }
    else { c with line := .pending, nbr := mac, count := 1 }
  else { c with line := .pending, nbr := mac, count := 1 }

section
variable (b : BbPort) (mac : BitVec 48) (now period : Nat)

theorem BbPort.heard_line : (b.heard mac now period).line =
    if (b.nbr = mac ∧ b.line ≠ .down) ∧ (b.line = .up ∨ 1 ≤ b.count) then .up else .pending := by
  unfold BbPort.heard
  by_cases hsame : b.nbr = mac ∧ b.line ≠ .down
  · by_cases hup : b.line = .up
    · simp [hsame, hup]
    · by_cases hcount : 1 ≤ b.count <;> simp [hsame, hup, hcount]
  · rw [if_neg hsame, if_neg fun h => hsame h.1]

theorem BbPort.heard_nbr : (b.heard mac now period).nbr = mac := by
  unfold BbPort.heard
  dsimp only
  split
  · next hsame =>
    split
    · exact hsame.1
    · split
      · exact hsame.1
      · rfl
  · rfl

/-- Every HELLO is kept in mind with its instant and its announced period. -/
theorem BbPort.heard_times : (b.heard mac now period).lastAt = now ∧
    (b.heard mac now period).period = period := by
  unfold BbPort.heard
  dsimp only
  split
  · split
    · exact ⟨rfl, rfl⟩
    · split <;> exact ⟨rfl, rfl⟩
  · exact ⟨rfl, rfl⟩

end

/-- Whether a backbone port has a link. -/
def State.linked (s : State) (p : Nat) : Prop := (s.mac p).up = true ∧ s.absentUnit p = false

theorem linked_iff {s : State} {p : Nat} :
    s.linked p ↔ (!(s.mac p).up || s.absentUnit p) = false := by
  rw [State.linked, Bool.or_eq_false_iff, Bool.not_eq_false']

theorem hello_unlinked {s : State} {p : Nat} (h : ¬ s.linked p) (mac : BitVec 48) (ms : Nat)
    (fast : Bool) : s.hello p mac ms fast = s :=
  if_pos (eq_true_of_ne_false (mt linked_iff.2 h))

/-- A HELLO on a port with a link: the port hears it, and a HELLO in fast mode begins fast mode. -/
theorem hello_linked {s : State} {p : Nat} (h : s.linked p) (mac : BitVec 48) (ms : Nat)
    (fast : Bool) :
    let u := s.lineTo p ((s.bb p).heard mac s.now (ms * 1000000))
    s.hello p mac ms fast = if fast then u.enterFast else u := by
  obtain ⟨hup, habs⟩ := h
  have hsame : ((s.bb p).nbr = mac && (s.bb p).line != .down) =
      decide ((s.bb p).nbr = mac ∧ (s.bb p).line ≠ .down) := by
    rw [Bool.decide_and, decide_not]
    rfl
  unfold State.hello BbPort.heard
  simp only [hup, habs, hsame]
  by_cases h : (s.bb p).nbr = mac ∧ (s.bb p).line ≠ .down
  · by_cases hline : (s.bb p).line = .up
    · simp [h, hline, lineTo_same]
    · by_cases hcount : 1 ≤ (s.bb p).count <;> simp [h, hline, hcount]
  · simp [h]

section
variable {s : State} {p : Nat} (h : s.linked p) (mac : BitVec 48) (ms : Nat)

include h

theorem hello_unsent (fast : Bool) (q : Nat) : ((s.hello p mac ms fast).bb q).unsent =
    (if q = p then (s.bb p).heard mac s.now (ms * 1000000) else s.bb q).unsent := by
  rw [hello_linked h]
  split
  · exact (enterFast_unsent ..).trans (lineTo_unsent ..)
  · exact lineTo_unsent ..

/-- The port as the HELLO leaves it. -/
theorem hello_self (fast : Bool) :
    let b := (s.hello p mac ms fast).bb p
    b.line = ((s.bb p).heard mac s.now (ms * 1000000)).line ∧ b.nbr = mac ∧ b.lastAt = s.now ∧
      b.period = ms * 1000000 := by
  have hself := hello_unsent h mac ms fast p
  rw [if_pos rfl] at hself
  obtain ⟨hline, hnbr, hlast, hperiod⟩ := BbPort.unsent_eq hself
  exact ⟨hline, hnbr.trans (BbPort.heard_nbr ..), hlast.trans (BbPort.heard_times ..).1,
    hperiod.trans (BbPort.heard_times ..).2⟩

theorem hello_other (fast : Bool) {q : Nat} (hq : q ≠ p) :
    ((s.hello p mac ms fast).bb q).line = (s.bb q).line ∧
      ((s.hello p mac ms fast).bb q).nbr = (s.bb q).nbr := by
  have hother := hello_unsent h mac ms fast q
  rw [if_neg hq] at hother
  obtain ⟨hline, hnbr, -, -⟩ := BbPort.unsent_eq hother
  exact ⟨hline, hnbr⟩

theorem hello_numbered (fast : Bool) :
    (s.hello p mac ms fast).inaug.numbered = s.inaug.numbered := by
  rw [hello_linked h]
  split
  · exact (congrArg (·.numbered) (enterFast_slow _)).trans (lineTo_numbered ..)
  · exact lineTo_numbered ..

/-- A HELLO in fast mode, or a change of line state, begins fast mode (R217). -/
theorem hello_fast {fast : Bool}
    (hfast : fast = true ∨ ((s.bb p).heard mac s.now (ms * 1000000)).line ≠ (s.bb p).line) :
    (s.hello p mac ms fast).inaug.fast = true := by
  rw [hello_linked h]
  split
  · exact enterFast_fast _
  · next hslow => exact lineTo_fast (Ne.symm (hfast.resolve_left hslow))

/-- A HELLO outside fast mode that leaves the line state is kept in mind, and no more. -/
theorem hello_quiet (hline : ((s.bb p).heard mac s.now (ms * 1000000)).line = (s.bb p).line) :
    s.hello p mac ms false = s.setBb p ((s.bb p).heard mac s.now (ms * 1000000)) := by
  rw [hello_linked h]
  exact lineTo_same hline.symm

end

/-! ### HELLO frames missed (R216) -/

/-- The tallies of a backbone port come before those of inauguration. -/
theorem tlPort_lt_tlInaug {p i : Nat} (hp : p < 4) (hi : i < 64) : tlPort p i < tlInaug 0 := by
  simp only [tlPort, tlInaug, tly]
  omega

/-- Three announced periods without a HELLO are over on an UP port. -/
def State.helloMissed (s : State) (p : Nat) : Prop :=
  (s.bb p).line = .up ∧ (s.bb p).lastAt + 3 * (s.bb p).period ≤ s.now

/-- A backbone port whose neighbour is lost. -/
def BbPort.lost (b : BbPort) : BbPort := { b with line := .down, nbr := 0, count := 0 }

/-- The loss is counted, and the port goes DOWN. -/
def State.helloLost (s : State) (p : Nat) : State :=
  (s.count (tlPort p mHelloLoss)).lineTo p (s.bb p).lost

theorem helloLost_down {s : State} {p : Nat} (hp : p < 4) (hup : (s.bb p).line = .up) :
    ((s.helloLost p).bb p).line = .down ∧ (s.helloLost p).inaug.fast = true ∧
      (s.helloLost p).inaug.numbered = s.inaug.numbered ∧
      Tab.get 0 (s.helloLost p).tly.live (tlPort p mHelloLoss) =
        min tlyMax (Tab.get 0 s.tly.live (tlPort p mHelloLoss) + 1) := by
  have hself := lineTo_unsent (s.count (tlPort p mHelloLoss)) p p (s.bb p).lost
  rw [if_pos rfl] at hself
  have hchanged : ((s.count (tlPort p mHelloLoss)).bb p).line ≠ (s.bb p).lost.line :=
    fun h => nomatch hup.symm.trans h
  exact ⟨(BbPort.unsent_eq hself).1, lineTo_fast hchanged, lineTo_numbered ..,
    (lineTo_tally _ p _ (tlPort_lt_tlInaug hp (by decide))).trans (count_self ..)⟩

theorem execHelloLoss_due {s : State} {dt : Nat} {p : Fin 4} (h : (s.elapse dt).helloMissed p.val) :
    exec (.helloLoss dt p) s = go ((s.elapse dt).helloLost p.val) :=
  congrArg go (if_pos (by simpa [State.helloMissed] using h))

theorem execHelloLoss_idle {s : State} {dt : Nat} {p : Fin 4}
    (h : ¬ (s.elapse dt).helloMissed p.val) : exec (.helloLoss dt p) s = go (s.elapse dt) :=
  congrArg go (if_neg (by simpa [State.helloMissed] using h))

/-! ### HELLO and TOPOLOGY frames sent (R217) -/

/-- The next HELLO of a port with a link is due. -/
def State.helloDue (s : State) (p : Nat) : Prop := s.linked p ∧ (s.bb p).sendAt ≤ s.now

/-- The content of a HELLO frame. -/
def State.helloMsg (s : State) : List Byte :=
  macBytes Config.nodeMac ++ le 2 (s.helloNs / 1000000) ++ le 1 (bnat s.inaug.fast)

/-- The content of a TOPOLOGY frame. -/
def State.topologyMsg (s : State) : List Byte :=
  macBytes Config.nodeMac ++ le 1 s.topoState ++ le 1 (bnat (bit s.inaugCtrl 0)) ++
    le 1 (bnat s.inaug.fast) ++ le 4 s.announced.toNat ++ nodeBytes s.inaug.viewA ++
    nodeBytes s.inaug.viewB

theorem helloDue_iff {s : State} {p : Nat} : s.helloDue p ↔
    (!(s.mac p).up || s.absentUnit p || decide (s.now < (s.bb p).sendAt)) = false := by
  rw [State.helloDue, linked_iff, ← Nat.not_lt, ← decide_eq_false_iff_not]
  exact (Bool.or_eq_false_iff ..).symm

theorem execHelloSend_due {s : State} {dt : Nat} {p : Fin 4} (h : (s.elapse dt).helloDue p.val) :
    exec (.helloSend dt p) s = go ((((s.elapse dt).setBb p.val
      { s.bb p.val with sendAt := (s.elapse dt).now + s.helloNs }).send
        (.msg p.val (ev 6 0) s.helloMsg)).send (.msg p.val (ev 6 1) s.topologyMsg)) :=
  congrArg go (if_neg (Bool.eq_false_iff.1 (helloDue_iff.1 h)))

theorem execHelloSend_idle {s : State} {dt : Nat} {p : Fin 4}
    (h : ¬ (s.elapse dt).helloDue p.val) : exec (.helloSend dt p) s = go (s.elapse dt) :=
  congrArg go (if_pos (eq_true_of_ne_false (mt helloDue_iff.2 h)))

theorem macBytes_length (m : BitVec 48) : (macBytes m).length = 6 := by simp [macBytes, be]

/-- The etbTopoCnt stands after the address and three bytes. -/
theorem topologyMsg_announced (s : State) :
    slice s.topologyMsg 9 4 = le 4 s.announced.toNat := by
  unfold State.topologyMsg
  simp only [List.append_assoc]
  rw [slice_append_right (by simp [macBytes_length]), slice_append_right (by simp [macBytes_length]),
    slice_append_right (by simp [macBytes_length]), slice_append_right (by simp [macBytes_length]),
    slice_append_left (by simp [macBytes_length])]
  exact slice_all _ (by simp)

/-! ### The relay settle time (R215) -/

/-- When the relays of a line have settled. -/
def State.relay (s : State) (line : Nat) : Option Nat :=
  if line = 0 then s.inaug.relayA else s.inaug.relayB

/-- The relay settle time of a line is over. -/
def State.relaysSettled (s : State) (line : Nat) : State :=
  { s with inaug :=
      if line = 0 then { s.inaug with relayA := none } else { s.inaug with relayB := none } }

theorem execRelaySettleExpiry_due {s : State} {dt a : Nat} {line : Fin 2}
    (h : s.relay line.val = some a) (hdue : a ≤ (s.elapse dt).now) :
    exec (.relaySettleExpiry dt line) s = go ((((s.elapse dt).relaysSettled line.val).takeLine
      (2 * line.val)).takeLine (2 * line.val + 1)) := by
  have hrelay : (if line.val = 0 then (s.elapse dt).inaug.relayA
    else (s.elapse dt).inaug.relayB) = some a := h
  simp only [exec, execRelaySettleExpiry, hrelay, Nat.not_lt.2 hdue, if_false]
  rfl

theorem execRelaySettleExpiry_idle {s : State} {dt : Nat} {line : Fin 2}
    (h : ∀ a, s.relay line.val = some a → (s.elapse dt).now < a) :
    exec (.relaySettleExpiry dt line) s = go (s.elapse dt) := by
  have hrelay : (if line.val = 0 then (s.elapse dt).inaug.relayA
    else (s.elapse dt).inaug.relayB) = s.relay line.val := rfl
  simp only [exec, execRelaySettleExpiry, hrelay]
  cases ha : s.relay line.val with
  | none => rfl
  | some a => exact if_pos (h a ha)

/-- Insertion does not change while ports, system and feeds do not. -/
theorem only_inserted {s t : State} {l : List Part} (h : t.onlyChanges s l) (hports : Part.ports ∉ l)
    (hsys : Part.system ∉ l) (hfeeds : Part.feeds ∉ l) (line : Nat) :
    t.inserted line = s.inserted line := by
  have hp : t.ports = s.ports := h.2 .ports hports
  have hs : t.sys = s.sys := h.2 .system hsys
  simp only [State.inserted, State.awake, hp, hs, only_hasDom h hfeeds]

theorem pins_relayA (s : State) : s.pins.inaug.relayA = if !s.inserted 0 then none
    else if s.inaug.insA then s.inaug.relayA
    else some (s.now + fld s.inaug.conf 6 1 * 1000000) := rfl

theorem pins_relayB (s : State) : s.pins.inaug.relayB = if !s.inserted 1 then none
    else if s.inaug.insB then s.inaug.relayB
    else some (s.now + fld s.inaug.conf 6 1 * 1000000) := rfl

/-- The pins start no relay settle time of a line whose control is already right. -/
theorem pins_relay {s : State} {line : Nat} (h : s.relay line = none)
    (hA : s.inaug.insA = s.inserted 0) (hB : s.inaug.insB = s.inserted 1) :
    s.pins.relay line = none := by
  unfold State.relay at h ⊢
  split
  · next hl =>
    rw [if_pos hl] at h
    rw [pins_relayA, hA, h]
    cases s.inserted 0 <;> rfl
  · next hl =>
    rw [if_neg hl] at h
    rw [pins_relayB, hB, h]
    cases s.inserted 1 <;> rfl

/-- When a settle time is over and the teller has taken the line's two ports, the line is settled, its
ports and the numbering are as they were, and the controls are still right. -/
theorem relaysSettled_taken (s : State) (line p q : Nat) :
    let u := ((s.relaysSettled line).takeLine p).takeLine q
    u.relay line = none ∧ u.inaug.bb = s.inaug.bb ∧ u.inaug.numbered = s.inaug.numbered ∧
      u.inaug.insA = s.inaug.insA ∧ u.inaug.insB = s.inaug.insB ∧
      u.inserted = s.inserted := by
  have hbase : (((s.relaysSettled line).takeLine p).takeLine q).inaug.base =
      (s.relaysSettled line).inaug.base := (takeLine_base ..).trans (takeLine_base ..)
  have honly := only_trans (State.takeLine_touch (s.relaysSettled line) p) (State.takeLine_touch _ q)
  have hins : (((s.relaysSettled line).takeLine p).takeLine q).inserted = s.inserted :=
    funext fun i => only_inserted honly (by decide) (by decide) (by decide) i
  by_cases hl : line = 0
  · have hset : (s.relaysSettled line).inaug = { s.inaug with relayA := none } := if_pos hl
    rw [hset] at hbase
    exact ⟨(if_pos hl).trans (congrArg (·.relayA) hbase), congrArg (·.bb) hbase,
      congrArg (·.numbered) hbase, congrArg (·.insA) hbase, congrArg (·.insB) hbase, hins⟩
  · have hset : (s.relaysSettled line).inaug = { s.inaug with relayB := none } := if_neg hl
    rw [hset] at hbase
    exact ⟨(if_neg hl).trans (congrArg (·.relayB) hbase), congrArg (·.bb) hbase,
      congrArg (·.numbered) hbase, congrArg (·.insA) hbase, congrArg (·.insB) hbase, hins⟩

/-! ### The end of fast mode (R217) -/

theorem execFastModeExit_due {s : State} {dt a : Nat} (h : s.inaug.fastEnd = some a)
    (hdue : a ≤ (s.elapse dt).now) : exec (.fastModeExit dt) s =
      go { s.elapse dt with inaug := { s.inaug with fast := false, fastEnd := none } } := by
  have hend : (s.elapse dt).inaug.fastEnd = some a := h
  simp only [exec, execFastModeExit, hend]
  exact if_pos hdue

theorem execFastModeExit_idle {s : State} {dt : Nat}
    (h : ∀ a, s.inaug.fastEnd = some a → (s.elapse dt).now < a) :
    exec (.fastModeExit dt) s = go (s.elapse dt) := by
  simp only [exec, execFastModeExit, State.elapse_inaug]
  cases ha : s.inaug.fastEnd with
  | none => rfl
  | some a => exact if_neg (Nat.not_le.2 (h a ha))

/-! ### The obligation -/

/-- Settles O35: a HELLO and its loss by the line state they lead to, the frames sent and the settle
times by what is due; without link or before its time each command lets time pass alone. -/
theorem lineStatesFollowHellos : Obligations.LineStatesFollowHellos := by
  refine ⟨?_, ?_, ?_, ?_, ?_, ?_, ?_⟩
  · intro s dt p mac ms fast
    refine ⟨fun hoff => ?_, fun hon => ?_⟩
    · have hrun : exec (.helloRx dt p mac ms fast) s = go (s.elapse dt) :=
        congrArg go (hello_unlinked (s := s.elapse dt) hoff mac ms fast)
      rw [hrun]
      exact go_elapse_only s dt
    · have hlinked : (s.elapse dt).linked p.val := hon
      obtain ⟨hline, hnbr, hlast, hperiod⟩ := hello_self hlinked mac ms fast
      have hnumbered := hello_numbered hlinked mac ms fast
      refine ⟨((s.elapse dt).hello p.val mac ms fast).pins, rfl, ?_⟩
      simp only [pins_bb, pins_fast, pins_numbered]
      refine ⟨hnbr, hlast, hperiod, hline.trans (BbPort.heard_line ..),
        fun j hj => hello_other hlinked mac ms fast hj, fun hfast => ?_, ?_, hnumbered⟩
      · rw [hline] at hfast
        exact hello_fast hlinked mac ms hfast
      · rintro rfl hkept
        rw [hello_quiet hlinked mac ms (hline.symm.trans hkept)]
        exact ⟨rfl, go_only (State.setBb_touch ..)⟩
  · intro s dt p
    refine ⟨fun hdue => ?_, fun hidle => ?_⟩
    · obtain ⟨hdown, hfast, hnumbered, htally⟩ := helloLost_down (s := s.elapse dt) p.isLt hdue.1
      refine ⟨_, execHelloLoss_due hdue, ?_⟩
      rw [pins_bb, pins_fast, pins_numbered, State.pins_tly]
      exact ⟨hdown, hfast, hnumbered, htally⟩
    · rw [execHelloLoss_idle hidle]
      exact go_elapse_only s dt
  · intro s dt p
    refine ⟨fun hdue => ?_, fun hidle => ?_⟩
    · have hdue' : (s.elapse dt).helloDue p.val := ⟨⟨hdue.1, hdue.2.1⟩, hdue.2.2⟩
      refine ⟨_, s.helloMsg, s.topologyMsg, execHelloSend_due hdue', ?_, ?_, rfl,
        topologyMsg_announced s, ?_⟩
      · exact (setBb_bb ..).trans (if_pos rfl)
      · simp [State.send, State.setBb]
      · exact go_only (only_step (only_step (only_sub (State.setBb_touch ..) rfl)
          (State.send_touch ..)) (State.send_touch ..))
    · rw [execHelloSend_idle fun h => hidle ⟨h.1.1, h.1.2, h.2⟩]
      exact go_elapse_only s dt
  · intro s dt line a hpins ha hdue
    obtain ⟨-, hinsA, hinsB, -⟩ := hpins
    obtain ⟨hrelay, hbb, hnumbered, hA, hB, hins⟩ :=
      relaysSettled_taken (s.elapse dt) line.val (2 * line.val) (2 * line.val + 1)
    refine ⟨_, execRelaySettleExpiry_due ha hdue, pins_relay hrelay ?_ ?_, hbb, hnumbered⟩
    · rw [hA, hins]; exact hinsA
    · rw [hB, hins]; exact hinsB
  · intro s dt line hidle
    rw [execRelaySettleExpiry_idle hidle]
    exact go_elapse_only s dt
  · intro s dt a ha hdue
    exact ⟨_, execFastModeExit_due ha hdue, rfl, rfl, rfl, rfl,
      go_only (only_set_inaug _ (only_refl _ _) rfl)⟩
  · intro s dt hidle
    rw [execFastModeExit_idle hidle]
    exact go_elapse_only s dt

end Sys2Proof.Machine

/-! SUPPORT. Chapter 6, the numbering of a topology (R213, R220, R221). -/

namespace Sys2Proof.Machine

/-! ### The list from node 1 on -/

theorem turn_length (l : List TopoNode) : (turn l).length = l.length := by simp [turn]

theorem turn_head? (l : List TopoNode) :
    (turn l).head? = l.getLast?.map fun n => { n with flipped := !n.flipped } := by simp [turn]

theorem turn_getLast? (l : List TopoNode) :
    (turn l).getLast? = l.head?.map fun n => { n with flipped := !n.flipped } := by simp [turn]

theorem exists_mem_turn {m : BitVec 48} {l : List TopoNode} (h : ∃ x ∈ l, x.mac = m) :
    ∃ x ∈ turn l, x.mac = m := by
  obtain ⟨x, hx, hm⟩ := h
  exact ⟨_, List.mem_map_of_mem (List.mem_reverse.2 hx), hm⟩

theorem fromNode1_eq_or (l : List TopoNode) : fromNode1 l = l ∨ fromNode1 l = turn l := by
  unfold fromNode1
  split
  · split
    · exact .inr rfl
    · exact .inl rfl
  · exact .inl rfl

theorem fromNode1_length (l : List TopoNode) : (fromNode1 l).length = l.length := by
  obtain h | h := fromNode1_eq_or l <;> rw [h]
  exact turn_length l

theorem exists_mem_fromNode1 {m : BitVec 48} {l : List TopoNode} (h : ∃ x ∈ l, x.mac = m) :
    ∃ x ∈ fromNode1 l, x.mac = m := by
  obtain hl | hl := fromNode1_eq_or l <;> rw [hl]
  · exact h
  · exact exists_mem_turn h

/-- Of the two end nodes the first has the lower address (R220). -/
theorem fromNode1_ends {l : List TopoNode} {a b : TopoNode} (ha : (fromNode1 l).head? = some a)
    (hb : (fromNode1 l).getLast? = some b) : a.mac.toNat ≤ b.mac.toNat := by
  unfold fromNode1 at ha hb
  cases hhead : l.head? with
  | none => simp [List.head?_eq_none_iff.1 hhead] at ha
  | some x =>
    cases hlast : l.getLast? with
    | none => simp [List.getLast?_eq_none_iff.1 hlast] at hhead
    | some y =>
      simp only [hhead, hlast] at ha hb
      split at ha
      · next hlt =>
        rw [if_pos hlt, turn_getLast?, hhead] at hb
        rw [turn_head?, hlast] at ha
        cases ha
        cases hb
        exact Nat.le_of_lt hlt
      · next hle =>
        rw [if_neg hle, hlast] at hb
        rw [hhead] at ha
        cases ha
        cases hb
        exact Nat.not_lt.1 hle

/-! ### The place of a node -/

theorem placeOf_mac {m : BitVec 48} {l : List TopoNode} {x : TopoNode}
    (h : l[placeOf m l]? = some x) : x.mac = m := by
  induction l with
  | nil => simp at h
  | cons n l ih =>
    unfold placeOf at h
    split at h
    · next hn => cases h; exact hn
    · exact ih h

theorem placeOf_lt {m : BitVec 48} {l : List TopoNode} (h : ∃ x ∈ l, x.mac = m) :
    placeOf m l < l.length := by
  induction l with
  | nil => obtain ⟨x, hx, -⟩ := h; cases hx
  | cons n l ih =>
    unfold placeOf
    split
    · exact Nat.succ_pos _
    · next hn =>
      obtain ⟨x, hx, hm⟩ := h
      obtain rfl | hx := List.mem_cons.1 hx
      · exact absurd hm hn
      · exact Nat.succ_lt_succ (ih ⟨x, hx, hm⟩)

end Sys2Proof.Machine

/-! SUPPORT. Chapter 6, a rebinding (R227, R230, R234, R235): what the numbering in force comes with,
and what keying and the ports' choices leave of it and of the count of runs. -/

namespace Sys2Proof.Machine

/-! ### The binding -/

/-- The numbering in force with what came with it: etbTopoCnt, opTrnTopoCnt, the numbering still
pending, the last boundary, OVERCOUNT. -/
def Inaug.binding (i : Inaug) :
    Option Numbering × U32 × U32 × Option (Nat × Numbering) × Nat × Bool :=
  (i.numbered, i.etbTopo, i.optrn, i.pending, i.lastB, i.overcount)

theorem only_binding {s t : State} {l : List Part} (h : t.onlyChanges s l) (hl : Part.inaug ∉ l) :
    t.inaug.binding = s.inaug.binding := by
  have hinaug :
      ({ t.inaug with insA := false, insB := false, relayA := none, relayB := none } : Inaug) =
        { s.inaug with insA := false, insB := false, relayA := none, relayB := none } := h.2 .inaug hl
  exact congrArg (·.binding) hinaug

theorem keyNew_binding (s : State) (p : Nat) : (s.keyNew p).inaug.binding = s.inaug.binding := by
  unfold State.keyNew
  dsimp only
  split
  · rfl
  · split
    · change (s.keyStart p).inaug.binding = _
      exact only_binding (State.keyStart_touch s p) (by decide)
    · rfl

/-- Whether the parison in force is OVERCOUNT under the numbering in force (R234). -/
def State.overNow (s : State) : Bool :=
  match s.par.force, s.inaug.numbered with
  | some p, some n => p.maxNodes < n.n
  | _, _ => false

theorem overUpdate_inaug (s : State) :
    s.overUpdate.inaug = { s.inaug with overcount := s.overNow } := by
  unfold State.overUpdate State.overNow
  cases s.par.force with
  | none => rfl
  | some p =>
    cases hn : s.inaug.numbered with
    | none => simp only [hn]
    | some n =>
      dsimp only
      split
      · next h => simp [h]
      · rw [State.note_inaug]
        split <;> rfl

/-! ### The count of runs -/

/-- How many numberings have taken effect. -/
def State.runs (s : State) : Nat := Tab.get 0 s.tly.live (tlInaug 0)

theorem only_runs {s t : State} {l : List Part} (h : t.onlyChanges s l) (hl : Part.tallies ∉ l) :
    t.runs = s.runs := congrArg (fun t : Tly => Tab.get 0 t.live (tlInaug 0)) (h.2 .tallies hl)

theorem count_runs (s : State) {k : Nat} (h : tlInaug 0 ≠ k) : (s.count k).runs = s.runs :=
  count_tally s k 1 _ h

theorem note_runs (s : State) (code : Nat) (args : List Byte) : (s.note code args).runs = s.runs :=
  note_tally s code args _ (by decide) (by decide)

theorem noteOnce_runs (s : State) (unit code : Nat) (args : List Byte) :
    (s.noteOnce unit code args).runs = s.runs :=
  noteOnce_tally s unit code args _ (by decide) (by decide)

theorem ite_runs {c : Prop} [Decidable c] {s t u : State} (ht : t.runs = s.runs)
    (hu : u.runs = s.runs) : (if c then t else u).runs = s.runs := by
  split
  · exact ht
  · exact hu

theorem overUpdate_runs (s : State) : s.overUpdate.runs = s.runs := by
  unfold State.overUpdate
  split
  · dsimp only
    split
    · rfl
    · rw [note_runs]
      split
      · exact count_runs _ (by decide)
      · rfl
  · rfl

theorem tlInaug_ne_tlPort (p : Nat) {i : Nat} (hi : 0 < i) (hlt : i < 64) :
    tlInaug 0 ≠ tlPort p i := by
  simp only [tlPort, tlInaug, tly]
  omega

theorem tlInaug_ne_tlKeyFail (l : Nat) : tlInaug 0 ≠ tlKey l mKeyFail := by
  unfold tlKey
  split
  · decide
  · exact tlInaug_ne_tlPort l (by decide) (by decide)

theorem tlInaug_ne_tlHost {i : Nat} (h : i < 64) : tlInaug 0 ≠ tlHost i := by
  simp only [tlHost, tlInaug, tly]
  omega

theorem keyFail_runs (s : State) (l cause : Nat) : (s.keyFail l cause).runs = s.runs := by
  unfold State.keyFail
  dsimp only
  rw [note_runs, count_runs _ (tlInaug_ne_tlKeyFail l)]
  rfl

theorem setKey_runs (s : State) (l : Nat) (x : KeyLink) : (s.setKey l x).runs = s.runs := rfl

theorem draw_runs (s : State) (n : Nat) : (s.draw n).2.runs = s.runs := rfl

theorem keyAsk_runs (s : State) (l ty : Nat) (stage : KeyStage) (body : List Byte) :
    (s.keyAsk l ty stage body).runs = s.runs := only_runs (State.keyAsk_touch ..) (by decide)

theorem keyBegin_runs (s : State) (l : Nat) : (s.keyBegin l).runs = s.runs := by
  unfold State.keyBegin
  conv => zeta
  refine ite_runs (setKey_runs ..) (ite_runs ?noise (ite_runs ?bare ?asks))
  case asks => simp only [keyAsk_runs, setKey_runs, draw_runs]
  all_goals rw [keyFail_runs, setKey_runs]

theorem keyStart_runs (s : State) (l : Nat) : (s.keyStart l).runs = s.runs :=
  ite_runs rfl (keyBegin_runs s l)

theorem keyNew_runs (s : State) (p : Nat) : (s.keyNew p).runs = s.runs := by
  unfold State.keyNew
  conv => zeta
  refine ite_runs rfl ?_
  change State.runs (if _ then s.keyStart p else s) = _
  exact ite_runs (keyStart_runs s p) rfl

/-! ### Seeds and the ports' choices -/

theorem seedHit_runs (s : State) (x : Seed) : (s.seedHit x).1.runs = s.runs := by
  have hcount : (s.count (tlSec 13)).runs = s.runs := count_runs s (by decide)
  unfold State.seedHit
  dsimp only
  split
  · split
    · exact hcount
    · exact (note_runs ..).trans hcount
  · exact (note_runs ..).trans hcount

theorem injectCan_runs (s : State) (kind : Nat) (pred can : List Byte → Bool) :
    (s.injectCan kind pred can).2.runs = s.runs := by
  unfold State.injectCan
  dsimp only
  refine foldl_keeps (fun acc : List Seed × List (List Byte) × State => acc.2.2.runs) _ ?_ _ _
  intro acc x
  split
  · split
    · rfl
    · split
      · exact ite_runs (count_runs _ (by decide)) rfl
      · exact seedHit_runs ..
  · rfl

theorem freeFrames_runs (s : State) : s.freeFrames.runs = s.runs := rfl

theorem setSa_runs (s : State) (l : Nat) (x : Sa) : (s.setSa l x).runs = s.runs := rfl

theorem setTx_runs (s : State) (x : Tab (Option TxNow)) :
    ({ s with fab := { s.fab with tx := x } } : State).runs = s.runs := rfl

theorem injectsTake_runs (s : State) (k : Nat) (pred : List Byte → Bool) (c : Copy) :
    ((s.injects k pred).2.take c).runs = s.runs := injectCan_runs s k pred fun _ => true

theorem choose_runs (s : State) (p n : Nat) : (s.choose p n).runs = s.runs := by
  induction n generalizing s with
  | zero => rfl
  | succ n ih =>
    rw [State.choose]
    split
    · rfl
    split
    · rfl
    next c _ =>
    dsimp only
    split
    · exact ite_runs rfl (count_runs _ (tlInaug_ne_tlPort p (by decide) (by decide)))
    have htake := injectsTake_runs s 5
      (fun k => bit (fld k 0 4) p && fld k 4 1 = 1 && bit (fld k 5 1) c.queue) c
    split
    · rw [ih, freeFrames_runs, htake]
    split
    · exact htake
    split
    · rw [setTx_runs, htake]
    split
    · rw [only_runs (State.sendNext_touch ..) (by decide), note_runs, setSa_runs, setTx_runs, htake]
    · rw [setSa_runs, setTx_runs, htake]

theorem dropHost_runs (s : State) (q : Nat) {k : Nat} (hk : k < 64) :
    (s.dropHost q k).runs = s.runs := by
  rw [State.dropHost]
  split
  · exact count_runs (s.take _) (tlInaug_ne_tlHost hk)
  · rfl

theorem hrxPump_runs (s : State) {q : Nat} (hq : q < 8) (justRead : Bool) (n : Nat) :
    (s.hrxPump q justRead n).runs = s.runs := by
  have hfull : hHrxFull q < 64 := by rw [hHrxFull]; omega
  have htrunc : hHrxTrunc q < 64 := by rw [hHrxTrunc]; omega
  induction n generalizing s with
  | zero => rfl
  | succ n ih =>
    rw [State.hrxPump]
    split
    · rfl
    split
    · exact ite_runs ((ih _).trans (dropHost_runs s q hfull)) rfl
    split
    · exact ih _
    dsimp only
    refine ite_runs rfl (ite_runs rfl (ite_runs ?_ rfl))
    refine (ih _).trans ((noteOnce_runs ..).trans ((dropHost_runs _ q ?_).trans rfl))
    split
    · exact hfull
    · exact htrunc

theorem egress_runs (s : State) (p : Nat) : (s.egress p).runs = s.runs := by
  refine ite_runs ?_ (choose_runs ..)
  exact List.foldlRecOn (motive := fun u => u.runs = s.runs) _ _ rfl
    fun u hu q hq => (hrxPump_runs u (List.mem_range.1 hq) _ _).trans hu

theorem egressAll_runs (s : State) : s.egressAll.runs = s.runs :=
  foldl_keeps State.runs State.egress egress_runs _ s

/-! ### At the boundary (R230) -/

/-- The numbering `n` in force from its boundary `b` on, before what follows from it. -/
def State.numberedAt (s : State) (b : Nat) (n : Numbering) : State :=
  (({ s with inaug := { s.inaug with
    pending := none, numbered := some n, etbTopo := n.etbTopo, optrn := 0, lastB := b
    etbNo := fld s.inaug.conf 7 1
    fastEnd := if s.inaug.fast then some (s.now + s.settleNs) else none } } : State).count
      (tlInaug 0)).note (ev 6 1)
        (le 1 n.n ++ le 1 n.p ++ le 1 (bnat n.inverse) ++ le 4 n.etbTopo.toNat ++ secNs b)

theorem rebind_due {s : State} {b : Nat} {n : Numbering} (h : s.inaug.pending = some (b, n))
    (hdue : b ≤ s.net + 2) :
    s.rebind = ((List.range 4).foldl State.keyNew (s.numberedAt b n).overUpdate).egressAll := by
  simp only [State.rebind, h]
  exact if_neg (Nat.not_lt.2 hdue)

theorem rebind_idle {s : State} (h : ∀ b n, s.inaug.pending = some (b, n) → s.net + 2 < b) :
    s.rebind = s := by
  unfold State.rebind
  split
  · rfl
  · next b n hp => exact if_pos (h b n hp)

theorem rebind_binding {s : State} {b : Nat} {n : Numbering} (h : s.inaug.pending = some (b, n))
    (hdue : b ≤ s.net + 2) : s.rebind.inaug.binding =
      (some n, n.etbTopo, 0, none, b, (s.numberedAt b n).overNow) := by
  rw [rebind_due h hdue, only_binding (State.egressAll_touch _) (by decide),
    foldl_keeps (fun u : State => u.inaug.binding) State.keyNew keyNew_binding, overUpdate_inaug,
    State.numberedAt, State.note_inaug]
  rfl

theorem numberedAt_overNow {s : State} (b : Nat) (n : Numbering) {p : Par}
    (hp : s.par.force = some p) : (s.numberedAt b n).overNow = decide (p.maxNodes < n.n) := by
  simp [State.overNow, State.numberedAt, hp]

theorem rebind_runs {s : State} {b : Nat} {n : Numbering} (h : s.inaug.pending = some (b, n))
    (hdue : b ≤ s.net + 2) : s.rebind.runs = min tlyMax (s.runs + 1) := by
  rw [rebind_due h hdue, egressAll_runs, foldl_keeps State.runs State.keyNew keyNew_runs,
    overUpdate_runs, State.numberedAt, note_runs]
  exact count_self ..

end Sys2Proof.Machine

/-! SUPPORT. Chapter 6, TOPOLOGY frames and the settle time (R222, R223, R226), the mailbox commands
(R218, R238) and the obligation on numbering. -/

namespace Sys2Proof.Machine

/-! ### TOPOLOGY frames (R222) -/

/-- Fast mode begins where it is asked for. -/
def State.fastIf (s : State) (fast : Bool) : State := if fast then s.enterFast else s

/-- A TOPOLOGY frame on a port with a link, while the teller runs: the views are its own, and the rest
of what follows moves the course alone. -/
theorem topologyIn_still {s : State} {p : Nat} (h : s.linked p) (hup : s.tellerUp = true)
    (m : TopoMsg) : (s.topologyIn p m).inaug.still =
      { (s.fastIf m.fast).inaug with viewA := m.lineA, viewB := m.lineB }.still := by
  obtain ⟨hlink, habs⟩ := h
  unfold State.topologyIn
  rw [if_neg (by simp [hlink, habs, hup])]
  exact (agree_courseFrom _).still.trans
    ((inhibitUpdate_courseFrom _).still.trans (newViews_courseFrom ..).still)

theorem topologyIn_idle {s : State} {p : Nat} (h : ¬ (s.linked p ∧ s.tellerUp = true))
    (m : TopoMsg) : s.topologyIn p m = s := by
  refine if_pos (eq_true_of_ne_false fun hoff => h ?_)
  rw [Bool.or_eq_false_iff, Bool.not_eq_false'] at hoff
  exact ⟨linked_iff.2 hoff.1, hoff.2⟩

theorem fastIf_numbered (s : State) (fast : Bool) :
    (s.fastIf fast).inaug.numbered = s.inaug.numbered := by
  cases fast
  · rfl
  · exact congrArg (·.numbered) (enterFast_slow s)

/-! ### The settle time (R222, R223, R226) -/

theorem topoRefused_inaug (s : State) (n cause : Nat) :
    (s.topoRefused n cause).inaug = { s.inaug with invalid := true } := by
  rw [State.topoRefused, State.note_inaug]
  rfl

theorem topoRefused_tally (s : State) (n cause : Nat) :
    Tab.get 0 (s.topoRefused n cause).tly.live (tlInaug 3) =
      min tlyMax (Tab.get 0 s.tly.live (tlInaug 3) + 1) :=
  (note_tally _ _ _ _ (by decide) (by decide)).trans (count_self ..)

/-- The settle time is over. -/
def State.settleOver (s : State) : State := { s with inaug := { s.inaug with settleAt := none } }

/-- The settle time is over, and the numbering of `l` is computed. -/
def State.computing (s : State) (l : List TopoNode) : State :=
  { s with inaug := { s.inaug with
      settleAt := none, invalid := false, computed := some (numberingOf l) } }

section
variable {s : State} {a : Nat} (ha : s.inaug.settleAt = some a) (hdue : a ≤ s.now)
  (hup : s.tellerUp = true) (hfree : s.inhibitNow = false ∨ s.inaug.numbered = none)
  {l : List TopoNode} (hl : s.topology = some l)

include ha hdue hup hfree hl

theorem settled_due : s.settled =
    if l.length > 63 then s.settleOver.topoRefused l.length 1 else (s.computing l).agree := by
  have hinhibit : (s.inhibitNow && s.inaug.numbered.isSome) = false := by
    obtain h | h := hfree <;> simp [h]
  have hl' : s.settleOver.topology = some l := hl
  unfold State.settleOver at hl'
  unfold State.settled
  simp only [ha, hup, hinhibit, Nat.not_lt.2 hdue, hl']
  rfl

/-- The numbering is computed, and agreed at once where every other node has announced it. -/
theorem settled_computed (hlen : l.length ≤ 63) :
    s.settled.inaug.settleAt = none ∧ s.settled.inaug.invalid = false ∧
      s.settled.inaug.numbered = s.inaug.numbered ∧
      (s.settled.inaug.computed = some (numberingOf l) ∧ s.settled.inaug.pending = s.inaug.pending ∨
        s.settled.inaug.computed = none ∧ ∃ b, s.settled.inaug.pending = some (b, numberingOf l)) ∧
      s.settled.onlyChanges s [.inaug] := by
  rw [settled_due ha hdue hup hfree hl, if_neg (Nat.not_lt.2 hlen)]
  have hset : (s.computing l).onlyChanges s [.inaug] := only_set_inaug _ (only_refl s _) rfl
  have honly := only_trans hset (State.agree_touch (s.computing l))
  obtain h | ⟨b, h⟩ := agree_cases (s.computing l) rfl
  · rw [h] at honly ⊢
    exact ⟨rfl, rfl, rfl, .inl ⟨rfl, rfl⟩, honly⟩
  · rw [h] at honly ⊢
    exact ⟨rfl, rfl, rfl, .inr ⟨rfl, b, rfl⟩, honly⟩

/-- More than 63 nodes are refused and counted (R223). -/
theorem settled_refused (hlen : 63 < l.length) :
    s.settled.inaug = { s.inaug with settleAt := none, invalid := true } ∧
      Tab.get 0 s.settled.tly.live (tlInaug 3) =
        min tlyMax (Tab.get 0 s.tly.live (tlInaug 3) + 1) := by
  rw [settled_due ha hdue hup hfree hl, if_pos hlen]
  exact ⟨topoRefused_inaug .., topoRefused_tally ..⟩

end

theorem settled_idle {s : State} (h : (∀ a, s.inaug.settleAt = some a → s.now < a) ∨
    s.tellerUp = false ∨ (s.inhibitNow = true ∧ s.inaug.numbered.isSome = true)) :
    s.settled = s := by
  unfold State.settled
  split
  · rfl
  · next a ha =>
    refine if_pos ?_
    obtain h | h | ⟨hinhibit, hnumbered⟩ := h
    · simp [h a ha]
    · simp [h]
    · simp [hinhibit, hnumbered]

/-! ### opTrnTopoCnt (R228) -/

theorem execOptrnApply_due {s : State} {dt b : Nat} {v : U32} (h : s.inaug.optrnAt = some (b, v))
    (hdue : b ≤ (s.elapse dt).net + 2) : exec (.optrnApply dt) s =
      go { s.elapse dt with inaug := { s.inaug with
        optrnAt := none, optrn := if s.inaug.numbered.isSome then v else 0 } } := by
  simp only [exec, execOptrnApply, State.elapse_inaug, h]
  exact if_pos hdue

theorem execOptrnApply_idle {s : State} {dt : Nat}
    (h : ∀ b v, s.inaug.optrnAt = some (b, v) → (s.elapse dt).net + 2 < b) :
    exec (.optrnApply dt) s = go (s.elapse dt) := by
  simp only [exec, execOptrnApply, State.elapse_inaug]
  split
  · next b v hb => exact if_neg (Nat.not_le.2 (h b v hb))
  · rfl

/-! ### MB_INAUG_CONFIG (R218) -/

/-- The record, the numbering in force and the frame ports. -/
def State.settings (s : State) : List Byte × Option Numbering × Tab Port :=
  (s.inaug.conf, s.inaug.numbered, s.ports.tab)

theorem enterFast_settings (s : State) : s.enterFast.settings = s.settings := by
  have hslow := enterFast_slow s
  have hports : s.enterFast.ports = s.ports := (State.enterFast_touch s).2 .ports (by decide)
  rw [State.settings, hports, show s.enterFast.inaug.conf = s.inaug.conf from congrArg (·.conf) hslow,
    show s.enterFast.inaug.numbered = s.inaug.numbered from congrArg (·.numbered) hslow]
  rfl

theorem insertion_settings (s : State) : s.insertion.settings = s.settings := by
  unfold State.insertion
  dsimp only
  split <;> rfl

theorem inhibitUpdate_settings (s : State) : s.inhibitUpdate.settings = s.settings := by
  have hstill := (inhibitUpdate_courseFrom s).still
  have hports : s.inhibitUpdate.ports = s.ports :=
    (State.inhibitUpdate_touch s).2 .ports (by decide)
  rw [State.settings, hports,
    show s.inhibitUpdate.inaug.conf = s.inaug.conf from congrArg (·.conf) hstill,
    show s.inhibitUpdate.inaug.numbered = s.inaug.numbered from congrArg (·.numbered) hstill]
  rfl

theorem setOptrn_settings (s : State) (v : U32) :
    ({ s with inaug := { s.inaug with optrn := v } } : State).settings = s.settings := rfl

theorem setOptrnAt_settings (s : State) (x : Option (Nat × U32)) :
    ({ s with inaug := { s.inaug with optrnAt := x } } : State).settings = s.settings := rfl

theorem ite_settings {p : Prop} [Decidable p] {t u : State}
    {v : List Byte × Option Numbering × Tab Port} (ht : t.settings = v) (hu : u.settings = v) :
    (if p then t else u).settings = v := by
  split
  · exact ht
  · exact hu

theorem setInaug_settings (s : State) (c : List Byte) :
    (s.setInaug c).settings = (c, s.inaug.numbered, s.ports.tab) := by
  unfold State.setInaug
  conv => zeta
  rw [inhibitUpdate_settings, insertion_settings]
  refine ite_settings ?_ (ite_settings ((setOptrnAt_settings ..).trans ?_)
    ((setOptrn_settings ..).trans ?_)) <;>
  · refine ite_settings ?_ rfl
    rw [enterFast_settings]
    rfl

/-- A record of the command's layout. -/
theorem cmdInaugConfig_shape {b : List Byte} (hlen : b.length = 36) (hopts : fld b 0 4 = 0)
    (hnode : fld b 12 1 < 16) (hrsv : zeroAt b 13 3 = true) (hrsv' : zeroAt b 20 16 = true) :
    cmdInaugConfig.shape b = true := by
  simp only [cmdInaugConfig, cfgOpts, cfgLen, hlen, hopts, hnode, hrsv, hrsv']
  rfl

theorem cmdInaugConfig_set {b : List Byte} (hopts : fld b 0 4 = 0) (hok : inaugOk (b.drop 4) = true)
    (s : State) : cmdInaugConfig.run b s = ans stOk (b.drop 4) (s.setInaug (b.drop 4)) := by
  simp only [cmdInaugConfig, hopts, hok]
  rfl

theorem cmdInaugConfig_refused {b : List Byte} (hopts : fld b 0 4 = 0)
    (hbad : inaugOk (b.drop 4) = false) (s : State) :
    cmdInaugConfig.run b s = ans stMalformed [] s := by
  simp only [cmdInaugConfig, hopts, hbad]
  rfl

/-- READ returns the record in force. -/
theorem cmdInaugConfig_read {b : List Byte} (hlen : b.length = 4) (hopts : fld b 0 4 = 2) :
    cmdInaugConfig.shape b = true ∧ ∀ s, cmdInaugConfig.run b s = ans stOk s.inaug.conf s := by
  refine ⟨?_, fun s => ?_⟩ <;> simp only [cmdInaugConfig, cfgOpts, cfgLen, hlen, hopts] <;> rfl

/-! ### MB_INAUG_STATUS (R238) -/

/-- What MB_INAUG_STATUS returns. -/
def State.inaugStatus (s : State) : List Byte :=
  le 1 s.nodeState ++ (match s.inaug.numbered with
      | some n => le 1 n.n ++ le 1 n.p ++ le 1 (n.p + 1) ++ le 1 (bnat n.inverse)
      | none => zeros 4) ++ le 1 (fld s.inaug.conf 7 1) ++ zeros 2 ++ le 4 s.inaug.etbTopo.toNat ++
    le 4 s.inaug.optrn.toNat ++ secNs s.inaug.lastB ++ zeros 4 ++
    ((List.range 4).map fun p =>
      le 1 (lineNo (s.bb p).line) ++ zeros 1 ++ macBytes (s.bb p).nbr).flatten

theorem cmdInaugStatus_run (b : List Byte) (s : State) :
    cmdInaugStatus.run b s = ans stOk s.inaugStatus s := rfl

/-! ### The obligation -/

/-- Settles O36: the numbering by its list, agreement and rebinding by what they leave of the
inauguration, and the commands by their runs. -/
theorem numberingIsAgreedAndBound : Obligations.NumberingIsAgreedAndBound := by
  refine ⟨?_, ?_, ?_, ?_, ?_, ?_, ?_, ?_, ?_, ?_, ?_⟩
  · intro l _
    exact ⟨fromNode1_eq_or l, fromNode1_length l, fun a b ha hb => fromNode1_ends ha hb,
      fun x hx => placeOf_mac hx, fun h => placeOf_lt (exists_mem_fromNode1 h)⟩
  · intro s dt p m
    refine ⟨fun ⟨hlink, habs, hup⟩ => ?_, fun hoff => ?_⟩
    · have hstill := topologyIn_still (s := s.elapse dt) ⟨hlink, habs⟩ hup m
      refine ⟨_, rfl, congrArg (·.viewA) hstill, congrArg (·.viewB) hstill, fun hfast => ?_,
        (congrArg (·.numbered) hstill).trans (fastIf_numbered ..)⟩
      refine (congrArg (·.fast) hstill).trans ?_
      rw [hfast]
      exact enterFast_fast _
    · have hrun : exec (.topologyRx dt p m) s = go (s.elapse dt) :=
        congrArg go (topologyIn_idle (s := s.elapse dt) (fun h => hoff ⟨h.1.1, h.1.2, h.2⟩) m)
      rw [hrun]
      exact go_elapse_only s dt
  · intro s dt a ha hdue hup hfree
    refine ⟨fun l hl hlen => ?_, fun l hl hlen => ?_⟩
    · obtain ⟨hsettle, hvalid, hnumbered, hagreed, honly⟩ :=
        settled_computed (s := s.elapse dt) ha hdue hup hfree hl hlen
      exact ⟨_, rfl, hsettle, hvalid, hnumbered, hagreed, go_only honly⟩
    · obtain ⟨hinaug, htally⟩ := settled_refused (s := s.elapse dt) ha hdue hup hfree hl hlen
      refine ⟨_, rfl, ?_⟩
      exact ⟨congrArg (·.settleAt) hinaug, congrArg (·.invalid) hinaug, congrArg (·.numbered) hinaug,
        congrArg (·.computed) hinaug, htally⟩
  · intro s dt hidle
    have hrun : exec (.settleExpiry dt) s = go (s.elapse dt) :=
      congrArg go (settled_idle (s := s.elapse dt) hidle)
    rw [hrun]
    exact go_elapse_only s dt
  · intro s dt b n hb hdue
    have hbinding := rebind_binding (s := s.elapse dt) hb hdue
    simp only [Inaug.binding, Prod.mk.injEq] at hbinding
    obtain ⟨hnumbered, hetb, hoptrn, hpending, hlast, hover⟩ := hbinding
    exact ⟨_, rfl, hnumbered, hetb, hoptrn, hpending, hlast, rebind_runs (s := s.elapse dt) hb hdue,
      fun p hp => hover.trans (numberedAt_overNow b n hp)⟩
  · intro s dt hidle
    have hrun : exec (.rebinding dt) s = go (s.elapse dt) :=
      congrArg go (rebind_idle (s := s.elapse dt) hidle)
    rw [hrun]
    exact go_elapse_only s dt
  · intro s dt b v hb hdue
    exact ⟨_, execOptrnApply_due hb hdue, rfl, rfl, rfl, go_only (only_set_inaug _ (only_refl _ _) rfl)⟩
  · intro s dt hidle
    rw [execOptrnApply_idle hidle]
    exact go_elapse_only s dt
  · intro s dt r hfree hplain hlen hopts hnode hrsv hrsv'
    have hshape := cmdInaugConfig_shape hlen hopts hnode hrsv hrsv'
    refine ⟨fun hok => ?_, fun hbad => ?_⟩
    · obtain ⟨t, hgo, hans, rfl⟩ := mailbox_done (s.elapse dt) cmdInaugConfig r (by decide) hfree hplain
        hshape _ _ _ (cmdInaugConfig_set hopts hok _)
      have hset := setInaug_settings ((s.elapse dt).writeReq 0x0401 r) (r.body.drop 4)
      simp only [State.settings, Prod.mk.injEq] at hset
      obtain ⟨hconf, hnumbered, htab⟩ := hset
      refine ⟨_, hgo, hans, ?_⟩
      rw [pins_conf, pins_numbered, State.pins_ports, State.respond_inaug, State.respond_ports]
      exact ⟨hconf, hnumbered, htab⟩
    · exact mailbox_read s dt cmdInaugConfig r (by decide) hfree hplain hshape _ _
        (cmdInaugConfig_refused hopts hbad _)
  · intro s dt r hfree hplain hlen hopts
    obtain ⟨hshape, hrun⟩ := cmdInaugConfig_read hlen hopts
    exact mailbox_read s dt cmdInaugConfig r (by decide) hfree hplain hshape _ _ (hrun _)
  · intro s dt r hfree hplain hbody
    have hshape : cmdInaugStatus.shape r.body = true := by rw [hbody]; rfl
    obtain ⟨t, hgo, hans, honly⟩ := mailbox_read s dt cmdInaugStatus r (by decide) hfree hplain hshape
      _ _ (cmdInaugStatus_run _ _)
    exact ⟨t, _, hgo, hans, rfl, honly⟩

end Sys2Proof.Machine

/-! SUPPORT. Chapter 8: the controllers of a state, what a new error count leaves of them (R281 to R284),
and their receive FIFOs (R288, R289, R292, R293). -/

namespace Sys2Proof.Machine

/-! ### The controllers of a state -/

theorem ctl_of_can {s t : State} (h : t.can = s.can) (c : Nat) : t.ctl c = s.ctl c := by
  rw [State.ctl, h, State.ctl]

@[simp] theorem ctl_setCtl_self (s : State) (c : Nat) (x : Option CanCtl) : (s.setCtl c x).ctl c = x :=
  Tab.get_set_self ..

@[simp] theorem pins_ctl (s : State) (c : Nat) : s.pins.ctl c = s.ctl c := ctl_of_can s.pins_can c

@[simp] theorem count_ctl (s : State) (i c : Nat) : (s.count i).ctl c = s.ctl c := rfl

@[simp] theorem send_ctl (s : State) (v : Sent) (c : Nat) : (s.send v).ctl c = s.ctl c := rfl

theorem only_ctl {s t : State} {l : List Part} (h : t.onlyChanges s l) (hl : Part.can ∉ l) (c : Nat) :
    t.ctl c = s.ctl c := ctl_of_can (h.2 .can hl) c

/-! ### The two FIFOs of a controller -/

@[simp] theorem CanCtl.fifo_setFifo_self (x : CanCtl) (f : Nat) (q : CanFifo) :
    (x.setFifo f q).fifo f = q := by
  by_cases h : f = 0 <;> simp [CanCtl.fifo, CanCtl.setFifo, h]

/-- FIFO 0 and FIFO 1 are written apart. -/
theorem CanCtl.fifo_setFifo_other (x : CanCtl) {f : Nat} (q : CanFifo) (hf : f < 2) :
    (x.setFifo f q).fifo (1 - f) = x.fifo (1 - f) := by
  obtain rfl | rfl : f = 0 ∨ f = 1 := by omega
  · rfl
  · rfl

@[simp] theorem CanCtl.setFifo_seq (x : CanCtl) (f : Nat) (q : CanFifo) : (x.setFifo f q).seq = x.seq := by
  unfold CanCtl.setFifo
  split <;> rfl

@[simp] theorem CanFifo.pop_head (q : CanFifo) : q.pop.head = (q.head + 1) % 64 := by
  unfold CanFifo.pop
  split <;> rfl

@[simp] theorem CanFifo.pop_count (q : CanFifo) : q.pop.count = q.count - 1 := by
  unfold CanFifo.pop
  split <;> rfl

/-! ### Pushing an entry (R288) -/

theorem CanFifo.push_room {q : CanFifo} (h : q.count < 64) (keepNew : Bool) (e : CanEnt) :
    q.push keepNew e = (true, { q with
      ents := Tab.set none q.ents ((q.head + q.count) % 64) (some e), count := q.count + 1 }) := if_pos h

theorem CanFifo.push_lost {q : CanFifo} (h : 64 ≤ q.count) (e : CanEnt) :
    q.push false e = (false, { q with ovf := true }) := by
  simp [CanFifo.push, Nat.not_lt.2 h]

theorem CanFifo.push_over {q : CanFifo} (h : 64 ≤ q.count) (e : CanEnt) :
    q.push true e = (true, { q with
      ents := Tab.set none q.ents q.head (some e), head := (q.head + 1) % 64, ovf := true }) := by
  simp [CanFifo.push, Nat.not_lt.2 h]

/-! ### What receiving reads of a controller -/

/-- What receiving reads and moves on of a controller: its record, its FIFOs and the next SEQ. -/
def CanCtl.rx (x : CanCtl) : List Byte × CanFifo × CanFifo × Nat := (x.conf, x.fifo0, x.fifo1, x.seq)

/-- The same of a state's controller. -/
def State.rx (s : State) (c : Nat) : Option (List Byte × CanFifo × CanFifo × Nat) :=
  (s.ctl c).map CanCtl.rx

section
variable {x y : CanCtl} (h : y.rx = x.rx)

include h

theorem CanCtl.conf_of_rx : y.conf = x.conf := congrArg (·.1) h

theorem CanCtl.fifo0_of_rx : y.fifo0 = x.fifo0 := congrArg (·.2.1) h

theorem CanCtl.fifo1_of_rx : y.fifo1 = x.fifo1 := congrArg (·.2.2.1) h

theorem CanCtl.seq_of_rx : y.seq = x.seq := congrArg (·.2.2.2) h

theorem CanCtl.fifo_of_rx (f : Nat) : y.fifo f = x.fifo f := by
  rw [CanCtl.fifo, CanCtl.fifo0_of_rx h, CanCtl.fifo1_of_rx h, CanCtl.fifo]

theorem CanCtl.overwrites_of_rx (f : Nat) : y.overwrites f = x.overwrites f := by
  rw [CanCtl.overwrites, CanCtl.conf_of_rx h, CanCtl.overwrites]

end

theorem rx_of_ctl {s : State} {c : Nat} {x : CanCtl} (h : s.ctl c = some x) : s.rx c = some x.rx := by
  rw [State.rx, h, Option.map_some]

theorem exists_ctl_of_rx {s : State} {c : Nat} {x : CanCtl} (h : s.rx c = some x.rx) :
    ∃ y, s.ctl c = some y ∧ y.rx = x.rx := Option.map_eq_some_iff.1 h

theorem only_rx {s t : State} {l : List Part} (h : t.onlyChanges s l) (hl : Part.can ∉ l) (c : Nat) :
    t.rx c = s.rx c := congrArg (Option.map CanCtl.rx) (only_ctl h hl c)

/-- Withdrawing buffers reaches no FIFO (R283). -/
theorem withdrawBufs_rx (s : State) (c outcome : Nat) (all : Bool) :
    (s.withdrawBufs c outcome all).rx c = s.rx c := by
  unfold State.withdrawBufs
  cases hx : s.ctl c with
  | none => rfl
  | some x =>
    exact (only_rx (State.countN_touch ..) (by decide) c).trans
      ((rx_of_ctl (ctl_setCtl_self ..)).trans (rx_of_ctl hx).symm)

/-- New error counts reach no FIFO. -/
theorem setErr_rx (s : State) (c tec rec_ : Nat) : (s.setErr c tec rec_).rx c = s.rx c := by
  cases hx : s.ctl c with
  | none => simp only [State.setErr, hx]
  | some x =>
    have hset : ∀ (y : CanCtl) (old new : CanErrState), y.rx = x.rx →
        ((s.setCtl c (some y)).noteErr c old new y).rx c = s.rx c := fun y _ _ hy =>
      (only_rx (State.noteErr_touch ..) (by decide) c).trans
        ((rx_of_ctl (ctl_setCtl_self ..)).trans ((congrArg some hy).trans (rx_of_ctl hx).symm))
    simp only [State.setErr, hx]
    split
    · exact (rx_of_ctl (ctl_setCtl_self ..)).trans (rx_of_ctl hx).symm
    · cases errOf tec rec_ with
      | active => exact hset _ _ _ rfl
      | passive => exact (only_rx (State.count_touch ..) (by decide) c).trans (hset _ _ _ rfl)
      | busOff =>
        exact (withdrawBufs_rx ..).trans
          ((only_rx (State.count_touch ..) (by decide) c).trans (hset _ _ _ rfl))

theorem withdrawBufs_clk (s : State) (c outcome : Nat) (all : Bool) :
    (s.withdrawBufs c outcome all).clk = s.clk := by
  unfold State.withdrawBufs
  cases s.ctl c with
  | none => rfl
  | some _ => rfl

/-- New error counts take no time. -/
theorem setErr_clk (s : State) (c tec rec_ : Nat) : (s.setErr c tec rec_).clk = s.clk := by
  cases hx : s.ctl c with
  | none => simp only [State.setErr, hx]
  | some x =>
    simp only [State.setErr, hx]
    split
    · rfl
    · cases errOf tec rec_ with
      | active => exact State.note_clk ..
      | passive => exact State.note_clk ..
      | busOff => exact (withdrawBufs_clk ..).trans (State.note_clk ..)

/-! ### Tallies of a controller (R528) -/

/-- A tally of a controller. -/
def State.canTally (s : State) (c i : Nat) : Nat := Tab.get 0 s.tly.live (tlCan c i)

theorem tlCan_ne (c : Nat) {i j : Nat} (h : i ≠ j) : tlCan c i ≠ tlCan c j := by
  simp only [tlCan, tly]; omega

theorem tlCan_ne_tlFeed {c i : Nat} (j : Nat) (hc : c < 8) (hi : i < 64) : tlCan c i ≠ tlFeed j := by
  simp only [tlCan, tlFeed, tly]; omega

theorem count_canTally_self (s : State) (c i : Nat) :
    (s.count (tlCan c i)).canTally c i = min tlyMax (s.canTally c i + 1) := count_self ..

theorem count_canTally_ne (s : State) (c : Nat) {i j : Nat} (h : i ≠ j) :
    (s.count (tlCan c j)).canTally c i = s.canTally c i := count_tally _ _ _ _ (tlCan_ne c h)

theorem canTally_of_tly {s t : State} (h : t.tly = s.tly) (c i : Nat) :
    t.canTally c i = s.canTally c i := by
  rw [State.canTally, h, State.canTally]

theorem pins_canTally (s : State) (c i : Nat) : s.pins.canTally c i = s.canTally c i :=
  canTally_of_tly (pins_tly s) c i

section
variable {c i : Nat} (hc : c < 8) (hi : i < 64)

include hc hi

theorem note_canTally (s : State) (code : Nat) (args : List Byte) :
    (s.note code args).canTally c i = s.canTally c i :=
  note_tally _ _ _ _ (tlCan_ne_tlFeed 5 hc hi) (tlCan_ne_tlFeed 6 hc hi)

theorem noteOnce_canTally (s : State) (u code : Nat) (args : List Byte) :
    (s.noteOnce u code args).canTally c i = s.canTally c i :=
  noteOnce_tally _ _ _ _ _ (tlCan_ne_tlFeed 5 hc hi) (tlCan_ne_tlFeed 6 hc hi)

end

theorem withdrawBufs_canTally (s : State) (c outcome : Nat) (all : Bool) {i : Nat} (hi : i ≠ 22) :
    (s.withdrawBufs c outcome all).canTally c i = s.canTally c i := by
  unfold State.withdrawBufs
  cases s.ctl c with
  | none => rfl
  | some _ => exact count_tally _ _ _ _ (tlCan_ne c hi)

/-- New error counts count under the tallies of the error states alone. -/
theorem setErr_canTally (s : State) {c i : Nat} (tec rec_ : Nat) (hc : c < 8) (hi : i < 22) :
    (s.setErr c tec rec_).canTally c i = s.canTally c i := by
  cases hx : s.ctl c with
  | none => simp only [State.setErr, hx]
  | some x =>
    have hset : ∀ (y : CanCtl) (old new : CanErrState),
        ((s.setCtl c (some y)).noteErr c old new y).canTally c i = s.canTally c i :=
      fun y _ _ => note_canTally hc (by omega) _ _ _
    simp only [State.setErr, hx]
    split
    · rfl
    · cases errOf tec rec_ with
      | active => exact hset ..
      | passive => exact (count_canTally_ne _ _ (by omega)).trans (hset ..)
      | busOff =>
        exact (withdrawBufs_canTally _ _ _ _ (by omega)).trans
          ((count_canTally_ne _ _ (by omega)).trans (hset ..))

end Sys2Proof.Machine

/-! SUPPORT. Chapter 8, receiving (R286 to R289, R292, R293). -/

namespace Sys2Proof.Machine

/-! ### A frame enters a FIFO (R288, R289) -/

/-- The entry that a frame makes. -/
def CanCtl.newEnt (x : CanCtl) (f : CanFrame) (stamp filter : Nat) : CanEnt :=
  { seq := x.seq, frame := f, stamp := stamp, filter := filter, isNew := true }

/-- The controller once an entry has been offered to a FIFO: SEQ moves on where the FIFO takes it. -/
def CanCtl.offered (x : CanCtl) (n : Nat) (e : CanEnt) : CanCtl :=
  let r := (x.fifo n).push (x.overwrites n) e
  (if r.1 then { x with seq := (x.seq + 1) % 65536 } else x).setFifo n r.2

theorem CanCtl.offered_fifo (x : CanCtl) (n : Nat) (e : CanEnt) :
    (x.offered n e).fifo n = ((x.fifo n).push (x.overwrites n) e).2 := fifo_setFifo_self ..

theorem CanCtl.offered_fifo_other (x : CanCtl) {n : Nat} (e : CanEnt) (hn : n < 2) :
    (x.offered n e).fifo (1 - n) = x.fifo (1 - n) := by
  rw [CanCtl.offered, CanCtl.fifo_setFifo_other _ _ hn]
  split <;> rfl

theorem CanCtl.offered_seq (x : CanCtl) (n : Nat) (e : CanEnt) : (x.offered n e).seq =
    if ((x.fifo n).push (x.overwrites n) e).1 then (x.seq + 1) % 65536 else x.seq := by
  rw [CanCtl.offered, CanCtl.setFifo_seq, apply_ite CanCtl.seq]

/-- A FIFO with room takes the entry behind its newest (R288). -/
theorem CanCtl.offered_room {x : CanCtl} {n : Nat} (e : CanEnt) (h : (x.fifo n).count < 64) :
    let q := x.fifo n
    (x.offered n e).seq = (x.seq + 1) % 65536 ∧ (x.offered n e).fifo n = { q with
      ents := Tab.set none q.ents ((q.head + q.count) % 64) (some e), count := q.count + 1 } := by
  rw [offered_seq, offered_fifo, CanFifo.push_room h]
  exact ⟨rfl, rfl⟩

/-- A full FIFO keeps what it has, and is marked. -/
theorem CanCtl.offered_lost {x : CanCtl} {n : Nat} (e : CanEnt) (h : 64 ≤ (x.fifo n).count)
    (hkeep : x.overwrites n = false) : (x.offered n e).seq = x.seq ∧
      (x.offered n e).fifo n = { x.fifo n with ovf := true } := by
  rw [offered_seq, offered_fifo, hkeep, CanFifo.push_lost h]
  exact ⟨rfl, rfl⟩

/-- A full FIFO that overwrites loses its oldest entry, and is marked. -/
theorem CanCtl.offered_over {x : CanCtl} {n : Nat} (e : CanEnt) (h : 64 ≤ (x.fifo n).count)
    (hover : x.overwrites n = true) :
    let q := x.fifo n
    (x.offered n e).seq = (x.seq + 1) % 65536 ∧ (x.offered n e).fifo n = { q with
      ents := Tab.set none q.ents q.head (some e), head := (q.head + 1) % 64, ovf := true } := by
  rw [offered_seq, offered_fifo, hover, CanFifo.push_over h]
  exact ⟨rfl, rfl⟩

/-- What an offer leaves is told by what receiving reads of the controller. -/
theorem CanCtl.offered_rx {x y : CanCtl} (h : y.rx = x.rx) (n : Nat) (e : CanEnt) :
    (y.offered n e).rx = (x.offered n e).rx := by
  rw [CanCtl.offered, CanCtl.offered, fifo_of_rx h, overwrites_of_rx h, seq_of_rx h]
  generalize (x.fifo n).push (x.overwrites n) e = r
  simp only [CanCtl.rx, Prod.mk.injEq] at h ⊢
  obtain ⟨hconf, h0, h1, hseq⟩ := h
  by_cases htaken : r.1 = true <;> by_cases hn : n = 0 <;>
    simp [CanCtl.setFifo, htaken, hn, hconf, h0, h1, hseq]

theorem intoFifo_rx {s : State} {c : Nat} {x : CanCtl} (n : Nat) (f : CanFrame) (stamp filter : Nat)
    (hx : s.ctl c = some x) :
    (s.intoFifo c n f stamp filter).rx c = some (x.offered n (x.newEnt f stamp filter)).rx := by
  have hset : (s.setCtl c (some (x.offered n (x.newEnt f stamp filter)))).rx c = _ :=
    rx_of_ctl (ctl_setCtl_self ..)
  simp only [State.intoFifo, hx]
  split
  · exact hset
  · exact (only_rx (State.noteOnce_touch ..) (by decide) c).trans
      ((only_rx (State.count_touch ..) (by decide) c).trans hset)

/-- A FIFO that is full counts its own loss (R289). -/
theorem intoFifo_canTally_full {s : State} {c n : Nat} {x : CanCtl} (f : CanFrame) (stamp filter : Nat)
    (hc : c < 8) (hn : n < 2) (hx : s.ctl c = some x) (hfull : 64 ≤ (x.fifo n).count) :
    (s.intoFifo c n f stamp filter).canTally c (3 + n) = min tlyMax (s.canTally c (3 + n) + 1) := by
  simp only [State.intoFifo, hx, Nat.not_lt.2 hfull, if_false]
  exact (noteOnce_canTally hc (by omega) _ _ _ _).trans (count_canTally_self ..)

/-- A FIFO with room counts nothing. -/
theorem intoFifo_canTally_room {s : State} {c n : Nat} {x : CanCtl} (f : CanFrame) (stamp filter i : Nat)
    (hx : s.ctl c = some x) (hroom : (x.fifo n).count < 64) :
    (s.intoFifo c n f stamp filter).canTally c i = s.canTally c i := by
  simp only [State.intoFifo, hx, hroom, if_true]
  rfl

/-! ### A frame is heard (R286, R287) -/

/-- A controller that hears a frame: it answers, takes part in its bus, and knows the format. -/
def State.hears (s : State) (c : Nat) (x : CanCtl) (f : CanFrame) : Prop :=
  s.absentUnit (0x20 + c) = false ∧ x.onBus = true ∧ (f.fdf = true → x.fdEn = true)

theorem deaf_iff {s : State} {c : Nat} {x : CanCtl} {f : CanFrame} :
    (s.absentUnit (0x20 + c) || !x.onBus || (f.fdf && !x.fdEn)) = true ↔ ¬ s.hears c x f := by
  simp only [State.hears]
  cases s.absentUnit (0x20 + c) <;> cases x.onBus <;> cases f.fdf <;> simp

/-- A frame heard is counted. -/
def State.countHeard (s : State) (c : Nat) (f : CanFrame) : State :=
  let s := s.count (tlCan c 0)
  if f.fdf then s.count (tlCan c 1) else s

/-- A frame heard is counted, and the receive error count of a controller that drives follows it. -/
def State.heard (s : State) (c : Nat) (x : CanCtl) (f : CanFrame) : State :=
  let s := s.countHeard c f
  if s.canDrives x then s.setErr c x.tec (Config.canRxCount x.rec_) else s

section
variable (s : State) (c : Nat) (x : CanCtl) (f : CanFrame)

theorem countHeard_only : (s.countHeard c f).onlyChanges s [.tallies] :=
  only_ite (only_trans (State.count_touch ..) (State.count_touch ..)) (State.count_touch ..)

theorem countHeard_clk : (s.countHeard c f).clk = s.clk := by
  unfold State.countHeard
  split <;> rfl

theorem heard_only : (s.heard c x f).onlyChanges s (.can :: eventParts) := by
  have hcount : (s.countHeard c f).onlyChanges s (.can :: eventParts) :=
    only_sub (countHeard_only s c f) rfl
  exact only_ite (only_step hcount (State.setErr_touch ..)) hcount

theorem heard_rx : (s.heard c x f).rx c = s.rx c := by
  have hcount : (s.countHeard c f).rx c = s.rx c := only_rx (countHeard_only s c f) (by decide) c
  unfold State.heard
  dsimp only
  split
  · exact (setErr_rx ..).trans hcount
  · exact hcount

variable {x c} in
/-- The controller that heard the frame, as receiving reads it. -/
theorem heard_ctl (hx : s.ctl c = some x) : ∃ y, (s.heard c x f).ctl c = some y ∧ y.rx = x.rx :=
  exists_ctl_of_rx ((heard_rx s c x f).trans (rx_of_ctl hx))

theorem heard_clk : (s.heard c x f).clk = s.clk := by
  unfold State.heard
  dsimp only
  split
  · exact (setErr_clk ..).trans (countHeard_clk s c f)
  · exact countHeard_clk s c f

variable {c}

theorem heard_canTally {i : Nat} (hc : c < 8) (hi : i < 22) (h1 : i ≠ 1) :
    (s.heard c x f).canTally c i = (s.count (tlCan c 0)).canTally c i := by
  have hcount : (s.countHeard c f).canTally c i = (s.count (tlCan c 0)).canTally c i := by
    unfold State.countHeard
    split
    · exact count_canTally_ne _ _ h1
    · rfl
  unfold State.heard
  dsimp only
  split
  · exact (setErr_canTally _ _ _ hc hi).trans hcount
  · exact hcount

theorem heard_canTally_frames (hc : c < 8) :
    (s.heard c x f).canTally c 0 = min tlyMax (s.canTally c 0 + 1) :=
  (heard_canTally s x f hc (by decide) (by decide)).trans (count_canTally_self ..)

theorem heard_canTally_other {i : Nat} (hc : c < 8) (hi : i < 22) (h0 : i ≠ 0) (h1 : i ≠ 1) :
    (s.heard c x f).canTally c i = s.canTally c i :=
  (heard_canTally s x f hc hi h1).trans (count_canTally_ne _ _ h0)

end

/-- The stamp of a frame whose start lies `age` CAN clocks back. -/
def State.stampAgo (s : State) (age : Nat) : Nat := (s.canCount + 2 ^ 48 - age % 2 ^ 48) % 2 ^ 48

/-- What becomes of a frame that is counted, by the filter pair that takes it (R286, R288, R204). -/
def State.sortFrame (s : State) (c : Nat) (f : CanFrame) (age : Nat) : State :=
  match s.filterOf c f with
  | none => s.count (tlCan c 2)
  | some r =>
    let t := match s.maps.find? fun m => mKind m = 2 && mUnit m = c && mIndex m = fld r 1 1 with
      | none => s
      | some m =>
        if f.data.length < mLen m then s.count (tlPd 17)
        else s.mapCommit (mPort m) 4 (s.canNet (canDomain c) (s.stampAgo age)) (mOff m) (canDomain c)
          (f.data.take (mLen m))
    if fld r 2 1 < 2 then t.intoFifo c (fld r 2 1) f (s.stampAgo age) (fld r 1 1) else t

theorem sortFrame_unmatched {s : State} {c : Nat} {f : CanFrame} (age : Nat) (h : s.filterOf c f = none) :
    s.sortFrame c f age = s.count (tlCan c 2) := by
  simp only [State.sortFrame, h]

/-- A matching pair without a map hands the frame to its FIFO, where it names one. -/
theorem sortFrame_matched {s : State} {c : Nat} {f : CanFrame} {r : List Byte} (age : Nat)
    (h : s.filterOf c f = some r)
    (hmap : ∀ m ∈ s.maps, ¬(mKind m = 2 ∧ mUnit m = c ∧ mIndex m = fld r 1 1)) :
    s.sortFrame c f age = if fld r 2 1 < 2 then
      s.intoFifo c (fld r 2 1) f (s.stampAgo age) (fld r 1 1) else s := by
  have hfind : (s.maps.find? fun m => mKind m = 2 && mUnit m = c && mIndex m = fld r 1 1) = none := by
    simpa [List.find?_eq_none, and_assoc] using hmap
  simp only [State.sortFrame, h, hfind]

section
variable {s : State} {c : Nat} {x : CanCtl} {f : CanFrame} (age : Nat) (hx : s.ctl c = some x)

include hx

theorem canReceive_deaf (h : ¬ s.hears c x f) : s.canReceive c f age = s := by
  simp only [State.canReceive, hx]
  exact if_pos (deaf_iff.2 h)

variable (h : s.hears c x f)

include h

theorem canReceive_heard : s.canReceive c f age = (s.heard c x f).sortFrame c f age := by
  simp only [State.canReceive, hx]
  exact if_neg fun hdeaf => deaf_iff.1 hdeaf h

theorem canReceive_unmatched (hnone : s.filterOf c f = none) :
    s.canReceive c f age = (s.heard c x f).count (tlCan c 2) := by
  have hpar : (s.heard c x f).par = s.par := only_par_eq (heard_only s c x f) (by decide)
  rw [canReceive_heard age hx h, sortFrame_unmatched]
  rw [State.filterOf, hpar, ← State.filterOf, hnone]

theorem canReceive_matched {r : List Byte} (hr : s.filterOf c f = some r)
    (hmap : ∀ m ∈ s.maps, ¬(mKind m = 2 ∧ mUnit m = c ∧ mIndex m = fld r 1 1)) :
    s.canReceive c f age = if fld r 2 1 < 2 then
      (s.heard c x f).intoFifo c (fld r 2 1) f (s.stampAgo age) (fld r 1 1) else s.heard c x f := by
  have hpar : (s.heard c x f).par = s.par := only_par_eq (heard_only s c x f) (by decide)
  have hfilter : (s.heard c x f).filterOf c f = some r := by
    rw [State.filterOf, hpar, ← State.filterOf, hr]
  have hmaps : (s.heard c x f).maps = s.maps := by rw [State.maps, hpar, State.maps]
  have hstamp : (s.heard c x f).stampAgo age = s.stampAgo age := by
    simp only [State.stampAgo, State.canCount, State.now, heard_clk]
  rw [canReceive_heard age hx h, sortFrame_matched age hfilter (by rwa [hmaps]), hstamp]

variable {r : List Byte} (hr : s.filterOf c f = some r)
  (hmap : ∀ m ∈ s.maps, ¬(mKind m = 2 ∧ mUnit m = c ∧ mIndex m = fld r 1 1))

include hr hmap

theorem canReceive_nowhere (hn : 2 ≤ fld r 2 1) : s.canReceive c f age = s.heard c x f :=
  (canReceive_matched age hx h hr hmap).trans (if_neg (Nat.not_lt.2 hn))

theorem canReceive_into (hn : fld r 2 1 < 2) : s.canReceive c f age =
    (s.heard c x f).intoFifo c (fld r 2 1) f (s.stampAgo age) (fld r 1 1) :=
  (canReceive_matched age hx h hr hmap).trans (if_pos hn)

/-- The frame is offered to the FIFO; its entry carries the SEQ the controller had before it. -/
theorem canReceive_rx (hn : fld r 2 1 < 2) : (s.canReceive c f age).rx c =
    some (x.offered (fld r 2 1) (x.newEnt f (s.stampAgo age) (fld r 1 1))).rx := by
  obtain ⟨y, hy, hyx⟩ := heard_ctl s f hx
  rw [canReceive_into age hx h hr hmap hn, intoFifo_rx _ _ _ _ hy, CanCtl.offered_rx hyx,
    CanCtl.newEnt, CanCtl.seq_of_rx hyx, CanCtl.newEnt]

theorem canReceive_canTally_room (hc : c < 8) (hn : fld r 2 1 < 2)
    (hroom : (x.fifo (fld r 2 1)).count < 64) :
    (s.canReceive c f age).canTally c 0 = min tlyMax (s.canTally c 0 + 1) := by
  obtain ⟨y, hy, hyx⟩ := heard_ctl s f hx
  rw [canReceive_into age hx h hr hmap hn,
    intoFifo_canTally_room f _ _ 0 hy (by rwa [CanCtl.fifo_of_rx hyx]), heard_canTally_frames s x f hc]

theorem canReceive_canTally_full (hc : c < 8) (hn : fld r 2 1 < 2)
    (hfull : 64 ≤ (x.fifo (fld r 2 1)).count) :
    (s.canReceive c f age).canTally c (3 + fld r 2 1) =
      min tlyMax (s.canTally c (3 + fld r 2 1) + 1) := by
  obtain ⟨y, hy, hyx⟩ := heard_ctl s f hx
  rw [canReceive_into age hx h hr hmap hn,
    intoFifo_canTally_full f _ _ hc hn hy (by rwa [CanCtl.fifo_of_rx hyx]),
    heard_canTally_other s x f hc (by omega) (by omega) (by omega)]

end

end Sys2Proof.Machine

/-! SUPPORT. Chapter 8, a FIFO's access block (R291 to R293), and the frames that enter the FIFOs. -/

namespace Sys2Proof.Machine

/-! ### A read of ACQUIRE (R292, R293) -/

theorem bit_toNat {w : Nat} (v : BitVec w) (i : Nat) : bit v.toNat i = v.getLsbD i := by
  rw [bit, BitVec.getLsbD, Nat.testBit_eq_decide_div_mod_eq]
  rfl

/-- The FIFO whose oldest entry has moved into the shadow buffer. -/
def CanFifo.handed (q : CanFifo) : CanFifo := { q.pop with shadow := Tab.get none q.ents q.head }

section
variable {s : State} {c n : Nat} {x : CanCtl} (hx : s.ctl c = some x)

include hx

/-- CHECK shows the index of the oldest entry; an empty FIFO hands nothing over. -/
theorem acquire_shows (h : x.check = true ∨ (x.fifo n).count = 0) : s.acquire c n =
    (if x.check then (x.fifo n).head + (if (x.fifo n).count = 0 then 0 else 128) else 0, s) := by
  by_cases hcheck : x.check = true
  · simp only [State.acquire, hx, hcheck, if_true]
  · simp only [State.acquire, hx, hcheck, h.resolve_left hcheck, if_true, Bool.false_eq_true, if_false]

theorem acquire_hands (hcheck : x.check = false) (hcount : (x.fifo n).count ≠ 0) : s.acquire c n =
    (128 + (x.fifo n).head, s.setCtl c (some (x.setFifo n (x.fifo n).handed))) := by
  simp only [State.acquire, hx, hcheck, hcount, Bool.false_eq_true, if_false]
  rfl

/-! ### A write of RELEASE (R293) -/

variable {v : Nat} (hcheck : x.check = true) (hbit : bit v 15 = true)

include hcheck hbit

theorem releaseFifo_frees (hcount : (x.fifo n).count ≠ 0) (hindex : v % 64 = (x.fifo n).head) :
    s.releaseFifo c n v = s.setCtl c (some (x.setFifo n (x.fifo n).pop)) := by
  simp [State.releaseFifo, hx, hcheck, hbit, hcount, hindex]

theorem releaseFifo_refuses (h : (x.fifo n).count = 0 ∨ v % 64 ≠ (x.fifo n).head) :
    s.releaseFifo c n v = s.count (tlCan c 25) := by
  obtain hempty | hother := h
  · simp [State.releaseFifo, hx, hcheck, hbit, hempty]
  · simp [State.releaseFifo, hx, hcheck, hbit, hother]

end

/-! ### The rows of the access block -/

section
variable {s : State} (dt : Nat) {c : Fin 8} {n : Fin 2}

theorem execAcquireRead_up {v : Nat} {u : State} (h : s.blockUp c.val n.val = true)
    (hu : (s.elapse dt).acquire c.val n.val = (v, u)) :
    exec (.acquireRead dt c n) s = go (u.send (.value (ev 8 (16 + 2 * c.val + n.val)) v)) := by
  have hup : (s.elapse dt).blockUp c.val n.val = true := h
  change execAcquireRead dt c n s = _
  simp [execAcquireRead, hup, hu]

theorem execAcquireRead_down (h : s.blockUp c.val n.val = false) :
    exec (.acquireRead dt c n) s = go (s.elapse dt) :=
  congrArg go (if_pos (by rw [show (s.elapse dt).blockUp c.val n.val = false from h]; decide))

theorem execReleaseWrite_up (v : U32) (h : s.blockUp c.val n.val = true) :
    exec (.releaseWrite dt c n v) s = go ((s.elapse dt).releaseFifo c.val n.val v.toNat) :=
  congrArg go (if_pos h)

theorem execReleaseWrite_down (v : U32) (h : s.blockUp c.val n.val = false) :
    exec (.releaseWrite dt c n v) s = go (s.elapse dt) :=
  congrArg go (if_neg (by rw [show (s.elapse dt).blockUp c.val n.val = false from h]; decide))

end

theorem execCanFrameReceive_eq (s : State) (dt : Nat) (c : Fin 8) (f : CanFrame) (age : Nat) :
    exec (.canFrameReceive dt c f age) s = go ((s.elapse dt).canReceive c.val f age) := rfl

/-! ### The obligation -/

/-- Settles O42: a frame by the filter pair that takes it and the offer to its FIFO; the access block by
what a read of ACQUIRE and a write of RELEASE do. -/
theorem canFramesEnterFifos : Obligations.CanFramesEnterFifos := by
  refine ⟨?_, ?_, ?_⟩
  · intro s dt c x f age hx
    have hxe : (s.elapse dt).ctl c.val = some x := hx
    refine ⟨fun hdeaf => ?_, fun hh hnone => ?_, fun r hh hr hmap => ⟨fun hn => ?_, fun hn hroom => ?_,
      fun hn hfull => ?_⟩⟩
    · rw [execCanFrameReceive_eq, canReceive_deaf age hxe hdeaf]
      exact go_elapse_only s dt
    · rw [execCanFrameReceive_eq, canReceive_unmatched age hxe hh hnone]
      obtain ⟨y, hy, hyx⟩ := heard_ctl (s.elapse dt) f hxe
      refine ⟨_, y, rfl, ?_, ?_, (pins_ctl ..).trans hy, CanCtl.fifo0_of_rx hyx, CanCtl.fifo1_of_rx hyx,
        CanCtl.seq_of_rx hyx,
        (pins_pd _).trans ((heard_only (s.elapse dt) c.val x f).2 .store (by decide))⟩
      · exact (pins_canTally ..).trans
          ((count_canTally_ne _ _ (by decide)).trans (heard_canTally_frames (s.elapse dt) x f c.isLt))
      · exact (pins_canTally ..).trans ((count_canTally_self ..).trans (congrArg (min tlyMax <| · + 1)
          (heard_canTally_other (s.elapse dt) x f c.isLt (by decide) (by decide) (by decide))))
    · rw [execCanFrameReceive_eq, canReceive_nowhere age hxe hh hr hmap hn]
      obtain ⟨y, hy, hyx⟩ := heard_ctl (s.elapse dt) f hxe
      exact ⟨_, y, rfl, (pins_canTally ..).trans (heard_canTally_frames (s.elapse dt) x f c.isLt),
        (pins_ctl ..).trans hy, CanCtl.fifo0_of_rx hyx, CanCtl.fifo1_of_rx hyx⟩
    · obtain ⟨y, hy, hyx⟩ := exists_ctl_of_rx (canReceive_rx age hxe hh hr hmap hn)
      obtain ⟨hseq, hfifo⟩ := CanCtl.offered_room (x := x)
        (x.newEnt f ((s.elapse dt).stampAgo age) (fld r 1 1)) hroom
      rw [← CanCtl.fifo_of_rx hyx] at hfifo
      refine ⟨_, y, execCanFrameReceive_eq .., (pins_canTally ..).trans
        (canReceive_canTally_room age hxe hh hr hmap c.isLt hn hroom), (pins_ctl ..).trans hy,
        (CanCtl.seq_of_rx hyx).trans hseq, ?_, ?_, ?_, fun j hj => ?_,
        (CanCtl.fifo_of_rx hyx _).trans (CanCtl.offered_fifo_other _ _ hn)⟩ <;> rw [hfifo]
      · simp only [Tab.get_set_self, CanCtl.newEnt, State.stampAgo]
      · simp only [Tab.get_set_ne none _ _ hj]
    · obtain ⟨y, hy, hyx⟩ := exists_ctl_of_rx (canReceive_rx age hxe hh hr hmap hn)
      refine ⟨_, y, execCanFrameReceive_eq .., (pins_canTally ..).trans
        (canReceive_canTally_full age hxe hh hr hmap c.isLt hn hfull), (pins_ctl ..).trans hy, ?_⟩
      cases hover : x.overwrites (fld r 2 1) with
      | false =>
        obtain ⟨hseq, hfifo⟩ := CanCtl.offered_lost (x := x)
          (x.newEnt f ((s.elapse dt).stampAgo age) (fld r 1 1)) hfull hover
        rw [← CanCtl.fifo_of_rx hyx] at hfifo
        rw [hfifo]
        exact ⟨rfl, rfl, fun _ => ⟨rfl, (CanCtl.seq_of_rx hyx).trans hseq⟩, nofun⟩
      | true =>
        obtain ⟨hseq, hfifo⟩ := CanCtl.offered_over (x := x)
          (x.newEnt f ((s.elapse dt).stampAgo age) (fld r 1 1)) hfull hover
        rw [← CanCtl.fifo_of_rx hyx] at hfifo
        rw [hfifo]
        refine ⟨rfl, rfl, nofun, fun _ => ⟨rfl, ?_, (CanCtl.seq_of_rx hyx).trans hseq⟩⟩
        simp only [Tab.get_set_self, CanCtl.newEnt, State.stampAgo]
  · intro s dt c n x hx hup
    have hxe : (s.elapse dt).ctl c.val = some x := hx
    refine ⟨fun h => ?_, fun hcheck hcount => ?_, fun v hcheck hbit hcount hindex => ?_,
      fun v hcheck hbit hkeep => ?_⟩
    · exact ⟨_, _, execAcquireRead_up dt hup (acquire_shows hxe h), State.pins_sent _, rfl,
        go_only (State.send_touch ..)⟩
    · refine ⟨_, x.setFifo n.val (x.fifo n.val).handed,
        execAcquireRead_up dt hup (acquire_hands hxe hcheck hcount), State.pins_sent _,
        (pins_ctl ..).trans ((send_ctl ..).trans (ctl_setCtl_self ..)), ?_, ?_, ?_,
        go_only (only_step (only_sub (State.setCtl_touch ..) rfl) (State.send_touch ..))⟩ <;>
        rw [CanCtl.fifo_setFifo_self]
      · rfl
      · exact CanFifo.pop_head _
      · exact CanFifo.pop_count _
    · rw [execReleaseWrite_up dt v hup,
        releaseFifo_frees hxe hcheck ((bit_toNat v 15).trans hbit) hcount hindex]
      refine ⟨_, x.setFifo n.val (x.fifo n.val).pop, rfl,
        (pins_ctl ..).trans (ctl_setCtl_self ..), ?_, ?_,
        go_only (State.setCtl_touch ..)⟩ <;> rw [CanCtl.fifo_setFifo_self]
      · exact CanFifo.pop_head _
      · exact CanFifo.pop_count _
    · rw [execReleaseWrite_up dt v hup, releaseFifo_refuses hxe hcheck ((bit_toNat v 15).trans hbit) hkeep]
      exact ⟨_, rfl, go_only (State.count_touch ..), (pins_canTally ..).trans (count_canTally_self ..)⟩
  · intro s dt c n v hdown
    rw [execAcquireRead_down dt hdown, execReleaseWrite_down dt v hdown]
    exact ⟨go_elapse_only s dt, go_elapse_only s dt⟩

end Sys2Proof.Machine

/-! SUPPORT. Chapter 8, the CAN commands of the mailbox (R280, R284, R290, R294, R295). -/

namespace Sys2Proof.Machine

/-! ### What a command leaves of the controllers -/

/-- A mailbox row that completes at once leaves the controllers as its run left them. -/
theorem mailbox_ctl {s : State} {dt : Nat} {c : Cmd} {r : Req} (hop : c.op < 65536) (hfree : s.mbxFree)
    (hplain : r.plain) (hshape : c.shape r.body = true) {st : Nat} {b : List Byte} {u : State}
    (hrun : c.run r.body ((s.elapse dt).writeReq c.op r) = ans st b u)
    (hu : u.onlyChanges ((s.elapse dt).writeReq c.op r) [.tallies, .can]) :
    ∃ t, go ((s.elapse dt).submit c r) = .next t ∧ t.answered c.op r st b ∧
      (∀ k, t.ctl k = u.ctl k) ∧ t.onlyChanges s (.can :: answerParts) := by
  obtain ⟨t, hgo, hans, honly, rfl⟩ := mailbox_change s dt c r (.can :: answerParts) hop hfree hplain
    hshape st b u hrun (by decide) (only_sub hu rfl)
  exact ⟨_, hgo, hans, fun k => (pins_ctl _ k).trans (ctl_of_can (State.respond_can ..) k), honly⟩

/-- Holding a command in EXEC changes the mailbox alone. -/
theorem held_only (u : State) (h : Option Held) :
    ({ u with hif := { u.hif with exec := true, held := h } } : State).onlyChanges u [.mailbox] := by
  refine ⟨rfl, fun p hp => ?_⟩
  cases p with
  | mailbox => exact absurd (List.mem_singleton_self _) hp
  | interrupts => exact ⟨rfl, rfl⟩
  | feeds => exact ⟨rfl, rfl⟩
  | _ => rfl

/-- A mailbox row whose completion waits stays in EXEC without a response (R512). -/
theorem mailbox_held {s : State} {dt : Nat} {c : Cmd} {r : Req} (hop : c.op < 65536) (hfree : s.mbxFree)
    (hplain : r.plain) (hshape : c.shape r.body = true) {u : State}
    (hrun : c.run r.body ((s.elapse dt).writeReq c.op r) = holdOn u)
    (hu : u.onlyChanges ((s.elapse dt).writeReq c.op r) [.can]) :
    ∃ t, go ((s.elapse dt).submit c r) = .next t ∧ t.hif.exec = true ∧
      t.hif.respValid = u.hif.respValid ∧ (∀ k, t.ctl k = u.ctl k) ∧
      t.onlyChanges s [.mailbox, .can] := by
  have hsubmit := congrArg go (submit_run (s.elapse dt) c r hop hfree hplain hshape)
  simp only [hrun, holdOn, if_true] at hsubmit
  exact ⟨_, hsubmit, rfl, rfl, fun k => pins_ctl _ k,
    go_only (only_step (only_step (writeReq_only _ _ _ _ (by decide)) hu) (held_only u _))⟩

/-! ### MB_CAN_READ takes the oldest entries (R290) -/

/-- The `i`-th oldest entry of a FIFO. -/
def CanFifo.entAt (q : CanFifo) (i : Nat) : Option CanEnt := Tab.get none q.ents ((q.head + i) % 64)

/-- A FIFO whose count, head and entries agree. -/
structure CanFifo.Sound (q : CanFifo) : Prop where
  count_le : q.count ≤ 64
  head_lt : q.head < 64
  entAt_isSome : ∀ i < q.count, (q.entAt i).isSome = true

/-- The entries behind the oldest move up by one place. -/
theorem CanFifo.pop_entAt {q : CanFifo} (_ : q.head < 64) {i : Nat} (hi : i + 1 < 64) :
    q.pop.entAt i = q.entAt (i + 1) := by
  have hplace : ((q.head + 1) % 64 + i) % 64 = (q.head + (i + 1)) % 64 := by omega
  have hne : (q.head + (i + 1)) % 64 ≠ q.head := by omega
  rw [CanFifo.entAt, CanFifo.pop_head, hplace, CanFifo.entAt]
  unfold CanFifo.pop
  split
  · next e _ => exact Tab.get_set_ne none q.ents (some { e with isNew := false }) hne
  · rfl

theorem CanFifo.Sound.pop {q : CanFifo} (h : q.Sound) : q.pop.Sound where
  count_le := by rw [pop_count]; have := h.count_le; omega
  head_lt := by rw [pop_head]; omega
  entAt_isSome i hi := by
    rw [pop_count] at hi
    have := h.count_le
    rw [pop_entAt h.head_lt (by omega)]
    exact h.entAt_isSome (i + 1) (by omega)

theorem takeEnts_empty {q : CanFifo} (n : Nat) (h : q.count = 0) : takeEnts n q = ([], q) := by
  cases n with
  | zero => rfl
  | succ n => exact if_pos h

theorem takeEnts_succ {q : CanFifo} {e : CanEnt} (n : Nat) (hcount : q.count ≠ 0)
    (he : Tab.get none q.ents q.head = some e) :
    takeEnts (n + 1) q = (e :: (takeEnts n q.pop).1, (takeEnts n q.pop).2) := by
  simp only [takeEnts, hcount, he, if_false]

/-- The entries taken are the oldest ones, as many as there are, and the FIFO moves on past them. -/
theorem takeEnts_spec {q : CanFifo} (h : q.Sound) (n : Nat) :
    (takeEnts n q).1.length = min n q.count ∧
      (∀ i < min n q.count, (takeEnts n q).1[i]? = q.entAt i) ∧
      (takeEnts n q).2.count = q.count - min n q.count ∧
      (takeEnts n q).2.head = (q.head + min n q.count) % 64 := by
  have hhead := h.head_lt
  induction n generalizing q with
  | zero => simp [takeEnts, Nat.mod_eq_of_lt hhead]
  | succ n ih =>
    by_cases hcount : q.count = 0
    · simp [takeEnts_empty _ hcount, hcount, Nat.mod_eq_of_lt hhead]
    · have hfirst : q.entAt 0 = Tab.get none q.ents q.head := by
        rw [CanFifo.entAt, Nat.add_zero, Nat.mod_eq_of_lt hhead]
      obtain ⟨e, he⟩ := Option.isSome_iff_exists.1 (h.entAt_isSome 0 (by omega))
      have hcap := h.count_le
      obtain ⟨hlen, hents, hleft, hmoved⟩ := ih h.pop h.pop.head_lt
      rw [CanFifo.pop_count] at hlen hents hleft hmoved
      rw [CanFifo.pop_head] at hmoved
      rw [takeEnts_succ n hcount (hfirst.symm.trans he)]
      refine ⟨?_, fun i hi => ?_, by rw [hleft]; omega, by rw [hmoved]; omega⟩
      · rw [List.length_cons, hlen]; omega
      · cases i with
        | zero => exact he.symm
        | succ i =>
          rw [List.getElem?_cons_succ, hents i (by omega), CanFifo.pop_entAt hhead (by omega)]

/-! ### The answers -/

theorem stampBytes_length (s : State) (c : Nat) (b : CanBuf) : (s.stampBytes c b).length = 12 := by
  unfold State.stampBytes
  split <;> simp [secNs]

/-- A FIFO in the answer of MB_CAN_STATUS. -/
def CanFifo.statusBytes (q : CanFifo) : List Byte := le 1 q.count ++ le 1 (bnat q.ovf) ++ zeros 2

/-- A buffer in the answer of MB_CAN_STATUS. -/
def State.bufBytes (s : State) (c : Nat) (x : CanCtl) (k : Nat) : List Byte :=
  match x.buf k with
  | some f => le 1 (s.bufNo f) ++ le 1 f.outcome ++ zeros 2 ++ s.stampBytes c f
  | none => zeros 16

/-- The answer of MB_CAN_STATUS (R295). -/
def State.statusBytes (s : State) (c : Nat) (x : CanCtl) : List Byte :=
  le 1 x.mode ++ le 1 (errNo x.err) ++ le 2 x.tec ++ le 2 x.rec_ ++ le 1 x.lastErr ++
    le 1 x.tdc ++ le 1 (bnat x.recovering) ++ zeros 3 ++ x.fifo0.statusBytes ++ x.fifo1.statusBytes ++
    ((List.range 64).map (s.bufBytes c x)).flatten

theorem CanFifo.statusBytes_length (q : CanFifo) : q.statusBytes.length = 4 := by
  simp [CanFifo.statusBytes]

theorem bufBytes_length (s : State) (c : Nat) (x : CanCtl) (k : Nat) : (s.bufBytes c x k).length = 16 := by
  unfold State.bufBytes
  cases x.buf k with
  | none => rfl
  | some f => simp [stampBytes_length]

theorem bufBytes_flatten_length (s : State) (c : Nat) (x : CanCtl) (l : List Nat) :
    (l.map (s.bufBytes c x)).flatten.length = 16 * l.length := by
  induction l with
  | nil => rfl
  | cons k l ih =>
    rw [List.map_cons, List.flatten_cons, List.length_append, bufBytes_length, ih, List.length_cons]
    omega

theorem canStatus_length (s : State) (c : Nat) (x : CanCtl) : (s.statusBytes c x).length = 1044 := by
  simp only [State.statusBytes, List.length_append, le_length, zeros_length, CanFifo.statusBytes_length,
    bufBytes_flatten_length, List.length_range]

/-- The state of a controller in its status: MODE, the error state, and the error counts. -/
theorem canStatus_fields (s : State) (c : Nat) (x : CanCtl) : let b := s.statusBytes c x
    fld b 0 1 = x.mode ∧ fld b 1 1 = errNo x.err ∧ fld b 2 2 = x.tec % 65536 ∧
      fld b 4 2 = x.rec_ % 65536 := by
  have hmode : x.mode % 256 ^ 1 = x.mode := Nat.mod_eq_of_lt (fld_one_lt x.conf 0)
  have herr : errNo x.err % 256 ^ 1 = errNo x.err := by cases x.err <;> rfl
  simp only [State.statusBytes, List.append_assoc]
  refine ⟨?_, ?_, ?_, ?_⟩
  · rw [fld_le, hmode]
  · rw [fld_append_right (by simp), le_length, fld_le, herr]
  · exact (fld_append_right (by simp)).trans ((fld_append_right (by simp)).trans (fld_le 2 x.tec _))
  · exact (fld_append_right (by simp)).trans ((fld_append_right (by simp)).trans
      ((fld_append_right (by simp)).trans (fld_le 2 x.rec_ _)))

/-! ### The runs of the commands -/

section
variable {b : List Byte} {s : State} {x : CanCtl} (hc : fld b 0 1 ≤ 7)
  (hup : s.absentUnit (0x20 + fld b 0 1) = false) (hx : s.ctl (fld b 0 1) = some x)

include hc hup hx

theorem cmdCanWrite_run {f : CanBuf} (hk : fld b 1 1 ≤ 63) (hbuf : x.buf (fld b 1 1) = some f)
    (hsource : f.source = 2) (hconsent : s.isConsentBuf (fld b 0 1) (fld b 1 1) = false)
    (hstate : f.state ≠ .locked) (hlen : b.length = 4 + f.len) :
    cmdCanWrite.run b s = ans stOk [] (s.setCtl (fld b 0 1) (some (x.setBuf (fld b 1 1) (some { f with
      data := padTo 0 64 (b.drop 4), written := true })))) := by
  simp [cmdCanWrite, Nat.not_lt.2 hc, Nat.not_lt.2 hk, hup, hx,
    hbuf, hsource, hconsent, hstate, hlen]

theorem cmdCanRead_run (hk : fld b 1 1 ≤ 1) (hpos : 1 ≤ fld b 2 1) (hmax : fld b 2 1 ≤ 32)
    (hhost : x.toFlb (fld b 1 1) = false)
    (hconsent : s.isConsentFifo (fld b 0 1) (fld b 1 1) = false) :
    let r := takeEnts (fld b 2 1) (x.fifo (fld b 1 1))
    cmdCanRead.run b s = ans stOk (le 1 r.1.length ++ zeros 3 ++
      (r.1.map fun e => e.bytes ++ secNs (s.canNet (canDomain (fld b 0 1)) e.stamp) ++ zeros 4).flatten)
      (s.setCtl (fld b 0 1) (some (x.setFifo (fld b 1 1) r.2))) := by
  simp [cmdCanRead, Nat.not_lt.2 hc, Nat.not_lt.2 hk,
    Nat.ne_of_gt hpos, Nat.not_lt.2 hmax, hup, hx, hhost, hconsent]

section
variable {f : CanBuf} (hk : fld b 1 1 ≤ 63) (hbuf : x.buf (fld b 1 1) = some f)

include hk hbuf

/-- What a cancel that ends at once answers. -/
theorem cmdCanCancel_idle (hstate : f.state = .idle) : cmdCanCancel.run b s =
    ans stOk (le 1 0xFF ++ zeros 3 ++ s.stampBytes (fld b 0 1) f ++ zeros 4) s := by
  simp [cmdCanCancel, Nat.not_lt.2 hc, Nat.not_lt.2 hk, hup, hx,
    hbuf, hstate]

theorem cmdCanCancel_pending (hstate : f.state = .pending) : cmdCanCancel.run b s =
    ans stOk (le 1 4 ++ zeros 3 ++ s.stampBytes (fld b 0 1) f ++ zeros 4)
      ((s.setCtl (fld b 0 1) (some (x.setBuf (fld b 1 1) (some { f with
        state := .idle, outcome := 4 })))).count (tlCan (fld b 0 1) 18)) := by
  simp [cmdCanCancel, Nat.not_lt.2 hc, Nat.not_lt.2 hk, hup, hx,
    hbuf, hstate]
  rfl

theorem cmdCanCancel_locked (hstate : f.state = .locked) : cmdCanCancel.run b s =
    holdOn (s.setCtl (fld b 0 1) (some (x.setBuf (fld b 1 1) (some { f with cancel := true })))) := by
  simp [cmdCanCancel, Nat.not_lt.2 hc, Nat.not_lt.2 hk, hup, hx,
    hbuf, hstate]

end

theorem cmdCanRecover_starts (hidle : x.recovering = false) (herr : x.err = .busOff) :
    cmdCanRecover.run b s =
      ans stOk [] (s.setCtl (fld b 0 1) (some { x with recovering := true })) := by
  simp [cmdCanRecover, Nat.not_lt.2 hc, hup, hx, hidle, herr]

theorem cmdCanRecover_denied (hidle : x.recovering = false) (herr : x.err ≠ .busOff) :
    cmdCanRecover.run b s = ans stDenied [] s := by
  simp [cmdCanRecover, Nat.not_lt.2 hc, hup, hx, hidle, herr, refuse]

theorem cmdCanStatus_run :
    cmdCanStatus.run b s = ans stOk (s.statusBytes (fld b 0 1) x) s := by
  simp [cmdCanStatus, Nat.not_lt.2 hc, hup, hx]
  rfl

end

/-! ### The obligation -/

/-- Settles O43: each command by its run on a controller that answers. -/
theorem canMailboxCommands : Obligations.CanMailboxCommands := by
  intro s dt r x hfree hplain c k hc8 hup hx
  have hc : fld r.body 0 1 ≤ 7 := Nat.le_of_lt_succ hc8
  let e := fun op : Nat => (s.elapse dt).writeReq op r
  refine ⟨?_, ?_, ?_, ?_, ?_⟩
  · intro b hrsv hk hbuf hsource hconsent hstate hlen hmax
    have hshape : cmdCanWrite.shape r.body = true := by
      simp only [cmdCanWrite, hlen, hrsv, Bool.and_true, Bool.and_eq_true, decide_eq_true_eq]
      omega
    obtain ⟨t, hgo, hans, hctl, honly⟩ := mailbox_ctl (dt := dt) (by decide) hfree hplain hshape
      (cmdCanWrite_run (s := e 0x0601) hc hup hx (Nat.le_of_lt_succ hk) hbuf hsource hconsent hstate hlen)
      (only_sub (State.setCtl_touch ..) rfl)
    exact ⟨t, hgo, hans, (hctl c).trans (ctl_setCtl_self ..), honly⟩
  · intro hlen hrsv hk hpos hmax hhost hconsent hents hcount hhead n
    have hshape : cmdCanRead.shape r.body = true := by simp [cmdCanRead, hlen, hrsv]
    obtain ⟨hlength, hget, hleft, hmoved⟩ := takeEnts_spec
      (CanFifo.Sound.mk hcount hhead hents) (fld r.body 2 1)
    obtain ⟨t, hgo, hans, hctl, honly⟩ := mailbox_ctl (dt := dt) (by decide) hfree hplain hshape
      (cmdCanRead_run (s := e 0x0602) hc hup hx (Nat.le_of_lt_succ hk) hpos hmax hhost hconsent)
      (only_sub (State.setCtl_touch ..) rfl)
    refine ⟨t, _, _, hgo, (hctl c).trans (ctl_setCtl_self ..), ?_, ?_, hlength, hget, ?_, honly⟩
    · rw [CanCtl.fifo_setFifo_self]; exact hleft
    · rw [CanCtl.fifo_setFifo_self]; exact hmoved
    · rw [hlength] at hans; exact hans
  · intro b hlen hrsv hk hbuf body
    have hshape : cmdCanCancel.shape r.body = true := by simp [cmdCanCancel, hlen, hrsv]
    refine ⟨fun hstate => ?_, fun hstate => ?_, fun hstate => ?_⟩
    · exact mailbox_read s dt cmdCanCancel r (by decide) hfree hplain hshape _ _
        (cmdCanCancel_idle (s := e 0x0603) hc hup hx (Nat.le_of_lt_succ hk) hbuf hstate)
    · obtain ⟨t, hgo, hans, hctl, honly⟩ := mailbox_ctl (dt := dt) (by decide) hfree hplain hshape
        (cmdCanCancel_pending (s := e 0x0603) hc hup hx (Nat.le_of_lt_succ hk) hbuf hstate)
        (only_step (only_sub (State.setCtl_touch ..) rfl) (State.count_touch ..))
      exact ⟨t, hgo, hans, (hctl c).trans ((count_ctl ..).trans (ctl_setCtl_self ..)), honly⟩
    · have ⟨_, _, _, _, hnone, _⟩ := hfree
      obtain ⟨t, hgo, hexec, hvalid, hctl, honly⟩ := mailbox_held (dt := dt) (by decide) hfree hplain
        hshape (cmdCanCancel_locked (s := e 0x0603) hc hup hx (Nat.le_of_lt_succ hk) hbuf hstate)
        (State.setCtl_touch ..)
      exact ⟨t, hgo, hexec, hvalid.trans hnone, (hctl c).trans (ctl_setCtl_self ..), honly⟩
  · intro hlen hrsv hidle
    have hshape : cmdCanRecover.shape r.body = true := by simp [cmdCanRecover, hlen, hrsv]
    refine ⟨fun herr => ?_, fun herr => ?_⟩
    · obtain ⟨t, hgo, hans, hctl, honly⟩ := mailbox_ctl (dt := dt) (by decide) hfree hplain hshape
        (cmdCanRecover_starts (s := e 0x0604) hc hup hx hidle herr) (only_sub (State.setCtl_touch ..) rfl)
      exact ⟨t, hgo, hans, (hctl c).trans (ctl_setCtl_self ..), honly⟩
    · exact mailbox_read s dt cmdCanRecover r (by decide) hfree hplain hshape _ _
        (cmdCanRecover_denied (s := e 0x0604) hc hup hx hidle herr)
  · intro hlen hrsv
    have hshape : cmdCanStatus.shape r.body = true := by simp [cmdCanStatus, hlen, hrsv]
    obtain ⟨t, hgo, hans, honly⟩ := mailbox_read s dt cmdCanStatus r (by decide) hfree hplain hshape _ _
      (cmdCanStatus_run (s := e 0x0605) hc hup hx)
    obtain ⟨hmode, herr, htec, hrec⟩ := canStatus_fields (e 0x0605) c x
    exact ⟨t, _, hgo, hans, canStatus_length .., hmode, herr, htec, hrec, honly⟩

end Sys2Proof.Machine

/-! SUPPORT. Chapter 9: going down (R303, R319), wake requests (R305, R314, R319, R322) and their judgement
(R320, R321). -/

namespace Sys2Proof.Machine

/-- A row that lets its time pass, and that is all. -/
theorem exec_idle {o : Out} {s : State} {dt : Nat} (h : o = go (s.elapse dt)) :
    ∃ t, o = .next t ∧ t.onlyChanges s [] := h ▸ go_elapse_only s dt

/-! ### Going down (R319) -/

theorem now_of_clk {s t : State} (h : t.clk = s.clk) : t.now = s.now := by
  rw [State.now, h, State.now]

theorem writeEnergy_clk (s : State) : s.writeEnergy.clk = s.clk := rfl

theorem saveEnergy_clk (s : State) : s.saveEnergy.clk = s.clk := by
  unfold State.saveEnergy
  dsimp only
  split
  · exact State.deferWrite_clk ..
  · exact writeEnergy_clk _

theorem writeDeferred_clk (s : State) : s.writeDeferred.clk = s.clk := by
  unfold State.writeDeferred
  refine foldl_keeps State.clk _ (fun u d => ?_) _ _
  split
  · rfl
  · rfl
  · exact writeEnergy_clk u
  · rfl

theorem fillOne_clk (s : State) : s.fillOne.clk = s.clk := by
  unfold State.fillOne
  dsimp only
  split
  · rfl
  · rfl

theorem fillSlots_clk (s : State) : s.fillSlots.clk = s.clk :=
  (fillOne_clk _).trans ((fillOne_clk _).trans (fillOne_clk _))

/-- A reset takes no time. -/
theorem mainReset_clk (s : State) (power : Bool) : (s.mainReset power).clk = s.clk :=
  (fillSlots_clk _).trans rfl

theorem mainReset_pending (s : State) (power : Bool) : (s.mainReset power).pending = s.pending :=
  (State.mainReset_touch s power).1

theorem mainReset_sleep (s : State) (power : Bool) :
    (s.mainReset power).sleep = s.sleep.restarted power s.now := by
  unfold State.mainReset
  exact ((State.fillSlots_touch _).2 .sleep (by decide)).trans rfl

/-- The hold latches at their sleep levels and FEED_EN low, with the daybook entries lost on the way. -/
def Sleep.down (x : Sleep) (now lost : Nat) : Sleep :=
  { x with
    latches := sleepLevels x.conf x.latches, feedEnA := false, feedEnB := false, lowAt := now
    asleep := true, record := { x.record with lost := lost } }

/-- The main die without power. -/
def State.unpowered (s : State) (lost : Nat) : State :=
  let off := fun (f : Feed) => { f with dom := .isolated, warn := false }
  { s with
    sys := { s.sys with stage := .standby }, feedA := off s.feedA, feedB := off s.feedB
    sleep := { s.sleep with latched := s.sleep.latched.map fun x => { x with lost := lost } } }

/-- The end of going down: the main die is reset, and its power goes. -/
def State.powerDown (s : State) (lost : Nat) : State :=
  (State.mainReset { s with sleep := s.sleep.down s.now lost } false).unpowered lost

@[simp] theorem unpowered_pending (s : State) (lost : Nat) : (s.unpowered lost).pending = s.pending := rfl
@[simp] theorem unpowered_clk (s : State) (lost : Nat) : (s.unpowered lost).clk = s.clk := rfl

theorem powerDown_pending (s : State) (lost : Nat) : (s.powerDown lost).pending = s.pending := by
  rw [State.powerDown, unpowered_pending, mainReset_pending]

theorem powerDown_now (s : State) (lost : Nat) : (s.powerDown lost).now = s.now :=
  now_of_clk (by rw [State.powerDown, unpowered_clk, mainReset_clk])

theorem powerDown_off (s : State) (lost : Nat) : (s.powerDown lost).sys.stage = .standby ∧
    (s.powerDown lost).feedA.dom = .isolated ∧ (s.powerDown lost).feedB.dom = .isolated :=
  ⟨rfl, rfl, rfl⟩

/-- Of the sleep unit the keep-alive die's part stays over the loss of power. -/
theorem powerDown_sleep (s : State) (lost : Nat) : (s.powerDown lost).sleep =
    { (s.sleep.down s.now lost).restarted false s.now with
      latched := s.sleep.latched.map fun x => { x with lost := lost } } := by
  unfold State.powerDown State.unpowered
  dsimp only
  rw [mainReset_sleep]
  rfl

/-- Before its power goes the node saves the energy values, enters the event, and makes the writes that
wait unless a feed warning holds them off to the end; none of this reaches the sleep unit or takes time. -/
theorem goDown_eq_powerDown (s : State) (t : Nat) : ∃ (u : State) (lost : Nat), s.goDown t = u.powerDown lost ∧
    u.sleep = s.sleep ∧ u.now = s.now ∧ u.pending = s.pending := by
  unfold State.goDown
  extract_lets u r v lost w rec x d e off
  have hu : u.onlyChanges s [.interrupts, .tallies, .daybook, .outputs, .flash, .measure] :=
    only_step (only_step (only_sub (State.saveEnergy_touch s) rfl) (State.count_touch ..)) (State.note_touch ..)
  have hut : u.now = s.now := now_of_clk ((State.note_clk ..).trans (saveEnergy_clk s))
  obtain ⟨hvs, hvn, hvp⟩ : v.sleep = u.sleep ∧ v.now = u.now ∧ v.pending = u.pending := by
    unfold v r
    split
    · exact ⟨rfl, rfl, rfl⟩
    · exact ⟨rfl, rfl, rfl⟩
  obtain ⟨hws, hwn, hwp⟩ : w.sleep = v.sleep ∧ w.now = v.now ∧ w.pending = v.pending := by
    unfold w
    split
    · have h := State.writeDeferred_touch v
      exact ⟨h.2 .sleep (by decide), now_of_clk (writeDeferred_clk v), h.1⟩
    · exact ⟨rfl, rfl, rfl⟩
  have hd : d = { w with sleep := w.sleep.down w.now lost } := rfl
  have he : e = State.mainReset { w with sleep := w.sleep.down w.now lost } false :=
    congrArg (State.mainReset · false) hd
  clear_value e
  refine ⟨w, lost, ?_, hws.trans (hvs.trans (hu.2 .sleep (by decide))),
    hwn.trans (hvn.trans hut), hwp.trans (hvp.trans hu.1)⟩
  rw [State.powerDown, ← he]
  rfl

theorem execSleepCommit_due {s : State} {dt a : Nat} (hcommit : s.sleep.commitNet = some a)
    (hagreed : s.sleep.agreed = true) (hup : s.tellerUp = true) (hdue : a ≤ (s.elapse dt).net + 2) :
    execSleepCommit dt s = go ((s.elapse dt).goDown a) := by
  have hup' : (s.elapse dt).tellerUp = true := hup
  simp [execSleepCommit, hcommit, hagreed, hup', hdue]

/-- Before the commit point, without agreement, or with the teller stopped, the node does not go down. -/
theorem execSleepCommit_idle {s : State} {dt : Nat} (h : ∀ a, s.sleep.commitNet = some a →
    s.sleep.agreed = false ∨ s.tellerUp = false ∨ (s.elapse dt).net + 2 < a) :
    execSleepCommit dt s = go (s.elapse dt) := by
  have hup : (s.elapse dt).tellerUp = s.tellerUp := rfl
  cases hcommit : s.sleep.commitNet with
  | none => simp [execSleepCommit, hcommit]
  | some a =>
    obtain h | h | h := h a hcommit
    · simp [execSleepCommit, hcommit, h]
    · simp [execSleepCommit, hcommit, hup, h]
    · simp [execSleepCommit, hcommit, Nat.not_le.2 h]

/-! ### Agreement ends (R314) -/

/-- Writing the consent buffer, or putting it off, concerns no other part of the sleep unit. -/
theorem fillConsent_sleep (s : State) : ∃ wait, s.fillConsent.sleep = { s.sleep with txWait := wait } := by
  unfold State.fillConsent
  dsimp only
  repeat' split
  all_goals exact ⟨_, rfl⟩

theorem selfAbort_sleep (s : State) (cause : Nat) : (s.selfAbort cause).sleep.agreed = false ∧
    (s.selfAbort cause).sleep.armed = false ∧ (s.selfAbort cause).sleep.votedReady = false := by
  unfold State.selfAbort
  extract_lets solo u x v
  obtain ⟨wait, h⟩ := fillConsent_sleep v
  rw [h]
  exact ⟨rfl, rfl, rfl⟩

theorem selfAbort_tally (s : State) (cause : Nat) : Tab.get 0 (s.selfAbort cause).tly.live (tlSleep 11) =
    min tlyMax (Tab.get 0 s.tly.live (tlSleep 11) + 1) := by
  unfold State.selfAbort
  extract_lets solo u x v
  rw [(State.fillConsent_touch v).2 .tallies (by decide)]
  exact count_self _ _

/-! ### Wake requests (R305, R314, R319, R322) -/

theorem judgeWake_eq (s : State) (w : WakeRec) : ∃ l n, s.judgeWake w =
    { s with sleep := { s.sleep with judging := l, consec := n } } := by
  unfold State.judgeWake
  split
  · exact ⟨_, s.sleep.consec, rfl⟩
  · exact ⟨s.sleep.judging, _, rfl⟩

/-- A wake that can be false is judged for T_VALID_MS (R320). -/
def State.judges (t s : State) (cause source : Nat) : Prop := 1 ≤ cause → cause ≤ 3 →
  { xcvr := source, cause := cause, until_ := s.now + fld s.sleep.conf 6 2 * 1000000 } ∈ t.sleep.judging

theorem judgeWake_judges (s : State) (w : WakeRec) : (s.judgeWake w).judges s w.cause w.source :=
  fun h h' => by simp [State.judgeWake, h, h']

section
variable {s : State} (cause source : Nat)

theorem wakeReq_again (hasleep : s.sleep.asleep = true)
    (h : s.sleep.wakePending = true ∨ s.sleep.latched.isSome = true) : s.wakeReq cause source = s := by
  simp [State.wakeReq, hasleep, h]

theorem wakeReq_unarmed (hawake : s.sleep.asleep = false) (h : s.sleep.armed = false) :
    s.wakeReq cause source = s := by
  simp [State.wakeReq, hawake, h]

theorem wakeReq_agreed (hawake : s.sleep.asleep = false) (harmed : s.sleep.armed = true)
    (hagreed : s.sleep.agreed = true) (hbefore : s.committedSleep = false) :
    s.wakeReq cause source = s.selfAbort cause := by
  simp [State.wakeReq, hawake, harmed, hagreed, hbefore]

section
variable (hasleep : s.sleep.asleep = true) (hpending : s.sleep.wakePending = false)
  (hlatched : s.sleep.latched = none)

include hasleep hpending hlatched

/-- FEED_EN has been low for 20 ms: it rises at once. -/
theorem wakeReq_raises (hlow : s.sleep.lowAt + 20000000 ≤ s.now) :
    let t := s.wakeReq cause source
    t.sleep.feedEnA = true ∧ t.sleep.feedEnB = true ∧ t.sleep.wakePending = true ∧
      t.sleep.record = s.wakeRec cause source false ∧ t.judges s cause source ∧ t.onlyChanges s [.sleep] := by
  have h : s.wakeReq cause source =
      (s.judgeWake (s.wakeRec cause source false)).wakeUp (s.wakeRec cause source false) := by
    simp [State.wakeReq, hasleep, hpending, hlatched, Nat.not_lt.2 hlow]
  rw [h]
  exact ⟨rfl, rfl, rfl, rfl, judgeWake_judges s (s.wakeRec cause source false),
    only_step (State.judgeWake_touch ..) (State.wakeUp_touch ..)⟩

/-- FEED_EN has not been low for 20 ms: the request is latched. -/
theorem wakeReq_latches (hlow : s.now < s.sleep.lowAt + 20000000) :
    let t := s.wakeReq cause source
    t.sleep.latched = some (s.wakeRec cause source true) ∧ t.judges s cause source ∧
      t.sleep.feedEnA = s.sleep.feedEnA ∧ t.sleep.record = s.sleep.record ∧ t.onlyChanges s [.sleep] := by
  obtain ⟨l, n, hkeeps⟩ := judgeWake_eq s (s.wakeRec cause source true)
  have hjudges := judgeWake_judges s (s.wakeRec cause source true)
  rw [hkeeps] at hjudges
  have h : s.wakeReq cause source = { s with sleep := { s.sleep with
      judging := l, consec := n, latched := some (s.wakeRec cause source true) } } := by
    simp [State.wakeReq, hasleep, hpending, hlatched, hlow, hkeeps]
  rw [h]
  exact ⟨rfl, hjudges, rfl, rfl, only_set_sleep _ (only_refl ..) rfl⟩

end

end

section
variable {s : State} {dt : Nat} {x : Fin 4}

theorem execWakePattern_enabled (h : wkPatternEn s.sleep.conf x.val = true) :
    execWakePattern dt x s = go ((s.elapse dt).wakeReq 1 x.val) := by
  simp [execWakePattern, h]

theorem execWakePattern_disabled (h : wkPatternEn s.sleep.conf x.val = false) :
    execWakePattern dt x s = go (s.elapse dt) := by
  simp [execWakePattern, h]

theorem execWakeFrame_enabled {f : CanFrame} (h : wkFrameEn s.sleep.conf x.val = true)
    (hmatch : wakeMatch (wkXcvr s.sleep.conf x.val) f = true) :
    execWakeFrame dt x f s = go ((s.elapse dt).wakeReq 2 x.val) := by
  simp [execWakeFrame, h, hmatch]

theorem execWakeFrame_disabled {f : CanFrame} (h : wkFrameEn s.sleep.conf x.val = false ∨
    wakeMatch (wkXcvr s.sleep.conf x.val) f = false) : execWakeFrame dt x f s = go (s.elapse dt) := by
  obtain h | h := h <;> simp [execWakeFrame, h]

theorem execWakeFrameErr_enabled (h : wkFrameEn s.sleep.conf x.val = true) :
    execWakeFrameErr dt x s = go ((s.elapse dt).wakeReq 3 x.val) := by
  simp [execWakeFrameErr, h]

theorem execWakePin_enabled {rising : Bool} (h : bit (wkPin s.sleep.conf x.val) 0 = true)
    (hedge : bit (wkPin s.sleep.conf x.val) (if rising then 1 else 2) = true) :
    execWakePin dt x rising s = go ((s.elapse dt).wakeReq 4 x.val) := by
  cases rising with
  | true => simp_all [execWakePin]
  | false => simp_all [execWakePin]

theorem execWakePin_disabled {rising : Bool} (h : bit (wkPin s.sleep.conf x.val) 0 = false) :
    execWakePin dt x rising s = go (s.elapse dt) := by
  simp [execWakePin, h]

theorem execWakeAlarm_due (h : (s.elapse dt).alarmDue = true) :
    execWakeAlarm dt s = go ((s.elapse dt).wakeReq 5 0) := by
  simp [execWakeAlarm, h]

theorem execLatchedWakeRelease_due {w : WakeRec} (hlatched : s.sleep.latched = some w)
    (hasleep : s.sleep.asleep = true) (hlow : s.sleep.lowAt + 20000000 ≤ (s.elapse dt).now) :
    execLatchedWakeRelease dt s = go ((s.elapse dt).wakeUp w) := by
  simp [execLatchedWakeRelease, hlatched, hasleep, hlow]

theorem execLatchedWakeRelease_early {w : WakeRec} (hlatched : s.sleep.latched = some w)
    (h : s.sleep.asleep = false ∨ (s.elapse dt).now < s.sleep.lowAt + 20000000) :
    execLatchedWakeRelease dt s = go (s.elapse dt) := by
  obtain h | h := h
  · simp [execLatchedWakeRelease, hlatched, h]
  · simp [execLatchedWakeRelease, hlatched, Nat.not_le.2 h]

/-! ### The judgement of a wake (R320, R321) -/

/-- A wake on a transceiver is found valid: it is judged no longer, and the counts of consecutive false
wakes begin anew. -/
def State.foundValid (s : State) (x : Nat) : State :=
  { s with sleep := { s.sleep with judging := s.sleep.judging.filter fun j => j.xcvr ≠ x, consec := [] } }

theorem execWakeValid_hit (h : ∃ j ∈ s.sleep.judging, j.xcvr = x.val ∧ (s.elapse dt).now ≤ j.until_) :
    execWakeValid dt x s = go ((s.elapse dt).foundValid x.val) := by
  simp [execWakeValid, State.foundValid, h]

theorem execWakeValid_idle (h : ¬∃ j ∈ s.sleep.judging, j.xcvr = x.val ∧ (s.elapse dt).now ≤ j.until_) :
    execWakeValid dt x s = go (s.elapse dt) := by
  simp [execWakeValid, h]

theorem execTValidExpiry_due {j : Judged} (hj : s.sleep.judging.find? (fun j => j.xcvr = x.val) = some j)
    (hdue : j.until_ ≤ (s.elapse dt).now) :
    execTValidExpiry dt x s = go ((s.elapse dt).falseWake j) := by
  simp [execTValidExpiry, hj, hdue]

theorem execTValidExpiry_early {j : Judged} (hj : s.sleep.judging.find? (fun j => j.xcvr = x.val) = some j)
    (hearly : (s.elapse dt).now < j.until_) :
    execTValidExpiry dt x s = go (s.elapse dt) := by
  simp [execTValidExpiry, hj, Nat.not_le.2 hearly]

end

/-- A false wake is counted, reported and judged no longer. -/
theorem falseWake_sleep (s : State) (j : Judged) : ∃ conf consec frameOnly, (s.falseWake j).sleep =
    { s.sleep with
      conf := conf, consec := consec, frameOnly := frameOnly
      judging := s.sleep.judging.filter fun k => k.xcvr ≠ j.xcvr
      falseCnt := Tab.upd 0 s.sleep.falseCnt j.xcvr fun v => min 65535 (v + 1)
      falseRep := s.sleep.falseRep ++ [(j.xcvr, j.cause)] } := by
  unfold State.falseWake
  extract_lets y n limit off at_ conf t
  split
  · exact ⟨_, _, _, rfl⟩
  · split
    · exact ⟨_, _, _, State.note_sleep ..⟩
    · exact ⟨_, _, _, rfl⟩

/-! ### The obligation -/

/-- Settles O45: going down by what the end of it keeps of the sleep unit, a request by the state it finds,
its judgement by the wakes that are being judged. -/
theorem sleepAndWake : Obligations.SleepAndWake := by
  refine ⟨fun s dt a hcommit => ⟨fun hagreed hup hdue => ?_, fun h => ?_⟩, fun s dt hnone => ?_,
    fun s dt x f rising c cause src hc => ?_, fun s dt x f rising => ⟨fun h => ?_, fun h => ?_, fun h => ?_⟩,
    fun s dt r hlatched => ⟨fun hasleep hlow => ?_, fun h => ?_⟩,
    fun s dt x => ⟨fun hhit => ?_, fun h => ?_, fun j hj => ⟨fun hdue => ?_, fun hearly => ?_⟩⟩⟩
  · obtain ⟨u, lost, hdown, hsleep, hnow, hpend⟩ := goDown_eq_powerDown (s.elapse dt) a
    obtain ⟨hstage, hA, hB⟩ := powerDown_off u lost
    refine ⟨_, (execSleepCommit_due hcommit hagreed hup hdue).trans (congrArg go hdown), ?_⟩
    simp [now_of_clk (State.pins_clk _), powerDown_sleep, powerDown_now, powerDown_pending, Sleep.restarted,
      Sleep.down, hsleep, hnow, hpend, hstage, hA, hB]
  · exact exec_idle (execSleepCommit_idle fun b hb => Option.some.inj (hcommit.symm.trans hb) ▸ h)
  · exact exec_idle (execSleepCommit_idle fun a ha => nomatch hnone.symm.trans ha)
  · have hexec : exec c s = go ((s.elapse dt).wakeReq cause src) := by
      obtain ⟨rfl, rfl, rfl, h⟩ | ⟨rfl, rfl, rfl, h, hmatch⟩ | ⟨rfl, rfl, rfl, h⟩ |
        ⟨rfl, rfl, rfl, h, hedge⟩ | ⟨rfl, rfl, rfl, h⟩ := hc
      · exact execWakePattern_enabled h
      · exact execWakeFrame_enabled h hmatch
      · exact execWakeFrameErr_enabled h
      · exact execWakePin_enabled h hedge
      · exact execWakeAlarm_due h
    rw [hexec]
    clear hc hexec
    refine ⟨fun hasleep hpending hnone => ⟨fun hlow => ?_, fun hlow => ?_⟩, fun hasleep h => ?_,
      fun hawake hunarmed => ?_, fun hawake harmed hagreed hbefore => ?_⟩
    · obtain ⟨hA, hB, hwake, hrec, hjudged, honly⟩ :=
        wakeReq_raises (s := s.elapse dt) cause src hasleep hpending hnone hlow
      refine ⟨_, rfl, ?_⟩
      simp only [State.pins_sleep, hrec]
      exact ⟨hA, hB, hwake, rfl, rfl, rfl, rfl, hjudged, go_only honly⟩
    · obtain ⟨hlatch, hjudged, hA, hrec, honly⟩ :=
        wakeReq_latches (s := s.elapse dt) cause src hasleep hpending hnone hlow
      refine ⟨_, _, rfl, (congrArg _ (State.pins_sleep _)).trans hlatch, ?_⟩
      simp only [State.pins_sleep]
      exact ⟨rfl, rfl, rfl, hjudged, hA, hrec, go_only honly⟩
    · exact exec_idle (congrArg go (wakeReq_again (s := s.elapse dt) cause src hasleep h))
    · exact exec_idle (congrArg go (wakeReq_unarmed (s := s.elapse dt) cause src hawake hunarmed))
    · obtain ⟨hag, har, hvote⟩ := selfAbort_sleep (s.elapse dt) cause
      refine ⟨_, congrArg go (wakeReq_agreed cause src hawake harmed hagreed hbefore), ?_⟩
      rw [State.pins_sleep, State.pins_tly]
      exact ⟨hag, har, hvote, selfAbort_tally ..⟩
  · exact exec_idle (execWakePattern_disabled h)
  · exact exec_idle (execWakeFrame_disabled h)
  · exact exec_idle (execWakePin_disabled h)
  · exact ⟨_, execLatchedWakeRelease_due hlatched hasleep hlow, State.pins_sleep _,
      go_only (State.wakeUp_touch ..)⟩
  · exact exec_idle (execLatchedWakeRelease_early hlatched h)
  · refine ⟨_, execWakeValid_hit hhit, ?_⟩
    simp only [State.pins_sleep]
    exact ⟨rfl, fun j => by simp [State.foundValid], rfl, go_only (only_set_sleep _ (only_refl ..) rfl)⟩
  · exact exec_idle (execWakeValid_idle h)
  · obtain ⟨conf, consec, frameOnly, hsleep⟩ := falseWake_sleep (s.elapse dt) j
    have hx : j.xcvr = x.val := by simpa using List.find?_some hj
    refine ⟨_, execTValidExpiry_due hj hdue, ?_⟩
    simp only [State.pins_sleep, hsleep, hx]
    exact ⟨Tab.get_upd_self .., by simp, by simp⟩
  · exact exec_idle (execTValidExpiry_early hj hearly)

end Sys2Proof.Machine

/-! SUPPORT. Chapter 9: the stay-awake timer of a coordinator that an alarm keeps awake (R314, R316, R317). -/

namespace Sys2Proof.Machine

theorem execStayAwakeExpiry_due {s : State} {dt a : Nat} (hup : s.tellerUp = true)
    (hrole : wkRole s.sleep.conf = 2) (hmax : fld s.sleep.conf 0x14 2 * 60000000000 ≠ 0)
    (hover : s.sleep.stayOver = false) (hstay : s.sleep.stayAt = some a)
    (hdue : a + fld s.sleep.conf 0x14 2 * 60000000000 ≤ (s.elapse dt).now) :
    execStayAwakeExpiry dt s = go (s.elapse dt).stayExpire := by
  have hup' : (s.elapse dt).tellerUp = true := hup
  simp only [execStayAwakeExpiry, State.elapse_sleep, hstay, hup', hrole, hover]
  simp [hmax, hdue]

/-- A legal wake record: COORDINATOR of the members 0 (itself) and 1, MAX_AWAKE_MIN 1, ALARM at second 1. -/
def alarmedConf : List Byte :=
  [2, 0, 0, 0, 0, 0] ++ le 2 100 ++ le 4 3 ++ zeros 4 ++ le 2 10 ++ le 2 30 ++ le 2 1 ++ zeros 2 ++ le 8 1 ++
    zeros 160

theorem wakeOk_alarmedConf : alarmedConf.length = 192 ∧ wakeRsv alarmedConf = true ∧ wakeOk alarmedConf = true :=
  ⟨rfl, rfl, rfl⟩

/-- A coordinator whose vote has been READY since its start; member 1 has never voted. -/
def alarmedCoordinator : State :=
  { State.reset with
    sys := { State.reset.sys with stage := .up }
    sleep := { State.reset.sleep with
      conf := alarmedConf, round := some 0, votedReady := true, stayAt := some 0 } }

/-- After a minute member 1 is excluded, so the coordinator reaches agreement (tally 10). It arms the wake
sources, the alarm already reached is a wake request at once (R317) and aborts the agreement (tally 11):
the vote becomes AWAKE (R314), which stops the stay-awake timer (R316). -/
theorem stayExpire_alarmedCoordinator :
    let t := (alarmedCoordinator.elapse 30000000000).stayExpire
    t.sleep.excluded = 2 ∧ Tab.get 0 t.tly.live (tlSleep 10) = 1 ∧ Tab.get 0 t.tly.live (tlSleep 11) = 1 ∧
      t.sleep.votedReady = false ∧ t.sleep.stayOver = false :=
  ⟨by decide, by decide, by decide, by decide, by decide⟩

/-- Refutes O44: the clause on STAY_AWAKE_EXPIRY has the timer run out still, whatever the alarm; where the
exclusions bring about an agreement that ALARM aborts at once, the timer has been stopped. -/
theorem not_sleepIsAgreed : ¬ Obligations.SleepIsAgreed := by
  intro ⟨_, _, _, _, hclause⟩
  obtain ⟨hexpiry, _⟩ := hclause alarmedCoordinator 30000000000
  have hdue : execStayAwakeExpiry 30000000000 alarmedCoordinator = go _ :=
    execStayAwakeExpiry_due (a := 0) rfl (by decide) (by decide) rfl rfl (by decide)
  obtain ⟨t, ht, hover, _⟩ := hexpiry ⟨rfl, by decide, by decide, rfl, 0, rfl, by decide⟩
  obtain ⟨_, _, _, _, hstopped⟩ := stayExpire_alarmedCoordinator
  obtain rfl : State.pins _ = t := Host.Outcome.next.inj (hdue.symm.trans ht)
  rw [State.pins_sleep, hstopped] at hover
  contradiction

end Sys2Proof.Machine

/-! SUPPORT. Chapter 10, the channels (R332 to R334): what the pairs leave of them, filter outputs, stuck
channels. -/

namespace Sys2Proof.Machine

/-! ### The channels of a state -/

theorem chan_of_meas {s t : State} (h : t.meas = s.meas) (n : Nat) : t.chan n = s.chan n := by
  rw [State.chan, h, State.chan]

@[simp] theorem elapse_chan (s : State) (dt n : Nat) : (s.elapse dt).chan n = s.chan n := rfl

theorem chan_of_chans {s t : State} (h : t.meas.chans = s.meas.chans) (n : Nat) : t.chan n = s.chan n := by
  rw [State.chan, h, State.chan]

@[simp] theorem pins_chan (s : State) (n : Nat) : s.pins.chan n = s.chan n := chan_of_meas s.pins_meas n

@[simp] theorem chan_setChan_self (s : State) (n : Nat) (x : Option Chan) : (s.setChan n x).chan n = x :=
  Tab.get_set_self none s.meas.chans n x

theorem chan_setChan_ne (s : State) {n c : Nat} (x : Option Chan) (h : c ≠ n) :
    (s.setChan n x).chan c = s.chan c := Tab.get_set_ne none s.meas.chans x h

/-! ### Tallies of the measurement (R528) -/

theorem tlMeas_ne {i j : Nat} (h : i ≠ j) : tlMeas i ≠ tlMeas j := by
  simp only [tlMeas, tly]; omega

theorem tlMeas_ne_tlFeed {i : Nat} (j : Nat) (hi : i < 64) : tlMeas i ≠ tlFeed j := by
  simp only [tlMeas, tlFeed, tly]; omega

/-! ### What the pairs leave of the channels (R338 to R340) -/

/-- The channels and their tallies are as they were: an operation on pairs. -/
def State.keepsChannels (t s : State) : Prop :=
  t.meas.chans = s.meas.chans ∧
    ∀ i < 16, Tab.get 0 t.tly.live (tlMeas i) = Tab.get 0 s.tly.live (tlMeas i)

theorem keepsChannels_refl (s : State) : s.keepsChannels s := ⟨rfl, fun _ _ => rfl⟩

theorem State.keepsChannels.trans {s t u : State} (h : u.keepsChannels t) (k : t.keepsChannels s) :
    u.keepsChannels s := ⟨h.1.trans k.1, fun i hi => (h.2 i hi).trans (k.2 i hi)⟩

theorem keepsChannels_foldl {f : State → Nat → State} (hf : ∀ s n, (f s n).keepsChannels s) (l : List Nat)
    (s : State) : (l.foldl f s).keepsChannels s := by
  induction l generalizing s with
  | nil => exact keepsChannels_refl s
  | cons n l ih => exact (ih (f s n)).trans (hf s n)

theorem keepsChannels_ite {c : Prop} [Decidable c] {s t u : State} (h : t.keepsChannels s)
    (k : u.keepsChannels s) : (if c then t else u).keepsChannels s := by
  split
  · exact h
  · exact k

theorem setPair_keepsChannels (s : State) (n : Nat) (x : Option Pair) :
    (s.setPair n x).keepsChannels s := keepsChannels_refl s

theorem count_keepsChannels (s : State) {k : Nat} (hk : 16 ≤ k) : (s.count (tlMeas k)).keepsChannels s :=
  ⟨rfl, fun _ hi => count_tally _ _ _ _ (tlMeas_ne (by omega))⟩

theorem settleEnergy_keepsChannels (s : State) (n : Nat) : (s.settleEnergy n).keepsChannels s := by
  unfold State.settleEnergy
  split
  · exact keepsChannels_refl s
  · refine keepsChannels_ite (keepsChannels_refl s) (keepsChannels_ite ?_ (keepsChannels_ite ?_ ?_))
    · exact (count_keepsChannels _ (Nat.le_add_right_of_le (by decide))).trans (setPair_keepsChannels ..)
    · exact keepsChannels_refl s
    · exact keepsChannels_refl s

theorem addEnergy_keepsChannels (s : State) (n t : Nat) (e : Int) : (s.addEnergy n t e).keepsChannels s := by
  unfold State.addEnergy
  split
  · exact keepsChannels_refl s
  · refine keepsChannels_ite (setPair_keepsChannels ..) ?_
    extract_lets u
    have hu : u.keepsChannels s :=
      keepsChannels_ite (settleEnergy_keepsChannels s n) (keepsChannels_refl s)
    split
    · exact (setPair_keepsChannels ..).trans hu
    · exact hu

theorem pairOutput_keepsChannels (s : State) (n ch t : Nat) (v : Int) (period : Nat) :
    (s.pairOutput n ch t v period).keepsChannels s := by
  unfold State.pairOutput
  split
  · exact keepsChannels_refl s
  · refine keepsChannels_ite (keepsChannels_refl s) ?_
    extract_lets y u
    split
    · exact keepsChannels_ite ((addEnergy_keepsChannels ..).trans (setPair_keepsChannels ..))
        (setPair_keepsChannels ..)
    · exact setPair_keepsChannels ..

theorem pairClose_keepsChannels (s : State) (n : Nat) : (s.pairClose n).keepsChannels s := by
  unfold State.pairClose
  split
  · exact keepsChannels_refl s
  · split
    · split
      · exact keepsChannels_ite (keepsChannels_refl s)
          (keepsChannels_ite (count_keepsChannels _ (Nat.le_add_right _ _)) (keepsChannels_refl s))
      · exact keepsChannels_refl s
    · exact keepsChannels_refl s

/-! ### Filter outputs (R332 to R334) -/

@[simp] theorem elapse_absentUnit (s : State) (dt n : Nat) :
    (s.elapse dt).absentUnit n = s.absentUnit n := rfl

/-- A channel that answers and is not stuck. -/
def State.works (s : State) (n : Nat) (x : Chan) : Prop := s.absentUnit (0x28 + n) = false ∧ x.stuck = false

theorem down_iff {s : State} {n : Nat} {x : Chan} :
    (s.absentUnit (0x28 + n) || x.stuck) = true ↔ ¬ s.works n x := by
  simp only [State.works]
  cases s.absentUnit (0x28 + n) <;> cases x.stuck <;> simp

/-- A filter output with INVERT applied, within 24 bits. -/
def Chan.filtered (x : Chan) (raw : Int) : Int :=
  clampInt (-8388608) 8388607 (if bit (fld x.conf 2 1) 0 then -raw else raw)

/-- An output at either end of the filter's range. -/
def clipped (f : Int) : Bool := f = -8388608 || f = 8388607

theorem clipped_eq (f : Int) : clipped f = decide (f = -8388608 ∨ f = 8388607) := (Bool.decide_or ..).symm

/-- A clipped output is counted for its channel. -/
def State.countClipped (s : State) (ch : Nat) (f : Int) : State :=
  if clipped f then s.count (tlMeas ch) else s

theorem countClipped_keeps (s : State) (ch : Nat) (f : Int) :
    (s.countClipped ch f).meas = s.meas ∧ (s.countClipped ch f).clk = s.clk := by
  unfold State.countClipped
  split <;> exact ⟨rfl, rfl⟩

/-- The samples that are due become current. -/
def Chan.settled (x : Chan) (net : Nat) : Chan :=
  { x with
    cur := match (x.soon.filter fun e => e.1 ≤ net).getLast? with | some e => some e.2 | none => x.cur
    soon := x.soon.filter fun e => net < e.1 }

/-- The channel after the filter output `f` at network time `net`. -/
def Chan.output (x : Chan) (net : Nat) (f : Int) : Chan :=
  let t := net - x.delayNs
  let c := clipped f
  (resolve x.out1 t (x.value f) c x.waits { x with out1 := some (t, x.value f, c), out0 := x.out1 }).settled net

/-- The pairs take an output of channel `ch`. -/
def State.tellPairs (s : State) (ch t : Nat) (v : Int) (period : Nat) : State :=
  (List.range 4).foldl State.pairClose ((List.range 4).foldl (fun s n => s.pairOutput n ch t v period) s)

theorem tellPairs_keepsChannels (s : State) (ch t : Nat) (v : Int) (period : Nat) :
    (s.tellPairs ch t v period).keepsChannels s :=
  (keepsChannels_foldl pairClose_keepsChannels ..).trans
    (keepsChannels_foldl (fun s n => pairOutput_keepsChannels s n ch t v period) ..)

/-- Resolving what waits leaves the record and the outputs of a channel. -/
theorem resolve_keeps (old : Option (Nat × Int × Bool)) (t : Nat) (v : Int) (clip : Bool) (l : List GWait)
    (x : Chan) : let y := resolve old t v clip l x
    y.out1 = x.out1 ∧ y.out0 = x.out0 ∧ y.conf = x.conf := by
  induction l generalizing x with
  | nil => exact ⟨rfl, rfl, rfl⟩
  | cons w l ih =>
    cases w with
    | close num sh => exact ih (x.close num sh)
    | sample g pos coast fixed warn =>
      unfold resolve
      split
      · exact ⟨rfl, rfl, rfl⟩
      · split
        · split
          · exact ih (x.addSample _)
          · exact ih x
        · exact ih x

theorem output_keeps (x : Chan) (net : Nat) (f : Int) : let y := x.output net f
    y.out1 = some (net - x.delayNs, x.value f, clipped f) ∧ y.out0 = x.out1 ∧ y.conf = x.conf :=
  resolve_keeps ..

/-- An instant between two outputs takes the value interpolated between them (R333). -/
theorem output_interpolates {x : Chan} {net g : Nat} {f : Int} {pos : Option Nat} {coast fixed warn : Bool}
    {t0 : Nat} {v0 : Int} {c0 : Bool} (hwaits : x.waits = [.sample g pos coast fixed warn])
    (hout : x.out1 = some (t0, v0, c0)) (hge : t0 ≤ g) (hle : g ≤ net - x.delayNs)
    (hlt : t0 < net - x.delayNs) :
    (x.output net f).waits = [] ∧ (x.output net f).cyc = x.cyc ++ [{
      v := i32 (v0 + roundDiv ((x.value f - v0) * ((g : Int) - (t0 : Int))) (net - x.delayNs - t0))
      t := g, pos := pos, coast := coast, fixed := fixed, clip := clipped f || c0, warn := warn }] := by
  simp [Chan.output, Chan.settled, hwaits, hout, resolve, Chan.addSample, Nat.not_lt.2 hle, hge,
    Nat.ne_of_gt hlt]

section
variable {s : State} {ch : Nat} {x : Chan} (hx : s.chan ch = some x)

include hx

/-- An output of a settled channel that works counts where it is clipped, enters the channel and reaches
the pairs; the LINE trackers take it in between. -/
theorem filterOut_output (hworks : s.works ch x) (hgood : x.goodFrom ≤ s.now) (raw : Int) :
    let f := x.filtered raw
    ∃ u : State, u.meas = s.meas ∧ u.tly = (s.countClipped ch f).tly ∧
      s.filterOut ch raw = (u.setChan ch (some (x.output s.net f))).tellPairs ch (s.net - x.delayNs)
        (x.value f) x.outNs := by
  obtain ⟨hunit, hstuck⟩ := hworks
  intro f
  unfold State.filterOut
  split
  · next hnone => exact nomatch hnone.symm.trans hx
  · next y hy =>
    obtain rfl : x = y := Option.some.inj (hx.symm.trans hy)
    extract_lets g h clip counted level u
    have hlevel (a : State) (k : Nat) :
        (level a k).meas = a.meas ∧ (level a k).tly = a.tly ∧ (level a k).clk = a.clk := by
      unfold level
      split
      · split <;> exact ⟨rfl, rfl, rfl⟩
      · exact ⟨rfl, rfl, rfl⟩
    obtain ⟨hmeas, htly, hclk⟩ := hlevel (level counted 0) 1
    obtain ⟨hmeas0, htly0, hclk0⟩ := hlevel counted 0
    obtain ⟨hmeas1, hclk1⟩ := countClipped_keeps s ch f
    have hnet : u.net = s.net := congrArg (·.net / 2 ^ 48) (hclk.trans (hclk0.trans hclk1))
    refine ⟨u, hmeas.trans (hmeas0.trans hmeas1), htly.trans htly0, ?_⟩
    rw [if_neg (by simp [hunit, hstuck]), if_neg (Nat.not_lt.2 hgood), ← hnet]
    rfl

theorem filterOut_settling (hworks : s.works ch x) (hgood : s.now < x.goodFrom) (raw : Int) :
    s.filterOut ch raw = s.setChan ch (some { x with out1 := none }) := by
  obtain ⟨hunit, hstuck⟩ := hworks
  simp [State.filterOut, hx, hunit, hstuck, hgood]

theorem filterOut_idle (hdown : ¬ s.works ch x) (raw : Int) : s.filterOut ch raw = s := by
  simp only [State.filterOut, hx]
  exact if_pos (down_iff.2 hdown)

/-- What an output that counts leaves of the channels and their tallies. -/
theorem filterOut_channels (hworks : s.works ch x) (hgood : x.goodFrom ≤ s.now) (hch : ch < 8) (raw : Int) :
    let f := x.filtered raw
    let u := s.filterOut ch raw
    u.chan ch = some (x.output s.net f) ∧ (∀ c, c ≠ ch → u.chan c = s.chan c) ∧
      (clipped f = true → Tab.get 0 u.tly.live (tlMeas ch) =
        min tlyMax (Tab.get 0 s.tly.live (tlMeas ch) + 1)) := by
  obtain ⟨u, hmeas, htly, hout⟩ := filterOut_output hx hworks hgood raw
  rw [hout]
  obtain ⟨hchans, htallies⟩ := tellPairs_keepsChannels
    (u.setChan ch (some (x.output s.net (x.filtered raw)))) ch (s.net - x.delayNs)
    (x.value (x.filtered raw)) x.outNs
  refine ⟨?_, fun c hc => ?_, fun hclip => ?_⟩
  · exact (chan_of_chans hchans ch).trans (chan_setChan_self ..)
  · exact (chan_of_chans hchans c).trans ((chan_setChan_ne u _ hc).trans (chan_of_meas hmeas c))
  · have hlive : (u.setChan ch (some (x.output s.net (x.filtered raw)))).tly = (s.count (tlMeas ch)).tly :=
      htly.trans (by rw [State.countClipped, if_pos hclip])
    rw [htallies ch (by omega), hlive, count_self]

end

/-! ### Stuck channels (R334) -/

section
variable {s : State} {dt : Nat} {ch : Fin 8} {x : Chan} (hx : s.chan ch.val = some x)

include hx

theorem execSdStuck_works (hworks : s.works ch.val x) : ∃ l, execSdStuck dt ch s =
    go ((((s.elapse dt).setChan ch.val (some { x with stuck := true, out1 := none, waits := l })).count
      (tlMeas (8 + ch.val))).noteOnce ch.val (ev 10 0) (le 1 ch.val ++ le 1 1)) := by
  obtain ⟨hunit, hstuck⟩ := hworks
  simp only [execSdStuck, elapse_chan, hx, elapse_absentUnit, hunit, hstuck]
  exact ⟨_, rfl⟩

theorem execSdStuck_idle (hdown : ¬ s.works ch.val x) : execSdStuck dt ch s = go (s.elapse dt) := by
  simp only [execSdStuck, elapse_chan, hx]
  exact if_pos (down_iff.2 hdown)

theorem execSdRecovery_stuck (hunit : s.absentUnit (0x28 + ch.val) = false) (hstuck : x.stuck = true) :
    let e := s.elapse dt
    execSdRecovery dt ch s = go ((e.setChan ch.val (some { x with
      stuck := false, goodFrom := e.now + 3 * x.outNs })).noteOnce ch.val (ev 10 0)
        (le 1 ch.val ++ le 1 0)) := by
  simp only [execSdRecovery, elapse_chan, hx, elapse_absentUnit, hunit, hstuck]
  rfl

theorem execSdRecovery_idle (h : s.absentUnit (0x28 + ch.val) = true ∨ x.stuck = false) :
    execSdRecovery dt ch s = go (s.elapse dt) := by
  simp only [execSdRecovery, elapse_chan, hx]
  exact if_pos (by simpa using h)

end

end Sys2Proof.Machine

/-! SUPPORT. Chapter 10, the grid (R335 to R337): a grid instant at the channels, on the fixed grid and on the
grid of the pace. -/

namespace Sys2Proof.Machine

/-! ### A grid instant at the channels -/

/-- The state with other channels. -/
def State.withChans (s : State) (l : Tab (Option Chan)) : State := { s with meas := { s.meas with chans := l } }

/-- Going through the channels, each is changed by itself. -/
theorem foldl_chans {s : State} {step : State → Nat → State} {next : Nat → Chan → Chan}
    (hstep : ∀ l n, ∃ m, step (s.withChans l) n = s.withChans m ∧
      Tab.get none m n = (Tab.get none l n).map (next n) ∧
      ∀ c, c ≠ n → Tab.get none m c = Tab.get none l c) (k : Nat) :
    ∃ m, (List.range k).foldl step s = s.withChans m ∧
      ∀ c, Tab.get none m c = if c < k then (s.chan c).map (next c) else s.chan c := by
  induction k with
  | zero => exact ⟨s.meas.chans, rfl, fun _ => rfl⟩
  | succ k ih =>
    obtain ⟨l, hl, hread⟩ := ih
    obtain ⟨m, hm, hself, hothers⟩ := hstep l k
    refine ⟨m, by rw [List.range_succ, List.foldl_append, hl]; exact hm, fun c => ?_⟩
    by_cases hc : c = k
    · rw [hc, hself, hread, if_neg (Nat.lt_irrefl k), if_pos (Nat.lt_succ_self k)]
    · rw [hothers c hc, hread]
      by_cases hlt : c < k
      · rw [if_pos hlt, if_pos (Nat.lt_succ_of_lt hlt)]
      · rw [if_neg hlt, if_neg (by omega)]

/-- A channel at a grid instant: it waits for the sample where it works. -/
def State.atGrid (s : State) (t : Nat) (pos : Option Nat) (fixed : Bool) (n : Nat) (x : Chan) : Chan :=
  if s.chanGood n x then { x with
    waits := x.waits ++ [.sample t pos (!fixed && s.pace.state = .coasting) fixed (s.warned (inputDomain n))] }
  else x

theorem takeGrid_chans (s : State) (t : Nat) (pos : Option Nat) (fixed : Bool) :
    ∃ m, s.takeGrid t pos fixed = s.withChans m ∧
      ∀ c, Tab.get none m c = if c < 8 then (s.chan c).map (s.atGrid t pos fixed c) else s.chan c := by
  unfold State.takeGrid
  refine foldl_chans (next := s.atGrid t pos fixed) (fun l n => ?_) 8
  have hkeep (h : (Tab.get none l n).map (s.atGrid t pos fixed n) = Tab.get none l n) :
      ∃ m, s.withChans l = s.withChans m ∧
        Tab.get none m n = (Tab.get none l n).map (s.atGrid t pos fixed n) ∧
        ∀ c, c ≠ n → Tab.get none m c = Tab.get none l c := ⟨l, rfl, h.symm, fun _ _ => rfl⟩
  split
  · next x hx =>
    have hx' : Tab.get none l n = some x := hx
    split
    · next hgood =>
      have hgood' : s.chanGood n x = true := hgood
      refine ⟨_, rfl, (Tab.get_set_self ..).trans ?_, fun c hc => Tab.get_set_ne none l _ hc⟩
      rw [hx', Option.map_some, State.atGrid, if_pos hgood']
      rfl
    · next hbad =>
      have hbad' : ¬ s.chanGood n x = true := hbad
      exact hkeep (by rw [hx', Option.map_some, State.atGrid, if_neg hbad'])
  · next hnone =>
    have hnone' : Tab.get none l n = none := hnone
    exact hkeep (by rw [hnone', Option.map_none])

/-- The state with sample 0 of the cycle at `a`, SHORT or not. -/
def State.withCycle (s : State) (a : Nat) (short_ : Bool) : State :=
  { s with meas := { s.meas with start0 := a, short_ := short_ } }

/-- Every channel after a grid instant that closes no cycle. -/
theorem takeGrid_chan {s : State} (a t : Nat) (b : Bool) (pos : Option Nat) (fixed : Bool) :
    ∃ m, (s.withCycle a b).takeGrid t pos fixed = (s.withCycle a b).withChans m ∧
      ∀ c x, c < 8 → s.chan c = some x → Tab.get none m c = some (s.atGrid t pos fixed c x) := by
  obtain ⟨m, hm, hread⟩ := takeGrid_chans (s.withCycle a b) t pos fixed
  refine ⟨m, hm, fun c x hc hx => ?_⟩
  have hx' : (s.withCycle a b).chan c = some x := hx
  rw [hread, if_pos hc, hx', Option.map_some]
  rfl

/-! ### The fixed grid and the grid of the pace -/

/-- A fixed grid instant that closes no cycle. -/
theorem fixedGrid_chans {s : State} (t : Nat) (hk : s.meas.k < 255) : let u := s.fixedGrid t
    u.meas.k = s.meas.k + 1 ∧ u.meas.nextNet = t + 78125 ∧ u.meas.cycle = s.meas.cycle ∧
      ∀ c x, c < 8 → s.chan c = some x → u.chan c = some (s.atGrid t none true c x) := by
  unfold State.fixedGrid
  extract_lets _ opened taken k _ w left
  have hopened : ∃ a b, opened = s.withCycle a b := by
    unfold opened
    split
    · exact ⟨t, false, rfl⟩
    · exact ⟨s.meas.start0, s.meas.short_, rfl⟩
  obtain ⟨a, b, hopened⟩ := hopened
  obtain ⟨m, hm, hread⟩ := takeGrid_chan (s := s) a t b none true
  have htaken : taken = (s.withCycle a b).withChans m := by rw [← hm, ← hopened]
  clear_value taken
  subst htaken
  have hk' : k = s.meas.k + 1 := rfl
  have hleft : left = w := if_neg (by omega)
  rw [hleft]
  exact ⟨Nat.mod_eq_of_lt (by omega), rfl, rfl, hread⟩

/-- A pace grid instant of the cycle in progress, not its last. -/
theorem paceGrid_chans {s : State} {g : Nat} (hfixed : s.meas.fixed = false)
    (hcycle : g / 256 = s.meas.k / 256) (hlast : g % 256 ≠ 255) : let u := s.paceGrid g
    u.meas.k = g + 1 ∧ u.meas.cycle = s.meas.cycle ∧ (g % 256 = 0 → u.meas.start0 = s.net) ∧
      ∀ c x, c < 8 → s.chan c = some x → u.chan c =
        some (s.atGrid s.net (some (g * 256 % max 1 (paceRound s.paceBlock))) false c x) := by
  unfold State.paceGrid
  extract_lets t start _ _ _ _ opened l taken _ w left
  have hopened : ∃ a b, opened = s.withCycle a b ∧ (g % 256 = 0 → a = s.net) := by
    unfold opened
    rw [if_neg (by simp [hfixed]), if_pos hcycle]
    split
    · exact ⟨s.net, false, rfl, fun _ => rfl⟩
    · next hzero =>
      split
      · exact ⟨s.meas.start0, s.meas.short_, rfl, fun h => absurd h hzero⟩
      · exact ⟨s.meas.start0, true, rfl, fun h => absurd h hzero⟩
  obtain ⟨a, b, hopened, hstart⟩ := hopened
  have hround : l = max 1 (paceRound s.paceBlock) := by unfold l; rw [hopened]; rfl
  obtain ⟨m, hm, hread⟩ := takeGrid_chan (s := s) a s.net b (some (g * 256 % l)) false
  have htaken : taken = (s.withCycle a b).withChans m := by rw [← hm, ← hopened]
  clear_value taken
  subst htaken
  have hleft : left = w := if_neg (by omega)
  rw [hleft, ← hround]
  exact ⟨rfl, rfl, hstart, hread⟩

theorem gridSample_fixed {s : State} (hkind : s.pace.kind ≠ 1) (hfixed : s.meas.fixed = true) :
    s.gridSample = if s.nextFixed ≤ s.net + 2 then s.fixedGrid s.nextFixed else s := by
  have hwant : s.wantPace = false := by simp [State.wantPace, hkind]
  simp only [State.gridSample, hwant, hfixed, Bool.false_eq_true, if_false, if_true]

theorem gridSample_pace {s : State} (hwant : s.wantPace = true) :
    let g := (s.paceAt + 128 * 2 ^ 32) / (256 * 2 ^ 32)
    let tol := 4 * s.rateNow / 2 ^ 16 + 2
    s.meas.k ≤ g → s.paceAt ≤ g * (256 * 2 ^ 32) + tol → g * (256 * 2 ^ 32) ≤ s.paceAt + tol →
    s.gridSample = s.paceGrid g := by
  intro g tol hk hle hge
  have hhalf : 256 * 2 ^ 32 / 2 = 128 * 2 ^ 32 := by decide
  simp only [State.gridSample, hwant, if_true, hhalf]
  refine if_pos ?_
  simp only [Bool.and_eq_true, Bool.or_eq_true, decide_eq_true_eq]
  exact ⟨⟨hle, hge⟩, .inr hk⟩

theorem execGridSample_awake {s : State} {dt : Nat} (h : s.awake = true) :
    execGridSample dt s = go (s.elapse dt).gridSample := by
  have h' : (s.elapse dt).awake = true := h
  simp only [execGridSample, h', if_true]

theorem execGridSample_idle {s : State} {dt : Nat} (h : s.awake = false ∨ (s.pace.kind ≠ 1 ∧
    s.meas.fixed = true ∧ (s.elapse dt).net + 2 < (s.elapse dt).nextFixed)) :
    execGridSample dt s = go (s.elapse dt) := by
  obtain hasleep | ⟨hkind, hfixed, hearly⟩ := h
  · have hasleep' : (s.elapse dt).awake = false := hasleep
    simp only [execGridSample, hasleep', Bool.false_eq_true, if_false]
  · have hidle : (s.elapse dt).gridSample = s.elapse dt :=
      (gridSample_fixed (s := s.elapse dt) hkind hfixed).trans (if_neg (Nat.not_le.2 hearly))
    simp only [execGridSample, hidle, ite_self]

/-! ### The obligation -/

/-- Settles O46: a channel by what a filter output, the loss of its clock and its return make of it, the grid by
what an instant makes of every channel. -/
theorem channelsAndGrid : Obligations.ChannelsAndGrid := by
  refine ⟨fun s dt ch raw x hx => ?_, fun s dt => ⟨?_, ?_, ?_⟩⟩
  · have hx' : (s.elapse dt).chan ch.val = some x := hx
    refine ⟨fun hworks hgood => ?_, fun hworks hearly => ?_, fun hdown => ?_, fun hworks => ?_,
      fun hdown => ?_, fun hunit hstuck => ?_, fun h => ?_⟩
    · obtain ⟨hself, hothers, hcount⟩ := filterOut_channels hx' hworks hgood ch.isLt raw
      obtain ⟨hout1, hout0, hconf⟩ := output_keeps x (s.elapse dt).net (x.filtered raw)
      rw [clipped_eq] at hout1 hcount
      refine ⟨_, _, rfl, (pins_chan ..).trans hself, hout1, hout0, hconf,
        fun c hc => (pins_chan ..).trans (hothers c hc), fun hclip => ?_, ?_⟩
      · rw [State.pins_tly]
        exact hcount hclip
      · intro g pos coast fixed warn t0 v0 c0 hwaits hout hge hle hlt
        obtain ⟨hnone, hcyc⟩ := output_interpolates hwaits hout hge hle hlt
        rw [clipped_eq] at hcyc
        exact ⟨hnone, _, hcyc, rfl, rfl, rfl, rfl⟩
    · exact ⟨_, congrArg go (filterOut_settling hx' hworks hearly raw),
        (pins_chan ..).trans (chan_setChan_self ..), go_only (State.setChan_touch ..)⟩
    · exact exec_idle (congrArg go (filterOut_idle hx' hdown raw))
    · obtain ⟨l, hexec⟩ := execSdStuck_works (dt := dt) hx hworks
      refine ⟨_, _, hexec,
        (pins_chan ..).trans ((chan_of_meas (State.noteOnce_meas ..) _).trans (chan_setChan_self ..)),
        rfl, rfl, rfl, ?_⟩
      rw [State.pins_tly, noteOnce_tally _ _ _ _ _ (tlMeas_ne_tlFeed 5 (by omega))
        (tlMeas_ne_tlFeed 6 (by omega)), count_self]
      rfl
    · exact exec_idle (execSdStuck_idle hx hdown)
    · exact ⟨_, execSdRecovery_stuck hx hunit hstuck,
        (pins_chan ..).trans ((chan_of_meas (State.noteOnce_meas ..) _).trans (chan_setChan_self ..)),
        go_only (only_step (only_sub (State.setChan_touch ..) rfl) (State.noteOnce_touch ..))⟩
    · exact exec_idle (execSdRecovery_idle hx h)
  · intro hawake hkind hfixed hdue hk
    obtain ⟨hindex, hnext, hcycle, hchans⟩ := fixedGrid_chans (s := s.elapse dt) (s.elapse dt).nextFixed hk
    have hgrid := (gridSample_fixed (s := s.elapse dt) hkind hfixed).trans (if_pos hdue)
    refine ⟨_, (execGridSample_awake hawake).trans (congrArg go hgrid), ?_⟩
    simp only [State.pins_meas, pins_chan]
    exact ⟨hindex, hnext, hcycle, hchans⟩
  · intro hawake hwant hfixed hk hround hlast hle hge
    obtain ⟨hindex, hcycle, hstart, hchans⟩ := paceGrid_chans (s := s.elapse dt) hfixed hround hlast
    refine ⟨_, (execGridSample_awake hawake).trans (congrArg go (gridSample_pace hwant hk hle hge)), ?_⟩
    simp only [State.pins_meas, pins_chan]
    exact ⟨hindex, hcycle, hstart, hchans⟩
  · exact fun h => exec_idle (execGridSample_idle h)

end Sys2Proof.Machine

/-! SUPPORT. Chapter 10, the square root (R338), energy and distance in flash (R355). -/

namespace Sys2Proof.Machine

/-! ### The square root (R338) -/

/-- Bit by bit, the square root of `x` is found between `r` and `r + 2 ^ n`. -/
theorem isqrtFrom_spec {n r x : Nat} (hlo : r * r ≤ x) (hhi : x < (r + 2 ^ n) * (r + 2 ^ n)) :
    let q := isqrtFrom n r x
    q * q ≤ x ∧ x < (q + 1) * (q + 1) := by
  induction n generalizing r with
  | zero => exact ⟨hlo, hhi⟩
  | succ n ih =>
    unfold isqrtFrom
    split
    · next h =>
      refine ih h ?_
      rwa [Nat.add_assoc, ← Nat.two_mul, ← Nat.pow_succ']
    · next h => exact ih hlo (Nat.not_le.1 h)

/-- The root of the mean is the whole number nearest to it (R338): it is found with one bit more and rounded. -/
theorem rootMean_nearest {a n : Nat} (hn : 0 < n) (hlt : 4 * a / n < 2 ^ 128) :
    let r := rootMean a n
    (0 < r → (2 * r - 1) * (2 * r - 1) ≤ 4 * a / n) ∧ 4 * a / n < (2 * r + 1) * (2 * r + 1) := by
  obtain ⟨hlo, hhi⟩ := isqrtFrom_spec (n := 64) (Nat.zero_le (4 * a / n)) (by rw [Nat.zero_add]; exact hlt)
  have hroot : rootMean a n = (isqrtFrom 64 0 (4 * a / n) + 1) / 2 := if_neg (Nat.ne_of_gt hn)
  rw [hroot]
  generalize isqrtFrom 64 0 (4 * a / n) = q at hlo hhi
  exact ⟨fun _ => Nat.le_trans (Nat.mul_self_le_mul_self (by omega)) hlo,
    Nat.lt_of_lt_of_le hhi (Nat.mul_self_le_mul_self (by omega))⟩

/-! ### Energy and distance in flash (R355) -/

/-- The values of number `n` enter the table that is written. -/
def Meas.enterValues (m : Meas) (t : Tab Nat) (n : Nat) : Tab Nat :=
  let t := Tab.set 0 t n (Tab.get 0 m.imp n)
  let t := Tab.set 0 t (8 + n) (Tab.get 0 m.exp_ n)
  let t := Tab.set 0 t (16 + n) (Tab.get 0 m.odo n)
  Tab.set 0 t (24 + n) (Tab.get 0 m.dist n + 2 ^ 120).toNat

/-- A table holds the energies and the odometer of number `n`. -/
def Meas.storedIn (m : Meas) (t : Tab Nat) (n : Nat) : Prop :=
  Tab.get 0 t n = Tab.get 0 m.imp n ∧ Tab.get 0 t (8 + n) = Tab.get 0 m.exp_ n ∧
    Tab.get 0 t (16 + n) = Tab.get 0 m.odo n

theorem enterValues_self (m : Meas) (t : Tab Nat) (n : Nat) :
    m.storedIn (m.enterValues t n) n := by
  simp (disch := omega) only [Meas.storedIn, Meas.enterValues, Tab.get_set_ne, Tab.get_set_self, and_self]

theorem enterValues_other {m : Meas} {t : Tab Nat} {n k : Nat} (hn : n < 8) (hk : k < 8) (hne : k ≠ n)
    (h : m.storedIn t k) : m.storedIn (m.enterValues t n) k := by
  simp (disch := omega) only [Meas.storedIn, Meas.enterValues, Tab.get_set_ne]
  exact h

theorem foldl_enterValues (m : Meas) {j : Nat} (hj : j ≤ 8) :
    ∀ n < j, m.storedIn ((List.range j).foldl m.enterValues []) n := by
  induction j with
  | zero => exact fun _ h => absurd h (Nat.not_lt_zero _)
  | succ j ih =>
    intro n hn
    rw [List.range_succ, List.foldl_append]
    by_cases h : n = j
    · exact h ▸ enterValues_self m _ j
    · exact enterValues_other (by omega) (by omega) h (ih (by omega) n (by omega))

/-- What is written holds the values of every number; the instant of the writing stands behind them. -/
theorem writeEnergy_stored (s : State) {n : Nat} (hn : n < 8) :
    s.meas.storedIn s.writeEnergy.flash.energy n := by
  have hwritten : s.writeEnergy.flash.energy =
      Tab.set 0 ((List.range 8).foldl s.meas.enterValues []) 40 (s.net + 1) := rfl
  rw [hwritten]
  simp (disch := omega) only [Meas.storedIn, Tab.get_set_ne]
  exact foldl_enterValues s.meas (Nat.le_refl 8) n hn

/-- The state in which energy and distance have just gone to flash, or have been deferred. -/
def State.savedNow (s : State) : State := { s with meas := { s.meas with savedAt := s.now, savedNet := s.net } }

section
variable {s : State} {dt : Nat}

theorem execEnergySave_due (hup : s.tellerUp = true)
    (hdue : s.meas.savedAt + 60000000000 ≤ (s.elapse dt).now) :
    execEnergySave dt s = go (if s.flashHeld then (s.elapse dt).savedNow.deferWrite .energy
      else (s.elapse dt).savedNow.writeEnergy) := by
  have hup' : (s.elapse dt).tellerUp = true := hup
  simp only [execEnergySave, hup', State.elapse_meas, hdue]
  rfl

theorem execEnergySave_early
    (h : ¬(s.tellerUp = true ∧ s.meas.savedAt + 60000000000 ≤ (s.elapse dt).now)) :
    execEnergySave dt s = go (s.elapse dt) := by
  have hup' : (s.elapse dt).tellerUp = s.tellerUp := rfl
  refine congrArg go (if_neg ?_)
  rwa [hup', State.elapse_meas, Bool.and_eq_true, decide_eq_true_eq]

end

theorem deferWrite_energy (s : State) (d : Deferred) : (s.deferWrite d).flash.energy = s.flash.energy := by
  unfold State.deferWrite
  dsimp only
  split <;> rfl

end Sys2Proof.Machine

/-! SUPPORT. Chapter 10, the commands of the measurement units (R348 to R351, R356, R357). -/

namespace Sys2Proof.Machine

theorem tach_of_meas {s t : State} (h : t.meas = s.meas) (n : Nat) : t.tach n = s.tach n := by
  rw [State.tach, h, State.tach]

theorem tach_setTach_self (s : State) (n : Nat) (x : Option Tach) : (s.setTach n x).tach n = x :=
  Tab.get_set_self none s.meas.tachs n x

theorem tach_setTach_ne (s : State) {n j : Nat} (x : Option Tach) (h : j ≠ n) :
    (s.setTach n x).tach j = s.tach j := Tab.get_set_ne none s.meas.tachs x h

/-- A mailbox row that completes at once leaves the measurement units as its run left them. -/
theorem mailbox_meas {s : State} {dt : Nat} {c : Cmd} {r : Req} (l : List Part)
    (hop : c.op < 65536) (hfree : s.mbxFree) (hplain : r.plain) (hshape : c.shape r.body = true)
    {st : Nat} {b : List Byte} {u : State}
    (hrun : c.run r.body ((s.elapse dt).writeReq c.op r) = ans st b u)
    (hl : ∀ p ∈ answerParts, p ∈ l) (hu : u.onlyChanges ((s.elapse dt).writeReq c.op r) l) :
    ∃ t, go ((s.elapse dt).submit c r) = .next t ∧ t.answered c.op r st b ∧ t.onlyChanges s l ∧
      t.meas = u.meas := by
  obtain ⟨t, hgo, hans, honly, rfl⟩ :=
    mailbox_change s dt c r l hop hfree hplain hshape st b u hrun hl hu
  exact ⟨_, hgo, hans, honly, (State.pins_meas _).trans (State.respond_meas ..)⟩

/-! ### MB_MEAS_READ (R356) -/

theorem cmdMeasRead_shape {b : List Byte} (hlen : b.length = 4) (hrsv : zeroAt b 3 1 = true)
    (hlast : fld b 2 1 < 2) : cmdMeasRead.shape b = true := by
  simp only [cmdMeasRead, hlen, hrsv, hlast, decide_true, Bool.and_self]

section
variable {b : List Byte} {s : State}
  (hpar : s.par.committed.isSome = true ∨ s.par.force.isSome = true)

include hpar

theorem no_par_eq_false : (s.par.committed.isNone && s.par.force.isNone) = false := by
  rw [Bool.and_eq_false_iff, Option.isNone_eq_false_iff, Option.isNone_eq_false_iff]
  exact hpar

section
variable (hnow : fld b 2 1 = 0)

include hnow

theorem cmdMeasRead_chan {x : Chan} (hk : fld b 0 1 = 0) (hu : fld b 1 1 ≤ 7)
    (hx : s.chan (fld b 1 1) = some x) (hdom : s.hasDom (inputDomain (fld b 1 1)) = true) :
    cmdMeasRead.run b s = ans stOk (s.chanRecord (fld b 1 1) x 0) s := by
  simp only [cmdMeasRead, no_par_eq_false hpar, Bool.false_eq_true, if_false]
  simp [hk, hnow, Nat.not_lt.2 hu, hx, hdom, bit]

theorem cmdMeasRead_pair {x : Pair} (hk : fld b 0 1 = 1) (hu : fld b 1 1 ≤ 3)
    (hx : s.pair (fld b 1 1) = some x) (hdom : s.hasDom (inputDomain x.vCh) = true) :
    cmdMeasRead.run b s = ans stOk (s.pairRecord (fld b 1 1) x 0) s := by
  simp only [cmdMeasRead, no_par_eq_false hpar, Bool.false_eq_true, if_false]
  simp [hk, hnow, Nat.not_lt.2 hu, hx, hdom, bit]

theorem cmdMeasRead_tach {x : Tach} (hk : fld b 0 1 = 2) (hu : fld b 1 1 ≤ 7)
    (hx : s.tach (fld b 1 1) = some x) (hdom : s.hasDom (inputDomain (fld b 1 1)) = true) :
    let record := s.tachRecord (fld b 1 1) x 0
    cmdMeasRead.run b s = ans stOk record.1 record.2 := by
  simp only [cmdMeasRead, no_par_eq_false hpar, Bool.false_eq_true, if_false]
  simp [hk, hnow, Nat.not_lt.2 hu, hx, hdom, bit]

theorem cmdMeasRead_din (hk : fld b 0 1 = 3) (hu : fld b 1 1 ≤ 1)
    (hdom : s.hasDom (fld b 1 1) = true) :
    let record := s.dinRecord (fld b 1 1) 0xFFFF 0
    cmdMeasRead.run b s = ans stOk record.1 record.2 := by
  simp only [cmdMeasRead, no_par_eq_false hpar, Bool.false_eq_true, if_false]
  simp [hk, hnow, Nat.not_lt.2 hu, hdom, bit]

end

/-- LAST of a channel whose domain is there is its last capture as it stands. -/
theorem cmdMeasRead_lastChan {x : Chan} (hlast : fld b 2 1 = 1) (hk : fld b 0 1 = 0) (hu : fld b 1 1 ≤ 7)
    (hx : s.chan (fld b 1 1) = some x) (hdom : s.hasDom (inputDomain (fld b 1 1)) = true) :
    cmdMeasRead.run b s = ans stOk (padTo 0 48 x.cap) s := by
  simp only [cmdMeasRead, no_par_eq_false hpar, Bool.false_eq_true, if_false]
  simp [hk, hlast, Nat.not_lt.2 hu, hx, hdom, bit, State.lastCap]

end

/-! ### MB_MEAS_WHEEL (R357) -/

section
variable {b : List Byte} {s : State}

theorem cmdMeasWheel_set {x : Tach} (hn : fld b 0 1 ≤ 7) (hmin : 500000 ≤ fld b 4 4)
    (hmax : fld b 4 4 ≤ 1500000) (hx : s.tach (fld b 0 1) = some x) :
    cmdMeasWheel.run b s = ans stOk [] ((s.setTach (fld b 0 1) (some { x with
      conf := overlay x.conf 4 (le 4 (fld b 4 4)) })).note (ev 10 3)
        (le 1 (fld b 0 1) ++ le 4 (fld x.conf 4 4) ++ le 4 (fld b 4 4))) := by
  simp [cmdMeasWheel, Nat.not_lt.2 hn, Nat.not_lt.2 hmin, Nat.not_lt.2 hmax, hx]

theorem cmdMeasWheel_refused (h : 7 < fld b 0 1 ∨ fld b 4 4 < 500000 ∨ 1500000 < fld b 4 4) :
    cmdMeasWheel.run b s = ans stMalformed [] s := if_pos (by simpa [or_assoc] using h)

end

/-! ### The obligation -/

/-- Settles O47: the square root by the bits it is found from, each command by its run on a unit that answers,
the writing of energy and distance by whether a minute has passed and the flash is held. -/
theorem measurementResultsAndCommands : Obligations.MeasurementResultsAndCommands := by
  refine ⟨fun a n => rootMean_nearest,
    fun s dt r hfree hplain hlen hrsv hpar => ⟨fun hnow => ?_, fun hlast x hk hu hx hdom => ?_⟩,
    fun s dt r hfree hplain hlen hrsv => ?_, fun s dt => ⟨?_, ?_, fun h => ?_⟩⟩
  · have hshape := cmdMeasRead_shape hlen hrsv (show fld r.body 2 1 < 2 by omega)
    let e := (s.elapse dt).writeReq 0x0801 r
    refine ⟨fun x hk hu hx hdom => ?_, fun x hk hu hx hdom => ?_, fun x hk hu hx hdom => ?_,
      fun hk hu hdom => ?_⟩
    · exact mailbox_read s dt cmdMeasRead r (by decide) hfree hplain hshape _ _
        (cmdMeasRead_chan (s := e) hpar hnow hk hu hx hdom)
    · exact mailbox_read s dt cmdMeasRead r (by decide) hfree hplain hshape _ _
        (cmdMeasRead_pair (s := e) hpar hnow hk hu hx hdom)
    · obtain ⟨t, hgo, hans, honly, -⟩ := mailbox_meas (.clock :: answerParts) (by decide) hfree
        hplain hshape (cmdMeasRead_tach (s := e) hpar hnow hk hu hx hdom) (by decide)
        (only_sub (State.tachRecord_touch ..) rfl)
      exact ⟨t, hgo, hans, honly⟩
    · obtain ⟨t, hgo, hans, honly, -⟩ := mailbox_meas (.clock :: .measure :: answerParts) (by decide) hfree
        hplain hshape (cmdMeasRead_din (s := e) hpar hnow hk hu hdom) (by decide)
        (only_sub (State.dinRecord_touch ..) rfl)
      exact ⟨t, hgo, hans, honly⟩
  · have hshape := cmdMeasRead_shape hlen hrsv (show fld r.body 2 1 < 2 by omega)
    exact mailbox_read s dt cmdMeasRead r (by decide) hfree hplain hshape _ _
      (cmdMeasRead_lastChan (s := (s.elapse dt).writeReq 0x0801 r) hpar hlast hk hu hx hdom)
  · have hshape : cmdMeasWheel.shape r.body = true := by simp [cmdMeasWheel, hlen, hrsv]
    refine ⟨fun x hn hmin hmax hx => ?_, fun h => ?_⟩
    · obtain ⟨t, hgo, hans, honly, hmeas⟩ := mailbox_meas (.measure :: mailParts) (by decide) hfree hplain
        hshape (cmdMeasWheel_set (s := (s.elapse dt).writeReq 0x0802 r) hn hmin hmax hx) (by decide)
        (only_step (only_sub (State.setTach_touch ..) rfl) (State.note_touch ..))
      rw [State.note_meas] at hmeas
      exact ⟨t, hgo, hans, (tach_of_meas hmeas _).trans (tach_setTach_self ..),
        fun j hj => (tach_of_meas hmeas j).trans (tach_setTach_ne _ _ hj), honly⟩
    · exact mailbox_read s dt cmdMeasWheel r (by decide) hfree hplain hshape _ _ (cmdMeasWheel_refused h)
  · rintro ⟨hup, hdue⟩ hfree
    refine ⟨_, (execEnergySave_due hup hdue).trans (congrArg go (if_neg (by simp [hfree]))),
      fun n hn => ?_, State.pins_meas _,
      go_only (only_set_flash _ (only_set_meas _ (only_refl _ _) rfl) rfl)⟩
    rw [State.pins_flash]
    exact writeEnergy_stored _ hn
  · rintro ⟨hup, hdue⟩ hheld
    refine ⟨_, (execEnergySave_due hup hdue).trans (congrArg go (if_pos hheld)), ?_,
      (State.pins_meas _).trans (State.deferWrite_meas ..)⟩
    rw [State.pins_flash]
    exact deferWrite_energy ..
  · exact exec_idle (execEnergySave_early h)

end Sys2Proof.Machine

/-! SUPPORT. Chapter 11, the cores of the triad (R360, R361, R363), and a retirement (R379, R380): what the
tasks that begin or are dropped after it leave of the retired core, of a resync and of the count. -/

namespace Sys2Proof.Machine

/-! ### The cores of a state -/

theorem core_of_cores {s t : State} (h : t.triad.cores = s.triad.cores) (c : Nat) : t.core c = s.core c := by
  rw [State.core, h, State.core]

theorem core_of_triad {s t : State} (h : t.triad = s.triad) (c : Nat) : t.core c = s.core c :=
  core_of_cores (congrArg Triad.cores h) c

@[simp] theorem elapse_core (s : State) (dt c : Nat) : (s.elapse dt).core c = s.core c := rfl
@[simp] theorem endResync_core (s : State) (c : Nat) : s.endResync.core c = s.core c := rfl
@[simp] theorem count_core (s : State) (k c : Nat) : (s.count k).core c = s.core c := rfl
@[simp] theorem note_core (s : State) (code : Nat) (args : List Byte) (c : Nat) :
    (s.note code args).core c = s.core c := core_of_triad (State.note_triad ..) c
@[simp] theorem pins_core (s : State) (c : Nat) : s.pins.core c = s.core c := core_of_triad s.pins_triad c

@[simp] theorem core_setCore_self (s : State) (c : Nat) (x : Core) : (s.setCore c x).core c = x :=
  Tab.get_set_self coreX s.triad.cores c x

theorem core_setCore_ne (s : State) {c d : Nat} (x : Core) (h : d ≠ c) :
    (s.setCore c x).core d = s.core d := Tab.get_set_ne coreX s.triad.cores x h

theorem members_of_slot {s t : State} (h : ∀ c, (t.core c).slot = (s.core c).slot) :
    t.members = s.members := by
  simp only [State.members, h]

theorem runners_of_cores {s t : State} (h : t.triad.cores = s.triad.cores) : t.runners = s.runners := by
  simp only [State.runners, core_of_cores h]

/-! ### Modes (R363) -/

/-- A change of mode changes the mode alone of the triad. -/
theorem triTo_triad (s : State) (m : TriMode) (cause : Nat) :
    (s.triTo m cause).triad = { s.triad with mode := m } := by
  unfold State.triTo
  split
  · next h => rw [← h]
  · exact State.note_triad ..

/-- The mode that follows the running members: cores and resync stay. -/
theorem triUpdate_keeps (s : State) (cause : Nat) :
    (s.triUpdate cause).triad.cores = s.triad.cores ∧ (s.triUpdate cause).triad.resync = s.triad.resync := by
  have hto : ∀ (u : State) m, (u.triTo m cause).triad.cores = u.triad.cores ∧
      (u.triTo m cause).triad.resync = u.triad.resync := fun u m => by rw [triTo_triad]; exact ⟨rfl, rfl⟩
  unfold State.triUpdate
  dsimp only
  split
  · exact ⟨rfl, rfl⟩
  split
  · exact hto ..
  split
  · exact hto ..
  split
  · exact hto ..
  · exact hto ..

/-! ### Vacancies (R361) -/

/-- Only a fit core takes a slot. -/
theorem fillOne_cases (s : State) : s.fillOne = s ∨ ∃ k c, s.fit c = true ∧
    s.fillOne = s.setCore c { s.core c with slot := some k, running := false, ready := false, checks := 0 } := by
  unfold State.fillOne
  dsimp only
  split
  · next k c _ hc =>
    have hfit := List.find?_some hc
    exact .inr ⟨k, c, (Bool.and_eq_true_iff.1 hfit).1, rfl⟩
  · exact .inl rfl

theorem fillOne_resync (s : State) : s.fillOne.triad.resync = s.triad.resync := by
  rcases fillOne_cases s with h | ⟨k, c, -, h⟩ <;> rw [h]; rfl

/-- Filling a vacancy retires no core and takes none back. -/
theorem fillOne_retired (s : State) (d : Nat) : (s.fillOne.core d).retired = (s.core d).retired := by
  rcases fillOne_cases s with h | ⟨k, c, -, h⟩ <;> rw [h]
  by_cases hd : d = c
  · rw [hd, core_setCore_self]
  · rw [core_setCore_ne _ _ hd]

theorem fillSlots_retired (s : State) (d : Nat) : (s.fillSlots.core d).retired = (s.core d).retired :=
  (fillOne_retired _ d).trans ((fillOne_retired _ d).trans (fillOne_retired s d))

/-- A retired core takes no slot. -/
theorem fillOne_core_retired {s : State} {d : Nat} (h : (s.core d).retired ≠ 0) :
    s.fillOne.core d = s.core d := by
  rcases fillOne_cases s with hsame | ⟨k, c, hfit, hset⟩
  · rw [hsame]
  · have hne : d ≠ c := by
      rintro rfl
      simp [State.fit, h] at hfit
    rw [hset, core_setCore_ne _ _ hne]

/-! ### The count of retirements -/

/-- How many cores have been retired (R390). -/
def State.retirements (s : State) : Nat := Tab.get 0 s.tly.live (tlTriad 10)

theorem retirements_of_tly {s t : State} (h : t.tly = s.tly) : t.retirements = s.retirements := by
  rw [State.retirements, h, State.retirements]

theorem only_retirements {s t : State} {l : List Part} (h : t.onlyChanges s l) (hl : Part.tallies ∉ l) :
    t.retirements = s.retirements := retirements_of_tly (h.2 .tallies hl)

theorem count_retirements (s : State) {k : Nat} (h : tlTriad 10 ≠ k) :
    (s.count k).retirements = s.retirements := count_tally s k 1 _ h

theorem note_retirements (s : State) (code : Nat) (args : List Byte) :
    (s.note code args).retirements = s.retirements := note_tally s code args _ (by decide) (by decide)

/-- A seed that hits counts its hits (R564, R568). -/
theorem seedHit_retirements (s : State) (x : Seed) : (s.seedHit x).1.retirements = s.retirements := by
  have hcount : (s.count (tlSec 13)).retirements = s.retirements := count_retirements s (by decide)
  unfold State.seedHit
  dsimp only
  split
  · split
    · exact hcount
    · exact (note_retirements ..).trans hcount
  · exact (note_retirements ..).trans hcount

theorem injectCan_retirements (s : State) (kind : Nat) (pred can : List Byte → Bool) :
    (s.injectCan kind pred can).2.retirements = s.retirements := by
  unfold State.injectCan
  dsimp only
  refine foldl_keeps (fun acc : List Seed × List (List Byte) × State => acc.2.2.retirements) _ ?_ _ _
  intro acc x
  split
  · split
    · rfl
    split
    · split
      · exact count_retirements _ (by decide)
      · rfl
    · exact seedHit_retirements ..
  · rfl

/-- A choice between two states that count alike. -/
theorem ite_retirements {c : Prop} [Decidable c] {s t u : State} (ht : t.retirements = s.retirements)
    (hu : u.retirements = s.retirements) : (if c then t else u).retirements = s.retirements := by
  split
  · exact ht
  · exact hu

theorem epochSend_retirements (s : State) : s.epochSend.retirements = s.retirements := by
  have hinject : (s.inject 8 fun _ => true).2.retirements = s.retirements := injectCan_retirements ..
  unfold State.epochSend
  extract_lets h e r u f n v e₁ e₂
  have hv : v.retirements = s.retirements := ite_retirements hinject hinject
  exact ite_retirements hv hv

theorem mirrorCheck_retirements (s : State) : s.mirrorCheck.retirements = s.retirements :=
  ite_retirements rfl (note_retirements ..)

theorem seal_retirements (s : State) : s.seal.retirements = s.retirements := by
  unfold State.seal
  refine ite_retirements rfl (ite_retirements rfl ?_)
  exact (mirrorCheck_retirements _).trans ((count_retirements _ (by decide)).trans (epochSend_retirements _))

theorem triTo_retirements (s : State) (m : TriMode) (cause : Nat) :
    (s.triTo m cause).retirements = s.retirements := ite_retirements rfl (note_retirements ..)

theorem triUpdate_retirements (s : State) (cause : Nat) :
    (s.triUpdate cause).retirements = s.retirements := by
  unfold State.triUpdate
  refine ite_retirements rfl (ite_retirements ?_ (ite_retirements ?_ (ite_retirements ?_ ?_)))
  all_goals exact triTo_retirements ..

/-! ### Tasks that begin or are dropped (R364 to R366) -/

/-- From `s` to `t` tasks have begun or been dropped at most: core `c`, a resync in progress and the count
of retirements are as they were. -/
structure State.passesBy (t s : State) (c : Nat) : Prop where
  core : t.core c = s.core c
  resync : t.triad.resync = s.triad.resync
  retirements : t.retirements = s.retirements

theorem passesBy_refl (s : State) (c : Nat) : s.passesBy s c := ⟨rfl, rfl, rfl⟩

theorem State.passesBy.trans {s t u : State} {c : Nat} (h : u.passesBy t c) (k : t.passesBy s c) :
    u.passesBy s c :=
  ⟨h.core.trans k.core, h.resync.trans k.resync, h.retirements.trans k.retirements⟩

theorem passesBy_of_triad {s t : State} (c : Nat) (h : t.triad = s.triad)
    (hcount : t.retirements = s.retirements) : t.passesBy s c :=
  ⟨core_of_triad h c, congrArg Triad.resync h, hcount⟩

theorem count_passesBy {s u : State} {c : Nat} (h : u.passesBy s c) {k : Nat} (hk : tlTriad 10 ≠ k) :
    (u.count k).passesBy s c :=
  (passesBy_of_triad c (State.count_triad u k) (count_retirements u hk)).trans h

theorem note_passesBy {s u : State} {c : Nat} (h : u.passesBy s c) (code : Nat) (args : List Byte) :
    (u.note code args).passesBy s c :=
  (passesBy_of_triad c (State.note_triad ..) (note_retirements ..)).trans h

/-- Other fields of the triad are not looked at. -/
theorem passesBy_set_triad {s u : State} {c : Nat} (h : u.passesBy s c) (x : Triad)
    (hcores : x.cores = u.triad.cores) (hresync : x.resync = u.triad.resync) :
    ({ u with triad := x } : State).passesBy s c :=
  State.passesBy.trans ⟨core_of_cores hcores c, hresync, rfl⟩ h

theorem triUpdate_passesBy (s : State) (cause c : Nat) : (s.triUpdate cause).passesBy s c :=
  have ⟨hcores, hresync⟩ := triUpdate_keeps s cause
  ⟨core_of_cores hcores c, hresync, triUpdate_retirements s cause⟩

/-- Only ready cores join. -/
theorem joinReady_passesBy {s : State} {c : Nat} (h : (s.core c).ready = false) :
    s.joinReady.passesBy s c := by
  refine (triUpdate_passesBy ..).trans ?_
  refine List.foldlRecOn (motive := fun u : State => u.passesBy s c) _ _ (passesBy_refl s c)
    fun u hu d _ => ?_
  split
  · next hready =>
    have hne : c ≠ d := by
      rintro rfl
      rw [hu.core, h] at hready
      contradiction
    exact State.passesBy.trans ⟨core_setCore_ne _ _ hne, rfl, rfl⟩ hu
  · exact hu

theorem overrun_passesBy (s : State) (r : Release) (c : Nat) : (s.overrun r).passesBy s c := by
  have hheld : (s.holdSnaps r).passesBy s c := passesBy_set_triad (passesBy_refl s c) _ rfl rfl
  rw [State.overrun, State.breach]
  exact note_passesBy (count_passesBy hheld (by decide)) ..

theorem begin_passesBy {s : State} {c : Nat} (r : Release) (h : (s.core c).ready = false) :
    (s.begin r).passesBy s c := by
  have hseal : s.seal.passesBy s c :=
    passesBy_of_triad c ((State.seal_touch s).2 .triad (by decide)) (seal_retirements s)
  have hjoin : s.seal.joinReady.passesBy s c :=
    (joinReady_passesBy (by rw [hseal.core, h])).trans hseal
  have hshow : ∀ (u : State) l, (u.showSnaps l).passesBy u c := fun u l =>
    passesBy_of_triad c ((State.showSnaps_touch u l).2 .triad (by decide))
      (only_retirements (State.showSnaps_touch u l) (by decide))
  simp only [State.begin]
  generalize s.seal.joinReady = u at hjoin ⊢
  exact passesBy_set_triad ((hshow ..).trans hjoin) _ rfl rfl

/-- The tasks waiting begin or are dropped. -/
theorem nextTask_passesBy {s : State} {c : Nat} (h : (s.core c).ready = false) :
    s.nextTask.passesBy s c := by
  refine List.foldlRecOn (motive := fun u : State => u.passesBy s c) _ _ (passesBy_refl s c)
    fun u hu r _ => ?_
  have htaken := passesBy_set_triad hu { u.triad with queue := u.triad.queue.drop 1 } rfl rfl
  have hready := (congrArg Core.ready htaken.core).trans h
  split
  · exact hu
  · dsimp only
    generalize ({ u with triad := { u.triad with queue := u.triad.queue.drop 1 } } : State) = v
      at htaken hready ⊢
    split
    · exact (overrun_passesBy v r c).trans htaken
    · split
      · exact (begin_passesBy r hready).trans htaken
      · have hheld : (v.holdSnaps r).passesBy s c := passesBy_set_triad htaken _ rfl rfl
        exact count_passesBy hheld (by decide)

theorem stopLone_passesBy (s : State) (c : Nat) : s.stopLone.passesBy s c := by
  unfold State.stopLone
  split
  · exact passesBy_set_triad (passesBy_refl s c) _ rfl rfl
  · exact passesBy_refl s c

theorem fillOne_passesBy {s : State} {c : Nat} (h : (s.core c).retired ≠ 0) : s.fillOne.passesBy s c :=
  ⟨fillOne_core_retired h, fillOne_resync s, only_retirements (State.fillOne_touch s) (by decide)⟩

/-- A vacancy is not filled by a retired core. -/
theorem fillSlots_passesBy {s : State} {c : Nat} (h : (s.core c).retired ≠ 0) :
    s.fillSlots.passesBy s c := by
  have h1 := fillOne_passesBy h
  have h2 := (fillOne_passesBy (s := s.fillOne) (by rwa [h1.core])).trans h1
  exact (fillOne_passesBy (by rwa [h2.core])).trans h2

/-! ### Retirement (R379, R380) -/

/-- A core as its retirement leaves it. -/
def Core.out (x : Core) (cause : Nat) : Core :=
  { x with retired := cause, slot := none, running := false, ready := false, checks := 0, misses := [] }

theorem coreOut_of_no_resync {s : State} (c : Nat) (h : s.triad.resync = none) : s.coreOut c =
    s.setCore c { s.core c with slot := none, running := false, ready := false, checks := 0 } := by
  simp only [State.coreOut]
  split
  · next r hr =>
    rw [State.setCore, h] at hr
    contradiction
  · rfl

/-- A core retired while no resync is in progress. -/
theorem retireCore_retires {s : State} {c cause : Nat} (hfit : (s.core c).retired = 0) (hcause : cause ≠ 0)
    (hresync : s.triad.resync = none) :
    (s.retireCore c cause).core c = (s.core c).out cause ∧ (s.retireCore c cause).triad.resync = none ∧
      (s.retireCore c cause).retirements = min tlyMax (s.retirements + 1) := by
  unfold State.retireCore
  rw [if_neg (not_not.2 hfit)]
  dsimp only
  rw [coreOut_of_no_resync c hresync, core_setCore_self]
  generalize hu : (s.setCore c _).setCore c _ = u
  have hcore : u.core c = (s.core c).out cause := by rw [← hu, core_setCore_self]; rfl
  have hfill : u.fillSlots.passesBy u c := fillSlots_passesBy (by rw [hcore]; exact hcause)
  have hfree : u.fillSlots.triad.resync = none := hfill.resync.trans (hu ▸ hresync)
  have hcount : (u.fillSlots.count (tlTriad 10)).retirements = min tlyMax (s.retirements + 1) :=
    (count_self ..).trans (congrArg (fun n => min tlyMax (n + 1)) (hfill.retirements.trans (hu ▸ rfl)))
  generalize hv : u.fillSlots.count (tlTriad 10) = v at hcount ⊢
  generalize le 1 c ++ _ ++ _ = args
  have hvc : v.core c = (s.core c).out cause := by
    rw [← hv, count_core]
    exact hfill.core.trans hcore
  have hend : ((v.note (ev 11 3) args).stopLone.triUpdate 3).nextTask.passesBy v c := by
    have hlone := (stopLone_passesBy _ c).trans (note_passesBy (passesBy_refl v c) (ev 11 3) args)
    have hmode := (triUpdate_passesBy _ 3 c).trans hlone
    exact (nextTask_passesBy (by rw [hmode.core, hvc]; rfl)).trans hmode
  exact ⟨hend.core.trans hvc, hend.resync.trans (hv ▸ hfree), hend.retirements.trans hcount⟩

/-- A retirement as its row leaves it, the pins up to date. -/
theorem pins_retireCore {s : State} {c cause : Nat} (hfit : (s.core c).retired = 0) (hcause : cause ≠ 0)
    (hresync : s.triad.resync = none) : let t := (s.retireCore c cause).pins
    t.triad.resync = none ∧ t.core c = (s.core c).out cause ∧
      Tab.get 0 t.tly.live (tlTriad 10) = min tlyMax (Tab.get 0 s.tly.live (tlTriad 10) + 1) := by
  obtain ⟨hcore, hnone, hcount⟩ := retireCore_retires hfit hcause hresync
  exact ⟨(congrArg Triad.resync (State.pins_triad _)).trans hnone, (pins_core ..).trans hcore,
    (retirements_of_tly (State.pins_tly _)).trans hcount⟩

end Sys2Proof.Machine

/-! SUPPORT. Chapter 11, the repair of the triad: resync (R375 to R380), assay (R383, R384), its status and
its restart (R389, R523). -/

namespace Sys2Proof.Machine

/-- What is counted and then reported stands in its tally. -/
theorem counted_tally (s : State) {k : Nat} (code : Nat) (args : List Byte) (h5 : k ≠ tlFeed 5)
    (h6 : k ≠ tlFeed 6) : Tab.get 0 ((s.count k).note code args).pins.tly.live k =
      min tlyMax (Tab.get 0 s.tly.live k + 1) := by
  rw [State.pins_tly, note_tally _ _ _ _ h5 h6, count_self]

/-! ### Resync (R375 to R380) -/

theorem resyncStart_begins {s : State} {c src : Nat} {l : List Nat} (hnow : s.resyncNow = true)
    (hidle : s.triad.mode ≠ .idle) (hsilent : s.triad.mode ≠ .silent) (hc : s.awaiting = some c)
    (hrun : s.runners = src :: l) : s.resyncStart = { s with triad := { s.triad with
      resync := some { core := c, source := src, began := s.now } } } := by
  simp [State.resyncStart, hnow, hidle, hsilent, hc, hrun]

theorem resyncStart_idle {s : State}
    (h : ¬(s.resyncNow = true ∧ s.triad.mode ≠ .idle ∧ s.triad.mode ≠ .silent) ∨ s.awaiting = none ∨
      s.runners = []) : s.resyncStart = s := by
  unfold State.resyncStart
  rcases h with hok | hnone | hnone
  · refine if_pos ?_
    simpa [imp_iff_not_or, or_assoc] using hok
  all_goals
    rw [hnone]
    simp

/-- A resync that a failed check has ended. -/
def State.failedCheck (s : State) (r : Resync) : State :=
  s.endResync.setCore r.core { s.core r.core with checks := (s.core r.core).checks + 1 }

section
variable {s : State} {r : Resync} (dt : Nat) (hr : s.triad.resync = some r)

include hr

/-- The resynced core with its source's memories, ready, no resync in progress. -/
theorem execTriadResync_running : ∃ args, exec (.triadResync dt) s =
    go ((((s.elapse dt).endResync.setCore r.core { s.core r.core with
      ready := true, checks := 0, itcm := (s.core r.source).itcm, dtcm := (s.core r.source).dtcm }).count
        (tlTriad 8)).note (ev 11 2) args) := by
  simp only [exec, execTriadResync, State.elapse_triad, hr]
  exact ⟨_, rfl⟩

theorem execResyncCheckFail_first (h : (s.core r.core).checks = 0) :
    exec (.resyncCheckFail dt) s = go ((s.elapse dt).failedCheck r) := by
  simp only [exec, execResyncCheckFail, State.elapse_triad, hr]
  exact congrArg go (if_neg (by simp [h]))

theorem execResyncCheckFail_again (h : (s.core r.core).checks ≠ 0) :
    exec (.resyncCheckFail dt) s = go (((s.elapse dt).failedCheck r).retireCore r.core 3) := by
  simp only [exec, execResyncCheckFail, State.elapse_triad, hr]
  exact congrArg go (if_pos (Nat.one_le_iff_ne_zero.2 h))

theorem execResyncSelftestFail_running : exec (.resyncSelftestFail dt) s =
    go ((s.elapse dt).endResync.retireCore r.core 2) := by
  simp only [exec, execResyncSelftestFail, State.elapse_triad, hr]

end

/-- Without a resync in progress its rows let their time pass. -/
theorem exec_resync_idle {s : State} (dt : Nat) (hr : s.triad.resync = none) :
    ∀ c ∈ [Instr.triadResync dt, .resyncCheckFail dt, .resyncSelftestFail dt],
      exec c s = go (s.elapse dt) := by
  have hdone : execTriadResync dt s = go (s.elapse dt) := by
    simp only [execTriadResync, State.elapse_triad, hr]
  have hcheck : execResyncCheckFail dt s = go (s.elapse dt) := by
    simp only [execResyncCheckFail, State.elapse_triad, hr]
  have htest : execResyncSelftestFail dt s = go (s.elapse dt) := by
    simp only [execResyncSelftestFail, State.elapse_triad, hr]
  exact List.forall_mem_cons.2 ⟨hdone, List.forall_mem_cons.2 ⟨hcheck, List.forall_mem_singleton.2 htest⟩⟩

/-! ### Assay (R383, R384) -/

/-- The check whose turn it is has failed: it passes no assay yet, and a running task is unguarded. -/
def State.missedAssay (s : State) : State :=
  let k := s.nextCheck s.triad.assayIx
  { s with triad := { s.triad with
      assayIx := k, assayAt := 3 * s.now / 5120 * 5120
      failed := (k, 0) :: s.triad.failed.filter fun y => decide (y.1 ≠ k)
      running := s.triad.running.map fun (t : Running) => { t with unguarded := true } } }

section
variable {s : State}

theorem assay_early {rep : Bool} (h : 3 * s.now / 5120 * 5120 ≤ s.triad.assayAt) : s.assay rep = s := if_pos h

variable (hdue : s.triad.assayAt < 3 * s.now / 5120 * 5120)

include hdue

theorem assay_missed : s.assay false = (s.missedAssay.count (tlTriad 11)).note (ev 11 4)
    (le 1 (s.nextCheck s.triad.assayIx) ++ le 1 0) := by
  rw [State.assay]
  exact if_neg (Nat.not_le.2 hdue)

theorem assay_passed (hfailed : ∀ x ∈ s.triad.failed, x.1 ≠ s.nextCheck s.triad.assayIx) :
    s.assay true = { s with triad := { s.triad with
      assayIx := s.nextCheck s.triad.assayIx, assayAt := 3 * s.now / 5120 * 5120 } } := by
  have hnone : s.triad.failed.find? (·.1 = s.nextCheck s.triad.assayIx) = none :=
    List.find?_eq_none.2 fun x hx => by simpa using hfailed x hx
  simp only [State.assay, if_neg (Nat.not_le.2 hdue), if_true, hnone]

end

/-! ### MB_TRIAD_RESTART and MB_TRIAD_STATUS (R389, R523) -/

theorem cmdTriadRestart_accepted {s : State} (b : List Byte) (hsilent : s.triad.mode = .silent)
    (htwo : 2 ≤ (allCores.filter s.fit).length) : cmdTriadRestart.run b s =
      ans stOk [] { s with triad := { s.triad with restart := true } } := by
  simp [cmdTriadRestart, hsilent, htwo]

theorem cmdTriadRestart_denied {s : State} (b : List Byte)
    (h : s.triad.mode ≠ .silent ∨ ¬ 2 ≤ (allCores.filter s.fit).length) :
    cmdTriadRestart.run b s = ans stDenied [] s := by
  rcases h with hmode | hfew
  · simp [cmdTriadRestart, hmode, refuse]
  · simp only [cmdTriadRestart, ge_iff_le, hfew, decide_false, Bool.and_false, Bool.false_eq_true, if_false,
      refuse]

/-- The answer of MB_TRIAD_STATUS (R523). -/
def State.triadBytes (s : State) : List Byte := (cmdTriadStatus.run [] s).body

theorem cmdTriadStatus_run (s : State) (b : List Byte) : cmdTriadStatus.run b s = ans stOk s.triadBytes s := rfl

theorem slice_skip (v : Nat) (l : List Byte) (o n : Nat) : slice (le 1 v ++ l) (o + 1) n = slice l o n := rfl

theorem fld_skip (v : Nat) (l : List Byte) (o n : Nat) : fld (le 1 v ++ l) (o + 1) n = fld l o n := rfl

theorem triadBytes_fields (s : State) : let b := s.triadBytes
    fld b 0 1 = triNo s.triad.mode ∧ fld b 1 1 = s.slotCore 0 % 256 ∧
      fld b 7 1 = s.triad.queue.length % 256 ∧ fld b 8 1 = bnat (!s.triad.failed.isEmpty) ∧
      slice b 16 4 = allCores.map fun c => BitVec.ofNat 8 (s.core c).retired := by
  have hmode : triNo s.triad.mode % 256 ^ 1 = triNo s.triad.mode := by cases s.triad.mode <;> rfl
  have hfailed : bnat (!s.triad.failed.isEmpty) % 256 ^ 1 = bnat (!s.triad.failed.isEmpty) := by
    cases s.triad.failed.isEmpty <;> rfl
  simp only [State.triadBytes, cmdTriadStatus, ans, List.append_assoc, fld_skip, slice_skip, fld_le]
  refine ⟨hmode, rfl, rfl, hfailed, ?_⟩
  rw [slice_append_right (by simp), slice_append_right (by simp [allCores]),
    slice_append_left (by simp [allCores])]
  exact slice_all _ (by simp [allCores])

/-! ### The restart's load (R389) -/

/-- A core loaded with the images of a parison, running. -/
def Core.load (x : Core) (p : Par) : Core :=
  { x with itcm := p.imgI, dtcm := memOf p.imgD, running := true, ready := false, checks := 0 }

/-- Every fit member is loaded, and no other core. -/
theorem loadAll_core (s : State) (p : Par) (c : Nat) : (s.loadAll p).core c =
    if c ∈ s.members.filter s.fit then (s.core c).load p else s.core c := by
  unfold State.loadAll
  generalize s.members.filter s.fit = l
  induction l generalizing s with
  | nil => rfl
  | cons d l ih =>
    rw [List.foldl_cons, ih]
    by_cases hd : c = d
    · subst hd
      simp [State.loadCore, Core.load]
    · simp [State.loadCore, core_setCore_ne _ _ hd, hd]

theorem loadAll_slot (s : State) (p : Par) (c : Nat) : ((s.loadAll p).core c).slot = (s.core c).slot := by
  rw [loadAll_core]
  split
  · rfl
  · rfl

theorem fillSlots_fit (s : State) (c : Nat) : s.fillSlots.fit c = s.fit c := by
  simp only [State.fit, fillSlots_retired, only_hasDom (State.fillSlots_touch s) (by decide)]

/-- The triad of two or more fit cores as its restart loads it. -/
def State.restarted (s : State) (p : Par) : State :=
  let v := s.fillSlots.loadAll p
  { v with triad := { v.triad with restart := false, lack := false } }

theorem restarted_core (s : State) (p : Par) (c : Nat) :
    (s.restarted p).core c = (s.fillSlots.loadAll p).core c := by
  unfold State.restarted
  generalize s.fillSlots.loadAll p = v
  rfl

theorem restarted_loads {s : State} {p : Par} {c : Nat} (hc : c ∈ (s.restarted p).members)
    (hfit : s.fit c = true) : ∃ x, (s.restarted p).core c = Core.load x p := by
  have hmembers : (s.restarted p).members = s.fillSlots.members := members_of_slot fun d => by
    rw [restarted_core, loadAll_slot]
  have hloaded : c ∈ s.fillSlots.members.filter s.fillSlots.fit :=
    List.mem_filter.2 ⟨hmembers ▸ hc, (fillSlots_fit s c).trans hfit⟩
  exact ⟨_, by rw [restarted_core, loadAll_core, if_pos hloaded]⟩

/-- The mode that the cores loaded give. -/
def State.loadedMode (s : State) : TriMode := if s.runners.length ≥ 3 then .triplex else .duplex

/-- The restart's load as its row leaves it, the pins up to date. -/
theorem pins_restarted {s : State} {p : Par} :
    let t := ((s.restarted p).triTo (s.restarted p).loadedMode 5).pins
    t.triad.restart = false ∧ (t.triad.mode = .triplex ∨ t.triad.mode = .duplex) ∧
      (t.triad.mode = .triplex ↔ 3 ≤ t.runners.length) ∧
      ∀ c, c ∈ t.members → s.fit c = true → ∃ x, t.core c = Core.load x p := by
  intro t
  have hidle : (s.restarted p).triad.restart = false := rfl
  have hloads : ∀ c, c ∈ (s.restarted p).members → s.fit c = true → _ := fun _ => restarted_loads
  have htriad : t.triad = { (s.restarted p).triad with mode := (s.restarted p).loadedMode } :=
    (State.pins_triad _).trans (triTo_triad ..)
  clear_value t
  generalize s.restarted p = v at hidle hloads htriad
  have hcores : t.triad.cores = v.triad.cores := by rw [htriad]
  have hcore := core_of_cores hcores
  rw [runners_of_cores hcores, members_of_slot (t := t) (s := v) fun c => by rw [hcore], htriad]
  refine ⟨hidle, ?_, ?_, fun c hc hfit => hcore c ▸ hloads c hc hfit⟩
  · unfold State.loadedMode
    split <;> simp
  · unfold State.loadedMode
    split <;> simp_all

section
variable {s : State} {p : Par} (hp : s.par.force = some p)

include hp

theorem restartLoad_loads (hrestart : s.triad.restart = true) (hsilent : s.triad.mode = .silent)
    (hnow : s.resyncNow = true) (htwo : 2 ≤ (allCores.filter s.fit).length) :
    s.restartLoad = (s.restarted p).triTo (s.restarted p).loadedMode 5 := by
  simp only [State.restartLoad, hp, hrestart, hsilent, hnow, htwo, ge_iff_le, decide_true, Bool.and_self, if_true]
  rfl

theorem restartLoad_idle (h : ¬(s.triad.restart = true ∧ s.triad.mode = .silent ∧ s.resyncNow = true ∧
    2 ≤ (allCores.filter s.fit).length)) : s.restartLoad = s := by
  simp only [State.restartLoad, hp]
  refine if_neg fun hok => h ?_
  simpa [and_assoc] using hok

end

/-! ### The obligation -/

/-- Settles O49: a resync and its failures by what they leave of their core, a retirement with the tasks that
begin after it passing by that core and its count; an assay by its turn; the restart's load core by core. -/
theorem triadRepairsItself : Obligations.TriadRepairsItself := by
  refine ⟨fun s dt => ⟨?_, fun h => exec_idle (congrArg go (resyncStart_idle h))⟩,
    fun s dt r hr => ⟨?_, fun hchecks => ?_, fun hchecks hfit => ?_, fun hfit => ?_⟩,
    fun s dt hr c hc => exec_idle (exec_resync_idle dt hr c hc),
    fun s dt rep => ⟨fun hearly => exec_idle (congrArg go (assay_early hearly)), ?_, ?_⟩,
    fun s dt r hfree hplain hbody => ?_,
    fun s dt p hp => ⟨?_, fun h => exec_idle (congrArg go (restartLoad_idle hp h))⟩⟩
  · rintro c src l ⟨hnow, hidle, hsilent⟩ hc hrun
    have hbegin := resyncStart_begins (s := s.elapse dt) hnow hidle hsilent hc hrun
    exact ⟨_, congrArg go hbegin, State.pins_triad _, go_only (only_set_triad _ (only_refl _ _) rfl)⟩
  · obtain ⟨args, hrun⟩ := execTriadResync_running dt hr
    refine ⟨_, hrun, ?_, ?_, ?_, fun c hc => ?_, go_only (dt := dt) ?_⟩
    · rw [State.pins_triad, State.note_triad]
      rfl
    · exact counted_tally _ _ _ (by decide) (by decide)
    · simp
    · simp [core_setCore_ne _ _ hc]
    · exact only_step (only_step (only_step (only_sub (State.endResync_touch _) rfl)
        (State.setCore_touch ..)) (State.count_touch ..)) (State.note_touch ..)
  · refine ⟨_, execResyncCheckFail_first dt hr hchecks, congrArg Triad.resync (State.pins_triad _), ?_,
      fun c hc => ?_, go_only (dt := dt) ?_⟩
    · simp [State.failedCheck, hchecks]
    · simp [State.failedCheck, core_setCore_ne _ _ hc]
    · exact only_step (State.endResync_touch _) (State.setCore_touch ..)
  · have hself : ((s.elapse dt).failedCheck r).core r.core = _ := core_setCore_self ..
    obtain ⟨hresync, hcore, hcount⟩ := pins_retireCore (s := (s.elapse dt).failedCheck r) (c := r.core)
      (cause := 3) (by rw [hself]; exact hfit) (by decide) rfl
    exact ⟨_, execResyncCheckFail_again dt hr hchecks, hresync, congrArg Core.retired hcore,
      congrArg Core.slot hcore, hcount⟩
  · obtain ⟨hresync, hcore, hcount⟩ := pins_retireCore (s := (s.elapse dt).endResync) (c := r.core)
      (cause := 2) hfit (by decide) rfl
    exact ⟨_, execResyncSelftestFail_running dt hr, hresync, congrArg Core.retired hcore,
      congrArg Core.slot hcore, congrArg Core.running hcore, hcount⟩
  · rintro hdue rfl
    have htriad : ∀ code args, (((s.elapse dt).missedAssay.count (tlTriad 11)).note code args).pins.triad =
        (s.elapse dt).missedAssay.triad := fun _ _ => (State.pins_triad _).trans (State.note_triad ..)
    refine ⟨_, congrArg go (assay_missed (s := s.elapse dt) hdue), congrArg Triad.assayIx (htriad ..),
      congrArg Triad.assayAt (htriad ..), ?_, fun x hx => ?_, counted_tally _ _ _ (by decide) (by decide),
      go_only (only_step (only_step (only_set_triad _ (only_refl _ _) rfl) (State.count_touch ..))
        (State.note_touch ..))⟩
    · rw [htriad]
      exact List.mem_cons_self
    · rw [htriad] at hx
      obtain ⟨y, -, rfl⟩ := Option.map_eq_some_iff.1 hx
      rfl
  · rintro hdue rfl hfailed
    exact ⟨_, congrArg go (assay_passed (s := s.elapse dt) hdue hfailed), State.pins_triad _,
      go_only (only_set_triad _ (only_refl _ _) rfl)⟩
  · have hshape : ∀ c : Cmd, c.shape = (fun b => b.isEmpty) → c.shape r.body = true := by
      intro c hc
      rw [hc, hbody]
      rfl
    refine ⟨fun hsilent htwo => ?_, fun h => ?_, ?_⟩
    · obtain ⟨t, hgo, hans, honly, rfl⟩ := mailbox_change s dt cmdTriadRestart r (.triad :: answerParts)
        (by decide) hfree hplain (hshape _ rfl) _ _ _ (cmdTriadRestart_accepted r.body hsilent htwo) (by decide)
        (only_set_triad _ (only_refl _ _) rfl)
      exact ⟨_, hgo, hans, (State.pins_triad _).trans (State.respond_triad ..), honly⟩
    · exact mailbox_read s dt cmdTriadRestart r (by decide) hfree hplain (hshape _ rfl) _ _
        (cmdTriadRestart_denied r.body h)
    · obtain ⟨t, hgo, hans, honly⟩ := mailbox_read s dt cmdTriadStatus r (by decide) hfree hplain
        (hshape _ rfl) _ _ (cmdTriadStatus_run _ r.body)
      obtain ⟨hmode, hslot, hqueue, hfailed, hretired⟩ :=
        triadBytes_fields ((s.elapse dt).writeReq cmdTriadStatus.op r)
      exact ⟨t, _, hgo, hans, hmode, hslot, hqueue, hfailed, hretired, honly⟩
  · rintro ⟨hrestart, hsilent, hnow, htwo⟩
    have hload := restartLoad_loads (s := s.elapse dt) hp hrestart hsilent hnow htwo
    obtain ⟨hidle, hmode, htriplex, hcores⟩ := pins_restarted (s := s.elapse dt) (p := p)
    refine ⟨_, congrArg go hload, hidle, hmode, htriplex, fun c hc hfit => ?_⟩
    obtain ⟨x, hx⟩ := hcores c hc hfit
    rw [hx]
    exact ⟨rfl, rfl, rfl⟩

end Sys2Proof.Machine

/-! SUPPORT. The block as a whole: what a step carries out, that every command answers, which parts it changes,
and the pins after it (R92, R393, R510). -/

namespace Sys2Proof.Machine

/-! ### A step -/

theorem step_front {c : Instr} {l : List Instr} {s : State} (h : s.pending = c :: l) :
    step s = exec c { s with pending := l } := by
  simp only [step, h]

theorem step_empty {s : State} (h : s.pending = []) : step s = go (s.elapse 1).holdsOver := by
  simp only [step, h, State.idle]

theorem holdsOver_of_nil {s : State} (h : s.seeds.holdUntil = []) : s.holdsOver = s := by
  have hsame : { s with seeds := { s.seeds with holdUntil := [] } } = s := by rw [← h]
  simp [State.holdsOver, h, hsame]

/-! ### Every command answers -/

/-- Every meaning ends with the pins brought up to date: most rows at once, the others on each branch of what
they decide first. -/
theorem exec_go (c : Instr) (s : State) : ∃ u, exec c s = go u := by
  cases c with
  | mbIdentify | doorbellAck | intStatusClear | intMaskWrite | portWindowPin | portWindowRelease | registerWrite
    | mbTallyRead | mbDaybookRead | mbParisonStage | mbParisonCommit | mbParisonActivate | parisonActivateCancel
    | mbActAt | mbMacConfig | mbMdio | mbLedgerRead | mbPortRead | mbPortWrite | mbPdRing | mbInaugConfig |
    mbInaugStatus | mbTimeConfig | mbTimeStatus | restepMaster | restepSet | mbCanWrite | mbCanRead |
    mbCanCancel | mbCanRecover | mbCanStatus | mbWakeConfig | sleepConsentStatus | voteReady | voteAwake |
    mbMeasRead | mbMeasWheel | mbTriadStatus | mbTriadRestart | mbTwinConfig | mbTwinStatus | mbTwinDrill |
    mbFeedStatus | mbLehrConfig | mbLehrReport | mbBridgeConfig | mbFlbRead | mbFlbWrite | mbDishonourRead |
    mbPinBehaviour | enrolGenerate | enrolCert | enrolReadCert | warrantChallenge | warrantStage | warrantApply
    | warrantClear | attestSign | attestRead | mbLinkPolicy | mbFwStage | mbFwSwap | mbSeedArm | mbSeedClear |
    nop | openGate | closeGate | publishPort | samplePort | canArm | sdCapture | tachLatch | dinSample |
    doutDrive | taskRelease | escrowSeal | tallySnap | mark | zeroCrossing | paceHoldEnd | crossingTimeout |
    coastingLimitExpiry | dcRuleExpiry | tachEdge | tachRejoin | frameReceive | ledgerRewriteComplete |
    sinkTimeout | frameTxEnd | hostRxComplete | hostTxFetchComplete | hostTxResume | msixHoldoffExpiry | linkUp
    | linkDown | helloSend | helloRx | helloLoss | topologyRx | settleExpiry | rebinding | syncRx | followUpRx |
    announceRx | pdelayReqRx | pdelayRespRx | pdelayRespFollowUpRx | signalingRx | delayReqRx | timeMessageDue |
    timeMessageDeparture | announceTimeout | frozenEnd | rtcWrite | tick125us | twinActTimeout | canCommitPoint
    | canArbitrationLost | canTxComplete | canFrameError | canFrameReceive | acquireRead | releaseWrite |
    consentVoteRx | consentCommitRx | consentAbortRx | soloFallback | wakePattern | wakeFrame | wakeFrameErr |
    wakePin | wakeAlarm | vkaLoss | sdFilterOutput | gridSample | energySave | taskEnd | taskDeadline |
    triadMismatch | resyncStart | assay | escrowSnapshot | epochReceive | heartbeatRx | boundaryJudgement |
    takeoverComplete | beaconRx | plannedSwitchover | takebackTimer | twinLane | feedWarn | feedWarnEnd |
    feedLoss | bothFeedsLost | feedReturnStart | returnAbandon | feedReturn | spineHandover | lehrRun |
    voltageConfirm | scrubPass | memUncorr | tellerRestartComplete | flbInboundRead | flbInboundWrite |
    flbFetchComplete | flbSlotExpiry | flbWriteDelivery | flbBusGrant | flbOutboundResponse | flbSideband |
    flbPoll | trafficStorePresentation | keyInitRx | keyRespRx | keyConfirmRx | keyDoneRx | keyNextRx |
    keyNextAckRx | keyAbortRx | vaultOperationComplete | keyingRetransmitTimeout | secTrng | drbgReseed |
    porstNAssert | porstNRelease | sysrstNAssert | sysrstNRelease | boot | seedFeedWarnEnd | flbLockRelease |
    wakeValid | feedGood | gafferWordRewrite | vaultRestart | triadRestartLoad | portWindowReady | blockLoss =>
    exact ⟨_, rfl⟩
  | mdioFrameComplete | tachSilenceTimeout | standstillTimeout | timeStrandResume | activation |
    parisonLoadComplete | coldStrandStart | pdFrameArrival | hrxDescriptorReread | hostTxPoll |
    relaySettleExpiry | fastModeExit | optrnApply | syncTimeout | restepSetBoundary | canRecoveryComplete |
    canBusJoin | sleepCommit | stayAwakeExpiry | latchedWakeRelease | tValidExpiry | sdStuck | sdRecovery |
    resyncSelftestFail | resyncCheckFail | triadResync | beaconSend | drillDwellExpiry | pairWaitExpiry |
    gafferRetireHandover | ledgerBankSwitch | pageSwap | flbOutboundTimeout | flbLock | keyingRetry | rekeyTimer
    | defaultParison | fwSwap | fwSwapComplete | fwRevert | seedEnd | backpressureHold | seedFeedWarnStart |
    tellerTakesFrame =>
    simp only [exec, execMdioFrameComplete, execTachSilenceTimeout, execStandstillTimeout, execTimeStrandResume,
      execActivation, execParisonLoadComplete, execColdStrandStart, execPdFrameArrival, execHrxDescriptorReread,
      execHostTxPoll, execRelaySettleExpiry, execFastModeExit, execOptrnApply, execSyncTimeout,
      execRestepSetBoundary, execCanRecoveryComplete, execCanBusJoin, execSleepCommit, execStayAwakeExpiry,
      execLatchedWakeRelease, execTValidExpiry, execSdStuck, execSdRecovery, execResyncSelftestFail,
      execResyncCheckFail, execTriadResync, execBeaconSend, execDrillDwellExpiry, execPairWaitExpiry,
      execGafferRetireHandover, execLedgerBankSwitch, execPageSwap, execFlbOutboundTimeout, execFlbLock,
      execKeyingRetry, execRekeyTimer, execDefaultParison, execFwSwap, execFwSwapComplete, execFwRevert,
      execSeedEnd, execBackpressureHold, execSeedFeedWarnStart, execTellerTakesFrame]
    repeat' split
    all_goals exact ⟨_, rfl⟩

theorem step_go (s : State) : ∃ u, step s = go u := by
  cases h : s.pending with
  | nil => exact ⟨_, step_empty h⟩
  | cons c l => exact step_front h ▸ exec_go c _

/-! ### What a command changes -/

theorem touched_sub {o : Out} {s : State} {a b : List Part} (h : touched o s a) (hi : partsIn a b = true) :
    touched o s b := fun t ht => only_sub (h t ht) hi

/-- Each row by the lemma of its own: what its meaning can change stands in the row's list. -/
theorem exec_touches (c : Instr) (s : State) : touched (exec c s) s (touches c) := by
  cases c with
  | mbIdentify => exact touched_sub (execMbIdentify_touch _ _ s) rfl
  | doorbellAck => exact touched_sub (execDoorbellAck_touch _ s) rfl
  | intStatusClear => exact touched_sub (execIntStatusClear_touch _ _ s) rfl
  | intMaskWrite => exact touched_sub (execIntMaskWrite_touch _ _ s) rfl
  | portWindowPin => exact touched_sub (execPortWindowPin_touch _ _ s) rfl
  | portWindowRelease => exact touched_sub (execPortWindowRelease_touch _ s) rfl
  | registerWrite => exact touched_sub (execRegisterWrite_touch _ _ _ s) rfl
  | mbTallyRead => exact touched_sub (execMbTallyRead_touch _ _ s) rfl
  | mbDaybookRead => exact touched_sub (execMbDaybookRead_touch _ _ s) rfl
  | mbParisonStage => exact touched_sub (execMbParisonStage_touch _ _ s) rfl
  | mbParisonCommit => exact touched_sub (execMbParisonCommit_touch _ _ s) rfl
  | mbParisonActivate => exact touched_sub (execMbParisonActivate_touch _ _ s) rfl
  | parisonActivateCancel => exact touched_sub (execParisonActivateCancel_touch _ _ s) rfl
  | mbActAt => exact touched_sub (execMbActAt_touch _ _ s) rfl
  | mbMacConfig => exact touched_sub (execMbMacConfig_touch _ _ s) rfl
  | mbMdio => exact touched_sub (execMbMdio_touch _ _ s) rfl
  | mdioFrameComplete => exact touched_sub (execMdioFrameComplete_touch _ _ _ _ s) rfl
  | mbLedgerRead => exact touched_sub (execMbLedgerRead_touch _ _ s) rfl
  | mbPortRead => exact touched_sub (execMbPortRead_touch _ _ s) rfl
  | mbPortWrite => exact touched_sub (execMbPortWrite_touch _ _ s) rfl
  | mbPdRing => exact touched_sub (execMbPdRing_touch _ _ s) rfl
  | mbInaugConfig => exact touched_sub (execMbInaugConfig_touch _ _ s) rfl
  | mbInaugStatus => exact touched_sub (execMbInaugStatus_touch _ _ s) rfl
  | mbTimeConfig => exact touched_sub (execMbTimeConfig_touch _ _ s) rfl
  | mbTimeStatus => exact touched_sub (execMbTimeStatus_touch _ _ s) rfl
  | restepMaster => exact touched_sub (execRestepMaster_touch _ _ s) rfl
  | restepSet => exact touched_sub (execRestepSet_touch _ _ s) rfl
  | mbCanWrite => exact touched_sub (execMbCanWrite_touch _ _ s) rfl
  | mbCanRead => exact touched_sub (execMbCanRead_touch _ _ s) rfl
  | mbCanCancel => exact touched_sub (execMbCanCancel_touch _ _ s) rfl
  | mbCanRecover => exact touched_sub (execMbCanRecover_touch _ _ s) rfl
  | mbCanStatus => exact touched_sub (execMbCanStatus_touch _ _ s) rfl
  | mbWakeConfig => exact touched_sub (execMbWakeConfig_touch _ _ s) rfl
  | sleepConsentStatus => exact touched_sub (execSleepConsentStatus_touch _ _ s) rfl
  | voteReady => exact touched_sub (execVoteReady_touch _ _ s) rfl
  | voteAwake => exact touched_sub (execVoteAwake_touch _ _ s) rfl
  | mbMeasRead => exact touched_sub (execMbMeasRead_touch _ _ s) rfl
  | mbMeasWheel => exact touched_sub (execMbMeasWheel_touch _ _ s) rfl
  | mbTriadStatus => exact touched_sub (execMbTriadStatus_touch _ _ s) rfl
  | mbTriadRestart => exact touched_sub (execMbTriadRestart_touch _ _ s) rfl
  | mbTwinConfig => exact touched_sub (execMbTwinConfig_touch _ _ s) rfl
  | mbTwinStatus => exact touched_sub (execMbTwinStatus_touch _ _ s) rfl
  | mbTwinDrill => exact touched_sub (execMbTwinDrill_touch _ _ s) rfl
  | mbFeedStatus => exact touched_sub (execMbFeedStatus_touch _ _ s) rfl
  | mbLehrConfig => exact touched_sub (execMbLehrConfig_touch _ _ s) rfl
  | mbLehrReport => exact touched_sub (execMbLehrReport_touch _ _ s) rfl
  | mbBridgeConfig => exact touched_sub (execMbBridgeConfig_touch _ _ s) rfl
  | mbFlbRead => exact touched_sub (execMbFlbRead_touch _ _ s) rfl
  | mbFlbWrite => exact touched_sub (execMbFlbWrite_touch _ _ s) rfl
  | mbDishonourRead => exact touched_sub (execMbDishonourRead_touch _ _ s) rfl
  | mbPinBehaviour => exact touched_sub (execMbPinBehaviour_touch _ _ s) rfl
  | enrolGenerate => exact touched_sub (execEnrolGenerate_touch _ _ s) rfl
  | enrolCert => exact touched_sub (execEnrolCert_touch _ _ s) rfl
  | enrolReadCert => exact touched_sub (execEnrolReadCert_touch _ _ s) rfl
  | warrantChallenge => exact touched_sub (execWarrantChallenge_touch _ _ s) rfl
  | warrantStage => exact touched_sub (execWarrantStage_touch _ _ s) rfl
  | warrantApply => exact touched_sub (execWarrantApply_touch _ _ s) rfl
  | warrantClear => exact touched_sub (execWarrantClear_touch _ _ s) rfl
  | attestSign => exact touched_sub (execAttestSign_touch _ _ s) rfl
  | attestRead => exact touched_sub (execAttestRead_touch _ _ s) rfl
  | mbLinkPolicy => exact touched_sub (execMbLinkPolicy_touch _ _ s) rfl
  | mbFwStage => exact touched_sub (execMbFwStage_touch _ _ s) rfl
  | mbFwSwap => exact touched_sub (execMbFwSwap_touch _ _ s) rfl
  | mbSeedArm => exact touched_sub (execMbSeedArm_touch _ _ s) rfl
  | mbSeedClear => exact touched_sub (execMbSeedClear_touch _ _ s) rfl
  | nop => exact touched_sub (execNop_touch _ _ s) rfl
  | openGate => exact touched_sub (execOpenGate_touch _ _ s) rfl
  | closeGate => exact touched_sub (execCloseGate_touch _ _ s) rfl
  | publishPort => exact touched_sub (execPublishPort_touch _ _ s) rfl
  | samplePort => exact touched_sub (execSamplePort_touch _ _ s) rfl
  | canArm => exact touched_sub (execCanArm_touch _ _ s) rfl
  | sdCapture => exact touched_sub (execSdCapture_touch _ _ s) rfl
  | tachLatch => exact touched_sub (execTachLatch_touch _ _ s) rfl
  | dinSample => exact touched_sub (execDinSample_touch _ _ s) rfl
  | doutDrive => exact touched_sub (execDoutDrive_touch _ _ s) rfl
  | taskRelease => exact touched_sub (execTaskRelease_touch _ _ s) rfl
  | escrowSeal => exact touched_sub (execEscrowSeal_touch _ _ s) rfl
  | tallySnap => exact touched_sub (execTallySnap_touch _ _ s) rfl
  | mark => exact touched_sub (execMark_touch _ _ s) rfl
  | zeroCrossing => exact touched_sub (execZeroCrossing_touch _ _ s) rfl
  | paceHoldEnd => exact touched_sub (execPaceHoldEnd_touch _ s) rfl
  | crossingTimeout => exact touched_sub (execCrossingTimeout_touch _ s) rfl
  | coastingLimitExpiry => exact touched_sub (execCoastingLimitExpiry_touch _ s) rfl
  | dcRuleExpiry => exact touched_sub (execDcRuleExpiry_touch _ s) rfl
  | tachEdge => exact touched_sub (execTachEdge_touch _ _ _ _ s) rfl
  | tachRejoin => exact touched_sub (execTachRejoin_touch _ _ s) rfl
  | tachSilenceTimeout => exact touched_sub (execTachSilenceTimeout_touch _ _ s) rfl
  | standstillTimeout => exact touched_sub (execStandstillTimeout_touch _ s) rfl
  | timeStrandResume => exact touched_sub (execTimeStrandResume_touch _ s) rfl
  | activation => exact touched_sub (execActivation_touch _ s) rfl
  | parisonLoadComplete => exact touched_sub (execParisonLoadComplete_touch _ s) rfl
  | coldStrandStart => exact touched_sub (execColdStrandStart_touch _ s) rfl
  | frameReceive => exact touched_sub (execFrameReceive_touch _ _ s) rfl
  | ledgerRewriteComplete => exact touched_sub (execLedgerRewriteComplete_touch _ _ _ s) rfl
  | pdFrameArrival => exact touched_sub (execPdFrameArrival_touch _ s) rfl
  | sinkTimeout => exact touched_sub (execSinkTimeout_touch _ _ s) rfl
  | frameTxEnd => exact touched_sub (execFrameTxEnd_touch _ _ s) rfl
  | hrxDescriptorReread => exact touched_sub (execHrxDescriptorReread_touch _ _ _ s) rfl
  | hostRxComplete => exact touched_sub (execHostRxComplete_touch _ _ s) rfl
  | hostTxPoll => exact touched_sub (execHostTxPoll_touch _ _ _ s) rfl
  | hostTxFetchComplete => exact touched_sub (execHostTxFetchComplete_touch _ _ _ s) rfl
  | hostTxResume => exact touched_sub (execHostTxResume_touch _ s) rfl
  | msixHoldoffExpiry => exact touched_sub (execMsixHoldoffExpiry_touch _ _ s) rfl
  | linkUp => exact touched_sub (execLinkUp_touch _ _ _ s) rfl
  | linkDown => exact touched_sub (execLinkDown_touch _ _ _ s) rfl
  | relaySettleExpiry => exact touched_sub (execRelaySettleExpiry_touch _ _ s) rfl
  | helloSend => exact touched_sub (execHelloSend_touch _ _ s) rfl
  | helloRx => exact touched_sub (execHelloRx_touch _ _ _ _ _ s) rfl
  | helloLoss => exact touched_sub (execHelloLoss_touch _ _ s) rfl
  | topologyRx => exact touched_sub (execTopologyRx_touch _ _ _ s) rfl
  | settleExpiry => exact touched_sub (execSettleExpiry_touch _ s) rfl
  | rebinding => exact touched_sub (execRebinding_touch _ s) rfl
  | fastModeExit => exact touched_sub (execFastModeExit_touch _ s) rfl
  | optrnApply => exact touched_sub (execOptrnApply_touch _ s) rfl
  | syncRx => exact touched_sub (execSyncRx_touch _ _ s) rfl
  | followUpRx => exact touched_sub (execFollowUpRx_touch _ _ s) rfl
  | announceRx => exact touched_sub (execAnnounceRx_touch _ _ s) rfl
  | pdelayReqRx => exact touched_sub (execPdelayReqRx_touch _ _ s) rfl
  | pdelayRespRx => exact touched_sub (execPdelayRespRx_touch _ _ s) rfl
  | pdelayRespFollowUpRx => exact touched_sub (execPdelayRespFollowUpRx_touch _ _ s) rfl
  | signalingRx => exact touched_sub (execSignalingRx_touch _ _ _ _ s) rfl
  | delayReqRx => exact touched_sub (execDelayReqRx_touch _ _ s) rfl
  | timeMessageDue => exact touched_sub (execTimeMessageDue_touch _ _ _ s) rfl
  | timeMessageDeparture => exact touched_sub (execTimeMessageDeparture_touch _ _ s) rfl
  | announceTimeout => exact touched_sub (execAnnounceTimeout_touch _ s) rfl
  | syncTimeout => exact touched_sub (execSyncTimeout_touch _ s) rfl
  | frozenEnd => exact touched_sub (execFrozenEnd_touch _ s) rfl
  | restepSetBoundary => exact touched_sub (execRestepSetBoundary_touch _ s) rfl
  | rtcWrite => exact touched_sub (execRtcWrite_touch _ s) rfl
  | tick125us => exact touched_sub (execTick125us_touch _ s) rfl
  | twinActTimeout => exact touched_sub (execTwinActTimeout_touch _ s) rfl
  | canCommitPoint => exact touched_sub (execCanCommitPoint_touch _ _ s) rfl
  | canArbitrationLost => exact touched_sub (execCanArbitrationLost_touch _ _ s) rfl
  | canTxComplete => exact touched_sub (execCanTxComplete_touch _ _ _ s) rfl
  | canFrameError => exact touched_sub (execCanFrameError_touch _ _ _ _ _ _ s) rfl
  | canFrameReceive => exact touched_sub (execCanFrameReceive_touch _ _ _ _ s) rfl
  | canRecoveryComplete => exact touched_sub (execCanRecoveryComplete_touch _ _ s) rfl
  | canBusJoin => exact touched_sub (execCanBusJoin_touch _ _ s) rfl
  | acquireRead => exact touched_sub (execAcquireRead_touch _ _ _ s) rfl
  | releaseWrite => exact touched_sub (execReleaseWrite_touch _ _ _ _ s) rfl
  | consentVoteRx => exact touched_sub (execConsentVoteRx_touch _ s) rfl
  | consentCommitRx => exact touched_sub (execConsentCommitRx_touch _ s) rfl
  | consentAbortRx => exact touched_sub (execConsentAbortRx_touch _ s) rfl
  | sleepCommit => exact touched_sub (execSleepCommit_touch _ s) rfl
  | stayAwakeExpiry => exact touched_sub (execStayAwakeExpiry_touch _ s) rfl
  | soloFallback => exact touched_sub (execSoloFallback_touch _ s) rfl
  | wakePattern => exact touched_sub (execWakePattern_touch _ _ s) rfl
  | wakeFrame => exact touched_sub (execWakeFrame_touch _ _ _ s) rfl
  | wakeFrameErr => exact touched_sub (execWakeFrameErr_touch _ _ s) rfl
  | wakePin => exact touched_sub (execWakePin_touch _ _ _ s) rfl
  | wakeAlarm => exact touched_sub (execWakeAlarm_touch _ s) rfl
  | latchedWakeRelease => exact touched_sub (execLatchedWakeRelease_touch _ s) rfl
  | tValidExpiry => exact touched_sub (execTValidExpiry_touch _ _ s) rfl
  | vkaLoss => exact touched_sub (execVkaLoss_touch _ s) rfl
  | sdFilterOutput => exact touched_sub (execSdFilterOutput_touch _ _ _ s) rfl
  | sdStuck => exact touched_sub (execSdStuck_touch _ _ s) rfl
  | sdRecovery => exact touched_sub (execSdRecovery_touch _ _ s) rfl
  | gridSample => exact touched_sub (execGridSample_touch _ s) rfl
  | energySave => exact touched_sub (execEnergySave_touch _ s) rfl
  | taskEnd => exact touched_sub (execTaskEnd_touch _ _ s) rfl
  | taskDeadline => exact touched_sub (execTaskDeadline_touch _ s) rfl
  | triadMismatch => exact touched_sub (execTriadMismatch_touch _ _ s) rfl
  | resyncStart => exact touched_sub (execResyncStart_touch _ s) rfl
  | resyncSelftestFail => exact touched_sub (execResyncSelftestFail_touch _ s) rfl
  | resyncCheckFail => exact touched_sub (execResyncCheckFail_touch _ s) rfl
  | triadResync => exact touched_sub (execTriadResync_touch _ s) rfl
  | assay => exact touched_sub (execAssay_touch _ _ s) rfl
  | escrowSnapshot => exact touched_sub (execEscrowSnapshot_touch _ s) rfl
  | epochReceive => exact touched_sub (execEpochReceive_touch _ _ _ s) rfl
  | heartbeatRx => exact touched_sub (execHeartbeatRx_touch _ _ s) rfl
  | boundaryJudgement => exact touched_sub (execBoundaryJudgement_touch _ _ s) rfl
  | takeoverComplete => exact touched_sub (execTakeoverComplete_touch _ s) rfl
  | beaconSend => exact touched_sub (execBeaconSend_touch _ s) rfl
  | beaconRx => exact touched_sub (execBeaconRx_touch _ _ _ s) rfl
  | plannedSwitchover => exact touched_sub (execPlannedSwitchover_touch _ s) rfl
  | takebackTimer => exact touched_sub (execTakebackTimer_touch _ s) rfl
  | drillDwellExpiry => exact touched_sub (execDrillDwellExpiry_touch _ s) rfl
  | pairWaitExpiry => exact touched_sub (execPairWaitExpiry_touch _ s) rfl
  | twinLane => exact touched_sub (execTwinLane_touch _ _ _ s) rfl
  | feedWarn => exact touched_sub (execFeedWarn_touch _ _ _ _ s) rfl
  | feedWarnEnd => exact touched_sub (execFeedWarnEnd_touch _ _ s) rfl
  | feedLoss => exact touched_sub (execFeedLoss_touch _ _ _ s) rfl
  | bothFeedsLost => exact touched_sub (execBothFeedsLost_touch _ s) rfl
  | feedReturnStart => exact touched_sub (execFeedReturnStart_touch _ _ s) rfl
  | returnAbandon => exact touched_sub (execReturnAbandon_touch _ _ s) rfl
  | feedReturn => exact touched_sub (execFeedReturn_touch _ _ s) rfl
  | spineHandover => exact touched_sub (execSpineHandover_touch _ _ s) rfl
  | gafferRetireHandover => exact touched_sub (execGafferRetireHandover_touch _ _ s) rfl
  | lehrRun => exact touched_sub (execLehrRun_touch _ _ s) rfl
  | voltageConfirm => exact touched_sub (execVoltageConfirm_touch _ _ _ _ _ s) rfl
  | ledgerBankSwitch => exact touched_sub (execLedgerBankSwitch_touch _ s) rfl
  | scrubPass => exact touched_sub (execScrubPass_touch _ _ _ _ s) rfl
  | memUncorr => exact touched_sub (execMemUncorr_touch _ _ _ _ s) rfl
  | tellerRestartComplete => exact touched_sub (execTellerRestartComplete_touch _ s) rfl
  | flbInboundRead => exact touched_sub (execFlbInboundRead_touch _ _ _ _ s) rfl
  | flbInboundWrite => exact touched_sub (execFlbInboundWrite_touch _ _ _ _ _ s) rfl
  | pageSwap => exact touched_sub (execPageSwap_touch _ s) rfl
  | flbFetchComplete => exact touched_sub (execFlbFetchComplete_touch _ _ s) rfl
  | flbSlotExpiry => exact touched_sub (execFlbSlotExpiry_touch _ _ s) rfl
  | flbWriteDelivery => exact touched_sub (execFlbWriteDelivery_touch _ s) rfl
  | flbBusGrant => exact touched_sub (execFlbBusGrant_touch _ s) rfl
  | flbOutboundResponse => exact touched_sub (execFlbOutboundResponse_touch _ _ _ s) rfl
  | flbOutboundTimeout => exact touched_sub (execFlbOutboundTimeout_touch _ s) rfl
  | flbLock => exact touched_sub (execFlbLock_touch _ s) rfl
  | flbSideband => exact touched_sub (execFlbSideband_touch _ _ _ s) rfl
  | flbPoll => exact touched_sub (execFlbPoll_touch _ _ _ _ s) rfl
  | trafficStorePresentation => exact touched_sub (execTrafficStorePresentation_touch _ s) rfl
  | keyInitRx => exact touched_sub (execKeyInitRx_touch _ _ s) rfl
  | keyRespRx => exact touched_sub (execKeyRespRx_touch _ _ s) rfl
  | keyConfirmRx => exact touched_sub (execKeyConfirmRx_touch _ _ s) rfl
  | keyDoneRx => exact touched_sub (execKeyDoneRx_touch _ _ s) rfl
  | keyNextRx => exact touched_sub (execKeyNextRx_touch _ _ s) rfl
  | keyNextAckRx => exact touched_sub (execKeyNextAckRx_touch _ _ s) rfl
  | keyAbortRx => exact touched_sub (execKeyAbortRx_touch _ _ s) rfl
  | vaultOperationComplete => exact touched_sub (execVaultOperationComplete_touch _ _ s) rfl
  | keyingRetransmitTimeout => exact touched_sub (execKeyingRetransmitTimeout_touch _ _ s) rfl
  | keyingRetry => exact touched_sub (execKeyingRetry_touch _ _ s) rfl
  | rekeyTimer => exact touched_sub (execRekeyTimer_touch _ _ s) rfl
  | secTrng => exact touched_sub (execSecTrng_touch _ _ s) rfl
  | drbgReseed => exact touched_sub (execDrbgReseed_touch _ s) rfl
  | porstNAssert => exact touched_sub (execPorstNAssert_touch _ _ s) rfl
  | porstNRelease => exact touched_sub (execPorstNRelease_touch _ _ _ _ _ s) rfl
  | sysrstNAssert => exact touched_sub (execSysrstNAssert_touch _ _ s) rfl
  | sysrstNRelease => exact touched_sub (execSysrstNRelease_touch _ s) rfl
  | boot => exact touched_sub (execBoot_touch _ s) rfl
  | defaultParison => exact touched_sub (execDefaultParison_touch _ s) rfl
  | fwSwap => exact touched_sub (execFwSwap_touch _ s) rfl
  | fwSwapComplete => exact touched_sub (execFwSwapComplete_touch _ s) rfl
  | fwRevert => exact touched_sub (execFwRevert_touch _ s) rfl
  | seedEnd => exact touched_sub (execSeedEnd_touch _ _ s) rfl
  | backpressureHold => exact touched_sub (execBackpressureHold_touch _ _ s) rfl
  | seedFeedWarnStart => exact touched_sub (execSeedFeedWarnStart_touch _ _ s) rfl
  | seedFeedWarnEnd => exact touched_sub (execSeedFeedWarnEnd_touch _ _ s) rfl
  | flbLockRelease => exact touched_sub (execFlbLockRelease_touch _ s) rfl
  | wakeValid => exact touched_sub (execWakeValid_touch _ _ s) rfl
  | feedGood => exact touched_sub (execFeedGood_touch _ _ s) rfl
  | tellerTakesFrame => exact touched_sub (execTellerTakesFrame_touch _ s) rfl
  | gafferWordRewrite => exact touched_sub (execGafferWordRewrite_touch _ _ s) rfl
  | vaultRestart => exact touched_sub (execVaultRestart_touch _ s) rfl
  | triadRestartLoad => exact touched_sub (execTriadRestartLoad_touch _ s) rfl
  | portWindowReady => exact touched_sub (execPortWindowReady_touch _ s) rfl
  | blockLoss => exact touched_sub (execBlockLoss_touch _ _ s) rfl

/-! ### The obligations -/

/-- Settles O1: the step by the front of the queue; with no port held off, the ports that choose are none. -/
theorem stepRunsFrontCommand : Obligations.StepRunsFrontCommand := by
  refine ⟨fun c l s h => step_front h, fun s h => step_empty h, fun s h hnone => ?_⟩
  have hidle : (s.elapse 1).holdsOver = s.elapse 1 := holdsOver_of_nil hnone
  refine ⟨_, (step_empty h).trans (congrArg go hidle), ?_, only_pins (only_elapse s 1 [])⟩
  rw [State.pins_clk]
  rfl

/-- Settles O2: every row answers, and changes what the lemma of its own allows. -/
theorem everyCommandTouchesOnlyItsParts : Obligations.EveryCommandTouchesOnlyItsParts := by
  intro c s
  obtain ⟨u, hgo⟩ := exec_go c s
  exact ⟨u.pins, hgo, exec_touches c s _ hgo⟩

/-- Settles O3: whatever a step does, it ends with the pins brought up to date. -/
theorem everyStepKeepsPins : Obligations.EveryStepKeepsPins := by
  intro s t hstep
  obtain ⟨u, hgo⟩ := step_go s
  obtain rfl : u.pins = t := Host.Outcome.next.inj (hgo.symm.trans hstep)
  exact pinsRight_pins u

end Sys2Proof.Machine

/-! SUPPORT. Chapter 16, the mailbox as its rows use it: a command that waits, malformed requests (R514),
requests while READY is 0, and overruns (R512). -/

namespace Sys2Proof.Machine

/-- A command that waits is held, its other marks as its run leaves them. -/
theorem mailbox_waits (s : State) (c : Cmd) (r : Req) (hop : c.op < 65536) (hf : s.mbxFree)
    (hp : r.plain) (hs : c.shape r.body = true)
    (hw : (c.run r.body (s.writeReq c.op r)).wait = true) :
    ∃ t, go (s.submit c r) = .next t ∧ t.hif.exec = true ∧
      t.hif.held = some { op := c.op, tag := r.tag.toNat, seq := r.seq.toNat, body := r.body } := by
  refine ⟨_, rfl, ?_⟩
  rw [submit_run s c r hop hf hp hs, pins_hif]
  simp [hw]

/-! ### Requests without effect -/

/-- A free mailbox serves what is written. -/
theorem submit_free {s : State} (c : Cmd) (r : Req) (hf : s.mbxFree) :
    s.submit c r = (s.writeReq c.op r).serve fun o => if o = c.op then some c else none := by
  obtain ⟨ha, hr, hb, he, hv, -⟩ := hf
  have h1 : (s.writeReq c.op r).hif.ready = true := hr
  have h2 : (s.writeReq c.op r).hif.reqBusy = false := hb
  have h3 : (s.writeReq c.op r).hif.exec = false := he
  have h4 : (s.writeReq c.op r).hif.respValid = false := hv
  simp [State.submit, ha, State.ringReq, h1, h2, h3, h4]

/-- A request without effect: MALFORMED, counted. -/
def State.malformed (s : State) (op : Nat) (r : Req) : State :=
  (s.count (tlSec 7)).respond op r.tag.toNat r.seq.toNat stMalformed []

theorem serve_malformed {s : State} {c : Cmd} {r : Req} (hop : c.op < 65536)
    (h : 4064 < r.len.toNat ∨ allZero (r.rsv.take 20) = false ∨ (r.plain ∧ c.shape r.body = false)) :
    ((s.writeReq c.op r).serve fun o => if o = c.op then some c else none) =
      (s.writeReq c.op r).malformed c.op r := by
  obtain ⟨h1, h2, h3, h4, h5⟩ := header_words s.hif.req c.op r hop
  simp only [State.serve, writeReq_req, h1, h2, h3, h4, h5]
  by_cases hlen : 4064 < r.len.toNat
  · exact if_pos hlen
  · rw [if_neg hlen]
    by_cases hz : allZero (r.rsv.take 20) = false
    · exact if_pos (by simp [hz])
    · obtain h | h | ⟨hp, hshape⟩ := h
      · exact absurd h hlen
      · exact absurd h hz
      · obtain ⟨-, -, -, -, -, h6⟩ := header_fields s.hif.req c.op r hop hp
        rw [hp.1]
        simp [hz, h6, hshape, State.malformed]

theorem submit_not_ready {s : State} {c : Cmd} {r : Req} (h : s.hif.ready = false) :
    s.submit c r = if s.awake then s.writeReq c.op r else s := by
  have h1 : (s.writeReq c.op r).hif.ready = false := h
  simp [State.submit, State.ringReq, h1]

theorem submit_overrun {s : State} {c : Cmd} {r : Req} (hawake : s.awake = true) (hready : s.hif.ready = true)
    (h : s.hif.reqBusy = true ∨ s.hif.exec = true ∨ s.hif.respValid = true) :
    ∃ args, s.submit c r = ((s.writeReq c.op r).count (tlSec 6)).noteOnce 0 (ev 16 0) args := by
  have h1 : (s.writeReq c.op r).hif.ready = true := hready
  have h2 : ((s.writeReq c.op r).hif.reqBusy || (s.writeReq c.op r).hif.exec ||
      (s.writeReq c.op r).hif.respValid) = true := by
    simpa [State.writeReq, or_assoc] using h
  simp only [State.submit, hawake, if_true, State.ringReq, h1, h2, Bool.not_true, Bool.false_eq_true, if_false]
  split
  · exact ⟨_, rfl⟩
  · exact ⟨_, rfl⟩

theorem overrun_counts (s : State) (op : Nat) (r : Req) (args : List Byte) :
    Tab.get 0 (((s.writeReq op r).count (tlSec 6)).noteOnce 0 (ev 16 0) args).pins.tly.live (tlSec 6) =
      min tlyMax (Tab.get 0 s.tly.live (tlSec 6) + 1) := by
  rw [State.pins_tly, noteOnce_tally _ _ _ _ _ (by decide) (by decide), count_self, State.writeReq_tly]

/-! ### The obligations -/

/-- Settles O5: the row submits its command, which waits or is answered as its run says. -/
theorem mailboxAnswersItsCommands : Obligations.MailboxAnswersItsCommands := by
  intro c dt k r s hrow hfree hplain hshape a
  obtain ⟨hexec, hop⟩ := mailbox_row c dt k r hrow s
  rw [hexec]
  cases hw : a.wait with
  | true =>
    simpa using mailbox_waits (s.elapse dt) k r hop hfree hplain hshape hw
  | false =>
    have hgo := mailbox_answers (s.elapse dt) k r hop hfree hplain hshape hw
    refine ⟨_, hgo, answered_pins (respond_answered ..), ?_⟩
    rw [pins_int]
    exact respond_int ..

/-- Settles O6: what is malformed by the words of its header, what comes too early or too soon by the state of
the mailbox. -/
theorem mailboxRefusesMalformedAndOverrun : Obligations.MailboxRefusesMalformedAndOverrun := by
  refine ⟨fun c dt k r s hrow hfree h => ?_, fun c dt k r s hrow hready => ?_,
    fun c dt k r s hrow hawake hready h => ?_⟩
  · obtain ⟨hexec, hop⟩ := mailbox_row c dt k r hrow s
    have hrun : (s.elapse dt).submit k r = ((s.elapse dt).writeReq k.op r).malformed k.op r :=
      (submit_free (s := s.elapse dt) k r hfree).trans (serve_malformed (s := s.elapse dt) hop h)
    refine ⟨_, hexec.trans (congrArg go hrun), answered_pins (respond_answered ..), go_only (dt := dt) ?_⟩
    exact only_trans (only_step (writeReq_only _ _ _ _ (by decide)) (State.count_touch ..)) (respond_only ..)
  · obtain ⟨hexec, -⟩ := mailbox_row c dt k r hrow s
    refine ⟨_, hexec.trans (congrArg go (submit_not_ready (s := s.elapse dt) hready)), go_only (dt := dt) ?_, ?_⟩
    · split
      · exact writeReq_only _ _ _ _ (by decide)
      · exact only_refl ..
    · rw [pins_hif]
      split
      · exact ⟨rfl, rfl, rfl, rfl⟩
      · exact ⟨rfl, rfl, rfl, rfl⟩
  · obtain ⟨hexec, -⟩ := mailbox_row c dt k r hrow s
    obtain ⟨args, hrun⟩ := submit_overrun (s := s.elapse dt) (c := k) (r := r) hawake hready h
    refine ⟨_, hexec.trans (congrArg go hrun), go_only (dt := dt) ?_, ?_⟩
    · exact only_step (only_step (writeReq_only _ _ _ _ (by decide)) (State.count_touch ..)) (State.noteOnce_touch ..)
    · refine ⟨?_, ?_, ?_, ?_, ?_, ?_, ?_, overrun_counts (s.elapse dt) k.op r args⟩
      all_goals
        rw [pins_hif]
        simp [State.writeReq]

end Sys2Proof.Machine

/-! SUPPORT. Chapter 16, the host window: its registers by their rows and by their offsets (R507 to R512). -/

namespace Sys2Proof.Machine

/-! ### Registers of the window (R508 to R510, R512) -/

theorem ofNat_mod_eq_setWidth (v : U32) : BitVec.ofNat 8 (v.toNat % 256) = v.setWidth 8 := by
  apply BitVec.eq_of_toNat_eq
  simp

section
variable {s : State} (dt : Nat) (h : s.awake = true)

include h

theorem execDoorbellAck_awake : exec (.doorbellAck dt) s = go (s.elapse dt).ackResp :=
  congrArg go (if_pos (c := (s.elapse dt).awake = true) h)

theorem execIntStatusClear_awake (v : U32) :
    exec (.intStatusClear dt v) s = go ((s.elapse dt).clearInts (v.toNat % 256)) :=
  congrArg go (if_pos (c := (s.elapse dt).awake = true) h)

theorem execIntMaskWrite_awake (v : U32) :
    exec (.intMaskWrite dt v) s = go ((s.elapse dt).maskInts (v.toNat % 256)) :=
  congrArg go (if_pos (c := (s.elapse dt).awake = true) h)

theorem execRegisterWrite_awake (off : U16) (data : List Byte) :
    exec (.registerWrite dt off data) s = go ((s.elapse dt).hifWrite ring off.toNat data) :=
  congrArg go (if_pos (c := (s.elapse dt).awake = true) h)

end

/-- Settles O7: the areas by the laws of byte memories, each register by what its row does while the main die
runs. -/
theorem windowTakesWrites : Obligations.WindowTakesWrites := by
  refine ⟨fun m a l => ⟨memRead_memWrite m a l, fun c hc => memGet_memWrite_out m a l hc, wf_memWrite a l⟩,
    fun s dt h => ?_, fun s dt v h => ?_, fun s dt v h => ?_⟩
  · have hrun := execDoorbellAck_awake dt h
    refine ⟨_, hrun, ?_, ?_, ?_, ?_, execDoorbellAck_touch dt s _ hrun⟩
    all_goals
      rw [pins_hif]
      rfl
  · have hrun := execIntStatusClear_awake dt h v
    refine ⟨_, hrun, ?_, ?_, ?_, execIntStatusClear_touch dt v s _ hrun⟩
    all_goals
      rw [pins_hif]
      simp only [State.clearInts, State.hostIntLevel, ofNat_mod_eq_setWidth, State.elapse_hif]
  · have hrun := execIntMaskWrite_awake dt h v
    refine ⟨_, hrun, ?_, ?_, ?_, execIntMaskWrite_touch dt v s _ hrun⟩
    all_goals
      rw [pins_hif]
      simp only [State.maskInts, State.hostIntLevel, ofNat_mod_eq_setWidth, State.elapse_hif]

/-! ### Writes by offset (R508) -/

theorem padTo_self (d : Byte) (l : List Byte) : padTo d l.length l = l := by
  induction l with
  | nil => rfl
  | cons b l ih => simp [padTo, ih]

/-- A whole word written over a word. -/
theorem overlay_word (k v : Nat) : padTo 0 4 (overlay (le 4 k) 0 (le 4 v)) = le 4 v := by
  have h : overlay (le 4 k) 0 (le 4 v) = le 4 v := by
    simp [overlay, padTo]
  rw [h]
  exact le_length 4 v ▸ padTo_self 0 (le 4 v)

/-- A 4-byte write at a register's own offset is a write of the register. -/
theorem hifWrite_word (s : State) (f : State → State) {r : Nat} (v : U32) (hr : r < 0x1C) (h4 : r % 4 = 0) :
    s.hifWrite f r (le 4 v.toNat) = s.regWrite f r v.toNat := by
  have hv : ofLe (le 4 v.toNat) = v.toNat := by
    rw [ofLe_le]
    exact Nat.mod_eq_of_lt v.isLt
  have hr4 : r / 4 * 4 = r := by omega
  have hne : (le 4 v.toNat).isEmpty = false := rfl
  have htake : (le 4 v.toNat).take 4 = le 4 v.toNat := rfl
  have hlen : (le 4 v.toNat).length ≥ 2 := by simp
  simp only [State.hifWrite, hne, Bool.false_eq_true, if_false, hr, if_true, h4, Nat.sub_zero, htake,
    State.regBytes, hr4, hlen, overlay_word, hv]

/-- Offsets that hold no register and no request area ignore writes. -/
theorem hifWrite_ignored (s : State) (f : State → State) {o : Nat} (data : List Byte)
    (h : (0x1C ≤ o ∧ o < 0x1000) ∨ 0x2000 ≤ o) : s.hifWrite f o data = s := by
  have hreg : ¬ o < 0x1C := by omega
  have harea : (decide (0x1000 ≤ o) && decide (o < 0x2000)) = false := by
    simp only [Bool.and_eq_false_iff, decide_eq_false_iff_not]
    omega
  simp [State.hifWrite, hreg, harea]

theorem regWrite_ignored (s : State) (f : State → State) {r : Nat} (v : Nat)
    (h : r = 0x00 ∨ r = 0x08 ∨ r = 0x0C) : s.regWrite f r v = s := by
  obtain rfl | rfl | rfl := h
  · rfl
  · rfl
  · rfl

theorem hifWrite_request (s : State) (f : State → State) {o : Nat} {data : List Byte} (hdata : data ≠ [])
    (hlo : 0x1000 ≤ o) (hhi : o + data.length ≤ 0x2000) : s.hifWrite f o data =
      { s with hif := { s.hif with req := memWrite s.hif.req (o - 0x1000) data } } := by
  have hpos : 0 < data.length := List.length_pos_iff.2 hdata
  have hreg : ¬ o < 0x1C := by omega
  have harea : (decide (0x1000 ≤ o) && decide (o < 0x2000)) = true := by
    simp only [Bool.and_eq_true, decide_eq_true_eq]
    omega
  have htake : data.take (0x2000 - o) = data := List.take_of_length_le (by omega)
  simp only [State.hifWrite, List.isEmpty_iff, hdata, if_false, hreg, harea, if_true, htake]

theorem setWidth_eq_ofNat (v : U32) : v.setWidth 12 = BitVec.ofNat 12 v.toNat := by
  apply BitVec.eq_of_toNat_eq
  simp

/-- Settles O8: the request area, the offsets without a register, the registers that cannot be written, and the
four whose write is a row of its own. -/
theorem registerWriteByOffset : Obligations.RegisterWriteByOffset := by
  refine ⟨fun s dt off data h hdata hlo hhi => ?_, fun s dt off data h hoff => ?_, fun s dt off v h hoff => ?_,
    fun s dt v => ?_⟩
  · have hwrite := hifWrite_request (s.elapse dt) ring hdata hlo hhi
    refine ⟨_, (execRegisterWrite_awake dt h off data).trans (congrArg go hwrite), ?_, fun a ha => ?_, ?_, ?_,
      go_only (dt := dt) (only_set_mbx _ (only_refl ..) rfl ⟨rfl, rfl⟩)⟩
    · rw [pins_hif]
      exact memRead_memWrite ..
    · rw [pins_hif]
      exact memGet_memWrite_out _ _ _ ha
    · rw [pins_hif]
      rfl
    · rw [pins_hif]
      rfl
  · exact exec_idle ((execRegisterWrite_awake dt h off data).trans (congrArg go (hifWrite_ignored _ _ data hoff)))
  · have hreg : off.toNat = 0x00 ∨ off.toNat = 0x08 ∨ off.toNat = 0x0C := by
      obtain rfl | rfl | rfl := hoff
      · exact .inl rfl
      · exact .inr (.inl rfl)
      · exact .inr (.inr rfl)
    have hlt : off.toNat < 0x1C ∧ off.toNat % 4 = 0 := by omega
    exact exec_idle ((execRegisterWrite_awake dt h off _).trans
      (congrArg go ((hifWrite_word _ _ v hlt.1 hlt.2).trans (regWrite_ignored _ _ _ hreg))))
  · have hword : ∀ (off : U16) (w : U32), off.toNat < 0x1C → off.toNat % 4 = 0 →
        exec (.registerWrite dt off (le 4 w.toNat)) s =
          go (if (s.elapse dt).awake then (s.elapse dt).regWrite ring off.toNat w.toNat else s.elapse dt) := by
      intro off w hlt h4
      rw [← hifWrite_word (s.elapse dt) ring w hlt h4]
      rfl
    refine ⟨hword 0x04 2 (by decide) (by decide), hword 0x10 v (by decide) (by decide),
      hword 0x14 v (by decide) (by decide), fun h31 => ?_⟩
    have hpin : (s.elapse dt).regWrite ring 0x18 v.toNat = (s.elapse dt).pinPort (v.setWidth 12) := by
      rw [setWidth_eq_ofNat]
      exact if_pos (bit_toNat v 31 ▸ h31)
    rw [hword 0x18 v (by decide) (by decide)]
    exact congrArg (fun u => go (if (s.elapse dt).awake then u else s.elapse dt)) hpin

end Sys2Proof.Machine

/-! SUPPORT. Chapter 16, the records that the mailbox reads out: identity (R519), tallies (R527 to R529) and the
daybook (R530, R531). -/

namespace Sys2Proof.Machine

/-! ### MB_TALLY_READ (R527 to R529) -/

/-- The value of a tally that a read shows: the live one, or its snapshot. -/
def State.tlyShown (s : State) (snap : Bool) (k : Nat) : Nat :=
  if snap then Tab.get 0 s.tly.snap k else s.tlyVal k

/-- What reading tallies leaves of the tally `k`: cleared, or as it was. -/
def State.tlyCleared (t s : State) (snap : Bool) (k : Nat) : Prop :=
  if snap then Tab.get 0 t.tly.snap k = 0 else Tab.get 0 t.tly.live k = s.tlyBase k

/-- Reading tallies leaves the tally `k` as it was. -/
def State.tlyKept (t s : State) (k : Nat) : Prop :=
  Tab.get 0 t.tly.live k = Tab.get 0 s.tly.live k ∧ Tab.get 0 t.tly.snap k = Tab.get 0 s.tly.snap k

theorem tlyRead_fst (s : State) (snap : Bool) (k : Nat) : (s.tlyRead snap k).1 = s.tlyShown snap k := by
  cases snap with
  | true => rfl
  | false => rfl

theorem tlyRead_base (s : State) (snap : Bool) (k j : Nat) : (s.tlyRead snap k).2.tlyBase j = s.tlyBase j := by
  cases snap with
  | true => rfl
  | false => rfl

theorem tlyRead_cleared (s : State) (snap : Bool) (k : Nat) : (s.tlyRead snap k).2.tlyCleared s snap k := by
  cases snap with
  | true => exact Tab.get_set_self 0 s.tly.snap k 0
  | false => exact Tab.get_set_self 0 s.tly.live k (s.tlyBase k)

theorem tlyRead_kept (s : State) (snap : Bool) {k j : Nat} (h : j ≠ k) : (s.tlyRead snap k).2.tlyKept s j := by
  cases snap with
  | true => exact ⟨rfl, Tab.get_set_ne 0 s.tly.snap 0 h⟩
  | false => exact ⟨Tab.get_set_ne 0 s.tly.live _ h, rfl⟩

theorem tlyRead_shown (s : State) (snap : Bool) {k j : Nat} (h : j ≠ k) :
    (s.tlyRead snap k).2.tlyShown snap j = s.tlyShown snap j := by
  cases snap with
  | true => exact (tlyRead_kept s true h).2
  | false =>
    simp only [State.tlyShown, State.tlyVal, Bool.false_eq_true, if_false, (tlyRead_kept s false h).1]
    rfl

/-- The records of a run of tallies show each value as it was. -/
theorem tlyRecords_bytes (s : State) (snap : Bool) (k n : Nat) : (s.tlyRecords snap k n).1 =
    ((List.range n).map fun i => le 8 (s.tlyShown snap (k + i))).flatten := by
  induction n generalizing s k with
  | zero => rfl
  | succ n ih =>
    have hrest : ((s.tlyRead snap k).2.tlyRecords snap (k + 1) n).1 =
        ((List.range n).map fun i => le 8 (s.tlyShown snap (k + (i + 1)))).flatten := by
      rw [ih]
      refine congrArg List.flatten (List.map_congr_left fun i _ => ?_)
      rw [tlyRead_shown _ _ (by omega), show k + 1 + i = k + (i + 1) by omega]
    simp only [State.tlyRecords, hrest, tlyRead_fst, List.range_succ_eq_map, List.map_cons, List.map_map,
      List.flatten_cons, Nat.add_zero, Function.comp_def]

/-- A tally outside the run is as it was. -/
theorem tlyRecords_kept (s : State) (snap : Bool) {k n j : Nat} (h : j < k ∨ k + n ≤ j) :
    (s.tlyRecords snap k n).2.tlyKept s j := by
  induction n generalizing s k with
  | zero => exact ⟨rfl, rfl⟩
  | succ n ih =>
    obtain ⟨hlive, hsnap⟩ := ih (s.tlyRead snap k).2 (k := k + 1) (by omega)
    obtain ⟨hlive', hsnap'⟩ := tlyRead_kept s snap (k := k) (j := j) (by omega)
    exact ⟨hlive.trans hlive', hsnap.trans hsnap'⟩

theorem tlyCleared_of_kept {t u s : State} {snap : Bool} {k : Nat} (hu : u.tlyCleared s snap k)
    (h : t.tlyKept u k) : t.tlyCleared s snap k := by
  cases snap with
  | true => exact h.2.trans hu
  | false => exact h.1.trans hu

/-- Every tally of the run is cleared. -/
theorem tlyRecords_cleared (s : State) (snap : Bool) {k n i : Nat} (h : i < n) :
    (s.tlyRecords snap k n).2.tlyCleared s snap (k + i) := by
  induction n generalizing s k i with
  | zero => exact absurd h (Nat.not_lt_zero i)
  | succ n ih =>
    cases i with
    | zero => exact tlyCleared_of_kept (tlyRead_cleared s snap k) (tlyRecords_kept _ snap (.inl (Nat.lt_succ_self k)))
    | succ i =>
      have hrest := ih (s.tlyRead snap k).2 (k := k + 1) (Nat.lt_of_succ_lt_succ h)
      rw [show k + 1 + i = k + (i + 1) by omega] at hrest
      simp only [State.tlyCleared, tlyRead_base] at hrest ⊢
      exact hrest

/-- The spine actions that a takeover has left unissued are counted before group 13 is read. -/
def State.tlyReady (s : State) (g : Nat) : State := if g = 13 then s.spineCount else s

theorem spineCount_writeReq (s : State) (op : Nat) (r : Req) :
    (s.writeReq op r).spineCount = s.spineCount.writeReq op r := by
  unfold State.spineCount
  cases h : s.par.force with
  | none => simp [h]
  | some p =>
    simp only [State.writeReq_par, h]
    rfl

theorem tlyReady_writeReq (s : State) (op : Nat) (r : Req) (g : Nat) :
    (s.writeReq op r).tlyReady g = (s.tlyReady g).writeReq op r := by
  unfold State.tlyReady
  split
  · exact spineCount_writeReq ..
  · rfl

/-- What MB_TALLY_READ answers for `n` tallies of a unit of `size`, from the one of key `k` on. -/
def State.tlyAnswer (s : State) (g size : Nat) (snap : Bool) (k n : Nat) : List Byte :=
  let at_ := Tab.get 0 s.tly.snapAt g
  le 2 n ++ zeros 2 ++ le 4 size ++ (if at_ = 0 then zeros 12 else secNs (at_ - 1)) ++ zeros 4 ++
    ((List.range n).map fun i => le 8 ((s.tlyReady g).tlyShown snap (k + i))).flatten

theorem cmdTallyRead_run {b : List Byte} (s : State) (hg : fld b 0 1 ≤ 15) (hu : fld b 1 1 < tlyUnits (fld b 0 1))
    (hfirst : fld b 2 2 < tlySize (fld b 0 1) (fld b 1 1)) (hcount : fld b 4 2 ≠ 0) (hmost : fld b 4 2 ≤ 504) :
    let n := min (fld b 4 2) (tlySize (fld b 0 1) (fld b 1 1) - fld b 2 2)
    cmdTallyRead.run b s = ans stOk (s.tlyAnswer (fld b 0 1) (tlySize (fld b 0 1) (fld b 1 1)) (bit (fld b 6 2) 0)
      (tly (fld b 0 1) (fld b 1 1) (fld b 2 2)) n)
      ((s.tlyReady (fld b 0 1)).tlyRecords (bit (fld b 6 2) 0) (tly (fld b 0 1) (fld b 1 1) (fld b 2 2)) n).2 := by
  intro n
  have hok : ¬ ((decide (fld b 0 1 > 15) || decide (fld b 1 1 ≥ tlyUnits (fld b 0 1)) ||
      decide (fld b 2 2 ≥ tlySize (fld b 0 1) (fld b 1 1)) || decide (fld b 4 2 = 0) ||
      decide (fld b 4 2 > 504)) = true) := by
    simp only [Bool.or_eq_true, decide_eq_true_eq]
    omega
  simp only [cmdTallyRead, if_neg hok, State.tlyAnswer, ← tlyRecords_bytes, State.tlyReady]
  rfl

/-- The mailbox's answer counts itself and leaves every other tally. -/
theorem answer_kept (s : State) (op tag seq st : Nat) (b : List Byte) {k : Nat} (h : k ≠ tlSec 5) :
    (s.respond op tag seq st b).pins.tlyKept s k := by
  rw [State.tlyKept, State.pins_tly]
  exact ⟨respond_live _ _ _ _ _ _ _ h, congrArg (Tab.get 0 · k) (respond_snap ..)⟩

/-! ### MB_DAYBOOK_READ (R530) -/

theorem dayFrom_length (l : List DayEv) (next from_ most : Nat) : (dayFrom l next from_ most).2.2.length ≤ most := by
  simp only [dayFrom]
  split
  · exact Nat.zero_le _
  · exact List.length_take_le ..

theorem dayFrom_mem {l : List DayEv} {next from_ most : Nat} {e : DayEv}
    (h : e ∈ (dayFrom l next from_ most).2.2) : e ∈ l := by
  unfold dayFrom at h
  dsimp only at h
  split at h
  · exact absurd h List.not_mem_nil
  · exact List.mem_of_mem_drop (List.mem_of_mem_take h)

theorem cmdDaybookRead_run {b : List Byte} (s : State) (hclass : fld b 0 1 ≤ 1) (hcount : fld b 2 2 ≠ 0)
    (hmost : fld b 2 2 ≤ 63) :
    let x := dayFrom (if fld b 0 1 = 0 then s.day.vol else s.day.per)
      (if fld b 0 1 = 0 then s.day.volNext else s.day.perNext) (fld b 4 4) (fld b 2 2)
    cmdDaybookRead.run b s = ans stOk (le 4 x.1 ++ le 4 x.2.1 ++ le 2 x.2.2.length ++ zeros 6 ++
      (x.2.2.map DayEv.bytes).flatten) s := by
  have hok : ¬ ((decide (fld b 0 1 > 1) || decide (fld b 2 2 = 0) || decide (fld b 2 2 > 63)) = true) := by
    simp only [Bool.or_eq_true, decide_eq_true_eq]
    omega
  simp only [cmdDaybookRead, if_neg hok]
  by_cases h : fld b 0 1 = 0
  · simp only [h, if_true]
  · simp only [h, if_false]

/-! ### MB_IDENTIFY (R519) -/

theorem cmdIdentify_run {s : State} (b : List Byte) (h : s.sys.stage ≠ .loader) : cmdIdentify.run b s =
    ans stOk (le 4 s.ident ++ uidBytes ++ macBytes Config.nodeMac ++ le 1 s.sec.life ++ le 1 s.sec.pin ++
      s.rootId ++ (le 4 s.sys.version.toNat ++ le 1 s.sys.slot ++ zeros 3 ++ padTo 0 32 s.sys.fwHash ++
        padTo 0 32 s.sys.revisions)) s := by
  have hstage : (s.sys.stage == Stage.loader) = false := by simpa using h
  simp only [cmdIdentify, hstage, Bool.false_eq_true, if_false]

/-! ### The obligation -/

/-- Settles O10: a run of tallies by induction along it, each read showing its value and clearing it alone. -/
theorem recordsAreReadOut : Obligations.RecordsAreReadOut := by
  refine ⟨fun s dt r hfree hplain hbody => ?_, fun s dt r hfree hplain hlen hsel => ?_,
    fun s dt r hfree hplain hlen hzero hclass hcount hmost => ?_⟩
  · have hstage : s.sys.stage ≠ .loader := hfree.2.2.2.2.2
    have hrun := cmdIdentify_run (s := (s.elapse dt).writeReq cmdIdentify.op r) r.body hstage
    obtain ⟨t, hgo, hans, honly⟩ := mailbox_read s dt cmdIdentify r (by decide) hfree hplain
      (by rw [hbody]; rfl) _ _ hrun
    simp only [← List.append_assoc] at hans
    exact ⟨t, hgo, hans, honly⟩
  · intro g u first n snap e at_ hg hu hfirst hcount hmost
    have hready : ((s.elapse dt).writeReq cmdTallyRead.op r).tlyReady g = e.writeReq cmdTallyRead.op r :=
      tlyReady_writeReq ..
    have hrun : cmdTallyRead.run r.body ((s.elapse dt).writeReq cmdTallyRead.op r) = _ :=
      cmdTallyRead_run _ hg hu hfirst hcount hmost
    rw [State.tlyAnswer, hready] at hrun
    have hshape : cmdTallyRead.shape r.body = true := by simp [cmdTallyRead, hlen, Nat.le_of_lt_succ hsel]
    obtain ⟨t, hgo, hans, rfl⟩ := mailbox_done (s.elapse dt) cmdTallyRead r (by decide) hfree hplain hshape
      _ _ _ hrun
    refine ⟨_, hgo, hans, fun i hi hne => ?_, fun k hk hne => ?_⟩
    · exact tlyCleared_of_kept (tlyRecords_cleared (e.writeReq cmdTallyRead.op r) snap hi)
        (answer_kept _ _ _ _ _ _ hne)
    · obtain ⟨hlive, hsnap⟩ := answer_kept _ _ _ _ _ _ hne
      obtain ⟨hlive', hsnap'⟩ := tlyRecords_kept _ snap hk
      exact ⟨hlive.trans hlive', hsnap.trans hsnap'⟩
  · have hrun := cmdDaybookRead_run ((s.elapse dt).writeReq cmdDaybookRead.op r) hclass hcount hmost
    have hshape : cmdDaybookRead.shape r.body = true := by simp [cmdDaybookRead, hlen, hzero]
    obtain ⟨t, hgo, hans, honly⟩ := mailbox_read s dt cmdDaybookRead r (by decide) hfree hplain hshape _ _ hrun
    exact ⟨t, hgo, hans, dayFrom_length .., fun e he => dayFrom_mem he, honly.2 .daybook (by decide), honly⟩

end Sys2Proof.Machine

/-! SUPPORT. Chapters 12 and 13, the tallies of twin and feeds: what the operations of the other chapters
leave of them. -/

namespace Sys2Proof.Machine

/-! ### Tallies of groups 12 and 13 -/

/-- What a live tally holds. -/
abbrev State.tallyAt (s : State) (k : Nat) : Nat := Tab.get 0 s.tly.live k

/-- A tally of the twin (group 12) or of the feeds (group 13), but for the three that the bookkeeping of
seeds, flash and daybook counts. -/
def Beside (k : Nat) : Prop :=
  12 * 2 ^ 32 ≤ k ∧ k < 14 * 2 ^ 32 ∧ k ≠ tlFeed 4 ∧ k ≠ tlFeed 5 ∧ k ≠ tlFeed 6

/-- A key of another group. -/
abbrev Elsewhere (k : Nat) : Prop := k < 12 * 2 ^ 32 ∨ 14 * 2 ^ 32 ≤ k

theorem beside_twin {i : Nat} (h : i < 10) : Beside (tlTwin i) := by
  simp only [Beside, tlTwin, tlFeed, Machine.tly]
  omega

theorem elsewhere_port {p i : Nat} (hp : p < 32) (hi : i < 2 ^ 16) : Elsewhere (tlPort p i) := by
  simp only [Elsewhere, tlPort, Machine.tly]
  omega

theorem Beside.ne {k j : Nat} (hk : Beside k) (h : Elsewhere j) : k ≠ j := by
  obtain ⟨hlo, hhi, -⟩ := hk
  rw [Elsewhere] at h
  omega

theorem ite_tallyAt {c : Prop} [Decidable c] {t u : State} {k n : Nat} (ht : t.tallyAt k = n)
    (hu : u.tallyAt k = n) : (if c then t else u).tallyAt k = n := by
  split
  · exact ht
  · exact hu

theorem canRejoin_tallyAt (s : State) (k : Nat) : s.canRejoin.tallyAt k = s.tallyAt k := by
  unfold State.canRejoin
  refine foldl_keeps (State.tallyAt · k) _ (fun x c => ?_) _ _
  split
  · exact ite_tallyAt rfl rfl
  · rfl

theorem tcmWrite_tallyAt (s : State) (o : Nat) (l : List Byte) (k : Nat) :
    (s.tcmWrite o l).tallyAt k = s.tallyAt k := by
  unfold State.tcmWrite
  refine foldl_keeps (State.tallyAt · k) _ (fun _ _ => ?_) _ _
  rfl

section
variable (s : State) {k : Nat} (hk : Beside k)
include hk

theorem countN_beside {j : Nat} (n : Nat) (h : Elsewhere j) : (s.countN j n).tallyAt k = s.tallyAt k :=
  count_tally s j n k (hk.ne h)

theorem count_beside {j : Nat} (h : Elsewhere j) : (s.count j).tallyAt k = s.tallyAt k :=
  countN_beside s hk 1 h

theorem note_beside (code : Nat) (args : List Byte) : (s.note code args).tallyAt k = s.tallyAt k :=
  note_tally s code args k hk.2.2.2.1 hk.2.2.2.2

theorem noteOnce_beside (u code : Nat) (args : List Byte) :
    (s.noteOnce u code args).tallyAt k = s.tallyAt k :=
  noteOnce_tally s u code args k hk.2.2.2.1 hk.2.2.2.2

theorem respond_beside (op tag seq st : Nat) (b : List Byte) :
    (s.respond op tag seq st b).tallyAt k = s.tallyAt k :=
  respond_live s op tag seq st b k (hk.ne (by decide))

theorem finish_beside (op st : Nat) (b : List Byte) : (s.finish op st b).tallyAt k = s.tallyAt k := by
  unfold State.finish
  split
  · split
    · exact respond_beside _ hk ..
    · rfl
  · rfl

/-! ### Roles and time -/

theorem roleTo_beside (r : Role) (cause seq : Nat) : (s.roleTo r cause seq).tallyAt k = s.tallyAt k := by
  unfold State.roleTo
  extract_lets old _ t
  split
  · rfl
  · exact (note_beside t hk ..).trans rfl

theorem mirrorCheck_beside : s.mirrorCheck.tallyAt k = s.tallyAt k := by
  unfold State.mirrorCheck
  split
  · rfl
  · exact (note_beside _ hk ..).trans rfl

theorem toTime_beside (st : TimeState) : (s.toTime st).tallyAt k = s.tallyAt k := by
  unfold State.toTime
  extract_lets old _ _ u v
  have hv : v.tallyAt k = s.tallyAt k := (note_beside u hk ..).trans rfl
  split
  · rfl
  · split
    · exact (count_beside v hk (by decide)).trans hv
    · split
      · exact (note_beside _ hk ..).trans ((count_beside v hk (by decide)).trans hv)
      · exact hv

theorem withdraw_beside : s.withdraw.tallyAt k = s.tallyAt k := by
  unfold State.withdraw
  split
  · exact (note_beside _ hk ..).trans rfl
  · rfl

theorem holdover_beside : s.holdover.tallyAt k = s.tallyAt k := by
  unfold State.holdover
  extract_lets t _ u
  exact (toTime_beside u hk _).trans (withdraw_beside s hk)

/-! ### Ports and bridge -/

theorem flush_beside {p : Nat} (hp : p < 32) : (s.flush p).tallyAt k = s.tallyAt k := by
  unfold State.flush
  extract_lets cut n _ t
  exact countN_beside t hk _ (elsewhere_port hp (by simp [mTxFlush]))

theorem dishonour_beside (kind cause win be addr data : Nat) :
    (s.dishonour kind cause win be addr data).tallyAt k = s.tallyAt k := by
  unfold State.dishonour
  extract_lets n _ t e _ u
  split
  · exact (count_beside t hk (by decide)).trans rfl
  · exact (noteOnce_beside u hk ..).trans rfl

theorem bridgeQuiet_beside : s.bridgeQuiet.tallyAt k = s.tallyAt k := by
  unfold State.bridgeQuiet
  extract_lets out _ t u
  calc (u.finish 0x0C02 stDenied []).tallyAt k = u.tallyAt k := finish_beside u hk ..
    _ = t.tallyAt k := foldl_keeps (State.tallyAt · k) _ (fun _ _ => dishonour_beside _ hk ..) _ _
    _ = s.tallyAt k := rfl

theorem goQuiet_beside (r : Role) (cause : Nat) : (s.goQuiet r cause).tallyAt k = s.tallyAt k := by
  unfold State.goQuiet
  extract_lets was t _ u v
  have hu : u.tallyAt k = s.tallyAt k := roleTo_beside s hk r cause 0
  have hv : v.tallyAt k = s.tallyAt k := by
    refine List.foldlRecOn (motive := fun x : State => x.tallyAt k = s.tallyAt k) _ _
      ((bridgeQuiet_beside u hk).trans hu) fun x hx p hp => ?_
    split
    · exact (flush_beside x hk (by have := List.mem_range.mp hp; omega)).trans hx
    · exact hx
  split
  · exact hu
  · split
    · exact (holdover_beside v hk).trans hv
    · exact hv

/-! ### Seeds and egress -/

theorem seedHit_beside (x : Seed) : (s.seedHit x).1.tallyAt k = s.tallyAt k := by
  have hcount := count_beside s hk (j := tlSec 13) (by decide)
  unfold State.seedHit
  extract_lets x t
  split
  · split
    · exact hcount
    · exact (note_beside t hk ..).trans hcount
  · exact (note_beside t hk ..).trans hcount

theorem injectCan_beside (kind : Nat) (pred can : List Byte → Bool) :
    (s.injectCan kind pred can).2.tallyAt k = s.tallyAt k := by
  refine List.foldlRecOn
    (motive := fun a : List Seed × List (List Byte) × State => a.2.2.tallyAt k = s.tallyAt k)
    _ _ rfl fun acc hacc x _ => ?_
  dsimp only
  split
  · split
    · exact hacc
    · split
      · split
        · exact (count_beside _ hk (by decide)).trans hacc
        · exact hacc
      · exact (seedHit_beside _ hk _).trans hacc
  · exact hacc

theorem inject_beside (kind : Nat) (pred : List Byte → Bool) :
    (s.inject kind pred).2.tallyAt k = s.tallyAt k :=
  injectCan_beside s hk ..

theorem injects_beside (kind : Nat) (pred : List Byte → Bool) :
    (s.injects kind pred).2.tallyAt k = s.tallyAt k :=
  inject_beside s hk ..

theorem choose_beside (p n : Nat) : (s.choose p n).tallyAt k = s.tallyAt k := by
  induction n generalizing s with
  | zero => rfl
  | succ n ih =>
    unfold State.choose
    split
    · rfl
    next hidle =>
      have hp : p < 24 := by
        by_contra hp
        simp [Nat.not_lt.mp hp] at hidle
      split
      · rfl
      next c _ =>
        extract_lets x r t sched _ pn
        have ht : t.tallyAt k = s.tallyAt k := (show r.2.tallyAt k = _ from injects_beside s hk ..)
        split
        · split
          · rfl
          · exact (count_beside _ hk (elsewhere_port (by omega) (by simp [mSecPnExhaust]))).trans rfl
        · split
          · exact (ih _).trans ht
          · split
            · exact ht
            · extract_lets now u v
              split
              · exact ht
              · split
                · exact (note_beside v hk ..).trans ht
                · exact ht

theorem dropHost_beside {q j : Nat} (h : Elsewhere (tlHost j)) : (s.dropHost q j).tallyAt k = s.tallyAt k := by
  unfold State.dropHost
  split
  · exact count_beside _ hk h
  · rfl

theorem hrxPump_beside {q : Nat} (hq : q < 8) (read : Bool) (n : Nat) :
    (s.hrxPump q read n).tallyAt k = s.tallyAt k := by
  induction n generalizing s with
  | zero => rfl
  | succ n ih =>
    unfold State.hrxPump
    split
    · rfl
    next c _ =>
      extract_lets x own u full v
      have hv : v.tallyAt k = s.tallyAt k :=
        (dropHost_beside u hk (by
          split <;> simp only [hHrxFull, hHrxTrunc, Elsewhere, tlHost, Machine.tly] <;> omega)).trans rfl
      split
      · split
        · exact (ih _).trans (dropHost_beside s hk (by simp only [hHrxFull, Elsewhere, tlHost, Machine.tly]; omega))
        · rfl
      · split
        · exact ih _
        · split
          · rfl
          · extract_lets need
            split
            · rfl
            · split
              · exact (ih _).trans ((noteOnce_beside v hk ..).trans hv)
              · rfl

theorem hrxAll_beside : s.hrxAll.tallyAt k = s.tallyAt k := by
  unfold State.hrxAll
  refine List.foldlRecOn (motive := fun x : State => x.tallyAt k = s.tallyAt k) _ _ rfl fun x hx q hq => ?_
  exact (hrxPump_beside x hk (List.mem_range.mp hq) _ _).trans hx

theorem egress_beside (p : Nat) : (s.egress p).tallyAt k = s.tallyAt k := by
  unfold State.egress
  split
  · exact hrxAll_beside s hk
  · exact choose_beside s hk ..

theorem egressAll_beside : s.egressAll.tallyAt k = s.tallyAt k := by
  unfold State.egressAll
  exact foldl_keeps (State.tallyAt · k) _ (fun x p => egress_beside x hk p) _ _

/-! ### The twin acts and seals -/

theorem goActive_beside (cause seq : Nat) : (s.goActive cause seq).tallyAt k = s.tallyAt k := by
  unfold State.goActive
  extract_lets was t _ u v
  have hu : u.tallyAt k = s.tallyAt k := roleTo_beside s hk .active cause seq
  have hjoin : u.canRejoin.tallyAt k = s.tallyAt k := (canRejoin_tallyAt u k).trans hu
  have hv : v.tallyAt k = s.tallyAt k := ite_tallyAt
    ((egressAll_beside _ hk).trans (ite_tallyAt ((holdover_beside _ hk).trans hjoin) hjoin)) hu
  exact (mirrorCheck_beside v hk).trans hv

theorem epochSend_beside : s.epochSend.tallyAt k = s.tallyAt k := by
  unfold State.epochSend
  extract_lets h e r t f n u at_ e1 e2
  have ht : t.tallyAt k = s.tallyAt k := inject_beside s hk ..
  have hu : u.tallyAt k = s.tallyAt k := ite_tallyAt ht ht
  exact ite_tallyAt hu hu

theorem restorePort_beside (i : Nat) (l : List Byte) : (s.restorePort i l).tallyAt k = s.tallyAt k := by
  have hne : ∀ i, i < 20 → k ≠ tlPd i := fun i hi => hk.ne (by simp only [Elsewhere, tlPd, Machine.tly]; omega)
  unfold State.restorePort
  split
  · rfl
  · split
    · rfl
    · extract_lets seq t
      have ht : t.tallyAt k = s.tallyAt k :=
        commitAs_tally _ _ _ _ _ _ _ _ _ _ (hne 13 (by decide)) (hne 14 (by decide))
      split
      · exact ht
      · exact ht

theorem restoreEpoch_beside : s.restoreEpoch.tallyAt k = s.tallyAt k := by
  unfold State.restoreEpoch
  split
  · rfl
  · exact foldl_keeps (State.tallyAt · k) _ (fun x e => ite_tallyAt (restorePort_beside x hk ..)
      (ite_tallyAt (tcmWrite_tallyAt ..) rfl)) _ _

theorem prefConflict_beside : s.prefConflict.tallyAt k = s.tallyAt k := noteOnce_beside s hk ..

theorem decide3_beside (j : Judged3) (new : Bool) : (s.decide3 j new).tallyAt k = s.tallyAt k := by
  unfold State.decide3
  extract_lets w _ t peer u v
  have ht : t.tallyAt k = s.tallyAt k := roleTo_beside s hk ..
  have hv : v.tallyAt k = s.tallyAt k :=
    (roleTo_beside u hk ..).trans (ite_tallyAt (prefConflict_beside s hk) rfl)
  refine ite_tallyAt ?missed (ite_tallyAt ?active (ite_tallyAt (ite_tallyAt hv hv) rfl))
  case missed =>
    exact ite_tallyAt (ite_tallyAt rfl rfl) (ite_tallyAt (ite_tallyAt (roleTo_beside s hk ..) rfl) rfl)
  case active =>
    exact ite_tallyAt ht (ite_tallyAt (ite_tallyAt ((note_beside t hk ..).trans ht) ht) rfl)

end

end Sys2Proof.Machine

/-! SUPPORT. Chapter 12, the twin's record: what changes of role, epochs, heartbeats and lanes leave. -/

namespace Sys2Proof.Machine

/-! ### The twin's record -/

theorem only_twin {s t : State} {l : List Part} (h : t.onlyChanges s l) (hl : Part.twin ∉ l) :
    t.twin = { s.twin with act := t.twin.act } :=
  congrArg (fun w : Twin => { w with act := t.twin.act }) (h.2 .twin hl)

theorem pins_twin (s : State) : s.pins.twin = { s.twin with act := s.pins.twin.act } :=
  only_twin (l := []) (pins_only s []) (by decide)

theorem pins_role (s : State) : s.pins.twin.role = s.twin.role := (congrArg Twin.role (pins_twin s)).trans rfl

/-- TWIN_ACT does not outlive the active role. -/
theorem pins_act_of_role {s : State} (h : s.twin.role ≠ .active) : s.pins.twin.act = false := by
  simp [State.pins, State.insControl, State.actHolds, h]

theorem pins_act_of_off {s : State} (h : s.twin.act = false) : s.pins.twin.act = false := by
  simp [State.pins, State.insControl, h]

/-- The level of TWIN_ACT is no part of the state on its own. -/
theorem actOff_only (s : State) : ({ s with twin := { s.twin with act := false } } : State).onlyChanges s [] :=
  ⟨rfl, fun p _ => by cases p <;> simp [State.same]⟩

theorem quiet_iff (s : State) : s.quiet = true ↔ s.twin.role = .standby ∨ s.twin.role = .orphaned := by
  simp [State.quiet]

theorem roleTo_twin (s : State) (r : Role) (cause seq : Nat) :
    ∃ a, (s.roleTo r cause seq).twin = { s.twin with role := r, act := a } := by
  unfold State.roleTo
  extract_lets old _ t
  split
  next h => exact ⟨s.twin.act, h ▸ rfl⟩
  · exact ⟨_, State.note_twin ..⟩

theorem roleTo_clk (s : State) (r : Role) (cause seq : Nat) : (s.roleTo r cause seq).clk = s.clk := by
  unfold State.roleTo
  extract_lets old _ t
  split
  · rfl
  · exact State.note_clk ..

theorem mirrorCheck_twin (s : State) :
    ∃ m, s.mirrorCheck.twin = { s.twin with mirrored := m } := by
  unfold State.mirrorCheck
  split
  · exact ⟨_, rfl⟩
  · exact ⟨_, State.note_twin ..⟩

/-- A device that stops acting outside itself has its new role and gives up the seal and the switch-over
that waited. -/
theorem goQuiet_twin (s : State) (r : Role) (cause : Nat) : ∃ a, (s.goQuiet r cause).twin =
    { s.twin with
      role := r, act := a, sealWait := false, planned := none, window := [], cleanSince := s.now
      mirrored := s.twin.mirrored && s.quiet } := by
  obtain ⟨a, hrole⟩ := roleTo_twin s r cause 0
  have hnow := now_of_clk (roleTo_clk s r cause 0)
  unfold State.goQuiet
  extract_lets was t _ u v
  have hu : u.twin = { s.twin with
      role := r, act := false, sealWait := false, planned := none, window := [], cleanSince := s.now
      mirrored := s.twin.mirrored && s.quiet } := by
    change { t.twin with
      act := false, sealWait := false, planned := none, window := [], cleanSince := t.now
      mirrored := t.twin.mirrored && s.quiet } = _
    rw [hrole, hnow]
  have hv : v.onlyChanges u
      [.mailbox, .interrupts, .tallies, .daybook, .outputs, .flash, .fabric, .time, .bridge] :=
    only_foldl _ _ (fun x p => only_ite (only_step (only_refl ..) (State.flush_touch x p)) (only_refl ..)) _ _ _
      (only_step (only_refl ..) (State.bridgeQuiet_touch u))
  have hlast := only_twin (only_ite (c := was = true) (only_refl u _)
    (only_ite (c := v.slaved = true) (only_step hv (State.holdover_touch v)) hv)) (by decide)
  exact ⟨_, hlast.trans (by rw [hu])⟩

/-- A device that acts outside itself again is active, with nothing left of a takeover or switch-over. -/
theorem goActive_twin (s : State) (cause seq : Nat) : ∃ a m, (s.goActive cause seq).twin =
    { s.twin with
      role := .active, act := a, refreshAt := s.now, mirrored := m, taking := none, planned := none
      wantBack := false, window := [], appliedRow := 0, beaconAt := s.now } := by
  obtain ⟨a, hrole⟩ := roleTo_twin s .active cause seq
  have hnow := now_of_clk (roleTo_clk s .active cause seq)
  unfold State.goActive
  extract_lets was t _ u v
  have hu : u.twin = { s.twin with
      role := .active, act := true, refreshAt := s.now, mirrored := true, taking := none
      planned := none, wantBack := false, window := [], appliedRow := 0, beaconAt := s.now } := by
    change { t.twin with
      act := true, refreshAt := t.now, mirrored := true, taking := none, planned := none
      wantBack := false, window := [], appliedRow := 0, beaconAt := t.now } = _
    rw [hrole, hnow]
  have hjoin := State.canRejoin_touch u
  have hv : v.onlyChanges u [.interrupts, .tallies, .daybook, .outputs, .flash, .ports, .fabric, .time,
      .can, .vault, .seeds] :=
    only_ite (only_step (only_ite (only_step (only_sub hjoin (by decide)) (State.holdover_touch _))
      (only_sub hjoin (by decide))) (State.egressAll_touch _)) (only_refl ..)
  obtain ⟨m, hm⟩ := mirrorCheck_twin v
  exact ⟨v.twin.act, m, hm.trans (by rw [only_twin hv (by decide), hu])⟩

/-! ### Sealing (R399) -/

/-- An active device with a seal requested and no task running seals. -/
theorem seal_active {s : State} (hwait : s.twin.sealWait = true) (hfree : s.triad.running = none)
    (hrole : s.twin.role = .active) :
    s.seal.twin.sealWait = false ∧ s.seal.twin.sealed = (s.twin.sealed + 1) % 2 ^ 64 ∧
      s.seal.twin.role = .active ∧
      s.seal.tallyAt (tlTwin 0) = min tlyMax (s.tallyAt (tlTwin 0) + 1) := by
  have hbeside := beside_twin (i := 0) (by decide)
  unfold State.seal
  rw [if_neg (by simp [hwait, hfree])]
  extract_lets _ t u late planned _ v
  rw [if_neg (by simpa [t] using hrole)]
  have hu : u.twin = { t.twin with act := u.twin.act } :=
    only_twin (State.epochSend_touch t) (by decide)
  obtain ⟨m, hm⟩ := mirrorCheck_twin (v.count (tlTwin 0))
  have hlast : (v.count (tlTwin 0)).mirrorCheck.tallyAt (tlTwin 0) = min tlyMax (u.tallyAt (tlTwin 0) + 1) :=
    (mirrorCheck_beside _ hbeside).trans (count_self v _)
  refine ⟨?_, ?_, ?_, hlast.trans ?_⟩
  · exact (congrArg Twin.sealWait hm).trans (congrArg Twin.sealWait hu)
  · exact (congrArg Twin.sealed hm).trans ((congrArg (fun w : Twin => (w.sealed + 1) % 2 ^ 64) hu).trans rfl)
  · exact (congrArg Twin.role hm).trans ((congrArg Twin.role hu).trans hrole)
  · rw [epochSend_beside t hbeside]

/-! ### Received epochs (R403) -/

/-- An epoch that ends whole: complete, long enough, and as long as its header says. -/
abbrev EpochWhole (b : List Byte) (whole : Bool) : Prop :=
  whole = true ∧ 80 ≤ b.length ∧ fld b 4 4 = b.length

/-- An epoch whose mark and CRC verify. -/
abbrev EpochGood (b : List Byte) : Prop :=
  b.take 4 = [0x5A, 0x45, 0x53, 0x43] ∧
    BitVec.ofNat 32 (fld b (b.length - 16) 4) = crc32c (b.take (b.length - 16))

/-- An epoch of this unit's parison, newer than the one applied. -/
abbrev State.epochOurs (s : State) (b : List Byte) : Prop :=
  slice b 0x20 8 = s.parPrefix ∧ (s.twin.epoch = none ∨ s.twin.applied < fld b 8 8)

/-- The levels that an epoch's items give the hold latches. -/
def State.takeItems (s : State) (items : List (EscRec × List Byte)) : State :=
  items.foldl (fun s x => if x.1.space = 3 then s.takeLevels x.2 else s) s

theorem takeItems_only (s : State) (items : List (EscRec × List Byte)) :
    (s.takeItems items).onlyChanges s [.sleep] := by
  unfold State.takeItems
  refine only_foldl _ _ (fun x e => ?_) _ _ _ (only_refl ..)
  exact only_ite (State.takeLevels_touch x e.2) (only_refl ..)

theorem takeItems_of_no_levels (s : State) {items : List (EscRec × List Byte)}
    (h : ∀ x ∈ items, x.1.space ≠ 3) : s.takeItems items = s := by
  unfold State.takeItems
  exact List.foldlRecOn (motive := fun t : State => t = s) _ _ rfl fun _ ht x hx => by rw [if_neg (h x hx), ht]

theorem mem_epochItems {es : List EscRec} {l : List Byte} {x : EscRec × List Byte}
    (h : x ∈ epochItems es l) : x.1 ∈ es := by
  induction es generalizing l with
  | nil => cases h
  | cons e es ih =>
    cases h with
    | head => exact List.mem_cons_self
    | tail _ h => exact List.mem_cons_of_mem _ (ih h)

/-- The latches after each group took its levels. -/
theorem levels_toNat (x : BitVec 16) {a b : Nat} (ha : a < 256) (hb : b < 256) :
    let m0 : BitVec 16 := BitVec.ofNat 16 255 <<< 0
    let m1 : BitVec 16 := BitVec.ofNat 16 255 <<< 8
    ((((x &&& ~~~m0) ||| (BitVec.ofNat 16 a <<< 0 &&& m0)) &&& ~~~m1) |||
      (BitVec.ofNat 16 b <<< 8 &&& m1)).toNat = a + 256 * b := by
  intro m0 m1
  have hsum : a + 256 * b = (BitVec.ofNat 16 (2 ^ 8 * b + a)).toNat := by
    rw [BitVec.toNat_ofNat, Nat.mod_eq_of_lt (by omega)]
    omega
  rw [hsum]
  congr 1
  ext i hi
  have hbit (n i : Nat) (hi : i < 16) : (BitVec.ofNat 16 n)[i] = n.testBit i := by
    simp [← BitVec.getLsbD_eq_getElem, BitVec.getLsbD_ofNat, hi]
  have hm (i : Nat) : Nat.testBit 255 i = decide (i < 8) := Nat.testBit_two_pow_sub_one 8 i
  simp only [m0, m1, BitVec.shiftLeft_zero, BitVec.getElem_or, BitVec.getElem_and, BitVec.getElem_not,
    BitVec.getElem_shiftLeft, hbit, hm, Nat.testBit_two_pow_mul_add _ (show a < 2 ^ 8 from ha)]
  by_cases h : i < 8
  · simp [h]
  · simp [h, show i - 8 < 8 by omega]

/-- Both groups of latches at an item's levels. -/
theorem takeLevels_latches {s : State} (h0 : s.hasDom 0 = true) (h1 : s.hasDom 1 = true) (l : List Byte) :
    (s.takeLevels l).sleep.latches.toNat = fld l 0 2 := by
  have hsum : fld l 0 2 = fld l 0 1 + 256 * fld l 1 1 := by
    match l with
    | [] => rfl
    | [_] => rfl
    | x :: y :: _ => simp [fld, slice, ofLe]
  have hdom : (s.driveOut 0 (fld l 0 1) 255).hasDom 1 = true := h1
  rw [hsum, State.takeLevels, h0, if_pos rfl, hdom, if_pos rfl]
  have ha := fld_one_lt l 0
  have hb := fld_one_lt l 1
  simp only [State.driveOut, if_true, Nat.one_ne_zero, if_false, Nat.mod_eq_of_lt ha, Nat.mod_eq_of_lt hb,
    Nat.mod_eq_of_lt (show 255 < 256 by decide)]
  exact levels_toNat _ ha hb

section
variable {s : State} {b : List Byte} {whole : Bool}

theorem epochIn_idle (h : s.quiet = false ∨ s.escrowUp = false) : s.epochIn b whole = s := by
  rw [State.epochIn, if_pos]
  obtain h | h := h <;> simp [h]

section
variable (hq : s.quiet = true) (hup : s.escrowUp = true)
include hq hup

theorem epochIn_cut (h : ¬EpochWhole b whole) : s.epochIn b whole = s.epochDrop 3 := by
  rw [State.epochIn, if_neg (by simp [hq, hup]), if_pos]
  simp only [EpochWhole] at h
  simp only [Bool.or_eq_true, decide_eq_true_eq, Bool.not_eq_true']
  cases whole <;> simp at h ⊢
  omega

variable (hwhole : EpochWhole b whole)
include hwhole

theorem epochIn_bad (h : ¬EpochGood b) : s.epochIn b whole = s.epochDrop 2 := by
  obtain ⟨rfl, hlong, hlen⟩ := hwhole
  rw [State.epochIn, if_neg (by simp [hq, hup]), if_neg (by simp [hlen]; omega), if_pos]
  simp only [EpochGood] at h
  simpa [-not_and] using not_and_or.mp h

variable (hgood : EpochGood b)
include hgood

theorem epochIn_foreign (h : ¬s.epochOurs b) : s.epochIn b whole = s.epochDrop 4 := by
  obtain ⟨rfl, hlong, hlen⟩ := hwhole
  obtain ⟨hmark, hcrc⟩ := hgood
  rw [State.epochIn, if_neg (by simp [hq, hup]), if_neg (by simp [hlen]; omega),
    if_neg (by simp [hmark, hcrc]), if_pos]
  obtain h | h := not_and_or.mp h
  · simp [h]
  · obtain ⟨hset, hold⟩ := not_or.mp h
    simp [Option.isSome_iff_ne_none, hset, Nat.not_lt.mp hold]

/-- An epoch that is taken: kept as the applied one, its levels given to the latches, counted. -/
theorem epochIn_taken (h : s.epochOurs b) : ∃ planned since, s.epochIn b whole =
    (({ s with twin := { s.twin with
        epoch := some b, epochSet := s.escrowSet, applied := fld b 8 8, mirrored := true
        planned := planned, cleanSince := since } }).takeItems
      (epochItems s.escrowSet (epochBody b))).count (tlTwin 1) := by
  obtain ⟨rfl, hlong, hlen⟩ := hwhole
  obtain ⟨hmark, hcrc⟩ := hgood
  rw [State.epochIn, if_neg (by simp [hq, hup]), if_neg (by simp [hlen]; omega),
    if_neg (by simp [hmark, hcrc]), if_neg]
  · exact ⟨_, _, rfl⟩
  · obtain ⟨hours, hnew | hnew⟩ := h <;> simp [hours, hnew]

end
end

/-! ### Double claims (R410) -/

/-- Whether a heartbeat came within the last round. -/
def State.hearsPeer (s : State) : Bool :=
  match s.twin.hb with
  | some _ => decide (s.net ≤ s.twin.hbNet + s.roundNs)
  | none => false

theorem hearsPeer_iff (s : State) :
    s.hearsPeer = true ↔ s.twin.hb ≠ none ∧ s.net ≤ s.twin.hbNet + s.roundNs := by
  unfold State.hearsPeer
  cases hb : s.twin.hb <;> simp

theorem hearsPeer_congr {s t : State} {l : List Part} (h : t.onlyChanges s l) (htwin : t.twin = s.twin)
    (hclk : t.clk = s.clk) (hpar : Part.parison ∉ l) (hgaf : Part.gaffer ∉ l) : t.hearsPeer = s.hearsPeer := by
  have hround : t.roundNs = s.roundNs := by
    simp only [State.roundNs, only_par_eq h hpar, only_gaf_eq h hgaf]
  rw [Bool.eq_iff_iff, hearsPeer_iff, hearsPeer_iff, State.net, State.net, hround, htwin, hclk]

/-- Reporting two units of one preference, where they are. -/
def State.prefNoted (s : State) (pref : Bool) : State := if s.sys.pref = pref then s.prefConflict else s

theorem prefNoted_only (s : State) (pref : Bool) : (s.prefNoted pref).onlyChanges s eventParts :=
  only_ite (noteOnce_only _ _ _ _ _ (by decide)) (only_refl ..)

theorem prefNoted_twin (s : State) (pref : Bool) : (s.prefNoted pref).twin = s.twin := by
  unfold State.prefNoted
  split
  · exact State.noteOnce_twin ..
  · rfl

theorem prefNoted_sys (s : State) (pref : Bool) : (s.prefNoted pref).sys = s.sys :=
  (prefNoted_only s pref).2 .system (by decide)

theorem prefNoted_clk (s : State) (pref : Bool) : (s.prefNoted pref).clk = s.clk := by
  unfold State.prefNoted
  split
  · exact State.noteOnce_clk ..
  · rfl

theorem prefNoted_beside (s : State) (pref : Bool) {k : Nat} (hk : Beside k) :
    (s.prefNoted pref).tallyAt k = s.tallyAt k := ite_tallyAt (prefConflict_beside s hk) rfl

theorem prior_congr {s t : State} (hsys : t.sys = s.sys) (hconf : t.twin.conf = s.twin.conf)
    (pref : Bool) : t.prior pref = s.prior pref := by
  rw [State.prior, State.prior, State.peerMac, State.peerMac, hsys, hconf]

/-- The unit whose claim comes first stays as it is. -/
theorem doubleClaim_wins {s : State} {pref : Bool} (src : Nat) (h : s.prior pref = true) :
    (s.doubleClaim src pref).twin = s.twin := by
  have hwins := (prior_congr (prefNoted_sys s pref) (congrArg Twin.conf (prefNoted_twin s pref)) pref).trans h
  change (if (s.prefNoted pref).prior pref then _ else _ : State).twin = _
  rw [if_pos hwins]
  exact (State.noteOnce_twin ..).trans (prefNoted_twin s pref)

/-- The other demotes: a standby where it hears its peer, else orphaned. -/
theorem doubleClaim_loses {s : State} {pref : Bool} (src : Nat) (h : s.prior pref = false) :
    (s.doubleClaim src pref).twin.hb = s.twin.hb ∧ (s.doubleClaim src pref).twin.hbNet = s.twin.hbNet ∧
      (s.doubleClaim src pref).twin.role = (if s.hearsPeer then .standby else .orphaned) ∧
      (s.doubleClaim src pref).tallyAt (tlTwin 7) = min tlyMax (s.tallyAt (tlTwin 7) + 1) := by
  have hbeside := beside_twin (i := 7) (by decide)
  have hwins := (prior_congr (prefNoted_sys s pref) (congrArg Twin.conf (prefNoted_twin s pref)) pref).trans h
  generalize hu : (s.prefNoted pref).noteOnce 0 (ev 12 3)
    (le 1 src ++ le 1 (bnat ((s.prefNoted pref).prior pref))) = u
  have htwin : u.twin = s.twin := by rw [← hu, State.noteOnce_twin, prefNoted_twin]
  have htally : u.tallyAt (tlTwin 7) = s.tallyAt (tlTwin 7) := by
    rw [← hu, noteOnce_beside _ hbeside, prefNoted_beside s pref hbeside]
  have honly : u.onlyChanges s eventParts :=
    hu ▸ only_trans (prefNoted_only s pref) (noteOnce_only _ _ _ _ _ (by decide))
  have hclk : u.clk = s.clk := by rw [← hu, State.noteOnce_clk, prefNoted_clk]
  have hclaim : s.doubleClaim src pref =
      (u.goQuiet (if u.hearsPeer then .standby else .orphaned) 3).count (tlTwin 7) := by
    rw [← hu]
    change (if (s.prefNoted pref).prior pref then _ else _ : State) = _
    rw [if_neg (by simp [hwins])]
    rfl
  obtain ⟨a, hquiet⟩ := goQuiet_twin u (if u.hearsPeer then .standby else .orphaned) 3
  have hcount : (s.doubleClaim src pref).tallyAt (tlTwin 7) = min tlyMax (s.tallyAt (tlTwin 7) + 1) := by
    rw [hclaim, ← htally, ← goQuiet_beside u hbeside]
    exact count_self ..
  have hafter : (s.doubleClaim src pref).twin = (u.goQuiet (if u.hearsPeer then .standby else .orphaned) 3).twin :=
    hclaim ▸ State.count_twin ..
  rw [hearsPeer_congr honly htwin hclk (by decide) (by decide)] at hquiet hafter
  rw [hafter, hquiet]
  exact ⟨(congrArg Twin.hb htwin :), (congrArg Twin.hbNet htwin :), rfl, hcount⟩

/-! ### Heartbeats (R404, R405) -/

theorem escrowTime_twin (s : State) (n : Nat) : ∃ a, (s.escrowTime n).twin = { s.twin with act := a } :=
  ⟨_, only_twin (State.escrowTime_touch s n) (by decide)⟩

/-- What a heartbeat brings leaves the role, but for a double claim, and the heartbeat itself. -/
theorem heardFrom_keeps {s : State} {h : Heartbeat} (old : Option Heartbeat)
    (hclaim : s.twin.role ≠ .active ∨ h.role ≠ .active) :
    (s.heardFrom h old).twin.role = s.twin.role ∧ (s.heardFrom h old).twin.hb = s.twin.hb ∧
      (s.heardFrom h old).twin.hbNet = s.twin.hbNet := by
  unfold State.heardFrom
  extract_lets seq before row _ t _ u
  split
  next hactive =>
    rw [if_neg (hclaim.resolve_left (not_not.mpr hactive))]
    obtain ⟨m, hm⟩ := mirrorCheck_twin { s with twin := { s.twin with appliedRow := row } }
    have ht : t.twin.role = s.twin.role ∧ t.twin.hb = s.twin.hb ∧ t.twin.hbNet = s.twin.hbNet :=
      ⟨(congrArg Twin.role hm).trans rfl, (congrArg Twin.hb hm).trans rfl, (congrArg Twin.hbNet hm).trans rfl⟩
    split
    · exact ht
    · exact ht
  next =>
    split
    · have hu : u.twin.role = s.twin.role ∧ u.twin.hb = s.twin.hb ∧ u.twin.hbNet = s.twin.hbNet := by
        simp only [u]
        split
        · exact ⟨rfl, rfl, rfl⟩
        · exact ⟨rfl, rfl, rfl⟩
      obtain ⟨a, ha⟩ := escrowTime_twin u h.time
      rw [ha]
      exact hu
    · exact ⟨rfl, rfl, rfl⟩

/-! ### Lanes (R402) -/

theorem laneTo_idle {s : State} {k : Nat} {up : Bool}
    (h : s.lane k = up ∨ ((if k = 0 then s.twin.retired0 else s.twin.retired1) = true ∧ up = true)) :
    s.laneTo k up = s := by
  rw [State.laneTo, if_pos (by simpa using h)]

/-- The lane as it comes or goes, and its report. -/
def State.laneSet (s : State) (k : Nat) (up : Bool) : State :=
  let t := { s with twin := if k = 0 then { s.twin with lane0 := up } else { s.twin with lane1 := up } }
  (if up then t else t.count (tlTwin 9)).note (ev 12 5) (le 1 k ++ le 1 (bnat up))

theorem laneSet_twin (s : State) (k : Nat) (up : Bool) : (s.laneSet k up).twin =
    if k = 0 then { s.twin with lane0 := up } else { s.twin with lane1 := up } := by
  cases up <;> exact State.note_twin ..

theorem laneSet_tally (s : State) (k : Nat) : (s.laneSet k false).tallyAt (tlTwin 9) =
    min tlyMax (s.tallyAt (tlTwin 9) + 1) :=
  (note_beside _ (beside_twin (by decide)) ..).trans (count_self ..)

/-- A lane changes: its report, the keying of the link by its first lane, its end with the last. -/
theorem laneTo_change {s : State} {k : Nat} {up : Bool} (hne : s.lane k ≠ up)
    (hgone : ¬((if k = 0 then s.twin.retired0 else s.twin.retired1) = true ∧ up = true)) :
    let t := s.laneSet k up
    s.laneTo k up =
      if up && !(s.twin.lane0 || s.twin.lane1) then (if t.twinOn then (t.keyPolicy 24).keyStart 24 else t)
      else if !up && !(t.twin.lane0 || t.twin.lane1) then
        (if (t.keyDrop 24).slaved && (t.keyDrop 24).time.slave = some 24 then (t.keyDrop 24).holdover
          else t.keyDrop 24)
      else t := by
  rw [State.laneTo, if_neg (by simpa [hne] using hgone)]
  rfl


end Sys2Proof.Machine

/-! SUPPORT. Chapter 12, epochs, heartbeats, beacons and lanes (R393, R399, R402 to R406, R409, R410). -/

namespace Sys2Proof.Machine

/-! ### Epochs by their rows -/

/-- A requested snapshot of a device that is not active is given up. -/
theorem seal_inactive {s : State} (hwait : s.twin.sealWait = true) (hfree : s.triad.running = none)
    (hrole : s.twin.role ≠ .active) : s.seal = { s with twin := { s.twin with sealWait := false } } := by
  rw [State.seal, if_neg (by simp [hwait, hfree])]
  exact if_pos (by simpa using hrole)

theorem seal_idle {s : State} (h : ¬(s.twin.sealWait = true ∧ s.triad.running = none)) : s.seal = s := by
  rw [State.seal, if_pos]
  by_cases hwait : s.twin.sealWait = true
  · simpa [hwait, Option.isSome_iff_ne_none] using h
  · simp [hwait]

/-- A discarded epoch is counted by its cause, and the applied one stays. -/
theorem epochReceive_drop {s : State} {dt : Nat} {b : List Byte} {whole : Bool} {k : Nat}
    (h : (s.elapse dt).epochIn b whole = (s.elapse dt).epochDrop k) :
    ∃ t, exec (.epochReceive dt b whole) s = .next t ∧ t.twin.epoch = s.twin.epoch ∧
      t.twin.applied = s.twin.applied ∧
      Tab.get 0 t.tly.live (tlTwin k) = min tlyMax (Tab.get 0 s.tly.live (tlTwin k) + 1) ∧
      t.onlyChanges s [.twin, .tallies] := by
  refine ⟨((s.elapse dt).epochDrop k).pins, congrArg go h, ?_, ?_, ?_, ?_⟩
  · rw [pins_twin]; rfl
  · rw [pins_twin]; rfl
  · rw [State.pins_tly]; exact count_self ..
  · exact go_only (only_sub (State.epochDrop_touch _ k) (by decide))

/-- The epoch that is taken becomes the applied one. -/
theorem epochReceive_taken {s : State} {dt : Nat} {b : List Byte} {whole : Bool} (hq : s.quiet = true)
    (hup : s.escrowUp = true) (hwhole : EpochWhole b whole) (hgood : EpochGood b) (hours : s.epochOurs b) :
    ∃ t, exec (.epochReceive dt b whole) s = .next t ∧
      t.twin.epoch = some b ∧ t.twin.applied = fld b 8 8 ∧ t.twin.epochSet = s.escrowSet ∧
      t.twin.mirrored = true ∧ t.twin.role = s.twin.role ∧
      Tab.get 0 t.tly.live (tlTwin 1) = min tlyMax (Tab.get 0 s.tly.live (tlTwin 1) + 1) ∧
      ((∀ x ∈ s.escrowSet, x.space ≠ 3) → t.sleep = s.sleep) ∧
      (s.escrowSet = [{ space := 3, loc := 0, len := 0 }] → s.hasDom 0 = true → s.hasDom 1 = true →
        t.sleep.latches.toNat = fld (epochBody b) 0 2) ∧
      t.onlyChanges s [.twin, .tallies, .sleep] := by
  obtain ⟨planned, since, htaken⟩ := epochIn_taken (s := s.elapse dt) hq hup hwhole hgood hours
  generalize hu : ({ s.elapse dt with twin := { (s.elapse dt).twin with
    epoch := some b, epochSet := (s.elapse dt).escrowSet, applied := fld b 8 8, mirrored := true
    planned := planned, cleanSince := since } } : State) = u at htaken
  have hitems := takeItems_only u (epochItems s.escrowSet (epochBody b))
  generalize hv : u.takeItems (epochItems s.escrowSet (epochBody b)) = v at hitems
  have honly : (v.count (tlTwin 1)).pins.onlyChanges u [.tallies, .sleep] :=
    only_pins (only_step (only_sub hitems (by decide)) (State.count_touch v _))
  have hstart : u.onlyChanges (s.elapse dt) [.twin] := hu ▸ only_set_twin _ (only_refl ..) (by decide)
  have htwin := only_twin honly (by decide)
  have htly : v.tly = s.tly := (hitems.2 .tallies (by decide)).trans (hstart.2 .tallies (by decide))
  have hsleep : (v.count (tlTwin 1)).pins.sleep = v.sleep :=
    (State.pins_sleep _).trans (State.count_sleep ..)
  refine ⟨(v.count (tlTwin 1)).pins, congrArg go (htaken.trans (congrArg (State.count · (tlTwin 1)) hv)), ?_, ?_,
    ?_, ?_, ?_, ?_, fun hset => ?_, fun hset h0 h1 => ?_, ?_⟩
  · rw [htwin, ← hu]
  · rw [htwin, ← hu]
  · rw [htwin, ← hu]; rfl
  · rw [htwin, ← hu]
  · rw [htwin, ← hu]; rfl
  · rw [State.pins_tly, count_self, htly]
  · rw [hsleep, ← hv, takeItems_of_no_levels u fun x hx => hset _ (mem_epochItems hx)]
    exact hstart.2 .sleep (by decide)
  · have hd (d : Nat) : u.hasDom d = s.hasDom d := only_hasDom hstart (by decide) d
    have hone : v = u.takeLevels ((epochBody b).take 8) := by rw [← hv, hset]; rfl
    rw [hsleep, hone, takeLevels_latches ((hd 0).trans h0) ((hd 1).trans h1)]
    simp [fld, slice, List.take_take]
  · exact go_only (only_step (only_step (only_sub hstart (by decide)) hitems) (State.count_touch v _))

/-! ### Heartbeats and beacons by their rows -/

theorem heartbeatIn_valid {s : State} {h : Heartbeat} (hon : s.twinOn = true) (hup : s.escrowUp = true)
    (hauth : h.authOk = true ∨ (s.key 24).isOpen = true) : s.heartbeatIn h =
      ({ s with twin := { s.twin with hb := some h, hbNet := s.net } }).heardFrom h s.twin.hb := by
  rw [State.heartbeatIn, if_neg]
  obtain hauth | hauth := hauth <;> simp [hon, hup, hauth]

theorem heardFrom_claim {s : State} {h : Heartbeat} (old : Option Heartbeat)
    (hrole : s.twin.role = .active) (hclaim : h.role = .active) :
    s.heardFrom h old = s.doubleClaim 0 h.pref := by
  unfold State.heardFrom
  rw [if_pos hrole, if_pos hclaim]

/-- A valid heartbeat of a peer that claims ACTIVE too: one of the two demotes. -/
theorem heartbeatRx_claim {s : State} {dt : Nat} {h : Heartbeat}
    (hon : s.twinOn = true) (hup : s.escrowUp = true) (hauth : h.authOk = true ∨ (s.key 24).isOpen = true)
    (hrole : s.twin.role = .active) (hclaim : h.role = .active) :
    ∃ t, exec (.heartbeatRx dt h) s = .next t ∧ t.twin.hb = some h ∧ t.twin.hbNet = (s.elapse dt).net ∧
      (s.prior h.pref = true → t.twin.role = .active) ∧
      (s.prior h.pref = false → t.twin.role = .standby ∧ t.twin.act = false ∧
        Tab.get 0 t.tly.live (tlTwin 7) = min tlyMax (Tab.get 0 s.tly.live (tlTwin 7) + 1)) := by
  let u : State := { s.elapse dt with twin := { s.twin with hb := some h, hbNet := (s.elapse dt).net } }
  have hrun : (s.elapse dt).heartbeatIn h = u.doubleClaim 0 h.pref :=
    (heartbeatIn_valid (s := s.elapse dt) hon hup hauth).trans (heardFrom_claim (s := u) _ hrole hclaim)
  have hprior : u.prior h.pref = s.prior h.pref := rfl
  refine ⟨(u.doubleClaim 0 h.pref).pins, congrArg go hrun, ?_⟩
  cases hp : s.prior h.pref with
  | true =>
    have htwin := doubleClaim_wins 0 (hprior.trans hp)
    rw [pins_twin, htwin]
    exact ⟨rfl, rfl, fun _ => hrole, nofun⟩
  | false =>
    obtain ⟨hhb, hnet, hloses, htally⟩ := doubleClaim_loses 0 (hprior.trans hp)
    have hnear : u.hearsPeer = true := (hearsPeer_iff u).mpr ⟨nofun, Nat.le_add_right ..⟩
    rw [hnear] at hloses
    refine ⟨?_, ?_, nofun, fun _ => ⟨?_, ?_, ?_⟩⟩
    · rw [pins_twin]; exact hhb
    · rw [pins_twin]; exact hnet
    · rw [pins_role]; exact hloses
    · exact pins_act_of_role (by rw [hloses]; decide)
    · rw [State.pins_tly]; exact htally

/-- Any other valid heartbeat leaves the role. -/
theorem heartbeatRx_heard {s : State} {dt : Nat} {h : Heartbeat}
    (hon : s.twinOn = true) (hup : s.escrowUp = true) (hauth : h.authOk = true ∨ (s.key 24).isOpen = true)
    (hclaim : s.twin.role ≠ .active ∨ h.role ≠ .active) :
    ∃ t, exec (.heartbeatRx dt h) s = .next t ∧ t.twin.hb = some h ∧ t.twin.hbNet = (s.elapse dt).net ∧
      t.twin.role = s.twin.role := by
  let u : State := { s.elapse dt with twin := { s.twin with hb := some h, hbNet := (s.elapse dt).net } }
  have hrun : (s.elapse dt).heartbeatIn h = u.heardFrom h s.twin.hb :=
    heartbeatIn_valid (s := s.elapse dt) hon hup hauth
  obtain ⟨hrole, hhb, hnet⟩ := heardFrom_keeps (s := u) s.twin.hb hclaim
  refine ⟨(u.heardFrom h s.twin.hb).pins, congrArg go hrun, ?_⟩
  rw [pins_twin]
  exact ⟨hhb, hnet, hrole⟩

theorem heartbeatIn_idle {s : State} {h : Heartbeat}
    (hno : ¬(s.twinOn = true ∧ s.escrowUp = true ∧ (h.authOk = true ∨ (s.key 24).isOpen = true))) :
    s.heartbeatIn h = s := by
  rw [State.heartbeatIn, if_pos]
  simp only [not_and, not_or, Bool.not_eq_true] at hno
  cases hon : s.twinOn <;> cases hup : s.escrowUp <;> simp_all

section
variable {s : State} (dt : Nat) {p : Fin 4} {b : Beacon} (hup : (s.mac p.val).up = true)
  (hthere : s.absentUnit p.val = false) (hsec : (s.sa p.val).secured = true) (hb : b.secured = true)
  (hmac : b.mac = s.peerMac) (hrole : s.twin.role = .active)
include hup hthere hsec hb hmac hrole

/-- A beacon of the peer that an active device accepts is a claim. -/
theorem beaconRx_runs :
    exec (.beaconRx dt p b) s = .next ((s.elapse dt).doubleClaim 1 b.pref).pins := by
  refine congrArg go (if_pos ?_)
  have hup' : ((s.elapse dt).mac p.val).up = true := hup
  have hthere' : (s.elapse dt).absentUnit p.val = false := hthere
  have hsec' : ((s.elapse dt).sa p.val).secured = true := hsec
  have hmac' : b.mac = (s.elapse dt).peerMac := hmac
  simp [hup', hthere', hsec', hb, hmac', hrole]

end

theorem beaconRx_idle {s : State} {dt : Nat} {p : Fin 4} {b : Beacon}
    (h : ¬((s.mac p.val).up = true ∧ s.absentUnit p.val = false ∧ (s.sa p.val).secured = true ∧
      b.secured = true ∧ b.mac = s.peerMac ∧ s.twin.role = .active)) :
    exec (.beaconRx dt p b) s = go (s.elapse dt) := by
  refine congrArg go (if_neg fun hok => h ?_)
  simp only [Bool.and_eq_true, Bool.not_eq_true', beq_iff_eq, decide_eq_true_eq] at hok
  obtain ⟨⟨⟨⟨⟨hup, hthere⟩, hsec⟩, hb⟩, hmac⟩, hrole⟩ := hok
  exact ⟨hup, hthere, hsec, hb, hmac, hrole⟩

/-! ### Beacons sent -/

/-- What a beacon says (R406). -/
def State.beacon (s : State) : List Byte :=
  be 6 nearestBridge ++ macBytes Config.nodeMac ++ [0x88, 0xB5, 0x5A] ++ macBytes Config.nodeMac ++
    macBytes s.peerMac ++ le 1 (bnat s.sys.pref) ++ le 8 s.twin.sealed

/-- Sending on the open ports of a list adds one message for each, and nothing else. -/
theorem foldl_send_open (body : List Byte) (ps : List Nat) (s : State) :
    ps.foldl (fun s p => if s.portOpen p then s.send (.msg p (ev 12 2) body) else s) s =
      { s with sent := s.sent ++
          (ps.filter s.portOpen).map fun p => Sent.msg p (ev 12 2) body } := by
  induction ps generalizing s with
  | nil => simp
  | cons p ps ih =>
    rw [List.foldl_cons, ih]
    by_cases hp : s.portOpen p = true
    · have hopen : (s.send (.msg p (ev 12 2) body)).portOpen = s.portOpen := rfl
      rw [if_pos hp, hopen, List.filter_cons_of_pos hp, List.map_cons]
      simp [State.send]
    · rw [if_neg hp, List.filter_cons_of_neg hp]

/-- BEACON_SEND once 10 ms have passed. -/
theorem beaconSend_runs {s : State} (dt : Nat) (hrole : s.twin.role = .active)
    (hdue : s.twin.beaconAt ≤ (s.elapse dt).now) : exec (.beaconSend dt) s =
      .next { s.elapse dt with
        twin := { s.twin with beaconAt := (s.elapse dt).now + 10000000 }
        sent := s.sent ++ ((List.range 4).filter (s.elapse dt).portOpen).map fun p =>
          Sent.msg p (ev 12 2) s.beacon : State }.pins := by
  have hdue' : ¬((s.elapse dt).twin.role != .active || decide ((s.elapse dt).now < (s.elapse dt).twin.beaconAt)) =
      true := by
    simp only [Bool.or_eq_true, bne_iff_ne, decide_eq_true_eq, not_or]
    exact ⟨not_not.mpr hrole, Nat.not_lt.mpr hdue⟩
  change (if _ then _ else go ((List.range 4).foldl _ _)) = _
  rw [if_neg hdue', foldl_send_open]
  rfl

theorem beaconSend_idle {s : State} {dt : Nat}
    (h : ¬(s.twin.role = .active ∧ s.twin.beaconAt ≤ (s.elapse dt).now)) :
    exec (.beaconSend dt) s = go (s.elapse dt) := by
  refine if_pos ?_
  simp only [Bool.or_eq_true, bne_iff_ne, decide_eq_true_eq]
  exact (not_and_or.mp h).imp_right Nat.not_le.mp

/-! ### Lanes by their row -/

theorem lane_congr {s t : State} {a : Bool} (h : t.twin = { s.twin with act := a }) (k : Nat) :
    t.lane k = s.lane k := by
  simp only [State.lane, h]

theorem laneSet_lane (s : State) (k : Fin 2) (up : Bool) :
    (s.laneSet k.val up).lane k.val = up ∧ (s.laneSet k.val up).lane (1 - k.val) = s.lane (1 - k.val) := by
  simp only [State.lane, laneSet_twin]
  fin_cases k <;> exact ⟨rfl, rfl⟩

theorem laneSet_role (s : State) (k : Nat) (up : Bool) : (s.laneSet k up).twin.role = s.twin.role := by
  rw [laneSet_twin]
  split <;> rfl

theorem lane_of_or (s : State) (k : Fin 2) :
    (s.twin.lane0 || s.twin.lane1) = (s.lane k.val || s.lane (1 - k.val)) := by
  fin_cases k
  · rfl
  · exact Bool.or_comm ..

/-- A link without its associations. -/
theorem keyDrop_sa (s : State) (l : Nat) : (s.keyDrop l).sa l = sa0 :=
  show Tab.get sa0 (Tab.set sa0 s.fab.sa l sa0) l = sa0 from Tab.get_set_self ..

/-- The first lane keys the link: nothing of the twin's record changes. -/
theorem laneTo_up {s : State} {k : Nat} (hne : s.lane k ≠ true)
    (hgone : (if k = 0 then s.twin.retired0 else s.twin.retired1) = false) :
    ∃ a, (s.laneTo k true).twin = { (s.laneSet k true).twin with act := a } := by
  rw [laneTo_change hne (by simp [hgone])]
  generalize s.laneSet k true = t
  refine ⟨_, only_twin (l := allParts.filter (· ≠ .twin)) ?_ (by decide)⟩
  refine only_ite (only_ite ?_ (only_refl ..)) (only_ite (only_ite ?_ ?_) (only_refl ..))
  · exact only_step (only_step (only_refl ..) (State.keyPolicy_touch t 24)) (State.keyStart_touch _ 24)
  · exact only_step (only_step (only_refl ..) (State.keyDrop_touch t 24)) (State.holdover_touch _)
  · exact only_step (only_refl ..) (State.keyDrop_touch t 24)

/-- A lane that fails is counted; with the last one the link loses its associations. -/
theorem laneTo_down {s : State} {k : Nat} (hne : s.lane k ≠ false) :
    (∃ a, (s.laneTo k false).twin = { (s.laneSet k false).twin with act := a }) ∧
      (s.laneTo k false).tallyAt (tlTwin 9) = min tlyMax (s.tallyAt (tlTwin 9) + 1) ∧
      (((s.laneSet k false).twin.lane0 || (s.laneSet k false).twin.lane1) = false →
        (s.laneTo k false).sa 24 = sa0) := by
  have hbeside := beside_twin (i := 9) (by decide)
  rw [laneTo_change hne (by simp), if_neg (by simp), ← laneSet_tally s k]
  generalize s.laneSet k false = t
  have hfab : (t.keyDrop 24).holdover.fab = (t.keyDrop 24).fab :=
    only_fab_eq (State.holdover_touch _) (by decide)
  refine ⟨⟨_, only_twin (l := allParts.filter (· ≠ .twin)) ?_ (by decide)⟩, ?_, fun hlast => ?_⟩
  · refine only_ite (only_ite ?_ ?_) (only_refl ..)
    · exact only_step (only_step (only_refl ..) (State.keyDrop_touch t 24)) (State.holdover_touch _)
    · exact only_step (only_refl ..) (State.keyDrop_touch t 24)
  · exact ite_tallyAt (ite_tallyAt (holdover_beside _ hbeside) rfl) rfl
  · rw [if_pos (by simp [hlast])]
    split
    · rw [State.sa, hfab]
      exact keyDrop_sa t 24
    · exact keyDrop_sa t 24

/-- A lane that changes: the other keeps its state, the role stays, a failure counts, and with the last
lane the link loses its associations. -/
theorem twinLane_change {s : State} {dt : Nat} {k : Fin 2} {up : Bool} (hne : s.lane k.val ≠ up)
    (hgone : ¬((if k.val = 0 then s.twin.retired0 else s.twin.retired1) = true ∧ up = true)) :
    ∃ t, exec (.twinLane dt k up) s = .next t ∧
      t.lane k.val = up ∧ t.lane (1 - k.val) = s.lane (1 - k.val) ∧ t.twin.role = s.twin.role ∧
      (up = false → Tab.get 0 t.tly.live (tlTwin 9) = min tlyMax (Tab.get 0 s.tly.live (tlTwin 9) + 1)) ∧
      (up = false → s.lane (1 - k.val) = false → t.sa 24 = sa0) := by
  obtain ⟨hself, hother⟩ := laneSet_lane (s.elapse dt) k up
  have hkeeps : (∃ a, ((s.elapse dt).laneTo k up).twin = { ((s.elapse dt).laneSet k up).twin with act := a }) →
      ((s.elapse dt).laneTo k up).pins.lane k.val = up ∧
      ((s.elapse dt).laneTo k up).pins.lane (1 - k.val) = s.lane (1 - k.val) ∧
      ((s.elapse dt).laneTo k up).pins.twin.role = s.twin.role := fun ⟨a, ha⟩ =>
    ⟨(lane_congr (pins_twin _) _).trans ((lane_congr ha _).trans hself),
      (lane_congr (pins_twin _) _).trans ((lane_congr ha _).trans hother),
      (pins_role _).trans ((congrArg Twin.role ha).trans (laneSet_role ..))⟩
  cases up with
  | true =>
    obtain ⟨hk, ho, hr⟩ := hkeeps (laneTo_up (s := s.elapse dt) hne (by simpa using hgone))
    exact ⟨_, rfl, hk, ho, hr, nofun, nofun⟩
  | false =>
    obtain ⟨htwin, htally, hdrop⟩ := laneTo_down (s := s.elapse dt) hne
    obtain ⟨hk, ho, hr⟩ := hkeeps htwin
    refine ⟨_, rfl, hk, ho, hr, fun _ => ?_, fun _ hlast => ?_⟩
    · rw [State.pins_tly]
      exact htally
    · rw [State.sa, State.pins_fab]
      exact hdrop ((lane_of_or _ k).trans (by rw [hself, hother]; exact hlast))

/-! ### The obligation -/

/-- Settles O50, row by row: what the seal, a received epoch, heartbeats, beacons and lanes leave. -/
theorem twinEpochsAndHeartbeats : Obligations.TwinEpochsAndHeartbeats := by
  unfold Obligations.TwinEpochsAndHeartbeats
  refine ⟨fun s dt => ?_, fun s dt b whole => ?_, fun s dt h => ?_, fun s dt p b => ?_, fun _ _ => rfl,
    fun s dt => ?_, fun s dt k up => ?_⟩
  · refine ⟨fun ⟨hwait, hfree⟩ hrole => ?_, fun ⟨hwait, hfree⟩ hrole => ?_, fun hno => ?_⟩
    · obtain ⟨hdone, hseq, hact, htally⟩ := seal_active (s := s.elapse dt) hwait hfree hrole
      refine ⟨_, rfl, ?_⟩
      rw [pins_twin, State.pins_tly]
      exact ⟨hdone, hseq, hact, htally⟩
    · refine ⟨_, congrArg go (seal_inactive (s := s.elapse dt) hwait hfree hrole), ?_, ?_, ?_⟩
      · rw [pins_twin]
      · rw [pins_twin]; rfl
      · exact go_only (only_set_twin _ (only_refl ..) (by decide))
    · exact exec_idle (congrArg go (seal_idle (s := s.elapse dt) hno))
  · refine ⟨fun hq hup => ⟨fun hcut => ?_, fun hwhole hbad => ?_, fun hwhole hgood hforeign => ?_,
      fun hwhole hgood hours => ?_⟩, fun hidle => ?_⟩
    · exact epochReceive_drop (epochIn_cut (s := s.elapse dt) hq hup hcut)
    · exact epochReceive_drop (epochIn_bad (s := s.elapse dt) hq hup hwhole hbad)
    · exact epochReceive_drop (epochIn_foreign (s := s.elapse dt) hq hup hwhole hgood hforeign)
    · exact epochReceive_taken hq hup hwhole hgood hours
    · exact exec_idle (congrArg go (epochIn_idle (s := s.elapse dt) hidle))
  · refine ⟨fun ⟨hon, hup, hauth⟩ => ?_, fun hno => exec_idle (congrArg go (heartbeatIn_idle (s := s.elapse dt) hno))⟩
    by_cases hclaim : s.twin.role = .active ∧ h.role = .active
    · obtain ⟨t, hrun, hhb, hnet, hkeeps, hloses⟩ := heartbeatRx_claim (dt := dt) hon hup hauth hclaim.1 hclaim.2
      exact ⟨t, hrun, hhb, hnet, fun _ _ => ⟨hkeeps, hloses⟩, fun hno =>
        absurd hclaim (not_and_or.mpr hno)⟩
    · obtain ⟨t, hrun, hhb, hnet, hrole⟩ := heartbeatRx_heard (dt := dt) hon hup hauth (not_and_or.mp hclaim)
      exact ⟨t, hrun, hhb, hnet, fun ha hp => absurd ⟨ha, hp⟩ hclaim, fun _ => hrole⟩
  · refine ⟨fun ⟨hup, hthere, hsec, hb, hmac, hrole⟩ hp => ?_,
      fun ⟨hup, hthere, hsec, hb, hmac, hrole⟩ hp => ?_, fun hno => exec_idle (beaconRx_idle hno)⟩
    · refine ⟨_, beaconRx_runs dt hup hthere hsec hb hmac hrole, ?_⟩
      rw [pins_role, doubleClaim_wins (s := s.elapse dt) 1 hp]
      exact hrole
    · obtain ⟨-, -, hloses, htally⟩ := doubleClaim_loses (s := s.elapse dt) 1 hp
      have hiff := hearsPeer_iff (s.elapse dt)
      refine ⟨_, beaconRx_runs dt hup hthere hsec hb hmac hrole, fun hnear => ?_, fun hfar => ?_, ?_, ?_⟩
      · rw [pins_role, hloses, if_pos (hiff.mpr hnear)]
      · rw [pins_role, hloses, if_neg (mt hiff.mp hfar)]
      · exact pins_act_of_role (by rw [hloses]; split <;> decide)
      · rw [State.pins_tly]
        exact htally
  · refine ⟨fun ⟨hrole, hdue⟩ => ?_, fun hno => exec_idle (beaconSend_idle hno), ?_⟩
    · refine ⟨_, _, beaconSend_runs dt hrole hdue, ?_, State.pins_sent _, fun p hp hopen => ?_,
        fun p k b hmem => ?_, ?_⟩
      · rw [pins_twin]
      · exact List.mem_map.mpr ⟨p, List.mem_filter.mpr ⟨List.mem_range.mpr hp, hopen⟩, rfl⟩
      · obtain ⟨q, hq, heq⟩ := List.mem_map.mp hmem
        obtain ⟨hrange, hopen⟩ := List.mem_filter.mp hq
        injection heq with hport
        exact hport ▸ ⟨List.mem_range.mp hrange, hopen⟩
      · exact only_sub (execBeaconSend_touch dt s _ (beaconSend_runs dt hrole hdue)) (by decide)
    · refine ⟨_, rfl, fun hlate => ?_, ?_⟩
      · rw [if_pos (show (s.elapse dt).twin.refreshAt + 250000 ≤ (s.elapse dt).now from hlate)]
        exact pins_act_of_off rfl
      · exact go_only (only_ite (actOff_only _) (only_refl ..))
  · refine ⟨fun hne hgone => twinLane_change hne hgone, fun hno => ?_⟩
    exact exec_idle (congrArg go (laneTo_idle (s := s.elapse dt) hno))

end Sys2Proof.Machine

/-! SUPPORT. Chapter 12, the twin's decision rules, takeover, planned switch-over, drill and configuration
(R396, R407, R408, R411, R412, R414 to R416). -/

namespace Sys2Proof.Machine

/-- What both branches show, the choice between them shows. -/
theorem ite_view {σ β : Type} (view : σ → β) {c : Prop} [Decidable c] {a b : σ} {x : β} (ha : view a = x)
    (hb : view b = x) : view (if c then a else b) = x := by
  split
  · exact ha
  · exact hb

/-! ### What leaves the clock running as it did -/

theorem finish_clk (s : State) (op st : Nat) (b : List Byte) : (s.finish op st b).clk = s.clk := by
  unfold State.finish
  split
  · split
    · exact State.respond_clk ..
    · rfl
  · rfl

theorem dishonour_clk (s : State) (kind cause win be addr data : Nat) :
    (s.dishonour kind cause win be addr data).clk = s.clk := by
  unfold State.dishonour
  extract_lets n _ t e _ u
  split
  · rfl
  · exact State.noteOnce_clk ..

theorem bridgeQuiet_clk (s : State) : s.bridgeQuiet.clk = s.clk := by
  unfold State.bridgeQuiet
  extract_lets out _ t u
  exact (finish_clk u ..).trans (foldl_keeps State.clk _ (fun x e => dishonour_clk x ..) _ t)

theorem toTime_clk (s : State) (st : TimeState) : (s.toTime st).clk = s.clk := by
  unfold State.toTime
  extract_lets old _ t u v
  have hv : v.clk = s.clk := State.note_clk ..
  split
  · rfl
  · split
    · exact hv
    · split
      · exact (State.note_clk ..).trans hv
      · exact hv

theorem holdover_clk (s : State) : s.holdover.clk = s.clk := by
  unfold State.holdover
  extract_lets t _ u
  refine (toTime_clk u _).trans (show t.clk = s.clk from ?_)
  change s.withdraw.clk = s.clk
  unfold State.withdraw
  split
  · exact State.note_clk ..
  · rfl

theorem goQuiet_clk (s : State) (r : Role) (cause : Nat) : (s.goQuiet r cause).clk = s.clk := by
  unfold State.goQuiet
  extract_lets was t _ u v
  have hu : u.clk = s.clk := roleTo_clk s r cause 0
  have hv : v.clk = s.clk := by
    refine (foldl_keeps State.clk _ (fun x p => ?_) _ _).trans ((bridgeQuiet_clk u).trans hu)
    split
    · rfl
    · rfl
  split
  · exact hu
  · split
    · exact (holdover_clk v).trans hv
    · exact hv

theorem pdVector_clk (s : State) : s.pdVector.clk = s.clk := by
  unfold State.pdVector
  split
  · extract_lets hold
    split
    · rfl
    · exact State.raise_clk ..
  · exact State.raise_clk ..

theorem tcmWrite_clk (s : State) (o : Nat) (l : List Byte) : (s.tcmWrite o l).clk = s.clk := by
  unfold State.tcmWrite
  refine foldl_keeps State.clk _ (fun _ _ => ?_) _ _
  rfl

theorem post_now (s : State) (i : Nat) (p : PdPort) : (s.post i p).now = s.now := by
  unfold State.post
  split
  · rfl
  · extract_lets r t n u
    split
    · rfl
    · split
      · rfl
      · exact (now_of_clk (pdVector_clk _)).trans rfl

theorem commitAs_now (s : State) (i kind time seq quality : Nat) (etb optrn : U32) (data : List Byte)
    (restart : Bool) : (s.commitAs i kind time seq quality etb optrn data restart).now = s.now := by
  unfold State.commitAs
  split
  · rfl
  · exact post_now ..

theorem restorePort_now (s : State) (i : Nat) (l : List Byte) : (s.restorePort i l).now = s.now := by
  unfold State.restorePort
  split
  · rfl
  · split
    · rfl
    · extract_lets seq t
      have ht : t.now = s.now := commitAs_now ..
      split
      · exact ht
      · exact ht

theorem restoreEpoch_now (s : State) : s.restoreEpoch.now = s.now := by
  unfold State.restoreEpoch
  split
  · rfl
  · refine foldl_keeps State.now _ (fun x e => ?_) _ _
    split
    · exact restorePort_now ..
    · split
      · exact now_of_clk (tcmWrite_clk ..)
      · rfl

/-! ### Three boundaries that agree (R408) -/

theorem pushKeep_window {w : List Judged3} {x y : Judged3} (h : w.drop (w.length - 2) = [x, y])
    (j : Judged3) : pushKeep 3 w j = [x, y, j] := by
  have hlen : 2 ≤ w.length := by
    have := congrArg List.length h
    simp only [List.length_drop, List.length_cons, List.length_nil] at this
    omega
  rw [pushKeep, show w.length + 1 - 3 = w.length - 2 by omega, List.drop_append_of_le_length (by omega), h]
  rfl

theorem steadyWitness_iff (x y z : Judged3) (v : Bool) :
    steadyWitness [x, y, z] v = true ↔ x.witness = v ∧ y.witness = v ∧ z.witness = v := by
  simp [steadyWitness]

section
variable {s : State} {j : Judged3} (new : Bool)

theorem decide3_missed (hmissed : j.missed = true) : s.decide3 j new =
    if steadyWitness s.twin.window false then
      if s.twin.pairOver && s.twin.taking.isNone then
        { s with twin := { s.twin with taking := some s.net, restores := true } } else s
    else if steadyWitness s.twin.window true then
      if s.twin.role = .standby then s.roleTo .orphaned 5 0 else s
    else s := by
  unfold State.decide3
  exact if_pos hmissed

theorem decide3_active (hmissed : j.missed = false) (hclaim : j.claim = 1) : s.decide3 j new =
    if steadyWitness s.twin.window true then s.roleTo .standby 6 0
    else if steadyWitness s.twin.window false then
      if new then (s.roleTo .standby 6 0).note (ev 12 2) (le 1 0 ++ le 1 1) else s.roleTo .standby 6 0
    else s := by
  unfold State.decide3
  exact (if_neg (by simp [hmissed])).trans (if_pos hclaim)

/-- A peer that claims neither makes a standby, and the preferred unit is promoted at the next boundary. -/
theorem decide3_neither (hmissed : j.missed = false) (hclaim : j.claim = 2) {h : Heartbeat}
    (hhb : s.twin.hb = some h) :
    (s.decide3 j new).twin.role = .standby ∧
      (s.prior h.pref = true → s.twin.taking = none →
        (s.decide3 j new).twin.taking = some (s.twin.lastB + s.roundNs) ∧
        (s.decide3 j new).twin.restores = false) ∧
      (s.prior h.pref = false → (s.decide3 j new).twin.taking = s.twin.taking) := by
  generalize hu : (s.prefNoted h.pref).roleTo .standby 6 0 = u
  have hrun : s.decide3 j new = if u.prior h.pref && u.twin.taking.isNone then
      { u with twin := { u.twin with taking := some (u.twin.lastB + u.roundNs), restores := false } } else u := by
    unfold State.decide3
    refine (if_neg (by simp [hmissed])).trans ((if_neg (by simp [hclaim])).trans ((if_pos hclaim).trans ?_))
    rw [← hu, hhb]
    rfl
  obtain ⟨a, htwin⟩ := roleTo_twin (s.prefNoted h.pref) .standby 6 0
  rw [hu, prefNoted_twin] at htwin
  have honly : u.onlyChanges s (.twin :: eventParts) :=
    hu ▸ only_step (only_mono (prefNoted_only s h.pref) (by decide)) (State.roleTo_touch ..)
  have hprior : u.prior h.pref = s.prior h.pref :=
    prior_congr (honly.2 .system (by decide)) ((congrArg Twin.conf htwin).trans rfl) _
  have hround : u.roundNs = s.roundNs := by
    simp only [State.roundNs, only_par_eq honly (by decide), only_gaf_eq honly (by decide)]
  have htaking : u.twin.taking = s.twin.taking := (congrArg Twin.taking htwin).trans rfl
  have hlastB : u.twin.lastB = s.twin.lastB := (congrArg Twin.lastB htwin).trans rfl
  rw [hrun, hprior, htaking, hlastB, hround]
  refine ⟨?_, fun hp hnone => ?_, fun hp => ?_⟩
  · split <;> exact (congrArg Twin.role htwin :)
  · rw [if_pos (by simp [hp, hnone])]
    exact ⟨rfl, rfl⟩
  · rw [if_neg (by simp [hp])]
    exact htaking

end

/-- The outcome keeps the boundary judged. -/
theorem decide3_lastB (s : State) (j : Judged3) (new : Bool) :
    (s.decide3 j new).twin.lastB = s.twin.lastB := by
  have hrole (s : State) (r : Role) (cause : Nat) : (s.roleTo r cause 0).twin.lastB = s.twin.lastB := by
    obtain ⟨a, ha⟩ := roleTo_twin s r cause 0
    exact (congrArg Twin.lastB ha).trans rfl
  unfold State.decide3
  extract_lets w _ t peer u v
  have ht : t.twin.lastB = s.twin.lastB := hrole ..
  have hu : u.twin.lastB = s.twin.lastB := congrArg Twin.lastB (prefNoted_twin s peer)
  have hv : v.twin.lastB = s.twin.lastB := (hrole ..).trans hu
  let view := fun t : State => t.twin.lastB
  refine ite_view view ?missed (ite_view view ?active (ite_view view (ite_view view hv hv) rfl))
  case missed =>
    exact ite_view view (ite_view view rfl rfl) (ite_view view (ite_view view (hrole ..) rfl) rfl)
  case active =>
    exact ite_view view ht (ite_view view
      (ite_view view ((congrArg Twin.lastB (State.note_twin ..)).trans ht) ht) rfl)

/-! ### The judgement of a boundary (R407) -/

/-- The latest boundary whose judgement has come. -/
def State.boundary (s : State) : Nat := (s.net + 2 - 20000) / s.roundNs * s.roundNs

/-- Whether the boundary shows no heartbeat of the last round. -/
def State.missedPeer (s : State) : Bool :=
  !(s.twin.hb.isSome && decide (s.boundary + 20000 < s.twin.hbNet + s.roundNs))

theorem missedPeer_iff (s : State) :
    s.missedPeer = true ↔ s.twin.hb = none ∨ s.twin.hbNet + s.roundNs ≤ s.boundary + 20000 := by
  simp only [State.missedPeer, Bool.not_eq_true', Bool.and_eq_false_iff, Option.isSome_eq_false_iff,
    Option.isNone_iff_eq_none, decide_eq_false_iff_not, Nat.not_lt]

/-- What the boundary shows. -/
def State.shown (s : State) (witness : Bool) : Judged3 :=
  { missed := s.missedPeer, witness := witness, claim := claimOf s.missedPeer s.twin.hb }

/-- The boundary judged, before three of them decide. -/
def State.judged (s : State) (witness : Bool) : State :=
  let u : State := { s with twin := { s.twin with
    lastB := s.boundary, window := pushKeep 3 s.twin.window (s.shown witness)
    planned := if s.missedPeer then none else s.twin.planned
    cleanSince := if s.missedPeer then s.now else s.twin.cleanSince } }
  if s.missedPeer then u.count (tlTwin 5) else u

/-- Whether a boundary's judgement is due. -/
abbrev State.judgeDue (s : State) : Prop :=
  s.quiet = true ∧ s.twinOn = true ∧ 20000 ≤ s.net + 2 ∧ s.net ≤ s.boundary + 20002 ∧
    s.twin.lastB < s.boundary

section
variable {s : State} (witness : Bool)

theorem judged_twin : (s.judged witness).twin =
    { s.twin with
      lastB := s.boundary, window := pushKeep 3 s.twin.window (s.shown witness)
      planned := if s.missedPeer then none else s.twin.planned
      cleanSince := if s.missedPeer then s.now else s.twin.cleanSince } := ite_view State.twin rfl rfl

theorem judge_idle (h : ¬s.judgeDue) : s.judge witness = s := by
  refine if_pos ?_
  change (!s.quiet || !s.twinOn || decide (s.net + 2 < 20000) || decide (s.net > s.boundary + 20002) ||
    decide (s.boundary ≤ s.twin.lastB)) = true
  simp only [Bool.or_eq_true, decide_eq_true_eq, Bool.not_eq_true']
  by_contra hno
  simp only [not_or, Bool.not_eq_false, Nat.not_lt, Nat.not_le] at hno
  obtain ⟨⟨⟨⟨hq, hon⟩, hnet⟩, hlate⟩, hnew⟩ := hno
  exact h ⟨hq, hon, hnet, hlate, hnew⟩

variable (hdue : s.judgeDue)
include hdue

theorem judge_due : ∃ new, s.judge witness =
    match triple (pushKeep 3 s.twin.window (s.shown witness)) with
    | some j => (s.judged witness).decide3 j new
    | none => s.judged witness := by
  obtain ⟨hq, hon, hnet, hlate, hnew⟩ := hdue
  refine ⟨_, if_neg ?_⟩
  change ¬(!s.quiet || !s.twinOn || decide (s.net + 2 < 20000) || decide (s.net > s.boundary + 20002) ||
    decide (s.boundary ≤ s.twin.lastB)) = true
  simp only [Bool.or_eq_true, decide_eq_true_eq, Bool.not_eq_true', hq, hon, not_or, Nat.not_lt, Nat.not_le]
  exact ⟨⟨⟨⟨nofun, nofun⟩, hnet⟩, hlate⟩, hnew⟩

/-- A judged boundary is the latest judged, and a missed one is counted. -/
theorem judge_counts : (s.judge witness).twin.lastB = s.boundary ∧ (s.missedPeer = true →
    (s.judge witness).tallyAt (tlTwin 5) = min tlyMax (s.tallyAt (tlTwin 5) + 1)) := by
  have htwin := judged_twin (s := s) witness
  have hbeside := beside_twin (i := 5) (by decide)
  have hcount : s.missedPeer = true →
      (s.judged witness).tallyAt (tlTwin 5) = min tlyMax (s.tallyAt (tlTwin 5) + 1) := by
    intro hm
    simp only [State.judged]
    rw [if_pos hm]
    exact count_self ..
  obtain ⟨new, hrun⟩ := judge_due witness hdue
  rw [hrun]
  cases triple (pushKeep 3 s.twin.window (s.shown witness)) with
  | none => exact ⟨congrArg Twin.lastB htwin, hcount⟩
  | some j =>
    exact ⟨(decide3_lastB ..).trans (congrArg Twin.lastB htwin),
      fun hm => (decide3_beside _ hbeside ..).trans (hcount hm)⟩

/-- Three boundaries that agree decide. -/
theorem judge_decides {x y : Judged3} (hw : s.twin.window.drop (s.twin.window.length - 2) = [x, y])
    (hx : x.missed = s.missedPeer) (hy : y.missed = s.missedPeer)
    (hxc : x.claim = claimOf s.missedPeer s.twin.hb) (hyc : y.claim = claimOf s.missedPeer s.twin.hb) :
    ∃ new, s.judge witness = (s.judged witness).decide3 (s.shown witness) new ∧
      (s.judged witness).twin.window = [x, y, s.shown witness] := by
  obtain ⟨new, hrun⟩ := judge_due witness hdue
  have hpush := pushKeep_window hw (s.shown witness)
  rw [hpush] at hrun
  have htriple : triple [x, y, s.shown witness] = some (s.shown witness) :=
    if_pos ⟨hx.trans hy.symm, hy, hxc.trans hyc.symm, hyc⟩
  rw [htriple] at hrun
  exact ⟨new, hrun, (congrArg Twin.window (judged_twin witness)).trans hpush⟩

end

/-! ### Takeover (R412) -/

theorem takeover_idle {s : State}
    (h : s.twin.taking = none ∨ s.quiet = false ∨ ∃ n, s.twin.taking = some n ∧ s.net + 2 < n) :
    s.takeover = s := by
  unfold State.takeover
  cases htaking : s.twin.taking with
  | none => rfl
  | some n =>
    refine if_pos ?_
    obtain h | h | ⟨m, hm, hnet⟩ := h
    · cases htaking.symm.trans h
    · simp [h]
    · cases htaking.symm.trans hm
      simp [hnet]

section
variable {s : State} {n : Nat} (htaking : s.twin.taking = some n) (hq : s.quiet = true)
  (hdue : n ≤ s.net + 2)
include htaking hq hdue

theorem takeover_promotes (hrestores : s.twin.restores = false) : s.takeover = s.goActive 2 0 := by
  unfold State.takeover
  rw [htaking]
  refine (if_neg ?_).trans (if_neg (by simp [hrestores]))
  simpa [hq] using hdue

theorem takeover_restores (hrestores : s.twin.restores = true) : ∃ cause seq,
    s.takeover = (s.restoreEpoch.goActive cause seq).count (tlTwin 6) := by
  unfold State.takeover
  rw [htaking]
  refine ⟨_, _, (if_neg ?_).trans (if_pos hrestores)⟩
  simpa [hq] using hdue

end

/-- A port that takes its escrowed value: KIND 7, HELD, the SEQ after the escrowed one next. -/
theorem restorePort_port_self {s : State} {i : Nat} {l : List Byte} {p : PdPort} (hp : s.port i = some p)
    (hsize : fld l 0x14 2 = pSize p.conf) :
    ∃ q, (s.restorePort i l).port i = some q ∧ q.conf = p.conf ∧ q.value.kind = 7 ∧
      q.value.data = slice l 32 (pSize p.conf) ∧
      q.value.quality = BitVec.ofNat 8 ((l.getD 0x16 0) ||| 0x20).toNat ∧
      q.value.seq = fld l 0x0C 4 ∧ q.seq = (fld l 0x0C 4 + 1) % 2 ^ 32 := by
  obtain ⟨q, hq, hconf, -, -, hvalue⟩ := commitAs_port_self s i 7 s.net (fld l 0x0C 4)
    (((l.getD 0x16 0) ||| 0x20).toNat) s.inaug.etbTopo s.inaug.optrn (slice l 32 (pSize p.conf)) true hp
  refine ⟨{ q with seq := (fld l 0x0C 4 + 1) % 2 ^ 32, lastSeq := fld l 0x0C 4 }, ?_, hconf, ?_⟩
  · simp only [State.restorePort, hp, hsize, ne_eq, not_true, if_false, hq]
    exact port_setPort_self ..
  · change q.value.kind = 7 ∧ q.value.data = _ ∧ q.value.quality = _ ∧ q.value.seq = _ ∧ _
    rw [hvalue]
    exact ⟨rfl, rfl, rfl, rfl, rfl⟩

theorem restorePort_port_ne (s : State) {i j : Nat} (l : List Byte) (h : j ≠ i) :
    (s.restorePort i l).port j = s.port j := by
  unfold State.restorePort
  split
  · rfl
  · split
    · rfl
    · extract_lets seq t
      have ht : t.port j = s.port j := commitAs_port_ne _ _ _ _ _ _ _ _ _ _ h
      split
      · exact (port_setPort_ne _ _ h).trans ht
      · exact ht

/-- A store to the data TCM of the running members, one after another. -/
theorem foldl_dtcm (o : Nat) (data : List Byte) (cs : List Nat) (hcs : cs.Nodup) (s : State) (c : Nat) :
    ((cs.foldl (fun s c => s.setCore c { s.core c with dtcm := memWrite (s.core c).dtcm o data }) s).core c).dtcm =
      if c ∈ cs then memWrite (s.core c).dtcm o data else (s.core c).dtcm := by
  induction cs generalizing s with
  | nil => simp
  | cons d cs ih =>
    obtain ⟨hd, hcs⟩ := List.nodup_cons.mp hcs
    rw [List.foldl_cons, ih hcs]
    by_cases hc : c = d
    · subst hc
      simp [hd, core_setCore_self]
    · simp [hc, core_setCore_ne _ _ hc]

theorem tcmWrite_dtcm {s : State} {c : Nat} (h : c ∈ s.runners) (o : Nat) (data : List Byte) :
    ((s.tcmWrite o data).core c).dtcm = memWrite (s.core c).dtcm o data := by
  have hnodup : s.runners.Nodup := List.Nodup.filter _ (by decide)
  exact (foldl_dtcm o data s.runners hnodup s c).trans (if_pos h)

/-- The device is active with what the takeover restored. -/
theorem pins_goActive {u w : State} {cause seq : Nat} (hw : w.twin = (u.goActive cause seq).twin) :
    w.pins.twin.role = .active ∧ w.pins.twin.taking = none ∧ w.pins.twin.planned = none ∧
      w.pins.twin.refreshAt = u.now := by
  obtain ⟨a, m, htwin⟩ := goActive_twin u cause seq
  rw [pins_twin, hw, htwin]
  exact ⟨rfl, rfl, rfl, rfl⟩

theorem goActive_pd (s : State) (cause seq : Nat) : (s.goActive cause seq).pd = s.pd :=
  (State.goActive_touch s cause seq).2 .store (by decide)

theorem goActive_triad (s : State) (cause seq : Nat) : (s.goActive cause seq).triad = s.triad :=
  (State.goActive_touch s cause seq).2 .triad (by decide)

theorem restoreEpoch_none {s : State} (h : s.twin.epoch = none) : s.restoreEpoch = s := by
  rw [State.restoreEpoch, h]

theorem restoreEpoch_port {s : State} {b : List Byte} {i k : Nat} (h : s.twin.epoch = some b)
    (hset : s.twin.epochSet = [{ space := 1, loc := i, len := k }]) : s.restoreEpoch =
      s.restorePort i ((epochBody b).take (ceilMul (32 + fld (epochBody b) 0x14 2) 8)) := by
  rw [State.restoreEpoch, h, hset]
  rfl

theorem restoreEpoch_tcm {s : State} {b : List Byte} {o k : Nat} (h : s.twin.epoch = some b)
    (hset : s.twin.epochSet = [{ space := 2, loc := o, len := k }]) :
    s.restoreEpoch = s.tcmWrite o ((epochBody b).take k) := by
  rw [State.restoreEpoch, h, hset]
  rfl

/-! ### Planned switch-over (R414 to R416) -/

theorem swapRoles_none {s : State} (h : s.twin.planned = none) : s.swapRoles = s := by
  rw [State.swapRoles, h]

section
variable {s : State} {p : Planned} (hplanned : s.twin.planned = some p)
include hplanned

theorem swapRoles_early (h : s.net + 2 < p.net) : s.swapRoles = s := by
  rw [State.swapRoles, hplanned]
  exact if_pos h

variable (hdue : p.net ≤ s.net + 2)
include hdue

/-- The active device whose last epoch is applied becomes the standby. -/
theorem swapRoles_active (hrole : s.twin.role = .active) (hsealed : p.sealed = true)
    (hnear : s.hearsPeer = true) {h : Heartbeat} (hhb : s.twin.hb = some h)
    (happlied : s.twin.sealed ≤ h.seq.toNat) : s.swapRoles =
      match p.drill with
      | some d => { s.goQuiet .standby 4 with twin := { (s.goQuiet .standby 4).twin with
          drillEnd := some ((s.goQuiet .standby 4).now + d * 1000000000), drillSwap := p.net } }
      | none => s.goQuiet .standby 4 := by
  rw [State.swapRoles, hplanned]
  refine (if_neg (Nat.not_lt.mpr hdue)).trans ((if_pos hrole).trans (if_pos ?_))
  change (p.sealed && s.hearsPeer && _) = true
  simp [hsealed, hnear, hhb, happlied]

/-- The standby takes over at S. -/
theorem swapRoles_quiet (hq : s.quiet = true) (hsealed : p.sealed = true) (hnear : s.hearsPeer = true) :
    s.swapRoles = { s with twin := { s.twin with taking := some p.net, restores := true } } := by
  have hrole : s.twin.role ≠ .active := by
    obtain h | h := (quiet_iff s).mp hq <;> rw [h] <;> decide
  rw [State.swapRoles, hplanned]
  refine (if_neg (Nat.not_lt.mpr hdue)).trans ((if_neg hrole).trans (if_pos ?_))
  change (s.quiet && p.sealed && s.hearsPeer) = true
  simp [hq, hsealed, hnear]

/-- Without a sealed epoch, a heartbeat of the last round, or the peer's answer, it is given up. -/
theorem swapRoles_abandoned (h : p.sealed = false ∨ s.hearsPeer = false ∨
    (s.twin.role = .active ∧ ∀ h, s.twin.hb = some h → ¬s.twin.sealed ≤ h.seq.toNat)) :
    s.swapRoles = { s with twin := { s.twin with planned := none } } := by
  rw [State.swapRoles, hplanned]
  refine (if_neg (Nat.not_lt.mpr hdue)).trans ?_
  by_cases hrole : s.twin.role = .active
  · refine (if_pos hrole).trans (if_neg ?_)
    change ¬(p.sealed && s.hearsPeer && _) = true
    obtain h | h | ⟨-, h⟩ := h
    · simp [h]
    · simp [h]
    · cases hhb : s.twin.hb with
      | none => simp
      | some x => simpa using fun _ _ => Nat.not_le.mp (h x hhb)
  · refine (if_neg hrole).trans (if_neg ?_)
    change ¬(s.quiet && p.sealed && s.hearsPeer) = true
    obtain h | h | ⟨h, -⟩ := h
    · simp [h]
    · simp [h]
    · exact absurd h hrole

end

/-! ### ENABLE changes (R396) -/

section
variable (s : State) {c : List Byte}

theorem setTwin_same (h : s.twinOn = bit (fld c 0 1) 0) :
    s.setTwin c = { s with twin := { s.twin with conf := c } } :=
  if_pos h

/-- A unit that leaves twin operation becomes SOLO. -/
theorem setTwin_off (hon : s.twinOn = true) (h : bit (fld c 0 1) 0 = false) :
    (s.setTwin c).twin.conf = c ∧ (s.setTwin c).twin.role = .solo := by
  let u : State := { s with twin := { s.twin with conf := c } }
  obtain ⟨a, ha⟩ := roleTo_twin u .solo 0 0
  have hrun : s.setTwin c = ({ u.roleTo .solo 0 0 with
      twin := { (u.roleTo .solo 0 0).twin with sealWait := false } } : State).keyDrop 24 := by
    unfold State.setTwin
    refine (if_neg ?_).trans (if_pos hon)
    rw [hon]
    exact fun heq => absurd (heq.trans h) (by decide)
  rw [hrun]
  exact ⟨congrArg Twin.conf ha, congrArg Twin.role ha⟩

/-- A unit that enters twin operation is active while it runs a parison, else the standby. -/
theorem setTwin_on (hoff : s.twinOn = false) (h : bit (fld c 0 1) 0 = true) :
    (s.setTwin c).twin.conf = c ∧
      (s.setTwin c).twin.role = if s.gaf.active then .active else .standby := by
  let u : State := { s with twin := { s.twin with conf := c } }
  generalize hv : (if u.twin.lane0 || u.twin.lane1 then (u.keyPolicy 24).keyStart 24 else u : State) = v
  have hrun : s.setTwin c = if v.gaf.active then v.goActive 0 0 else v.goQuiet .standby 0 := by
    rw [← hv]
    unfold State.setTwin
    refine (if_neg ?_).trans (if_neg (by simp [hoff]))
    rw [hoff]
    exact fun heq => absurd (heq.trans h) (by decide)
  have honly : v.onlyChanges u (.vault :: eventParts) := hv ▸ only_ite
    (only_step (only_step (only_refl ..) (State.keyPolicy_touch u 24)) (State.keyStart_touch _ 24)) (only_refl ..)
  have hconf : v.twin.conf = c := (congrArg Twin.conf (only_twin honly (by decide))).trans rfl
  rw [hrun, show v.gaf = s.gaf from (only_gaf_eq honly (by decide)).trans rfl]
  split
  · obtain ⟨a, m, htwin⟩ := goActive_twin v 0 0
    exact ⟨((congrArg Twin.conf htwin).trans rfl).trans hconf, (congrArg Twin.role htwin).trans rfl⟩
  · obtain ⟨a, htwin⟩ := goQuiet_twin v .standby 0
    exact ⟨((congrArg Twin.conf htwin).trans rfl).trans hconf, (congrArg Twin.role htwin).trans rfl⟩

end

/-! ### The outcomes of the decision rules -/

section
variable {s : State} (wit : Bool)

theorem judged_net : (s.judged wit).net = s.net := ite_view State.net rfl rfl

theorem judged_role : (s.judged wit).twin.role = s.twin.role :=
  (congrArg Twin.role (judged_twin wit)).trans rfl

theorem judged_taking : (s.judged wit).twin.taking = s.twin.taking :=
  (congrArg Twin.taking (judged_twin wit)).trans rfl

theorem judged_only : (s.judged wit).onlyChanges s [.twin, .tallies] := by
  refine only_ite (only_step ?_ (State.count_touch _ _)) ?_
  · exact only_set_twin _ (only_refl ..) (by decide)
  · exact only_set_twin _ (only_refl ..) (by decide)

/-- A change of role leaves what was under way. -/
theorem roleTo_keeps (r : Role) (cause : Nat) :
    (s.roleTo r cause 0).twin.role = r ∧ (s.roleTo r cause 0).twin.taking = s.twin.taking := by
  obtain ⟨a, ha⟩ := roleTo_twin s r cause 0
  exact ⟨(congrArg Twin.role ha).trans rfl, (congrArg Twin.taking ha).trans rfl⟩

/-- Three missed boundaries: the witness decides. -/
theorem judge_missed (hdue : s.judgeDue) (hmissed : s.missedPeer = true)
    {x y : Judged3} (hw : s.twin.window.drop (s.twin.window.length - 2) = [x, y]) (hx : x.missed = true)
    (hy : y.missed = true) (hxc : x.claim = 0) (hyc : y.claim = 0) :
    let t := s.judge wit
    (x.witness = false → y.witness = false → wit = false →
      t.twin.role = s.twin.role ∧ (s.twin.pairOver = true → s.twin.taking = none →
        t.twin.taking = some s.net ∧ t.twin.restores = true) ∧
      (s.twin.pairOver = false → t.twin.taking = s.twin.taking)) ∧
    (x.witness = true → y.witness = true → wit = true →
      t.twin.role = .orphaned ∧ t.twin.taking = s.twin.taking) ∧
    (x.witness ≠ wit ∨ y.witness ≠ wit →
      t.twin.role = s.twin.role ∧ t.twin.taking = s.twin.taking) := by
  have hclaim : claimOf s.missedPeer s.twin.hb = 0 := by rw [hmissed]; rfl
  obtain ⟨new, hrun, hwindow⟩ := judge_decides wit hdue hw (hx.trans hmissed.symm) (hy.trans hmissed.symm)
    (hxc.trans hclaim.symm) (hyc.trans hclaim.symm)
  have hrole := judged_role (s := s) wit
  have htaking := judged_taking (s := s) wit
  have hpair : (s.judged wit).twin.pairOver = s.twin.pairOver :=
    (congrArg Twin.pairOver (judged_twin wit)).trans rfl
  have hsteady (v : Bool) : steadyWitness (s.judged wit).twin.window v = true ↔
      x.witness = v ∧ y.witness = v ∧ wit = v := by
    rw [hwindow]
    exact steadyWitness_iff x y (s.shown wit) v
  intro t
  have ht : t = _ := hrun.trans (decide3_missed new hmissed)
  clear_value t
  refine ⟨fun h1 h2 h3 => ?_, fun h1 h2 h3 => ?_, fun hmixed => ?_⟩
  · rw [if_pos ((hsteady false).mpr ⟨h1, h2, h3⟩), hpair, htaking, judged_net] at ht
    by_cases hover : (s.twin.pairOver && s.twin.taking.isNone) = true
    · rw [if_pos hover] at ht
      have hthere : s.twin.pairOver = true := (Bool.and_eq_true_iff.mp hover).1
      exact ⟨ht ▸ hrole, fun _ _ => ht ▸ ⟨rfl, rfl⟩, fun hno => absurd (hno.symm.trans hthere) (by decide)⟩
    · rw [if_neg hover] at ht
      exact ⟨ht ▸ hrole, fun hp hn => absurd (by simp [hp, hn]) hover, fun _ => ht ▸ htaking⟩
  · rw [if_neg (fun h => by simpa [h1] using ((hsteady false).mp h).1),
      if_pos ((hsteady true).mpr ⟨h1, h2, h3⟩), hrole] at ht
    obtain hs | ho := (quiet_iff s).mp hdue.1
    · rw [if_pos hs] at ht
      obtain ⟨hr, hk⟩ := roleTo_keeps (s := s.judged wit) .orphaned 5
      exact ht ▸ ⟨hr, hk.trans htaking⟩
    · rw [if_neg (by rw [ho]; decide)] at ht
      exact ht ▸ ⟨hrole.trans ho, htaking⟩
  · have hnever (v : Bool) : ¬steadyWitness (s.judged wit).twin.window v = true := by
      rw [hsteady]
      rintro ⟨h1, h2, h3⟩
      exact hmixed.elim (· (h1.trans h3.symm)) (· (h2.trans h3.symm))
    rw [if_neg (hnever false), if_neg (hnever true)] at ht
    exact ht ▸ ⟨hrole, htaking⟩

/-- Three boundaries that show the peer's claim: what it claims decides. -/
theorem judge_claimed (hdue : s.judgeDue) (hmissed : s.missedPeer = false) {x y : Judged3} {h : Heartbeat}
    (hw : s.twin.window.drop (s.twin.window.length - 2) = [x, y]) (hhb : s.twin.hb = some h)
    (hx : x.missed = false) (hy : y.missed = false) (hxc : x.claim = claimOf false s.twin.hb)
    (hyc : y.claim = claimOf false s.twin.hb) :
    let t := s.judge wit
    (h.role = .active → x.witness = wit → y.witness = wit →
      t.twin.role = .standby ∧ t.twin.taking = s.twin.taking) ∧
    (h.role = .active → x.witness ≠ wit ∨ y.witness ≠ wit →
      t.twin.role = s.twin.role ∧ t.twin.taking = s.twin.taking) ∧
    (h.role = .standby ∨ h.role = .orphaned → t.twin.role = .standby ∧
      (s.prior h.pref = true → s.twin.taking = none →
        t.twin.taking = some (s.boundary + s.roundNs) ∧ t.twin.restores = false) ∧
      (s.prior h.pref = false → t.twin.taking = s.twin.taking)) := by
  obtain ⟨new, hrun, hwindow⟩ := judge_decides wit hdue hw (hx.trans hmissed.symm) (hy.trans hmissed.symm)
    (hxc.trans (by rw [hmissed])) (hyc.trans (by rw [hmissed]))
  have hrole := judged_role (s := s) wit
  have htaking := judged_taking (s := s) wit
  have hclaim : (s.shown wit).claim = claimOf false s.twin.hb := by rw [← hmissed]; rfl
  have hsteady (v : Bool) : steadyWitness (s.judged wit).twin.window v = true ↔
      x.witness = v ∧ y.witness = v ∧ wit = v := by
    rw [hwindow]
    exact steadyWitness_iff x y (s.shown wit) v
  obtain ⟨hr, hk⟩ := roleTo_keeps (s := s.judged wit) .standby 6
  intro t
  have hactive (ha : h.role = .active) : t = _ := hrun.trans
    (decide3_active new hmissed (hclaim.trans (by rw [hhb]; exact if_pos ha)))
  have hdecided : t = _ := hrun
  clear_value t
  refine ⟨fun ha h1 h2 => ?_, fun ha hmixed => ?_, fun hneither => ?_⟩
  · have ht := hactive ha
    cases wit with
    | true =>
      rw [if_pos ((hsteady true).mpr ⟨h1, h2, rfl⟩)] at ht
      exact ht ▸ ⟨hr, hk.trans htaking⟩
    | false =>
      rw [if_neg (fun h => by simpa [h1] using ((hsteady true).mp h).1),
        if_pos ((hsteady false).mpr ⟨h1, h2, rfl⟩)] at ht
      have htwin : t.twin = ((s.judged false).roleTo .standby 6 0).twin :=
        (congrArg State.twin ht).trans (ite_view State.twin (State.note_twin ..) rfl)
      rw [htwin]
      exact ⟨hr, hk.trans htaking⟩
  · have hnever (v : Bool) : ¬steadyWitness (s.judged wit).twin.window v = true := by
      rw [hsteady]
      rintro ⟨h1, h2, h3⟩
      exact hmixed.elim (· (h1.trans h3.symm)) (· (h2.trans h3.symm))
    have ht := hactive ha
    rw [if_neg (hnever true), if_neg (hnever false)] at ht
    exact ht ▸ ⟨hrole, htaking⟩
  · have htwo : (s.shown wit).claim = 2 := by
      rw [hclaim, hhb]
      obtain ha | ha := hneither <;> simp [claimOf, ha]
    have hhb' : (s.judged wit).twin.hb = some h := ((congrArg Twin.hb (judged_twin wit)).trans rfl).trans hhb
    have honly := judged_only (s := s) wit
    have hprior : (s.judged wit).prior h.pref = s.prior h.pref :=
      prior_congr (honly.2 .system (by decide)) ((congrArg Twin.conf (judged_twin wit)).trans rfl) _
    have hround : (s.judged wit).roundNs = s.roundNs := by
      simp only [State.roundNs, only_par_eq honly (by decide), only_gaf_eq honly (by decide)]
    have hlast : (s.judged wit).twin.lastB = s.boundary :=
      (congrArg Twin.lastB (judged_twin wit)).trans rfl
    have hout := decide3_neither (s := s.judged wit) new hmissed htwo hhb'
    rw [← hdecided, hprior, htaking, hround, hlast] at hout
    exact hout

end

end Sys2Proof.Machine

/-! SUPPORT. Chapter 12, the twin's mailbox commands (R396, R416, R523) and its decision rules by their
rows. -/

namespace Sys2Proof.Machine

/-! ### MB_TWIN_CONFIG -/

section
variable {b : List Byte} {s : State}

theorem bit_one_of_lt {o : Nat} (h : o < 2) : bit o 1 = false := by
  obtain rfl | rfl : o = 0 ∨ o = 1 := by omega
  · rfl
  · rfl

theorem cmdTwinConfig_shape (hlen : b.length = 36) (ho : fld b 0 4 < 2) (h5 : zeroAt b 5 1 = true)
    (h16 : zeroAt b 16 20 = true) : cmdTwinConfig.shape b = true := by
  simp [cmdTwinConfig, cfgOpts, cfgLen, bit_one_of_lt ho, hlen, h5, h16]
  omega

/-- A record that the command takes. -/
abbrev TwinRecord (c : List Byte) : Prop :=
  fld c 0 1 < 2 ∧ fld c 2 2 ≤ 3600 ∧ 500 ≤ fld c 4 2 ∧ fld c 4 2 ≤ 10000

section
variable (ho : fld b 0 4 < 2)
include ho

theorem cmdTwinConfig_malformed (h : ¬TwinRecord (b.drop 4)) :
    cmdTwinConfig.run b s = ans stMalformed [] s := by
  refine (if_neg (by simp [bit_one_of_lt ho])).trans (if_pos ?_)
  simp only [Bool.or_eq_true, decide_eq_true_eq]
  simp only [TwinRecord] at h
  omega

variable (hok : TwinRecord (b.drop 4))
include hok

theorem cmdTwinConfig_checked : cmdTwinConfig.run b s =
    if s.twinOn && fld (b.drop 4) 0 1 = 0 && s.quiet then refuse stDenied s
    else if s.twin.planned.isSome || (bit (fld b 0 4) 0 && s.flashHeld) then refuse stBusy s
    else ans stOk (b.drop 4) (if bit (fld b 0 4) 0 then (s.setTwin (b.drop 4)).persist cfTwin (b.drop 4)
      else s.setTwin (b.drop 4)) := by
  refine (if_neg (by simp [bit_one_of_lt ho])).trans (if_neg ?_)
  obtain ⟨hon, hback, hlow, hhigh⟩ := hok
  simp only [Bool.or_eq_true, decide_eq_true_eq]
  omega

theorem cmdTwinConfig_denied (h : s.twinOn = true ∧ fld (b.drop 4) 0 1 = 0 ∧ s.quiet = true) :
    cmdTwinConfig.run b s = ans stDenied [] s := by
  obtain ⟨hon, hoff, hq⟩ := h
  rw [cmdTwinConfig_checked ho hok, if_pos (by simp [hon, hoff, hq])]
  rfl

variable (hallowed : ¬(s.twinOn = true ∧ fld (b.drop 4) 0 1 = 0 ∧ s.quiet = true))
include hallowed

theorem cmdTwinConfig_busy (h : s.twin.planned ≠ none ∨ (fld b 0 4 = 1 ∧ s.flashHeld = true)) :
    cmdTwinConfig.run b s = ans stBusy [] s := by
  rw [cmdTwinConfig_checked ho hok, if_neg (by simpa [and_assoc] using hallowed), if_pos ?_]
  · rfl
  · obtain h | ⟨hone, hheld⟩ := h
    · simp [Option.isSome_iff_ne_none, h]
    · simp [hone, hheld, bit]

theorem cmdTwinConfig_ok (hfree : s.twin.planned = none) (hheld : fld b 0 4 = 1 → s.flashHeld = false) :
    ∃ u, cmdTwinConfig.run b s = ans stOk (b.drop 4) u ∧ u.twin = (s.setTwin (b.drop 4)).twin := by
  rw [cmdTwinConfig_checked ho hok, if_neg (by simpa [and_assoc] using hallowed), if_neg ?_]
  · exact ⟨_, rfl, ite_view State.twin (State.persist_twin ..) rfl⟩
  · have hcases : fld b 0 4 = 0 ∨ fld b 0 4 = 1 := by omega
    obtain hzero | hone := hcases
    · simp [hfree, hzero, bit]
    · simp [hfree, hone, hheld hone]

end

/-- READ. -/
theorem cmdTwinConfig_read (ho : fld b 0 4 = 2) : cmdTwinConfig.run b s = ans stOk s.twin.conf s :=
  if_pos (by rw [ho]; rfl)

end

/-! ### MB_TWIN_STATUS -/

theorem cmdTwinStatus_run (s : State) : ∃ b, cmdTwinStatus.run [] s = ans stOk b (s.fresh 1).2 ∧
    fld b 0 1 = roleNo s.twin.role ∧ fld b 1 1 = bnat s.sys.pref ∧
    fld b 3 1 = bnat s.twin.lane0 + 2 * bnat s.twin.lane1 ∧ fld b 4 1 = bnat s.twin.mirrored ∧
    fld b 5 1 = missedRow s.twin.window % 256 ∧
    fld b 8 8 = (if s.twin.role = .active then s.twin.sealed else s.twin.applied) % 2 ^ 64 := by
  refine ⟨_, rfl, ?_⟩
  simp only [List.append_assoc]
  refine ⟨?_, ?_, ?_, ?_, ?_, ?_⟩
  · refine (fld_le 1 (roleNo s.twin.role) _).trans (Nat.mod_eq_of_lt ?_)
    cases s.twin.role <;> decide
  · refine (fld_le 1 (bnat s.sys.pref) _).trans (Nat.mod_eq_of_lt ?_)
    cases s.sys.pref <;> decide
  · refine (fld_le 1 (bnat s.twin.lane0 + 2 * bnat s.twin.lane1) _).trans (Nat.mod_eq_of_lt ?_)
    cases s.twin.lane0 <;> cases s.twin.lane1 <;> decide
  · refine (fld_le 1 (bnat s.twin.mirrored) _).trans (Nat.mod_eq_of_lt ?_)
    cases s.twin.mirrored <;> decide
  · exact fld_le 1 (missedRow s.twin.window) _
  · exact fld_le 8 (if s.twin.role = .active then s.twin.sealed else s.twin.applied) _

/-! ### MB_TWIN_DRILL -/

section
variable {b : List Byte} {s : State}

/-- Whether a drill may begin: active, its epochs applied three times in a row. -/
abbrev State.drillReady (s : State) : Prop :=
  s.twin.role = .active ∧ (∃ h, s.twin.hb = some h ∧ h.seq.toNat = s.twin.sealed) ∧ 3 ≤ s.twin.appliedRow

theorem cmdTwinDrill_malformed (h : fld b 0 2 = 0 ∨ 3600 < fld b 0 2) :
    cmdTwinDrill.run b s = ans stMalformed [] s :=
  if_pos (by simpa using h)

variable (hd : fld b 0 2 ≠ 0) (hmax : fld b 0 2 ≤ 3600)
include hd hmax

theorem cmdTwinDrill_denied (h : ¬s.drillReady) : cmdTwinDrill.run b s = ans stDenied [] s := by
  refine (if_neg (by simpa [hd] using hmax)).trans (if_pos ?_)
  by_cases hrole : s.twin.role = .active
  · cases hhb : s.twin.hb with
    | none => simp
    | some x =>
      have hno : ¬(x.seq.toNat = s.twin.sealed ∧ 3 ≤ s.twin.appliedRow) :=
        fun hx => h ⟨hrole, ⟨x, hhb, hx.1⟩, hx.2⟩
      simpa [hrole] using not_and_or.mp hno
  · simp [hrole]

variable (hready : s.drillReady)
include hready

theorem cmdTwinDrill_ready : cmdTwinDrill.run b s =
    if s.twin.planned.isSome || s.twin.drillEnd.isSome then refuse stBusy s
    else ans stOk (secNs (ceilMul (s.net + 2 * s.roundNs) s.roundNs) ++ zeros 4)
      (s.planSwap (some (fld b 0 2))) := by
  obtain ⟨hrole, ⟨h, hhb, hseq⟩, hrow⟩ := hready
  refine (if_neg (by simpa [hd] using hmax)).trans (if_neg ?_)
  simp [hrole, hhb, hseq, hrow]

end

/-! ### The rows of takeover and switch-over -/

section
variable {s : State} {dt n : Nat} (htaking : s.twin.taking = some n) (hq : s.quiet = true)
  (hdue : n ≤ (s.elapse dt).net + 2)
include htaking hq hdue

/-- A promotion restores nothing. -/
theorem takeoverComplete_promotes (hr : s.twin.restores = false) :
    ∃ t, exec (.takeoverComplete dt) s = .next t ∧ t.twin.role = .active ∧ t.twin.taking = none ∧
      t.twin.planned = none ∧ t.twin.refreshAt = (s.elapse dt).now ∧ t.pd = s.pd ∧ t.triad = s.triad := by
  have hrun := takeover_promotes (s := s.elapse dt) htaking hq hdue hr
  obtain ⟨hrole, hnone, hplan, hat⟩ := pins_goActive (w := (s.elapse dt).goActive 2 0) rfl
  refine ⟨_, congrArg go hrun, hrole, hnone, hplan, hat, ?_, ?_⟩
  · exact (State.pins_pd _).trans (goActive_pd ..)
  · exact (State.pins_triad _).trans (goActive_triad ..)

/-- A takeover restores the last applied epoch and counts. -/
theorem takeoverComplete_restores (hr : s.twin.restores = true) :
    ∃ t, exec (.takeoverComplete dt) s = .next t ∧ t.twin.role = .active ∧ t.twin.taking = none ∧
      t.twin.planned = none ∧ t.twin.refreshAt = (s.elapse dt).now ∧
      Tab.get 0 t.tly.live (tlTwin 6) = min tlyMax (Tab.get 0 s.tly.live (tlTwin 6) + 1) ∧
      t.pd = (s.elapse dt).restoreEpoch.pd ∧ t.triad = (s.elapse dt).restoreEpoch.triad := by
  have hbeside := beside_twin (i := 6) (by decide)
  obtain ⟨cause, seq, hrun⟩ := takeover_restores (s := s.elapse dt) htaking hq hdue hr
  obtain ⟨hrole, hnone, hplan, hat⟩ :=
    pins_goActive (w := ((s.elapse dt).restoreEpoch.goActive cause seq).count (tlTwin 6)) (State.count_twin ..)
  refine ⟨_, congrArg go hrun, hrole, hnone, hplan, hat.trans (restoreEpoch_now _), ?_, ?_, ?_⟩
  · rw [State.pins_tly, count_self]
    exact congrArg (fun n => min tlyMax (n + 1)) ((goActive_beside _ hbeside ..).trans (restoreEpoch_beside _ hbeside))
  · exact (State.pins_pd _).trans ((State.count_pd ..).trans (goActive_pd ..))
  · exact (State.pins_triad _).trans ((State.count_triad ..).trans (goActive_triad ..))

end

/-- A restored port and the others. -/
theorem takenPort {s t : State} {b : List Byte} {i k : Nat} (hpd : t.pd = s.restoreEpoch.pd)
    (hb : s.twin.epoch = some b) (hset : s.twin.epochSet = [{ space := 1, loc := i, len := k }]) {p : PdPort}
    (hp : s.port i = some p)
    (hsize : fld ((epochBody b).take (ceilMul (32 + fld (epochBody b) 0x14 2) 8)) 0x14 2 = pSize p.conf) :
    let item := (epochBody b).take (ceilMul (32 + fld (epochBody b) 0x14 2) 8)
    ∃ q, t.port i = some q ∧ q.conf = p.conf ∧ q.value.kind = 7 ∧
      q.value.data = slice item 32 (pSize p.conf) ∧
      q.value.quality = BitVec.ofNat 8 ((item.getD 0x16 0) ||| 0x20).toNat ∧
      q.value.seq = fld item 0x0C 4 ∧ q.seq = (fld item 0x0C 4 + 1) % 2 ^ 32 ∧
      (∀ j, j ≠ i → t.port j = s.port j) := by
  intro item
  have hport (j : Nat) : t.port j = (s.restorePort i item).port j := by
    rw [port_of_pd hpd, restoreEpoch_port hb hset]
  obtain ⟨q, hq, hconf, hkind, hdata, hquality, hseq, hnext⟩ := restorePort_port_self hp hsize
  exact ⟨q, (hport i).trans hq, hconf, hkind, hdata, hquality, hseq, hnext,
    fun j hj => (hport j).trans (restorePort_port_ne s item hj)⟩

section
variable {s : State} {dt : Nat} {p : Planned} (hplanned : s.twin.planned = some p)
  (hdue : p.net ≤ (s.elapse dt).net + 2)
include hplanned hdue

/-- The roles swap at S: the active device goes quiet, a drill's dwell begins. -/
theorem plannedSwitchover_active (hrole : s.twin.role = .active) (hsealed : p.sealed = true)
    (hnear : (s.elapse dt).hearsPeer = true) {h : Heartbeat} (hhb : s.twin.hb = some h)
    (happlied : s.twin.sealed ≤ h.seq.toNat) :
    ∃ t, exec (.plannedSwitchover dt) s = .next t ∧ t.twin.role = .standby ∧ t.twin.act = false ∧
      t.twin.planned = none ∧
      (∀ d, p.drill = some d → t.twin.drillEnd = some ((s.elapse dt).now + d * 1000000000)) := by
  have hrun := swapRoles_active (s := s.elapse dt) hplanned hdue hrole hsealed hnear hhb happlied
  obtain ⟨a, htwin⟩ := goQuiet_twin (s.elapse dt) .standby 4
  have hr : ((s.elapse dt).goQuiet .standby 4).twin.role = .standby := (congrArg Twin.role htwin).trans rfl
  have hp : ((s.elapse dt).goQuiet .standby 4).twin.planned = none := (congrArg Twin.planned htwin).trans rfl
  have hnow := now_of_clk (goQuiet_clk (s.elapse dt) .standby 4)
  refine ⟨_, congrArg go hrun, ?_⟩
  cases p.drill with
  | none => exact ⟨(pins_role _).trans hr, pins_act_of_role (by rw [hr]; decide),
      (congrArg Twin.planned (pins_twin _)).trans hp, nofun⟩
  | some d =>
    refine ⟨(pins_role _).trans hr, pins_act_of_role (by simp [hr]),
      (congrArg Twin.planned (pins_twin _)).trans hp, fun d' hd => ?_⟩
    cases hd
    exact (congrArg Twin.drillEnd (pins_twin _)).trans (congrArg (fun n => some (n + d * 1000000000)) hnow)

end

/-! ### Timers (R411, R415, R416) -/

/-- Whether the preferred standby has run clean for TAKEBACK_S. -/
abbrev State.cleanLongEnough (s : State) (now : Nat) : Prop :=
  s.twin.role = .standby ∧ s.sys.pref = true ∧ fld s.twin.conf 2 2 ≠ 0 ∧ s.twin.drillEnd = none ∧
    s.twin.epoch ≠ none ∧ s.twin.cleanSince + fld s.twin.conf 2 2 * 1000000000 ≤ now

/-- The condition of TAKEBACK_TIMER, as it is computed. -/
theorem clean_iff (s : State) (now : Nat) :
    (s.twin.role == .standby && s.sys.pref && fld s.twin.conf 2 2 ≠ 0 && s.twin.drillEnd.isNone &&
      s.twin.epoch.isSome && s.twin.cleanSince + fld s.twin.conf 2 2 * 1000000000 ≤ now) = true ↔
      s.cleanLongEnough now := by
  simp only [Bool.and_eq_true, beq_iff_eq, decide_eq_true_eq, Option.isNone_iff_eq_none,
    Option.isSome_iff_ne_none, State.cleanLongEnough]
  tauto

section
variable {s : State} {dt : Nat}

theorem takebackTimer_clean (h : s.cleanLongEnough (s.elapse dt).now) :
    ∃ t, exec (.takebackTimer dt) s = .next t ∧
      t.twin = { s.twin with act := t.twin.act, wantBack := true } ∧ t.onlyChanges s [.twin] := by
  refine ⟨_, congrArg go (if_pos ((clean_iff (s.elapse dt) _).mpr h)), ?_, ?_⟩
  · rw [pins_twin]; rfl
  · exact go_only (only_set_twin _ (only_refl ..) (by decide))

theorem takebackTimer_idle (h : ¬s.cleanLongEnough (s.elapse dt).now) :
    exec (.takebackTimer dt) s = go (s.elapse dt) :=
  congrArg go (if_neg (mt (clean_iff (s.elapse dt) _).mp h))

theorem drillDwellExpiry_due {n : Nat} (hn : s.twin.drillEnd = some n) (hdue : n ≤ (s.elapse dt).now) :
    ∃ t, exec (.drillDwellExpiry dt) s = .next t ∧
      t.twin = { s.twin with
        act := t.twin.act, drillEnd := none, wantBack := decide (s.twin.role = Role.standby) } ∧
      t.onlyChanges s (.twin :: eventParts) := by
  have hn' : (s.elapse dt).twin.drillEnd = some n := hn
  have hrun : ∃ args, exec (.drillDwellExpiry dt) s = go (({ s.elapse dt with twin := { s.twin with
      drillEnd := none, wantBack := decide (s.twin.role = Role.standby) } } : State).note (ev 12 6) args) := by
    simp only [exec, execDrillDwellExpiry, hn', if_pos hdue]
    exact ⟨_, rfl⟩
  obtain ⟨args, hrun⟩ := hrun
  refine ⟨_, hrun, ?_, ?_⟩
  · rw [pins_twin, State.note_twin]
  · exact go_only (only_trans (only_set_twin _ (only_refl ..) (by decide)) (note_only _ _ _ _ (by decide)))

theorem drillDwellExpiry_idle
    (h : s.twin.drillEnd = none ∨ ∃ n, s.twin.drillEnd = some n ∧ (s.elapse dt).now < n) :
    exec (.drillDwellExpiry dt) s = go (s.elapse dt) := by
  simp only [exec, execDrillDwellExpiry, State.elapse_twin]
  obtain h | ⟨n, hn, hlate⟩ := h
  · rw [h]
  · rw [hn]
    exact if_neg (Nat.not_le.mpr hlate)

theorem pairWaitExpiry_due {n : Nat} (hn : s.twin.pairWait = some n) (hdue : n ≤ (s.elapse dt).now) :
    ∃ t, exec (.pairWaitExpiry dt) s = .next t ∧
      t.twin = { s.twin with act := t.twin.act, pairOver := true, pairWait := none } ∧
      t.onlyChanges s [.twin] := by
  have hrun : exec (.pairWaitExpiry dt) s = go { s.elapse dt with
      twin := { s.twin with pairOver := true, pairWait := none } } := by
    simp only [exec, execPairWaitExpiry, State.elapse_twin, hn]
    exact if_pos hdue
  refine ⟨_, hrun, ?_, ?_⟩
  · rw [pins_twin]
  · exact go_only (only_set_twin _ (only_refl ..) (by decide))

theorem pairWaitExpiry_idle
    (h : s.twin.pairWait = none ∨ ∃ n, s.twin.pairWait = some n ∧ (s.elapse dt).now < n) :
    exec (.pairWaitExpiry dt) s = go (s.elapse dt) := by
  simp only [exec, execPairWaitExpiry, State.elapse_twin]
  obtain h | ⟨n, hn, hlate⟩ := h
  · rw [h]
  · rw [hn]
    exact if_neg (Nat.not_le.mpr hlate)

end

/-! ### The mailbox rows -/

section
variable {s : State} (dt : Nat) {r : Req} (hf : s.mbxFree) (hp : r.plain)
include hf hp

/-- MB_TWIN_CONFIG with a record. -/
theorem mbTwinConfig_answers (hlen : r.body.length = 36) (ho : fld r.body 0 4 < 2)
    (h5 : zeroAt r.body 5 1 = true) (h16 : zeroAt r.body 16 20 = true) :
    let c := r.body.drop 4
    let denied := s.twinOn = true ∧ fld c 0 1 = 0 ∧ s.quiet = true
    let o := fld r.body 0 4
    (¬TwinRecord c → ∃ t, exec (.mbTwinConfig dt r) s = .next t ∧ t.answered 0x0A01 r stMalformed [] ∧
      t.onlyChanges s answerParts) ∧
    (TwinRecord c → denied → ∃ t, exec (.mbTwinConfig dt r) s = .next t ∧ t.answered 0x0A01 r stDenied [] ∧
      t.onlyChanges s answerParts) ∧
    (TwinRecord c → ¬denied → s.twin.planned ≠ none ∨ (o = 1 ∧ s.flashHeld = true) →
      ∃ t, exec (.mbTwinConfig dt r) s = .next t ∧ t.answered 0x0A01 r stBusy [] ∧
        t.onlyChanges s answerParts) ∧
    (TwinRecord c → ¬denied → s.twin.planned = none → (o = 1 → s.flashHeld = false) →
      ∃ t, exec (.mbTwinConfig dt r) s = .next t ∧ t.answered 0x0A01 r stOk c ∧ t.twin.conf = c ∧
        (s.twinOn = decide (fld c 0 1 = 1) → t.twin.role = s.twin.role) ∧
        (s.twinOn = true → fld c 0 1 = 0 → t.twin.role = .solo) ∧
        (s.twinOn = false → fld c 0 1 = 1 →
          t.twin.role = if s.gaf.active then .active else .standby)) := by
  have hshape := cmdTwinConfig_shape hlen ho h5 h16
  intro c denied o
  refine ⟨fun hbad => ?_, fun hok hden => ?_, fun hok hden hbusy => ?_, fun hok hden hfree hheld => ?_⟩
  · exact mailbox_read s dt cmdTwinConfig r (by decide) hf hp hshape _ _ (cmdTwinConfig_malformed ho hbad)
  · exact mailbox_read s dt cmdTwinConfig r (by decide) hf hp hshape _ _ (cmdTwinConfig_denied ho hok hden)
  · exact mailbox_read s dt cmdTwinConfig r (by decide) hf hp hshape _ _
      (cmdTwinConfig_busy ho hok hden hbusy)
  · let w := (s.elapse dt).writeReq cmdTwinConfig.op r
    obtain ⟨u, hrun, htwin⟩ := cmdTwinConfig_ok (s := w) ho hok hden hfree hheld
    obtain ⟨t, hexec, hans, ht⟩ := mailbox_done (s.elapse dt) cmdTwinConfig r (by decide) hf hp hshape _ _ u hrun
    have hend : t.twin = { (w.setTwin c).twin with act := t.twin.act } := by
      rw [ht, pins_twin, State.respond_twin, htwin]
    have hbit : bit (fld c 0 1) 0 = decide (fld c 0 1 = 1) := by
      have hone : fld c 0 1 < 2 := hok.1
      obtain h | h : fld c 0 1 = 0 ∨ fld c 0 1 = 1 := by omega
      · rw [h]; rfl
      · rw [h]; rfl
    have hrole : t.twin.role = (w.setTwin c).twin.role := (congrArg Twin.role hend).trans rfl
    have hconf : t.twin.conf = (w.setTwin c).twin.conf := (congrArg Twin.conf hend).trans rfl
    refine ⟨t, hexec, hans, ?_, fun hsame => ?_, fun hon hoff => ?_, fun hoff hon => ?_⟩
    · rw [hconf]
      cases hw : s.twinOn with
      | true =>
        cases hb : bit (fld c 0 1) 0 with
        | true => rw [setTwin_same w (show w.twinOn = _ from hw.trans hb.symm)]
        | false => exact (setTwin_off w hw hb).1
      | false =>
        cases hb : bit (fld c 0 1) 0 with
        | true => exact (setTwin_on w hw hb).1
        | false => rw [setTwin_same w (show w.twinOn = _ from hw.trans hb.symm)]
    · rw [hrole, setTwin_same w (show w.twinOn = _ from hsame.trans hbit.symm)]
      rfl
    · exact hrole.trans (setTwin_off w hon (hbit.trans (by rw [hoff]; rfl))).2
    · exact hrole.trans (setTwin_on w hoff (hbit.trans (by rw [hon]; rfl))).2

/-- MB_TWIN_DRILL. -/
theorem mbTwinDrill_answers (hlen : r.body.length = 4) (hz : zeroAt r.body 2 2 = true) :
    let d := fld r.body 0 2
    (d = 0 ∨ 3600 < d → ∃ t, exec (.mbTwinDrill dt r) s = .next t ∧
      t.answered 0x0A03 r stMalformed [] ∧ t.onlyChanges s answerParts) ∧
    (d ≠ 0 → d ≤ 3600 → ¬s.drillReady → ∃ t, exec (.mbTwinDrill dt r) s = .next t ∧
      t.answered 0x0A03 r stDenied [] ∧ t.onlyChanges s answerParts) ∧
    (d ≠ 0 → d ≤ 3600 → s.drillReady → s.twin.planned ≠ none ∨ s.twin.drillEnd ≠ none →
      ∃ t, exec (.mbTwinDrill dt r) s = .next t ∧ t.answered 0x0A03 r stBusy [] ∧
        t.onlyChanges s answerParts) ∧
    (d ≠ 0 → d ≤ 3600 → s.drillReady → s.twin.planned = none → s.twin.drillEnd = none →
      let at_ := ceilMul ((s.elapse dt).net + 2 * s.roundNs) s.roundNs
      ∃ t, exec (.mbTwinDrill dt r) s = .next t ∧ t.answered 0x0A03 r stOk (secNs at_ ++ zeros 4) ∧
        t.twin.planned = some { net := at_, sealed := false, drill := some d } ∧
        t.twin.role = .active ∧ t.onlyChanges s (.twin :: answerParts)) := by
  have hshape : cmdTwinDrill.shape r.body = true := by simp [cmdTwinDrill, hlen, hz]
  intro d
  let w := (s.elapse dt).writeReq cmdTwinDrill.op r
  refine ⟨fun hbad => ?_, fun hd hmax hno => ?_, fun hd hmax hready hbusy => ?_,
    fun hd hmax hready hfree hdwell => ?_⟩
  · exact mailbox_read s dt cmdTwinDrill r (by decide) hf hp hshape _ _ (cmdTwinDrill_malformed hbad)
  · exact mailbox_read s dt cmdTwinDrill r (by decide) hf hp hshape _ _ (cmdTwinDrill_denied hd hmax hno)
  · refine mailbox_read s dt cmdTwinDrill r (by decide) hf hp hshape _ _
      ((cmdTwinDrill_ready (s := w) hd hmax hready).trans (if_pos ?_))
    have hbusy' : w.twin.planned ≠ none ∨ w.twin.drillEnd ≠ none := hbusy
    simpa [Option.isSome_iff_ne_none] using hbusy'
  · intro at_
    have hrun := (cmdTwinDrill_ready (s := w) hd hmax hready).trans (if_neg (by
      have hfree' : w.twin.planned = none := hfree
      have hdwell' : w.twin.drillEnd = none := hdwell
      simp [hfree', hdwell']))
    obtain ⟨t, hexec, hans, honly, ht⟩ := mailbox_change s dt cmdTwinDrill r (.twin :: answerParts) (by decide)
      hf hp hshape _ _ _ hrun (by decide) (only_sub (State.planSwap_touch w _) (by decide))
    refine ⟨t, hexec, hans, ?_, ?_, honly⟩
    · rw [ht, pins_twin, State.respond_twin]
      rfl
    · rw [ht, pins_role, State.respond_twin]
      exact hready.1

/-- MB_TWIN_STATUS. -/
theorem mbTwinStatus_answers (hbody : r.body = []) :
    ∃ t b, exec (.mbTwinStatus dt r) s = .next t ∧ t.answered 0x0A02 r stOk b ∧
      fld b 0 1 = roleNo s.twin.role ∧ fld b 1 1 = bnat s.sys.pref ∧
      fld b 3 1 = bnat s.twin.lane0 + 2 * bnat s.twin.lane1 ∧ fld b 4 1 = bnat s.twin.mirrored ∧
      fld b 5 1 = missedRow s.twin.window % 256 ∧
      fld b 8 8 = (if s.twin.role = .active then s.twin.sealed else s.twin.applied) % 2 ^ 64 ∧
      t.onlyChanges s (.clock :: answerParts) := by
  let w := (s.elapse dt).writeReq cmdTwinStatus.op r
  obtain ⟨b, hrun, h0, h1, h3, h4, h5, h8⟩ := cmdTwinStatus_run w
  rw [← hbody] at hrun
  obtain ⟨t, hexec, hans, honly, -⟩ := mailbox_change s dt cmdTwinStatus r (.clock :: answerParts) (by decide)
    hf hp (by rw [hbody]; rfl) _ _ _ hrun (by decide) (only_sub (State.fresh_touch 1 w) (by decide))
  exact ⟨t, b, hexec, hans, h0, h1, h3, h4, h5, h8, honly⟩

end

/-! ### The obligation -/

/-- Settles O51, row by row: the decision rules, takeover, the planned switch-over and its timers, and the
mailbox commands. -/
theorem twinRolesAndTakeover : Obligations.TwinRolesAndTakeover := by
  unfold Obligations.TwinRolesAndTakeover
  refine ⟨fun s dt wit => ⟨fun hdue => ?_, fun hno => ?_⟩, fun s dt => ⟨fun n htaking hq hdue => ?_, fun hno => ?_⟩,
    fun s dt p hplanned => ?_, fun s dt => ?_, fun s dt r hf hp => ?_⟩
  · have hnow : ((s.elapse dt).judge wit).pins.twin = { ((s.elapse dt).judge wit).twin with
      act := ((s.elapse dt).judge wit).pins.twin.act } := pins_twin _
    obtain ⟨hlast, hcount⟩ := judge_counts (s := s.elapse dt) wit hdue
    have hmissed := missedPeer_iff (s.elapse dt)
    refine ⟨_, rfl, ?_⟩
    rw [hnow, State.pins_tly]
    refine ⟨hlast, fun hm => hcount (hmissed.mpr hm), fun x y hw hm hx hy hxc hyc => ?_,
      fun x y h hw hm hhb hx hy hxc hyc => ?_⟩
    · exact judge_missed (s := s.elapse dt) wit hdue (hmissed.mpr hm) hw hx hy hxc hyc
    · exact judge_claimed (s := s.elapse dt) wit hdue (by simpa using mt hmissed.mp hm) hw hhb hx hy hxc hyc
  · exact exec_idle (congrArg go (judge_idle (s := s.elapse dt) wit hno))
  · cases hr : s.twin.restores with
    | false =>
      obtain ⟨t, hrun, hrole, hnone, hplan, hat, hpd, htriad⟩ := takeoverComplete_promotes htaking hq hdue hr
      exact ⟨t, hrun, hrole, hnone, hplan, hat, fun _ => ⟨hpd, htriad⟩, nofun⟩
    | true =>
      obtain ⟨t, hrun, hrole, hnone, hplan, hat, hcount, hpd, htriad⟩ :=
        takeoverComplete_restores htaking hq hdue hr
      refine ⟨t, hrun, hrole, hnone, hplan, hat, nofun, fun _ => ⟨hcount, fun hepoch => ?_,
        fun b i k p hb hset hport hsize => ?_, fun b o k hb hset => ⟨fun c hc => ?_, ?_⟩⟩⟩
      · rw [restoreEpoch_none (s := s.elapse dt) hepoch] at hpd htriad
        exact ⟨hpd, htriad⟩
      · exact takenPort (s := s.elapse dt) hpd hb hset hport hsize
      · rw [restoreEpoch_tcm (s := s.elapse dt) hb hset] at htriad
        rw [core_of_triad htriad]
        exact tcmWrite_dtcm (s := s.elapse dt) hc ..
      · rw [restoreEpoch_tcm (s := s.elapse dt) hb hset] at hpd
        exact hpd.trans ((State.tcmWrite_touch (s.elapse dt) o _).2 .store (by decide))
  · exact exec_idle (congrArg go (takeover_idle (s := s.elapse dt) hno))
  · have hnear := hearsPeer_iff (s.elapse dt)
    refine ⟨fun hearly => ?_, fun hdue hrole hsealed hn ⟨h, hhb, happlied⟩ => ?_,
      fun hdue hq hsealed hn => ?_, fun hdue hno => ?_⟩
    · exact exec_idle (congrArg go (swapRoles_early (s := s.elapse dt) hplanned hearly))
    · exact plannedSwitchover_active hplanned hdue hrole hsealed (hnear.mpr hn) hhb happlied
    · refine ⟨_, congrArg go (swapRoles_quiet (s := s.elapse dt) hplanned hdue hq hsealed (hnear.mpr hn)), ?_, ?_⟩
      · rw [pins_twin]; rfl
      · exact go_only (only_set_twin _ (only_refl ..) (by decide))
    · refine ⟨_, congrArg go (swapRoles_abandoned (s := s.elapse dt) hplanned hdue ?_), ?_, ?_⟩
      · refine hno.imp_right (Or.imp (fun hn => by simpa using mt hnear.mp hn)
          fun ⟨hr, hap⟩ => ⟨hr, fun h hh hle => ?_⟩)
        exact hap ⟨h, hh, hle⟩
      · rw [pins_twin]; rfl
      · exact go_only (only_set_twin _ (only_refl ..) (by decide))
  · refine ⟨fun hnone => exec_idle (congrArg go (swapRoles_none (s := s.elapse dt) hnone)), fun hclean => ?_,
      fun hno => ?_, fun n hn hdue => ?_, fun hno => ?_, fun n hn hdue => ?_, fun hno => ?_⟩
    · exact takebackTimer_clean hclean
    · exact exec_idle (takebackTimer_idle hno)
    · exact drillDwellExpiry_due hn hdue
    · exact exec_idle (drillDwellExpiry_idle hno)
    · exact pairWaitExpiry_due hn hdue
    · exact exec_idle (pairWaitExpiry_idle hno)
  · refine ⟨fun hlen ho h5 h16 => mbTwinConfig_answers dt hf hp hlen ho h5 h16, fun hlen ho => ?_,
      fun hbody => mbTwinStatus_answers dt hf hp hbody, fun hlen hz => mbTwinDrill_answers dt hf hp hlen hz⟩
    exact mailbox_read s dt cmdTwinConfig r (by decide) hf hp
      (by simp [cmdTwinConfig, cfgOpts, cfgLen, ho, hlen, bit]) _ _ (cmdTwinConfig_read ho)

end Sys2Proof.Machine

/-! SUPPORT. Chapter 14, inbound transfers (R454 to R459, R464, R469 to R471). -/

namespace Sys2Proof.Machine

/-! ### The dishonour log (R464, R465) -/

section
variable (s : State) (kind cause win be addr data : Nat)

theorem dishonour_bridge : (s.dishonour kind cause win be addr data).bridge =
    { s.bridge with
      dishNext := (s.bridge.dishNext + 1) % 2 ^ 32
      dish := if s.bridge.dish.length ≥ 64 then s.bridge.dish else s.bridge.dish ++ [{
        kind := kind, cause := cause, win := win, be := be, addr := addr, data := data, net := s.net
        num := s.bridge.dishNext }] } := by
  unfold State.dishonour
  extract_lets n _ t e _ u
  by_cases h : s.bridge.dish.length ≥ 64
  · refine (congrArg State.bridge (if_pos h)).trans ?_
    simp only [if_pos h]
    rfl
  · refine (congrArg State.bridge (if_neg h)).trans ((State.noteOnce_bridge ..).trans ?_)
    simp only [if_neg h]
    rfl

/-- An entry counts the loss of an entry, or a daybook entry lost or put off, and nothing else. -/
theorem dishonour_tally {k : Nat} (h12 : k ≠ tlFlb 12) (h5 : k ≠ tlFeed 5) (h6 : k ≠ tlFeed 6) :
    (s.dishonour kind cause win be addr data).tallyAt k = s.tallyAt k := by
  unfold State.dishonour
  extract_lets n _ t e _ u
  exact ite_tallyAt ((count_tally t _ 1 k h12).trans rfl) ((noteOnce_tally u _ _ _ k h5 h6).trans rfl)

end

/-! ### The semaphore and the first answers (R458, R459, R475) -/

/-- The semaphore after the address phase of a transfer. -/
def State.semaAfter (s : State) (a : Nat) (w : List Byte) (lock : Bool) : Option Sema :=
  if lock then
    match s.bridge.sema with
    | some x => some x
    | none => some { win := wIndex w, addr := a, at_ := s.now }
  else none

/-- The state after the address phase. -/
def State.addressed (s : State) (a : Nat) (w : List Byte) (lock : Bool) : State :=
  { s with bridge := { s.bridge with sema := s.semaAfter a w lock } }

/-- The answers to an addressed transfer to a window: none where it passes. -/
def State.flbPass (u : State) (w : List Byte) (lock : Bool) : Option (List Byte) × State :=
  let other := match u.bridge.sema with | some x => lock && x.win ≠ wIndex w | none => false
  if u.bridge.request then (none, u.flbRetry 5)
  else if other then (none, u.flbRetry 7)
  else if wSpace w = 3 && !(u.sys.stage == .up || u.sys.stage == .restart || u.sys.stage == .swap) then
    (none, u.flbAnswer 1 0)
  else (some w, u)

/-- A transfer to an inbound window of the device. -/
abbrev State.inbound (s : State) (a : Nat) (w : List Byte) : Prop :=
  s.quiet = false ∧ s.bridge.granted = false ∧ s.inWindow a = some w

/-- Whether the semaphore lets a transfer to a window pass. -/
abbrev State.semaFree (s : State) (w : List Byte) (lock : Bool) : Prop :=
  lock = false ∨ s.bridge.sema = none ∨ ∃ x, s.bridge.sema = some x ∧ x.win = wIndex w

section
variable {s : State} {a : Nat} {w : List Byte} (lock : Bool)

/-- A transfer that is not the device's. -/
theorem flbEnter_other_device (h : s.quiet = true ∨ s.bridge.granted = true ∨ s.inWindow a = none) :
    s.flbEnter a true = (none, s) := by
  unfold State.flbEnter
  by_cases hq : (s.quiet || s.bridge.granted) = true
  · exact if_pos hq
  · refine (if_neg hq).trans ?_
    have hwin : s.inWindow a = none := by
      simp only [Bool.or_eq_true, not_or] at hq
      exact (h.resolve_left hq.1).resolve_left hq.2
    change (match s.inWindow a with | none => _ | some w => _) = _
    rw [hwin]
    rfl

variable (hin : s.inbound a w)
include hin

/-- What an inbound transfer of the device meets. -/
theorem flbEnter_inbound : s.flbEnter a lock = (s.addressed a w lock).flbPass w lock := by
  obtain ⟨hloud, hfree, hwin⟩ := hin
  let t : State := if lock then s else { s with bridge := { s.bridge with sema := none } }
  have ht : (t.quiet || t.bridge.granted) = false := by
    cases lock <;> exact Bool.or_eq_false_iff.mpr ⟨hloud, hfree⟩
  have hw : t.inWindow a = some w := by cases lock <;> exact hwin
  have haddressed : (if lock && t.bridge.sema.isNone then
      { t with bridge := { t.bridge with sema := some { win := wIndex w, addr := a, at_ := t.now } } } else t) =
      s.addressed a w lock := by
    cases lock with
    | false => rfl
    | true =>
      cases hs : s.bridge.sema with
      | none => simp [t, hs, State.addressed, State.semaAfter]
      | some x =>
        simp only [t, hs, State.addressed, State.semaAfter, if_true, Option.isNone_some, Bool.and_false,
          Bool.false_eq_true, if_false]
        rw [← hs]
  change (if t.quiet || t.bridge.granted then _ else match t.inWindow a with | none => _ | some w => _) = _
  rw [ht, hw]
  exact congrArg (State.flbPass · w lock) haddressed

theorem flbEnter_request (h : s.bridge.request = true) :
    s.flbEnter a lock = (none, (s.addressed a w lock).flbRetry 5) :=
  (flbEnter_inbound lock hin).trans (if_pos h)

theorem flbEnter_held (h : s.bridge.request = false) (hno : ¬s.semaFree w lock) :
    s.flbEnter a lock = (none, (s.addressed a w lock).flbRetry 7) := by
  obtain ⟨hlock, hsema⟩ := not_or.mp hno
  obtain ⟨hsome, hwin⟩ := not_or.mp hsema
  obtain ⟨x, hx⟩ := Option.ne_none_iff_exists'.mp hsome
  have hother : x.win ≠ wIndex w := fun heq => hwin ⟨x, hx, heq⟩
  refine (flbEnter_inbound lock hin).trans ((if_neg (by simp [State.addressed, h])).trans (if_pos ?_))
  simp [State.addressed, State.semaAfter, hlock, hx, hother]

theorem flbEnter_passes (h : s.bridge.request = false) (hsema : s.semaFree w lock) (hup : s.sys.stage = .up) :
    s.flbEnter a lock = (some w, s.addressed a w lock) := by
  refine (flbEnter_inbound lock hin).trans ((if_neg (by simp [State.addressed, h])).trans ((if_neg ?_).trans
    (if_neg (by simp [State.addressed, hup]))))
  obtain rfl | hnone | ⟨x, hx, hwin⟩ := hsema
  · simp [State.addressed, State.semaAfter]
  · cases lock <;> simp [State.addressed, State.semaAfter, hnone]
  · cases lock <;> simp [State.addressed, State.semaAfter, hx, hwin]

end

/-! ### RETRY, and what a seed adds (R563) -/

theorem bridgeDelay_of_unarmed {s : State} (h : s.seeds.armed = []) (win dir : Nat) :
    s.bridgeDelay win dir = (0, s) := by
  rw [State.bridgeDelay, inject_of_unarmed h]
  rfl

/-- A RETRY that is counted, the pins up to date. -/
theorem flbRetry_pins (s : State) (k : Nat) :
    (s.flbRetry k).pins.tallyAt (tlFlb k) = min tlyMax (s.tallyAt (tlFlb k) + 1) ∧
      (s.flbRetry k).pins.bridge = s.bridge ∧ (s.flbRetry k).pins.sent = s.sent ++ [.value (ev 14 1) 0] := by
  refine ⟨?_, State.pins_bridge _, State.pins_sent _⟩
  show Tab.get 0 (s.flbRetry k).pins.tly.live (tlFlb k) = _
  rw [State.pins_tly]
  exact count_self s (tlFlb k)

/-! ### Posted writes (R454) -/

section
variable {s : State} {addr be d a : Nat} {w : List Byte} {lock : Bool} (ha : addr / 2 * 2 = a)
include ha

theorem flbWriteIn_stopped {u : State} (h : s.flbEnter a lock = (none, u)) :
    s.flbWriteIn addr be d lock = u := by
  rw [State.flbWriteIn, ha, h]

theorem flbWriteIn_full {u : State} (h : s.flbEnter a lock = (some w, u)) (hbe : be ≠ 0)
    (hlen : 16 ≤ u.bridge.inW.length) : s.flbWriteIn addr be d lock = u.flbRetry 4 := by
  rw [State.flbWriteIn, ha, h]
  exact (if_neg hbe).trans (if_pos hlen)

/-- A write that is taken into the queue. -/
theorem flbWriteIn_posted {u : State} (h : s.flbEnter a lock = (some w, u)) (hbe : be ≠ 0)
    (hlen : u.bridge.inW.length < 16) (hseeds : u.seeds.armed = []) : s.flbWriteIn addr be d lock =
      (State.count { u with bridge := { u.bridge with inW := u.bridge.inW ++ [{
        win := wIndex w, conf := w, addr := a, be := be, data := d, readyAt := u.now }] } }
          (tlFlb 1)).flbAnswer 0 0 := by
  rw [State.flbWriteIn, ha, h]
  refine (if_neg hbe).trans ((if_neg (Nat.not_le.mpr hlen)).trans ?_)
  rw [bridgeDelay_of_unarmed hseeds]
  rfl

end

/-! ### Delayed reads (R455) -/

/-- What a slot holds after it is written. -/
theorem setSlot_self (s : State) (k : Nat) (x : Option RdSlot) :
    Tab.get none (s.setSlot k x).bridge.slots k = x := Tab.get_set_self none s.bridge.slots k x

theorem slotEnd_free {s : State} {k : Nat} (h : Tab.get none s.bridge.slots k = none) : s.slotEnd k = s := by
  rw [State.slotEnd, h]

theorem slotEnd_kept {s : State} {k : Nat} {x : RdSlot} (h : Tab.get none s.bridge.slots k = some x)
    (hx : x.isHeld = false ∨ s.now < x.endAt) : s.slotEnd k = s := by
  rw [State.slotEnd, h]
  refine if_neg ?_
  obtain hx | hx := hx
  · simp [hx]
  · simp [Nat.not_le.mpr hx]

/-- A hold that has ended frees its slot; a SIDE_EFFECT one that was never read is logged and counted. -/
theorem slotEnd_ended {s : State} {k : Nat} {x : RdSlot} (h : Tab.get none s.bridge.slots k = some x)
    (hheld : x.isHeld = true) (hend : x.endAt ≤ s.now) : s.slotEnd k =
      if wSide x.conf && !x.failed then
        ((s.setSlot k none).dishonour 3 5 x.win x.be x.addr (x.word x.addr x.be)).count (tlFlb 6)
      else s.setSlot k none := by
  rw [State.slotEnd, h]
  exact if_pos (by simp [hheld, hend])

section
variable {s : State} {addr be a : Nat} {w : List Byte} {lock : Bool} (ha : addr / 2 * 2 = a)
include ha

theorem flbReadIn_stopped {u : State} (h : s.flbEnter a lock = (none, u)) : s.flbReadIn addr be lock = u := by
  rw [State.flbReadIn, ha, h]

/-- The slot that a read matches. -/
def State.slotHit (s : State) (w : List Byte) (a be : Nat) : Option Nat :=
  (List.range 4).find? fun k => match Tab.get none s.bridge.slots k with
    | some x => x.hits w a be
    | none => false

variable {u t : State} (h : s.flbEnter a lock = (some w, u)) (hbe : be ≠ 0)
  (hends : (List.range 4).foldl State.slotEnd u = t)
include h hbe hends

/-- A read that matches a slot. -/
theorem flbReadIn_hit {k : Nat} {x : RdSlot} (hhit : t.slotHit w a be = some k)
    (hx : Tab.get none t.bridge.slots k = some x) : s.flbReadIn addr be lock =
      if !x.isHeld then t.flbRetry 2
      else if x.failed then (t.setSlot k none).flbAnswer 2 0
      else ((if wSide w then t.setSlot k none else t).count (tlFlb 0)).flbAnswer 0 (x.word a be) := by
  rw [State.flbReadIn, ha, h]
  refine (if_neg hbe).trans ?_
  rw [hends]
  change (match t.slotHit w a be with | some k => _ | none => _) = _
  rw [hhit]
  change (match Tab.get none t.bridge.slots k with | some x => _ | none => _) = _
  rw [hx]

/-- A read that matches no slot takes a free one. -/
theorem flbReadIn_allocates {k : Nat} (hhit : t.slotHit w a be = none)
    (hfree : ((List.range 4).find? fun k => (Tab.get none t.bridge.slots k).isNone) = some k)
    (hseeds : t.seeds.armed = []) : s.flbReadIn addr be lock =
      (t.setSlot k (some {
        win := wIndex w, conf := w, addr := a, be := be, isHeld := false, failed := false, bytes := []
        endAt := 0, doomed := false, waitFor := t.bridge.inW.length, readyAt := t.now })).flbAnswer 1 0 := by
  rw [State.flbReadIn, ha, h]
  refine (if_neg hbe).trans ?_
  rw [hends]
  change (match t.slotHit w a be with | some k => _ | none => _) = _
  rw [hhit]
  change (match (List.range 4).find? fun k => (Tab.get none t.bridge.slots k).isNone with
    | none => _ | some k => _) = _
  rw [hfree]
  change (State.setSlot (t.bridgeDelay (wIndex w) 0).2 _ _).flbAnswer 1 0 = _
  rw [bridgeDelay_of_unarmed hseeds]
  rfl

end

section
variable {u : State} {w : List Byte} {a be : Nat}

theorem slotEnds_kept (h : ∀ k x, Tab.get none u.bridge.slots k = some x → x.isHeld = false ∨ u.now < x.endAt) :
    (List.range 4).foldl State.slotEnd u = u := by
  refine List.foldlRecOn (motive := fun t => t = u) _ _ rfl fun t ht k _ => ?_
  rw [ht]
  cases hk : Tab.get none u.bridge.slots k with
  | none => exact slotEnd_free hk
  | some x => exact slotEnd_kept hk (h k x hk)

theorem slotHit_first {x : RdSlot} (hx : Tab.get none u.bridge.slots 0 = some x) (h : x.hits w a be = true) :
    u.slotHit w a be = some 0 := by
  simp [State.slotHit, List.range, List.range.loop, hx, h]

theorem slotHit_of_free (h : u.bridge.slots = []) : u.slotHit w a be = none := by
  simp [State.slotHit, h, Tab.get]

end

/-! ### Inbound writes and reads are answered -/

/-- What stands where an inbound transfer reaches a window of the device, no seed being armed. -/
abbrev State.reached (s : State) (a : Nat) (w : List Byte) : Prop :=
  s.quiet = false ∧ s.bridge.granted = false ∧ s.inWindow a = some w ∧ s.sys.stage = .up ∧ s.seeds.armed = []

section
variable {s : State} {dt : Nat} {addr : BitVec 24} {be : BitVec 2} {d : U16} {lock : Bool} {w : List Byte}
  {a : Nat} (ha : addr.toNat / 2 * 2 = a)

/-- A write that is answered with RETRY, counted. -/
theorem flbInboundWrite_retries {k : Nat}
    (h : (s.elapse dt).flbWriteIn addr.toNat be.toNat d.toNat lock =
      ((s.elapse dt).addressed a w lock).flbRetry k) :
    ∃ t, exec (.flbInboundWrite dt addr be d lock) s = .next t ∧
      t.tallyAt (tlFlb k) = min tlyMax (s.tallyAt (tlFlb k) + 1) ∧ t.bridge.inW = s.bridge.inW ∧
        t.sent = s.sent ++ [.value (ev 14 1) 0] := by
  obtain ⟨hcount, hbridge, hsent⟩ := flbRetry_pins ((s.elapse dt).addressed a w lock) k
  exact ⟨_, congrArg go h, hcount, (congrArg Bridge.inW hbridge :), hsent⟩

/-- A read that is answered with RETRY, counted. -/
theorem flbInboundRead_retries {k : Nat}
    (h : (s.elapse dt).flbReadIn addr.toNat be.toNat lock = ((s.elapse dt).addressed a w lock).flbRetry k) :
    ∃ t, exec (.flbInboundRead dt addr be lock) s = .next t ∧
      t.tallyAt (tlFlb k) = min tlyMax (s.tallyAt (tlFlb k) + 1) ∧ t.bridge.slots = s.bridge.slots ∧
        t.sent = s.sent ++ [.value (ev 14 1) 0] := by
  obtain ⟨hcount, hbridge, hsent⟩ := flbRetry_pins ((s.elapse dt).addressed a w lock) k
  exact ⟨_, congrArg go h, hcount, (congrArg Bridge.slots hbridge :), hsent⟩

include ha in
theorem flbInboundRead_other_device (h : s.quiet = true ∨ s.bridge.granted = true ∨ s.inWindow a = none) :
    ∃ t, exec (.flbInboundRead dt addr be true) s = .next t ∧ t.onlyChanges s [] :=
  exec_idle (congrArg go (flbReadIn_stopped ha (flbEnter_other_device (s := s.elapse dt) h)))

include ha in
theorem flbInboundWrite_other_device (h : s.quiet = true ∨ s.bridge.granted = true ∨ s.inWindow a = none) :
    ∃ t, exec (.flbInboundWrite dt addr be d true) s = .next t ∧ t.onlyChanges s [] :=
  exec_idle (congrArg go (flbWriteIn_stopped ha (flbEnter_other_device (s := s.elapse dt) h)))

variable (hon : s.reached a w) (hasks : s.bridge.request = false) (hfree : s.semaFree w lock) (hbe : be ≠ 0)
include ha hon hasks hfree hbe

/-- A write that is posted. -/
theorem flbInboundWrite_posts (hlen : s.bridge.inW.length < 16) :
    ∃ t, exec (.flbInboundWrite dt addr be d lock) s = .next t ∧
      t.tallyAt (tlFlb 1) = min tlyMax (s.tallyAt (tlFlb 1) + 1) ∧
      t.bridge.inW = s.bridge.inW ++ [{
        win := wIndex w, conf := w, addr := a, be := be.toNat, data := d.toNat, readyAt := (s.elapse dt).now }] ∧
      t.sent = s.sent ++ [.value (ev 14 0) 0] ∧ (lock = false → t.bridge.sema = none) ∧
      (lock = true → s.bridge.sema = none →
        t.bridge.sema = some { win := wIndex w, addr := a, at_ := (s.elapse dt).now }) ∧
      t.onlyChanges s [.bridge, .tallies, .outputs] := by
  obtain ⟨hq, hg, hw, hup, hseeds⟩ := hon
  have henter := flbEnter_passes (s := s.elapse dt) lock ⟨hq, hg, hw⟩ hasks hfree hup
  have hrun := flbWriteIn_posted (d := d.toNat) ha henter (BitVec.toNat_ne.mp hbe) hlen hseeds
  refine ⟨_, congrArg go hrun, ?_, ?_, ?_, ?_, ?_, ?_⟩
  · show Tab.get 0 (State.pins _).tly.live _ = _
    rw [State.pins_tly]
    exact count_self _ (tlFlb 1)
  · rw [State.pins_bridge]
    rfl
  · rw [State.pins_sent]
    rfl
  · rintro rfl
    rw [State.pins_bridge]
    rfl
  · rintro rfl hnone
    rw [State.pins_bridge]
    show (s.elapse dt).semaAfter a w true = _
    rw [State.semaAfter, if_pos rfl, show (s.elapse dt).bridge.sema = none from hnone]
  · exact go_only (only_set_sent _ (only_step (only_set_bridge _ (only_set_bridge _ (only_refl ..) (by decide))
      (by decide)) (State.count_touch _ _)) (by decide))

/-- A read that finds every slot free. -/
theorem flbInboundRead_allocates (hslots : s.bridge.slots = []) :
    ∃ t, exec (.flbInboundRead dt addr be lock) s = .next t ∧ t.sent = s.sent ++ [.value (ev 14 1) 0] ∧
      Tab.get none t.bridge.slots 0 = some {
        win := wIndex w, conf := w, addr := a, be := be.toNat, isHeld := false, failed := false
        bytes := [], endAt := 0, doomed := false, waitFor := s.bridge.inW.length
        readyAt := (s.elapse dt).now } ∧
      t.onlyChanges s [.bridge, .outputs] := by
  obtain ⟨hq, hg, hw, hup, hseeds⟩ := hon
  have henter := flbEnter_passes (s := s.elapse dt) lock ⟨hq, hg, hw⟩ hasks hfree hup
  let u := (s.elapse dt).addressed a w lock
  have hnone (k : Nat) : Tab.get none u.bridge.slots k = none :=
    congrArg (fun l : Tab (Option RdSlot) => Tab.get none l k) hslots
  have hends : (List.range 4).foldl State.slotEnd u = u :=
    slotEnds_kept fun k x hk => absurd (hk.symm.trans (hnone k)) (by simp)
  have hrun := flbReadIn_allocates (k := 0) ha henter (BitVec.toNat_ne.mp hbe) hends
    (slotHit_of_free hslots) (by simp [List.range, List.range.loop, hnone]) hseeds
  refine ⟨_, congrArg go hrun, ?_, ?_, ?_⟩
  · rw [State.pins_sent]
    rfl
  · rw [State.pins_bridge]
    exact setSlot_self ..
  · exact go_only (only_set_sent _ (only_set_bridge _ (only_set_bridge _ (only_refl ..) (by decide))
      (by decide)) (by decide))

/-- A read that matches the first slot, the others being free. -/
theorem flbInboundRead_hits {x : RdSlot} (hslots : s.bridge.slots = [(0, some x)])
    (hhits : x.hits w a be.toNat = true) :
    (x.isHeld = false → ∃ t, exec (.flbInboundRead dt addr be lock) s = .next t ∧
      t.tallyAt (tlFlb 2) = min tlyMax (s.tallyAt (tlFlb 2) + 1) ∧ t.bridge.slots = s.bridge.slots ∧
        t.sent = s.sent ++ [.value (ev 14 1) 0]) ∧
    (x.isHeld = true → (s.elapse dt).now < x.endAt → x.failed = true →
      ∃ t, exec (.flbInboundRead dt addr be lock) s = .next t ∧
        Tab.get none t.bridge.slots 0 = none ∧ t.sent = s.sent ++ [.value (ev 14 2) 0]) ∧
    (x.isHeld = true → (s.elapse dt).now < x.endAt → x.failed = false →
      ∃ t, exec (.flbInboundRead dt addr be lock) s = .next t ∧
        t.tallyAt (tlFlb 0) = min tlyMax (s.tallyAt (tlFlb 0) + 1) ∧
        Tab.get none t.bridge.slots 0 = (if wSide w then none else some x) ∧
        t.sent = s.sent ++ [.value (ev 14 0) (x.word a be.toNat)]) := by
  obtain ⟨hq, hg, hw, hup, -⟩ := hon
  have henter := flbEnter_passes (s := s.elapse dt) lock ⟨hq, hg, hw⟩ hasks hfree hup
  let u := (s.elapse dt).addressed a w lock
  have hu : u.bridge.slots = [(0, some x)] := hslots
  have hx : Tab.get none u.bridge.slots 0 = some x := by rw [hu]; rfl
  have hothers (n : Nat) : Tab.get none u.bridge.slots (n + 1) = none := by rw [hu]; rfl
  have hrun (hkept : x.isHeld = false ∨ u.now < x.endAt) :=
    flbReadIn_hit (t := u) ha henter (BitVec.toNat_ne.mp hbe) (slotEnds_kept fun k y hk => by
      cases k with
      | zero => exact Option.some.inj (hx.symm.trans hk) ▸ hkept
      | succ n => exact absurd (hk.symm.trans (hothers n)) (by simp)) (slotHit_first hx hhits) hx
  refine ⟨fun hwait => ?_, fun hheld hlive hfailed => ?_, fun hheld hlive hgood => ?_⟩
  · exact flbInboundRead_retries ((hrun (.inl hwait)).trans (if_pos (by simp [hwait])))
  · refine ⟨_, congrArg go ((hrun (.inr hlive)).trans ((if_neg (by simp [hheld])).trans (if_pos hfailed))), ?_, ?_⟩
    · rw [State.pins_bridge]
      exact setSlot_self ..
    · rw [State.pins_sent]
      rfl
  · refine ⟨_, congrArg go ((hrun (.inr hlive)).trans ((if_neg (by simp [hheld])).trans
      (if_neg (by simp [hgood])))), ?_, ?_, ?_⟩
    · show Tab.get 0 (State.pins _).tly.live _ = _
      rw [State.pins_tly]
      cases wSide w <;> exact count_self _ (tlFlb 0)
    · rw [State.pins_bridge]
      cases wSide w
      · exact hx
      · exact setSlot_self u 0 none
    · rw [State.pins_sent]
      cases wSide w <;> rfl

end

/-! ### The oldest write reaches its target (R454, R471) -/

/-- The state once the oldest inbound write has left the queue. -/
def State.taken (s : State) (l : List InWrite) : State :=
  { s with bridge := { s.bridge with
    inW := l
    slots := s.bridge.slots.map fun (x : Nat × Option RdSlot) =>
      (x.1, x.2.map fun (r : RdSlot) => { r with waitFor := r.waitFor - 1 }) } }

section
variable {s : State} {x : InWrite} {l : List InWrite} (ring : State → State) (hin : s.bridge.inW = x :: l)
include hin

theorem deliverIn_early (h : s.now < x.readyAt) : s.deliverIn ring = s := by
  rw [State.deliverIn, hin]
  exact if_pos h

theorem deliverIn_absent (h : x.readyAt ≤ s.now) (habs : s.winAbsent x.conf = true) :
    s.deliverIn ring = (s.taken l).dishonour 2 4 x.win x.be x.addr x.data := by
  rw [State.deliverIn, hin]
  exact (if_neg (Nat.not_lt.mpr h)).trans (if_pos habs)

theorem deliverIn_store (h : x.readyAt ≤ s.now) (hspace : wSpace x.conf = 1) :
    s.deliverIn ring = (s.taken l).tsWrite x.conf (x.addr - wBase x.conf) x.be x.data := by
  have habs : ¬ s.winAbsent x.conf = true := by simp [State.winAbsent, hspace]
  rw [State.deliverIn, hin]
  exact (if_neg (Nat.not_lt.mpr h)).trans ((if_neg habs).trans (if_pos hspace))

end

/-! ### The traffic store (R469 to R471) -/

/-- The enabled bytes of a word are written to the traffic store. -/
def State.tsPlain (s : State) (o be d : Nat) : State :=
  [0, 1].foldl (fun (s : State) k => if enabled be k then s.storeWrite (o + k) [dByte d k] else s) s

section
variable (s : State) (o be d : Nat)

theorem tsPlain_only : (s.tsPlain o be d).onlyChanges s [.bridge] :=
  List.foldlRecOn (motive := fun t : State => t.onlyChanges s [.bridge]) _ _ (only_refl ..)
    fun _ h _ _ => only_ite (only_step h (State.storeWrite_touch ..)) h

theorem tsPlain_inW : (s.tsPlain o be d).bridge.inW = s.bridge.inW :=
  foldl_keeps (fun t : State => t.bridge.inW) _ (fun t k => by split <;> rfl) _ _

/-- What the traffic store holds after the enabled bytes of a word are written. -/
theorem tsPlain_store :
    (enabled be 0 = true → memGet (s.tsPlain o be d).bridge.store o = dByte d 0) ∧
    (enabled be 1 = true → memGet (s.tsPlain o be d).bridge.store (o + 1) = dByte d 1) ∧
    ∀ k, k ≠ o → k ≠ o + 1 → memGet (s.tsPlain o be d).bridge.store k = memGet s.bridge.store k := by
  let v := if enabled be 0 then s.storeWrite o [dByte d 0] else s
  have hlow (h : enabled be 0 = true) : memGet v.bridge.store o = dByte d 0 := by
    rw [show v = s.storeWrite o [dByte d 0] from if_pos h]
    exact memGet_memWrite_in _ o [dByte d 0] (i := 0) Nat.one_pos
  have hkept (k : Nat) (h : k ≠ o) : memGet v.bridge.store k = memGet s.bridge.store k := by
    by_cases h0 : enabled be 0 = true
    · rw [show v = s.storeWrite o [dByte d 0] from if_pos h0]
      exact memGet_memWrite_out _ o [dByte d 0] (by simp; omega)
    · rw [show v = s from if_neg h0]
  have hword : s.tsPlain o be d = if enabled be 1 then v.storeWrite (o + 1) [dByte d 1] else v := rfl
  by_cases h1 : enabled be 1 = true
  · rw [hword, if_pos h1]
    have hout (k : Nat) (h : k ≠ o + 1) :
        memGet (v.storeWrite (o + 1) [dByte d 1]).bridge.store k = memGet v.bridge.store k :=
      memGet_memWrite_out _ (o + 1) [dByte d 1] (by simp; omega)
    exact ⟨fun h0 => (hout o (by omega)).trans (hlow h0),
      fun _ => memGet_memWrite_in _ (o + 1) [dByte d 1] (i := 0) Nat.one_pos,
      fun k ho h => (hout k h).trans (hkept k ho)⟩
  · rw [hword, if_neg h1]
    exact ⟨hlow, fun h => absurd h h1, fun k ho _ => hkept k ho⟩

end

section
variable {s : State} {w : List Byte} {o be d : Nat}

/-- A write to a page that no map presents. -/
theorem tsWrite_plain (ho : 0x800 ≤ o) (hp : (o - 0x800) / (2 * wPage w) < wPages w)
    (hmap : s.pageMap 3 ((o - 0x800) / (2 * wPage w)) = none) : s.tsWrite w o be d = s.tsPlain o be d := by
  rw [State.tsWrite]
  exact (if_neg (Nat.not_lt.mpr ho)).trans ((if_neg (Nat.not_le.mpr hp)).trans (if_neg (by simp [hmap])))

/-- A write of the other half to CUR of a page with a map swaps the page. -/
theorem tsWrite_swaps {m : List Byte} (ho : o < 0x800) (hp : o / 2 < wPages w)
    (hout : s.pageMap 3 (o / 2) = none) (hin : s.pageMap 4 (o / 2) = some m) (hbe : enabled be 0 = true)
    (hcur : (dByte d 0).toNat / 128 ≠ s.pageCur (o / 2)) :
    s.tsWrite w o be d = s.pageSwap w m (o / 2) ((dByte d 0).toNat / 128) := by
  rw [State.tsWrite]
  refine (if_pos ho).trans ((if_neg (Nat.not_le.mpr hp)).trans ((if_neg (by simp [hout])).trans ?_))
  rw [hin]
  exact (if_neg (by simp [hbe])).trans (if_neg hcur)

/-- A page swap changes CUR and counts in SWAP, and nothing else of the bridge but slots. -/
theorem pageSwap_page (m : List Byte) {p cur : Nat} (hcur : cur < 2) :
    (s.pageSwap w m p cur).bridge.inW = s.bridge.inW ∧ (s.pageSwap w m p cur).pageCur p = cur ∧
      (s.pageSwap w m p cur).pageSwaps p = (s.pageSwaps p + 1) % 256 := by
  let header := le 1 (128 * cur) ++ le 1 (s.pageSwaps p + 1)
  have hbridge : (s.pageSwap w m p cur).bridge = (s.swapPage p cur).bridge :=
    (State.mapCommit_touch (s.swapPage p cur) ..).2 .bridge (by decide)
  have hstore : (s.pageSwap w m p cur).bridge.store = memWrite s.bridge.store (2 * p) header :=
    congrArg Bridge.store hbridge
  refine ⟨(congrArg Bridge.inW hbridge :), ?_, ?_⟩
  · rw [State.pageCur, hstore, ← Nat.add_zero (2 * p), memGet_memWrite_in _ _ header (i := 0) Nat.two_pos]
    show (128 * cur) % 2 ^ 8 / 128 = cur
    omega
  · rw [State.pageSwaps, hstore, memGet_memWrite_in _ _ header (i := 1) Nat.one_lt_two]
    rfl

end

section
variable {s : State} {dt : Nat} {x : InWrite} {l : List InWrite} (hin : s.bridge.inW = x :: l)
include hin

theorem pageSwap_runs : exec (.pageSwap dt) s =
    go (if (s.elapse dt).isSwap x then (s.elapse dt).deliverIn id else s.elapse dt) := by
  show execPageSwap dt s = _
  rw [execPageSwap]
  show (match s.bridge.inW with | e :: _ => _ | [] => _) = _
  rw [hin]

theorem pageSwap_other (h : (s.elapse dt).isSwap x = false) :
    ∃ t, exec (.pageSwap dt) s = .next t ∧ t.onlyChanges s [] :=
  exec_idle ((pageSwap_runs hin).trans (congrArg go (if_neg (by simp [h]))))

theorem deliveries_early (h : (s.elapse dt).now < x.readyAt) :
    (∃ t, exec (.flbWriteDelivery dt) s = .next t ∧ t.onlyChanges s []) ∧
      ∃ t, exec (.pageSwap dt) s = .next t ∧ t.onlyChanges s [] := by
  have hstay : (if (s.elapse dt).isSwap x then (s.elapse dt).deliverIn id else s.elapse dt) = s.elapse dt := by
    rw [deliverIn_early (s := s.elapse dt) id hin h, ite_self]
  exact ⟨exec_idle (congrArg go (deliverIn_early (s := s.elapse dt) ring hin h)),
    exec_idle ((pageSwap_runs hin).trans (congrArg go hstay))⟩

theorem flbWriteDelivery_absent (h : x.readyAt ≤ (s.elapse dt).now) (habs : s.winAbsent x.conf = true)
    (hlen : s.bridge.dish.length < 64) :
    ∃ t, exec (.flbWriteDelivery dt) s = .next t ∧ t.bridge.inW = l ∧ t.bridge.dish = s.bridge.dish ++ [{
      kind := 2, cause := 4, win := x.win, be := x.be, addr := x.addr, data := x.data
      net := (s.elapse dt).net, num := s.bridge.dishNext }] := by
  refine ⟨_, congrArg go (deliverIn_absent (s := s.elapse dt) ring hin h habs), ?_, ?_⟩
  · rw [State.pins_bridge, dishonour_bridge]
    rfl
  · rw [State.pins_bridge, dishonour_bridge]
    exact if_neg (Nat.not_le.mpr hlen)

theorem flbWriteDelivery_store (h : x.readyAt ≤ (s.elapse dt).now) (hspace : wSpace x.conf = 1) {o : Nat}
    (hoff : x.addr - wBase x.conf = o) (ho : 0x800 ≤ o)
    (hp : (o - 0x800) / (2 * wPage x.conf) < wPages x.conf)
    (hmap : s.pageMap 3 ((o - 0x800) / (2 * wPage x.conf)) = none) :
    ∃ t, exec (.flbWriteDelivery dt) s = .next t ∧ t.bridge.inW = l ∧
      (enabled x.be 0 = true → memGet t.bridge.store o = dByte x.data 0) ∧
      (enabled x.be 1 = true → memGet t.bridge.store (o + 1) = dByte x.data 1) ∧
      (∀ k, k ≠ o → k ≠ o + 1 → memGet t.bridge.store k = memGet s.bridge.store k) ∧
      t.onlyChanges s [.bridge] := by
  subst hoff
  let u := (s.elapse dt).taken l
  have hrun := (deliverIn_store (s := s.elapse dt) ring hin h hspace).trans (tsWrite_plain (s := u) ho hp hmap)
  refine ⟨_, congrArg go hrun, ?_⟩
  rw [State.pins_bridge]
  obtain ⟨hlow, hhigh, hrest⟩ := tsPlain_store u (x.addr - wBase x.conf) x.be x.data
  exact ⟨tsPlain_inW u .., hlow, hhigh, hrest,
    go_only (only_step (only_set_bridge _ (only_refl ..) (by decide)) (tsPlain_only ..))⟩

theorem pageSwap_swaps (h : x.readyAt ≤ (s.elapse dt).now) (hswap : (s.elapse dt).isSwap x = true) {o : Nat}
    (hoff : x.addr - wBase x.conf = o) (hp : o / 2 < wPages x.conf) (hmap : s.pageMap 3 (o / 2) = none) :
    ∃ t, exec (.pageSwap dt) s = .next t ∧ t.bridge.inW = l ∧
      t.pageCur (o / 2) = (dByte x.data 0).toNat / 128 ∧
      t.pageSwaps (o / 2) = (s.pageSwaps (o / 2) + 1) % 256 := by
  subst hoff
  have hdec := hswap
  simp only [State.isSwap, Bool.and_eq_true, decide_eq_true_eq, Option.isSome_iff_exists] at hdec
  obtain ⟨⟨⟨⟨hspace, ho⟩, hbe⟩, m, hm⟩, hcur⟩ := hdec
  let u := (s.elapse dt).taken l
  have hrun := (deliverIn_store (s := s.elapse dt) id hin h hspace).trans
    (tsWrite_swaps (s := u) ho hp hmap hm hbe hcur)
  obtain ⟨hinW, hcurs, hcount⟩ := pageSwap_page (s := u) (w := x.conf) m (p := (x.addr - wBase x.conf) / 2)
    (cur := (dByte x.data 0).toNat / 128) (by omega)
  refine ⟨_, (pageSwap_runs hin).trans (congrArg go ((if_pos hswap).trans hrun)), ?_, ?_, ?_⟩
  · rw [State.pins_bridge]
    exact hinW
  · rw [State.pageCur, State.pins_bridge]
    exact hcurs
  · rw [State.pageSwaps, State.pins_bridge]
    exact hcount

end

theorem deliveries_none {s : State} (dt : Nat) (h : s.bridge.inW = []) :
    (∃ t, exec (.flbWriteDelivery dt) s = .next t ∧ t.onlyChanges s []) ∧
      ∃ t, exec (.pageSwap dt) s = .next t ∧ t.onlyChanges s [] := by
  have hstay : (s.elapse dt).deliverIn ring = s.elapse dt := by
    rw [State.deliverIn, show (s.elapse dt).bridge.inW = [] from h]
  refine ⟨exec_idle (congrArg go hstay), exec_idle (dt := dt) ?_⟩
  show execPageSwap dt s = _
  rw [execPageSwap]
  show (match s.bridge.inW with | e :: _ => _ | [] => _) = _
  rw [h]

/-! ### A fetch completes, and a hold ends (R455, R456) -/

section
variable {s : State} {k : Nat}

theorem fetched_free (h : Tab.get none s.bridge.slots k = none) : s.fetched k = s := by
  rw [State.fetched, h]

variable {x : RdSlot} (hx : Tab.get none s.bridge.slots k = some x)
include hx

theorem fetched_waits (h : x.isHeld = true ∨ x.waitFor ≠ 0 ∨ s.now < x.readyAt) : s.fetched k = s := by
  rw [State.fetched, hx]
  refine if_pos ?_
  simpa [or_assoc] using h

/-- An ordinary window of the traffic store is fetched a line at a time. -/
theorem fetched_line (hwait : x.isHeld = false) (hturn : x.waitFor = 0) (hready : x.readyAt ≤ s.now)
    (hspace : wSpace x.conf = 1) (hside : wSide x.conf = false) (hkept : x.doomed = false) :
    s.fetched k = s.setSlot k (some { x with
      isHeld := true, endAt := s.now + 64000
      bytes := (List.range 32).map fun j =>
        memGet s.bridge.store ((x.addr - wBase x.conf) / 32 * 32 + j) }) := by
  have hread : (if wSide x.conf then s.targetRead x.conf (x.addr - wBase x.conf) 2 (enabled x.be)
      else s.targetRead x.conf ((x.addr - wBase x.conf) / 32 * 32) 32 fun _ => true) =
      ((List.range 32).map fun j => memGet s.bridge.store ((x.addr - wBase x.conf) / 32 * 32 + j), s) := by
    rw [if_neg (by simp [hside]), State.targetRead]
    refine (if_pos hspace).trans ?_
    rw [List.map_map]
    rfl
  rw [State.fetched, hx]
  refine (if_neg (by simp [hwait, hturn, hready])).trans ((if_neg (by simp [State.winAbsent, hspace])).trans ?_)
  extract_lets o q r
  have hq : q = (_, s) := hread
  refine (if_neg (show ¬ x.doomed = true by simp [hkept])).trans ?_
  show q.2.setSlot k (some { x with isHeld := true, bytes := q.1, endAt := s.now + 64000 }) = _
  rw [hq]

end

section
variable {s : State} {dt : Nat} {k : Fin 4} {x : RdSlot} (hx : Tab.get none s.bridge.slots k.val = some x)
include hx

theorem flbFetchComplete_line (hwait : x.isHeld = false) (hturn : x.waitFor = 0)
    (hready : x.readyAt ≤ (s.elapse dt).now) (hspace : wSpace x.conf = 1) (hside : wSide x.conf = false)
    (hkept : x.doomed = false) : ∃ t, exec (.flbFetchComplete dt k) s = .next t ∧
      Tab.get none t.bridge.slots k.val = some { x with
        isHeld := true, endAt := (s.elapse dt).now + 64000
        bytes := (List.range 32).map fun j =>
          memGet s.bridge.store ((x.addr - wBase x.conf) / 32 * 32 + j) } ∧
      t.onlyChanges s [.bridge] := by
  refine ⟨_, congrArg go (fetched_line (s := s.elapse dt) hx hwait hturn hready hspace hside hkept), ?_, ?_⟩
  · rw [State.pins_bridge]
    exact setSlot_self ..
  · exact go_only (only_set_bridge _ (only_refl ..) (by decide))

theorem flbSlotExpiry_ends (hheld : x.isHeld = true) (hend : x.endAt ≤ (s.elapse dt).now) :
    ∃ t, exec (.flbSlotExpiry dt k) s = .next t ∧ Tab.get none t.bridge.slots k.val = none ∧
      (wSide x.conf = true → x.failed = false →
        t.tallyAt (tlFlb 6) = min tlyMax (s.tallyAt (tlFlb 6) + 1)) ∧
      (wSide x.conf = false → t.onlyChanges s [.bridge]) := by
  have hrun := slotEnd_ended (s := s.elapse dt) hx hheld hend
  let u := (s.elapse dt).setSlot k.val none
  by_cases hlog : (wSide x.conf && !x.failed) = true
  · refine ⟨_, congrArg go (hrun.trans (if_pos hlog)), ?_, fun _ _ => ?_, fun hside => by simp [hside] at hlog⟩
    · rw [State.pins_bridge]
      refine (congrArg (fun b : Bridge => Tab.get none b.slots k.val) (dishonour_bridge u ..)).trans ?_
      exact setSlot_self (s.elapse dt) k.val none
    · show Tab.get 0 (State.pins _).tly.live _ = _
      rw [State.pins_tly]
      refine (count_self _ (tlFlb 6)).trans (congrArg (min tlyMax <| · + 1) ?_)
      exact dishonour_tally u _ _ _ _ _ _ (by decide) (by decide) (by decide)
  · refine ⟨_, congrArg go (hrun.trans (if_neg hlog)), ?_, fun hside hgood => by simp [hside, hgood] at hlog,
      fun _ => go_only (only_set_bridge _ (only_refl ..) (by decide))⟩
    rw [State.pins_bridge]
    exact setSlot_self ..

end

/-! ### The lock (R459) -/

section
variable {s : State} {dt : Nat}

theorem flbLock_none (h : s.bridge.sema = none) : ∃ t, exec (.flbLock dt) s = .next t ∧ t.onlyChanges s [] := by
  refine exec_idle (dt := dt) ?_
  show execFlbLock dt s = _
  rw [execFlbLock]
  show (match s.bridge.sema with | some x => _ | none => _) = _
  rw [h]

variable {x : Sema} (h : s.bridge.sema = some x)
include h

theorem flbLock_early (hearly : (s.elapse dt).now < x.at_ + fld s.bridge.conf 6 2 * 1000) :
    ∃ t, exec (.flbLock dt) s = .next t ∧ t.onlyChanges s [] := by
  refine exec_idle (dt := dt) ?_
  show execFlbLock dt s = _
  rw [execFlbLock]
  show (match s.bridge.sema with | some x => _ | none => _) = _
  rw [h]
  exact if_neg (Nat.not_le.mpr hearly)

theorem flbLock_frees (hdue : x.at_ + fld s.bridge.conf 6 2 * 1000 ≤ (s.elapse dt).now) :
    ∃ t, exec (.flbLock dt) s = .next t ∧ t.bridge = { s.bridge with sema := none } ∧
      t.tallyAt (tlFlb 8) = min tlyMax (s.tallyAt (tlFlb 8) + 1) ∧
      t.onlyChanges s (.bridge :: eventParts) := by
  let e := s.elapse dt
  let u : State := { e with bridge := { e.bridge with sema := none } }
  have hrun : exec (.flbLock dt) s =
      go ((u.count (tlFlb 8)).note (ev 14 1) (le 1 x.win ++ le 4 x.addr)) := by
    show execFlbLock dt s = _
    rw [execFlbLock]
    show (match s.bridge.sema with | some x => _ | none => _) = _
    rw [h]
    exact if_pos hdue
  refine ⟨_, hrun, ?_, ?_, ?_⟩
  · rw [State.pins_bridge, State.note_bridge]
    rfl
  · show Tab.get 0 (State.pins _).tly.live _ = _
    rw [State.pins_tly]
    exact (note_tally _ _ _ _ (by decide) (by decide)).trans (count_self u (tlFlb 8))
  · refine go_only (dt := dt) (only_trans (only_step ?_ (State.count_touch ..) (by decide))
      (note_only _ _ _ _ (by decide)))
    exact only_set_bridge _ (only_refl ..) (by decide)

end

/-! ### The traffic store is presented (R470) -/

section
variable {s : State} {w : List Byte}

/-- The start of the presentation period a state stands in. -/
abbrev State.periodStart (s : State) (w : List Byte) : Nat := (s.net + 2) / wPeriod w * wPeriod w

theorem storeWrite_keeps (s : State) (o : Nat) (data : List Byte) :
    (s.storeWrite o data).bridge.presented = s.bridge.presented ∧
      (s.storeWrite o data).bridge.inW = s.bridge.inW := ⟨rfl, rfl⟩

theorem swapPage_keeps (s : State) (p cur : Nat) :
    (s.swapPage p cur).bridge.presented = s.bridge.presented ∧
      (s.swapPage p cur).bridge.inW = s.bridge.inW := storeWrite_keeps s ..

theorem present_bridge (s : State) (w m : List Byte) :
    (s.present w m).bridge.presented = s.bridge.presented ∧ (s.present w m).bridge.inW = s.bridge.inW := by
  have hout : (s.mapOut m (mapKey m)).2.bridge = s.bridge := (State.mapOut_touch s ..).2 .bridge (by decide)
  unfold State.present
  extract_lets r
  have hr : r.2.bridge = s.bridge := hout
  clear_value r
  split
  · exact ⟨congrArg Bridge.presented hr, congrArg Bridge.inW hr⟩
  · obtain ⟨hpresented, hinW⟩ := swapPage_keeps (r.2.storeWrite (halfAt w (mIndex m) (1 - r.2.pageCur (mIndex m)))
      (padTo 0 (wPage w) _)) (mIndex m) (1 - r.2.pageCur (mIndex m))
    exact ⟨(hpresented.trans (storeWrite_keeps r.2 ..).1).trans (congrArg Bridge.presented hr),
      (hinW.trans (storeWrite_keeps r.2 ..).2).trans (congrArg Bridge.inW hr)⟩

theorem presentAll_none (h : s.tsWindow = none) : s.presentAll = s := by
  rw [State.presentAll, h]

/-- The state in which the maps of the period that starts at `b` are presented. -/
def State.periodBegun (s : State) (b : Nat) : State :=
  { s with bridge := { s.bridge with presented := b } }

/-- The maps that present a page to the FLB are presented. -/
def State.presentMaps (s : State) (w : List Byte) : State :=
  (s.maps.filter fun m => mKind m = 3).foldl (fun s m => s.present w m) s

/-- The presentation of the period that starts at `b`. -/
def State.presentAt (s : State) (w : List Byte) (b : Nat) : State :=
  if s.net > b + 2 || b ≤ s.bridge.presented then s else (s.periodBegun b).presentMaps w

theorem presentMaps_keeps (s : State) (w : List Byte) :
    (s.presentMaps w).bridge.presented = s.bridge.presented ∧
      (s.presentMaps w).bridge.inW = s.bridge.inW :=
  ⟨foldl_keeps (fun t : State => t.bridge.presented) _ (fun t m => (present_bridge t w m).1) _ _,
    foldl_keeps (fun t : State => t.bridge.inW) _ (fun t m => (present_bridge t w m).2) _ _⟩

theorem presentMaps_of_none (h : ∀ m ∈ s.maps, mKind m ≠ 3) : s.presentMaps w = s := by
  rw [State.presentMaps, show (s.maps.filter fun m => mKind m = 3) = [] by simpa using h]
  rfl

variable (hw : s.tsWindow = some w) (hper : wPeriod w ≠ 0)
include hw hper

theorem presentAll_some : s.presentAll = s.presentAt w (s.periodStart w) := by
  rw [State.presentAll, hw]
  exact congrArg (s.presentAt w) (if_neg hper)

theorem presentAll_early (h : s.periodStart w + 2 < s.net ∨ s.periodStart w ≤ s.bridge.presented) :
    s.presentAll = s :=
  (presentAll_some hw hper).trans (if_pos (by simpa using h))

theorem presentAll_due (h : s.net ≤ s.periodStart w + 2) (hnew : s.bridge.presented < s.periodStart w) :
    s.presentAll = (s.periodBegun (s.periodStart w)).presentMaps w :=
  (presentAll_some hw hper).trans (if_neg (by simpa using ⟨h, hnew⟩))

end

theorem trafficStorePresentation_runs {s : State} {dt b : Nat} {w : List Byte}
    (hrun : (s.elapse dt).presentAll = ((s.elapse dt).periodBegun b).presentMaps w) :
    ∃ t, exec (.trafficStorePresentation dt) s = .next t ∧ t.bridge.presented = b ∧
      t.bridge.inW = s.bridge.inW ∧
      ((∀ m ∈ s.maps, mKind m ≠ 3) → t.bridge.store = s.bridge.store ∧ t.onlyChanges s [.bridge]) := by
  obtain ⟨hpresented, hinW⟩ := presentMaps_keeps ((s.elapse dt).periodBegun b) w
  refine ⟨_, congrArg go hrun, ?_, ?_, fun hnone => ?_⟩
  · rw [State.pins_bridge]
    exact hpresented
  · rw [State.pins_bridge]
    exact hinW
  · rw [presentMaps_of_none (s := (s.elapse dt).periodBegun _) hnone, State.pins_bridge]
    exact ⟨rfl, go_only (only_set_bridge _ (only_refl ..) (by decide))⟩

/-- Settles O54: an inbound transfer is answered as the state after its address phase asks (the bridge
wanting the bus, the semaphore, the queue, the slots), a write that is delivered reaches the traffic
store or the dishonour log, a slot is filled by its fetch and freed by its expiry, and the lock and the
presentation follow their times. -/
theorem flbInboundTransfers : Obligations.FlbInboundTransfers := by
  unfold Obligations.FlbInboundTransfers
  refine ⟨fun s dt addr be d lock w => ?_, fun s dt x l hin => ?_, fun s dt k hin => ?_, fun s dt => ?_⟩
  · refine ⟨fun hon hasks => ?_, fun hon hno hheld => ?_, fun hon hno hfree hbe hlen => ?_,
      fun hon hno hfree hbe hlen => flbInboundWrite_posts rfl hon hno hfree hbe hlen, fun hother hlock => ?_,
      fun hon hno hfree hbe hslots => flbInboundRead_allocates rfl hon hno hfree hbe hslots,
      fun x hon hno hfree hbe hslots hhits => flbInboundRead_hits rfl hon hno hfree hbe hslots hhits,
      fun hon hasks => ?_⟩
    · obtain ⟨hq, hg, hw, -⟩ := hon
      exact flbInboundWrite_retries
        (flbWriteIn_stopped rfl (flbEnter_request (s := s.elapse dt) lock ⟨hq, hg, hw⟩ hasks))
    · obtain ⟨hq, hg, hw, -⟩ := hon
      exact flbInboundWrite_retries
        (flbWriteIn_stopped rfl (flbEnter_held (s := s.elapse dt) lock ⟨hq, hg, hw⟩ hno hheld))
    · obtain ⟨hq, hg, hw, hup, -⟩ := hon
      exact flbInboundWrite_retries (flbWriteIn_full rfl
        (flbEnter_passes (s := s.elapse dt) lock ⟨hq, hg, hw⟩ hno hfree hup) (BitVec.toNat_ne.mp hbe) hlen)
    · subst hlock
      exact ⟨flbInboundWrite_other_device rfl hother, flbInboundRead_other_device rfl hother⟩
    · obtain ⟨hq, hg, hw, -⟩ := hon
      exact flbInboundRead_retries
        (flbReadIn_stopped rfl (flbEnter_request (s := s.elapse dt) lock ⟨hq, hg, hw⟩ hasks))
  · exact ⟨deliveries_early hin, flbWriteDelivery_absent hin,
      fun hready hspace ho hp hmap => flbWriteDelivery_store hin hready hspace rfl ho hp hmap,
      pageSwap_other hin, fun hready hswap hp hmap => pageSwap_swaps hin hready hswap rfl hp hmap⟩
  · obtain ⟨hwrite, hswap⟩ := deliveries_none dt hin
    refine ⟨hwrite, hswap, fun hfree => ⟨?_, ?_⟩, fun x hx => ⟨fun hwait => ?_, flbFetchComplete_line hx,
      fun hkept => ?_, flbSlotExpiry_ends hx⟩⟩
    · exact exec_idle (congrArg go (fetched_free (s := s.elapse dt) hfree))
    · exact exec_idle (congrArg go (slotEnd_free (s := s.elapse dt) hfree))
    · exact exec_idle (congrArg go (fetched_waits (s := s.elapse dt) hx hwait))
    · exact exec_idle (congrArg go (slotEnd_kept (s := s.elapse dt) hx hkept))
  · refine ⟨⟨_, rfl, State.pins_bridge _, go_only (only_set_bridge _ (only_refl ..) (by decide))⟩,
      fun x hx => ⟨flbLock_frees hx, flbLock_early hx⟩, flbLock_none, fun hnone => ?_,
      fun w hw hper => ⟨fun hearly => ?_, fun hdue hnew => trafficStorePresentation_runs
        (presentAll_due (s := s.elapse dt) hw hper hdue hnew)⟩⟩
    · exact exec_idle (congrArg go (presentAll_none (s := s.elapse dt) hnone))
    · exact exec_idle (congrArg go (presentAll_early (s := s.elapse dt) hw hper hearly))

end Sys2Proof.Machine

/-! SUPPORT. Chapter 14, outbound transfers (R448, R461 to R463). -/

namespace Sys2Proof.Machine

/-! ### A transfer starts (R461) -/

section
variable {s : State} {x : OutXfer} {l : List OutXfer} (hseeds : s.seeds.armed = [])

theorem flbStart_none (hout : s.bridge.out = []) : s.flbStart = s := by
  rw [State.flbStart, hout]

/-- The state while the first transfer is on the bus. -/
def State.started (s : State) : State := { s with bridge := { s.bridge with startAt := s.now } }

include hseeds

theorem flbStart_first (hout : s.bridge.out = x :: l) :
    s.flbStart = s.started.send (.flb x.addr x.write (le 1 x.be ++ le 2 x.data)) := by
  rw [State.flbStart, hout]
  show State.send { (s.bridgeDelay x.win 1).2 with bridge := { (s.bridgeDelay x.win 1).2.bridge with
    startAt := (s.bridgeDelay x.win 1).2.now + (s.bridgeDelay x.win 1).1 } } _ = _
  rw [bridgeDelay_of_unarmed hseeds]
  rfl

/-- A start notes the transfer's time and nothing else of the bridge, and counts nothing. -/
theorem flbStart_keeps : s.flbStart.bridge = { s.bridge with startAt := s.flbStart.bridge.startAt } ∧
    s.flbStart.tly = s.tly := by
  cases hout : s.bridge.out with
  | nil => rw [flbStart_none hout]; exact ⟨rfl, rfl⟩
  | cons x l => rw [flbStart_first hseeds hout]; exact ⟨rfl, rfl⟩

end

/-! ### A transfer ends (R461) -/

/-- The state once the first outbound transfer has left the queue. -/
def State.outPopped (s : State) : State :=
  { s with bridge := { s.bridge with out := s.bridge.out.drop 1, ran := s.bridge.ran + 1 } }

/-- The state once the bus is given back. -/
def State.busFreed (s : State) : State := { s with bridge := { s.bridge with granted := false } }

/-- What holds of the bus once a transfer has ended and `l` still waits, where `s` is the state before. -/
def State.busAfter (s t : State) (l : List OutXfer) : Prop :=
  (s.bridge.ran + 1 < fld s.bridge.conf 4 1 → l ≠ [] → t.bridge.granted = true) ∧
  (fld s.bridge.conf 4 1 ≤ s.bridge.ran + 1 ∨ l = [] → t.bridge.granted = false ∧
    t.bridge.request = (!l.isEmpty && !s.quiet))

section
variable {s : State}

theorem flbNext_on (h : s.bridge.ran + 1 < fld s.bridge.conf 4 1) (hout : s.bridge.out.drop 1 ≠ []) :
    s.flbNext = s.outPopped.flbStart :=
  if_pos (by simpa using ⟨h, by simpa using hout⟩)

theorem flbNext_over (h : fld s.bridge.conf 4 1 ≤ s.bridge.ran + 1 ∨ s.bridge.out.drop 1 = []) :
    s.flbNext = s.outPopped.busFreed.flbAsk :=
  if_neg (by
    obtain h | h := h
    · simp [Nat.not_lt.mpr h]
    · simp [h])

variable (hseeds : s.seeds.armed = [])
include hseeds

/-- The end of a transfer takes it from the queue and counts nothing. -/
theorem flbNext_keeps : s.flbNext.bridge.out = s.bridge.out.drop 1 ∧ s.flbNext.bridge.dish = s.bridge.dish ∧
    s.flbNext.bridge.gather = s.bridge.gather ∧ s.flbNext.tly = s.tly := by
  by_cases h : s.bridge.ran + 1 < fld s.bridge.conf 4 1 ∧ s.bridge.out.drop 1 ≠ []
  · rw [flbNext_on h.1 h.2]
    obtain ⟨hbridge, htly⟩ := flbStart_keeps (s := s.outPopped) hseeds
    rw [hbridge, htly]
    exact ⟨rfl, rfl, rfl, rfl⟩
  · rw [flbNext_over (by rw [not_and_or, Nat.not_lt, not_not] at h; exact h)]
    exact ⟨rfl, rfl, rfl, rfl⟩

theorem flbNext_bus (hg : s.bridge.granted = true) : s.busAfter s.flbNext (s.bridge.out.drop 1) := by
  refine ⟨fun h hout => ?_, fun h => ?_⟩
  · rw [flbNext_on h hout, (flbStart_keeps (s := s.outPopped) hseeds).1]
    exact hg
  · rw [flbNext_over h]
    exact ⟨rfl, rfl⟩

end

/-! ### Answers on the bus (R461 to R463) -/

section
variable {s : State} {x : OutXfer} {l : List OutXfer} (hout : s.bridge.out = x :: l) (d : Nat)

/-- Whether the first transfer is on the bus. -/
abbrev State.onBus (s : State) : Prop := s.bridge.granted = true ∧ s.bridge.startAt ≤ s.now

theorem flbResponse_none (h : s.bridge.out = []) (resp : FlbResp) : s.flbResponse resp d = s := by
  rw [State.flbResponse, h]

include hout

theorem flbResponse_idle (h : ¬s.onBus) (resp : FlbResp) : s.flbResponse resp d = s := by
  rw [State.flbResponse, hout]
  refine if_pos ?_
  rw [not_and_or, Nat.not_le] at h
  simpa using h

variable (hon : s.onBus)
include hon

theorem flbResponse_dtack : s.flbResponse .dtack d = s.flbDone x d := by
  rw [State.flbResponse, hout]
  exact if_neg (by simp [hon.1, hon.2])

theorem flbResponse_err : s.flbResponse .err d = s.flbFail x 1 := by
  rw [State.flbResponse, hout]
  exact if_neg (by simp [hon.1, hon.2])

theorem flbResponse_retries_out (h : fld s.bridge.conf 5 1 ≤ x.retries + 1) :
    s.flbResponse .retry d = s.flbFail x 3 := by
  rw [State.flbResponse, hout]
  exact (if_neg (by simp [hon.1, hon.2])).trans (if_pos h)

/-- The state after a RETRY within the retry limit: the bus is given back. -/
def State.retried (s : State) (x : OutXfer) (l : List OutXfer) : State :=
  { s with bridge := { s.bridge with
    out := { x with retries := x.retries + 1 } :: l, granted := false, request := !s.quiet } }

theorem flbResponse_retry (h : x.retries + 1 < fld s.bridge.conf 5 1) :
    s.flbResponse .retry d = s.retried x l := by
  rw [State.flbResponse, hout]
  exact (if_neg (by simp [hon.1, hon.2])).trans (if_neg (Nat.not_le.mpr h))

end

/-! ### A failed write, a done write, a done read -/

/-- The state once a posted write has failed, before the next transfer. -/
def State.writeFailed (s : State) (x : OutXfer) (cause : Nat) : State :=
  (s.count (tlFlb 11)).dishonour 1 cause x.win x.be x.addr x.data

/-- The bytes gathered with the even byte of a word that was read. -/
def gatheredEven (g : Tab Byte) (x : OutXfer) (d : Nat) : Tab Byte :=
  if enabled x.be 0 then Tab.set 0 g x.addr (dByte d 0) else g

/-- The bytes gathered with a word that was read. -/
def gathered (g : Tab Byte) (x : OutXfer) (d : Nat) : Tab Byte :=
  if enabled x.be 1 then Tab.set 0 (gatheredEven g x d) (x.addr + 1) (dByte d 1) else gatheredEven g x d

theorem gathered_even (g : Tab Byte) {x : OutXfer} (d : Nat) (h : enabled x.be 0 = true) :
    Tab.get 0 (gathered g x d) x.addr = dByte d 0 := by
  have heven : Tab.get 0 (gatheredEven g x d) x.addr = dByte d 0 := by
    rw [gatheredEven, if_pos h, Tab.get_set_self]
  rw [gathered]
  split
  · rwa [Tab.get_set_ne _ _ _ (by omega)]
  · exact heven

theorem gathered_odd (g : Tab Byte) {x : OutXfer} (d : Nat) (h : enabled x.be 1 = true) :
    Tab.get 0 (gathered g x d) (x.addr + 1) = dByte d 1 := by
  rw [gathered, if_pos h, Tab.get_set_self]

section
variable {s : State} {x : OutXfer} {l : List OutXfer} (hseeds : s.seeds.armed = [])
include hseeds

theorem writeFailed_keeps (cause : Nat) : (s.writeFailed x cause).seeds.armed = [] ∧
    (s.writeFailed x cause).quiet = s.quiet := by
  have h : (s.writeFailed x cause).onlyChanges (s.count (tlFlb 11)) _ :=
    State.dishonour_touch (s.count (tlFlb 11)) 1 cause x.win x.be x.addr x.data
  have hrole : (s.writeFailed x cause).twin.role = s.twin.role :=
    (congrArg Twin.role (h.2 .twin (by decide))).trans rfl
  refine ⟨(congrArg Seeds.armed (h.2 .seeds (by decide))).trans hseeds, ?_⟩
  rw [State.quiet, hrole]
  rfl

omit hseeds in
/-- A posted write that fails is counted and logged, and the next transfer's turn comes. -/
theorem flbFail_write (hw : x.write = true) (cause : Nat) :
    s.flbFail x cause = (s.writeFailed x cause).flbNext := if_pos hw

end

section
variable {s : State} {dt : Nat} {x : OutXfer} {l : List OutXfer} (hout : s.bridge.out = x :: l)
  (hseeds : s.seeds.armed = []) (hg : s.bridge.granted = true)

/-- How a failed transfer is counted and logged. -/
def State.failedWith (s t : State) (dt : Nat) (x : OutXfer) (l : List OutXfer) (cause : Nat) : Prop :=
  t.tallyAt (tlFlb 11) = min tlyMax (s.tallyAt (tlFlb 11) + 1) ∧ t.bridge.out = l ∧
    (s.bridge.dish.length < 64 → t.bridge.dish = s.bridge.dish ++ [{
      kind := 1, cause := cause, win := x.win, be := x.be, addr := x.addr, data := x.data
      net := (s.elapse dt).net, num := s.bridge.dishNext }])

include hseeds

include hout in
theorem writeFailed_shows (cause : Nat) :
    s.failedWith ((s.elapse dt).writeFailed x cause).flbNext.pins dt x l cause := by
  have hkeeps := writeFailed_keeps (s := s.elapse dt) (x := x) hseeds cause
  obtain ⟨hnext, hdish, -, htly⟩ := flbNext_keeps hkeeps.1
  have hbridge := dishonour_bridge ((s.elapse dt).count (tlFlb 11)) 1 cause x.win x.be x.addr x.data
  refine ⟨?_, ?_, fun hlen => ?_⟩
  · show Tab.get 0 (State.pins _).tly.live _ = _
    rw [State.pins_tly, htly]
    exact (dishonour_tally _ _ _ _ _ _ _ (by decide) (by decide) (by decide)).trans
      (count_self (s.elapse dt) (tlFlb 11))
  · rw [State.pins_bridge, hnext, State.writeFailed, hbridge]
    exact congrArg (List.drop 1) hout
  · rw [State.pins_bridge, hdish, State.writeFailed, hbridge]
    exact if_neg (Nat.not_le.mpr hlen)

include hout hg

theorem writeFailed_frees (cause : Nat) :
    s.busAfter ((s.elapse dt).writeFailed x cause).flbNext.pins l := by
  obtain ⟨hkeep, hquiet⟩ := writeFailed_keeps (s := s.elapse dt) (x := x) hseeds cause
  have hbridge := dishonour_bridge ((s.elapse dt).count (tlFlb 11)) 1 cause x.win x.be x.addr x.data
  have hbus := flbNext_bus hkeep ((congrArg Bridge.granted hbridge).trans hg)
  rw [State.busAfter, hquiet, State.writeFailed, hbridge,
    show ((s.elapse dt).count (tlFlb 11)).bridge.out = x :: l from hout] at hbus
  rw [State.busAfter, State.pins_bridge]
  exact hbus

/-- A posted write that is answered. -/
theorem flbOutboundResponse_writes (hstart : s.bridge.startAt ≤ (s.elapse dt).now) (hw : x.write = true) (d : U16) :
    ∃ t, exec (.flbOutboundResponse dt .dtack d) s = .next t ∧
      t.tallyAt (tlFlb 9) = min tlyMax (s.tallyAt (tlFlb 9) + 1) ∧ t.bridge.out = l ∧
      t.bridge.dish = s.bridge.dish ∧ s.busAfter t l := by
  let u := (s.elapse dt).count (tlFlb 9)
  have hrun : (s.elapse dt).flbResponse .dtack d.toNat = u.flbNext :=
    (flbResponse_dtack (s := s.elapse dt) hout _ ⟨hg, hstart⟩).trans (if_pos hw)
  obtain ⟨hnext, hdish, -, htly⟩ := flbNext_keeps (s := u) hseeds
  have hbus := flbNext_bus (s := u) hseeds hg
  rw [show u.bridge.out = x :: l from hout] at hnext hbus
  refine ⟨_, congrArg go hrun, ?_, ?_, ?_, ?_⟩
  · show Tab.get 0 (State.pins _).tly.live _ = _
    rw [State.pins_tly, htly]
    exact count_self _ (tlFlb 9)
  · rw [State.pins_bridge, hnext]
    rfl
  · rw [State.pins_bridge, hdish]
    rfl
  · rw [State.busAfter, State.pins_bridge]
    exact hbus

/-- A read that is answered while others of its command wait. -/
theorem flbOutboundResponse_reads (hstart : s.bridge.startAt ≤ (s.elapse dt).now) (hr : x.write = false)
    (hmore : ∃ y ∈ l, y.write = false) (d : U16) :
    ∃ t, exec (.flbOutboundResponse dt .dtack d) s = .next t ∧
      t.tallyAt (tlFlb 10) = min tlyMax (s.tallyAt (tlFlb 10) + 1) ∧ t.bridge.out = l ∧ s.busAfter t l ∧
      (enabled x.be 0 = true → Tab.get 0 t.bridge.gather x.addr = dByte d.toNat 0) ∧
      (enabled x.be 1 = true → Tab.get 0 t.bridge.gather (x.addr + 1) = dByte d.toNat 1) := by
  let e := s.elapse dt
  let u := State.count { e with bridge := { e.bridge with gather := gathered e.bridge.gather x d.toNat } } (tlFlb 10)
  obtain ⟨hnext, -, hgather, htly⟩ := flbNext_keeps (s := u) hseeds
  have hbus := flbNext_bus (s := u) hseeds hg
  rw [show u.bridge.out = x :: l from hout] at hnext hbus
  have hwaits : u.flbNext.readDone = u.flbNext := if_pos (by
    obtain ⟨y, hy, hyr⟩ := hmore
    rw [hnext, List.any_eq_true]
    exact ⟨y, hy, by simp [hyr]⟩)
  have hrun : e.flbResponse .dtack d.toNat = u.flbNext :=
    ((flbResponse_dtack (s := e) hout _ ⟨hg, hstart⟩).trans (if_neg (by simp [hr]))).trans hwaits
  refine ⟨_, congrArg go hrun, ?_, ?_, ?_, ?_⟩
  · show Tab.get 0 (State.pins _).tly.live _ = _
    rw [State.pins_tly, htly]
    exact count_self _ (tlFlb 10)
  · rw [State.pins_bridge, hnext]
    rfl
  · rw [State.busAfter, State.pins_bridge]
    exact hbus
  · rw [State.pins_bridge, hgather]
    exact ⟨gathered_even s.bridge.gather d.toNat, gathered_odd s.bridge.gather d.toNat⟩

end

section
variable {s : State} {dt : Nat} {x : OutXfer} {l : List OutXfer} (hout : s.bridge.out = x :: l)
include hout

/-- A RETRY within the retry limit. -/
theorem flbOutboundResponse_retry (hg : s.bridge.granted = true) (hstart : s.bridge.startAt ≤ (s.elapse dt).now)
    (h : x.retries + 1 < fld s.bridge.conf 5 1) (d : U16) :
    ∃ t, exec (.flbOutboundResponse dt .retry d) s = .next t ∧ t.bridge = { s.bridge with
        out := { x with retries := x.retries + 1 } :: l, granted := false, request := !s.quiet } ∧
      t.onlyChanges s [.bridge] := by
  refine ⟨_, congrArg go (flbResponse_retry (s := s.elapse dt) hout d.toNat ⟨hg, hstart⟩ h), ?_, ?_⟩
  · rw [State.pins_bridge]
    rfl
  · exact go_only (only_set_bridge _ (only_refl ..) (by decide))

theorem flbOutboundTimeout_runs : exec (.flbOutboundTimeout dt) s =
    if s.bridge.granted && s.bridge.startAt + x.timeout * 1000 ≤ (s.elapse dt).now then
      go ((s.elapse dt).flbFail x 2) else go (s.elapse dt) := by
  show execFlbOutboundTimeout dt s = _
  rw [execFlbOutboundTimeout]
  show (match s.bridge.out with | [] => _ | x :: _ => _) = _
  rw [hout]
  rfl

end

theorem flbOutboundTimeout_none {s : State} {dt : Nat} (hout : s.bridge.out = []) :
    exec (.flbOutboundTimeout dt) s = go (s.elapse dt) := by
  show execFlbOutboundTimeout dt s = _
  rw [execFlbOutboundTimeout]
  show (match s.bridge.out with | [] => _ | x :: _ => _) = _
  rw [hout]

/-! ### The bus is granted (R461) -/

section
variable {s : State} {dt : Nat}

theorem flbBusGrant_starts {x : OutXfer} {l : List OutXfer} (hreq : s.bridge.request = true)
    (hloud : s.quiet = false) (hout : s.bridge.out = x :: l) (hseeds : s.seeds.armed = []) :
    ∃ t, exec (.flbBusGrant dt) s = .next t ∧ t.bridge = { s.bridge with
        granted := true, request := false, ran := 0, startAt := (s.elapse dt).now } ∧
      t.sent = s.sent ++ [.flb x.addr x.write (le 1 x.be ++ le 2 x.data)] ∧
      t.onlyChanges s [.bridge, .outputs] := by
  let e := s.elapse dt
  let u : State := { e with bridge := { e.bridge with granted := true, request := false, ran := 0 } }
  have hasks : (s.bridge.request && !s.quiet) = true := by simp [hreq, hloud]
  have hrun : exec (.flbBusGrant dt) s = go (u.started.send (.flb x.addr x.write (le 1 x.be ++ le 2 x.data))) :=
    (congrArg go (if_pos hasks)).trans (congrArg go (flbStart_first (s := u) hseeds hout))
  refine ⟨_, hrun, ?_, ?_, ?_⟩
  · rw [State.pins_bridge]
    rfl
  · rw [State.pins_sent]
    rfl
  · exact go_only (dt := dt) (only_set_sent _ (only_set_bridge _ (only_set_bridge _ (only_refl ..) (by decide))
      (by decide)) (by decide))

theorem flbBusGrant_idle (h : s.bridge.request = false ∨ s.quiet = true) :
    ∃ t, exec (.flbBusGrant dt) s = .next t ∧ t.onlyChanges s [] := by
  have hno : ¬(s.bridge.request && !s.quiet) = true := by
    obtain h | h := h <;> simp [h]
  exact exec_idle (dt := dt) (congrArg go (if_neg hno))

end

/-! ### Side-band inputs (R467) -/

section
variable {s : State} {n : Nat} {level : Bool}

/-- The state once a side-band input has its new level. -/
def State.sbTo (s : State) (n : Nat) (level : Bool) : State :=
  { s with bridge := { s.bridge with sb := if level then s.bridge.sb + 2 ^ n else s.bridge.sb - 2 ^ n } }

/-- Whether an edge to a level is one that an input's configuration counts. -/
abbrev State.sbCounts (s : State) (n : Nat) (level : Bool) : Prop :=
  (level = true ∧ bit (bits (fld s.bridge.conf 2 1) (2 * n + 1) (2 * n)) 0 = true) ∨
    (level = false ∧ bit (bits (fld s.bridge.conf 2 1) (2 * n + 1) (2 * n)) 1 = true)

theorem sideband_same (h : bit s.bridge.sb n = level) : s.sideband n level = s := by
  rw [State.sideband]
  exact if_pos h

theorem sideband_changes (h : bit s.bridge.sb n ≠ level) : s.sideband n level =
    if s.sbCounts n level then ((s.sbTo n level).count (tlFlb (13 + n))).note (ev 14 2)
      (le 1 n ++ le 4 (bnat level) ++ secNs (s.net - fld s.bridge.conf 3 1 * 1000))
    else s.sbTo n level := by
  rw [State.sideband]
  refine (if_neg h).trans (ite_congr (propext ?_) (fun _ => rfl) (fun _ => rfl))
  cases level <;> simp [State.sbCounts]

end

theorem sideband_tally : ∀ n : Fin 4, tlFlb (13 + n.val) ≠ tlFeed 5 ∧ tlFlb (13 + n.val) ≠ tlFeed 6 := by decide

theorem flbSideband_changes {s : State} {dt : Nat} {n : Fin 4} {level : Bool} (h : bit s.bridge.sb n.val ≠ level) :
    ∃ t, exec (.flbSideband dt n level) s = .next t ∧ t.bridge = { s.bridge with
        sb := if level then s.bridge.sb + 2 ^ n.val else s.bridge.sb - 2 ^ n.val } ∧
      (s.sbCounts n.val level → t.tallyAt (tlFlb (13 + n.val)) = min tlyMax (s.tallyAt (tlFlb (13 + n.val)) + 1)) ∧
      (¬s.sbCounts n.val level → t.onlyChanges s [.bridge]) ∧ t.onlyChanges s (.bridge :: eventParts) := by
  have hrun := sideband_changes (s := s.elapse dt) h
  let u := (s.elapse dt).sbTo n.val level
  have hset : u.onlyChanges (s.elapse dt) [.bridge] := only_set_bridge _ (only_refl ..) (by decide)
  by_cases hc : s.sbCounts n.val level
  · refine ⟨_, congrArg go (hrun.trans (if_pos hc)), ?_, fun _ => ?_, fun hno => absurd hc hno, ?_⟩
    · rw [State.pins_bridge, State.note_bridge]
      rfl
    · show Tab.get 0 (State.pins _).tly.live _ = _
      rw [State.pins_tly]
      exact (note_tally _ _ _ _ (sideband_tally n).1 (sideband_tally n).2).trans (count_self u _)
    · exact go_only (only_trans (only_step (only_sub hset (by decide)) (State.count_touch ..) (by decide))
        (note_only _ _ _ _ (by decide)))
  · refine ⟨_, congrArg go (hrun.trans (if_neg hc)), ?_, fun h => absurd h hc, fun _ => go_only hset, ?_⟩
    · rw [State.pins_bridge]
      rfl
    · exact go_only (only_sub hset (by decide))

/-! ### Polls (R468) -/

/-- The record of a poll. -/
abbrev State.pollRec (s : State) (k : Nat) : List Byte := slice s.bridge.conf (8 + 8 * k) 8

/-- Whether a poll's word is read now. -/
abbrev State.pollDue (s : State) (k : Nat) : Prop :=
  fld (s.pollRec k) 0 4 ≠ 0xFFFFFFFF ∧ s.quiet = false ∧ (∀ x ∈ s.bridge.out, x.write = false) ∧
    Tab.get 0 s.bridge.pollAt k + fld s.bridge.conf 0 2 * 1000000 ≤ s.now

/-- The state once a poll has been made. -/
def State.polled (s : State) (k : Nat) : State :=
  { s with bridge := { s.bridge with pollAt := Tab.set 0 s.bridge.pollAt k s.now } }

/-- The state once a poll has read `new`. -/
def State.pollGot (s : State) (k new : Nat) : State :=
  let t := (s.polled k).count (tlFlb 10)
  { t with bridge := { t.bridge with polls := Tab.set none t.bridge.polls k (some new) } }

section
variable {s : State} {k : Nat}

theorem poll_idle (h : ¬s.pollDue k) (res : Option Nat) (cause : Nat) : s.poll k res cause = s := by
  rw [State.poll]
  refine if_pos ?_
  simp only [State.pollDue, ne_eq, not_and_or, not_not, not_forall, Nat.not_le, Bool.not_eq_false] at h
  simp only [Bool.or_eq_true, decide_eq_true_eq, List.any_eq_true, or_assoc]
  exact h.imp_right (Or.imp_right (Or.imp_left fun ⟨x, hx, hw⟩ => ⟨x, hx, hw⟩))

variable {w : List Byte} (hdue : s.pollDue k) (hw : s.outWindow (fld (s.pollRec k) 0 4) = some w)
include hdue

theorem pollDue_guard : ¬(decide (fld (s.pollRec k) 0 4 = 0xFFFFFFFF) || s.quiet || s.bridge.out.any (·.write) ||
    decide (s.now < Tab.get 0 s.bridge.pollAt k + fld s.bridge.conf 0 2 * 1000000)) = true := by
  obtain ⟨hused, hloud, hfree, htime⟩ := hdue
  simpa [hused, hloud, htime] using hfree

include hw

theorem poll_fails (cause : Nat) : s.poll k none cause =
    ((s.polled k).count (tlFlb 17)).noteOnce k (ev 14 4) (le 4 k ++ le 1 cause) := by
  rw [State.poll]
  refine (if_neg (pollDue_guard hdue)).trans ?_
  show (match s.outWindow (fld (s.pollRec k) 0 4), (none : Option Nat) with
    | none, _ => _ | some _, none => _ | some _, some v => _) = _
  rw [hw]
  rfl

/-- A poll that reads its word. -/
theorem poll_reads (v cause : Nat) : s.poll k (some v) cause =
    match Tab.get none s.bridge.polls k with
    | none => s.pollGot k (v &&& fld (s.pollRec k) 4 2)
    | some old => if old = v &&& fld (s.pollRec k) 4 2 then s.pollGot k (v &&& fld (s.pollRec k) 4 2)
      else (s.pollGot k (v &&& fld (s.pollRec k) 4 2)).note (ev 14 3)
        (le 4 (fld (s.pollRec k) 0 4) ++ le 4 old ++ le 4 (v &&& fld (s.pollRec k) 4 2)) := by
  rw [State.poll]
  refine (if_neg (pollDue_guard hdue)).trans ?_
  show (match s.outWindow (fld (s.pollRec k) 0 4), some v with
    | none, _ => _ | some _, none => _ | some _, some v => _) = _
  rw [hw]
  rfl

/-- What a poll that reads its word leaves, and that nothing is entered for a first or an unchanged word. -/
theorem poll_result (v cause : Nat) : ∃ u, s.poll k (some v) cause = u ∧
    u.bridge = (s.pollGot k (v &&& fld (s.pollRec k) 4 2)).bridge ∧
    u.tallyAt (tlFlb 10) = (s.pollGot k (v &&& fld (s.pollRec k) 4 2)).tallyAt (tlFlb 10) ∧
    (Tab.get none s.bridge.polls k = none ∨
      Tab.get none s.bridge.polls k = some (v &&& fld (s.pollRec k) 4 2) →
        u = s.pollGot k (v &&& fld (s.pollRec k) 4 2)) := by
  refine ⟨_, poll_reads hdue hw v cause, ?_⟩
  cases hp : Tab.get none s.bridge.polls k with
  | none => exact ⟨rfl, rfl, fun _ => rfl⟩
  | some old =>
    by_cases hsame : old = v &&& fld (s.pollRec k) 4 2
    · simp only [if_pos hsame]
      exact ⟨trivial, trivial, fun _ => trivial⟩
    · simp only [if_neg hsame]
      refine ⟨State.note_bridge .., note_tally _ _ _ _ (by decide) (by decide), fun h => ?_⟩
      exact absurd (Option.some.inj (h.resolve_left (by simp))) hsame

end

section
variable {s : State} {dt : Nat} {k : Fin 8} {w : List Byte} (hdue : (s.elapse dt).pollDue k.val)
  (hw : s.outWindow (fld (s.pollRec k.val) 0 4) = some w) (cause : Fin 3)
include hdue hw

theorem flbPoll_fails : ∃ t, exec (.flbPoll dt k none cause) s = .next t ∧
    t.tallyAt (tlFlb 17) = min tlyMax (s.tallyAt (tlFlb 17) + 1) ∧ t.bridge.polls = s.bridge.polls ∧
    t.bridge.pollAt = Tab.set 0 s.bridge.pollAt k.val (s.elapse dt).now := by
  refine ⟨_, congrArg go (poll_fails (s := s.elapse dt) hdue hw (cause.val + 1)), ?_, ?_⟩
  · show Tab.get 0 (State.pins _).tly.live _ = _
    rw [State.pins_tly]
    exact (noteOnce_tally _ _ _ _ _ (by decide) (by decide)).trans (count_self _ (tlFlb 17))
  · rw [State.pins_bridge, State.noteOnce_bridge]
    exact ⟨rfl, rfl⟩

theorem flbPoll_reads (v : U16) : ∃ t, exec (.flbPoll dt k (some v) cause) s = .next t ∧
    t.tallyAt (tlFlb 10) = min tlyMax (s.tallyAt (tlFlb 10) + 1) ∧ t.bridge = { s.bridge with
      polls := Tab.set none s.bridge.polls k.val (some (v.toNat &&& fld (s.pollRec k.val) 4 2))
      pollAt := Tab.set 0 s.bridge.pollAt k.val (s.elapse dt).now } ∧
    (Tab.get none s.bridge.polls k.val = none ∨
      Tab.get none s.bridge.polls k.val = some (v.toNat &&& fld (s.pollRec k.val) 4 2) →
        t.onlyChanges s [.bridge, .tallies]) := by
  obtain ⟨u, hrun, hbridge, htally, hsame⟩ := poll_result (s := s.elapse dt) hdue hw v.toNat (cause.val + 1)
  refine ⟨_, congrArg go hrun, ?_, ?_, fun h => ?_⟩
  · show Tab.get 0 (State.pins _).tly.live _ = _
    rw [State.pins_tly]
    exact htally.trans (count_self _ (tlFlb 10))
  · rw [State.pins_bridge, hbridge]
    rfl
  · rw [hsame h]
    exact go_only (only_set_bridge _ (only_step (only_set_bridge _ (only_refl ..) (by decide))
      (State.count_touch ..)) (by decide))

end

end Sys2Proof.Machine

/-! SUPPORT. Chapter 14, the bridge's mailbox commands (R464 to R466, R523). -/

namespace Sys2Proof.Machine

/-! ### MB_BRIDGE_CONFIG (R466) -/

section
variable {b : List Byte} {s : State}

/-- The state with a bridge record in force. -/
def State.withBridge (s : State) (c : List Byte) : State := { s with bridge := { s.bridge with conf := c } }

theorem cmdBridgeConfig_read (ho : fld b 0 4 = 2) : cmdBridgeConfig.run b s = ans stOk s.bridge.conf s :=
  if_pos (by rw [ho]; rfl)

theorem cmdBridgeConfig_shape (hlen : b.length = 84) (ho : fld b 0 4 < 2) (hrsv : bridgeRsv (b.drop 4) = true) :
    cmdBridgeConfig.shape b = true := by
  simp [cmdBridgeConfig, cfgOpts, cfgLen, bit_one_of_lt ho, hlen, hrsv]
  omega

variable (ho : fld b 0 4 < 2)
include ho

theorem cmdBridgeConfig_bad (h : bridgeOk (b.drop 4) = false) :
    cmdBridgeConfig.run b s = ans stMalformed [] s :=
  (if_neg (by simp [bit_one_of_lt ho])).trans (if_pos (by simp [h]))

variable (hok : bridgeOk (b.drop 4) = true)
include hok

theorem cmdBridgeConfig_busy (hone : fld b 0 4 = 1) (hheld : s.flashHeld = true) :
    cmdBridgeConfig.run b s = ans stBusy [] s :=
  (if_neg (by simp [bit_one_of_lt ho])).trans ((if_neg (by simp [hok])).trans
    (if_pos (by simp [hone, hheld, bit])))

theorem cmdBridgeConfig_keeps (hzero : fld b 0 4 = 0) :
    cmdBridgeConfig.run b s = ans stOk (b.drop 4) (s.withBridge (b.drop 4)) :=
  (if_neg (by simp [bit_one_of_lt ho])).trans ((if_neg (by simp [hok])).trans
    ((if_neg (by simp [hzero, bit])).trans (congrArg (ans stOk (b.drop 4)) (if_neg (by simp [hzero, bit])))))

theorem cmdBridgeConfig_persists (hone : fld b 0 4 = 1) (hfree : s.flashHeld = false) :
    cmdBridgeConfig.run b s = ans stOk (b.drop 4) ((s.withBridge (b.drop 4)).persist cfBridge (b.drop 4)) :=
  (if_neg (by simp [bit_one_of_lt ho])).trans ((if_neg (by simp [hok])).trans
    ((if_neg (by simp [hfree])).trans (congrArg (ans stOk (b.drop 4)) (if_pos (by simp [hone, bit])))))

end

/-- A record kept in the flash that can be written now. -/
theorem persist_conf {s : State} (h : s.flashHeld = false) (key : Nat) (bytes : List Byte) :
    Tab.get [] (s.persist key bytes).flash.conf key = bytes := by
  rw [State.persist, if_neg (by simp [h])]
  exact Tab.get_set_self [] s.flash.conf key bytes

section
variable {s : State} (dt : Nat) {r : Req} (hf : s.mbxFree) (hp : r.plain)
include hf hp

theorem mbBridgeConfig_answers (hlen : r.body.length = 84) (ho : fld r.body 0 4 < 2)
    (hrsv : bridgeRsv (r.body.drop 4) = true) :
    (bridgeOk (r.body.drop 4) = false → ∃ t, exec (.mbBridgeConfig dt r) s = .next t ∧
      t.answered 0x0C01 r stMalformed [] ∧ t.onlyChanges s answerParts) ∧
    (bridgeOk (r.body.drop 4) = true → fld r.body 0 4 = 0 → ∃ t, exec (.mbBridgeConfig dt r) s = .next t ∧
      t.answered 0x0C01 r stOk (r.body.drop 4) ∧ t.bridge = { s.bridge with conf := r.body.drop 4 } ∧
      t.onlyChanges s (.bridge :: answerParts)) ∧
    (bridgeOk (r.body.drop 4) = true → fld r.body 0 4 = 1 → s.flashHeld = false →
      ∃ t, exec (.mbBridgeConfig dt r) s = .next t ∧
        t.answered 0x0C01 r stOk (r.body.drop 4) ∧ t.bridge = { s.bridge with conf := r.body.drop 4 } ∧
        Tab.get [] t.flash.conf cfBridge = r.body.drop 4) ∧
    (bridgeOk (r.body.drop 4) = true → fld r.body 0 4 = 1 → s.flashHeld = true →
      ∃ t, exec (.mbBridgeConfig dt r) s = .next t ∧ t.answered 0x0C01 r stBusy [] ∧
        t.onlyChanges s answerParts) := by
  have hshape := cmdBridgeConfig_shape hlen ho hrsv
  let w := (s.elapse dt).writeReq cmdBridgeConfig.op r
  refine ⟨fun hbad => ?_, fun hok hzero => ?_, fun hok hone hfree => ?_, fun hok hone hheld => ?_⟩
  · exact mailbox_read s dt cmdBridgeConfig r (by decide) hf hp hshape _ _ (cmdBridgeConfig_bad ho hbad)
  · obtain ⟨t, hexec, hans, honly, ht⟩ := mailbox_change s dt cmdBridgeConfig r (.bridge :: answerParts)
      (by decide) hf hp hshape _ _ _ (cmdBridgeConfig_keeps (s := w) ho hok hzero) (by decide)
      (only_set_bridge _ (only_refl ..) (by decide))
    refine ⟨t, hexec, hans, ?_, honly⟩
    rw [ht, State.pins_bridge, State.respond_bridge]
    rfl
  · obtain ⟨t, hexec, hans, ht⟩ := mailbox_done (s.elapse dt) cmdBridgeConfig r (by decide)
      hf hp hshape _ _ _ (cmdBridgeConfig_persists (s := w) ho hok hone hfree)
    refine ⟨t, hexec, hans, ?_, ?_⟩
    · rw [ht, State.pins_bridge, State.respond_bridge, State.persist_bridge]
      rfl
    · rw [ht, State.pins_flash, State.respond_flash]
      exact persist_conf (s := w.withBridge _) hfree ..
  · exact mailbox_read s dt cmdBridgeConfig r (by decide) hf hp hshape _ _ (cmdBridgeConfig_busy ho hok hone hheld)

/-! ### MB_DISHONOUR_READ (R464) -/

theorem mbDishonourRead_answers (hlen : r.body.length = 4) (hz : zeroAt r.body 1 3 = true) :
    (1 ≤ fld r.body 0 1 → fld r.body 0 1 ≤ 16 → ∃ t, exec (.mbDishonourRead dt r) s = .next t ∧
      t.answered 0x0C04 r stOk (le 1 (s.bridge.dish.take (fld r.body 0 1)).length ++ zeros 3 ++
        ((s.bridge.dish.take (fld r.body 0 1)).map Dish.bytes).flatten) ∧
      t.bridge = { s.bridge with dish := s.bridge.dish.drop (fld r.body 0 1) } ∧
      t.onlyChanges s (.bridge :: answerParts)) ∧
    (fld r.body 0 1 = 0 ∨ 16 < fld r.body 0 1 → ∃ t, exec (.mbDishonourRead dt r) s = .next t ∧
      t.answered 0x0C04 r stMalformed [] ∧ t.onlyChanges s answerParts) := by
  have hshape : cmdDishonourRead.shape r.body = true := by simp [cmdDishonourRead, hlen, hz]
  refine ⟨fun hlow hhigh => ?_, fun hbad => ?_⟩
  · obtain ⟨t, hexec, hans, honly, ht⟩ := mailbox_change s dt cmdDishonourRead r (.bridge :: answerParts)
      (by decide) hf hp hshape _ _ _ (if_neg (by simp; omega)) (by decide)
      (only_set_bridge _ (only_refl ..) (by decide))
    refine ⟨t, hexec, hans, ?_, honly⟩
    rw [ht, State.pins_bridge, State.respond_bridge]
    rfl
  · exact mailbox_read s dt cmdDishonourRead r (by decide) hf hp hshape _ _ (if_pos (by simpa using hbad))

end

/-! ### Accesses (R463) -/

theorem one_le_of_accessOk {a n : Nat} (h : accessOk a n = true) : 1 ≤ n := by
  simp only [accessOk, Bool.and_eq_true, Bool.or_eq_true, decide_eq_true_eq] at h
  omega

/-- An access has a word to transfer. -/
theorem pieces_ne_nil {a n : Nat} (h : accessOk a n = true) (w data : List Byte) : pieces w a n data ≠ [] := by
  have hlen : (pieces w a n data).length = (a + n + 1) / 2 - a / 2 := by simp [pieces]
  have hn := one_le_of_accessOk h
  refine List.ne_nil_of_length_pos ?_
  omega

/-- The transfers of an access. -/
def xfersOf (w : List Byte) (write : Bool) (ps : List (Nat × Nat × Nat)) : List OutXfer :=
  ps.map fun p => {
    win := wIndex w, addr := p.1, write := write, be := p.2.1, data := p.2.2
    timeout := fld w 20 2, retries := 0 }

/-- Transfers that join the queue of a node that may ask for the bus make it ask. -/
theorem enqueueOut_request {s : State} {w : List Byte} {write : Bool} {ps : List (Nat × Nat × Nat)} (hps : ps ≠ [])
    (hq : s.quiet = false) (hg : s.bridge.granted = false) : (s.enqueueOut w write ps).bridge.request = true := by
  show (!s.bridge.granted && !(s.bridge.out ++ xfersOf w write ps).isEmpty && !s.quiet) = true
  have hsome : (s.bridge.out ++ xfersOf w write ps).isEmpty = false := by
    rw [List.isEmpty_eq_false_iff]
    simp [xfersOf, hps]
  rw [hg, hsome, hq]
  rfl

theorem enqueueOut_only (s : State) (w : List Byte) (write : Bool) (ps : List (Nat × Nat × Nat)) :
    (s.enqueueOut w write ps).onlyChanges s [.bridge] :=
  only_set_bridge _ (only_set_bridge _ (only_refl ..) (by decide)) (by decide)

/-! ### MB_FLB_WRITE (R463) -/

section
variable {b : List Byte} {s : State} {w : List Byte} (hok : accessOk (fld b 4 4) (fld b 8 1) = true)
  (ho : fld b 0 4 = 0) (hq : s.quiet = false) (hw : s.outWindow (fld b 4 4) = some w)
include hok ho hq hw

/-- The word transfers that a write command asks for. -/
abbrev askedPieces (w b : List Byte) : List (Nat × Nat × Nat) :=
  pieces w (fld b 4 4) (fld b 8 1) (slice b 12 (fld b 8 1))

theorem cmdFlbWrite_outbound : cmdFlbWrite.run b s =
    if (s.bridge.out.filter (·.write)).length + (askedPieces w b).length > 32 then refuse stFull s
    else ans stOk [] (s.enqueueOut w true (askedPieces w b)) := by
  refine (if_neg (by simp [hok])).trans ((if_neg (by simp [ho, bit])).trans ((if_neg (by simp [hq])).trans ?_))
  change (match s.outWindow (fld b 4 4) with | none => _ | some w => _) = _
  rw [hw]

end

section
variable {s : State} (dt : Nat) {r : Req} (hf : s.mbxFree) (hp : r.plain) {w : List Byte}
  (hlen : r.body.length = 16) (hz : zeroAt r.body 9 3 = true) (ho : fld r.body 0 4 = 0) (hq : s.quiet = false)
  (hw : s.outWindow (fld r.body 4 4) = some w) (hok : accessOk (fld r.body 4 4) (fld r.body 8 1) = true)
include hf hp hlen hz ho hq hw hok

theorem mbFlbWrite_answers :
    (32 < (s.bridge.out.filter (·.write)).length + (askedPieces w r.body).length →
      ∃ t, exec (.mbFlbWrite dt r) s = .next t ∧ t.answered 0x0C03 r stFull [] ∧ t.onlyChanges s answerParts) ∧
    (¬32 < (s.bridge.out.filter (·.write)).length + (askedPieces w r.body).length →
      ∃ t, exec (.mbFlbWrite dt r) s = .next t ∧ t.answered 0x0C03 r stOk [] ∧
        t.bridge.out = s.bridge.out ++ xfersOf w true (askedPieces w r.body) ∧
        (s.bridge.granted = false → t.bridge.request = true) ∧ t.onlyChanges s (.bridge :: answerParts)) := by
  have hshape : cmdFlbWrite.shape r.body = true := by simp [cmdFlbWrite, hlen, hz, ho]
  let u := (s.elapse dt).writeReq cmdFlbWrite.op r
  have hrun := cmdFlbWrite_outbound (s := u) hok ho hq hw
  refine ⟨fun hfull => ?_, fun hroom => ?_⟩
  · exact mailbox_read s dt cmdFlbWrite r (by decide) hf hp hshape _ _ (hrun.trans (if_pos hfull))
  · obtain ⟨t, hexec, hans, honly, ht⟩ := mailbox_change s dt cmdFlbWrite r (.bridge :: answerParts)
      (by decide) hf hp hshape _ _ _ (hrun.trans (if_neg hroom)) (by decide)
      (only_sub (enqueueOut_only u w true _) (by decide))
    refine ⟨t, hexec, hans, ?_, fun hg => ?_, honly⟩
    · rw [ht, State.pins_bridge, State.respond_bridge]
      rfl
    · rw [ht, State.pins_bridge, State.respond_bridge]
      exact enqueueOut_request (s := u) (pieces_ne_nil hok w _) hq hg

end

/-! ### Reads within the node do not see the mailbox (R472) -/

/-- The state with another host window. -/
def State.withHif (s : State) (h : Hif) : State := { s with hif := h }

/-- One word of a read of a window's target by the device itself. -/
def insideStep (w : List Byte) (acc : Tab Byte × State) (p : Nat × Nat × Nat) : Tab Byte × State :=
  let x := acc.2.targetRead w (p.1 - wBase w) 2 (enabled p.2.1)
  (Tab.set 0 (Tab.set 0 acc.1 p.1 (x.1.getD 0 0)) (p.1 + 1) (x.1.getD 1 0), x.2)

section
variable (s : State) (h : Hif)

theorem acquire_withHif (c f : Nat) : (s.withHif h).acquire c f = ((s.acquire c f).1, (s.acquire c f).2.withHif h) := by
  cases hx : s.ctl c with
  | none =>
    rw [State.acquire, State.acquire, show (s.withHif h).ctl c = none from hx, hx]
  | some x =>
    have hx' : (s.withHif h).ctl c = some x := hx
    by_cases hshow : x.check = true ∨ (x.fifo f).count = 0
    · rw [acquire_shows hx hshow, acquire_shows hx' hshow]
    · obtain ⟨hcheck, hcount⟩ := not_or.mp hshow
      rw [acquire_hands hx (by simpa using hcheck) hcount, acquire_hands hx' (by simpa using hcheck) hcount]
      rfl

variable {w : List Byte} (hspace : wSpace w = 1 ∨ wSpace w = 2)
include hspace

theorem targetRead_withHif (o n : Nat) (on : Nat → Bool) : (s.withHif h).targetRead w o n on =
    ((s.targetRead w o n on).1, (s.targetRead w o n on).2.withHif h) := by
  obtain hspace | hspace := hspace
  · rw [State.targetRead, State.targetRead]
    simp only [if_pos hspace]
    rfl
  · rw [State.targetRead, State.targetRead]
    simp only [hspace, if_true, OfNat.ofNat_ne_one, if_false, acquire_withHif]
    by_cases hacq : ((List.range n).any fun k => on k && decide (o + k = 7)) = true
    · simp only [hacq, if_true]
      rfl
    · simp only [if_neg hacq]
      rfl

theorem insideStep_withHif (acc : Tab Byte × State) (p : Nat × Nat × Nat) :
    insideStep w (acc.1, acc.2.withHif h) p = ((insideStep w acc p).1, (insideStep w acc p).2.withHif h) := by
  simp only [insideStep, targetRead_withHif _ _ hspace]

theorem insideRead_withHif (a n : Nat) : ((s.withHif h).insideRead w a n).1 = (s.insideRead w a n).1 :=
  (congrArg (fun q : Tab Byte × State => (laneOrder w a n).map fun k => Tab.get 0 q.1 k)
    (List.foldl_hom (fun acc : Tab Byte × State => (acc.1, acc.2.withHif h)) (init := (([] : Tab Byte), s))
      (l := pieces w a n []) (insideStep_withHif h hspace)) :)

end

/-! ### MB_FLB_READ (R463) -/

/-- The state once a read's transfers wait. -/
def State.asked (s : State) (w : List Byte) (a n : Nat) : State :=
  State.enqueueOut { s with bridge := { s.bridge with gather := [] } } w false (pieces w a n [])

section
variable {b : List Byte} {s : State} {w : List Byte}

theorem cmdFlbRead_bad (hbad : accessOk (fld b 4 4) (fld b 8 1) = false) :
    cmdFlbRead.run b s = ans stMalformed [] s := if_pos (by simp [hbad])

variable (hok : accessOk (fld b 4 4) (fld b 8 1) = true)
include hok

theorem cmdFlbRead_outbound (ho : fld b 0 4 = 0) (hq : s.quiet = false)
    (hw : s.outWindow (fld b 4 4) = some w) :
    cmdFlbRead.run b s = holdOn (s.asked w (fld b 4 4) (fld b 8 1)) := by
  refine (if_neg (by simp [hok])).trans ((if_neg (by simp [ho, bit])).trans ((if_neg (by simp [hq])).trans ?_))
  change (match s.outWindow (fld b 4 4) with | none => _ | some w => _) = _
  rw [hw]
  rfl

theorem cmdFlbRead_denied (ho : fld b 0 4 = 0) (h : s.quiet = true ∨ s.outWindow (fld b 4 4) = none) :
    cmdFlbRead.run b s = ans stDenied [] s := by
  refine (if_neg (by simp [hok])).trans ((if_neg (by simp [ho, bit])).trans ?_)
  by_cases hq : s.quiet = true
  · exact if_pos hq
  · refine (if_neg hq).trans ?_
    change (match s.outWindow (fld b 4 4) with | none => _ | some w => _) = _
    rw [h.resolve_left hq]
    rfl

theorem cmdFlbRead_inside (ho : fld b 0 4 = 1) (hw : s.inWindow (fld b 4 4) = some w) (hsema : s.semaHeld w = false)
    (hthere : s.winAbsent w = false) : cmdFlbRead.run b s =
      ans stOk (s.insideRead w (fld b 4 4) (fld b 8 1)).1 (s.insideRead w (fld b 4 4) (fld b 8 1)).2 := by
  refine (if_neg (by simp [hok])).trans ((if_pos (by simp [ho, bit])).trans ?_)
  change (match s.inWindow (fld b 4 4) with | none => _ | some w => _) = _
  rw [hw]
  exact (if_neg (by simp [hsema])).trans (if_neg (by simp [hthere]))

end

section
variable {s : State} (dt : Nat) {r : Req} (hf : s.mbxFree) (hp : r.plain) (hlen : r.body.length = 12)
  (hz : zeroAt r.body 9 3 = true)
include hlen hz

theorem cmdFlbRead_shape (ho : fld r.body 0 4 < 2) : cmdFlbRead.shape r.body = true := by
  simp [cmdFlbRead, hlen, hz]
  omega

include hf hp

/-- A read within an outbound window waits for its transfers. -/
theorem mbFlbRead_waits {w : List Byte} (hok : accessOk (fld r.body 4 4) (fld r.body 8 1) = true)
    (ho : fld r.body 0 4 = 0) (hq : s.quiet = false) (hw : s.outWindow (fld r.body 4 4) = some w) :
    ∃ t, exec (.mbFlbRead dt r) s = .next t ∧ t.hif.exec = true ∧ t.hif.respValid = false ∧
      t.bridge.out = s.bridge.out ++ xfersOf w false (pieces w (fld r.body 4 4) (fld r.body 8 1) []) ∧
      (s.bridge.granted = false → t.bridge.request = true) := by
  let u := (s.elapse dt).writeReq cmdFlbRead.op r
  let v : State := { u with bridge := { u.bridge with gather := [] } }
  have hrun := cmdFlbRead_outbound (s := u) hok ho hq hw
  have hsubmit := congrArg go (submit_run (s.elapse dt) cmdFlbRead r (by decide) hf hp
    (cmdFlbRead_shape hlen hz (by omega)))
  simp only [show cmdFlbRead.run r.body ((s.elapse dt).writeReq cmdFlbRead.op r) = _ from hrun, holdOn,
    if_true] at hsubmit
  obtain ⟨-, -, -, -, hvalid, -⟩ := hf
  refine ⟨_, hsubmit, by rw [pins_hif], ?_, ?_, fun hg => ?_⟩
  · rw [pins_hif]
    exact hvalid
  · rw [State.pins_bridge]
    rfl
  · rw [State.pins_bridge]
    exact enqueueOut_request (s := v) (pieces_ne_nil hok w []) hq hg

/-- A read of the target of an inbound window by the device itself. -/
theorem mbFlbRead_inside {w : List Byte} (hok : accessOk (fld r.body 4 4) (fld r.body 8 1) = true)
    (ho : fld r.body 0 4 = 1) (hw : s.inWindow (fld r.body 4 4) = some w) (hsema : s.semaHeld w = false)
    (hspace : wSpace w = 1 ∨ wSpace w = 2) (hthere : s.winAbsent w = false) :
    ∃ t, exec (.mbFlbRead dt r) s = .next t ∧
      t.answered 0x0C02 r stOk ((s.elapse dt).insideRead w (fld r.body 4 4) (fld r.body 8 1)).1 := by
  have hread := insideRead_withHif (s.elapse dt) ((s.elapse dt).writeReq cmdFlbRead.op r).hif hspace
    (fld r.body 4 4) (fld r.body 8 1)
  obtain ⟨t, hexec, hans, -⟩ := mailbox_done (s.elapse dt) cmdFlbRead r (by decide) hf hp
    (cmdFlbRead_shape hlen hz (by omega)) _ _ _
    (cmdFlbRead_inside (s := (s.elapse dt).writeReq cmdFlbRead.op r) hok ho hw hsema hthere)
  exact ⟨t, hexec, hread ▸ hans⟩

end

/-! ### The obligation -/

/-- Settles O55: a grant starts the first transfer, each answer on the bus and the timeout end it, fail it
or give the bus back, side-band edges and polls count as configured, and the mailbox commands answer as
their rows say. -/
theorem flbOutboundAndCommands : Obligations.FlbOutboundAndCommands := by
  unfold Obligations.FlbOutboundAndCommands
  refine ⟨fun s dt => ?_, fun s dt x l d hout hseeds => ?_, fun s dt resp d hnone => ?_, fun s dt n level => ?_,
    fun s dt k res cause w => ?_, fun s dt r hf hp => ?_⟩
  · exact ⟨fun x l hreq hq hout hseeds => flbBusGrant_starts hreq hq hout hseeds, flbBusGrant_idle⟩
  · have hfails (cause : Nat) (hg : s.bridge.granted = true) :=
      And.intro (writeFailed_shows (dt := dt) hout hseeds cause) (writeFailed_frees (dt := dt) hout hseeds hg cause)
    refine ⟨fun ⟨hg, hstart⟩ hw => flbOutboundResponse_writes hout hseeds hg hstart hw d,
      fun ⟨hg, hstart⟩ hr hmore => flbOutboundResponse_reads hout hseeds hg hstart hr hmore d,
      fun ⟨hg, hstart⟩ hw => ?_, fun ⟨hg, hstart⟩ hw hmax => ?_,
      fun ⟨hg, hstart⟩ hless => flbOutboundResponse_retry hout hg hstart hless d, fun hno resp => ?_,
      fun hg hdue hw => ?_, fun hno => ?_⟩
    · exact ⟨_, congrArg go ((flbResponse_err (s := s.elapse dt) hout _ ⟨hg, hstart⟩).trans
        (flbFail_write hw 1)), hfails 1 hg⟩
    · exact ⟨_, congrArg go ((flbResponse_retries_out (s := s.elapse dt) hout _ ⟨hg, hstart⟩ hmax).trans
        (flbFail_write hw 3)), (hfails 3 hg).1⟩
    · exact exec_idle (congrArg go (flbResponse_idle (s := s.elapse dt) hout _ hno resp))
    · exact ⟨_, (flbOutboundTimeout_runs hout).trans ((if_pos (by simpa using ⟨hg, hdue⟩)).trans
        (congrArg go (flbFail_write hw 2))), (hfails 2 hg).1⟩
    · refine exec_idle ((flbOutboundTimeout_runs hout).trans (if_neg ?_))
      rw [Bool.and_eq_true, decide_eq_true_eq, not_and_or, Bool.not_eq_true, Nat.not_le]
      exact hno
  · exact ⟨exec_idle (congrArg go (flbResponse_none (s := s.elapse dt) _ hnone resp)),
      exec_idle (flbOutboundTimeout_none hnone)⟩
  · exact ⟨fun hsame => exec_idle (congrArg go (sideband_same (s := s.elapse dt) hsame)), flbSideband_changes⟩
  · refine ⟨fun hno => exec_idle (congrArg go (poll_idle (s := s.elapse dt) hno ..)), fun hdue hw hnone => ?_,
      fun v hdue hw hv => ?_⟩
    · subst hnone
      exact flbPoll_fails hdue hw cause
    · subst hv
      exact flbPoll_reads hdue hw cause v
  · refine ⟨fun hlen ho hrsv => mbBridgeConfig_answers dt hf hp hlen ho hrsv, fun hlen ho => ?_,
      fun hlen hz => mbDishonourRead_answers dt hf hp hlen hz,
      fun w hlen hz ho hq hw hok => mbFlbWrite_answers dt hf hp hlen hz ho hq hw hok,
      fun w hlen hz => ⟨fun hbad ho => ?_, fun hok ho hq hw => mbFlbRead_waits dt hf hp hlen hz hok ho hq hw,
        fun hok ho hno => ?_, fun hok ho hw hsema hspace hthere =>
          mbFlbRead_inside dt hf hp hlen hz hok ho hw hsema hspace hthere⟩⟩
    · exact mailbox_read s dt cmdBridgeConfig r (by decide) hf hp
        (by simp [cmdBridgeConfig, cfgOpts, cfgLen, ho, hlen, bit]) _ _ (cmdBridgeConfig_read ho)
    · exact mailbox_read s dt cmdFlbRead r (by decide) hf hp (cmdFlbRead_shape hlen hz ho) _ _ (cmdFlbRead_bad hbad)
    · exact mailbox_read s dt cmdFlbRead r (by decide) hf hp (cmdFlbRead_shape hlen hz (by omega)) _ _
        (cmdFlbRead_denied hok ho hno)

end Sys2Proof.Machine

/-! SUPPORT. Chapter 18, a seed that ends while the spine list's gaffer number lies outside R57. -/

namespace Sys2Proof.Machine

/-- A parison that holds nothing but one pace action of the spine list, at offset 1 of a round of 65,536
units. -/
def lonePar : Par :=
  { hash := [], codeHash := [], serial := 0, rollback := 0, signed := false, timeN := 0, maxNodes := 0
    spineGaf := 0, minBehav := 0, timeA := [], timeB := [], timeS := [], paceA := [], paceB := []
    paceS := [{ off := 1, op := 0, tgt := 0, flags := 0, opnd := 0 }], pace := [1, 1], manifest := []
    reloc := [], slack := [], tasks := [], imgI := [], imgD := [], escrow := [], ledHead := []
    policers := [], ledger := [], ports := [], maps := [], canCtl := [], canFil := [], canBuf := []
    sdClk := 0, meas := [], windows := [], region := 0 }

/-- A PACE seed of POS_OFFSET -300 units, its time over. -/
def backSeed : Seed :=
  { id := 1, kind := 6, params := [0xD4, 0xFE, 0xFF, 0xFF, 0, 0, 0, 0], endAt := 0, count := 0, hits := 0
    lastEv := none, nextAt := 0 }

/-- The reset state with that parison and seed, the strand started, and a number of the spine list's
gaffer at which its MISS_SKIP tally has the key of TLY_SEED_END. -/
def strayGaffer : State :=
  { State.reset with
    par := { State.reset.par with force := some lonePar }
    pace := { pace0 with started := true }
    gaf := { gaf0 with spineP := { spineHold0 with gaf := 11 * 2 ^ 32 + 7 } }
    seeds := { armed := [backSeed], nextId := 2, holdUntil := [] } }

/-- The strand's jump over the spine list's action already counts in TLY_SEED_END. -/
theorem strayGaffer_misses :
    ((strayGaffer.elapse 0).paceShift (-(fldInt backSeed.params 0 4))).tallyAt (tlSec 15) = 1 := by
  decide

/-- A PACE seed's end counts on top of what the strand's shift back counted. -/
theorem seedOver_tally (s : State) {x : Seed} (h : x.kind = 6) (cause : Nat) :
    (s.seedOver x cause).tallyAt (tlSec 15) =
      min tlyMax ((s.paceShift (-(fldInt x.params 0 4))).tallyAt (tlSec 15) + 1) := by
  unfold State.seedOver
  extract_lets t _ u
  have ht : t = s.paceShift (-(fldInt x.params 0 4)) := if_pos h
  exact (note_tally _ _ _ _ (by decide) (by decide)).trans ((count_self u (tlSec 15)).trans (ht ▸ rfl))

/-- Refutes O60: the statement quantifies over every state, also one whose spine list names a gaffer that
R57 does not know. There the shift back of an expired PACE seed skips a spine action, whose MISS_SKIP
tally for that gaffer's number has the key of TLY_SEED_END, and the end of the one seed raises it by
two. -/
theorem not_seedsAreArmedAndEnd : ¬ Obligations.SeedsAreArmedAndEnd := by
  unfold Obligations.SeedsAreArmedAndEnd
  rintro ⟨-, hseeds, -⟩
  obtain ⟨-, hseed⟩ := hseeds strayGaffer 0 0
  obtain ⟨hover, -⟩ := hseed backSeed rfl
  obtain ⟨t, hrun, -, hcount, -⟩ := hover (Nat.zero_le _)
  have hend : exec (.seedEnd 0 0) strayGaffer = .next ((strayGaffer.elapse 0).seedOver backSeed 0).pins :=
    congrArg go (if_pos (Nat.zero_le _))
  obtain rfl := Host.Outcome.next.inj (hend.symm.trans hrun)
  rw [State.pins_tly] at hcount
  have htwo := seedOver_tally (strayGaffer.elapse 0) (x := backSeed) rfl 0
  rw [strayGaffer_misses] at htwo
  exact absurd (htwo.symm.trans hcount) (by decide)

end Sys2Proof.Machine

/-! SUPPORT. Chapter 13, the tallies of the feeds: what the loss of a domain and of its units leaves of
them. -/

namespace Sys2Proof.Machine

/-- A tally of the feeds (group 13), but for the three that the bookkeeping of seeds, flash and daybook
counts. -/
def FeedKey (k : Nat) : Prop := Beside k ∧ 13 * 2 ^ 32 ≤ k

theorem FeedKey.beside {k : Nat} (h : FeedKey k) : Beside k := h.1

theorem FeedKey.ne_twin {k i : Nat} (h : FeedKey k) (hi : i < 10) : k ≠ tlTwin i := by
  have hlow := h.2
  simp only [tlTwin, Machine.tly]
  omega

theorem feedKey_of {i : Nat} (h : i < 56) (h4 : i ≠ 4) (h5 : i ≠ 5) (h6 : i ≠ 6) : FeedKey (tlFeed i) := by
  simp only [FeedKey, Beside, tlFeed, Machine.tly]
  omega

/-- What changes no tally keeps each. -/
theorem only_tallyAt {s t : State} {l : List Part} (h : t.onlyChanges s l) (hl : Part.tallies ∉ l) (k : Nat) :
    t.tallyAt k = s.tallyAt k := congrArg (fun x : Tly => Tab.get 0 x.live k) (h.2 .tallies hl)

theorem elsewhere_can {c i : Nat} (hc : c < 8) (hi : i < 2 ^ 16) : Elsewhere (tlCan c i) := by
  simp only [Elsewhere, tlCan, Machine.tly]
  omega

section
variable (s : State) {k : Nat} (hk : Beside k)
include hk

/-! ### CAN and MDIO -/

theorem withdrawBufs_beside {c : Nat} (hc : c < 8) (outcome : Nat) (all : Bool) :
    (s.withdrawBufs c outcome all).tallyAt k = s.tallyAt k := by
  unfold State.withdrawBufs
  split
  · rfl
  · exact (countN_beside _ hk _ (elsewhere_can hc (by decide))).trans rfl

theorem canLossOne_beside {c : Nat} (hc : c < 8) : (s.canLossOne c).tallyAt k = s.tallyAt k := by
  unfold State.canLossOne
  extract_lets t u
  have ht : t.tallyAt k = s.tallyAt k := by
    unfold t
    split
    · exact ite_tallyAt (finish_beside s hk ..) rfl
    · rfl
  have hu : u.tallyAt k = s.tallyAt k := (withdrawBufs_beside t hk hc ..).trans ht
  split
  · exact hu
  · exact hu

theorem canLoss_beside (d : Nat) : (s.canLoss d).tallyAt k = s.tallyAt k := by
  unfold State.canLoss
  refine List.foldlRecOn (motive := fun x : State => x.tallyAt k = s.tallyAt k) _ _ rfl fun x hx c hc => ?_
  exact ite_tallyAt hx ((canLossOne_beside x hk (List.mem_range.mp hc)).trans hx)

theorem mdioGone_beside (m : Nat) : (s.mdioGone m).tallyAt k = s.tallyAt k := by
  unfold State.mdioGone
  extract_lets t
  show t.tallyAt k = s.tallyAt k
  unfold t
  split
  · exact ite_tallyAt (finish_beside s hk ..) rfl
  · rfl

/-! ### The pace strand's sources -/

theorem coast_beside (cause rate : Nat) : (s.coast cause rate).tallyAt k = s.tallyAt k := by
  unfold State.coast
  extract_lets t _ u
  exact (note_beside _ hk ..).trans ((count_beside u hk (by decide)).trans rfl)

theorem axleExclude_beside (a : AxleIn) (reason cause : Nat) :
    (s.axleExclude a reason cause).tallyAt k = s.tallyAt k := by
  unfold State.axleExclude
  extract_lets r base t u _ v
  have ht : t.tallyAt k = s.tallyAt k := only_tallyAt (State.setAxle_touch s _) (by decide) k
  have hu : u.tallyAt k = s.tallyAt k := (note_beside _ hk ..).trans ((count_beside t hk (by decide)).trans ht)
  exact ite_tallyAt (ite_tallyAt ((coast_beside v hk ..).trans hu) hu) (ite_tallyAt hu hu)

theorem axleLoss_beside (gone : Nat → Bool) : (s.axleLoss gone).tallyAt k = s.tallyAt k := by
  unfold State.axleLoss
  exact foldl_keeps (State.tallyAt · k) _ (fun x a => axleExclude_beside x hk ..) _ _

theorem lineLost_beside (cause : Nat) : (s.lineLost cause).tallyAt k = s.tallyAt k := by
  unfold State.lineLost
  extract_lets _ t
  exact ite_tallyAt rfl (ite_tallyAt ((coast_beside t hk ..).trans rfl)
    (ite_tallyAt (coast_beside s hk ..) rfl))

theorem paceSource_beside (n : Nat) (x : Tracker) (src : Option Nat) :
    (s.paceSource n x src).tallyAt k = s.tallyAt k :=
  (note_beside _ hk ..).trans (only_tallyAt (State.setTracker_touch s ..) (by decide) k)

theorem trackerLoss_beside (gone : Nat → Bool) (n : Nat) : (s.trackerLoss gone n).tallyAt k = s.tallyAt k := by
  unfold State.trackerLoss
  split
  · rfl
  · split
    · extract_lets t
      have ht : t.tallyAt k = s.tallyAt k := paceSource_beside s hk ..
      exact ite_tallyAt rfl (ite_tallyAt ((lineLost_beside t hk _).trans ht) ht)
    · rfl

theorem inputsGone_beside (ch ta : Nat → Bool) : (s.inputsGone ch ta).tallyAt k = s.tallyAt k := by
  unfold State.inputsGone
  refine (axleLoss_beside _ hk ta).trans ((trackerLoss_beside _ hk ch 1).trans
    ((trackerLoss_beside _ hk ch 0).trans ?_))
  exact only_tallyAt (State.measRestartIf_touch s ..) (by decide) k

/-! ### The topology -/

theorem abandon_beside : s.abandon.tallyAt k = s.tallyAt k := by
  unfold State.abandon
  exact ite_tallyAt ((count_beside _ hk (by decide)).trans rfl) rfl

theorem topoChange_beside (ports : Nat) : (s.topoChange ports).tallyAt k = s.tallyAt k := by
  unfold State.topoChange
  extract_lets settle _ t n _ u v w
  have hu : u.tallyAt k = s.tallyAt k := ite_tallyAt rfl ((note_beside _ hk ..).trans rfl)
  have hv : v.tallyAt k = s.tallyAt k := (abandon_beside u hk).trans hu
  exact ite_tallyAt (ite_tallyAt rfl ((note_beside _ hk ..).trans (count_beside t hk (by decide)))) hv

theorem newViews_beside (a b : List TopoNode) (ports : Nat) : (s.newViews a b ports).tallyAt k = s.tallyAt k := by
  unfold State.newViews
  extract_lets was crossed _ t u
  have hu : u.tallyAt k = s.tallyAt k := ite_tallyAt
    ((note_beside _ hk ..).trans ((count_beside t hk (by decide)).trans rfl)) rfl
  exact ite_tallyAt hu ((topoChange_beside u hk _).trans hu)

theorem takeLine_beside (p : Nat) : (s.takeLine p).tallyAt k = s.tallyAt k := by
  unfold State.takeLine
  extract_lets f t u
  exact ite_tallyAt ((newViews_beside t hk ..).trans rfl) ((newViews_beside t hk ..).trans rfl)

theorem lineTo_beside (p : Nat) (b : BbPort) : (s.lineTo p b).tallyAt k = s.tallyAt k := by
  unfold State.lineTo
  extract_lets old nbr t _ u v was w
  have hu : u.tallyAt k = s.tallyAt k := (count_beside _ hk (by decide)).trans rfl
  have hv : v.tallyAt k = s.tallyAt k := (only_tallyAt (State.enterFast_touch u) (by decide) k).trans hu
  have hw : w.tallyAt k = s.tallyAt k := (takeLine_beside v hk p).trans hv
  exact ite_tallyAt rfl (ite_tallyAt hv (ite_tallyAt ((note_beside w hk ..).trans hw) hw))

/-! ### Network time -/

theorem newMaster_beside (m : List Nat) : (s.newMaster m).tallyAt k = s.tallyAt k := by
  unfold State.newMaster
  extract_lets old _ t
  exact ite_tallyAt rfl ((note_beside t hk ..).trans rfl)

theorem freeze_beside (d : Int) (o p : Nat) : (s.freeze d o p).tallyAt k = s.tallyAt k := by
  unfold State.freeze
  extract_lets again _ t
  exact (toTime_beside _ hk _).trans rfl

theorem reroute_beside (d : Int) (o p : Nat) : (s.reroute d o p).tallyAt k = s.tallyAt k := by
  unfold State.reroute
  split
  · exact freeze_beside s hk ..
  · exact freeze_beside s hk ..
  · rfl
  · rfl
  · rfl

theorem selectForeign_beside (p : Nat) (m : List Nat) : (s.selectForeign p m).tallyAt k = s.tallyAt k := by
  unfold State.selectForeign
  extract_lets t _ u _ old d v
  have hu : u.tallyAt k = s.tallyAt k := newMaster_beside s hk m
  have hv : v.tallyAt k = s.tallyAt k := hu
  have hnew := (toTime_beside v hk .acquiring).trans hv
  split
  · exact hnew
  · exact hnew
  · exact hnew
  · exact ite_tallyAt hu ((reroute_beside v hk ..).trans hv)

theorem selectOwn_beside : s.selectOwn.tallyAt k = s.tallyAt k := by
  unfold State.selectOwn
  extract_lets t _ u
  have ht : t.tallyAt k = s.tallyAt k := (newMaster_beside _ hk _).trans (withdraw_beside s hk)
  exact ite_tallyAt rfl ((toTime_beside u hk _).trans ht)

theorem bmc_beside : s.bmc.tallyAt k = s.tallyAt k := by
  unfold State.bmc
  refine ite_tallyAt rfl ?_
  split
  · exact ite_tallyAt (selectForeign_beside s hk ..) (selectOwn_beside s hk)
  · exact ite_tallyAt (holdover_beside s hk) (ite_tallyAt rfl (selectOwn_beside s hk))

/-! ### Ports -/

theorem portTimeLost_beside (p : Nat) : (s.portTimeLost p).tallyAt k = s.tallyAt k := by
  unfold State.portTimeLost
  extract_lets x t
  exact ite_tallyAt ((bmc_beside t hk).trans rfl) rfl

theorem macDown_beside {p : Nat} (hp : p < 32) (cause : Nat) : (s.macDown p cause).tallyAt k = s.tallyAt k := by
  unfold State.macDown
  extract_lets x t
  have ht : t.tallyAt k = s.tallyAt k := (flush_beside _ hk hp).trans rfl
  exact ite_tallyAt rfl ((note_beside _ hk ..).trans
    ((count_beside t hk (elsewhere_port hp (by simp [mLinkDown]))).trans ht))

theorem linkFall_beside {p : Nat} (hp : p < 32) (cause : Nat) : (s.linkFall p cause).tallyAt k = s.tallyAt k := by
  unfold State.linkFall
  extract_lets t
  have ht : t.tallyAt k = s.tallyAt k := (portTimeLost_beside _ hk p).trans
    ((only_tallyAt (State.keyDrop_touch _ p) (by decide) k).trans (macDown_beside s hk hp cause))
  exact ite_tallyAt rfl (ite_tallyAt ((lineTo_beside t hk ..).trans ht) ht)

theorem portGone_beside {p : Nat} (hp : p < 32) : (s.portGone p).tallyAt k = s.tallyAt k := by
  unfold State.portGone
  exact (only_tallyAt (State.setGates_touch ..) (by decide) k).trans
    (ite_tallyAt (linkFall_beside s hk hp 3) (flush_beside s hk hp))

/-! ### Sleep -/

theorem selfAbort_beside (cause : Nat) : (s.selfAbort cause).tallyAt k = s.tallyAt k := by
  unfold State.selfAbort
  extract_lets solo t _ u
  have ht : t.tallyAt k = s.tallyAt k :=
    (count_beside _ hk (by decide)).trans (only_tallyAt (State.unagree_touch s) (by decide) k)
  exact (only_tallyAt (State.fillConsent_touch u) (by decide) k).trans ht

/-! ### The triad -/

theorem triTo_beside (m : TriMode) (cause : Nat) : (s.triTo m cause).tallyAt k = s.tallyAt k := by
  unfold State.triTo
  extract_lets old
  exact ite_tallyAt rfl ((note_beside _ hk ..).trans rfl)

theorem triUpdate_beside (cause : Nat) : (s.triUpdate cause).tallyAt k = s.tallyAt k := by
  unfold State.triUpdate
  extract_lets n
  exact ite_tallyAt rfl (ite_tallyAt (triTo_beside s hk ..) (ite_tallyAt (triTo_beside s hk ..)
    (ite_tallyAt (triTo_beside s hk ..) ((triTo_beside _ hk ..).trans rfl))))

theorem joinReady_beside : s.joinReady.tallyAt k = s.tallyAt k := by
  unfold State.joinReady
  refine (triUpdate_beside _ hk 1).trans ?_
  exact foldl_keeps (State.tallyAt · k) _ (fun x c => by split <;> rfl) _ _

theorem overrun_beside (r : Release) : (s.overrun r).tallyAt k = s.tallyAt k :=
  (note_beside _ hk ..).trans ((count_beside _ hk (by decide)).trans rfl)

end

section
variable (s : State) {k : Nat} (hk : FeedKey k)
include hk

theorem seal_feedKey : s.seal.tallyAt k = s.tallyAt k := by
  unfold State.seal
  extract_lets _ t u late planned _ v
  have hu : u.tallyAt k = s.tallyAt k := epochSend_beside t hk.beside
  refine ite_tallyAt rfl (ite_tallyAt rfl ((mirrorCheck_beside _ hk.beside).trans ?_))
  exact (count_tally v _ 1 k (hk.ne_twin (by decide))).trans hu

theorem begin_feedKey (r : Release) : (s.begin r).tallyAt k = s.tallyAt k := by
  have hready : s.seal.joinReady.tallyAt k = s.tallyAt k :=
    (joinReady_beside s.seal hk.beside).trans (seal_feedKey s hk)
  unfold State.begin
  generalize s.seal.joinReady = t at hready ⊢
  exact (only_tallyAt (State.showSnaps_touch t (t.triad.snaps ++ r.snaps)) (by decide) k).trans hready

theorem nextTask_feedKey : s.nextTask.tallyAt k = s.tallyAt k := by
  unfold State.nextTask
  extract_lets q
  refine foldl_keeps (State.tallyAt · k) _ (fun x r => ?_) _ _
  dsimp only
  exact ite_tallyAt rfl (ite_tallyAt ((overrun_beside _ hk.beside r).trans rfl)
    (ite_tallyAt ((begin_feedKey _ hk r).trans rfl) ((count_beside _ hk.beside (by decide)).trans rfl)))

theorem triadLoss_feedKey (d : Nat) : (s.triadLoss d).tallyAt k = s.tallyAt k := by
  unfold State.triadLoss
  extract_lets gone t u
  have ht : t.tallyAt k = s.tallyAt k := foldl_keeps (State.tallyAt · k) _
    (fun x c => only_tallyAt (State.coreOut_touch x c) (by decide) k) _ _
  have hu : u.tallyAt k = t.tallyAt k := only_tallyAt
    (only_foldl [.triad] _ (fun x c => State.setCore_touch x c _) _ t t (only_refl ..)) (by decide) k
  calc ((u.stopLone.fillSlots).triUpdate 4).nextTask.tallyAt k
      = ((u.stopLone.fillSlots).triUpdate 4).tallyAt k := nextTask_feedKey _ hk
    _ = u.stopLone.fillSlots.tallyAt k := triUpdate_beside _ hk.beside 4
    _ = u.stopLone.tallyAt k := only_tallyAt (State.fillSlots_touch _) (by decide) k
    _ = u.tallyAt k := only_tallyAt (State.stopLone_touch u) (by decide) k
    _ = s.tallyAt k := hu.trans ht

theorem gafferGone_feedKey (g : Nat) : (s.gafferGone g).tallyAt k = s.tallyAt k := by
  obtain ⟨-, -, h4, -⟩ := hk.beside
  unfold State.gafferGone
  extract_lets mine spine _ _ t
  exact (only_tallyAt (State.spineLost_touch _ g) (by decide) k).trans ((count_tally t _ _ k h4).trans rfl)

end

end Sys2Proof.Machine

/-! SUPPORT. Chapter 13, feeds and domains: warnings, loss, return, the spine list, memory errors (R421 to
R441). -/

namespace Sys2Proof.Machine

/-! ### A feed and the other one -/

section
variable (s : State) {d : Nat} (f : Feed)

@[simp] theorem feed_setFeed_self : (s.setFeed d f).feed d = f := by
  by_cases h : d = 0 <;> simp [State.feed, State.setFeed, h]

theorem feed_setFeed_other (hd : d < 2) : (s.setFeed d f).feed (1 - d) = s.feed (1 - d) := by
  obtain rfl | rfl : d = 0 ∨ d = 1 := by omega
  · rfl
  · rfl

end

/-- What changes no feed keeps both. -/
theorem only_feed {s t : State} {l : List Part} (h : t.onlyChanges s l) (hl : Part.feeds ∉ l) (d : Nat) :
    t.feed d = s.feed d := by
  obtain ⟨hA, hB⟩ := h.2 .feeds hl
  rw [State.feed, State.feed, hA, hB]

theorem pins_feed (s : State) (d : Nat) : s.pins.feed d = s.feed d := only_feed (pins_only s []) (by decide) d

/-! ### Warnings (R421 to R425) -/

/-- The record of a feed whose rail has fallen below its warning level. -/
def Feed.warnedAt (f : Feed) (rail mv : Nat) : Feed :=
  { f with
    warn := true
    mins := Tab.set 0 f.mins rail (if Tab.get 0 f.mins rail = 0 then mv else min (Tab.get 0 f.mins rail) mv)
    warnings := if f.warning then f.warnings else f.warnings + 1 }

section
variable {s : State} {d rail mv : Nat}

theorem feedWarning_idle (h : ¬(s.awake = true ∧ (s.feed d).dom ≠ .isolated)) : s.feedWarning d rail mv = s := by
  unfold State.feedWarning
  refine if_pos ?_
  cases hawake : s.awake
  · simp
  · simpa [hawake] using h

variable (h : s.awake = true ∧ (s.feed d).dom ≠ .isolated)
include h

theorem feedWarning_again (hwas : (s.feed d).warning = true) :
    s.feedWarning d rail mv = s.setFeed d ((s.feed d).warnedAt rail mv) :=
  (if_neg (by simp [h.1, h.2])).trans (if_pos hwas)

theorem feedWarning_first (hwas : (s.feed d).warning = false) :
    s.feedWarning d rail mv = ((s.setFeed d ((s.feed d).warnedAt rail mv)).count (tlFeed d)).note (ev 13 0)
      (le 1 d ++ le 1 rail ++ le 4 mv) :=
  (if_neg (by simp [h.1, h.2])).trans (if_neg (by simp [hwas]))

end

theorem writeBoot_defer (f : Flash) (o : Nat) (b : List Byte) : (f.writeBoot o b).defer = f.defer := by
  unfold Flash.writeBoot
  split <;> rfl

theorem writeEnergy_defer (s : State) : s.writeEnergy.flash.defer = s.flash.defer := by
  unfold State.writeEnergy
  extract_lets m e
  clear_value e
  rfl

/-- What is written out once no feed is in warning leaves nothing deferred. -/
theorem writeDeferred_defer (s : State) : s.writeDeferred.flash.defer = [] := by
  unfold State.writeDeferred
  refine (foldl_keeps (fun t : State => t.flash.defer) _ (fun u d => ?_) _ _).trans rfl
  split
  · rfl
  · rfl
  · exact writeEnergy_defer u
  · exact writeBoot_defer ..

section
variable {s : State} {dt : Nat} (d : Fin 2) (rail : Fin 3) (mv : U16)

theorem feedWarn_there (h : s.awake = true ∧ (s.feed d.val).dom ≠ .isolated) :
    ∃ t g, exec (.feedWarn dt d rail mv) s = .next t ∧ t.feed d.val = g ∧ g.warn = true ∧
      g.dom = (s.feed d.val).dom ∧ g.losses = (s.feed d.val).losses ∧ g.vreq = (s.feed d.val).vreq ∧
      t.feed (1 - d.val) = s.feed (1 - d.val) ∧
      g.mins = Tab.set 0 (s.feed d.val).mins rail.val (if Tab.get 0 (s.feed d.val).mins rail.val = 0 then mv.toNat
        else min (Tab.get 0 (s.feed d.val).mins rail.val) mv.toNat) ∧
      ((s.feed d.val).warning = false → g.warnings = (s.feed d.val).warnings + 1 ∧
        t.tallyAt (tlFeed d.val) = min tlyMax (s.tallyAt (tlFeed d.val) + 1)) ∧
      ((s.feed d.val).warning = true → g.warnings = (s.feed d.val).warnings ∧ t.onlyChanges s [.feeds]) ∧
      t.onlyChanges s (.feeds :: eventParts) := by
  let g := (s.feed d.val).warnedAt rail.val mv.toNat
  let u := (s.elapse dt).setFeed d.val g
  have hset : u.onlyChanges (s.elapse dt) [.feeds] := State.setFeed_touch ..
  cases hwas : (s.feed d.val).warning with
  | true =>
    refine ⟨_, g, congrArg go (feedWarning_again (s := s.elapse dt) h hwas), ?_, rfl, rfl, rfl, rfl, ?_, rfl,
      nofun, fun _ => ⟨if_pos hwas, go_only hset⟩, go_only (only_sub hset (by decide))⟩
    · rw [pins_feed]
      exact feed_setFeed_self ..
    · rw [pins_feed]
      exact feed_setFeed_other (s.elapse dt) g d.isLt
  | false =>
    have honly := note_only (u.count (tlFeed d.val)) (ev 13 0) (le 1 d.val ++ le 1 rail.val ++ le 4 mv.toNat)
      eventParts (fun _ h => h)
    have hfeed (i : Nat) : ((u.count (tlFeed d.val)).note (ev 13 0)
        (le 1 d.val ++ le 1 rail.val ++ le 4 mv.toNat)).pins.feed i = u.feed i :=
      (pins_feed _ i).trans ((only_feed honly (by decide) i).trans rfl)
    refine ⟨_, g, congrArg go (feedWarning_first (s := s.elapse dt) h hwas), ?_, rfl, rfl, rfl, rfl, ?_, rfl,
      fun _ => ⟨if_neg (by simp [hwas]), ?_⟩, nofun, ?_⟩
    · exact (hfeed d.val).trans (feed_setFeed_self ..)
    · exact (hfeed (1 - d.val)).trans (feed_setFeed_other (s.elapse dt) g d.isLt)
    · show Tab.get 0 (State.pins _).tly.live _ = _
      rw [State.pins_tly]
      refine (note_beside _ (feedKey_of (i := d.val) (by omega) (by omega) (by omega) (by omega)).beside ..).trans
        ((count_self u _).trans ?_)
      exact congrArg (min tlyMax <| · + 1) (only_tallyAt hset (by decide) _)
    · exact go_only (only_step (only_step (only_sub hset (by decide)) (State.count_touch ..) (by decide)) honly
        (by decide))

end

theorem flashHeld_of_calm {s : State} {d : Nat} (hd : d < 2) (h : (s.feed d).warning = false)
    (hother : (s.feed (1 - d)).warning = false) : s.flashHeld = false := by
  obtain rfl | rfl : d = 0 ∨ d = 1 := by omega
  · exact Bool.or_eq_false_iff.mpr ⟨h, hother⟩
  · exact Bool.or_eq_false_iff.mpr ⟨hother, h⟩

/-- What a warning's end leaves of a feed. -/
def State.warnedUntil (s : State) (f : Feed) : Feed :=
  { f with warnTill := if f.warning then f.warnTill else s.now + 1 }

section
variable (s : State) {d : Nat} (hd : d < 2) (f : Feed)

theorem warnOver_feed : (s.warnOver d f).feed d = s.warnedUntil f :=
  (only_feed (State.calm_touch _) (by decide) d).trans (feed_setFeed_self ..)

include hd

theorem warnOver_feed_other : (s.warnOver d f).feed (1 - d) = s.feed (1 - d) :=
  (only_feed (State.calm_touch _) (by decide) _).trans (feed_setFeed_other s _ hd)

theorem warnOver_defer (h : f.warning = false) (hother : (s.feed (1 - d)).warning = false)
    (hup : s.tellerUp = true) : (s.warnOver d f).flash.defer = [] := by
  have hheld : (s.setFeed d (s.warnedUntil f)).flashHeld = false := by
    refine flashHeld_of_calm hd ?_ ?_
    · rw [feed_setFeed_self]
      exact h
    · rw [feed_setFeed_other s _ hd]
      exact hother
  have hteller : (s.setFeed d (s.warnedUntil f)).tellerUp = true := by
    rw [State.tellerUp, (State.setFeed_touch s d _).2 .system (by decide)]
    exact hup
  have hcalm : (s.setFeed d (s.warnedUntil f)).calm = (s.setFeed d (s.warnedUntil f)).writeDeferred :=
    if_neg (by simp [hheld, hteller])
  exact (congrArg (fun t : State => t.flash.defer) hcalm).trans (writeDeferred_defer _)

end

theorem warnOver_only (s : State) (d : Nat) (f : Feed) :
    (s.warnOver d f).onlyChanges s [.feeds, .daybook, .flash] :=
  only_step (only_sub (State.setFeed_touch ..) (by decide)) (State.calm_touch _)

theorem feedWarnEnd_ends {s : State} {dt : Nat} {d : Fin 2} (h : (s.feed d.val).warn = true) :
    ∃ t, exec (.feedWarnEnd dt d) s = .next t ∧ (t.feed d.val).warn = false ∧
      (t.feed d.val).sim = (s.feed d.val).sim ∧ t.feed (1 - d.val) = s.feed (1 - d.val) ∧
      ((s.feed d.val).sim = [] → (s.feed (1 - d.val)).warning = false → s.tellerUp = true →
        t.flash.defer = []) ∧
      t.onlyChanges s [.feeds, .daybook, .flash] := by
  let f : Feed := { s.feed d.val with warn := false }
  have hfeed : ((s.elapse dt).warnOver d.val f).pins.feed d.val = (s.elapse dt).warnedUntil f :=
    (pins_feed ..).trans (warnOver_feed ..)
  refine ⟨_, congrArg go (if_pos h), (congrArg Feed.warn hfeed).trans rfl,
    (congrArg Feed.sim hfeed).trans rfl,
    (pins_feed ..).trans (warnOver_feed_other (s.elapse dt) d.isLt f), fun hsim hother hup => ?_,
    go_only (warnOver_only ..)⟩
  rw [State.pins_flash]
  refine warnOver_defer (s.elapse dt) d.isLt f ?_ hother hup
  show (_ && (false || !(s.feed d.val).sim.isEmpty)) = false
  simp [hsim]

/-! ### The loss of a domain (R124, R426 to R428) -/

/-- A feed whose domain is isolated. -/
def State.feedOff (s : State) (f : Feed) : Feed :=
  { f with
    dom := .isolated, warn := false, sim := [], losses := f.losses + 1, lostNet := s.net
    lostAt := s.now, warnTill := if f.warning then s.now + 1 else f.warnTill }

/-- The gaffer and the feed of a domain are off. -/
def State.domainOff (s : State) (d : Nat) : State :=
  (s.gafferGone d).setFeed d ((s.gafferGone d).feedOff ((s.gafferGone d).feed d))

/-- The ports of a domain stop. -/
def State.portsOff (s : State) (d : Nat) : State :=
  ((List.range 24).filter fun p => portDomain p = d).foldl State.portGone s

/-- The other units of a domain stop. -/
def State.unitsOff (s : State) (d : Nat) : State :=
  ((((s.insertion.mdioGone d).canLoss d).inputsGone (fun n => inputDomain n = d)
    fun n => inputDomain n = d).triadLoss d)

/-- The lehr's request for the feed is dropped. -/
def State.pendOff (s : State) (d : Nat) : State :=
  { s with lehr := if d = 0 then { s.lehr with pendA := none } else { s.lehr with pendB := none } }

/-- What a loss enters, with the ports' mask and the frames they held, and what it ends. -/
def State.lossEnd (s : State) (d rail mask held : Nat) : State :=
  let s := ((s.count (tlFeed (2 + d))).note (ev 13 1) (le 1 d ++ le 1 rail ++ secNs s.net)).note (ev 3 4)
    (le 4 mask ++ le 4 held)
  let far := wkRole s.sleep.conf ≠ 0 && canDomain (wkCtrl s.sleep.conf) = d && !s.sleep.solo
  (if far && s.sleep.agreed && !s.committedSleep then s.selfAbort 0x11 else s).calm

theorem isolate_eq (s : State) (d rail : Nat) : s.isolate d rail =
    ((((s.domainOff d).portsOff d).unitsOff d).pendOff d).lossEnd d rail
      (((List.range 24).filter fun p => portDomain p = d).map (2 ^ ·)).sum
      (s.heldBy fun p => portDomain p = d) := by
  unfold State.isolate
  extract_lets gone held mask gaffer f off ports inputs units _ pend loss noted far last
  have hoff : off = s.domainOff d := rfl
  clear_value off
  have hports : ports = off.portsOff d := rfl
  clear_value ports
  have hunits : units = ports.unitsOff d := rfl
  clear_value units
  have hpend : pend = units.pendOff d := rfl
  clear_value pend
  rw [← hoff, ← hports, ← hunits, ← hpend]
  rfl

/-- The steps of a loss, for a mask of ports and a count of frames. -/
theorem isolate_steps (s : State) (d rail : Nat) : ∃ mask held, s.isolate d rail =
    ((((s.domainOff d).portsOff d).unitsOff d).pendOff d).lossEnd d rail mask held := ⟨_, _, isolate_eq s d rail⟩

/-- What the end of a domain's units leaves alone besides the rest: its feed, the gaffers, and, once the
ports have stopped, ports and fabric. -/
theorem portsOff_only (s : State) (d : Nat) : (s.portsOff d).onlyChanges s
    [.interrupts, .clock, .tallies, .daybook, .outputs, .flash, .ports, .fabric, .inaug, .time, .vault] :=
  only_foldl _ _ (fun t p => State.portGone_touch t p) _ s s (only_refl ..)

theorem unitsOff_only (s : State) (d : Nat) : (s.unitsOff d).onlyChanges s
    [.mailbox, .interrupts, .clock, .tallies, .daybook, .outputs, .flash, .trackers, .pace, .ports, .store,
     .inaug, .can, .measure, .triad, .twin, .seeds] :=
  only_step (only_step (only_step (only_step (only_sub (State.insertion_touch s) (by decide))
    (State.mdioGone_touch ..) (by decide)) (State.canLoss_touch ..) (by decide))
    (State.inputsGone_touch ..) (by decide)) (State.triadLoss_touch ..) (by decide)

theorem lossEnd_only (s : State) (d rail mask held : Nat) : (s.lossEnd d rail mask held).onlyChanges s
    [.interrupts, .tallies, .daybook, .outputs, .flash, .can, .sleep] := by
  unfold State.lossEnd
  extract_lets u far
  have hu : u.onlyChanges s [.interrupts, .tallies, .daybook, .outputs, .flash, .can, .sleep] :=
    only_trans (only_trans (only_sub (State.count_touch s _) (by decide)) (note_only _ _ _ _ (by decide)))
      (note_only _ _ _ _ (by decide))
  exact only_step (only_ite (only_step hu (State.selfAbort_touch ..) (by decide)) hu) (State.calm_touch _) (by decide)

theorem isolate_only_domainOff (s : State) (d rail : Nat) : (s.isolate d rail).onlyChanges (s.domainOff d)
    [.mailbox, .interrupts, .clock, .tallies, .daybook, .outputs, .flash, .lehr, .trackers, .pace, .ports, .fabric,
     .store, .inaug, .time, .can, .sleep, .measure, .triad, .twin, .vault, .seeds] := by
  obtain ⟨mask, held, hsteps⟩ := isolate_steps s d rail
  rw [hsteps]
  refine only_step (only_set_lehr _ (only_step (only_sub (portsOff_only ..) (by decide)) (unitsOff_only ..)
    (by decide)) (by decide)) (lossEnd_only ..) (by decide)

theorem gafferGone_feed (s : State) (d i : Nat) : (s.gafferGone d).feed i = s.feed i :=
  only_feed (State.gafferGone_touch s d) (by decide) i

theorem gafferGone_clk (s : State) (d : Nat) : (s.gafferGone d).clk = s.clk := by
  unfold State.gafferGone State.spineLost
  dsimp only
  split <;> rfl

section
variable (s : State) (d rail : Nat)

theorem isolate_feed : (s.isolate d rail).feed d = s.feedOff (s.feed d) := by
  refine (only_feed (isolate_only_domainOff s d rail) (by decide) d).trans ?_
  rw [State.domainOff, feed_setFeed_self, gafferGone_feed]
  simp only [State.feedOff, State.net, State.now, gafferGone_clk]

theorem isolate_feed_other {d : Nat} (hd : d < 2) : (s.isolate d rail).feed (1 - d) = s.feed (1 - d) := by
  refine (only_feed (isolate_only_domainOff s d rail) (by decide) _).trans ?_
  rw [State.domainOff, feed_setFeed_other _ _ hd, gafferGone_feed]

theorem isolate_gaf : (s.isolate d rail).gaf = (s.gafferGone d).gaf :=
  ((isolate_only_domainOff s d rail).2 .gaffer (by decide)).trans ((State.setFeed_touch ..).2 .gaffer (by decide))

/-- The spine list of an active time strand passes to the other gaffer. -/
theorem gafferGone_spine (hactive : s.gaf.active = true) (h : s.gaf.spineT.gaf = d) :
    (s.gafferGone d).gaf.spineT.gaf = 1 - d := by
  unfold State.gafferGone State.spineLost
  simp [State.countN, hactive, h]

theorem gafferGone_spine_kept (h : s.gaf.spineT.gaf ≠ d) :
    (s.gafferGone d).gaf.spineT.gaf = s.gaf.spineT.gaf := by
  unfold State.gafferGone State.spineLost
  by_cases hactive : s.gaf.active = true
  · simp [State.countN, hactive, h]
  · simp [State.countN, hactive, h, spineHold0]

end

/-! ### The ports of a lost domain are closed (R124) -/

section
variable {s : State} {p : Nat} (hup : (s.mac p).up = true)
include hup

/-- The state in which a port's link is down. -/
def State.downMac (s : State) (p : Nat) : State := s.setMac p { s.mac p with up := false }

theorem macDown_up (cause : Nat) : s.macDown p cause =
    (((s.downMac p).flush p).count (tlPort p mLinkDown)).note (ev 3 1) (le 1 p ++ le 1 cause) :=
  if_neg (by simp [hup])

theorem linkFall_up (cause : Nat) : s.linkFall p cause =
    if p < 4 then (((s.macDown p cause).keyDrop p).portTimeLost p).bbDown p
    else ((s.macDown p cause).keyDrop p).portTimeLost p := if_neg (by simp [hup])

theorem linkFall_ports (cause : Nat) : (s.linkFall p cause).ports = (s.downMac p).ports := by
  have hmac : (s.macDown p cause).ports = (s.downMac p).ports := by
    rw [macDown_up hup, State.note_ports]
    rfl
  have hdrop := ((State.keyDrop_touch (s.macDown p cause) p).2 .ports (by decide)).trans hmac
  have htime := ((State.portTimeLost_touch ((s.macDown p cause).keyDrop p) p).2 .ports (by decide)).trans hdrop
  rw [linkFall_up hup]
  split
  · exact ((State.bbDown_touch _ p).2 .ports (by decide)).trans htime
  · exact htime

theorem linkFall_gates (cause : Nat) : (s.linkFall p cause).fab.gates = s.fab.gates := by
  have hmac : (s.macDown p cause).fab.gates = s.fab.gates := by
    rw [macDown_up hup, State.note_fab]
    rfl
  have hdrop : ((s.macDown p cause).keyDrop p).fab.gates = s.fab.gates := hmac
  have htime := (congrArg Fab.gates
    ((State.portTimeLost_touch ((s.macDown p cause).keyDrop p) p).2 .fabric (by decide))).trans hdrop
  rw [linkFall_up hup]
  split
  · exact (congrArg Fab.gates ((State.bbDown_touch _ p).2 .fabric (by decide))).trans htime
  · exact htime

end

/-- A port that is stopped: its link down, its gates closed. -/
abbrev State.stopped (s : State) (q : Nat) : Prop := (s.mac q).up = false ∧ Tab.get 0 s.fab.gates q = 0

section
variable (s : State) (p : Nat)

theorem portGone_gates : (s.portGone p).fab.gates = Tab.set 0 s.fab.gates p 0 := by
  unfold State.portGone
  by_cases hup : (s.mac p).up = true
  · rw [if_pos hup]
    exact congrArg (fun g : Tab Nat => Tab.set 0 g p 0) (linkFall_gates hup 3)
  · rw [if_neg hup]
    rfl

theorem portGone_stops : (s.portGone p).stopped p := by
  refine ⟨?_, by rw [portGone_gates]; exact Tab.get_set_self 0 s.fab.gates p 0⟩
  unfold State.portGone
  by_cases hup : (s.mac p).up = true
  · rw [if_pos hup, State.mac, (State.setGates_touch ..).2 .ports (by decide), linkFall_ports hup]
    exact congrArg Port.up (Tab.get_set_self port0 s.ports.tab p _)
  · rw [if_neg hup, State.mac, (State.setGates_touch ..).2 .ports (by decide),
      (State.flush_touch s p).2 .ports (by decide)]
    simpa [State.mac] using hup

theorem portGone_keeps_stopped {q : Nat} (h : s.stopped q) : (s.portGone p).stopped q := by
  by_cases hq : q = p
  · rw [hq]
    exact portGone_stops s p
  · refine ⟨?_, by rw [portGone_gates, Tab.get_set_ne 0 _ 0 hq]; exact h.2⟩
    unfold State.portGone
    by_cases hup : (s.mac p).up = true
    · rw [if_pos hup, State.mac, (State.setGates_touch ..).2 .ports (by decide), linkFall_ports hup]
      exact (congrArg Port.up (Tab.get_set_ne port0 s.ports.tab _ hq)).trans h.1
    · rw [if_neg hup, State.mac, (State.setGates_touch ..).2 .ports (by decide),
        (State.flush_touch s p).2 .ports (by decide)]
      exact h.1

end

theorem foldl_portGone_stops {l : List Nat} {q : Nat} (hq : q ∈ l) (s : State) :
    (l.foldl State.portGone s).stopped q := by
  induction l generalizing s with
  | nil => cases hq
  | cons p l ih =>
    rw [List.foldl_cons]
    by_cases hl : q ∈ l
    · exact ih hl _
    · obtain rfl : q = p := (List.mem_cons.mp hq).resolve_right hl
      exact List.foldlRecOn (motive := fun t : State => t.stopped q) _ _ (portGone_stops s q)
        fun t ht r _ => portGone_keeps_stopped t r ht

theorem insertion_tab (s : State) : s.insertion.ports.tab = s.ports.tab := by
  have hcontrol (t : State) (line : Nat) : (t.insControl line).ports = t.ports := by
    unfold State.insControl
    extract_lets on till
    split <;> rfl
  unfold State.insertion
  extract_lets _ t
  rw [hcontrol, hcontrol]
  unfold t
  split <;> rfl

/-- What ends after the ports have stopped does not start one again. -/
theorem unitsOff_tab (s : State) (d : Nat) : (s.unitsOff d).ports.tab = s.ports.tab := by
  have htri : (s.unitsOff d).ports = ((s.insertion.mdioGone d).canLoss d).ports :=
    ((State.triadLoss_touch ..).2 .ports (by decide)).trans ((State.inputsGone_touch ..).2 .ports (by decide))
  have hcan := htri.trans ((State.canLoss_touch ..).2 .ports (by decide))
  rw [hcan]
  unfold State.mdioGone
  extract_lets u
  have hu : u.ports = s.insertion.ports := by
    unfold u
    split
    · split
      · exact (State.finish_touch ..).2 .ports (by decide)
      · rfl
    · rfl
  have htab : u.ports.tab = s.ports.tab := (congrArg Ports.tab hu).trans (insertion_tab s)
  split
  · exact htab
  · exact htab

theorem pendOff_ports (s : State) (d : Nat) : (s.pendOff d).ports = s.ports := rfl

theorem pendOff_fab (s : State) (d : Nat) : (s.pendOff d).fab = s.fab := rfl

theorem lossEnd_keeps (s : State) (d rail mask held : Nat) :
    (s.lossEnd d rail mask held).ports = s.ports ∧ (s.lossEnd d rail mask held).fab = s.fab :=
  ⟨(lossEnd_only s d rail mask held).2 .ports (by decide), (lossEnd_only s d rail mask held).2 .fabric (by decide)⟩

theorem isolate_stops (s : State) {d : Nat} (rail : Nat) {q : Nat} (hq : q < 24) (hd : portDomain q = d) :
    (s.isolate d rail).stopped q := by
  have hmem : q ∈ (List.range 24).filter fun p => portDomain p = d :=
    List.mem_filter.mpr ⟨List.mem_range.mpr hq, by simpa using hd⟩
  obtain ⟨hup, hgate⟩ : ((s.domainOff d).portsOff d).stopped q := foldl_portGone_stops hmem (s.domainOff d)
  obtain ⟨mask, held, hsteps⟩ := isolate_steps s d rail
  rw [hsteps]
  generalize (s.domainOff d).portsOff d = u at hup hgate ⊢
  obtain ⟨hports, hfab⟩ := lossEnd_keeps ((u.unitsOff d).pendOff d) d rail mask held
  refine ⟨?_, ?_⟩
  · rw [State.mac, hports, pendOff_ports, unitsOff_tab]
    exact hup
  · rw [hfab, pendOff_fab, (unitsOff_only u d).2 .fabric (by decide)]
    exact hgate

theorem portOpen_of_down {s : State} {q : Nat} (hq : q < 24) (h : (s.mac q).up = false) :
    s.portOpen q = false := by
  simp [State.portOpen, h, hq]

/-! ### What the loss of a domain counts -/

section
variable (s : State) {k : Nat} (hk : FeedKey k) (d : Nat)
include hk

theorem domainOff_feedKey : (s.domainOff d).tallyAt k = s.tallyAt k :=
  (only_tallyAt (State.setFeed_touch ..) (by decide) k).trans (gafferGone_feedKey s hk d)

theorem portsOff_feedKey : (s.portsOff d).tallyAt k = s.tallyAt k := by
  unfold State.portsOff
  refine List.foldlRecOn (motive := fun x : State => x.tallyAt k = s.tallyAt k) _ _ rfl fun x hx p hp => ?_
  have hlt : p < 24 := List.mem_range.mp (List.mem_filter.mp hp).1
  exact (portGone_beside x hk.beside (by omega)).trans hx

theorem unitsOff_feedKey : (s.unitsOff d).tallyAt k = s.tallyAt k := by
  unfold State.unitsOff
  exact (triadLoss_feedKey _ hk d).trans ((inputsGone_beside _ hk.beside _ _).trans
    ((canLoss_beside _ hk.beside d).trans ((mdioGone_beside _ hk.beside d).trans
      (only_tallyAt (State.insertion_touch s) (by decide) k))))

theorem lossEnd_feedKey (rail mask held : Nat) :
    (s.lossEnd d rail mask held).tallyAt k = (s.count (tlFeed (2 + d))).tallyAt k := by
  unfold State.lossEnd
  extract_lets u far
  have hu : u.tallyAt k = (s.count (tlFeed (2 + d))).tallyAt k :=
    (note_beside _ hk.beside ..).trans (note_beside _ hk.beside ..)
  exact (only_tallyAt (State.calm_touch _) (by decide) k).trans
    (ite_tallyAt ((selfAbort_beside u hk.beside _).trans hu) hu)

/-- The loss of a domain counts itself; the other tallies of the feeds stay. -/
theorem isolate_tally (rail : Nat) :
    (s.isolate d rail).tallyAt k = (s.count (tlFeed (2 + d))).tallyAt k := by
  obtain ⟨mask, held, hsteps⟩ := isolate_steps s d rail
  have hunits := unitsOff_feedKey ((s.domainOff d).portsOff d) hk d
  have hbefore : (((s.domainOff d).portsOff d).unitsOff d).tallyAt k = s.tallyAt k :=
    hunits.trans ((portsOff_feedKey _ hk d).trans (domainOff_feedKey s hk d))
  rw [hsteps]
  generalize ((s.domainOff d).portsOff d).unitsOff d = u at hbefore ⊢
  refine (lossEnd_feedKey (u.pendOff d) hk d rail mask held).trans ?_
  by_cases hself : k = tlFeed (2 + d)
  · subst hself
    exact (count_self (u.pendOff d) _).trans ((congrArg (min tlyMax <| · + 1) hbefore).trans
      (count_self s _).symm)
  · exact (count_tally (u.pendOff d) _ 1 k hself).trans (hbefore.trans (count_tally s _ 1 k hself).symm)

end

/-! ### FEED_LOSS and BOTH_FEEDS_LOST (R426, R429) -/

theorem setFeed_clk (s : State) (d : Nat) (f : Feed) : (s.setFeed d f).clk = s.clk := by
  unfold State.setFeed
  split <;> rfl

section
variable {s : State} {d : Nat} (rail : Nat)

theorem feedLost_idle (h : s.sleep.asleep = true ∨ (s.feed d).below = true) : s.feedLost d rail = s :=
  if_pos (by simpa using h)

variable (hup : s.sleep.asleep = false) (hgood : (s.feed d).below = false) (hawake : s.awake = true)
include hup hgood hawake

theorem feedLost_both (h : (s.feed (1 - d)).below = true) : s.feedLost d rail = s.bothLost :=
  (if_neg (by simp [hup, hgood])).trans ((if_neg (by simp [hawake])).trans (if_pos h))

theorem feedLost_one (h : (s.feed (1 - d)).below = false) : s.feedLost d rail =
    match (s.feed d).dom with
    | .isolated => s.setFeed d { s.feed d with below := true }
    | .returning => s.abandon2 d
    | .present => (s.setFeed d { s.feed d with below := true }).isolate d rail :=
  (if_neg (by simp [hup, hgood])).trans ((if_neg (by simp [hawake])).trans (if_neg (by simp [h])))

/-- The feed is noted below its reset level, then its domain is isolated. -/
theorem feedLost_present (hd : d < 2) (h : (s.feed (1 - d)).below = false) (hthere : (s.feed d).dom = .present) :
    ∃ u : State, s.feedLost d rail = u.isolate d rail ∧ u.onlyChanges s [.feeds] ∧ u.clk = s.clk ∧
      u.feed d = { s.feed d with below := true } ∧ u.feed (1 - d) = s.feed (1 - d) := by
  refine ⟨s.setFeed d { s.feed d with below := true }, ?_, State.setFeed_touch .., setFeed_clk ..,
    feed_setFeed_self .., feed_setFeed_other s _ hd⟩
  rw [feedLost_one rail hup hgood hawake h, hthere]

end

/-- The loss of a present domain. -/
theorem feedLoss_isolates {s : State} {dt : Nat} (d : Fin 2) (rail : Fin 3) (hup : s.sleep.asleep = false)
    (hgood : (s.feed d.val).below = false) (hawake : s.awake = true) (hother : (s.feed (1 - d.val)).below = false)
    (hthere : (s.feed d.val).dom = .present) :
    ∃ t, exec (.feedLoss dt d rail) s = .next t ∧ (t.feed d.val).dom = .isolated ∧
      (t.feed d.val).below = true ∧ (t.feed d.val).losses = (s.feed d.val).losses + 1 ∧
      (t.feed d.val).lostNet = (s.elapse dt).net ∧ t.feed (1 - d.val) = s.feed (1 - d.val) ∧
      t.tallyAt (tlFeed (2 + d.val)) = min tlyMax (s.tallyAt (tlFeed (2 + d.val)) + 1) ∧
      (∀ p, p < 24 → portDomain p = d.val → Tab.get 0 t.fab.gates p = 0 ∧ t.portOpen p = false) ∧
      (s.gaf.active = true → s.gaf.spineT.gaf = d.val → t.gaf.spineT.gaf = 1 - d.val) := by
  obtain ⟨u, hrun, hset, hclk, hself, hrest⟩ := feedLost_present (s := s.elapse dt) (d := d.val) rail.val hup hgood
    hawake d.isLt hother hthere
  have hfeed : (u.isolate d.val rail.val).pins.feed d.val = u.feedOff (u.feed d.val) :=
    (pins_feed ..).trans (isolate_feed u d.val rail.val)
  rw [hself] at hfeed
  have hgaf : u.gaf = s.gaf := hset.2 .gaffer (by decide)
  refine ⟨_, congrArg go hrun, ?_, ?_, ?_, ?_, ?_, ?_, fun p hp hdom => ?_, fun hactive hspine => ?_⟩
  · rw [hfeed]
    rfl
  · rw [hfeed]
    rfl
  · rw [hfeed]
    rfl
  · rw [hfeed]
    exact congrArg (fun c : Clk => c.net / 2 ^ 48) hclk
  · exact (pins_feed ..).trans ((isolate_feed_other u rail.val d.isLt).trans hrest)
  · show Tab.get 0 (State.pins _).tly.live _ = _
    rw [State.pins_tly]
    refine (isolate_tally u (feedKey_of (by omega) (by omega) (by omega) (by omega)) d.val rail.val).trans ?_
    exact (count_self u _).trans (congrArg (min tlyMax <| · + 1) (only_tallyAt hset (by decide) _))
  · obtain ⟨hdown, hgate⟩ := isolate_stops u rail.val hp hdom
    refine ⟨by rw [State.pins_fab]; exact hgate, portOpen_of_down hp ?_⟩
    rw [State.mac, State.pins_ports]
    exact hdown
  · rw [State.pins_gaf, isolate_gaf]
    exact gafferGone_spine u d.val (by rw [hgaf]; exact hactive) (by rw [hgaf]; exact hspine)

end Sys2Proof.Machine

/-! SUPPORT. Chapter 13, feeds and domains, continued: both feeds lost, the return of a domain, the spine
list's handover (R427 to R431, R441). -/

namespace Sys2Proof.Machine

/-! ### Returns abandoned, both feeds lost (R429, R431) -/

section
variable (s : State) {d : Nat}

theorem abandon2_feed : (s.abandon2 d).feed d =
    { s.feed d with dom := .isolated, below := true, warn := false, sim := [] } :=
  (only_feed (State.canLoss_touch ..) (by decide) d).trans (feed_setFeed_self ..)

theorem abandon2_feed_other (hd : d < 2) : (s.abandon2 d).feed (1 - d) = s.feed (1 - d) :=
  (only_feed (State.canLoss_touch ..) (by decide) _).trans (feed_setFeed_other s _ hd)

/-- What a reset of the main die keeps, and what it ends. -/
theorem mainReset_keeps : (s.mainReset false).flash = { s.flash with defer := [] } ∧
    (s.mainReset false).gaf.active = false ∧ (s.mainReset false).sys.porst = s.sys.porst ∧
    (s.mainReset false).sys.sysrst = s.sys.sysrst := by
  unfold State.mainReset
  have hfill (t : State) := (State.fillSlots_touch t).2
  exact ⟨(hfill _ .flash (by decide)).trans rfl, (congrArg Gaf.active (hfill _ .gaffer (by decide))).trans rfl,
    (congrArg Sys.porst (hfill _ .system (by decide))).trans rfl,
    (congrArg Sys.sysrst (hfill _ .system (by decide))).trans rfl⟩

/-- The main die without a feed. -/
abbrev State.darkFrom (t s : State) : Prop :=
  t.sys.stage = .dark ∧ t.feedA.below = true ∧ t.feedB.below = true ∧ t.gaf.active = false ∧
    t.flash = { s.flash with defer := [] }

theorem bothLost_dark (hporst : s.sys.porst = false) (hsysrst : s.sys.sysrst = false) :
    s.bothLost.pins.darkFrom s := by
  obtain ⟨hflash, hgaf, hpor, hsys⟩ := mainReset_keeps s
  unfold State.bothLost
  generalize s.mainReset false = u at hflash hgaf hpor hsys ⊢
  have hheld : (u.sys.porst || u.sys.sysrst) = false := by rw [hpor, hsys, hporst, hsysrst]; rfl
  refine ⟨?_, ?_, ?_, ?_, ?_⟩
  · rw [State.pins_sys]
    exact if_neg (by simp [hheld])
  · rw [State.pins_feedA]
  · rw [State.pins_feedB]
  · rw [State.pins_gaf]
    exact hgaf
  · rw [State.pins_flash]
    exact hflash

end

section
variable {s : State} {dt : Nat} {d : Fin 2}

theorem feedLoss_abandons (rail : Fin 3) (hup : s.sleep.asleep = false) (hgood : (s.feed d.val).below = false)
    (hawake : s.awake = true) (hother : (s.feed (1 - d.val)).below = false)
    (hdom : (s.feed d.val).dom = .returning) :
    ∃ t, exec (.feedLoss dt d rail) s = .next t ∧ (t.feed d.val).dom = .isolated ∧
      t.feed (1 - d.val) = s.feed (1 - d.val) := by
  have hrun : (s.elapse dt).feedLost d.val rail.val = (s.elapse dt).abandon2 d.val :=
    (feedLost_one (s := s.elapse dt) rail.val hup hgood hawake hother).trans (by rw [show
      ((s.elapse dt).feed d.val).dom = .returning from hdom])
  refine ⟨_, congrArg go hrun, ?_, ?_⟩
  · rw [pins_feed, abandon2_feed]
  · exact (pins_feed ..).trans (abandon2_feed_other (s.elapse dt) d.isLt)

theorem feedLoss_lastFeed (rail : Fin 3) (hup : s.sleep.asleep = false) (hgood : (s.feed d.val).below = false)
    (hawake : s.awake = true) (hother : (s.feed (1 - d.val)).below = true) (hporst : s.sys.porst = false)
    (hsysrst : s.sys.sysrst = false) :
    ∃ t, exec (.feedLoss dt d rail) s = .next t ∧ t.darkFrom s :=
  ⟨_, congrArg go (feedLost_both (s := s.elapse dt) rail.val hup hgood hawake hother),
    bothLost_dark (s.elapse dt) hporst hsysrst⟩

theorem bothFeedsLost_resets (hup : s.sleep.asleep = false)
    (hgood : s.feedA.below = false ∨ s.feedB.below = false) (hporst : s.sys.porst = false)
    (hsysrst : s.sys.sysrst = false) : ∃ t, exec (.bothFeedsLost dt) s = .next t ∧ t.darkFrom s := by
  have hnot : ¬(s.sleep.asleep || (s.feedA.below && s.feedB.below)) = true := by
    obtain h | h := hgood <;> simp [hup, h]
  exact ⟨_, congrArg go (if_neg hnot), bothLost_dark (s.elapse dt) hporst hsysrst⟩

theorem bothFeedsLost_idle (h : s.sleep.asleep = true ∨ (s.feedA.below = true ∧ s.feedB.below = true)) :
    ∃ t, exec (.bothFeedsLost dt) s = .next t ∧ t.onlyChanges s [] :=
  exec_idle (dt := dt) (congrArg go (if_pos (by simpa using h)))

/-! ### The return of a domain (R431) -/

/-- A return may start. -/
abbrev State.mayReturn (s : State) (d : Nat) : Prop :=
  s.sleep.asleep = false ∧ (s.feed d).dom = .isolated ∧ Tab.get 0 s.sys.retired (0x56 + d) = 0

theorem returnStart_idle {d : Nat} (h : ¬s.mayReturn d) : s.returnStart d = s := by
  unfold State.returnStart
  refine if_pos ?_
  simp only [Bool.or_eq_true, bne_iff_ne, decide_eq_true_eq]
  by_contra hn
  simp only [not_or, Bool.not_eq_true, Decidable.not_not] at hn
  exact h ⟨hn.1.1, hn.1.2, hn.2⟩

theorem returnStart_may {d : Nat} (h : s.mayReturn d) :
    ¬(s.sleep.asleep || (s.feed d).dom != .isolated || decide (Tab.get 0 s.sys.retired (0x56 + d) ≠ 0)) = true := by
  obtain ⟨hup, hdom, hretired⟩ := h
  simp [hup, hdom, hretired]

/-- The feed of a domain that returns, to issue its first list at a time. -/
def Feed.issueAt (f : Feed) (t : Nat) : Feed := { f with dom := .returning, below := false, issueNet := t }

/-- The voltage request is repeated, the domain's reset is released, its units are loaded. -/
theorem returnStart_awake {d : Nat} {p : Par} (h : s.mayReturn d) (hawake : s.awake = true)
    (hp : s.par.force = some p) :
    ∃ u : State, s.returnStart d = (u.canReturn d).measReturn d (u.now - (s.feed d).lostAt) ∧
      u = (if (s.feed d).vreq = 800 then s else s.send (.pmbus d (s.feed d).vreq)).setFeed d
        ((s.feed d).issueAt (if s.gaf.active then ceilMul (s.net + 1000000) p.round else s.net)) := by
  refine ⟨_, ?_, rfl⟩
  unfold State.returnStart
  refine (if_neg (returnStart_may h)).trans ((if_neg (by simp [hawake])).trans ?_)
  split
  · dsimp only
    rw [hp]
    rfl
  · dsimp only
    rw [show (s.send (.pmbus d (s.feed d).vreq)).par.force = some p from hp]
    rfl

theorem returnStart_unpowered {d : Nat} (h : s.mayReturn d) (hawake : s.awake = false) (hdark : s.sys.stage ≠ .dark) :
    s.returnStart d = s.setFeed d { s.feed d with dom := .present, below := false } := by
  have hstage : (s.setFeed d { s.feed d with dom := .present, below := false }).sys = s.sys :=
    (State.setFeed_touch ..).2 .system (by decide)
  refine (if_neg (returnStart_may h)).trans ((if_pos (by simp [hawake])).trans (if_neg ?_))
  rw [hstage]
  simpa using hdark

theorem feedReturnStart_awake {p : Par} (hp : s.par.force = some p) (h : s.mayReturn d.val)
    (hawake : s.awake = true) :
    ∃ t, exec (.feedReturnStart dt d) s = .next t ∧
      t.feed d.val = { s.feed d.val with
        dom := .returning, below := false
        issueNet := if s.gaf.active then ceilMul ((s.elapse dt).net + 1000000) p.round else (s.elapse dt).net } ∧
      t.feed (1 - d.val) = s.feed (1 - d.val) ∧ t.sys.stage = s.sys.stage := by
  obtain ⟨u, hrun, hu⟩ := returnStart_awake (s := s.elapse dt) (d := d.val) h hawake hp
  have hlast : ((u.canReturn d.val).measReturn d.val (u.now - ((s.elapse dt).feed d.val).lostAt)).onlyChanges u
      [.can, .sleep, .interrupts, .tallies, .daybook, .outputs, .flash, .measure] :=
    only_step (only_sub (State.canReturn_touch ..) (by decide)) (State.measReturn_touch ..) (by decide)
  have hfeed (i : Nat) := (pins_feed _ i).trans (only_feed hlast (by decide) i)
  have hsend : (if ((s.elapse dt).feed d.val).vreq = 800 then s.elapse dt
      else (s.elapse dt).send (.pmbus d.val ((s.elapse dt).feed d.val).vreq)).onlyChanges (s.elapse dt) [.outputs] :=
    only_ite (only_refl ..) (State.send_touch ..)
  refine ⟨_, congrArg go hrun, ?_, ?_, ?_⟩
  · rw [hfeed, hu, feed_setFeed_self]
    rfl
  · rw [hfeed, hu, feed_setFeed_other _ _ d.isLt]
    exact only_feed hsend (by decide) _
  · rw [State.pins_sys, hlast.2 .system (by decide), hu, (State.setFeed_touch ..).2 .system (by decide),
      hsend.2 .system (by decide)]
    rfl

theorem feedReturnStart_unpowered (h : s.mayReturn d.val) (hawake : s.awake = false) (hdark : s.sys.stage ≠ .dark) :
    ∃ t, exec (.feedReturnStart dt d) s = .next t ∧
      t.feed d.val = { s.feed d.val with dom := .present, below := false } ∧ t.onlyChanges s [.feeds] :=
  ⟨_, congrArg go (returnStart_unpowered (s := s.elapse dt) h hawake hdark),
    (pins_feed ..).trans (feed_setFeed_self ..), go_only (dt := dt) (State.setFeed_touch ..)⟩

theorem returnAbandon_returning (h : (s.feed d.val).dom = .returning) :
    ∃ t, exec (.returnAbandon dt d) s = .next t ∧
      t.feed d.val = { s.feed d.val with dom := .isolated, below := true, warn := false, sim := [] } ∧
      t.feed (1 - d.val) = s.feed (1 - d.val) :=
  ⟨_, congrArg go (if_pos (by simp [show ((s.elapse dt).feed d.val).dom = .returning from h])),
    (pins_feed ..).trans (abandon2_feed ..), (pins_feed ..).trans (abandon2_feed_other (s.elapse dt) d.isLt)⟩

theorem returnAbandon_idle (h : (s.feed d.val).dom ≠ .returning) :
    ∃ t, exec (.returnAbandon dt d) s = .next t ∧ t.onlyChanges s [] :=
  exec_idle (dt := dt) (congrArg go (if_neg
    (by simpa using (show ((s.elapse dt).feed d.val).dom ≠ .returning from h))))

/-- What a returned domain issues and what rejoins. -/
theorem returned_steps (s : State) (d : Nat) : ∃ u : State, (s.returned d).onlyChanges u
      (.trackers :: .ports :: .inaug :: .triad :: eventParts) ∧
    u.feed d = { s.feed d with dom := .present } ∧ (d < 2 → u.feed (1 - d) = s.feed (1 - d)) ∧
    Tab.get 0 u.gaf.paceFrom d = if s.paceRuns then s.nextPaceRound else 0 := by
  let v := s.setFeed d { s.feed d with dom := .present }
  refine ⟨{ v with gaf := { v.gaf with
    paceFrom := Tab.set 0 v.gaf.paceFrom d (if s.paceRuns then s.nextPaceRound else 0) } }, ?_, ?_, fun hd => ?_, ?_⟩
  · unfold State.returned
    refine only_trans (only_trans ?_ (note_only _ _ _ _ (by decide))) (note_only _ _ _ _ (by decide))
    exact only_step (only_step (only_step (only_sub (State.trackerBack_touch ..) (by decide))
      (State.trackerBack_touch ..) (by decide)) (State.triadReturn_touch _) (by decide)) (State.insertion_touch _)
      (by decide)
  · exact feed_setFeed_self s _
  · exact feed_setFeed_other s _ hd
  · exact Tab.get_set_self ..

theorem feedReturn_returns (h : (s.feed d.val).dom = .returning)
    (htime : (s.feed d.val).issueNet ≤ (s.elapse dt).net + 2) :
    ∃ t, exec (.feedReturn dt d) s = .next t ∧
      t.feed d.val = { s.feed d.val with dom := .present } ∧ t.feed (1 - d.val) = s.feed (1 - d.val) ∧
      Tab.get 0 t.gaf.paceFrom d.val = (if (s.elapse dt).paceRuns then (s.elapse dt).nextPaceRound else 0) := by
  obtain ⟨u, honly, hself, hother, hpace⟩ := returned_steps (s.elapse dt) d.val
  have hfeed (i : Nat) := (pins_feed _ i).trans (only_feed honly (by decide) i)
  refine ⟨_, congrArg go (if_pos ?_), (hfeed _).trans hself, (hfeed _).trans (hother d.isLt), ?_⟩
  · simp [show ((s.elapse dt).feed d.val).dom = .returning from h]
    exact htime
  · rw [State.pins_gaf, honly.2 .gaffer (by decide)]
    exact hpace

theorem feedReturn_idle (h : (s.feed d.val).dom ≠ .returning ∨ (s.elapse dt).net + 2 < (s.feed d.val).issueNet) :
    ∃ t, exec (.feedReturn dt d) s = .next t ∧ t.onlyChanges s [] := by
  refine exec_idle (dt := dt) (congrArg go (if_neg ?_))
  show ¬((s.feed d.val).dom == .returning && decide ((s.feed d.val).issueNet ≤ (s.elapse dt).net + 2)) = true
  obtain h | h := h
  · simp [h]
  · simp only [Bool.and_eq_true, decide_eq_true_eq, not_and]
    omega

end

/-! ### The spine list passes to the survivor (R427) -/

/-- The counting of missed actions keeps who issues the lists, and what is awaited. -/
theorem spineCount_keeps (s : State) :
    s.spineCount.gaf.spineT.gaf = s.gaf.spineT.gaf ∧ s.spineCount.gaf.spineP.gaf = s.gaf.spineP.gaf := by
  unfold State.spineCount
  split
  · exact ⟨rfl, rfl⟩
  · refine ⟨?_, ?_⟩
    · show (if _ then _ else _ : SpineHold).gaf = _
      split <;> rfl
    · show (if _ then _ else _ : SpineHold).gaf = _
      split <;> rfl

theorem noteHandover_only (s : State) (st t : Nat) (h : SpineHold) :
    (s.noteHandover st t h).onlyChanges s eventParts := State.noteHandover_touch s st t h

section
variable {s : State} {b : Nat}

theorem takeTime_idle (h : ∀ b, s.gaf.spineT.wait = some b → s.net + 2 < b) : s.takeTime = s := by
  unfold State.takeTime
  split
  · rfl
  next c hc => exact if_pos (by simp [h c hc])

theorem takeTime_takes (hwait : s.gaf.spineT.wait = some b) (hb : b ≤ s.net + 2)
    (hlive : s.live s.gaf.spineT.gaf = true) :
    s.takeTime.gaf.spineT.wait = none ∧ s.takeTime.gaf.spineT.gaf = s.gaf.spineT.gaf ∧
      s.takeTime.gaf.spineP.gaf = s.gaf.spineP.gaf ∧ s.takeTime.onlyChanges s (.gaffer :: eventParts) := by
  obtain ⟨htime, hpace⟩ := spineCount_keeps s
  have hcount : s.spineCount.onlyChanges s (.gaffer :: eventParts) := only_sub (State.spineCount_touch s) (by decide)
  have hdone : ¬(decide (s.net + 2 < b) || !s.live s.gaf.spineT.gaf) = true := by simp [hlive, hb]
  have hrun (c : Nat) (hc : s.gaf.spineT.wait = some c) : c = b := Option.some.inj (hc.symm.trans hwait)
  unfold State.takeTime
  split
  next hc => exact absurd (hc.symm.trans hwait) nofun
  next c hc =>
    obtain rfl := hrun c hc
    rw [if_neg hdone]
    generalize s.spineCount = u at htime hpace hcount ⊢
    dsimp only
    refine ⟨by rw [(noteHandover_only ..).2 .gaffer (by decide)],
      by rw [(noteHandover_only ..).2 .gaffer (by decide)]; exact htime, ?_,
      only_step (only_set_gaf _ hcount (by decide)) (noteHandover_only ..) (by decide)⟩
    rw [(noteHandover_only ..).2 .gaffer (by decide)]
    show (if _ then _ else _ : SpineHold).gaf = _
    split
    · exact hpace
    · exact hpace

theorem takePace_idle (h : s.gaf.spineP.wait = none ∨ s.gaf.spineP.wait = some 0) : s.takePace = s := by
  unfold State.takePace
  split
  · rfl
  next c hc =>
    obtain rfl : c = 0 := by simpa [hc] using h
    exact if_pos (by simp)

theorem takePace_takes (hwait : s.gaf.spineP.wait = some b) (hzero : b ≠ 0) (hb : b ≤ s.paceAt + 2 ^ 32)
    (hlive : s.live s.gaf.spineP.gaf = true) :
    s.takePace.gaf.spineP.wait = none ∧ s.takePace.gaf.spineP.gaf = s.gaf.spineP.gaf ∧
      s.takePace.gaf.spineT.gaf = s.gaf.spineT.gaf ∧ s.takePace.onlyChanges s (.gaffer :: eventParts) := by
  obtain ⟨htime, hpace⟩ := spineCount_keeps s
  have hcount : s.spineCount.onlyChanges s (.gaffer :: eventParts) := only_sub (State.spineCount_touch s) (by decide)
  have hdone : ¬(decide (b = 0) || decide (s.paceAt + 2 ^ 32 < b) || !s.live s.gaf.spineP.gaf) = true := by
    simp [hlive, hzero]
    exact hb
  unfold State.takePace
  split
  next hc => exact absurd (hc.symm.trans hwait) nofun
  next c hc =>
    obtain rfl : c = b := Option.some.inj (hc.symm.trans hwait)
    rw [if_neg hdone]
    generalize s.spineCount = u at htime hpace hcount ⊢
    dsimp only
    exact ⟨by rw [(noteHandover_only ..).2 .gaffer (by decide)],
      by rw [(noteHandover_only ..).2 .gaffer (by decide)]; exact hpace,
      by rw [(noteHandover_only ..).2 .gaffer (by decide)]; exact htime,
      only_step (only_set_gaf _ hcount (by decide)) (noteHandover_only ..) (by decide)⟩

end

/-! ### A worn gaffer hands its lists over (R441) -/

theorem isolate_gafRetire (s : State) (d rail : Nat) : (s.isolate d rail).lehr.gafRetire = s.lehr.gafRetire := by
  obtain ⟨mask, held, hsteps⟩ := isolate_steps s d rail
  have hunits : (((s.domainOff d).portsOff d).unitsOff d).lehr = s.lehr :=
    ((unitsOff_only _ d).2 .lehr (by decide)).trans (((portsOff_only _ d).2 .lehr (by decide)).trans
      (((State.setFeed_touch ..).2 .lehr (by decide)).trans ((State.gafferGone_touch s d).2 .lehr (by decide))))
  rw [hsteps]
  generalize ((s.domainOff d).portsOff d).unitsOff d = u at hunits ⊢
  rw [(lossEnd_only ..).2 .lehr (by decide), ← hunits]
  unfold State.pendOff
  show (if _ then _ else _ : Lehr).gafRetire = _
  split <;> rfl

theorem wornOut_off {s : State} {g : Nat} (h : ¬(s.gaf.spineT.gaf = g ∨ s.gaf.spineP.gaf = g)) :
    (s.wornOut g).lehr.gafRetire = none ∧ ((s.wornOut g).feed g).dom = .isolated ∧
      (s.wornOut g).gaf.spineT.gaf = s.gaf.spineT.gaf := by
  have hrun : s.wornOut g = ({ s with lehr := { s.lehr with gafRetire := none } } : State).isolate g 0xFF :=
    if_neg (by simpa using fun _ => not_or.mp h)
  rw [hrun]
  generalize hu : ({ s with lehr := { s.lehr with gafRetire := none } } : State) = u
  have hgaf : u.gaf = s.gaf := by rw [← hu]
  refine ⟨by rw [isolate_gafRetire, ← hu], by rw [isolate_feed]; rfl, ?_⟩
  rw [isolate_gaf, gafferGone_spine_kept u g (by rw [hgaf]; exact fun hg => h (.inl hg)), hgaf]

theorem wornOut_spine {s : State} {g : Nat} (h : s.gaf.spineT.gaf ≠ g) :
    (s.wornOut g).gaf.spineT.gaf = s.gaf.spineT.gaf := by
  by_cases hp : s.gaf.active = true ∧ s.gaf.spineP.gaf = g
  · exact congrArg (fun t : State => t.gaf.spineT.gaf) (if_pos (by simp [hp.1, hp.2]))
  · have hrun : s.wornOut g = ({ s with lehr := { s.lehr with gafRetire := none } } : State).isolate g 0xFF := by
      refine if_neg ?_
      simpa [h] using hp
    rw [hrun, isolate_gaf]
    exact gafferGone_spine_kept _ g h

/-- A worn gaffer that issues no list any more leaves with its domain. -/
theorem wornHandover_time {s : State} {g : Nat} (hg : g < 2) (hspine : s.gaf.spineT.gaf = g)
    (hb : s.gaf.spineT.missed ≤ s.net + 2) :
    ∃ u : State, s.wornHandover g .time = u.wornOut g ∧ u.gaf.spineT.gaf = 1 - g ∧
      (s.gaf.spineP.gaf ≠ g ∨ s.paceRuns = false → u.gaf.spineP.gaf ≠ g) := by
  have hdue : ¬((s.gaf.spineT.gaf ≠ g) || decide (s.net + 2 < s.gaf.spineT.missed)) = true := by
    simp [hspine, hb]
  unfold State.wornHandover
  refine ⟨_, congrArg (State.wornOut · g) (if_neg hdue), ?_, fun h => ?_⟩
  · rw [(noteHandover_only ..).2 .gaffer (by decide)]
  · rw [(noteHandover_only ..).2 .gaffer (by decide)]
    show (if _ then _ else _ : SpineHold).gaf ≠ g
    by_cases hp : s.gaf.spineP.gaf = g
    · have hstill : s.paceRuns = false := h.resolve_left (not_not.mpr hp)
      rw [if_neg (not_not.mpr hp), if_neg (by simp [hstill])]
      show 1 - g ≠ g
      omega
    · rw [if_pos hp]
      exact hp

theorem wornHandover_early {s : State} {g : Nat} (hactive : s.gaf.active = true) (hspine : s.gaf.spineT.gaf = g)
    (hb : s.net + 2 < s.gaf.spineT.missed) : s.wornHandover g .time = s := by
  unfold State.wornHandover
  dsimp only
  rw [if_pos (by simp [hb])]
  exact if_pos (by simp [hactive, hspine])

/-- A worn gaffer that has no other one runs on. -/
def State.gafferStays (s : State) (g : Nat) : State :=
  { s with
    lehr := { s.lehr with gafRetire := none, unitState := Tab.set 0 s.lehr.unitState (0x56 + g) 2 }
    sys := { s.sys with retired := Tab.set 0 s.sys.retired (0x56 + g) 0 } }

theorem gafferStays_only (s : State) (g : Nat) : (s.gafferStays g).onlyChanges s [.lehr, .system] := by
  let u : State := { s with sys := { s.sys with retired := Tab.set 0 s.sys.retired (0x56 + g) 0 } }
  have hu : u.onlyChanges s [.lehr, .system] := only_set_sys _ (only_refl s _) (by decide)
  exact only_set_lehr _ hu (by decide)

section
variable {s : State} {dt : Nat} {g : Fin 2}

theorem gafferRetireHandover_none (st : Strand) (h : s.lehr.gafRetire = none) :
    ∃ t, exec (.gafferRetireHandover dt st) s = .next t ∧ t.onlyChanges s [] := by
  refine exec_idle (dt := dt) ?_
  show execGafferRetireHandover dt st s = _
  unfold execGafferRetireHandover
  dsimp only
  rw [show (s.elapse dt).lehr.gafRetire = none from h]

variable (h : s.lehr.gafRetire = some g.val)
include h

theorem gafferRetireHandover_runs (st : Strand) : exec (.gafferRetireHandover dt st) s =
    go (if s.live (1 - g.val) then (s.elapse dt).wornHandover g.val st
      else (s.elapse dt).gafferStays g.val) := by
  show execGafferRetireHandover dt st s = _
  unfold execGafferRetireHandover
  dsimp only
  rw [show (s.elapse dt).lehr.gafRetire = some g.val from h]
  rfl

theorem gafferRetireHandover_alone (st : Strand) (hother : s.live (1 - g.val) = false) :
    ∃ t, exec (.gafferRetireHandover dt st) s = .next t ∧ t.lehr.gafRetire = none ∧
      Tab.get 0 t.lehr.unitState (0x56 + g.val) = 2 ∧ Tab.get 0 t.sys.retired (0x56 + g.val) = 0 ∧
      t.onlyChanges s [.lehr, .system] := by
  refine ⟨_, (gafferRetireHandover_runs h st).trans (congrArg go (if_neg (by simp [hother]))), ?_, ?_, ?_, ?_⟩
  · rw [State.pins_lehr]
    rfl
  · rw [State.pins_lehr]
    exact Tab.get_set_self 0 s.lehr.unitState (0x56 + g.val) 2
  · rw [State.pins_sys]
    exact Tab.get_set_self 0 s.sys.retired (0x56 + g.val) 0
  · exact go_only (dt := dt) (gafferStays_only ..)

variable (hother : s.live (1 - g.val) = true) (hspine : s.gaf.spineT.gaf = g.val)
include hother hspine

theorem gafferRetireHandover_due (hb : s.gaf.spineT.missed ≤ (s.elapse dt).net + 2) :
    ∃ t, exec (.gafferRetireHandover dt .time) s = .next t ∧ t.gaf.spineT.gaf = 1 - g.val ∧
      (s.gaf.spineP.gaf ≠ g.val ∨ s.paceRuns = false → t.lehr.gafRetire = none ∧
        (t.feed g.val).dom = .isolated) := by
  obtain ⟨u, hrun, htime, hpace⟩ := wornHandover_time (s := s.elapse dt) g.isLt hspine hb
  have hne : u.gaf.spineT.gaf ≠ g.val := by rw [htime]; omega
  refine ⟨_, (gafferRetireHandover_runs h .time).trans (congrArg go ((if_pos hother).trans hrun)), ?_, fun hq => ?_⟩
  · rw [State.pins_gaf, wornOut_spine hne, htime]
  · obtain ⟨hretire, hdom, -⟩ := wornOut_off (s := u) (g := g.val) (not_or.mpr ⟨hne, hpace hq⟩)
    exact ⟨by rw [State.pins_lehr]; exact hretire, by rw [pins_feed]; exact hdom⟩

theorem gafferRetireHandover_early (hactive : s.gaf.active = true)
    (hb : (s.elapse dt).net + 2 < s.gaf.spineT.missed) :
    ∃ t, exec (.gafferRetireHandover dt .time) s = .next t ∧ t.onlyChanges s [] := by
  have hwait : (s.elapse dt).wornHandover g.val .time = s.elapse dt :=
    wornHandover_early (s := s.elapse dt) hactive hspine hb
  exact exec_idle (dt := dt) ((gafferRetireHandover_runs h .time).trans (congrArg go ((if_pos hother).trans hwait)))

end

end Sys2Proof.Machine

/-! SUPPORT. Chapter 13, feeds and domains, continued: memory errors (R433 to R435). -/

namespace Sys2Proof.Machine

/-- The state in which the entry of the ledger at an address is bad. -/
def State.ledgerBad (s : State) (n : Nat) : State :=
  if s.fab.ledger.bad.contains n then s
  else { s with fab := { s.fab with ledger := { s.fab.ledger with bad := s.fab.ledger.bad ++ [n] } } }

theorem ledgerBad_mem (s : State) (n : Nat) : n ∈ (s.ledgerBad n).fab.ledger.bad := by
  unfold State.ledgerBad
  by_cases hbad : n ∈ s.fab.ledger.bad
  · rw [if_pos (by simp [hbad])]
    exact hbad
  · rw [if_neg (by simp [hbad])]
    exact List.mem_append_right _ (List.mem_singleton_self _)

theorem ledgerBad_tly (s : State) (n : Nat) : (s.ledgerBad n).tly = s.tly := by
  unfold State.ledgerBad
  split <;> rfl

/-! ### What an uncorrectable error leaves of the feeds' tallies -/

section
variable (s : State) {k : Nat} (hk : FeedKey k)
include hk

theorem dropFrame_feedKey (id : Nat) : (s.dropFrame id).tallyAt k = s.tallyAt k := by
  unfold State.dropFrame
  extract_lets u
  show u.tallyAt k = s.tallyAt k
  refine List.foldlRecOn (motive := fun x : State => x.tallyAt k = s.tallyAt k) _ _ rfl fun x hx p hp => ?_
  have hp : p < 25 := List.mem_range.mp hp
  exact (countN_beside _ hk.beside _ (elsewhere_port (by omega) (by decide))).trans (ite_tallyAt hx hx)

theorem packetError_feedKey : s.packetError.tallyAt k = s.tallyAt k := by
  unfold State.packetError
  extract_lets r n
  split
  · exact (dropFrame_feedKey _ hk _).trans rfl
  · rfl

theorem keyFail_feedKey {l : Nat} (hl : l < 25) (cause : Nat) : (s.keyFail l cause).tallyAt k = s.tallyAt k := by
  have hkey : Elsewhere (tlKey l mKeyFail) := by
    simp only [Elsewhere, tlKey, mKeyFail, Machine.tly]
    split <;> omega
  unfold State.keyFail
  exact (note_beside _ hk.beside ..).trans ((count_beside _ hk.beside hkey).trans rfl)

theorem vaultFall_feedKey : s.vaultFall.tallyAt k = s.tallyAt k := by
  unfold State.vaultFall
  extract_lets _ u
  have hu : u.tallyAt k = s.tallyAt k := rfl
  refine List.foldlRecOn (motive := fun x : State => x.tallyAt k = s.tallyAt k) _ _ hu fun x hx l hl => ?_
  exact ite_tallyAt ((keyFail_feedKey x hk (List.mem_range.mp hl) 6).trans hx) hx

theorem epochDrop_feedKey {i : Nat} (hi : i < 10) : (s.epochDrop i).tallyAt k = s.tallyAt k :=
  (count_tally _ _ 1 k (hk.ne_twin hi)).trans rfl

theorem memEffect_feedKey (m addr : Nat) : (s.memEffect m addr).tallyAt k = s.tallyAt k := by
  unfold State.memEffect
  refine ite_tallyAt (packetError_feedKey s hk) (ite_tallyAt (ite_tallyAt rfl rfl) (ite_tallyAt ?_
    (ite_tallyAt rfl (ite_tallyAt (ite_tallyAt (only_tallyAt (State.tellerFall_touch ..) (by decide) k) rfl)
      (ite_tallyAt (vaultFall_feedKey s hk) (ite_tallyAt (only_tallyAt (State.canRamError_touch ..) (by decide) k)
        (ite_tallyAt ((epochDrop_feedKey _ hk (by decide)).trans rfl) rfl)))))))
  extract_lets n l _ t
  clear_value n
  have ht : t.tallyAt k = s.tallyAt k := ite_tallyAt rfl rfl
  exact (note_beside _ hk.beside ..).trans ((count_beside t hk.beside (by decide)).trans ht)

end

/-! ### What it does, by memory (R435) -/

section
variable (s : State) (addr : Nat)

theorem memEffect_port (h : (s.port (addr / 2048 % 4096)).isSome = true) :
    addr / 2048 % 4096 ∈ (s.memEffect 1 addr).pd.bad := by
  unfold State.memEffect
  rw [if_neg (by decide), if_pos rfl]
  dsimp only
  by_cases hbad : addr / 2048 % 4096 ∈ s.pd.bad
  · rw [if_neg (by simp [hbad])]
    exact hbad
  · rw [if_pos (by simp [h, hbad])]
    exact List.mem_append_right _ (List.mem_singleton_self _)

theorem memEffect_ledger : ∃ args, s.memEffect 2 addr =
    ((s.ledgerBad (addr % 16384)).count (tlFab 3)).note (ev 4 0) args := ⟨_, rfl⟩

theorem memEffect_teller (h : s.tellerUp = true) :
    (s.memEffect 9 addr).sys.stage = .restart ∧ (s.memEffect 9 addr).hif.ready = false := by
  have hrun : s.memEffect 9 addr = s.tellerFall .restart := if_pos h
  rw [hrun]
  exact ⟨rfl, rfl⟩

theorem memEffect_vault : s.memEffect 10 addr = s.vaultFall := by
  simp only [State.memEffect]
  rfl

theorem keyFail_vault (l cause : Nat) : (s.keyFail l cause).sec.restarting = s.sec.restarting ∧
    (s.keyFail l cause).sec.ops = s.sec.ops ∧ (s.keyFail l cause).sec.stagedW = s.sec.stagedW := by
  unfold State.keyFail
  extract_lets x wait u v
  have hsec : ((v.count (tlKey l mKeyFail)).note (ev 15 6) (le 1 l ++ le 1 cause ++ macBytes x.peer)).sec = v.sec := by
    simp
  rw [hsec]
  exact ⟨rfl, rfl, rfl⟩

theorem vaultFall_drops : s.vaultFall.sec.restarting = true ∧ s.vaultFall.sec.ops = [] ∧
    s.vaultFall.sec.stagedW = [] := by
  unfold State.vaultFall
  extract_lets _ u
  refine List.foldlRecOn (motive := fun x : State => x.sec.restarting = true ∧ x.sec.ops = [] ∧ x.sec.stagedW = [])
    _ _ ⟨rfl, rfl, rfl⟩ fun x hx l _ => ?_
  split
  · obtain ⟨hr, ho, hw⟩ := keyFail_vault x l 6
    rw [hr, ho, hw]
    exact hx
  · exact hx

theorem memEffect_epoch (h : s.quiet = true) : (s.memEffect 19 addr).twin.epoch = none := by
  show (if s.quiet then none else s.twin.epoch) = none
  exact if_pos h

end

/-! ### SCRUB_PASS and MEM_UNCORR -/

/-- An error that is counted and reported. -/
def State.memNoted (s : State) (m addr reader : Nat) : State :=
  (s.count (tlFeed (8 + 2 * m))).note (ev 13 4) (le 1 (0x60 + m) ++ le 4 addr ++ le 1 reader)

/-- A memory that runs: the die is awake, the memory's domain answers. -/
abbrev State.memHere (s : State) (m : Nat) : Prop := s.awake = true ∧ s.hasDom (memDomain m) = true

section
variable {s : State} {m : Nat} (addr reader : Nat)

theorem memError_idle (h : ¬s.memHere m) : s.memError m addr reader = s := by
  unfold State.memError
  refine if_pos ?_
  cases hawake : s.awake
  · simp
  · simpa [hawake] using h

theorem memError_here (h : s.memHere m) : s.memError m addr reader = (s.memNoted m addr reader).memEffect m addr :=
  if_neg (by simp [h.1, h.2])

theorem memNoted_only : (s.memNoted m addr reader).onlyChanges s eventParts :=
  only_trans (only_sub (State.count_touch ..) (by decide)) (note_only _ _ _ _ (by decide))

theorem memNoted_tally (hm : m < 20) : (s.memNoted m addr reader).tallyAt (tlFeed (8 + 2 * m)) =
    min tlyMax (s.tallyAt (tlFeed (8 + 2 * m)) + 1) :=
  (note_beside _ (feedKey_of (by omega) (by omega) (by omega) (by omega)).beside ..).trans (count_self s _)

theorem memError_tally (hm : m < 20) (h : s.memHere m) : (s.memError m addr reader).tallyAt (tlFeed (8 + 2 * m)) =
    min tlyMax (s.tallyAt (tlFeed (8 + 2 * m)) + 1) := by
  rw [memError_here addr reader h]
  exact (memEffect_feedKey _ (feedKey_of (by omega) (by omega) (by omega) (by omega)) m addr).trans
    (memNoted_tally addr reader hm)

end

section
variable {s : State} {dt : Nat} {m : Fin 20} (a : Nat)

theorem scrubPass_corrected {n : Nat} (h : s.memHere m.val) (h1 : 1 ≤ n) (h2 : n ≤ 2) :
    ∃ t, exec (.scrubPass dt m a n) s = .next t ∧
      t.tallyAt (tlFeed (7 + 2 * m.val)) = min tlyMax (s.tallyAt (tlFeed (7 + 2 * m.val)) + 1) ∧
      t.onlyChanges s [.tallies] := by
  have hgo : ¬(decide (n = 0) || !(s.elapse dt).awake || !(s.elapse dt).hasDom (memDomain m.val)) = true := by
    simp [show (s.elapse dt).awake = true from h.1, show (s.elapse dt).hasDom (memDomain m.val) = true from h.2]
    omega
  refine ⟨_, congrArg go ((if_neg hgo).trans (if_pos h2)), ?_, go_only (dt := dt) (State.count_touch ..)⟩
  show Tab.get 0 (State.pins _).tly.live _ = _
  rw [State.pins_tly]
  exact count_self (s.elapse dt) _

theorem scrubPass_bad {n : Nat} (h : s.memHere m.val) (h2 : 2 < n) :
    ∃ t, exec (.scrubPass dt m a n) s = .next t ∧
      t.tallyAt (tlFeed (8 + 2 * m.val)) = min tlyMax (s.tallyAt (tlFeed (8 + 2 * m.val)) + 1) := by
  have hgo : ¬(decide (n = 0) || !(s.elapse dt).awake || !(s.elapse dt).hasDom (memDomain m.val)) = true := by
    simp [show (s.elapse dt).awake = true from h.1, show (s.elapse dt).hasDom (memDomain m.val) = true from h.2]
    omega
  refine ⟨_, congrArg go ((if_neg hgo).trans (if_neg (by omega))), ?_⟩
  show Tab.get 0 (State.pins _).tly.live _ = _
  rw [State.pins_tly]
  exact memError_tally (s := s.elapse dt) a 0xFF m.isLt h

theorem scrubPass_idle {n : Nat} (h : n = 0 ∨ ¬s.memHere m.val) :
    ∃ t, exec (.scrubPass dt m a n) s = .next t ∧ t.onlyChanges s [] := by
  refine exec_idle (dt := dt) (congrArg go (if_pos ?_))
  show (decide (n = 0) || !s.awake || !s.hasDom (memDomain m.val)) = true
  obtain h | h := h
  · simp [h]
  · cases hawake : s.awake
    · simp
    · simpa [hawake] using .inr (Bool.eq_false_iff.mpr fun hd => h ⟨hawake, hd⟩)

theorem memUncorr_idle (r : Byte) (h : ¬s.memHere m.val) :
    ∃ t, exec (.memUncorr dt m a r) s = .next t ∧ t.onlyChanges s [] :=
  exec_idle (dt := dt) (congrArg go (memError_idle (s := s.elapse dt) a r.toNat h))

/-- An uncorrectable error, by memory. -/
theorem memUncorr_here (r : Byte) (h : s.memHere m.val) : ∃ t, exec (.memUncorr dt m a r) s = .next t ∧
    t.tallyAt (tlFeed (8 + 2 * m.val)) = min tlyMax (s.tallyAt (tlFeed (8 + 2 * m.val)) + 1) ∧
    (m.val = 1 → (s.port (a / 2048 % 4096)).isSome = true → (a / 2048 % 4096) ∈ t.pd.bad) ∧
    (m.val = 2 → a % 16384 ∈ t.fab.ledger.bad ∧
      t.tallyAt (tlFab 3) = min tlyMax (s.tallyAt (tlFab 3) + 1)) ∧
    (m.val = 9 → s.tellerUp = true → t.sys.stage = .restart ∧ t.hif.ready = false) ∧
    (m.val = 10 → t.sec.restarting = true ∧ t.sec.ops = [] ∧ t.sec.stagedW = []) ∧
    (m.val = 19 → s.quiet = true → t.twin.epoch = none) := by
  have honly : ((s.elapse dt).memNoted m.val a r.toNat).onlyChanges (s.elapse dt) eventParts := memNoted_only ..
  have htally := (memEffect_feedKey ((s.elapse dt).memNoted m.val a r.toNat)
    (feedKey_of (i := 8 + 2 * m.val) (by omega) (by omega) (by omega) (by omega)) m.val a).trans
      (memNoted_tally (s := s.elapse dt) a r.toNat m.isLt)
  have hfab : m.val = 2 → ((s.elapse dt).memNoted m.val a r.toNat).tallyAt (tlFab 3) = s.tallyAt (tlFab 3) :=
    fun hm => by
      rw [hm]
      exact (note_tally _ _ _ _ (by decide) (by decide)).trans (count_tally _ _ 1 _ (by decide))
  refine ⟨_, congrArg go (memError_here (s := s.elapse dt) a r.toNat h), ?_⟩
  generalize (s.elapse dt).memNoted m.val a r.toNat = u at honly htally hfab ⊢
  generalize m.val = i at htally hfab ⊢
  have htly (k : Nat) : ((u.memEffect i a).pins).tallyAt k = (u.memEffect i a).tallyAt k := by
    rw [State.tallyAt, State.pins_tly]
  refine ⟨(htly _).trans htally, ?_, ?_, ?_, ?_, ?_⟩
  · rintro rfl hport
    have hkept : u.port (a / 2048 % 4096) = s.port (a / 2048 % 4096) := by
      rw [State.port, honly.2 .store (by decide)]
      rfl
    rw [State.pins_pd]
    exact memEffect_port u a (by rw [hkept]; exact hport)
  · rintro rfl
    obtain ⟨args, hrun⟩ := memEffect_ledger u a
    refine ⟨?_, (htly _).trans ?_⟩
    · rw [State.pins_fab, hrun, State.note_fab]
      exact ledgerBad_mem u _
    · rw [hrun]
      refine (note_tally _ _ _ _ (by decide) (by decide)).trans ((count_self _ _).trans ?_)
      rw [State.tallyAt, ledgerBad_tly]
      exact congrArg (min tlyMax <| · + 1) (hfab rfl)
  · rintro rfl hup
    have hteller : u.tellerUp = true := by
      rw [State.tellerUp, honly.2 .system (by decide)]
      exact hup
    obtain ⟨hstage, hready⟩ := memEffect_teller u a hteller
    rw [State.pins_sys, pins_hif]
    exact ⟨hstage, hready⟩
  · rintro rfl
    rw [State.pins_sec, memEffect_vault]
    exact vaultFall_drops u
  · rintro rfl hquiet
    have hrole : u.twin.role = s.twin.role := (congrArg Twin.role (honly.2 .twin (by decide)) :)
    rw [pins_twin]
    exact memEffect_epoch u a (by rw [State.quiet, hrole]; exact hquiet)

end

/-! ### O52 -/

/-- Settles O52: warnings, loss and return of a domain each by the branches of their own functions; what the
units of a lost domain do leaves the feeds, the gaffers' lists and the loss's own tally alone. -/
theorem domainsFailAndReturn : Obligations.DomainsFailAndReturn := by
  unfold Obligations.DomainsFailAndReturn
  refine ⟨fun s dt d rail mv => ?_, fun s dt d rail => ?_, fun s dt d p hp => ?_, fun s dt d => ?_,
    fun s dt b => ?_, fun s dt st g => ?_, fun s dt m a n r => ?_⟩
  · exact ⟨feedWarn_there d rail mv,
      fun h => exec_idle (dt := dt) (congrArg go (feedWarning_idle (s := s.elapse dt) h)),
      feedWarnEnd_ends, fun h => exec_idle (dt := dt) (congrArg go (if_neg (Bool.eq_false_iff.mp h)))⟩
  · refine ⟨fun ⟨hup, hgood, hawake⟩ => feedLoss_isolates d rail hup hgood hawake,
      fun ⟨hup, hgood, hawake⟩ => feedLoss_abandons rail hup hgood hawake,
      fun ⟨hup, hgood, hawake⟩ => feedLoss_lastFeed rail hup hgood hawake,
      fun h => exec_idle (dt := dt) (congrArg go (feedLost_idle (s := s.elapse dt) rail.val h)),
      bothFeedsLost_resets, bothFeedsLost_idle⟩
  · exact ⟨feedReturnStart_awake hp, feedReturnStart_unpowered,
      fun h => exec_idle (dt := dt) (congrArg go (returnStart_idle (s := s.elapse dt) h))⟩
  · exact ⟨returnAbandon_returning, returnAbandon_idle, feedReturn_returns, feedReturn_idle⟩
  · refine ⟨fun hwait hb hlive => ?_, fun hwait hb => ?_, fun hwait => ?_, fun hwait hzero hb hlive => ?_,
      fun h => ?_⟩
    · obtain ⟨hnone, htime, hpace, honly⟩ := takeTime_takes (s := s.elapse dt) hwait hb hlive
      refine ⟨_, rfl, ?_, ?_, ?_, go_only honly⟩
      · rw [State.pins_gaf]; exact hnone
      · rw [State.pins_gaf]; exact htime
      · rw [State.pins_gaf]; exact hpace
    · refine exec_idle (dt := dt) (congrArg go (takeTime_idle (s := s.elapse dt) fun c hc => ?_))
      exact Option.some.inj (hwait.symm.trans hc) ▸ hb
    · exact exec_idle (dt := dt) (congrArg go (takeTime_idle (s := s.elapse dt) fun c hc =>
        absurd (hc.symm.trans hwait) nofun))
    · obtain ⟨hnone, hpace, htime, honly⟩ := takePace_takes (s := s.elapse dt) hwait hzero hb hlive
      refine ⟨_, rfl, ?_, ?_, ?_, go_only honly⟩
      · rw [State.pins_gaf]; exact hnone
      · rw [State.pins_gaf]; exact hpace
      · rw [State.pins_gaf]; exact htime
    · exact exec_idle (dt := dt) (congrArg go (takePace_idle (s := s.elapse dt) h))
  · exact ⟨gafferRetireHandover_none st, fun h => gafferRetireHandover_alone h st, fun h hother hactive hspine =>
      ⟨gafferRetireHandover_due h hother hspine, gafferRetireHandover_early h hother hspine hactive⟩⟩
  · exact ⟨scrubPass_corrected a, scrubPass_bad a, memUncorr_here a r, scrubPass_idle a, memUncorr_idle a r⟩

end Sys2Proof.Machine

/-! SUPPORT. Chapter 13, the lehr: what spares and retirements leave of the lehr's own tally (R436 to R441). -/

namespace Sys2Proof.Machine

theorem ite_pair_tallyAt {c : Prop} [Decidable c] {b : Bool} {t : State} {u : Bool × State} {k n : Nat}
    (ht : c → t.tallyAt k = n) (hu : ¬c → u.2.tallyAt k = n) : (if c then (b, t) else u).2.tallyAt k = n := by
  split
  next h => exact ht h
  next h => exact hu h

/-! ### Lanes and cores that are retired -/

section
variable (s : State) {k : Nat} (hk : FeedKey k)
include hk

theorem laneTo_lost_feedKey (n : Nat) : (s.laneTo n false).tallyAt k = s.tallyAt k := by
  by_cases hlane : s.lane n = false
  · rw [laneTo_idle (.inl hlane)]
  · have hset : (s.laneSet n false).tallyAt k = s.tallyAt k :=
      (note_beside _ hk.beside ..).trans ((count_tally _ _ 1 k (hk.ne_twin (by decide))).trans rfl)
    rw [laneTo_change hlane (by simp), if_neg (by simp)]
    generalize s.laneSet n false = t at hset ⊢
    exact ite_tallyAt (ite_tallyAt ((holdover_beside _ hk.beside).trans hset) hset) hset

theorem retireCore_feedKey (c cause : Nat) : (s.retireCore c cause).tallyAt k = s.tallyAt k := by
  unfold State.retireCore
  extract_lets was out _ filled new noted
  have hout : out.tallyAt k = s.tallyAt k := only_tallyAt (State.coreOut_touch s c) (by decide) k
  have hfilled : filled.tallyAt k = out.tallyAt k :=
    only_tallyAt (only_trans (only_sub (State.setCore_touch ..) (by decide)) (State.fillSlots_touch _)) (by decide) k
  have hnoted : noted.tallyAt k = filled.tallyAt k :=
    (note_beside _ hk.beside ..).trans (count_beside filled hk.beside (by decide))
  clear_value noted
  refine ite_tallyAt rfl ((nextTask_feedKey _ hk).trans ((triUpdate_beside _ hk.beside 3).trans ?_))
  exact (only_tallyAt (State.stopLone_touch noted) (by decide) k).trans (hnoted.trans (hfilled.trans hout))

end

/-! ### The runs of the lehr (tally 49) -/

theorem runs_feedKey : FeedKey (tlFeed 49) := feedKey_of (by decide) (by decide) (by decide) (by decide)

/-- The runs of the lehr that have been counted. -/
abbrev State.runsAt (s : State) : Nat := s.tallyAt (tlFeed 49)

theorem isolate_runs (s : State) {d : Nat} (hd : d < 2) (rail : Nat) : (s.isolate d rail).runsAt = s.runsAt :=
  (isolate_tally s runs_feedKey d rail).trans (count_tally s _ 1 _ (by simp only [tlFeed, Machine.tly]; omega))

theorem wornOut_runs (s : State) {g : Nat} (hg : g < 2) : (s.wornOut g).runsAt = s.runsAt := by
  unfold State.wornOut
  split
  · rfl
  · exact (isolate_runs _ hg _).trans rfl

theorem markRetired_runs (s : State) (u : Nat) : (s.markRetired u).runsAt = s.runsAt :=
  only_tallyAt (State.markRetired_touch s u) (by decide) _

theorem setUnit_runs (s : State) (u n sp : Nat) : (s.setUnit u n sp).runsAt = s.runsAt :=
  only_tallyAt (State.setUnit_touch s u n sp) (by decide) _

/-- A worn gaffer, retired while the other one runs. -/
theorem retireUnit_gaffer (s : State) {u : Nat} (hu : u = 0x56 ∨ u = 0x57)
    (hlive : s.live (1 - (u - 0x56)) = true) :
    ∃ v : State, s.retireUnit u = (true, v.wornOut (u - 0x56)) ∧ v.runsAt = s.runsAt := by
  have hmark := markRetired_runs s u
  unfold State.retireUnit
  rw [if_neg (by omega), if_neg (by omega), if_neg (by omega), if_neg (by omega), if_neg (by omega),
    if_neg (by omega), if_neg (by omega), if_pos hu]
  dsimp only
  rw [if_neg (by simp [hlive])]
  generalize s.markRetired u = t at hmark ⊢
  exact ⟨_, rfl, hmark⟩

theorem retireUnit_runs (s : State) (u : Nat) : (s.retireUnit u).2.runsAt = s.runsAt := by
  by_cases hgaf : (u = 0x56 ∨ u = 0x57) ∧ s.live (1 - (u - 0x56)) = true
  · obtain ⟨v, hrun, hv⟩ := retireUnit_gaffer s hgaf.1 hgaf.2
    rw [hrun]
    exact (wornOut_runs v (by omega)).trans hv
  · have hside := runs_feedKey.beside
    unfold State.retireUnit
    refine ite_pair_tallyAt (fun hu => (markRetired_runs ..).trans (portGone_beside s hside (by omega))) fun _ => ?_
    refine ite_pair_tallyAt (fun hu => (markRetired_runs ..).trans (canLossOne_beside s hside (by omega))) fun _ => ?_
    refine ite_pair_tallyAt (fun _ => (inputsGone_beside _ hside ..).trans (markRetired_runs ..)) fun _ => ?_
    refine ite_pair_tallyAt (fun _ => (inputsGone_beside _ hside ..).trans (markRetired_runs ..)) fun _ => ?_
    refine ite_pair_tallyAt (fun _ => (setUnit_runs ..).trans (retireCore_feedKey s runs_feedKey ..)) fun _ => ?_
    refine ite_pair_tallyAt
      (fun _ => (setUnit_runs ..).trans ((laneTo_lost_feedKey _ runs_feedKey 0).trans rfl)) fun _ => ?_
    refine ite_pair_tallyAt
      (fun _ => (setUnit_runs ..).trans ((laneTo_lost_feedKey _ runs_feedKey 1).trans rfl)) fun _ => ?_
    by_cases hu : u = 0x56 ∨ u = 0x57
    · have hlost : s.live (1 - (u - 0x56)) = false := Bool.eq_false_iff.mpr fun h => hgaf ⟨hu, h⟩
      rw [if_pos hu]
      dsimp only
      rw [if_pos (by rw [hlost]; rfl)]
      exact setUnit_runs ..
    · rw [if_neg hu]
      exact setUnit_runs ..

theorem lehrAction_runs (s : State) (u m a : Nat) : (s.lehrAction u m a).runsAt = s.runsAt :=
  note_beside s runs_feedKey.beside ..

theorem worn_runs (s : State) (u m : Nat) : (s.worn u m).runsAt = s.runsAt := by
  have hunit := (retireUnit_runs (s.lehrAction u m 3) u).trans (lehrAction_runs s u m 3)
  unfold State.worn
  extract_lets t r v
  have hv : v.runsAt = s.runsAt := ite_tallyAt ((count_tally r.2 _ 1 _ (by decide)).trans hunit) hunit
  exact (note_beside v runs_feedKey.beside ..).trans hv

theorem bringSpare_runs {s t : State} {u : Nat} {column : Bool} (h : s.bringSpare u column = some t) :
    t.runsAt = s.runsAt := by
  unfold State.bringSpare at h
  extract_lets used r at h
  split at h
  · obtain rfl := Option.some.inj h
    exact setUnit_runs ..
  split at h
  · obtain rfl := Option.some.inj h
    exact (setUnit_runs ..).trans rfl
  split at h
  · obtain rfl := Option.some.inj h
    exact (setUnit_runs ..).trans ((laneTo_lost_feedKey _ runs_feedKey 0).trans rfl)
  split at h
  · obtain rfl := Option.some.inj h
    exact (setUnit_runs ..).trans ((laneTo_lost_feedKey _ runs_feedKey 1).trans rfl)
  split at h
  · obtain rfl := Option.some.inj h
    exact (setUnit_runs ..).trans (retireCore_feedKey s runs_feedKey ..)
  · cases h

theorem request_runs (s : State) (d mv : Nat) : (s.request d mv).runsAt = s.runsAt :=
  only_tallyAt (State.request_touch s d mv) (by decide) _

theorem lehrUnit_runs (s : State) (u m : Nat) (volt column : Bool) (dom : Nat) :
    (s.lehrUnit u m volt column dom).runsAt = s.runsAt := by
  unfold State.lehrUnit
  extract_lets _ t e feeds
  have ht : t.runsAt = s.runsAt := rfl
  have hraised : (feeds.foldl (fun s d => s.request d ((s.feed d).vreq + 5)) t).runsAt = t.runsAt :=
    foldl_keeps State.runsAt _ (fun x d => request_runs x d _) _ _
  clear_value t
  refine ite_tallyAt rfl (ite_tallyAt ht (ite_tallyAt ((lehrAction_runs ..).trans (hraised.trans ht))
    (ite_tallyAt ht ?_)))
  split
  next v hv =>
    exact (lehrAction_runs ..).trans ((count_tally v _ 1 _ (by decide)).trans ((bringSpare_runs hv).trans ht))
  · exact (worn_runs ..).trans ht

theorem lehrOne_runs (s : State) (rs : List MarginReading) (u : Nat) : (s.lehrOne rs u).runsAt = s.runsAt := by
  unfold State.lehrOne
  extract_lets mine m dom
  exact ite_tallyAt rfl (lehrUnit_runs ..)

theorem lehrLower_runs (s : State) (rs : List MarginReading) (d : Nat) : (s.lehrLower rs d).runsAt = s.runsAt := by
  unfold State.lehrLower
  extract_lets mine good n _ t f
  exact ite_tallyAt ((lehrAction_runs ..).trans ((request_runs ..).trans rfl)) rfl

end Sys2Proof.Machine

/-! SUPPORT. Chapter 13, the lehr: its runs, its voltage requests, bank and words rewritten (R435 to R439). -/

namespace Sys2Proof.Machine

/-! ### What has been sent stays sent -/

section
variable {s : State} {x : Sent} (hx : x ∈ s.sent)
include hx

theorem raise_sent (v : Nat) : x ∈ (s.raise v).sent := by
  unfold State.raise
  extract_lets was _ t
  split
  · exact List.mem_append_left _ hx
  · exact hx

theorem enter_sent (r : RawEv) : x ∈ (s.enter r).sent := by
  unfold State.enter
  extract_lets e _ t u
  have ht : x ∈ t.sent := hx
  refine raise_sent (s := u) ?_ 1
  unfold u
  split
  · split
    · rw [State.deferWrite_sent]
      exact ht
    · exact ht
  · exact ht

theorem note_sent (code : Nat) (args : List Byte) : x ∈ (s.note code args).sent := by
  unfold State.note
  extract_lets t r
  have ht : x ∈ t.sent := by
    unfold t
    split
    · exact raise_sent hx _
    · exact hx
  split
  · exact enter_sent ht _
  · split
    · exact ht
    · exact ht

end

/-! ### Requests (R439) -/

section
variable (s : State) {d : Nat}

theorem setPend_self (p : Option Pmbus) : (s.setPend d p).pend d = p := by
  unfold State.setPend State.pend
  by_cases h : d = 0 <;> simp [h]

theorem setPend_other (hd : d < 2) {i : Nat} (hi : i < 2) (hne : i ≠ d) (p : Option Pmbus) :
    (s.setPend d p).pend i = s.pend i := by
  unfold State.setPend State.pend
  obtain rfl | rfl : d = 0 ∨ d = 1 := by omega
  · simp [hne]
  · obtain rfl : i = 0 := by omega
    simp

theorem setFeed_pend (f : Feed) (i : Nat) : (s.setFeed d f).pend i = s.pend i := by
  unfold State.setFeed
  split <;> rfl

/-- The lehr's record but for its requests. -/
def Lehr.calm (l : Lehr) : Lehr := { l with pendA := none, pendB := none }

theorem setPend_calm (p : Option Pmbus) : (s.setPend d p).lehr.calm = s.lehr.calm := by
  unfold State.setPend
  dsimp only
  split <;> rfl

theorem request_busy {mv : Nat} (h : s.pend d ≠ none) : s.request d mv = s :=
  if_pos (Option.isSome_iff_ne_none.mpr h)

/-- The value that a request asks for. -/
def State.wanted (s : State) (mv : Nat) : Nat := min s.vmax (max 800 mv)

/-- The record of a request. -/
def State.asks (s : State) (d mv : Nat) : Pmbus := { prev := (s.feed d).vreq, want := s.wanted mv, at_ := s.now }

theorem request_free {mv : Nat} (h : s.pend d = none) : s.request d mv =
    ((s.setFeed d { s.feed d with vreq := s.wanted mv }).setPend d (some (s.asks d mv))).send
      (.pmbus d (s.wanted mv)) := (if_neg (by simp [h])).trans rfl

theorem request_calm (mv : Nat) : (s.request d mv).lehr.calm = s.lehr.calm := by
  by_cases h : s.pend d = none
  · rw [request_free s h]
    exact (setPend_calm _ _).trans (congrArg Lehr.calm ((State.setFeed_touch ..).2 .lehr (by decide)))
  · rw [request_busy s h]

/-- A request leaves of a feed all but the value asked for. -/
theorem request_feed (hd : d < 2) (mv : Nat) {i : Nat} (hi : i < 2) :
    ∃ v, (s.request d mv).feed i = { s.feed i with vreq := v } := by
  by_cases h : s.pend d = none
  · rw [request_free s h]
    by_cases hid : i = d
    · subst hid
      exact ⟨_, feed_setFeed_self s _⟩
    · obtain rfl : i = 1 - d := by omega
      exact ⟨_, (feed_setFeed_other s _ hd).trans rfl⟩
  · rw [request_busy s h]
    exact ⟨_, rfl⟩

theorem request_feed_other (hd : d < 2) (mv : Nat) : (s.request d mv).feed (1 - d) = s.feed (1 - d) := by
  by_cases h : s.pend d = none
  · rw [request_free s h]
    exact feed_setFeed_other s _ hd
  · rw [request_busy s h]

theorem request_pend_other (hd : d < 2) (mv : Nat) : (s.request d mv).pend (1 - d) = s.pend (1 - d) := by
  by_cases h : s.pend d = none
  · rw [request_free s h]
    exact (setPend_other _ hd (by omega) (by omega) _).trans (setFeed_pend s _ _)
  · rw [request_busy s h]

theorem request_clk (mv : Nat) : (s.request d mv).clk = s.clk := by
  by_cases h : s.pend d = none
  · rw [request_free s h]
    exact setFeed_clk s _ _
  · rw [request_busy s h]

end

/-! ### The steps of a run (R436) -/

/-- A run begins: it is counted, and the feeds' steps go on. -/
def State.lehrStart (s : State) : State :=
  { s with lehr := { s.lehr with lastNet := some s.net, lastAt := s.now, vstop := [] } }.count (tlFeed 49)

/-- A feed above VMAX is brought down to it. -/
def State.lehrCap (s : State) (d : Nat) : State :=
  if s.canRequest d && (s.feed d).vreq > s.vmax then s.request d s.vmax else s

/-- The state as the monitors' readings find it. -/
def State.lehrReady (s : State) : State := (s.lehrStart.lehrCap 0).lehrCap 1

theorem lehr1_eq (s : State) (rs : List MarginReading) : s.lehr1 rs =
    ((((rs.map (·.unit.toNat)).eraseDups).foldl (fun s u => s.lehrOne rs u) s.lehrReady).lehrLower rs 0).lehrLower
      rs 1 := rfl

section
variable (s : State) {d : Nat}

theorem lehrCap_request : s.lehrCap d = s ∨ ∃ mv, s.lehrCap d = s.request d mv := by
  unfold State.lehrCap
  split
  · exact .inr ⟨_, rfl⟩
  · exact .inl rfl

theorem lehrCap_calm : (s.lehrCap d).lehr.calm = s.lehr.calm := by
  obtain h | ⟨mv, h⟩ := lehrCap_request s (d := d) <;> rw [h]
  exact request_calm s mv

theorem lehrCap_only : (s.lehrCap d).onlyChanges s [.outputs, .feeds, .lehr] :=
  only_ite (State.request_touch ..) (only_refl ..)

theorem lehrCap_runs : (s.lehrCap d).runsAt = s.runsAt := only_tallyAt (lehrCap_only s) (by decide) _

theorem lehrCap_clk : (s.lehrCap d).clk = s.clk := by
  obtain h | ⟨mv, h⟩ := lehrCap_request s (d := d) <;> rw [h]
  exact request_clk s mv

theorem lehrCap_feed (hd : d < 2) {i : Nat} (hi : i < 2) :
    ∃ v, (s.lehrCap d).feed i = { s.feed i with vreq := v } := by
  obtain h | ⟨mv, h⟩ := lehrCap_request s (d := d) <;> rw [h]
  · exact ⟨_, rfl⟩
  · exact request_feed s hd mv hi

/-- A feed not above VMAX, or another one, is left alone. -/
theorem lehrCap_keeps (hd : d < 2) {i : Nat} (hi : i < 2) (h : (s.feed i).vreq ≤ s.vmax) :
    (s.lehrCap d).feed i = s.feed i ∧ (s.lehrCap d).pend i = s.pend i := by
  by_cases hid : i = d
  · subst hid
    have hrun : s.lehrCap i = s := if_neg (by simp [h])
    rw [hrun]
    exact ⟨rfl, rfl⟩
  · obtain rfl : i = 1 - d := by omega
    obtain hrun | ⟨mv, hrun⟩ := lehrCap_request s (d := d) <;> rw [hrun]
    · exact ⟨rfl, rfl⟩
    · exact ⟨request_feed_other s hd mv, request_pend_other s hd mv⟩

theorem lehrReady_calm : s.lehrReady.lehr.calm =
    { s.lehr with lastNet := some s.net, lastAt := s.now, vstop := [], pendA := none, pendB := none } :=
  (lehrCap_calm _).trans ((lehrCap_calm s.lehrStart).trans rfl)

theorem lehrReady_only : s.lehrReady.onlyChanges s [.outputs, .feeds, .lehr, .tallies] := by
  have hstart : s.lehrStart.onlyChanges s [.outputs, .feeds, .lehr, .tallies] :=
    only_step (only_set_lehr _ (only_refl ..) (by decide)) (State.count_touch ..) (by decide)
  exact only_step (only_step hstart (lehrCap_only _) (by decide)) (lehrCap_only _) (by decide)

theorem lehrReady_runs : s.lehrReady.runsAt = min tlyMax (s.runsAt + 1) :=
  (lehrCap_runs _).trans ((lehrCap_runs _).trans (count_self ..))

theorem lehrReady_clk : s.lehrReady.clk = s.clk :=
  (lehrCap_clk _).trans ((lehrCap_clk _).trans rfl)

theorem lehrReady_feed {i : Nat} (hi : i < 2) : ∃ v, s.lehrReady.feed i = { s.feed i with vreq := v } := by
  obtain ⟨v, hv⟩ := lehrCap_feed s.lehrStart (d := 0) (by decide) hi
  obtain ⟨w, hw⟩ := lehrCap_feed (s.lehrStart.lehrCap 0) (d := 1) (by decide) hi
  exact ⟨w, by rw [State.lehrReady, hw, hv]; rfl⟩

theorem lehrReady_retired (u : Nat) : s.lehrReady.isRetired u = s.isRetired u := by
  have hsys := (lehrReady_only s).2 .system (by decide)
  have htriad := (lehrReady_only s).2 .triad (by decide)
  have htwin := only_twin (lehrReady_only s) (by decide)
  unfold State.isRetired State.core
  rw [hsys, htriad, htwin]

theorem vmax_of_calm {s t : State} (h : t.lehr.calm = s.lehr.calm) : t.vmax = s.vmax :=
  (congrArg (fun l : Lehr => fld l.conf 2 2) h :)

theorem lehrReady_keeps {i : Nat} (hi : i < 2) (h : (s.feed i).vreq ≤ s.vmax) :
    s.lehrReady.feed i = s.feed i ∧ s.lehrReady.pend i = s.pend i := by
  obtain ⟨hfeed, hpend⟩ := lehrCap_keeps s.lehrStart (d := 0) (by decide) hi h
  have hmax : (s.lehrStart.lehrCap 0).vmax = s.vmax := (vmax_of_calm (lehrCap_calm s.lehrStart)).trans rfl
  obtain ⟨hfeed', hpend'⟩ := lehrCap_keeps (s.lehrStart.lehrCap 0) (d := 1) (by decide) hi
    (by rw [hfeed, hmax]; exact h)
  exact ⟨hfeed'.trans (hfeed.trans rfl), hpend'.trans (hpend.trans rfl)⟩

end

/-! ### Lowering (R438) -/

/-- No run of good readings: the feed keeps its value. -/
theorem lehrLower_low (s : State) {rs : List MarginReading} (d : Nat)
    (h : ∀ r ∈ rs, r.voltage = true → r.margin < 40) :
    s.lehrLower rs d = { s with lehr := { s.lehr with good := Tab.set 0 s.lehr.good d 0 } } := by
  have hbad : (!(rs.filter fun r => r.voltage && decide (r.domain.val = d)).isEmpty &&
      (rs.filter fun r => r.voltage && decide (r.domain.val = d)).all fun r => decide (40 ≤ r.margin)) = false := by
    rw [Bool.and_eq_false_iff]
    cases hl : rs.filter fun r => r.voltage && decide (r.domain.val = d) with
    | nil => exact .inl rfl
    | cons r l =>
      obtain ⟨hr, hv⟩ := List.mem_filter.mp (hl ▸ List.mem_cons_self : r ∈ rs.filter _)
      have hlow := h r hr (Bool.and_eq_true_iff.mp hv).1
      right
      simp only [List.all_cons]
      rw [decide_eq_false (by omega), Bool.false_and]
  unfold State.lehrLower
  extract_lets mine good n _ t f
  have hn : n = 0 := if_neg (Bool.eq_false_iff.mp hbad)
  clear_value n
  subst hn
  exact if_neg (by simp)

/-- What lowering leaves where nothing is lowered. -/
theorem lehrLower_twice (s : State) {rs : List MarginReading} (h : ∀ r ∈ rs, r.voltage = true → r.margin < 40) :
    ∃ g, (s.lehrLower rs 0).lehrLower rs 1 = { s with lehr := { s.lehr with good := g } } := by
  rw [lehrLower_low s 0 h, lehrLower_low _ 1 h]
  exact ⟨_, rfl⟩

/-! ### One reading (R436) -/

section
variable (s : State) {r : MarginReading}

theorem lehrOne_single (hdom : s.hasDom r.domain.val = true) : s.lehrOne [r] r.unit.toNat =
    s.lehrUnit r.unit.toNat (min 100 r.margin) (r.voltage && decide (r.margin < 30)) r.wornColumn r.domain.val := by
  have hmine : ([r].filter fun x => decide (x.unit.toNat = r.unit.toNat)) = [r] := by simp
  unfold State.lehrOne
  simp only [hmine]
  rw [if_neg (by simp [hdom])]
  simp

/-- The margin of a unit is kept. -/
def State.lehrRead (s : State) (u m : Nat) : State :=
  { s with lehr := { s.lehr with margin := Tab.set 0 s.lehr.margin u (m + 1) } }

variable {u m dom : Nat} {volt column : Bool} (hfit : s.isRetired u = false)
include hfit

theorem lehrUnit_good (hm : 30 ≤ m) : s.lehrUnit u m volt false dom = s.lehrRead u m :=
  (if_neg (by simp [hfit])).trans (if_pos hm)

theorem lehrUnit_raises (hm : m < 30) (hdom : dom < 2) (hstep : (s.lehrRead u m).stepLeft dom = true) :
    s.lehrUnit u m true column dom =
      ((s.lehrRead u m).request dom (((s.lehrRead u m).feed dom).vreq + 5)).lehrAction u m 1 := by
  have hfeeds : (if dom < 2 then [dom] else [0, 1]).filter (s.lehrRead u m).stepLeft = [dom] := by
    rw [if_pos hdom]
    simp [hstep]
  have hlow : ¬(if column = true then min m 14 else m) ≥ 30 := by split <;> omega
  unfold State.lehrUnit
  rw [if_neg (by simp [hfit])]
  extract_lets _ t e feeds
  have ht : t = s.lehrRead u m := rfl
  have hf : feeds = [dom] := hfeeds
  clear_value feeds t
  subst hf ht
  rw [if_neg hlow, if_pos (by simp)]
  rfl

end

/-! ### LEHR_RUN -/

/-- A run is due. -/
abbrev State.lehrDue (s e : State) : Prop :=
  s.tellerUp = true ∧ (s.lehr.lastNet = none ∨ s.lehr.lastAt + 600000000000 ≤ e.now)

theorem lehr1_runs (s : State) (rs : List MarginReading) : (s.lehr1 rs).runsAt = min tlyMax (s.runsAt + 1) := by
  rw [lehr1_eq]
  refine (lehrLower_runs ..).trans ((lehrLower_runs ..).trans ((foldl_keeps State.runsAt _ (fun x u => ?_) _ _).trans
    (lehrReady_runs s)))
  exact lehrOne_runs x rs u

theorem lehr1_single (s : State) (r : MarginReading) :
    s.lehr1 [r] = ((s.lehrReady.lehrOne [r] r.unit.toNat).lehrLower [r] 0).lehrLower [r] 1 := lehr1_eq s [r]

section
variable {s : State}

theorem lehr1_none : (s.lehr1 []).lehr.lastNet = some s.net ∧ (s.lehr1 []).lehr.lastAt = s.now ∧
    (s.lehr1 []).lehr.margin = s.lehr.margin := by
  obtain ⟨g, hlow⟩ := lehrLower_twice s.lehrReady (rs := []) nofun
  have hrun : s.lehr1 [] = { s.lehrReady with lehr := { s.lehrReady.lehr with good := g } } := hlow
  have hcalm := lehrReady_calm s
  rw [hrun]
  exact ⟨(congrArg Lehr.lastNet hcalm :), (congrArg Lehr.lastAt hcalm :), (congrArg Lehr.margin hcalm :)⟩

variable {r : MarginReading}

theorem lehrReady_hasDom (hdom : s.hasDom r.domain.val = true) : s.lehrReady.hasDom r.domain.val = true := by
  by_cases hd : r.domain.val < 2
  · obtain ⟨v, hv⟩ := lehrReady_feed s hd
    rw [State.hasDom, hv]
    exact hdom
  · simp only [State.hasDom, Bool.or_eq_true, decide_eq_true_eq]
    omega

/-- A monitor that reads 30% or more leaves its unit. -/
theorem lehr1_good (hvolt : r.voltage = false) (hdom : s.hasDom r.domain.val = true)
    (hfit : s.isRetired r.unit.toNat = false) (hm : 30 ≤ r.margin) (hcol : r.wornColumn = false)
    (hmax : r.margin ≤ 100) : Tab.get 0 (s.lehr1 [r]).lehr.margin r.unit.toNat = r.margin + 1 ∧
      (s.lehr1 [r]).lehr.spare = s.lehr.spare ∧ (s.lehr1 [r]).sys.retired = s.sys.retired := by
  have hone : s.lehrReady.lehrOne [r] r.unit.toNat = s.lehrReady.lehrRead r.unit.toNat r.margin := by
    rw [lehrOne_single _ (lehrReady_hasDom hdom), hcol, Nat.min_eq_right hmax]
    exact lehrUnit_good _ ((lehrReady_retired s _).trans hfit) hm
  obtain ⟨g, hlow⟩ := lehrLower_twice (s.lehrReady.lehrOne [r] r.unit.toNat) (rs := [r])
    (by simp [hvolt])
  have hcalm := lehrReady_calm s
  have hsys := (lehrReady_only s).2 .system (by decide)
  rw [lehr1_single, hlow, hone]
  exact ⟨Tab.get_set_self 0 s.lehrReady.lehr.margin r.unit.toNat (r.margin + 1), (congrArg Lehr.spare hcalm :),
    (congrArg Sys.retired hsys :)⟩

/-- What a step upwards needs of a feed. -/
structure State.mayRaise (s : State) (d : Nat) : Prop where
  dom : d < 2
  live : s.live d = true
  enabled : bit (fld s.lehr.conf 4 1) 0 = true
  address : fld s.lehr.conf d 1 ≠ 0xFF
  calm : (s.feed d).warning = false
  low : 800 ≤ (s.feed d).vreq
  room : (s.feed d).vreq + 5 ≤ s.vmax
  free : s.pend d = none

/-- The state as a reading finds it may raise its feed. -/
theorem lehrRead_stepLeft {d : Nat} (h : s.mayRaise d) (u m : Nat) :
    (s.lehrReady.lehrRead u m).stepLeft d = true := by
  obtain ⟨hfeed, -⟩ := lehrReady_keeps s h.dom (by have := h.room; omega)
  have hcalm := lehrReady_calm s
  have hconf : s.lehrReady.lehr.conf = s.lehr.conf := (congrArg Lehr.conf hcalm :)
  have hstop : s.lehrReady.lehr.vstop = [] := (congrArg Lehr.vstop hcalm :)
  have hlive : s.lehrReady.live d = true := by
    rw [State.live, hfeed]
    exact h.live
  have hcan : (s.lehrReady.lehrRead u m).canRequest d = true := by
    show (bit (fld s.lehrReady.lehr.conf 4 1) 0 && decide (fld s.lehrReady.lehr.conf d 1 ≠ 0xFF) &&
      s.lehrReady.live d && !(s.lehrReady.feed d).warning && decide (Tab.get 0 s.lehrReady.lehr.vstop d = 0)) = true
    rw [hconf, hstop, hfeed, h.enabled, hlive, h.calm]
    simp [h.address, Tab.get]
  have hroom : ((s.lehrReady.lehrRead u m).feed d).vreq < (s.lehrReady.lehrRead u m).vmax := by
    show (s.lehrReady.feed d).vreq < fld s.lehrReady.lehr.conf 2 2
    rw [hfeed, hconf]
    have hroom := h.room
    rw [State.vmax] at hroom
    omega
  simp [State.stepLeft, hcan, hroom]

/-- The state as a reading below 30% leaves it: one step more is asked for. -/
theorem lehrRead_raises {d : Nat} (h : s.mayRaise d) (u m : Nat) :
    let t := (s.lehrReady.lehrRead u m).request d (((s.lehrReady.lehrRead u m).feed d).vreq + 5)
    Tab.get 0 t.lehr.margin u = m + 1 ∧ (t.feed d).vreq = (s.feed d).vreq + 5 ∧
      t.pend d = some { prev := (s.feed d).vreq, want := (s.feed d).vreq + 5, at_ := s.now } ∧
      .pmbus d ((s.feed d).vreq + 5) ∈ t.sent ∧ t.lehr.spare = s.lehr.spare := by
  obtain ⟨hfeed, hpend⟩ := lehrReady_keeps s h.dom (by have := h.room; omega)
  have hmargin := request_calm (d := d) (s.lehrReady.lehrRead u m) (((s.lehrReady.lehrRead u m).feed d).vreq + 5)
  have hcalm := lehrReady_calm s
  have hmax : (s.lehrReady.lehrRead u m).vmax = s.vmax :=
    (congrArg (fun l : Lehr => fld l.conf 2 2) (lehrReady_calm s) :)
  have hfeed' : (s.lehrReady.lehrRead u m).feed d = s.feed d := hfeed
  have hnow : (s.lehrReady.lehrRead u m).now = s.now := now_of_clk (lehrReady_clk s)
  have hwant : (s.lehrReady.lehrRead u m).wanted ((s.feed d).vreq + 5) = (s.feed d).vreq + 5 := by
    have hroom := h.room
    have hlow := h.low
    rw [State.wanted, hmax]
    omega
  have hasks : (s.lehrReady.lehrRead u m).asks d ((s.feed d).vreq + 5) =
      { prev := (s.feed d).vreq, want := (s.feed d).vreq + 5, at_ := s.now } := by
    rw [State.asks, hfeed', hwant, hnow]
  intro t
  have ht : t = (((s.lehrReady.lehrRead u m).setFeed d { s.feed d with vreq := (s.feed d).vreq + 5 }).setPend d
      (some { prev := (s.feed d).vreq, want := (s.feed d).vreq + 5, at_ := s.now })).send
        (.pmbus d ((s.feed d).vreq + 5)) := by
    have hrun := request_free (s.lehrReady.lehrRead u m) (d := d) (mv := (s.feed d).vreq + 5)
      (hpend.trans h.free)
    rw [hasks, hwant, hfeed'] at hrun
    exact (congrArg (fun v => (s.lehrReady.lehrRead u m).request d (v + 5)) (congrArg Feed.vreq hfeed')).trans hrun
  have hmargin : t.lehr.calm = (s.lehrReady.lehrRead u m).lehr.calm := hmargin
  clear_value t
  refine ⟨?_, ?_, ?_, ?_, ?_⟩
  · rw [show t.lehr.margin = _ from (congrArg Lehr.margin hmargin :)]
    exact Tab.get_set_self 0 s.lehrReady.lehr.margin u (m + 1)
  · rw [ht]
    exact congrArg Feed.vreq (feed_setFeed_self ..)
  · rw [ht]
    exact setPend_self ..
  · rw [ht]
    exact List.mem_append_right _ (List.mem_singleton_self _)
  · exact (congrArg Lehr.spare hmargin).trans (congrArg Lehr.spare hcalm :)

/-- A voltage-sensitive monitor below 30% raises its feed's request. -/
theorem lehr1_raises (h : s.mayRaise r.domain.val) (hvolt : r.voltage = true) (hm : r.margin < 30)
    (hfit : s.isRetired r.unit.toNat = false) :
    Tab.get 0 (s.lehr1 [r]).lehr.margin r.unit.toNat = r.margin + 1 ∧
      ((s.lehr1 [r]).feed r.domain.val).vreq = (s.feed r.domain.val).vreq + 5 ∧
      (s.lehr1 [r]).pend r.domain.val = some {
        prev := (s.feed r.domain.val).vreq, want := (s.feed r.domain.val).vreq + 5, at_ := s.now } ∧
      .pmbus r.domain.val ((s.feed r.domain.val).vreq + 5) ∈ (s.lehr1 [r]).sent ∧
      (s.lehr1 [r]).lehr.spare = s.lehr.spare := by
  have hdom : s.hasDom r.domain.val = true := by
    have hlive := h.live
    have hlow := h.dom
    simp only [State.live, Bool.or_eq_true, decide_eq_true_eq, beq_iff_eq] at hlive
    obtain hlive | hlive := hlive
    · omega
    · simp [State.hasDom, hlive]
  have hone : s.lehrReady.lehrOne [r] r.unit.toNat =
      ((s.lehrReady.lehrRead r.unit.toNat r.margin).request r.domain.val
        (((s.lehrReady.lehrRead r.unit.toNat r.margin).feed r.domain.val).vreq + 5)).lehrAction r.unit.toNat
          r.margin 1 := by
    rw [lehrOne_single _ (lehrReady_hasDom hdom), hvolt, decide_eq_true hm,
      Nat.min_eq_right (show r.margin ≤ 100 by omega)]
    exact lehrUnit_raises _ ((lehrReady_retired s _).trans hfit) hm h.dom (lehrRead_stepLeft h ..)
  obtain ⟨g, hlow⟩ := lehrLower_twice (s.lehrReady.lehrOne [r] r.unit.toNat) (rs := [r]) (by simp; omega)
  have hraises := lehrRead_raises h r.unit.toNat r.margin
  dsimp only at hraises
  rw [lehr1_single, hlow, hone]
  generalize (s.lehrReady.lehrRead r.unit.toNat r.margin).request r.domain.val
    (((s.lehrReady.lehrRead r.unit.toNat r.margin).feed r.domain.val).vreq + 5) = t at hraises ⊢
  obtain ⟨hmargin, hvreq, hpend, hsent, hspare⟩ := hraises
  have hnote := note_only t (ev 13 5) (le 1 r.unit.toNat ++ le 4 r.margin ++ le 1 1) eventParts (fun _ h => h)
  have hl : (t.lehrAction r.unit.toNat r.margin 1).lehr = t.lehr := hnote.2 .lehr (by decide)
  refine ⟨?_, ?_, ?_, note_sent hsent _ _, ?_⟩
  · show Tab.get 0 (t.lehrAction r.unit.toNat r.margin 1).lehr.margin _ = _
    rw [hl]
    exact hmargin
  · exact (congrArg Feed.vreq (only_feed hnote (by decide) _)).trans hvreq
  · show (t.lehrAction r.unit.toNat r.margin 1).pend _ = _
    rw [State.pend, hl]
    exact hpend
  · show (t.lehrAction r.unit.toNat r.margin 1).lehr.spare = _
    rw [hl]
    exact hspare

end

end Sys2Proof.Machine

/-! SUPPORT. Chapter 13, the lehr, continued: voltages confirmed, banks and words rewritten, the mailbox rows
(R435, R439, R443, R523). -/

namespace Sys2Proof.Machine

/-! ### READ_VOUT (R439) -/

/-- The result kept of a feed's last request. -/
abbrev State.pmbusRes (s : State) (d : Nat) : PmbusRes := if d = 0 then s.lehr.resA else s.lehr.resB

theorem setRes_self (s : State) (d : Nat) (x : PmbusRes) : (s.setRes d x).pmbusRes d = x := by
  unfold State.setRes State.pmbusRes
  by_cases h : d = 0 <;> simp [h]

theorem setRes_pend (s : State) (d : Nat) (x : PmbusRes) (i : Nat) : (s.setRes d x).pend i = s.pend i := by
  unfold State.setRes State.pend
  by_cases h : d = 0 <;> by_cases hi : i = 0 <;> simp [h, hi]

theorem setPend_only (s : State) (d : Nat) (p : Option Pmbus) : (s.setPend d p).onlyChanges s [.lehr] :=
  only_set_lehr _ (only_refl ..) (by decide)

theorem setRes_only (s : State) (d : Nat) (x : PmbusRes) : (s.setRes d x).onlyChanges s [.lehr] :=
  only_set_lehr _ (only_refl ..) (by decide)

/-- A request that is over, with its result. -/
def State.voltageOver (s : State) (d : Nat) (x : PmbusRes) : State := (s.setPend d none).setRes d x

/-- The previous value is asked for again; the feed's steps stop. -/
def State.voltageBack (s : State) (d prev : Nat) : State :=
  let t := (s.setFeed d { s.feed d with vreq := prev }).send (.pmbus d prev)
  { t with lehr := { t.lehr with vstop := Tab.set 0 t.lehr.vstop d 1 } }

section
variable (s : State) (d : Nat) (x : PmbusRes)

theorem voltageOver_pend : (s.voltageOver d x).pend d = none := (setRes_pend _ d x d).trans (setPend_self s none)

theorem voltageOver_only : (s.voltageOver d x).onlyChanges s [.lehr] :=
  only_step (setPend_only ..) (setRes_only ..) (by decide)

variable (prev : Nat)

theorem voltageBack_lehr : ∃ v, (s.voltageBack d prev).lehr = { s.lehr with vstop := v } ∧ Tab.get 0 v d = 1 := by
  have hlehr : (s.setFeed d { s.feed d with vreq := prev }).lehr = s.lehr :=
    (State.setFeed_touch ..).2 .lehr (by decide)
  refine ⟨Tab.set 0 s.lehr.vstop d 1, ?_, Tab.get_set_self ..⟩
  unfold State.voltageBack
  show ({ (s.setFeed d _).lehr with vstop := Tab.set 0 (s.setFeed d _).lehr.vstop d 1 } : Lehr) = _
  rw [hlehr]

theorem voltageBack_sent : .pmbus d prev ∈ (s.voltageBack d prev).sent :=
  List.mem_append_right _ (List.mem_singleton_self _)

theorem voltageBack_feed : ((s.voltageBack d prev).feed d).vreq = prev :=
  (congrArg Feed.vreq (feed_setFeed_self s (d := d) { s.feed d with vreq := prev }) :)

theorem voltageBack_feed_other (hd : d < 2) : (s.voltageBack d prev).feed (1 - d) = s.feed (1 - d) :=
  (feed_setFeed_other s (d := d) { s.feed d with vreq := prev } hd :)

end

section
variable {s : State} {d mv word : Nat} {ack : Bool} {p : Pmbus} (hp : s.pend d = some p)
include hp

/-- The answer confirms the request. -/
abbrev State.voltageNear (s : State) (p : Pmbus) (ack : Bool) (mv : Nat) : Prop :=
  ack = true ∧ mv ≤ p.want + 10 ∧ p.want ≤ mv + 10 ∧ s.now ≤ p.at_ + 5000000

theorem voltageAnswer_near (h : s.voltageNear p ack mv) : s.voltageAnswer d ack mv word =
    (s.voltageOver d ⟨p.want, mv, word, 0⟩).count (tlFeed 50) := by
  obtain ⟨hack, hlow, hhigh, htime⟩ := h
  unfold State.voltageAnswer
  rw [hp]
  exact if_pos (by simp [hack, hlow, hhigh, htime])

variable (h : ¬s.voltageNear p ack mv)
include h

omit hp in
theorem voltageNear_not : ¬(ack && (decide (mv ≤ p.want + 10) && decide (p.want ≤ mv + 10)) &&
    decide (s.now ≤ p.at_ + 5000000)) = true := by
  simpa [and_assoc] using h

theorem voltageAnswer_waits (hack : ack = true) (htime : s.now < p.at_ + 5000000) :
    s.voltageAnswer d ack mv word = s := by
  unfold State.voltageAnswer
  rw [hp]
  exact (if_neg (voltageNear_not h)).trans (if_pos (by simp [hack, htime]))

theorem voltageAnswer_fails (hlate : ack = false ∨ p.at_ + 5000000 ≤ s.now) : ∃ args,
    s.voltageAnswer d ack mv word = (State.voltageBack
      (s.voltageOver d ⟨p.want, mv, word, if ack then 1 else 2⟩) d p.prev).note (ev 13 6) args := by
  have hno : ¬(ack && decide (s.now < p.at_ + 5000000)) = true := by
    obtain hack | htime := hlate
    · simp [hack]
    · simp only [Bool.and_eq_true, decide_eq_true_eq, not_and]
      omega
  unfold State.voltageAnswer
  rw [hp]
  exact ⟨_, (if_neg (voltageNear_not h)).trans ((if_neg hno).trans rfl)⟩

end

section
variable {s : State} {dt : Nat} {d : Fin 2} {ack : Bool} {mv word : U16}

theorem voltageConfirm_none (h : s.pend d.val = none) :
    ∃ t, exec (.voltageConfirm dt d ack mv word) s = .next t ∧ t.onlyChanges s [] := by
  refine exec_idle (dt := dt) (congrArg go ?_)
  unfold State.voltageAnswer
  rw [show (s.elapse dt).pend d.val = none from h]

theorem pins_pend (s : State) (i : Nat) : s.pins.pend i = s.pend i := by rw [State.pend, State.pins_lehr, State.pend]

theorem pins_pmbusRes (s : State) (i : Nat) : s.pins.pmbusRes i = s.pmbusRes i := by
  rw [State.pmbusRes, State.pins_lehr]

variable {p : Pmbus} (hp : s.pend d.val = some p)
include hp

theorem voltageConfirm_near (h : (s.elapse dt).voltageNear p ack mv.toNat) :
    ∃ t, exec (.voltageConfirm dt d ack mv word) s = .next t ∧ t.pend d.val = none ∧
      t.pmbusRes d.val = { want := p.want, read := mv.toNat, word := word.toNat, result := 0 } ∧
      t.tallyAt (tlFeed 50) = min tlyMax (s.tallyAt (tlFeed 50) + 1) ∧ t.onlyChanges s [.lehr, .tallies] := by
  have honly := voltageOver_only (s.elapse dt) d.val ⟨p.want, mv.toNat, word.toNat, 0⟩
  refine ⟨_, congrArg go (voltageAnswer_near (s := s.elapse dt) hp h), ?_, ?_, ?_,
    go_only (dt := dt) (only_step (only_sub honly (by decide)) (State.count_touch ..) (by decide))⟩
  · rw [pins_pend]
    exact voltageOver_pend ..
  · rw [pins_pmbusRes]
    exact setRes_self ..
  · show Tab.get 0 (State.pins _).tly.live _ = _
    rw [State.pins_tly]
    exact (count_self _ _).trans (congrArg (min tlyMax <| · + 1) (only_tallyAt honly (by decide) _))

theorem voltageConfirm_fails (h : ¬(s.elapse dt).voltageNear p ack mv.toNat)
    (hlate : ack = false ∨ p.at_ + 5000000 ≤ (s.elapse dt).now) :
    ∃ t, exec (.voltageConfirm dt d ack mv word) s = .next t ∧ t.pend d.val = none ∧
      t.pmbusRes d.val = { want := p.want, read := mv.toNat, word := word.toNat, result := if ack then 1 else 2 } ∧
      (t.feed d.val).vreq = p.prev ∧ t.feed (1 - d.val) = s.feed (1 - d.val) ∧
      Tab.get 0 t.lehr.vstop d.val = 1 ∧ .pmbus d.val p.prev ∈ t.sent := by
  obtain ⟨args, hrun⟩ := voltageAnswer_fails (s := s.elapse dt) (word := word.toNat) hp h hlate
  have honly := voltageOver_only (s.elapse dt) d.val ⟨p.want, mv.toNat, word.toNat, if ack then 1 else 2⟩
  have hpend := voltageOver_pend (s.elapse dt) d.val ⟨p.want, mv.toNat, word.toNat, if ack then 1 else 2⟩
  have hres : ((s.elapse dt).voltageOver d.val
    ⟨p.want, mv.toNat, word.toNat, if ack then 1 else 2⟩).pmbusRes d.val =
      ⟨p.want, mv.toNat, word.toNat, if ack then 1 else 2⟩ := setRes_self ..
  refine ⟨_, congrArg go hrun, ?_⟩
  generalize (s.elapse dt).voltageOver d.val ⟨p.want, mv.toNat, word.toNat, if ack then 1 else 2⟩ = u
    at honly hpend hres ⊢
  obtain ⟨v, hlehr, hstop⟩ := voltageBack_lehr u d.val p.prev
  have hnote := note_only (u.voltageBack d.val p.prev) (ev 13 6) args eventParts (fun _ h => h)
  have hlast : ((u.voltageBack d.val p.prev).note (ev 13 6) args).lehr = { u.lehr with vstop := v } :=
    (State.note_lehr ..).trans hlehr
  have hfeed (i : Nat) := (pins_feed _ i).trans (only_feed hnote (by decide) i)
  refine ⟨?_, ?_, ?_, ?_, ?_, ?_⟩
  · rw [pins_pend, State.pend, hlast]
    exact hpend
  · rw [pins_pmbusRes, State.pmbusRes, hlast]
    exact hres
  · rw [hfeed]
    exact voltageBack_feed ..
  · rw [hfeed, voltageBack_feed_other u d.val p.prev d.isLt]
    exact only_feed honly (by decide) _
  · rw [State.pins_lehr, hlast]
    exact hstop
  · rw [State.pins_sent]
    exact note_sent (voltageBack_sent ..) _ _

end

/-! ### Bank and words rewritten (R140, R435) -/

section
variable {s : State} {dt : Nat}

theorem ledgerBankSwitch_switches {b : Nat} (hb : s.lehr.bankCopy = some b) (hact : s.par.activ = none)
    (hup : s.tellerUp = true) : ∃ t, exec (.ledgerBankSwitch dt) s = .next t ∧
      t.lehr = { s.lehr with bankCopy := none } ∧
      t.fab = { s.fab with ledger := { s.fab.ledger with bank := Tab.set 0 s.fab.ledger.bank b 17 } } ∧
      t.onlyChanges s [.lehr, .fabric] := by
  let u : State := { s.elapse dt with lehr := { s.lehr with bankCopy := none } }
  have hrun : exec (.ledgerBankSwitch dt) s = go { u with
      fab := { s.fab with ledger := { s.fab.ledger with bank := Tab.set 0 s.fab.ledger.bank b 17 } } } := by
    show execLedgerBankSwitch dt s = _
    unfold execLedgerBankSwitch
    dsimp only
    rw [show (s.elapse dt).lehr.bankCopy = some b from hb]
    have hno : ¬((s.elapse dt).par.activ.isSome || !(s.elapse dt).tellerUp) = true := by
      rw [show (s.elapse dt).par.activ = none from hact, show (s.elapse dt).tellerUp = true from hup]
      decide
    exact if_neg hno
  refine ⟨_, hrun, ?_, ?_, go_only (dt := dt) ?_⟩
  · rw [State.pins_lehr]
  · rw [State.pins_fab]
  · have hu : u.onlyChanges (s.elapse dt) [.lehr, .fabric] := only_set_lehr _ (only_refl ..) (by decide)
    exact only_set_fab _ hu (by decide)

theorem ledgerBankSwitch_idle (h : s.lehr.bankCopy = none ∨ s.par.activ ≠ none ∨ s.tellerUp = false) :
    ∃ t, exec (.ledgerBankSwitch dt) s = .next t ∧ t.onlyChanges s [] := by
  refine exec_idle (dt := dt) ?_
  show execLedgerBankSwitch dt s = _
  unfold execLedgerBankSwitch
  dsimp only
  split
  · rfl
  next b hb =>
    have hyes : (s.par.activ.isSome || !s.tellerUp) = true := by
      obtain h | h | h := h
      · exact absurd (h.symm.trans hb) nofun
      · rw [Option.isSome_iff_ne_none.mpr h, Bool.true_or]
      · rw [h, Bool.not_false, Bool.or_true]
    exact if_pos hyes

variable {g : Fin 2}

theorem gafferWordRewrite_writes (hup : s.tellerUp = true) (hlive : s.live g.val = true)
    (hopen : (s.elapse dt).lehrOpen g.val = true) : ∃ t, exec (.gafferWordRewrite dt g) s = .next t ∧
      t.lehr = { s.lehr with gafBad := s.lehr.gafBad.filter fun x => decide (x.1 / 2 ^ 32 ≠ g.val) } ∧
      t.onlyChanges s [.lehr] := by
  have hyes : ((s.elapse dt).tellerUp && (s.elapse dt).live g.val && (s.elapse dt).lehrOpen g.val) = true := by
    rw [show (s.elapse dt).tellerUp = true from hup, show (s.elapse dt).live g.val = true from hlive, hopen]
    rfl
  refine ⟨_, congrArg go (if_pos hyes), ?_, go_only (dt := dt) (only_set_lehr _ (only_refl ..) (by decide))⟩
  rw [State.pins_lehr]
  rfl

theorem gafferWordRewrite_idle
    (h : s.tellerUp = false ∨ s.live g.val = false ∨ (s.elapse dt).lehrOpen g.val = false) :
    ∃ t, exec (.gafferWordRewrite dt g) s = .next t ∧ t.onlyChanges s [] := by
  refine exec_idle (dt := dt) (congrArg go (if_neg ?_))
  rw [show (s.elapse dt).tellerUp = s.tellerUp from rfl, show (s.elapse dt).live g.val = s.live g.val from rfl]
  obtain h | h | h := h <;> simp [h]

end

/-! ### MB_FEED_STATUS (R523) -/

/-- A feed's state as its record shows it. -/
def Feed.code (f : Feed) : Nat := if f.below then 2 else if f.warning then 1 else 0

/-- A feed's record: its state, what the monitors measure, the value asked for, its counts. -/
theorem feedBytes_fields (s : State) (d : Nat) : ∃ mid : List Byte, mid.length = 13 ∧ (s.feedBytes d).1 =
    le 1 (s.feed d).code ++
      (mid ++ (le 2 (s.feed d).vreq ++ (le 4 (s.feed d).warnings ++ le 4 (s.feed d).losses))) := by
  unfold State.feedBytes
  extract_lets f state now a b c low ma mb mc
  refine ⟨zeros 1 ++ le 2 a.1 ++ le 2 b.1 ++ le 2 c.1 ++ le 2 ma.1 ++ le 2 mb.1 ++ le 2 mc.1, by simp, ?_⟩
  have hstate : state = f.code := rfl
  clear_value a b c ma mb mc
  simp only [List.append_assoc, hstate]
  rfl

/-- The record's reading leaves the feed without its lowest values. -/
theorem feedBytes_state (s : State) (d : Nat) : ∃ c : Clk,
    (s.feedBytes d).2 = { s with clk := c }.setFeed d { s.feed d with mins := [] } := by
  unfold State.feedBytes
  extract_lets f state now a b c low ma mb mc
  have hnow {t : State} (ht : ∃ c : Clk, t = { s with clk := c }) : ∃ c : Clk, (now t).2 = { s with clk := c } := by
    obtain ⟨c, rfl⟩ := ht
    exact ⟨_, rfl⟩
  have hlow (k : Nat) (x : Nat × State) (hx : ∃ c : Clk, x.2 = { s with clk := c }) :
      ∃ c : Clk, (low k x).2 = { s with clk := c } := hnow hx
  have hc : ∃ e : Clk, c.2 = { s with clk := e } := hnow (hnow (hnow ⟨s.clk, rfl⟩))
  clear_value c
  obtain ⟨e, he⟩ : ∃ e : Clk, mc.2 = { s with clk := e } :=
    hlow 2 (c.1, mb.2) (hlow 1 (b.1, ma.2) (hlow 0 (a.1, c.2) hc))
  exact ⟨e, congrArg (State.setFeed · d { f with mins := [] }) he⟩

theorem cmdFeedStatus_feeds (s : State) : (cmdFeedStatus.run [] s).st.feedA = { s.feedA with mins := [] } ∧
    (cmdFeedStatus.run [] s).st.feedB = { s.feedB with mins := [] } := by
  obtain ⟨c, hA⟩ := feedBytes_state s 0
  obtain ⟨e, hB⟩ := feedBytes_state (s.feedBytes 0).2 1
  have hst : (cmdFeedStatus.run [] s).st = ((s.feedBytes 0).2.feedBytes 1).2 := rfl
  rw [hst, hB]
  generalize (s.feedBytes 0).2 = u at hA ⊢
  subst hA
  exact ⟨rfl, rfl⟩

theorem mbFeedStatus_answers {s : State} (dt : Nat) {r : Req} (hf : s.mbxFree) (hp : r.plain) (hbody : r.body = []) :
    ∃ t b, exec (.mbFeedStatus dt r) s = .next t ∧ t.answered 0x0B01 r stOk b ∧
      b.length = 52 ∧
      fld b 0 1 = (if s.feedA.below then 2 else if s.feedA.warning then 1 else 0) ∧
      fld b 14 2 = s.feedA.vreq % 2 ^ 16 ∧ fld b 16 4 = s.feedA.warnings % 2 ^ 32 ∧
      fld b 20 4 = s.feedA.losses % 2 ^ 32 ∧
      fld b 24 1 = (if s.feedB.below then 2 else if s.feedB.warning then 1 else 0) ∧
      fld b 38 2 = s.feedB.vreq % 2 ^ 16 ∧ fld b 48 1 = s.gaf.spineT.gaf % 256 ∧
      t.feedA = { s.feedA with mins := [] } ∧ t.feedB = { s.feedB with mins := [] } ∧
      t.onlyChanges s (.clock :: .feeds :: answerParts) := by
  let w := (s.elapse dt).writeReq cmdFeedStatus.op r
  obtain ⟨c, hstate⟩ := feedBytes_state w 0
  obtain ⟨midA, hlenA, hA⟩ := feedBytes_fields w 0
  obtain ⟨midB, hlenB, hB⟩ := feedBytes_fields (w.feedBytes 0).2 1
  have hother : (w.feedBytes 0).2.feed 1 = s.feedB := by rw [hstate]; rfl
  rw [hother] at hB
  have hself : w.feed 0 = s.feedA := rfl
  rw [hself] at hA
  let b := (w.feedBytes 0).1 ++ ((w.feedBytes 0).2.feedBytes 1).1 ++ le 1 s.gaf.spineT.gaf ++ zeros 3
  obtain ⟨t, hexec, hans, honly, ht⟩ := mailbox_change s dt cmdFeedStatus r (.clock :: .feeds :: answerParts)
    (by decide) hf hp (by rw [hbody]; rfl) stOk b ((w.feedBytes 0).2.feedBytes 1).2 (by rw [hbody]; rfl)
    (by decide) (only_sub (cmdFeedStatus_touch [] w) (by decide))
  obtain ⟨hfeedA, hfeedB⟩ := cmdFeedStatus_feeds w
  have hb : b = le 1 s.feedA.code ++ (midA ++ (le 2 s.feedA.vreq ++ (le 4 s.feedA.warnings ++
      (le 4 s.feedA.losses ++ (le 1 s.feedB.code ++ (midB ++ (le 2 s.feedB.vreq ++ (le 4 s.feedB.warnings ++
        (le 4 s.feedB.losses ++ (le 1 s.gaf.spineT.gaf ++ zeros 3)))))))))) := by
    show (w.feedBytes 0).1 ++ ((w.feedBytes 0).2.feedBytes 1).1 ++ le 1 s.gaf.spineT.gaf ++ zeros 3 = _
    rw [hA, hB]
    simp only [List.append_assoc]
  have hcode (f : Feed) : f.code % 256 ^ 1 = f.code := by
    unfold Feed.code
    split
    · rfl
    · split <;> rfl
  refine ⟨t, b, hexec, hans, ?_, ?_, ?_, ?_, ?_, ?_, ?_, ?_, ?_, ?_, honly⟩
  · simp [hb, hlenA, hlenB]
  · rw [hb, fld_le, hcode, Feed.code]
  · rw [hb]
    simp only [fld_append_right, le_length, hlenA, Nat.reduceLeDiff, Nat.reduceSub, fld_le, Nat.reducePow]
  · rw [hb]
    simp only [fld_append_right, le_length, hlenA, Nat.reduceLeDiff, Nat.reduceSub, fld_le, Nat.reducePow]
  · rw [hb]
    simp only [fld_append_right, le_length, hlenA, Nat.reduceLeDiff, Nat.reduceSub, fld_le, Nat.reducePow]
  · rw [hb]
    simp only [fld_append_right, le_length, hlenA, Nat.reduceLeDiff, Nat.reduceSub, fld_le, hcode]
    rfl
  · rw [hb]
    simp only [fld_append_right, le_length, hlenA, hlenB, Nat.reduceLeDiff, Nat.reduceSub, fld_le, Nat.reducePow]
  · rw [hb]
    simp only [fld_append_right, le_length, hlenA, hlenB, Nat.reduceLeDiff, Nat.reduceSub, fld_le, Nat.reducePow]
  · rw [ht, State.pins_feedA, State.respond_feedA]
    exact hfeedA
  · rw [ht, State.pins_feedB, State.respond_feedB]
    exact hfeedB

/-! ### MB_LEHR_CONFIG (R443) -/

/-- The ranges of the lehr's record. -/
abbrev lehrRanges (c : List Byte) : Prop :=
  (fld c 0 1 < 128 ∨ fld c 0 1 = 255) ∧ (fld c 1 1 < 128 ∨ fld c 1 1 = 255) ∧
    800 ≤ fld c 2 2 ∧ fld c 2 2 ≤ 824 ∧ (fld c 4 1 = 1 → fld c 0 1 ≠ 255 ∨ fld c 1 1 ≠ 255)

theorem lehrOk_iff {c : List Byte} (h : fld c 4 1 < 2) : lehrOk c = true ↔ lehrRanges c := by
  have hbit : (!bit (fld c 4 1) 0) = true ↔ ¬fld c 4 1 = 1 := by
    obtain h | h : fld c 4 1 = 0 ∨ fld c 4 1 = 1 := by omega
    · rw [h]; decide
    · rw [h]; decide
  simp only [lehrOk, Bool.and_eq_true, Bool.or_eq_true, decide_eq_true_eq, hbit, lehrRanges, ne_eq]
  tauto

/-- The state with another record of the lehr. -/
def State.withLehrConf (s : State) (c : List Byte) : State := { s with lehr := { s.lehr with conf := c } }

section
variable {b : List Byte} {s : State}

theorem cmdLehrConfig_shape (hlen : b.length = 20) (ho : fld b 0 4 < 2) (h8 : fld b 8 1 < 2)
    (hz : zeroAt b 9 11 = true) : cmdLehrConfig.shape b = true := by
  simp [cmdLehrConfig, cfgOpts, cfgLen, bit_one_of_lt ho, hlen, hz]
  omega

variable (ho : fld b 0 4 < 2)
include ho

theorem cmdLehrConfig_bad (h : lehrOk (b.drop 4) = false) : cmdLehrConfig.run b s = ans stMalformed [] s :=
  (if_neg (by simp [bit_one_of_lt ho])).trans (if_pos (by simp [h]))

variable (hok : lehrOk (b.drop 4) = true)
include hok

theorem cmdLehrConfig_busy (hone : fld b 0 4 = 1) (hheld : s.flashHeld = true) :
    cmdLehrConfig.run b s = ans stBusy [] s :=
  (if_neg (by simp [bit_one_of_lt ho])).trans ((if_neg (by simp [hok])).trans
    (if_pos (by rw [hone, hheld]; rfl)))

theorem cmdLehrConfig_keeps (hzero : fld b 0 4 = 0) :
    cmdLehrConfig.run b s = ans stOk (b.drop 4) (s.withLehrConf (b.drop 4)) := by
  refine (if_neg (by simp [bit_one_of_lt ho])).trans ((if_neg (by simp [hok])).trans
    ((if_neg (by rw [hzero]; nofun)).trans ?_))
  rw [hzero]
  rfl

theorem cmdLehrConfig_persists (hone : fld b 0 4 = 1) (hheld : s.flashHeld = false) :
    cmdLehrConfig.run b s = ans stOk (b.drop 4) ((s.withLehrConf (b.drop 4)).persist cfLehr (b.drop 4)) := by
  refine (if_neg (by simp [bit_one_of_lt ho])).trans ((if_neg (by simp [hok])).trans
    ((if_neg (by rw [hheld]; simp)).trans ?_))
  rw [hone]
  rfl

end

section
variable {s : State} (dt : Nat) {r : Req} (hf : s.mbxFree) (hp : r.plain)
include hf hp

theorem mbLehrConfig_answers (hlen : r.body.length = 20) (ho : fld r.body 0 4 < 2) (h8 : fld r.body 8 1 < 2)
    (hz : zeroAt r.body 9 11 = true) :
    (¬lehrRanges (r.body.drop 4) → ∃ t, exec (.mbLehrConfig dt r) s = .next t ∧
      t.answered 0x0B02 r stMalformed [] ∧ t.onlyChanges s answerParts) ∧
    (lehrRanges (r.body.drop 4) → fld r.body 0 4 = 1 → s.flashHeld = true →
      ∃ t, exec (.mbLehrConfig dt r) s = .next t ∧
        t.answered 0x0B02 r stBusy [] ∧ t.onlyChanges s answerParts) ∧
    (lehrRanges (r.body.drop 4) → fld r.body 0 4 = 0 → ∃ t, exec (.mbLehrConfig dt r) s = .next t ∧
      t.answered 0x0B02 r stOk (r.body.drop 4) ∧ t.lehr = { s.lehr with conf := r.body.drop 4 } ∧
      t.onlyChanges s (.lehr :: answerParts)) ∧
    (lehrRanges (r.body.drop 4) → fld r.body 0 4 = 1 → s.flashHeld = false →
      ∃ t, exec (.mbLehrConfig dt r) s = .next t ∧
        t.answered 0x0B02 r stOk (r.body.drop 4) ∧ t.lehr = { s.lehr with conf := r.body.drop 4 } ∧
        Tab.get [] t.flash.conf cfLehr = r.body.drop 4) := by
  have hshape := cmdLehrConfig_shape hlen ho h8 hz
  have hiff : lehrOk (r.body.drop 4) = true ↔ lehrRanges (r.body.drop 4) :=
    lehrOk_iff (by rw [fld_drop]; exact h8)
  let w := (s.elapse dt).writeReq cmdLehrConfig.op r
  refine ⟨fun hbad => ?_, fun hok hone hheld => ?_, fun hok hzero => ?_, fun hok hone hfree => ?_⟩
  · exact mailbox_read s dt cmdLehrConfig r (by decide) hf hp hshape _ _
      (cmdLehrConfig_bad ho (Bool.eq_false_iff.mpr (mt hiff.mp hbad)))
  · exact mailbox_read s dt cmdLehrConfig r (by decide) hf hp hshape _ _
      (cmdLehrConfig_busy ho (hiff.mpr hok) hone hheld)
  · obtain ⟨t, hexec, hans, honly, ht⟩ := mailbox_change s dt cmdLehrConfig r (.lehr :: answerParts)
      (by decide) hf hp hshape _ _ _ (cmdLehrConfig_keeps (s := w) ho (hiff.mpr hok) hzero) (by decide)
      (only_set_lehr _ (only_refl ..) (by decide))
    refine ⟨t, hexec, hans, ?_, honly⟩
    rw [ht, State.pins_lehr, State.respond_lehr]
    rfl
  · obtain ⟨t, hexec, hans, ht⟩ := mailbox_done (s.elapse dt) cmdLehrConfig r (by decide)
      hf hp hshape _ _ _ (cmdLehrConfig_persists (s := w) ho (hiff.mpr hok) hone hfree)
    refine ⟨t, hexec, hans, ?_, ?_⟩
    · rw [ht, State.pins_lehr, State.respond_lehr, State.persist_lehr]
      rfl
    · rw [ht, State.pins_flash, State.respond_flash]
      exact persist_conf (s := w.withLehrConf _) hfree ..

theorem mbLehrConfig_read (hlen : r.body.length = 4) (ho : fld r.body 0 4 = 2) :
    ∃ t, exec (.mbLehrConfig dt r) s = .next t ∧ t.answered 0x0B02 r stOk s.lehr.conf ∧
      t.onlyChanges s answerParts := by
  have hshape : cmdLehrConfig.shape r.body = true := by
    simp [cmdLehrConfig, cfgOpts, cfgLen, ho, hlen, bit]
  refine mailbox_read s dt cmdLehrConfig r (by decide) hf hp hshape _ _ (if_pos ?_)
  rw [ho]
  rfl

/-! ### MB_LEHR_REPORT (R443) -/

/-- The result of a request as the report shows it. -/
def PmbusRes.bytes (x : PmbusRes) : List Byte :=
  le 2 x.want ++ le 2 x.read ++ le 2 x.word ++ le 1 x.result ++ zeros 1

theorem mbLehrReport_answers (hbody : r.body = []) :
    let us := (List.range 0x74).filter fun u => Tab.get 0 s.lehr.margin u ≠ 0 || s.isRetired u
    ∃ t b, exec (.mbLehrReport dt r) s = .next t ∧ t.answered 0x0B03 r stOk b ∧
      b.drop 36 = (us.map s.unitBytes).flatten ∧ fld b 32 2 = us.length ∧
      slice b 0 12 = (match s.lehr.lastNet with | some n => secNs n | none => zeros 12) ∧
      slice b 16 7 = le 2 s.lehr.resA.want ++ le 2 s.lehr.resA.read ++ le 2 s.lehr.resA.word ++
        le 1 s.lehr.resA.result ∧ t.onlyChanges s answerParts := by
  intro us
  have hus : us.length ≤ 0x74 := (List.length_filter_le _ _).trans (by simp)
  let last : List Byte := match s.lehr.lastNet with | some n => secNs n | none => zeros 12
  have hlast : last.length = 12 := by
    unfold last
    split
    · simp [secNs]
    · rfl
  let tail := le 2 us.length ++ (zeros 2 ++ (us.map s.unitBytes).flatten)
  let b := last ++ (zeros 4 ++ (s.lehr.resA.bytes ++ (s.lehr.resB.bytes ++ tail)))
  have hres (x : PmbusRes) : x.bytes.length = 8 := by simp [PmbusRes.bytes]
  obtain ⟨t, hexec, hans, honly⟩ := mailbox_read s dt cmdLehrReport r (by decide) hf hp (by rw [hbody]; rfl)
    stOk b (by
      refine congrArg (ans stOk · _) ?_
      show last ++ zeros 4 ++ s.lehr.resA.bytes ++ s.lehr.resB.bytes ++ le 2 us.length ++ zeros 2 ++
        (us.map s.unitBytes).flatten = _
      simp only [List.append_assoc]
      rfl)
  refine ⟨t, b, hexec, hans, ?_, ?_, ?_, ?_, honly⟩
  · have hsplit : b = (last ++ (zeros 4 ++ (s.lehr.resA.bytes ++ (s.lehr.resB.bytes ++
        (le 2 us.length ++ zeros 2))))) ++ (us.map s.unitBytes).flatten := by
      simp only [b, tail, List.append_assoc]
    rw [hsplit]
    exact List.drop_left' (by simp [hlast, hres])
  · show fld (last ++ (zeros 4 ++ (s.lehr.resA.bytes ++ (s.lehr.resB.bytes ++ tail)))) 32 2 = _
    simp only [tail, fld_append_right, zeros_length, hlast, hres, Nat.reduceLeDiff, Nat.reduceSub, fld_le]
    omega
  · show slice (last ++ _) 0 12 = last
    rw [slice_append_left (by rw [hlast]), slice_all _ hlast]
  · show slice (last ++ (zeros 4 ++ (s.lehr.resA.bytes ++ (s.lehr.resB.bytes ++ tail)))) 16 7 = _
    rw [slice_append_right (by omega), slice_append_right (by simp [hlast]),
      slice_append_left (by simp [hlast, hres]), PmbusRes.bytes, slice_append_left (by simp [hlast])]
    simp only [hlast, zeros_length, Nat.reduceSub]
    exact slice_all _ (by simp)

end

/-! ### O53 -/

theorem lehrDue_iff (s : State) : (s.tellerUp && (s.lehr.lastNet.isNone ||
    decide (s.lehr.lastAt + 600000000000 ≤ s.now))) = true ↔ s.lehrDue s := by
  rw [Bool.and_eq_true_iff, Bool.or_eq_true_iff, decide_eq_true_iff, Option.isNone_iff_eq_none]

/-- Settles O53: a run counts itself, whatever spares and retirements it makes; a single reading is followed
through the run's steps, a request through its answer. -/
theorem lehrRunsAndReports : Obligations.LehrRunsAndReports := by
  unfold Obligations.LehrRunsAndReports
  refine ⟨fun s dt rs => ⟨fun hdue => ?_, fun hno => ?_⟩,
    fun s dt d ack mv word => ⟨voltageConfirm_none, fun p hp => ?_⟩, fun s dt g => ?_, fun s dt r hf hp => ?_⟩
  · have hrun : exec (.lehrRun dt rs) s = go ((s.elapse dt).lehr1 rs) :=
      congrArg go (if_pos ((lehrDue_iff (s.elapse dt)).mpr hdue))
    refine ⟨_, hrun, ?_, ?_, ?_, ?_⟩
    · rw [State.pins_tly]
      exact lehr1_runs (s.elapse dt) rs
    · rintro rfl
      rw [State.pins_lehr]
      exact lehr1_none (s := s.elapse dt)
    · rintro r rfl hvolt hdom hfit hm hcol hmax
      rw [State.pins_lehr, State.pins_sys]
      exact lehr1_good (s := s.elapse dt) hvolt hdom hfit hm hcol hmax
    · rintro r rfl hvolt hm hdom hlive hfit hbit haddr hcalm hlow hroom hfree
      have hmay : (s.elapse dt).mayRaise r.domain.val := ⟨hdom, hlive, hbit, haddr, hcalm, hlow, hroom, hfree⟩
      rw [State.pins_lehr, pins_feed, pins_pend, State.pins_sent]
      exact lehr1_raises hmay hvolt hm hfit
  · exact exec_idle (dt := dt) (congrArg go (if_neg fun h => hno ((lehrDue_iff (s.elapse dt)).mp h)))
  · exact ⟨voltageConfirm_near hp, fun hnear hack htime => exec_idle (dt := dt) (congrArg go
      (voltageAnswer_waits (s := s.elapse dt) hp hnear hack htime)), voltageConfirm_fails hp⟩
  · exact ⟨fun b => ledgerBankSwitch_switches, ledgerBankSwitch_idle, gafferWordRewrite_writes,
      gafferWordRewrite_idle⟩
  · exact ⟨mbFeedStatus_answers dt hf hp, mbLehrConfig_answers dt hf hp, mbLehrConfig_read dt hf hp,
      mbLehrReport_answers dt hf hp⟩

end Sys2Proof.Machine

/-! SUPPORT. Chapter 17: firmware staged, swapped and reverted (R552 to R556). -/

namespace Sys2Proof.Machine

/-! ### Tallies of the vault and the firmware (group 15) -/

/-- A tally of group 15 but for the commands of the mailbox. -/
def SecKey (k : Nat) : Prop := 15 * 2 ^ 32 ≤ k ∧ k ≠ tlSec 5

theorem secKey_of {i : Nat} (h : i ≠ 5) : SecKey (tlSec i) := by
  simp only [SecKey, tlSec, Machine.tly]
  omega

section
variable (s : State) {k : Nat} (hk : SecKey k)
include hk

theorem SecKey.ne_feed {i : Nat} (hi : i < 2 ^ 16) : k ≠ tlFeed i := by
  have hlow := hk.1
  simp only [tlFeed, Machine.tly]
  omega

theorem note_sec (code : Nat) (args : List Byte) : (s.note code args).tallyAt k = s.tallyAt k :=
  note_tally s code args k (hk.ne_feed (by decide)) (hk.ne_feed (by decide))

theorem enterHeld_sec : s.enterHeld.tallyAt k = s.tallyAt k := by
  unfold State.enterHeld
  extract_lets q
  exact (foldl_keeps (State.tallyAt · k) _
    (fun x r => enter_tally x r k (hk.ne_feed (by decide)) (hk.ne_feed (by decide))) _ _).trans rfl

theorem serveAgain_sec : s.serveAgain.tallyAt k = s.tallyAt k := by
  unfold State.serveAgain
  extract_lets _ t u
  have hu : u.tallyAt k = s.tallyAt k := by
    unfold u
    split
    · exact (note_sec _ hk ..).trans ((respond_live _ _ _ _ _ _ k hk.2).trans rfl)
    · rfl
  exact (only_tallyAt (State.calm_touch _) (by decide) k).trans ((enterHeld_sec u hk).trans hu)

theorem nameSlot_sec : s.nameSlot.tallyAt k = s.tallyAt k := by
  unfold State.nameSlot State.setBoot
  exact ite_tallyAt rfl (ite_tallyAt (deferWrite_tally s _ k (hk.ne_feed (by decide)) (hk.ne_feed (by decide))) rfl)

end

/-! ### The teller's gaps leave READY as they say -/

theorem enterHeld_ready (s : State) : s.enterHeld.hif.ready = s.hif.ready := by
  unfold State.enterHeld
  extract_lets q
  exact (foldl_keeps (fun x : State => x.hif.ready) _ (fun x r => State.enter_hif_ready x r) _ _).trans rfl

theorem calm_ready (s : State) : s.calm.hif.ready = s.hif.ready := by
  have hboot (f : Flash) (u : State) : ({ u with flash := f } : State).hif.ready = u.hif.ready := rfl
  unfold State.calm State.writeDeferred
  split
  · rfl
  · refine (foldl_keeps (fun x : State => x.hif.ready) _ (fun x d => ?_) _ _).trans rfl
    split
    · rfl
    · rfl
    · rw [State.writeEnergy]
    · rfl

theorem serveAgain_ready (s : State) : s.serveAgain.hif.ready = true := by
  unfold State.serveAgain
  extract_lets _ t u
  have hu : u.hif.ready = true := by
    unfold u
    split
    · rw [State.note_hif_ready, State.respond, State.raise_hif_ready]
      rfl
    · rfl
  exact (calm_ready _).trans ((enterHeld_ready u).trans hu)

theorem insertion_ready (s : State) : s.insertion.hif.ready = s.hif.ready := by
  have hcontrol (t : State) (line : Nat) : (t.insControl line).hif = t.hif := by
    unfold State.insControl
    extract_lets on till
    split <;> rfl
  unfold State.insertion
  extract_lets _ t
  rw [hcontrol, hcontrol]
  unfold t
  split <;> rfl

/-! ### MB_FW_STAGE (R552) -/

section
variable {b : List Byte} {s : State}

/-- The image once a chunk is taken. -/
abbrev State.stagedAll (s : State) (b : List Byte) : List Byte :=
  if fld b 0 4 = 0 then b.drop 4 else s.fwStagedBytes ++ b.drop 4

/-- A chunk that follows what is staged, within the slot. -/
abbrev State.stageFits (s : State) (b : List Byte) : Prop :=
  (fld b 0 4 = 0 ∨ fld b 0 4 = s.fwStagedBytes.length) ∧ (s.stagedAll b).length ≤ 0x200000

/-- A header that describes an image at least as long as what is staged. -/
abbrev fwSound (l : List Byte) : Prop := fwHeadOk l = true ∧ l.length ≤ fld l 8 4

theorem addChunk_fits (h : s.stageFits b) :
    addChunk s.fwStagedBytes (fld b 0 4) (b.drop 4) 0x200000 = some (s.stagedAll b) := by
  refine if_neg ?_
  obtain ⟨ho, hlen⟩ := h
  simp only [Bool.or_eq_true, Bool.and_eq_true, decide_eq_true_eq, not_or, not_and, not_not, not_lt]
  exact ⟨fun h => ho.resolve_left h, hlen⟩

theorem addChunk_misfits (h : ¬s.stageFits b) :
    addChunk s.fwStagedBytes (fld b 0 4) (b.drop 4) 0x200000 = none := by
  refine if_pos ?_
  simp only [Bool.or_eq_true, Bool.and_eq_true, decide_eq_true_eq]
  by_contra hno
  simp only [not_or, not_and, not_not, not_lt] at hno
  exact h ⟨or_iff_not_imp_left.mpr hno.1, hno.2⟩

/-- What MB_FW_STAGE does with a chunk that fits. -/
theorem cmdFwStage_fits (h : s.stageFits b) : cmdFwStage.run b s =
    if decide (64 ≤ (s.stagedAll b).length) &&
        (!fwHeadOk (s.stagedAll b) || decide (fld (s.stagedAll b) 8 4 < (s.stagedAll b).length)) then
      refuse stMalformed s
    else if decide (64 ≤ (s.stagedAll b).length) && s.sec.pin ≠ 0 && !fwLists (s.stagedAll b) s.sec.pin then
      refuse stDenied s
    else if s.flashHeld || s.sys.swap.isSome then refuse stBusy s
    else ans stOk [] { s with
      flash := s.flash.setSlot s.fwTarget (s.stagedAll b)
      sys := { s.sys with fwStaged := (s.stagedAll b).length } } := by
  show (match addChunk s.fwStagedBytes (fld b 0 4) (b.drop 4) 0x200000 with
    | none => refuse stMalformed s
    | some l => _) = _
  rw [addChunk_fits h]

theorem cmdFwStage_misfits (h : ¬s.stageFits b) : cmdFwStage.run b s = ans stMalformed [] s := by
  show (match addChunk s.fwStagedBytes (fld b 0 4) (b.drop 4) 0x200000 with
    | none => refuse stMalformed s
    | some l => _) = _
  rw [addChunk_misfits h]
  rfl

variable (h : s.stageFits b)
include h

theorem cmdFwStage_unsound (hhead : 64 ≤ (s.stagedAll b).length) (hbad : ¬fwSound (s.stagedAll b)) :
    cmdFwStage.run b s = ans stMalformed [] s := by
  refine (cmdFwStage_fits h).trans (if_pos ?_)
  rw [decide_eq_true hhead, Bool.true_and, Bool.or_eq_true, decide_eq_true_eq]
  by_contra hno
  simp only [not_or, not_lt, Bool.not_eq_true, Bool.not_eq_false'] at hno
  exact hbad hno

omit h in
/-- The guards on the header let a sound one pass. -/
theorem fwStage_sound (hok : 64 ≤ (s.stagedAll b).length → fwSound (s.stagedAll b)) :
    ¬(decide (64 ≤ (s.stagedAll b).length) &&
      (!fwHeadOk (s.stagedAll b) || decide (fld (s.stagedAll b) 8 4 < (s.stagedAll b).length))) = true := by
  rw [Bool.and_eq_true, decide_eq_true_eq, Bool.or_eq_true, decide_eq_true_eq]
  rintro ⟨hhead, hbad⟩
  obtain ⟨hgood, hlen⟩ := hok hhead
  rw [hgood] at hbad
  simp only [Bool.not_true, Bool.false_eq_true, false_or] at hbad
  omega

theorem cmdFwStage_unlisted (hhead : 64 ≤ (s.stagedAll b).length) (hok : fwSound (s.stagedAll b))
    (hpin : s.sec.pin ≠ 0) (hlist : fwLists (s.stagedAll b) s.sec.pin = false) :
    cmdFwStage.run b s = ans stDenied [] s := by
  refine (cmdFwStage_fits h).trans ((if_neg (fwStage_sound fun _ => hok)).trans (if_pos ?_))
  rw [decide_eq_true hhead, decide_eq_true hpin, hlist]
  rfl

variable (hok : 64 ≤ (s.stagedAll b).length →
  fwSound (s.stagedAll b) ∧ (s.sec.pin = 0 ∨ fwLists (s.stagedAll b) s.sec.pin = true))
include hok

theorem cmdFwStage_good : cmdFwStage.run b s = if s.flashHeld || s.sys.swap.isSome then refuse stBusy s
    else ans stOk [] { s with
      flash := s.flash.setSlot s.fwTarget (s.stagedAll b)
      sys := { s.sys with fwStaged := (s.stagedAll b).length } } := by
  refine (cmdFwStage_fits h).trans ((if_neg (fwStage_sound fun hh => (hok hh).1)).trans (if_neg ?_))
  rw [Bool.and_eq_true, Bool.and_eq_true, decide_eq_true_eq, decide_eq_true_eq]
  rintro ⟨⟨hhead, hpin⟩, hno⟩
  rw [(hok hhead).2.resolve_left hpin] at hno
  cases hno

theorem cmdFwStage_busy (hbusy : s.flashHeld = true ∨ s.sys.swap ≠ none) :
    cmdFwStage.run b s = ans stBusy [] s := by
  refine (cmdFwStage_good h hok).trans (if_pos ?_)
  obtain hbusy | hbusy := hbusy
  · rw [hbusy, Bool.true_or]
  · rw [Option.isSome_iff_ne_none.mpr hbusy, Bool.or_true]

/-- The state in which an image's bytes stand staged. -/
def State.withStaged (s : State) (l : List Byte) : State :=
  { s with flash := s.flash.setSlot s.fwTarget l, sys := { s.sys with fwStaged := l.length } }

omit hok h in
theorem withStaged_only (l : List Byte) : (s.withStaged l).onlyChanges s [.flash, .system] := by
  let u : State := { s with sys := { s.sys with fwStaged := l.length } }
  have hu : u.onlyChanges s [.flash, .system] := only_set_sys _ (only_refl s _) (by decide)
  exact only_set_flash _ hu (by decide)

theorem cmdFwStage_stages (hfree : s.flashHeld = false) (hswap : s.sys.swap = none) :
    cmdFwStage.run b s = ans stOk [] (s.withStaged (s.stagedAll b)) :=
  (cmdFwStage_good h hok).trans (if_neg (by rw [hfree, hswap]; nofun))

end

theorem mbFwStage_answers {s : State} (dt : Nat) {r : Req} (hf : s.mbxFree) (hp : r.plain)
    (hlen : 5 ≤ r.body.length) :
    (¬s.stageFits r.body ∨ (64 ≤ (s.stagedAll r.body).length ∧ ¬fwSound (s.stagedAll r.body)) →
      ∃ t, exec (.mbFwStage dt r) s = .next t ∧
        t.answered 0x0E01 r stMalformed [] ∧ t.onlyChanges s answerParts) ∧
    (s.stageFits r.body → 64 ≤ (s.stagedAll r.body).length → fwSound (s.stagedAll r.body) → s.sec.pin ≠ 0 →
      fwLists (s.stagedAll r.body) s.sec.pin = false →
      ∃ t, exec (.mbFwStage dt r) s = .next t ∧ t.answered 0x0E01 r stDenied [] ∧
        t.onlyChanges s answerParts) ∧
    (s.stageFits r.body → (64 ≤ (s.stagedAll r.body).length → fwSound (s.stagedAll r.body) ∧
        (s.sec.pin = 0 ∨ fwLists (s.stagedAll r.body) s.sec.pin = true)) →
      (s.flashHeld = true ∨ s.sys.swap ≠ none → ∃ t, exec (.mbFwStage dt r) s = .next t ∧
        t.answered 0x0E01 r stBusy [] ∧ t.onlyChanges s answerParts) ∧
      (s.flashHeld = false → s.sys.swap = none → ∃ t, exec (.mbFwStage dt r) s = .next t ∧
        t.answered 0x0E01 r stOk [] ∧ t.flash = s.flash.setSlot (1 - s.sys.slot) (s.stagedAll r.body) ∧
        t.sys = { s.sys with fwStaged := (s.stagedAll r.body).length } ∧
        t.onlyChanges s (.flash :: .system :: answerParts))) := by
  have hshape : cmdFwStage.shape r.body = true := decide_eq_true hlen
  let w := (s.elapse dt).writeReq cmdFwStage.op r
  have hread {st : Nat} := mailbox_read s dt cmdFwStage r (by decide) hf hp hshape st []
  refine ⟨fun hbad => hread ?_, fun hfit hhead hok hpin hlist => hread ?_, fun hfit hok => ⟨fun hbusy => hread ?_,
    fun hfree hswap => ?_⟩⟩
  · by_cases hfit : w.stageFits r.body
    · obtain ⟨hhead, hno⟩ := hbad.resolve_left (not_not.mpr hfit)
      exact cmdFwStage_unsound (s := w) hfit hhead hno
    · exact cmdFwStage_misfits (s := w) hfit
  · exact cmdFwStage_unlisted (s := w) hfit hhead hok hpin hlist
  · exact cmdFwStage_busy (s := w) hfit hok hbusy
  · obtain ⟨t, hexec, hans, honly, ht⟩ := mailbox_change s dt cmdFwStage r (.flash :: .system :: answerParts)
      (by decide) hf hp hshape _ _ _ (cmdFwStage_stages (s := w) hfit hok hfree hswap) (by decide)
      (only_sub (withStaged_only _) (by decide))
    refine ⟨t, hexec, hans, ?_, ?_, honly⟩
    · rw [ht, State.pins_flash, State.respond_flash]
      rfl
    · rw [ht, State.pins_sys, State.respond_sys]
      rfl

/-! ### MB_FW_SWAP (R553) -/

section
variable (s : State) (f : Sec → Sec)

theorem saveRecord_sec : s.saveRecord.sec = { s.sec with genUsed := s.sec.genUsed + 1 } := by
  unfold State.saveRecord
  extract_lets r first _ _ t u
  have hu : u.sec = { s.sec with genUsed := s.sec.genUsed + 1 } := rfl
  split
  · rw [State.note_sec, hu]
  · exact hu

theorem saveRecord_clk : s.saveRecord.clk = s.clk := by
  unfold State.saveRecord
  extract_lets r first _ _ t u
  have hu : u.clk = s.clk := rfl
  split
  · rw [State.note_clk, hu]
  · exact hu

theorem recordUpd_fw : (s.recordUpd f).sec.fw = (f s.sec).fw := by
  unfold State.recordUpd
  extract_lets t
  split
  next h => exact congrArg Sec.fw h.symm
  · exact (congrArg Sec.fw (saveRecord_sec t)).trans rfl

theorem recordUpd_clk : (s.recordUpd f).clk = s.clk := by
  unfold State.recordUpd
  extract_lets t
  split
  · rfl
  · exact saveRecord_clk t

/-- A record written leaves the swap's boundary where it is. -/
theorem recordUpd_swapAt : (s.recordUpd f).swapAt = s.swapAt := by
  have honly := State.recordUpd_touch s f
  rw [State.swapAt, State.swapAt, State.net, State.net, recordUpd_clk, honly.2 .parison (by decide),
    honly.2 .gaffer (by decide)]

end

section
variable {b : List Byte} {s : State}

/-- The staged image is there in whole. -/
abbrev State.imageWhole (s : State) : Prop :=
  64 ≤ s.fwStagedBytes.length ∧ fld s.fwStagedBytes 8 4 ≤ s.fwStagedBytes.length

/-- The staged image runs a revision that the parisons accept. -/
abbrev State.imageMeets (s : State) : Prop :=
  (∀ m ∈ s.minBehavs, m ≤ fwRevision s.fwStagedBytes s.sec.pin) ∧
    (∀ p, s.par.committed = some p → p.minBehav ≤ fwRevision s.fwStagedBytes s.sec.pin)

theorem imageMeets_iff : ((s.minBehavs ++ (s.par.committed.map (·.minBehav)).toList).any fun m =>
    decide (fwRevision s.fwStagedBytes s.sec.pin < m)) = true ↔ ¬s.imageMeets := by
  rw [List.any_append, Bool.or_eq_true, List.any_eq_true, List.any_eq_true, State.imageMeets,
    Classical.not_and_iff_not_or_not]
  refine or_congr ?_ ?_
  · simp
  · cases s.par.committed <;> simp

theorem cmdFwSwap_part (h : ¬s.imageWhole) : cmdFwSwap.run b s = ans stDenied [] s := by
  refine if_pos ?_
  rw [Bool.or_eq_true, decide_eq_true_eq, decide_eq_true_eq]
  by_contra hno
  exact h ⟨by omega, by omega⟩

variable (hwhole : s.imageWhole)
include hwhole

theorem imageWhole_not : ¬(decide (s.fwStagedBytes.length < 64) ||
    decide (s.fwStagedBytes.length < fld s.fwStagedBytes 8 4)) = true := by
  obtain ⟨hhead, hlen⟩ := hwhole
  rw [Bool.or_eq_true, decide_eq_true_eq, decide_eq_true_eq]
  omega

theorem cmdFwSwap_bad (h : s.fwOk s.fwStagedBytes = false) :
    cmdFwSwap.run b s = ans stDenied [] (s.count (tlSec 10)) :=
  (if_neg (imageWhole_not hwhole)).trans (if_pos (by simp [h]))

variable (hok : s.fwOk s.fwStagedBytes = true)
include hok

/-- What MB_FW_SWAP does with an image that the vault accepts. -/
theorem cmdFwSwap_whole : cmdFwSwap.run b s =
    if (s.minBehavs ++ (s.par.committed.map (·.minBehav)).toList).any fun m =>
        decide (fwRevision s.fwStagedBytes s.sec.pin < m) then refuse stDenied s
    else if s.sys.swap.isSome || s.sys.defaultLoad || s.flashHeld then refuse stBusy s
    else if s.sec.fw < fld s.fwStagedBytes 0x10 4 && (!s.canRecord || s.sec.recordBad) then refuse stDenied s
    else
      let t := s.fwTarget
      let u := s.recordUpd fun x => { x with fw := max x.fw (fld s.fwStagedBytes 0x10 4) }
      if u.sys.stage == .loader then
        ans stOk (zeros 16) { u with
          sys := { u.sys with stage := .teller, slot := t, failed := none }
          hif := { u.hif with ready := false } }
      else
        let w : FwSwap := { net := u.swapAt, slot := t, began := none }
        ans stOk (secNs w.net ++ zeros 4) { u with sys := { u.sys with swap := some w } } :=
  (if_neg (imageWhole_not hwhole)).trans (if_neg (by simp [hok]))

theorem cmdFwSwap_unmet (h : ¬s.imageMeets) : cmdFwSwap.run b s = ans stDenied [] s :=
  (cmdFwSwap_whole hwhole hok).trans (if_pos (imageMeets_iff.mpr h))

variable (hmeets : s.imageMeets)
include hmeets

theorem cmdFwSwap_meets : cmdFwSwap.run b s =
    if s.sys.swap.isSome || s.sys.defaultLoad || s.flashHeld then refuse stBusy s
    else if s.sec.fw < fld s.fwStagedBytes 0x10 4 && (!s.canRecord || s.sec.recordBad) then refuse stDenied s
    else
      let t := s.fwTarget
      let u := s.recordUpd fun x => { x with fw := max x.fw (fld s.fwStagedBytes 0x10 4) }
      if u.sys.stage == .loader then
        ans stOk (zeros 16) { u with
          sys := { u.sys with stage := .teller, slot := t, failed := none }
          hif := { u.hif with ready := false } }
      else
        let w : FwSwap := { net := u.swapAt, slot := t, began := none }
        ans stOk (secNs w.net ++ zeros 4) { u with sys := { u.sys with swap := some w } } :=
  (cmdFwSwap_whole hwhole hok).trans (if_neg (fun h => imageMeets_iff.mp h hmeets))

/-- The unit is not free for a swap. -/
abbrev State.swapBusy (s : State) : Prop := s.sys.swap ≠ none ∨ s.sys.defaultLoad = true ∨ s.flashHeld = true

omit hwhole hok hmeets in
theorem swapBusy_iff : (s.sys.swap.isSome || s.sys.defaultLoad || s.flashHeld) = true ↔ s.swapBusy := by
  rw [Bool.or_eq_true, Bool.or_eq_true, Option.isSome_iff_ne_none, or_assoc]

theorem cmdFwSwap_busy (h : s.swapBusy) : cmdFwSwap.run b s = ans stBusy [] s :=
  (cmdFwSwap_meets hwhole hok hmeets).trans (if_pos (swapBusy_iff.mpr h))

/-- The swap is accepted: the counter of the firmware is raised, the boundary is set. -/
theorem cmdFwSwap_accepts (h : ¬s.swapBusy) (hgen : s.sec.genUsed < 1024) (hrec : s.sec.recordBad = false)
    (hstage : s.sys.stage ≠ .loader) : ∃ u : State,
      u.sys = { s.sys with swap := some { net := s.swapAt, slot := 1 - s.sys.slot, began := none } } ∧
      u.sec.fw = max s.sec.fw (fld s.fwStagedBytes 0x10 4) ∧
      cmdFwSwap.run b s = ans stOk (secNs s.swapAt ++ zeros 4) u := by
  have hrun := cmdFwSwap_meets (b := b) hwhole hok hmeets
  rw [if_neg (mt swapBusy_iff.mp h), if_neg (by simp [State.canRecord, hgen, hrec])] at hrun
  have hsys := (State.recordUpd_touch s fun x => { x with fw := max x.fw (fld s.fwStagedBytes 0x10 4) }).2
    .system (by decide)
  have hfw := recordUpd_fw s fun x => { x with fw := max x.fw (fld s.fwStagedBytes 0x10 4) }
  have hat := recordUpd_swapAt s fun x => { x with fw := max x.fw (fld s.fwStagedBytes 0x10 4) }
  dsimp only at hrun
  generalize (s.recordUpd fun x => { x with fw := max x.fw (fld s.fwStagedBytes 0x10 4) }) = u
    at hrun hsys hfw hat
  have hsys : u.sys = s.sys := hsys
  rw [if_neg (by simpa [hsys] using hstage), hat, hsys] at hrun
  exact ⟨{ u with sys := { s.sys with swap := some { net := s.swapAt, slot := 1 - s.sys.slot, began := none } } },
    rfl, hfw, hrun⟩

end

section
variable {s : State} (dt : Nat) {r : Req} (hf : s.mbxFree) (hp : r.plain) (hbody : r.body = zeros 4)
include hf hp hbody

theorem mbFwSwap_refuses {st : Nat}
    (hrun : cmdFwSwap.run r.body ((s.elapse dt).writeReq cmdFwSwap.op r) =
      ans st [] ((s.elapse dt).writeReq cmdFwSwap.op r)) :
    ∃ t, exec (.mbFwSwap dt r) s = .next t ∧ t.answered 0x0E02 r st [] ∧ t.sys = s.sys ∧
      t.onlyChanges s answerParts := by
  obtain ⟨t, hexec, hans, honly⟩ := mailbox_read s dt cmdFwSwap r (by decide) hf hp (by rw [hbody]; rfl) st [] hrun
  exact ⟨t, hexec, hans, honly.2 .system (by decide), honly⟩

theorem mbFwSwap_bad (hwhole : s.imageWhole) (hbad : s.fwOk s.fwStagedBytes = false) :
    ∃ t, exec (.mbFwSwap dt r) s = .next t ∧ t.answered 0x0E02 r stDenied [] ∧ t.sys = s.sys ∧
      t.onlyChanges s answerParts ∧ t.tallyAt (tlSec 10) = min tlyMax (s.tallyAt (tlSec 10) + 1) := by
  let w := (s.elapse dt).writeReq cmdFwSwap.op r
  obtain ⟨t, hexec, hans, honly, ht⟩ := mailbox_change s dt cmdFwSwap r answerParts (by decide) hf hp
    (by rw [hbody]; rfl) _ _ _ (cmdFwSwap_bad (s := w) hwhole hbad) (fun _ h => h)
    (only_sub (State.count_touch ..) (by decide))
  refine ⟨t, hexec, hans, honly.2 .system (by decide), honly, ?_⟩
  rw [ht, State.tallyAt, State.pins_tly]
  exact (respond_live _ _ _ _ _ _ _ (by decide)).trans (count_self w _)

theorem mbFwSwap_accepts (hwhole : s.imageWhole) (hok : s.fwOk s.fwStagedBytes = true) (hmeets : s.imageMeets)
    (h : ¬s.swapBusy) (hgen : s.sec.genUsed < 1024) (hrec : s.sec.recordBad = false) :
    ∃ t, exec (.mbFwSwap dt r) s = .next t ∧ t.answered 0x0E02 r stOk (secNs (s.elapse dt).swapAt ++ zeros 4) ∧
      t.sys = { s.sys with swap := some { net := (s.elapse dt).swapAt, slot := 1 - s.sys.slot, began := none } } ∧
      t.sec.fw = max s.sec.fw (fld s.fwStagedBytes 0x10 4) := by
  let w := (s.elapse dt).writeReq cmdFwSwap.op r
  have hstage : s.sys.stage ≠ .loader := by
    obtain ⟨-, -, -, -, -, hstage⟩ := hf
    exact hstage
  obtain ⟨u, hsys, hfw, hrun⟩ := cmdFwSwap_accepts (b := r.body) (s := w) hwhole hok hmeets h hgen hrec hstage
  obtain ⟨t, hexec, hans, ht⟩ := mailbox_done (s.elapse dt) cmdFwSwap r (by decide) hf hp (by rw [hbody]; rfl)
    _ _ _ hrun
  refine ⟨t, hexec, hans, ?_, ?_⟩
  · rw [ht, State.pins_sys, State.respond_sys]
    exact hsys
  · rw [ht, State.pins_sec, State.respond_sec]
    exact hfw

end

/-! ### The swap at S (R554) -/

theorem tellerFall_kept (s : State) (stage : Stage) : (s.tellerFall stage).sys.stage = stage ∧
    (s.tellerFall stage).hif.ready = false ∧ (s.tellerFall stage).clk = s.clk := by
  unfold State.tellerFall
  extract_lets t
  have ht : t.clk = s.clk := by
    unfold t
    split
    · split
      · rfl
      · split
        · unfold State.flbAbandon
          split <;> rfl
        · rfl
    · rfl
  exact ⟨rfl, rfl, ht⟩

section
variable {s : State} {dt : Nat} {w : FwSwap} (hw : s.sys.swap = some w)
include hw

theorem fwSwap_runs : exec (.fwSwap dt) s =
    go (if w.began.isSome || !s.tellerUp || (s.elapse dt).net + 2 < w.net then s.elapse dt
      else { (s.elapse dt).tellerFall .swap with
        sys := { ((s.elapse dt).tellerFall .swap).sys with
          swap := some { w with began := some ((s.elapse dt).tellerFall .swap).now } } }) := by
  show execFwSwap dt s = _
  unfold execFwSwap
  dsimp only
  rw [show (s.elapse dt).sys.swap = some w from hw]
  rfl

theorem fwSwap_falls (hb : w.began = none) (hup : s.tellerUp = true) (hnet : w.net ≤ (s.elapse dt).net + 2) :
    ∃ t, exec (.fwSwap dt) s = .next t ∧ t.sys.stage = .swap ∧ t.hif.ready = false ∧
      t.sys.swap = some { w with began := some (s.elapse dt).now } ∧ t.par = s.par ∧ t.gaf = s.gaf ∧
      t.pd = s.pd := by
  obtain ⟨hstage, hready, hclk⟩ := tellerFall_kept (s.elapse dt) .swap
  have honly := State.tellerFall_touch (s.elapse dt) .swap
  refine ⟨_, (fwSwap_runs hw).trans (congrArg go (if_neg ?_)), ?_⟩
  · rw [hb, hup]
    simpa using hnet
  · generalize (s.elapse dt).tellerFall .swap = u at hstage hready hclk honly ⊢
    refine ⟨?_, ?_, ?_, ?_, ?_, ?_⟩
    · rw [State.pins_sys]
      exact hstage
    · rw [pins_hif]
      exact hready
    · rw [State.pins_sys, ← now_of_clk hclk]
    · rw [State.pins_par]
      exact honly.2 .parison (by decide)
    · rw [State.pins_gaf]
      exact honly.2 .gaffer (by decide)
    · rw [State.pins_pd]
      exact honly.2 .store (by decide)

theorem fwSwap_idle (h : w.began ≠ none ∨ s.tellerUp = false ∨ (s.elapse dt).net + 2 < w.net) :
    ∃ t, exec (.fwSwap dt) s = .next t ∧ t.onlyChanges s [] := by
  refine exec_idle (dt := dt) ((fwSwap_runs hw).trans (congrArg go (if_pos ?_)))
  rw [Bool.or_eq_true, Bool.or_eq_true, decide_eq_true_eq, Option.isSome_iff_ne_none, Bool.not_eq_true']
  exact or_assoc.mpr h

theorem fwSwapComplete_runs : exec (.fwSwapComplete dt) s =
    go (if s.sys.stage == .swap && (s.elapse dt).swapRuns w then (s.elapse dt).swapDone w else s.elapse dt) := by
  show execFwSwapComplete dt s = _
  unfold execFwSwapComplete
  dsimp only
  rw [show (s.elapse dt).sys.swap = some w from hw]
  rfl

theorem fwSwapComplete_idle (h : s.sys.stage ≠ .swap ∨ (s.elapse dt).swapRuns w = false) :
    ∃ t, exec (.fwSwapComplete dt) s = .next t ∧ t.onlyChanges s [] := by
  refine exec_idle (dt := dt) ((fwSwapComplete_runs hw).trans (congrArg go (if_neg ?_)))
  obtain h | h := h <;> simp [h]

theorem fwRevert_runs : exec (.fwRevert dt) s =
    go (if s.sys.stage == .swap && !(s.elapse dt).swapRuns w then (s.elapse dt).swapBack w else s.elapse dt) := by
  show execFwRevert dt s = _
  unfold execFwRevert
  dsimp only
  rw [show (s.elapse dt).sys.swap = some w from hw]
  rfl

theorem fwRevert_idle (h : s.sys.stage ≠ .swap ∨ (s.elapse dt).swapRuns w = true) :
    ∃ t, exec (.fwRevert dt) s = .next t ∧ t.onlyChanges s [] := by
  refine exec_idle (dt := dt) ((fwRevert_runs hw).trans (congrArg go (if_neg ?_)))
  obtain h | h := h <;> simp [h]

end

theorem fwSwap_none {s : State} {dt : Nat} (h : s.sys.swap = none) :
    ∀ c ∈ [Instr.fwSwap dt, .fwSwapComplete dt, .fwRevert dt],
      ∃ t, exec c s = .next t ∧ t.onlyChanges s [] := by
  have hnone : (s.elapse dt).sys.swap = none := h
  intro c hc
  refine exec_idle (dt := dt) ?_
  simp only [List.mem_cons, List.not_mem_nil, or_false] at hc
  obtain rfl | rfl | rfl := hc
  · show execFwSwap dt s = _
    unfold execFwSwap
    dsimp only
    rw [hnone]
  · show execFwSwapComplete dt s = _
    unfold execFwSwapComplete
    dsimp only
    rw [hnone]
  · show execFwRevert dt s = _
    unfold execFwRevert
    dsimp only
    rw [hnone]

/-! ### The new teller serves, or the old one does again (R554, R556) -/

/-- The teller runs an image and serves. -/
def State.serveImage (s : State) (k : Nat) : State := (s.runImage k).serveAgain.insertion

/-- No swap runs any more. -/
def State.swapOver (s : State) : State := { s with sys := { s.sys with swap := none } }

section
variable (s : State) (k : Nat)

theorem serveImage_sys : (s.serveImage k).sys = (s.runImage k).sys :=
  ((State.insertion_touch _).2 .system (by decide)).trans ((State.serveAgain_touch _).2 .system (by decide))

theorem serveImage_ready : (s.serveImage k).hif.ready = true :=
  (insertion_ready _).trans (serveAgain_ready _)

theorem serveImage_sec {j : Nat} (hj : SecKey j) : (s.serveImage k).tallyAt j = s.tallyAt j :=
  (only_tallyAt (State.insertion_touch _) (by decide) j).trans ((serveAgain_sec _ hj).trans rfl)

variable (w : FwSwap)

/-- What the end of a swap reports. -/
theorem swapDone_steps : ∃ args, s.swapDone w =
    ((s.serveImage w.slot).swapOver.nameSlot.count (tlSec 8)).note (ev 17 5) args := by
  unfold State.swapDone
  extract_lets old u
  have hu : u = s.serveImage w.slot := rfl
  clear_value u
  rw [← hu]
  exact ⟨_, rfl⟩

theorem swapDone_serves : (s.swapDone w).sys = { (s.runImage w.slot).sys with swap := none } ∧
    (s.swapDone w).hif.ready = true ∧
    (s.swapDone w).tallyAt (tlSec 8) = min tlyMax (s.tallyAt (tlSec 8) + 1) := by
  have hkey : SecKey (tlSec 8) := secKey_of (by decide)
  have hsys := serveImage_sys s w.slot
  have hready := serveImage_ready s w.slot
  have htally := serveImage_sec s w.slot hkey
  obtain ⟨args, hrun⟩ := swapDone_steps s w
  rw [hrun]
  generalize s.serveImage w.slot = u at hsys hready htally ⊢
  have hname := State.nameSlot_touch u.swapOver
  have hnamed := nameSlot_sec u.swapOver hkey
  generalize u.swapOver.nameSlot = v at hname hnamed ⊢
  refine ⟨?_, ?_, ?_⟩
  · rw [State.note_sys, State.count_sys, hname.2 .system (by decide), State.swapOver, hsys]
  · rw [State.note_hif_ready]
    have hmail := hname.2 .mailbox (by decide)
    exact (congrArg Hif.ready hmail :).trans hready
  · exact (note_sec _ hkey ..).trans ((count_self v _).trans (congrArg (min tlyMax <| · + 1)
      (hnamed.trans htally)))

theorem swapBack_serves (h : s.fwOk (s.flash.slot (1 - w.slot)) = true) : (s.swapBack w).sys.stage = .up ∧
    (s.swapBack w).sys.slot = 1 - w.slot ∧ (s.swapBack w).sys.swap = none ∧ (s.swapBack w).hif.ready = true ∧
    (s.swapBack w).tallyAt (tlSec 9) = min tlyMax (s.tallyAt (tlSec 9) + 1) := by
  have hkey : SecKey (tlSec 9) := secKey_of (by decide)
  let u := s.swapOver
  have hrun : ∃ args, s.swapBack w = ((u.serveImage (1 - w.slot)).count (tlSec 9)).note (ev 17 6) args :=
    ⟨_, if_pos h⟩
  obtain ⟨args, hrun⟩ := hrun
  have hsys := serveImage_sys u (1 - w.slot)
  have hready := serveImage_ready u (1 - w.slot)
  have htally := serveImage_sec u (1 - w.slot) hkey
  rw [hrun]
  generalize u.serveImage (1 - w.slot) = v at hsys hready htally ⊢
  rw [State.note_sys, State.count_sys, hsys, State.note_hif_ready]
  exact ⟨rfl, rfl, rfl, hready, (note_sec _ hkey ..).trans ((count_self v _).trans
    (congrArg (min tlyMax <| · + 1) htally))⟩

theorem swapBack_loads (h : s.fwOk (s.flash.slot (1 - w.slot)) = false) :
    (s.swapBack w).sys.stage = .loader ∧ (s.swapBack w).sys.swap = none := by
  let u := s.swapOver
  have hrun : s.swapBack w = (u.loaderStart 1).serveAgain := if_neg (Bool.eq_false_iff.mp h)
  have hsys : (s.swapBack w).sys = (u.loaderStart 1).sys := by
    rw [hrun]
    exact (State.serveAgain_touch _).2 .system (by decide)
  rw [hsys, State.loaderStart, State.note_sys]
  exact ⟨rfl, rfl⟩

end

section
variable {s : State} {dt : Nat} {w : FwSwap} (hw : s.sys.swap = some w) (hstage : s.sys.stage = .swap)
include hw hstage

theorem fwSwapComplete_serves (hruns : (s.elapse dt).swapRuns w = true) :
    ∃ t, exec (.fwSwapComplete dt) s = .next t ∧
      t.sys.stage = .up ∧ t.sys.slot = w.slot ∧ t.sys.swap = none ∧ t.hif.ready = true ∧
      t.sys.version = BitVec.ofNat 32 (fld (s.flash.slot w.slot) 0x14 4) ∧ t.par = s.par ∧ t.gaf = s.gaf ∧
      t.tallyAt (tlSec 8) = min tlyMax (s.tallyAt (tlSec 8) + 1) := by
  obtain ⟨hsys, hready, htally⟩ := swapDone_serves (s.elapse dt) w
  have honly := State.swapDone_touch (s.elapse dt) w
  refine ⟨_, (fwSwapComplete_runs hw).trans (congrArg go (if_pos (by simp [hstage, hruns]))), ?_⟩
  generalize (s.elapse dt).swapDone w = u at hsys hready htally honly ⊢
  rw [State.tallyAt, State.pins_tly, State.pins_sys, pins_hif, State.pins_par, State.pins_gaf, hsys]
  exact ⟨rfl, rfl, rfl, hready, rfl, honly.2 .parison (by decide), honly.2 .gaffer (by decide), htally⟩

variable (hruns : (s.elapse dt).swapRuns w = false)
include hruns

theorem fwRevert_serves (hold : s.fwOk (s.flash.slot (1 - w.slot)) = true) :
    ∃ t, exec (.fwRevert dt) s = .next t ∧ t.sys.stage = .up ∧ t.sys.slot = 1 - w.slot ∧
      t.sys.swap = none ∧ t.hif.ready = true ∧
      t.tallyAt (tlSec 9) = min tlyMax (s.tallyAt (tlSec 9) + 1) := by
  have hback := swapBack_serves (s.elapse dt) w hold
  refine ⟨_, (fwRevert_runs hw).trans (congrArg go (if_pos (by simp [hstage, hruns]))), ?_⟩
  rw [State.tallyAt, State.pins_tly, State.pins_sys, pins_hif]
  exact hback

theorem fwRevert_loads (hold : s.fwOk (s.flash.slot (1 - w.slot)) = false) :
    ∃ t, exec (.fwRevert dt) s = .next t ∧ t.sys.stage = .loader ∧ t.sys.swap = none := by
  have hback := swapBack_loads (s.elapse dt) w hold
  refine ⟨_, (fwRevert_runs hw).trans (congrArg go (if_pos (by simp [hstage, hruns]))), ?_⟩
  rw [State.pins_sys]
  exact hback

end

/-! ### O59 -/

/-- Settles O59, by the order of the guards of staging and of a swap, and by what the teller's gap leaves. -/
theorem firmwareIsSwapped : Obligations.FirmwareIsSwapped := by
  unfold Obligations.FirmwareIsSwapped
  refine ⟨fun s dt r hf hp => ⟨mbFwStage_answers dt hf hp, fun hbody => ?_⟩, fun s dt w hw => ?_,
    fun s dt => fwSwap_none⟩
  · let w := (s.elapse dt).writeReq cmdFwSwap.op r
    refine ⟨fun hno => mbFwSwap_refuses dt hf hp hbody (cmdFwSwap_part (s := w) hno),
      fun hwhole hok hno => mbFwSwap_refuses dt hf hp hbody (cmdFwSwap_unmet (s := w) hwhole hok hno),
      fun hwhole hbad => ?_, fun hwhole hok hmeets hbusy => ?_, mbFwSwap_accepts dt hf hp hbody⟩
    · obtain ⟨t, hexec, hans, hsys, honly, htally⟩ := mbFwSwap_bad dt hf hp hbody hwhole hbad
      exact ⟨⟨t, hexec, hans, hsys, honly⟩, t, hexec, htally⟩
    · obtain ⟨t, hexec, hans, -, honly⟩ := mbFwSwap_refuses dt hf hp hbody
        (cmdFwSwap_busy (s := w) hwhole hok hmeets hbusy)
      exact ⟨t, hexec, hans, honly⟩
  · exact ⟨fwSwap_falls hw, fwSwap_idle hw, fwSwapComplete_serves hw, fwSwapComplete_idle hw,
      fwRevert_serves hw, fwRevert_loads hw, fwRevert_idle hw⟩

end Sys2Proof.Machine

/-! SUPPORT. Chapter 17: resets, the choice of an image, the teller's start, the default parison (R429, R535 to
R551, R555, R581). -/

namespace Sys2Proof.Machine

/-! ### What a reset of the main die leaves (R550) -/

/-- The main die in reset: what a reset clears and what it keeps. -/
abbrev State.resetFrom (t s e : State) : Prop :=
  t.sys.stage = .reset ∧ t.flash = { s.flash with defer := [] } ∧
    t.par = State.reset.par ∧ t.gaf = State.reset.gaf ∧ t.pd = State.reset.pd ∧
    t.can = State.reset.can ∧ t.meas = State.reset.meas ∧ t.bridge = State.reset.bridge ∧
    t.hif.ready = false ∧ t.hif.respValid = false ∧ t.day.per = s.day.per ∧
    t.sec.rootPk = s.sec.rootPk ∧ t.clk.loc = e.clk.loc

/-- The real-time counter goes on. -/
abbrev State.rtcKept (t s : State) : Prop := t.time.rtcSec = s.time.rtcSec ∧ t.time.rtcAt = s.time.rtcAt

section
variable (s : State) (power : Bool)

theorem fillSlots_resetFrom {t e : State} (h : t.resetFrom s e) (hrtc : t.rtcKept s) :
    t.fillSlots.resetFrom s e ∧ t.fillSlots.rtcKept s := by
  have hfill := (State.fillSlots_touch t).2
  have hready : t.fillSlots.hif.ready = t.hif.ready := (congrArg Hif.ready (hfill .mailbox (by decide)) :)
  have hvalid : t.fillSlots.hif.respValid = t.hif.respValid := (congrArg Hif.respValid (hfill .mailbox (by decide)) :)
  rw [State.resetFrom, State.rtcKept, hfill .system (by decide), hfill .flash (by decide),
    hfill .parison (by decide), hfill .gaffer (by decide), hfill .store (by decide), hfill .can (by decide),
    hfill .measure (by decide), hfill .bridge (by decide), hready, hvalid, hfill .daybook (by decide),
    hfill .vault (by decide), hfill .time (by decide), fillSlots_clk]
  exact ⟨h, hrtc⟩

theorem mainReset_resets : (s.mainReset power).resetFrom s s ∧ (s.mainReset power).rtcKept s := by
  unfold State.mainReset
  extract_lets z _ _ _ _ _ _ _ t
  exact fillSlots_resetFrom s (t := t) ⟨rfl, rfl, rfl, rfl, rfl, rfl, rfl, rfl, rfl, rfl, rfl, rfl, rfl⟩
    ⟨rfl, rfl⟩

theorem mainReset_sys : (s.mainReset power).sys = { State.reset.sys with
    porst := s.sys.porst, sysrst := s.sys.sysrst, bootSrc := s.sys.bootSrc
    hostsel := s.sys.hostsel, pref := s.sys.pref, sfdp := s.sys.sfdp, cause := s.sys.cause
    retired := if power then [] else s.sys.retired } := by
  unfold State.mainReset
  exact ((State.fillSlots_touch _).2 .system (by decide)).trans rfl

theorem mainReset_feeds : (s.mainReset power).feedA = s.feedA.restarted power ∧
    (s.mainReset power).feedB = s.feedB.restarted power := by
  unfold State.mainReset
  have hfill (t : State) := (State.fillSlots_touch t).2
  obtain ⟨hA, hB⟩ := hfill _ .feeds (by decide)
  exact ⟨hA.trans rfl, hB.trans rfl⟩

end

section
variable {t s e : State}

theorem resetFrom_pins (h : t.resetFrom s e) : t.pins.resetFrom s e := by
  rw [State.resetFrom, State.pins_sys, State.pins_flash, State.pins_par, State.pins_gaf, State.pins_pd,
    State.pins_can, State.pins_meas, State.pins_bridge, pins_hif, State.pins_day, State.pins_sec, State.pins_clk]
  exact h

theorem rtcKept_pins (h : t.rtcKept s) : t.pins.rtcKept s := by
  rw [State.rtcKept, State.pins_time]
  exact h

end

/-! ### PORST_N and SYSRST_N (R550, R551, R581) -/

/-- The state in which PORST_N is low. -/
def State.porstLow (s : State) : State := { s with sys := { s.sys with porst := true } }

/-- The state in which SYSRST_N is low. -/
def State.sysrstLow (s : State) : State := { s with sys := { s.sys with sysrst := true } }

section
variable {s : State} {dt n : Nat}

theorem porstNAssert_short (h : n ≤ 1000) : ∃ t, exec (.porstNAssert dt n) s = .next t ∧ t.onlyChanges s [] := by
  refine exec_idle (dt := dt) ?_
  show execPorstNAssert dt n s = _
  unfold execPorstNAssert
  dsimp only
  rw [if_neg (show ¬(decide (n > 1000) && decide (n < 10000)) = true by
    rw [Bool.and_eq_true, decide_eq_true_eq]; omega)]
  rw [if_neg]
  rw [Bool.or_eq_true, Bool.and_eq_true, decide_eq_true_eq, decide_eq_true_eq]
  omega

/-- A pulse that resets. -/
theorem porstLow_resets (s : State) : (s.porstLow.mainReset true).pins.sys.porst = true ∧
    (s.porstLow.mainReset true).pins.resetFrom s s ∧ (s.porstLow.mainReset true).pins.rtcKept s ∧
    (s.porstLow.mainReset true).pins.sys.retired = [] ∧ (s.porstLow.mainReset true).pins.feedA.warnings = 0 ∧
    (s.porstLow.mainReset true).pins.feedB.losses = 0 := by
  obtain ⟨hreset, hrtc⟩ := mainReset_resets s.porstLow true
  have hsys := mainReset_sys s.porstLow true
  obtain ⟨hA, hB⟩ := mainReset_feeds s.porstLow true
  rw [State.pins_sys, State.pins_feedA, State.pins_feedB, hsys, hA, hB]
  exact ⟨rfl, resetFrom_pins hreset, rtcKept_pins hrtc, rfl, rfl, rfl⟩

theorem porstNAssert_long (h : 10000 ≤ n) :
    exec (.porstNAssert dt n) s = go ((s.elapse dt).porstLow.mainReset true) := by
  show execPorstNAssert dt n s = _
  unfold execPorstNAssert
  dsimp only
  rw [if_neg (show ¬(decide (n > 1000) && decide (n < 10000)) = true by
    rw [Bool.and_eq_true, decide_eq_true_eq, decide_eq_true_eq]; omega)]
  exact congrArg go (if_pos (by simp [h]))

theorem porstNAssert_between (h : 1000 < n) (h' : n < 10000) :
    exec (.porstNAssert dt n) s = go (((s.elapse dt).fresh 1).2.porstLow.mainReset true) ∨
      exec (.porstNAssert dt n) s = go ((s.elapse dt).fresh 1).2 := by
  have hmid : (decide (n > 1000) && decide (n < 10000)) = true := by
    rw [Bool.and_eq_true, decide_eq_true_eq, decide_eq_true_eq]
    exact ⟨h, h'⟩
  by_cases hit : (decide (n ≥ 10000) || (decide (n > 1000) && ((s.elapse dt).fresh 1).1 == 1)) = true
  · left
    show execPorstNAssert dt n s = _
    unfold execPorstNAssert
    dsimp only
    rw [if_pos hmid]
    exact congrArg go (if_pos hit)
  · right
    show execPorstNAssert dt n s = _
    unfold execPorstNAssert
    dsimp only
    rw [if_pos hmid]
    exact congrArg go (if_neg hit)

/-- A warm reset keeps what the node knows of its units. -/
theorem sysrstLow_resets (s : State) : (s.sysrstLow.mainReset false).pins.sys.sysrst = true ∧
    (s.sysrstLow.mainReset false).pins.resetFrom s s ∧ (s.sysrstLow.mainReset false).pins.rtcKept s ∧
    (s.sysrstLow.mainReset false).pins.sys.retired = s.sys.retired ∧
    (s.sysrstLow.mainReset false).pins.feedA.warnings = s.feedA.warnings ∧
    (s.sysrstLow.mainReset false).pins.sleep.latches = s.sleep.latches := by
  obtain ⟨hreset, hrtc⟩ := mainReset_resets s.sysrstLow false
  have hsys := mainReset_sys s.sysrstLow false
  obtain ⟨hA, -⟩ := mainReset_feeds s.sysrstLow false
  have hsleep := mainReset_sleep s.sysrstLow false
  rw [State.pins_sys, State.pins_feedA, State.pins_sleep, hsys, hA, hsleep]
  exact ⟨rfl, resetFrom_pins hreset, rtcKept_pins hrtc, rfl, rfl, rfl⟩

theorem sysrstNAssert_short (h : n < 200) : ∃ t, exec (.sysrstNAssert dt n) s = .next t ∧ t.onlyChanges s [] := by
  refine exec_idle (dt := dt) ?_
  show execSysrstNAssert dt n s = _
  unfold execSysrstNAssert
  have hhit : (s.elapse dt).sysrstHit n = (false, s.elapse dt) := if_pos h
  dsimp only
  rw [hhit]
  rfl

variable (hup : s.sleep.asleep = false)
include hup

theorem sysrstNAssert_long (h : 1000 ≤ n) :
    exec (.sysrstNAssert dt n) s = go ((s.elapse dt).sysrstLow.mainReset false) := by
  show execSysrstNAssert dt n s = _
  unfold execSysrstNAssert
  have hhit : (s.elapse dt).sysrstHit n = (true, s.elapse dt) := (if_neg (by omega)).trans (if_pos h)
  dsimp only
  rw [hhit]
  exact congrArg go ((if_neg (by simp)).trans (if_neg (by simp [hup])))

theorem sysrstNAssert_between (h : 200 ≤ n) (h' : n < 1000) :
    exec (.sysrstNAssert dt n) s = go (((s.elapse dt).fresh 1).2.sysrstLow.mainReset false) ∨
      exec (.sysrstNAssert dt n) s = go ((s.elapse dt).fresh 1).2 := by
  have hhit : (s.elapse dt).sysrstHit n = (((s.elapse dt).fresh 1).1 == 1, ((s.elapse dt).fresh 1).2) :=
    (if_neg (by omega)).trans (if_neg (by omega))
  have hrun : exec (.sysrstNAssert dt n) s = go (if !(((s.elapse dt).fresh 1).1 == 1) then ((s.elapse dt).fresh 1).2
      else if ((s.elapse dt).fresh 1).2.sleep.asleep then ((s.elapse dt).fresh 1).2.wakeReq 6 0
      else ((s.elapse dt).fresh 1).2.sysrstLow.mainReset false) := by
    show execSysrstNAssert dt n s = _
    unfold execSysrstNAssert
    dsimp only
    rw [hhit]
    rfl
  have hasleep : ((s.elapse dt).fresh 1).2.sleep.asleep = false := hup
  rw [hrun, hasleep]
  cases ((s.elapse dt).fresh 1).1 == 1
  · exact .inr rfl
  · exact .inl rfl

end

theorem vkaLoss_resets (s : State) (dt : Nat) :
    ∃ t, exec (.vkaLoss dt) s = .next t ∧ t.resetFrom s (s.elapse dt) ∧ t.sleep.vka = false ∧
      t.time.rtcSec = 0 ∧ t.time.rtcAt = (s.elapse dt).now := by
  obtain ⟨hreset, -⟩ := mainReset_resets (s.elapse dt) true
  have hnow : ((s.elapse dt).mainReset true).now = (s.elapse dt).now := now_of_clk (mainReset_clk ..)
  refine ⟨_, rfl, ?_⟩
  generalize (s.elapse dt).mainReset true = u at hreset hnow ⊢
  refine ⟨resetFrom_pins hreset, ?_, ?_, ?_⟩
  · rw [State.pins_sleep]
  · rw [State.pins_time]
  · rw [State.pins_time]
    exact hnow

/-! ### Events leave of the flash all but what waits to be written -/

section
variable (s : State)

theorem deferWrite_flash (d : Deferred) : ∃ l, (s.deferWrite d).flash = { s.flash with defer := l } := by
  unfold State.deferWrite
  extract_lets t _ u
  split
  · exact ⟨_, rfl⟩
  · exact ⟨_, rfl⟩

theorem enter_flash (r : RawEv) : ∃ l, (s.enter r).flash = { s.flash with defer := l } := by
  unfold State.enter
  extract_lets e _ t u
  have hu : ∃ l, u.flash = { s.flash with defer := l } := by
    unfold u
    split
    · split
      · exact deferWrite_flash t _
      · exact ⟨_, rfl⟩
    · exact ⟨_, rfl⟩
  obtain ⟨l, hl⟩ := hu
  exact ⟨l, by rw [State.raise_flash, hl]⟩

theorem note_flash (code : Nat) (args : List Byte) : ∃ l, (s.note code args).flash = { s.flash with defer := l } := by
  unfold State.note
  extract_lets t r
  have ht : t.flash = s.flash := by
    unfold t
    split
    · exact State.raise_flash ..
    · rfl
  split
  · obtain ⟨l, hl⟩ := enter_flash t r
    exact ⟨l, by rw [hl, ht]⟩
  · split
    · exact ⟨s.flash.defer, ht⟩
    · exact ⟨s.flash.defer, ht⟩

end

/-! ### The loader and the choice of an image (R545, R546) -/

section
variable (s : State)

theorem loaderStart_starts (cause : Nat) : (s.loaderStart cause).hif.ready = true ∧
    ∃ slot, (s.loaderStart cause).sys =
      { s.sys with stage := .loader, loader := some cause, slot := slot, fwStaged := 0 } := by
  unfold State.loaderStart
  extract_lets none_ slot
  rw [State.note_hif_ready, State.note_sys]
  exact ⟨rfl, slot, rfl⟩

/-- The slot that boot control names. -/
abbrev State.firstSlot (s : State) : Nat := fld s.flash.bootNow 8 1 % 2

/-- The ROM starts the teller from a slot. -/
abbrev State.slotRuns (s : State) (k : Nat) : Prop := s.fwRuns (s.flash.slot k) = true

variable {s}

theorem pickImage_first (h : s.slotRuns s.firstSlot) :
    s.pickImage.sys = { s.sys with stage := .teller, slot := s.firstSlot, failed := none } :=
  congrArg State.sys (if_pos h : s.pickImage = _)

theorem pickImage_other (h : ¬s.slotRuns s.firstSlot) (h' : s.slotRuns (1 - s.firstSlot)) :
    s.pickImage.sys = { s.sys with stage := .teller, slot := 1 - s.firstSlot, failed := some s.firstSlot } :=
  (congrArg State.sys ((if_neg h).trans (if_pos h') : s.pickImage = _)).trans (State.note_sys ..)

theorem pickImage_none (h : ¬s.slotRuns s.firstSlot) (h' : ¬s.slotRuns (1 - s.firstSlot)) :
    s.pickImage = s.loaderStart 1 := (if_neg h).trans (if_neg h')

end

/-! ### The vault and the start (R482, R541, R545) -/

section
variable (s : State)

theorem vaultStart_flash : ∃ l, s.vaultStart.flash = { s.flash with defer := l } := by
  unfold State.vaultStart
  split
  · exact ⟨_, rfl⟩
  · exact note_flash _ _ _

/-- What the vault reads rests on the flash, its own values and one strap. -/
theorem vaultStart_sec {s t : State} (hsec : t.sec = s.sec) (hflash : t.flash = s.flash)
    (hsfdp : t.sys.sfdp = s.sys.sfdp) : t.vaultStart.sec = s.vaultStart.sec := by
  have hrecord : t.record = s.record := by
    rw [State.record, State.record, hflash, hsec]
  unfold State.vaultStart
  rw [hrecord, hsfdp]
  split
  · dsimp only
    rw [hsec]
  · rw [State.note_sec, State.note_sec, hsec]

theorem fwRuns_of_sec {s t : State} (h : t.sec = s.sec) (b : List Byte) : t.fwRuns b = s.fwRuns b := by
  rw [State.fwRuns, State.fwRuns, State.fwOk, State.fwOk, h]

/-- The state in which a start chooses: the vault has read its record, events may have been entered. -/
theorem startUp_steps (cause : Nat) : ∃ u : State, u.sys = { s.sys with cause := cause, stage := .rom } ∧
    u.sec = s.vaultStart.sec ∧ (∃ l, u.flash = { s.flash with defer := l }) ∧
    s.startUp cause = if !u.sys.sfdp then u.loaderStart 2
      else if u.sys.bootSrc = 2 then u.loaderStart 0 else u.pickImage := by
  unfold State.startUp
  extract_lets t _ _ _ a b c
  have hsys : b.sys = { s.sys with cause := cause, stage := .rom } :=
    ((State.vaultStart_touch a).2 .system (by decide)).trans rfl
  have hsec : b.sec = s.vaultStart.sec := vaultStart_sec (s := s) (t := a) rfl rfl rfl
  obtain ⟨l, hl⟩ := vaultStart_flash a
  have hflash : b.flash = { s.flash with defer := l } := hl.trans rfl
  refine ⟨c, ?_, ?_, ?_, rfl⟩
  · unfold c
    split
    · rw [State.note_sys, hsys]
    · exact hsys
  · unfold c
    split
    · rw [State.note_sec, hsec]
    · exact hsec
  · unfold c
    split
    · obtain ⟨m, hm⟩ := note_flash b (ev 17 3) (le 1 b.sys.bootSrc.toNat ++ le 1 b.sys.hostsel.toNat)
      exact ⟨m, by rw [hm, hflash]⟩
    · exact ⟨l, hflash⟩

variable {s}

theorem tryStart_starts (cause : Nat) (hporst : s.sys.porst = false) (hsysrst : s.sys.sysrst = false)
    (hvka : s.sleep.vka = true) (hup : s.sleep.asleep = false)
    (hpower : s.feedA.dom ≠ .isolated ∨ s.feedB.dom ≠ .isolated) : s.tryStart cause = s.startUp cause := by
  refine (if_neg (by simp [hporst, hsysrst, hvka, hup])).trans (if_neg ?_)
  rw [State.powered]
  obtain h | h := hpower <;> simp [h]

theorem tryStart_dark (cause : Nat) (hporst : s.sys.porst = false) (hsysrst : s.sys.sysrst = false)
    (hvka : s.sleep.vka = true) (hup : s.sleep.asleep = false) (hA : s.feedA.dom = .isolated)
    (hB : s.feedB.dom = .isolated) : s.tryStart cause = { s with sys := { s.sys with stage := .dark } } := by
  refine (if_neg (by simp [hporst, hsysrst, hvka, hup])).trans (if_pos ?_)
  rw [State.powered, hA, hB]
  rfl

/-- A start without a good flash, or from the loader's strap. -/
theorem startUp_loads {cause why : Nat} (h : (s.sys.sfdp = false ∧ why = 2) ∨
    (s.sys.sfdp = true ∧ s.sys.bootSrc = 2 ∧ why = 0)) : (s.startUp cause).hif.ready = true ∧
    ∃ slot, (s.startUp cause).sys =
      { s.sys with cause := cause, stage := .loader, loader := some why, slot := slot, fwStaged := 0 } := by
  obtain ⟨u, hsys, -, -, hrun⟩ := startUp_steps s cause
  have hload : s.startUp cause = u.loaderStart why := by
    rw [hrun, hsys]
    obtain ⟨hsfdp, rfl⟩ | ⟨hsfdp, hsrc, rfl⟩ := h
    · exact if_pos (by simp [hsfdp])
    · exact (if_neg (by simp [hsfdp])).trans (if_pos hsrc)
  obtain ⟨hready, slot, hslot⟩ := loaderStart_starts u why
  rw [hload]
  exact ⟨hready, slot, by rw [hslot, hsys]⟩

/-- A start from the flash: the image of the slot named, the other one, or the loader. -/
theorem startUp_picks (cause : Nat) (hsfdp : s.sys.sfdp = true) (hsrc : s.sys.bootSrc ≠ 2)
    {runs : Nat → Prop} (hruns : ∀ j, runs j ↔ s.vaultStart.fwRuns (s.flash.slot j) = true) :
    (runs s.firstSlot → (s.startUp cause).sys =
      { s.sys with cause := cause, stage := .teller, slot := s.firstSlot, failed := none }) ∧
    (¬runs s.firstSlot → runs (1 - s.firstSlot) → (s.startUp cause).sys =
      { s.sys with cause := cause, stage := .teller, slot := 1 - s.firstSlot, failed := some s.firstSlot }) ∧
    (¬runs s.firstSlot → ¬runs (1 - s.firstSlot) → ∃ slot, (s.startUp cause).sys =
      { s.sys with cause := cause, stage := .loader, loader := some 1, slot := slot, fwStaged := 0 }) := by
  obtain ⟨u, hsys, hsec, ⟨l, hflash⟩, hrun⟩ := startUp_steps s cause
  have hpick : s.startUp cause = u.pickImage := by
    rw [hrun, hsys]
    exact (if_neg (by simp [hsfdp])).trans (if_neg hsrc)
  have hfirst : u.firstSlot = s.firstSlot := by rw [State.firstSlot, hflash]; rfl
  have hslot (j : Nat) : u.slotRuns j ↔ runs j := by
    rw [hruns, State.slotRuns, fwRuns_of_sec hsec, hflash]
    rfl
  rw [hpick, ← hfirst, ← hslot, ← hslot]
  refine ⟨fun h => ?_, fun h h' => ?_, fun h h' => ?_⟩
  · rw [pickImage_first h, hsys]
  · rw [pickImage_other h h', hsys]
  · obtain ⟨-, slot, hload⟩ := loaderStart_starts u 1
    exact ⟨slot, by rw [pickImage_none h h', hload, hsys]⟩

end

/-! ### PORST_N_RELEASE, SYSRST_N_RELEASE (R537, R538, R541) -/

/-- The state in which the straps have been sampled. -/
def State.strapped (s : State) (src sel : BitVec 2) (pref sfdp : Bool) : State :=
  { s with
    sys := { s.sys with porst := false, bootSrc := src, hostsel := sel, pref := pref, sfdp := sfdp }
    sleep := { s.sleep with vka := true } }

section
variable {s : State} {dt : Nat} {src sel : BitVec 2} {pref sfdp : Bool}

theorem porstNRelease_idle (hporst : s.sys.porst = false) (hvka : s.sleep.vka = true) :
    ∃ t, exec (.porstNRelease dt src sel pref sfdp) s = .next t ∧ t.onlyChanges s [] :=
  exec_idle (dt := dt) (congrArg go (if_pos (by simp [hporst, hvka])))

variable (hup : s.sleep.asleep = false) (hsysrst : s.sys.sysrst = false)
  (hpower : s.feedA.dom ≠ .isolated ∨ s.feedB.dom ≠ .isolated)
  (hheld : s.sys.porst = true ∨ s.sleep.vka = false)
include hup hsysrst hpower hheld

theorem porstNRelease_starts : exec (.porstNRelease dt src sel pref sfdp) s =
    go (((s.elapse dt).strapped src sel pref sfdp).startUp 0) := by
  refine congrArg go ((if_neg ?_).trans (tryStart_starts 0 rfl hsysrst rfl hup hpower))
  show ¬(!s.sys.porst && s.sleep.vka) = true
  obtain h | h := hheld <;> simp [h]

theorem porstNRelease_loads {why : Nat} (h : (sfdp = false ∧ why = 2) ∨ (sfdp = true ∧ src = 2 ∧ why = 0)) :
    ∃ t, exec (.porstNRelease dt src sel pref sfdp) s = .next t ∧ t.sys.stage = .loader ∧
      t.sys.loader = some why ∧ t.hif.ready = true ∧ t.sys.cause = 0 := by
  obtain ⟨hready, slot, hsys⟩ := startUp_loads (s := (s.elapse dt).strapped src sel pref sfdp) (cause := 0) h
  refine ⟨_, porstNRelease_starts hup hsysrst hpower hheld, ?_⟩
  rw [State.pins_sys, pins_hif, hsys]
  exact ⟨rfl, rfl, hready, rfl⟩

theorem porstNRelease_picks (hsfdp : sfdp = true) (hsrc : src ≠ 2) {runs : Nat → Prop} (hruns : ∀ j, runs j ↔
      ((s.elapse dt).strapped src sel pref sfdp).vaultStart.fwRuns (s.flash.slot j) = true) :
    ∃ t, exec (.porstNRelease dt src sel pref sfdp) s = .next t ∧ t.sys.porst = false ∧
      t.sys.bootSrc = src ∧ t.sys.hostsel = sel ∧ t.sys.pref = pref ∧ t.sys.cause = 0 ∧
      (runs s.firstSlot → t.sys.stage = .teller ∧ t.sys.slot = s.firstSlot ∧ t.sys.failed = none) ∧
      (¬runs s.firstSlot → runs (1 - s.firstSlot) → t.sys.stage = .teller ∧ t.sys.slot = 1 - s.firstSlot ∧
        t.sys.failed = some s.firstSlot) ∧
      (¬runs s.firstSlot → ¬runs (1 - s.firstSlot) → t.sys.stage = .loader ∧ t.sys.loader = some 1) := by
  obtain ⟨hfirst, hother, hnone⟩ := startUp_picks (s := (s.elapse dt).strapped src sel pref sfdp) 0 hsfdp hsrc hruns
  refine ⟨_, porstNRelease_starts hup hsysrst hpower hheld, ?_⟩
  rw [State.pins_sys]
  by_cases hk : runs s.firstSlot
  · rw [hfirst hk]
    exact ⟨rfl, rfl, rfl, rfl, rfl, fun _ => ⟨rfl, rfl, rfl⟩, fun h => absurd hk h, fun h => absurd hk h⟩
  · by_cases hj : runs (1 - s.firstSlot)
    · rw [hother hk hj]
      exact ⟨rfl, rfl, rfl, rfl, rfl, fun h => absurd h hk, fun _ _ => ⟨rfl, rfl, rfl⟩, fun _ h => absurd hj h⟩
    · obtain ⟨slot, hload⟩ := hnone hk hj
      rw [hload]
      exact ⟨rfl, rfl, rfl, rfl, rfl, fun h => absurd h hk, fun _ h => absurd h hj, fun _ _ => ⟨rfl, rfl⟩⟩

end

end Sys2Proof.Machine

/-! SUPPORT. Chapter 17, continued: the teller's start and gaps, the default parison, a feed good again (R429, R517,
R547, R548, R555). -/

namespace Sys2Proof.Machine

/-! ### SYSRST_N_RELEASE (R541, R551) -/

/-- The state in which SYSRST_N is high again. -/
def State.sysrstHigh (s : State) : State := { s with sys := { s.sys with sysrst := false } }

section
variable {s : State} {dt : Nat}

theorem sysrstNRelease_idle (h : s.sys.sysrst = false) :
    ∃ t, exec (.sysrstNRelease dt) s = .next t ∧ t.onlyChanges s [] :=
  exec_idle (dt := dt) (congrArg go (if_pos (by simp [h])))

variable (h : s.sys.sysrst = true) (hporst : s.sys.porst = false) (hvka : s.sleep.vka = true)
  (hup : s.sleep.asleep = false)
include h hporst hvka hup

theorem sysrstNRelease_loads (hpower : s.feedA.dom ≠ .isolated) (hsfdp : s.sys.sfdp = true)
    (hsrc : s.sys.bootSrc = 2) :
    ∃ t, exec (.sysrstNRelease dt) s = .next t ∧ t.sys.sysrst = false ∧ t.sys.cause = 1 ∧
      t.sys.stage = .loader ∧ t.sys.loader = some 0 ∧ t.hif.ready = true := by
  have hstart : (s.elapse dt).sysrstHigh.tryStart 1 = (s.elapse dt).sysrstHigh.startUp 1 :=
    tryStart_starts 1 hporst rfl hvka hup (.inl hpower)
  obtain ⟨hready, slot, hsys⟩ := startUp_loads (s := (s.elapse dt).sysrstHigh) (cause := 1)
    (.inr ⟨hsfdp, hsrc, rfl⟩)
  refine ⟨_, congrArg go ((if_neg (by simp [h])).trans hstart), ?_⟩
  rw [State.pins_sys, pins_hif, hsys]
  exact ⟨rfl, rfl, rfl, rfl, hready⟩

theorem sysrstNRelease_dark (hA : s.feedA.dom = .isolated) (hB : s.feedB.dom = .isolated) :
    ∃ t, exec (.sysrstNRelease dt) s = .next t ∧ t.sys = { s.sys with sysrst := false, stage := .dark } ∧
      t.onlyChanges s [.system] := by
  have hstart : (s.elapse dt).sysrstHigh.tryStart 1 = { (s.elapse dt).sysrstHigh with
      sys := { (s.elapse dt).sysrstHigh.sys with stage := .dark } } := tryStart_dark 1 hporst rfl hvka hup hA hB
  have hhigh : (s.elapse dt).sysrstHigh.onlyChanges (s.elapse dt) [.system] :=
    only_set_sys _ (only_refl ..) (by decide)
  refine ⟨_, congrArg go ((if_neg (by simp [h])).trans hstart), ?_,
    go_only (dt := dt) (only_set_sys _ hhigh (by decide))⟩
  rw [State.pins_sys]
  rfl

end

/-! ### BOOT (R547) -/

/-- A start is counted. -/
def State.bootCounted (s : State) : State := { s with day := { s.day with boot := s.day.boot + 1 } }

/-- The teller runs its image, and its records are applied. -/
def State.bootRun (s : State) : State := (s.runImage s.sys.slot).bootCounted.applyRecords.restoreEnergy

/-- The teller reports its start. -/
def State.bootReport (s : State) (args : List Byte) : State := (s.note (ev 17 0) args).reportWake.nameSlot

/-- The start is over. -/
def State.bootOver (s : State) (load : Bool) : State :=
  { s with sys := { s.sys with loader := none, defaultLoad := load } }

theorem boot_eq (s : State) : ∃ args load,
    s.boot = (s.bootRun.serveAgain.insertion.bootReport args).bootOver load := by
  unfold State.boot
  extract_lets a _ b c noted reported load
  have hb : b = a.bootCounted := rfl
  clear_value b
  have hc : c = b.applyRecords.restoreEnergy.serveAgain.insertion := rfl
  have hrun : c = s.bootRun.serveAgain.insertion := hc.trans (by rw [hb]; rfl)
  clear_value c
  obtain ⟨args, hargs⟩ : ∃ args, reported = c.bootReport args := ⟨_, rfl⟩
  rw [← hrun]
  refine ⟨args, load, ?_⟩
  rw [← hargs]
  clear_value load reported
  rfl

theorem bootRun_sys (s : State) : s.bootRun.sys = (s.runImage s.sys.slot).sys :=
  ((State.restoreEnergy_touch _).2 .system (by decide)).trans
    (((State.applyRecords_touch _).2 .system (by decide)).trans rfl)

theorem bootReport_only (s : State) (args : List Byte) : (s.bootReport args).onlyChanges s (.sleep :: eventParts) :=
  only_step (only_step (note_only s _ _ _ (by decide)) (State.reportWake_touch _) (by decide))
    (State.nameSlot_touch _) (by decide)

theorem bootReport_keeps (s : State) (args : List Byte) :
    (s.bootReport args).sys = s.sys ∧ (s.bootReport args).hif.ready = s.hif.ready := by
  have honly := bootReport_only s args
  generalize s.bootReport args = t at honly ⊢
  exact ⟨honly.2 .system (by decide), (congrArg Hif.ready (honly.2 .mailbox (by decide)) :)⟩

theorem bootReport_serves (s : State) (args : List Byte) :
    (s.serveAgain.insertion.bootReport args).sys = s.sys ∧
      (s.serveAgain.insertion.bootReport args).hif.ready = true := by
  have hready : s.serveAgain.insertion.hif.ready = true := (insertion_ready _).trans (serveAgain_ready s)
  have hsys : s.serveAgain.insertion.sys = s.sys :=
    ((State.insertion_touch _).2 .system (by decide)).trans ((State.serveAgain_touch s).2 .system (by decide))
  obtain ⟨hkeep, hkept⟩ := bootReport_keeps s.serveAgain.insertion args
  rw [hkeep, hkept]
  exact ⟨hsys, hready⟩

/-- The teller serves, running the image of its slot. -/
theorem boot_serves {s : State} {dt : Nat} (h : s.sys.stage = .teller) :
    ∃ t, exec (.boot dt) s = .next t ∧ t.sys.stage = .up ∧
      t.hif.ready = true ∧ t.sys.slot = s.sys.slot ∧
      t.sys.version = BitVec.ofNat 32 (fld (s.flash.slot s.sys.slot) 0x14 4) ∧
      t.sys.revisions = slice (s.flash.slot s.sys.slot) 0x20 32 ∧
      t.sys.fwHash = sha256 ((s.flash.slot s.sys.slot).take (fld (s.flash.slot s.sys.slot) 8 4)) ∧
      t.sys.behav = BitVec.ofNat 8 (fwRevision (s.flash.slot s.sys.slot) s.sec.pin) ∧ t.sys.loader = none ∧
      t.sys.fwStaged = 0 := by
  obtain ⟨args, load, hboot⟩ := boot_eq (s.elapse dt)
  obtain ⟨hsys, hready⟩ := bootReport_serves (s.elapse dt).bootRun args
  rw [bootRun_sys] at hsys
  refine ⟨_, congrArg go ((if_pos (by simp [h])).trans hboot), ?_⟩
  rw [State.pins_sys, pins_hif]
  generalize (s.elapse dt).bootRun.serveAgain.insertion.bootReport args = u at hsys hready ⊢
  rw [State.bootOver, hsys]
  exact ⟨rfl, hready, rfl, rfl, rfl, rfl, rfl, rfl, rfl⟩

theorem boot_idle {s : State} {dt : Nat} (h : s.sys.stage ≠ .teller) :
    ∃ t, exec (.boot dt) s = .next t ∧ t.onlyChanges s [] :=
  exec_idle (dt := dt) (congrArg go (if_neg (by simpa using h)))

/-! ### TELLER_RESTART_COMPLETE (R517, R555) -/

/-- A response stands until the mailbox changes. -/
theorem answered_of_mailbox {s t : State} {op st : Nat} {r : Req} {b : List Byte} {l : List Part}
    (h : t.onlyChanges s l) (hl : Part.mailbox ∉ l) (ha : s.answered op r st b) : t.answered op r st b := by
  have hm := h.2 .mailbox hl
  rw [State.answered, show t.hif.respValid = s.hif.respValid from (congrArg Hif.respValid hm :),
    show t.hif.exec = s.hif.exec from (congrArg Hif.exec hm :),
    show t.hif.reqBusy = s.hif.reqBusy from (congrArg Hif.reqBusy hm :),
    show t.hif.lastStatus = s.hif.lastStatus from (congrArg Hif.lastStatus hm :),
    show t.hif.mbxSeq = s.hif.mbxSeq from (congrArg Hif.mbxSeq hm :),
    show t.hif.resp = s.hif.resp from (congrArg Hif.resp hm :)]
  exact ha

/-- The command that the gap caught is answered. -/
theorem serveAgain_answers {s : State} {h : Held} {r : Req} (hheld : s.hif.held = some h)
    (htag : h.tag = r.tag.toNat) (hseq : h.seq = r.seq.toNat) : s.serveAgain.answered h.op r stRestarted [] := by
  have hserve : s.serveAgain = ((({ s with hif := { s.hif with ready := true } }.respond h.op h.tag h.seq
      stRestarted []).note (ev 16 1) (le 2 h.op ++ le 4 h.seq)).enterHeld).calm := by
    unfold State.serveAgain
    dsimp only
    rw [hheld]
  rw [hserve, htag, hseq]
  have hresp := respond_answered { s with hif := { s.hif with ready := true } } h.op r stRestarted []
  generalize ({ s with hif := { s.hif with ready := true } }.respond h.op r.tag.toNat r.seq.toNat stRestarted []) = u
    at hresp ⊢
  exact answered_of_mailbox (only_step (only_step (note_only u _ _ eventParts (by decide)) (State.enterHeld_touch _)
    (by decide)) (State.calm_touch _) (by decide)) (by decide) hresp

theorem deferWrite_held (s : State) (d : Deferred) : (s.deferWrite d).day.held = s.day.held := by
  unfold State.deferWrite
  extract_lets t _ u
  split <;> rfl

theorem keep_held (d : Day) (e : DayEv) : (d.keep e).held = d.held := by rw [Day.keep]

/-- The volatile ring of the daybook is written. -/
def State.ringed (s : State) (vol : List DayEv) (next : Nat) : State :=
  { s with day := { s.day with vol := vol, volNext := next } }

theorem ringed_held (s : State) (vol : List DayEv) (next : Nat) : (s.ringed vol next).day.held = s.day.held := rfl

theorem enter_held (s : State) (r : RawEv) : (s.enter r).day.held = s.day.held := by
  unfold State.enter
  extract_lets e _ t u
  have ht : t = s.ringed (pushKeep 4096 s.day.vol e) ((s.day.volNext + 1) % 2 ^ 32) := rfl
  have hday := congrArg (fun x : State => x.day.held) ht
  rw [ringed_held] at hday
  clear_value t
  rw [State.raise_day, ← hday]
  unfold u
  split
  · split
    · exact deferWrite_held t _
    · exact keep_held t.day e
  · rfl

theorem serveAgain_held (s : State) : s.serveAgain.day.held = [] := by
  have hcalm (u : State) : u.calm.day.held = u.day.held := by
    unfold State.calm State.writeDeferred
    split
    · rfl
    · refine (foldl_keeps (fun x : State => x.day.held) _ (fun x d => ?_) _ _).trans rfl
      split
      · exact keep_held x.day _
      · rfl
      · rw [State.writeEnergy]
      · rfl
  have henter (u : State) : u.enterHeld.day.held = [] := by
    unfold State.enterHeld
    extract_lets q
    exact (foldl_keeps (fun x : State => x.day.held) _ (fun x r => enter_held x r) _ _).trans rfl
  unfold State.serveAgain
  extract_lets _ t u
  exact (hcalm _).trans (henter u)

section
variable {s : State} {dt : Nat}

theorem tellerRestartComplete_idle (h : s.sys.stage ≠ .restart) :
    ∃ t, exec (.tellerRestartComplete dt) s = .next t ∧ t.onlyChanges s [] :=
  exec_idle (dt := dt) (congrArg go (if_neg (by simpa using h)))

/-- The state in which the teller is up again. -/
def State.tellerBack (s : State) : State := { s with sys := { s.sys with stage := .up, tellerFrom := none } }

theorem tellerRestartComplete_serves (h : s.sys.stage = .restart) :
    ∃ t, exec (.tellerRestartComplete dt) s = .next t ∧ t.sys.stage = .up ∧
      t.hif.ready = true ∧ t.day.held = [] ∧ t.par = s.par ∧ t.gaf = s.gaf ∧
      (∀ (h : Held) (r : Req), s.hif.held = some h → h.tag = r.tag.toNat → h.seq = r.seq.toNat →
        t.answered h.op r stRestarted []) := by
  let u := (s.elapse dt).tellerBack
  have hserve := State.serveAgain_touch u
  have hins := State.insertion_touch u.serveAgain
  have hready := (insertion_ready _).trans (serveAgain_ready u)
  have hheld := serveAgain_held u
  have hans {h : Held} {r : Req} := serveAgain_answers (s := u) (h := h) (r := r)
  have hu : u.sys.stage = .up ∧ u.par = s.par ∧ u.gaf = s.gaf ∧ u.hif.held = s.hif.held :=
    ⟨rfl, rfl, rfl, rfl⟩
  refine ⟨_, congrArg go (if_pos (by simp [h]) : _ = u.serveAgain.insertion), ?_⟩
  clear_value u
  obtain ⟨hstage, hpar, hgaf, hhif⟩ := hu
  have honly : u.serveAgain.insertion.onlyChanges u (.mailbox :: .ports :: .inaug :: eventParts) :=
    only_step (only_sub hserve (by decide)) hins (by decide)
  rw [State.pins_sys, pins_hif, State.pins_day, State.pins_par, State.pins_gaf, honly.2 .system (by decide),
    hins.2 .daybook (by decide), honly.2 .parison (by decide), honly.2 .gaffer (by decide)]
  exact ⟨hstage, hready, hheld, hpar, hgaf, fun h r hh htag hseq =>
    answered_pins (answered_of_mailbox hins (by decide) (hans (hhif.trans hh) htag hseq))⟩

end

/-! ### DEFAULT_PARISON (R548) -/

theorem setBoot_fw (s : State) (o : Nat) (b : List Byte) : (s.setBoot o b).flash.fw0 = s.flash.fw0 := by
  unfold State.setBoot
  split
  · obtain ⟨l, hl⟩ := deferWrite_flash s (.boot o b)
    rw [hl]
  · show (s.flash.writeBoot o b).fw0 = _
    unfold Flash.writeBoot
    dsimp only
    split <;> rfl

theorem note_fw (s : State) (code : Nat) (args : List Byte) : (s.note code args).flash.fw0 = s.flash.fw0 := by
  obtain ⟨l, hl⟩ := note_flash s code args
  rw [hl]

theorem commit_fw (s : State) (b : List Byte) (region : Nat) (cold : Bool) :
    (s.commit b region cold).st.flash.fw0 = s.flash.fw0 := by
  have hadopt (p : Par) : (s.adopt p cold).flash.fw0 = s.flash.fw0 := by
    unfold State.adopt
    extract_lets g slots t
    refine (setBoot_fw ..).trans ?_
    rw [(State.measCommit_touch ..).2 .flash (by decide), (State.commitTracker_touch ..).2 .flash (by decide)]
  unfold State.commit
  extract_lets p
  split
  · rfl
  · rfl
  · split
    · rfl
    · exact hadopt p

theorem report_fw (c : Commit) (b : List Byte) : (c.report b).flash.fw0 = c.st.flash.fw0 := by
  unfold Commit.report
  extract_lets s
  have hs : s.flash = c.st.flash := by
    unfold s
    split <;> rfl
  exact (note_fw ..).trans (congrArg Flash.fw0 hs)

theorem loadDefault_keeps (s : State) (k : Nat) : (s.loadDefault k).sys = { s.sys with defaultLoad := false } ∧
    (s.loadDefault k).flash.fw0 = s.flash.fw0 := by
  unfold State.loadDefault
  extract_lets _ t img c u v
  have ht : t.sys = { s.sys with defaultLoad := false } ∧ t.flash = s.flash := ⟨rfl, rfl⟩
  clear_value t
  obtain ⟨htsys, htflash⟩ := ht
  have hcsys : c.st.sys = t.sys := (State.commit_touch t img k false).2 .system (by decide)
  have hcfw : c.st.flash.fw0 = t.flash.fw0 := commit_fw t img k false
  have husys : u.sys = c.st.sys := (Commit.report_touch c img).2 .system (by decide)
  have hufw : u.flash.fw0 = c.st.flash.fw0 := report_fw c img
  have hv : v.onlyChanges u [.tallies, .parison] :=
    only_ite (State.activate_touch u true 0) (only_sub (State.count_touch ..) (by decide))
  refine ⟨?_, ?_⟩
  · rw [State.note_sys, hv.2 .system (by decide), husys, hcsys, htsys]
  · rw [note_fw, hv.2 .flash (by decide), hufw, hcfw, htflash]

section
variable {s : State} {dt : Nat}

theorem defaultParison_idle (h : s.defaultRegion = none ∨ s.sys.defaultLoad = false ∨ s.tellerUp = false) :
    ∃ t, exec (.defaultParison dt) s = .next t ∧ t.onlyChanges s [] := by
  refine exec_idle (dt := dt) ?_
  show execDefaultParison dt s = _
  unfold execDefaultParison
  dsimp only
  split
  next k hk =>
    refine congrArg go (if_neg ?_)
    obtain h | h | h := h
    · exact absurd (h.symm.trans hk) nofun
    · simp [h]
    · simp [show (s.elapse dt).tellerUp = false from h]
  · rfl

theorem defaultParison_loads {k : Nat} (hk : s.defaultRegion = some k) (hload : s.sys.defaultLoad = true)
    (hup : s.tellerUp = true) : ∃ t, exec (.defaultParison dt) s = .next t ∧ t.sys.defaultLoad = false ∧
      t.sys.stage = .up ∧ t.flash.fw0 = s.flash.fw0 := by
  have hrun : exec (.defaultParison dt) s = go ((s.elapse dt).loadDefault k) := by
    show execDefaultParison dt s = _
    unfold execDefaultParison
    dsimp only
    rw [show (s.elapse dt).defaultRegion = some k from hk]
    exact congrArg go (if_pos (by simp [hload, show (s.elapse dt).tellerUp = true from hup]))
  obtain ⟨hsys, hfw⟩ := loadDefault_keeps (s.elapse dt) k
  refine ⟨_, hrun, ?_⟩
  rw [State.pins_sys, State.pins_flash, hsys, hfw]
  exact ⟨rfl, by simpa [State.tellerUp] using hup, rfl⟩

end

/-! ### FEED_GOOD (R303, R429) -/

section
variable {s : State} {dt : Nat} {d : Fin 2}

/-- The feed of a domain that is there. -/
def State.feedHere (s : State) (d : Nat) : State := s.setFeed d { s.feed d with dom := .present, below := false }

/-- The node that waited for its feed wakes. -/
def State.feedWakes (s : State) (d : Nat) : State :=
  { s.feedHere d with sleep := { s.sleep with asleep := false, wakePending := false } }

theorem feedGood_runs : exec (.feedGood dt d) s = go (if Tab.get 0 s.sys.retired (0x56 + d.val) ≠ 0 then s.elapse dt
    else if s.sleep.asleep && s.sleep.wakePending then ((s.elapse dt).feedWakes d.val).tryStart 2
    else if (s.sys.stage == .rom || s.sys.stage == .teller) && (s.feed d.val).dom == .isolated then
      (s.elapse dt).feedHere d.val
    else s.elapse dt) := by
  show execFeedGood dt d s = _
  unfold execFeedGood State.feedWakes
  dsimp only
  rw [show ((s.elapse dt).setFeed d.val
    { (s.elapse dt).feed d.val with dom := .present, below := false }).sleep = s.sleep from
      ((State.setFeed_touch ..).2 .sleep (by decide)).trans rfl]
  rfl

/-- A feed that is there lets the die start. -/
theorem feedWakes_starts (s : State) {d : Nat} (hd : d < 2) (hporst : s.sys.porst = false)
    (hsysrst : s.sys.sysrst = false) (hvka : s.sleep.vka = true) :
    (s.feedWakes d).tryStart 2 = (s.feedWakes d).startUp 2 := by
  have hsys : (s.feedWakes d).sys = s.sys := (State.setFeed_touch s d _).2 .system (by decide)
  refine tryStart_starts 2 (by rw [hsys]; exact hporst) (by rw [hsys]; exact hsysrst) hvka rfl ?_
  obtain rfl | rfl : d = 0 ∨ d = 1 := by omega
  · exact .inl nofun
  · exact .inr nofun

/-- A start keeps its cause. -/
theorem startUp_cause (s : State) (cause : Nat) : (s.startUp cause).sys.cause = cause := by
  obtain ⟨u, hsys, -, -, hrun⟩ := startUp_steps s cause
  have hload (why : Nat) : (u.loaderStart why).sys.cause = cause := by
    obtain ⟨-, slot, hslot⟩ := loaderStart_starts u why
    rw [hslot, hsys]
  have hpick : u.pickImage.sys.cause = cause := by
    by_cases h : u.slotRuns u.firstSlot
    · rw [pickImage_first h, hsys]
    · by_cases h' : u.slotRuns (1 - u.firstSlot)
      · rw [pickImage_other h h', hsys]
      · rw [pickImage_none h h']
        exact hload 1
  rw [hrun]
  split
  · exact hload 2
  · split
    · exact hload 0
    · exact hpick

variable (hworn : ¬Tab.get 0 s.sys.retired (0x56 + d.val) ≠ 0)
include hworn

theorem feedGood_wakes (hwake : s.sleep.asleep = true ∧ s.sleep.wakePending = true) :
    ∃ t, exec (.feedGood dt d) s = .next t ∧
      t.feed d.val = { s.feed d.val with dom := .present, below := false } ∧
      t.feed (1 - d.val) = s.feed (1 - d.val) ∧ t.sleep.asleep = false ∧ t.sleep.wakePending = false ∧
      (s.sys.porst = false → s.sys.sysrst = false → s.sleep.vka = true → t.sys.cause = 2) := by
  have honly := State.tryStart_touch ((s.elapse dt).feedWakes d.val) 2
  have hfeed (i : Nat) := (pins_feed _ i).trans (only_feed honly (by decide) i)
  refine ⟨_, feedGood_runs.trans (congrArg go ((if_neg hworn).trans (if_pos (by simp [hwake])))), ?_, ?_, ?_, ?_,
    fun hporst hsysrst hvka => ?_⟩
  · exact (hfeed _).trans (feed_setFeed_self (s.elapse dt) (d := d.val) _)
  · exact (hfeed _).trans (feed_setFeed_other (s.elapse dt) _ d.isLt)
  · rw [State.pins_sleep, honly.2 .sleep (by decide)]
    rfl
  · rw [State.pins_sleep, honly.2 .sleep (by decide)]
    rfl
  · rw [State.pins_sys, feedWakes_starts (s.elapse dt) d.isLt hporst hsysrst hvka]
    exact startUp_cause _ 2

theorem feedGood_starting (hwake : ¬(s.sleep.asleep = true ∧ s.sleep.wakePending = true))
    (hstart : s.sys.stage = .rom ∨ s.sys.stage = .teller) (hdom : (s.feed d.val).dom = .isolated) :
    ∃ t, exec (.feedGood dt d) s = .next t ∧
      t.feed d.val = { s.feed d.val with dom := .present, below := false } ∧ t.onlyChanges s [.feeds] := by
  refine ⟨_, feedGood_runs.trans (congrArg go ((if_neg hworn).trans ((if_neg (by simpa using hwake)).trans
    (if_pos (by simpa [hdom] using hstart))))), ?_, go_only (dt := dt) (State.setFeed_touch ..)⟩
  exact (pins_feed ..).trans (feed_setFeed_self (s.elapse dt) (d := d.val) _)

end

theorem feedGood_idle {s : State} {dt : Nat} {d : Fin 2} (h : Tab.get 0 s.sys.retired (0x56 + d.val) ≠ 0 ∨
      (¬(s.sleep.asleep = true ∧ s.sleep.wakePending = true) ∧
        (¬(s.sys.stage = .rom ∨ s.sys.stage = .teller) ∨ (s.feed d.val).dom ≠ .isolated))) :
    ∃ t, exec (.feedGood dt d) s = .next t ∧ t.onlyChanges s [] := by
  refine exec_idle (dt := dt) (feedGood_runs.trans (congrArg go ?_))
  by_cases hworn : Tab.get 0 s.sys.retired (0x56 + d.val) ≠ 0
  · exact if_pos hworn
  · obtain ⟨hwake, hno⟩ := h.resolve_left hworn
    refine (if_neg hworn).trans ((if_neg (by simpa using hwake)).trans (if_neg ?_))
    rw [Bool.and_eq_true, Bool.or_eq_true, beq_iff_eq, beq_iff_eq, beq_iff_eq]
    exact fun ⟨hstart, hdom⟩ => hno.elim (· hstart) (· hdom)

/-! ### O58 -/

/-- Settles O58, by what the reset of the main die leaves, the order in which a start looks for an image, and
what serving again leaves. -/
theorem resetsAndStarts : Obligations.ResetsAndStarts := by
  unfold Obligations.ResetsAndStarts
  refine ⟨fun s dt n => ?_, fun s dt src sel pref sfdp hup hsysrst hpower => ?_, fun s dt => ?_,
    fun s dt => ?_, fun s dt => ?_, fun s dt d => ?_⟩
  · refine ⟨porstNAssert_short, fun h => ?_, fun h h' => ?_, sysrstNAssert_short, fun h hup => ?_,
      fun h h' hup => ?_, vkaLoss_resets s dt⟩
    · exact ⟨_, porstNAssert_long h, porstLow_resets (s.elapse dt)⟩
    · obtain hrun | hrun := porstNAssert_between (s := s) (dt := dt) h h'
      · obtain ⟨hlow, hreset, hrtc, -⟩ := porstLow_resets ((s.elapse dt).fresh 1).2
        exact ⟨_, hrun, .inr ⟨hlow, hreset, hrtc⟩⟩
      · exact ⟨_, hrun, .inl (go_only (dt := dt) (State.fresh_touch ..))⟩
    · exact ⟨_, sysrstNAssert_long hup h, sysrstLow_resets (s.elapse dt)⟩
    · obtain hrun | hrun := sysrstNAssert_between (s := s) (dt := dt) hup h h'
      · obtain ⟨hlow, hreset, hrtc, -⟩ := sysrstLow_resets ((s.elapse dt).fresh 1).2
        exact ⟨_, hrun, .inr ⟨hlow, hreset, hrtc⟩⟩
      · exact ⟨_, hrun, .inl (go_only (dt := dt) (State.fresh_touch ..))⟩
  · intro e k v runs taken
    refine ⟨fun hheld => ⟨⟨fun hsfdp => ?_, fun hsfdp hsrc => ?_⟩, fun hsfdp hsrc => ?_⟩,
      porstNRelease_idle⟩
    · exact porstNRelease_loads hup hsysrst hpower hheld (.inl ⟨hsfdp, rfl⟩)
    · exact porstNRelease_loads hup hsysrst hpower hheld (.inr ⟨hsfdp, hsrc, rfl⟩)
    · have hsec : v.sec = ((s.elapse dt).strapped src sel pref sfdp).vaultStart.sec := vaultStart_sec rfl rfl rfl
      refine porstNRelease_picks hup hsysrst hpower hheld hsfdp hsrc (runs := runs) fun j => ?_
      rw [← fwRuns_of_sec hsec]
  · exact ⟨sysrstNRelease_idle, fun h hporst hvka hup => ⟨sysrstNRelease_loads h hporst hvka hup,
      sysrstNRelease_dark h hporst hvka hup⟩⟩
  · exact ⟨boot_idle, boot_serves, tellerRestartComplete_idle, tellerRestartComplete_serves⟩
  · exact ⟨defaultParison_idle, fun k => defaultParison_loads⟩
  · exact ⟨feedGood_wakes, feedGood_starting, feedGood_idle⟩

end Sys2Proof.Machine

/-! SUPPORT. Chapter 15: rows by the byte that names their operation, warrants staged, checked and carried out
(R480 to R490). -/

namespace Sys2Proof.Machine

/-! ### A request whose first byte names the operation -/

section
variable {r : Req} (v : Byte)

theorem withOp_body (h : r.body ≠ []) : (withOp r v).body = v :: r.body.tail := by
  cases hbody : r.body with
  | nil => exact absurd hbody h
  | cons x l => simp [withOp, overlay, padTo, hbody]

theorem withOp_length (h : r.body ≠ []) : (withOp r v).body.length = r.body.length := by
  rw [withOp_body v h, List.length_cons, List.length_tail]
  have := List.length_pos_of_ne_nil h
  omega

theorem withOp_plain (h : r.body ≠ []) (hp : r.plain) : (withOp r v).plain := by
  obtain ⟨hsize, hmax, hrsv⟩ := hp
  exact ⟨hsize.trans (withOp_length v h).symm, (withOp_length v h).trans_le hmax, hrsv⟩

theorem withOp_drop (h : r.body ≠ []) (o : Nat) : (withOp r v).body.drop (o + 1) = r.body.drop (o + 1) := by
  rw [withOp_body v h, List.drop_succ_cons, List.drop_tail]

theorem withOp_slice (h : r.body ≠ []) (o n : Nat) : slice (withOp r v).body (o + 1) n = slice r.body (o + 1) n := by
  rw [slice, withOp_drop v h, slice]

theorem withOp_fld (h : r.body ≠ []) (o n : Nat) : fld (withOp r v).body (o + 1) n = fld r.body (o + 1) n := by
  rw [fld, withOp_slice v h, fld]

theorem withOp_zeroAt (h : r.body ≠ []) (o n : Nat) :
    zeroAt (withOp r v).body (o + 1) n = zeroAt r.body (o + 1) n := by
  rw [zeroAt, withOp_slice v h, zeroAt]

theorem withOp_op (h : r.body ≠ []) : fld (withOp r v).body 0 1 = v.toNat := by
  rw [withOp_body v h]
  simp [fld, slice, ofLe]

end

/-! ### The record (R480, R481) -/

section
variable {s : State}

theorem recordUpd_sec (s : State) (f : Sec → Sec) : ∃ n, (s.recordUpd f).sec = { f s.sec with genUsed := n } := by
  unfold State.recordUpd
  extract_lets t
  split
  next h => exact ⟨(f s.sec).genUsed, h.symm⟩
  · exact ⟨_, saveRecord_sec t⟩

theorem recordUpd_gen {f : Sec → Sec} (h : f s.sec ≠ s.sec) :
    (s.recordUpd f).sec = { f s.sec with genUsed := (f s.sec).genUsed + 1 } := by
  unfold State.recordUpd
  extract_lets t
  exact (congrArg State.sec (if_neg h)).trans (saveRecord_sec t)

theorem raiseSeq_sec (w : List Byte) (x : Sec) : ∃ n, raiseSeq w x = { x with warrant := n } := by
  unfold raiseSeq
  split
  · exact ⟨_, rfl⟩
  · exact ⟨x.warrant, rfl⟩

end

/-! ### The warrant checked (R488) -/

section
variable (s : State) (ops : List Nat) (f : List Byte → Bool)

/-- The state after the check of the staged warrant. -/
def State.warrantGone (s : State) (ops : List Nat) (f : List Byte → Bool) : State := (s.takeWarrant ops f).2.2

/-- The vault once a warrant is gone with its nonce. -/
def Sec.warrantless (x : Sec) : Sec := { x with stagedW := [], nonce := none }

/-- The staged warrant and the nonce are gone. -/
def State.unwarrant (s : State) : State := { s with sec := s.sec.warrantless }

theorem warrantGone_eq : ∃ args, s.warrantGone ops f =
    (s.unwarrant.count (tlSec (if s.warrantGood ops f then 0 else 1))).note (ev 15 1) args := ⟨_, rfl⟩

theorem warrantGone_sec : (s.warrantGone ops f).sec = s.sec.warrantless := by
  obtain ⟨args, h⟩ := warrantGone_eq s ops f
  rw [h, State.note_sec]
  rfl

theorem warrantGone_only : (s.warrantGone ops f).onlyChanges s (.vault :: eventParts) :=
  only_sub (State.takeWarrant_touch s ops f) (by decide)

theorem warrantGone_bad (h : s.warrantGood ops f = false) :
    (s.warrantGone ops f).tallyAt (tlSec 1) = min tlyMax (s.tallyAt (tlSec 1) + 1) := by
  obtain ⟨args, hgone⟩ := warrantGone_eq s ops f
  rw [hgone, note_sec _ (secKey_of (by decide)), h]
  exact count_self s.unwarrant (tlSec 1)

theorem foldl_boot_dropOldestDay (l : List Deferred) (c : List Byte) (step : List Byte → Deferred → List Byte)
    (h : ∀ c e, step c (.day e) = c) : (dropOldestDay l).foldl step c = l.foldl step c := by
  induction l generalizing c with
  | nil => rfl
  | cons d l ih =>
    cases d with
    | day e => exact congrArg (l.foldl step) (h c e).symm
    | boot o b => exact ih _
    | conf k b => exact ih _
    | energy => exact ih _

/-- An entry that waits for the flash leaves boot control as it will be. -/
theorem deferDay_bootSoon (e : DayEv) : (s.deferWrite (.day e)).flash.bootSoon = s.flash.bootSoon := by
  have hadd : ({ s.flash with defer := s.flash.defer ++ [.day e] } : Flash).bootSoon = s.flash.bootSoon := by
    show List.foldl _ _ (s.flash.defer ++ [.day e]) = _
    rw [List.foldl_append]
    rfl
  unfold State.deferWrite
  extract_lets t _ u
  split
  · exact (foldl_boot_dropOldestDay u.flash.defer _ _ fun _ _ => rfl).trans hadd
  · exact hadd

/-- An event leaves boot control and the parison regions. -/
theorem note_regions (code : Nat) (args : List Byte) : (s.note code args).flash.bootSoon = s.flash.bootSoon ∧
    (s.note code args).flash.pr = s.flash.pr := by
  refine ⟨?_, ?_⟩
  · have hflash (u : State) (v : Nat) : (u.raise v).flash = u.flash := State.raise_flash u v
    have henter (u : State) (r : RawEv) : (u.enter r).flash.bootSoon = u.flash.bootSoon := by
      unfold State.enter
      extract_lets e _ t w
      have ht : t.flash = u.flash := rfl
      rw [hflash, ← ht]
      unfold w
      split
      · split
        · exact deferDay_bootSoon t e
        · rfl
      · rfl
    unfold State.note
    extract_lets t r
    have ht : t.flash = s.flash := by
      unfold t
      split
      · exact hflash ..
      · rfl
    split
    · rw [henter, ht]
    · split
      · exact congrArg Flash.bootSoon ht
      · exact congrArg Flash.bootSoon ht
  · obtain ⟨l, h⟩ := note_flash s code args
    rw [h]

/-- A checked warrant leaves the least behaviours that the parisons ask for. -/
theorem warrantGone_minBehavs : (s.warrantGone ops f).minBehavs = s.minBehavs := by
  obtain ⟨args, h⟩ := warrantGone_eq s ops f
  have hpar : (s.warrantGone ops f).par = s.par := (warrantGone_only s ops f).2 .parison (by decide)
  rw [h] at hpar ⊢
  obtain ⟨hboot, hpr⟩ :=
    note_regions (s.unwarrant.count (tlSec (if s.warrantGood ops f then 0 else 1))) (ev 15 1) args
  simp only [State.minBehavs, State.defaultRegion, State.regionImage, hpar, hboot, hpr]
  rfl

end

/-! ### MB_WARRANT: CHALLENGE, STAGE, CLEAR -/

section
variable {b : List Byte} {s : State}

/-- The state in which 16 random bytes stand as the nonce. -/
def State.challenged (s : State) : State :=
  let t := (s.draw 16).2
  { t with sec := { t.sec with nonce := some (padTo 0 16 (Config.drbg s.sec.draws 16)) } }

theorem cmdWarrant_challenge (hop : fld b 0 1 = 0) (htrng : s.sec.trngFailed = false) :
    cmdWarrant.run b s = ans stOk (padTo 0 16 (Config.drbg s.sec.draws 16)) s.challenged :=
  (if_pos hop).trans (if_neg (by simp [htrng]))

theorem cmdWarrant_noChallenge (hop : fld b 0 1 = 0) (htrng : s.sec.trngFailed = true) :
    cmdWarrant.run b s = ans stDenied [] s := (if_pos hop).trans (if_pos htrng)

/-- The state in which the bytes of a warrant stand staged. -/
def State.warrantStaged (s : State) (w : List Byte) : State := { s with sec := { s.sec with stagedW := w } }

theorem cmdWarrant_stage (hop : fld b 0 1 = 1) : cmdWarrant.run b s =
    match stageChunk s.sec.stagedW (fld b 4 4) 7984 (b.drop 8) with
    | some w => ans stOk [] (s.warrantStaged w)
    | none => refuse stMalformed s :=
  (if_neg (by omega)).trans (if_pos hop)

theorem cmdWarrant_clear (hop : fld b 0 1 = 3) : cmdWarrant.run b s = ans stOk [] (s.warrantStaged []) :=
  (if_neg (by omega)).trans ((if_neg (by omega)).trans (if_pos hop))

theorem warrantStaged_only (s : State) (w : List Byte) : (s.warrantStaged w).onlyChanges s [.vault] :=
  only_set_sec _ (only_refl ..) (by decide)

theorem challenged_only (s : State) : s.challenged.onlyChanges s [.vault] :=
  only_set_sec _ (State.draw_touch s 16) (by decide)

end

section
variable {staged data : List Byte} {o limit : Nat}

theorem stageChunk_first (h : o = 0) (hlen : data.length ≤ limit) : stageChunk staged o limit data = some data :=
  (if_pos h).trans (if_pos hlen)

theorem stageChunk_next (h : o ≠ 0) (ho : o = staged.length) (hlen : o + data.length ≤ limit) :
    stageChunk staged o limit data = some (staged ++ data) := (if_neg h).trans (if_pos ⟨ho, hlen⟩)

theorem stageChunk_none (h : o ≠ 0) (hbad : o ≠ staged.length ∨ limit < o + data.length) :
    stageChunk staged o limit data = none := (if_neg h).trans (if_neg (by omega))

end

/-! ### MB_WARRANT: APPLY (R486, R490) -/

/-- What ARG of a LIFECYCLE or COUNTER warrant must be. -/
def applyArg (w a : List Byte) : Bool :=
  if fld w 6 2 = 2 then allZero (a.drop 1) else fld a 0 1 < 3 && zeroAt a 1 3 && allZero (a.drop 8)

/-- The check of a warrant for APPLY. -/
abbrev State.applyGood (s : State) : Bool := s.warrantGood [2, 6] (applyArg s.sec.stagedW)

/-- The state after it. -/
abbrev State.applyGone (s : State) : State := s.warrantGone [2, 6] (applyArg s.sec.stagedW)

section
variable {b : List Byte} {s : State} (hop : fld b 0 1 = 2)
include hop

theorem cmdWarrant_apply : cmdWarrant.run b s =
    if !s.applyGood then refuse stWarrant s.applyGone
    else if !s.applyGone.canRecord then refuse stDenied s.applyGone
    else if fld s.sec.stagedW 6 2 = 6 then s.applyGone.counterWarrant s.sec.stagedW
    else s.applyGone.lifeWarrant s.sec.stagedW :=
  (if_neg (by omega)).trans ((if_neg (by omega)).trans ((if_neg (by omega)).trans (if_neg (by omega))))

theorem cmdWarrant_bad (h : s.applyGood = false) : cmdWarrant.run b s = ans stWarrant [] s.applyGone :=
  (cmdWarrant_apply hop).trans (if_pos (by rw [h]; rfl))

variable (hgood : s.applyGood = true) (hgen : s.sec.genUsed < 1024)
include hgood hgen

theorem cmdWarrant_good : cmdWarrant.run b s =
    if fld s.sec.stagedW 6 2 = 6 then s.applyGone.counterWarrant s.sec.stagedW
    else s.applyGone.lifeWarrant s.sec.stagedW := by
  refine (cmdWarrant_apply hop).trans ((if_neg (by rw [hgood]; nofun)).trans (if_neg ?_))
  rw [State.canRecord, warrantGone_sec, show s.sec.warrantless.genUsed = s.sec.genUsed from rfl, decide_eq_true hgen]
  nofun

end

section
variable {u : State} {w : List Byte} (hbad : u.sec.recordBad = false)
include hbad

/-- A COUNTER warrant sets FW or PAR, and leaves the lifecycle and what is staged. -/
theorem counterWarrant_sets : ∃ t, u.counterWarrant w = ans stOk [] t ∧
    t.onlyChanges u (.vault :: eventParts) ∧
    (fld (wArg w) 0 1 = 0 → t.sec.fw = fld (wArg w) 4 4 ∧ t.sec.par = u.sec.par) ∧
    (fld (wArg w) 0 1 = 1 → t.sec.par = fld (wArg w) 4 4 ∧ t.sec.fw = u.sec.fw) ∧
    t.sec.life = u.sec.life ∧ t.sec.stagedW = u.sec.stagedW ∧ t.sec.nonce = u.sec.nonce := by
  refine ⟨_, if_neg (by rw [hbad]; nofun), only_sub (State.recordUpd_touch u _) (by decide), ?_⟩
  obtain ⟨n, hn⟩ := recordUpd_sec u fun x => raiseSeq w (if fld (wArg w) 0 1 = 0 then
    { x with fw := fld (wArg w) 4 4 } else if fld (wArg w) 0 1 = 1 then { x with par := fld (wArg w) 4 4 }
    else { x with warrant := fld (wArg w) 4 4 })
  obtain ⟨m, hm⟩ := raiseSeq_sec w (if fld (wArg w) 0 1 = 0 then
    { u.sec with fw := fld (wArg w) 4 4 } else if fld (wArg w) 0 1 = 1 then { u.sec with par := fld (wArg w) 4 4 }
    else { u.sec with warrant := fld (wArg w) 4 4 })
  rw [hn, hm]
  refine ⟨fun h => ?_, fun h => ?_, ?_, ?_, ?_⟩
  · rw [if_pos h]
    exact ⟨rfl, rfl⟩
  · rw [if_neg (by omega), if_pos h]
    exact ⟨rfl, rfl⟩
  all_goals
    dsimp only
    split
    · rfl
    · split <;> rfl

/-- A LIFECYCLE warrant to RETIRED from TEST or SERVICE. -/
theorem lifeWarrant_retires (hgoal : fld (wArg w) 0 1 = 3) (hlife : u.sec.life = 1 ∨ u.sec.life = 2) :
    ∃ t, u.lifeWarrant w = ans stOk [] t ∧ t.sec.life = 3 ∧ t.sec.stagedW = u.sec.stagedW ∧
      t.sec.nonce = u.sec.nonce ∧ t.sec.genUsed = u.sec.genUsed + 1 ∧ t.onlyChanges u (.vault :: eventParts) := by
  have hrun : u.lifeWarrant w = ans stOk [] ((u.recordUpd fun x => raiseSeq w { x with life := fld (wArg w) 0 1 }).note
      (ev 15 0) (le 1 u.sec.life ++ le 1 (fld (wArg w) 0 1))) := by
    unfold State.lifeWarrant
    extract_lets goal from_ legal unsignedPar bad
    have hlegal : legal = true := by
      simp only [legal, from_, goal, hgoal]
      obtain h | h := hlife <;> simp [h]
    have hsound : bad = false := by simp [bad, goal, hgoal]
    rw [hlegal, hsound, hbad]
    rfl
  refine ⟨_, hrun, ?_⟩
  obtain ⟨m, hm⟩ := raiseSeq_sec w { u.sec with life := fld (wArg w) 0 1 }
  have hne : raiseSeq w { u.sec with life := fld (wArg w) 0 1 } ≠ u.sec := by
    intro h
    have hl := congrArg Sec.life (hm.symm.trans h)
    have : fld (wArg w) 0 1 = u.sec.life := hl
    omega
  have hsec := recordUpd_gen (s := u) (f := fun x => raiseSeq w { x with life := fld (wArg w) 0 1 }) hne
  rw [State.note_sec, hsec, hm]
  exact ⟨hgoal, rfl, rfl, rfl, only_trans (only_sub (State.recordUpd_touch u _) (by decide))
    (note_only _ _ _ _ (by decide))⟩

omit hbad in
theorem lifeWarrant_illegal (h : u.sec.life = 0 ∨ fld (wArg w) 0 1 = u.sec.life ∨ fld (wArg w) 0 1 < 2) :
    u.lifeWarrant w = ans stDenied [] u := by
  unfold State.lifeWarrant
  extract_lets goal from_ legal unsignedPar bad
  have hlegal : legal = false := by
    simp only [legal, from_, goal, Bool.eq_false_iff, ne_eq, Bool.or_eq_true, Bool.and_eq_true, decide_eq_true_eq]
    omega
  rw [hlegal]
  rfl

end

/-! ### The row's answers -/

section
variable {s : State} {dt : Nat} {r : Req} (hf : s.mbxFree) (hp : r.plain) (hzero : zeroAt r.body 1 3 = true)

theorem warrant_shape {v : Byte} (hbody : r.body ≠ []) (hzero : zeroAt r.body 1 3 = true)
    (hlen : if v.toNat = 1 then 8 < r.body.length else r.body.length = 8) :
    cmdWarrant.shape (withOp r v).body = true := by
  show (decide ((withOp r v).body.length ≥ 8) && zeroAt (withOp r v).body 1 3 &&
    (if fld (withOp r v).body 0 1 = 1 then decide ((withOp r v).body.length > 8)
      else decide ((withOp r v).body.length = 8))) = true
  rw [withOp_length v hbody, withOp_zeroAt v hbody, withOp_op v hbody, hzero]
  split at hlen
  next h => simp [h, hlen, hlen.le]
  next h => simp [h, hlen]

include hf hp hzero

section
variable (hlen : r.body.length = 8)
include hlen

theorem warrantChallenge_answers :
    (s.sec.trngFailed = false → ∃ t, exec (.warrantChallenge dt r) s = .next t ∧
      t.answered 0x0D02 r stOk (padTo 0 16 (Config.drbg s.sec.draws 16)) ∧
      t.sec.nonce = some (padTo 0 16 (Config.drbg s.sec.draws 16)) ∧
      t.sec.draws = s.sec.draws + 1 ∧ t.sec.stagedW = s.sec.stagedW ∧ t.onlyChanges s (.vault :: answerParts)) ∧
    (s.sec.trngFailed = true → ∃ t, exec (.warrantChallenge dt r) s = .next t ∧
      t.answered 0x0D02 r stDenied [] ∧ t.onlyChanges s answerParts) := by
  have hbody : r.body ≠ [] := List.ne_nil_of_length_pos (by omega)
  have hplain := withOp_plain 0 hbody hp
  have hshape := warrant_shape (v := 0) hbody hzero hlen
  have hop := withOp_op 0 hbody
  refine ⟨fun htrng => ?_, fun htrng => ?_⟩
  · obtain ⟨t, hexec, hans, honly, ht⟩ := mailbox_change s dt cmdWarrant (withOp r 0) (.vault :: answerParts)
      (by decide) hf hplain hshape _ _ _ (cmdWarrant_challenge hop htrng) (by decide)
      (only_sub (challenged_only _) (by decide))
    refine ⟨t, hexec, hans, ?_, ?_, ?_, honly⟩
    all_goals
      rw [ht, State.pins_sec, State.respond_sec]
      rfl
  · exact mailbox_read s dt cmdWarrant (withOp r 0) (by decide) hf hplain hshape _ _ (cmdWarrant_noChallenge hop htrng)

theorem warrantClear_answers : ∃ t, exec (.warrantClear dt r) s = .next t ∧ t.answered 0x0D02 r stOk [] ∧
    t.sec = { s.sec with stagedW := [] } ∧ t.onlyChanges s (.vault :: answerParts) := by
  have hbody : r.body ≠ [] := List.ne_nil_of_length_pos (by omega)
  obtain ⟨t, hexec, hans, honly, ht⟩ := mailbox_change s dt cmdWarrant (withOp r 3) (.vault :: answerParts)
    (by decide) hf (withOp_plain 3 hbody hp) (warrant_shape (v := 3) hbody hzero hlen) _ _ _
    (cmdWarrant_clear (withOp_op 3 hbody)) (by decide) (only_sub (warrantStaged_only _ _) (by decide))
  refine ⟨t, hexec, hans, ?_, honly⟩
  rw [ht, State.pins_sec, State.respond_sec]
  rfl

theorem warrantApply_answers :
    ((s.elapse dt).applyGood = false → ∃ t, exec (.warrantApply dt r) s = .next t ∧
      t.answered 0x0D02 r stWarrant [] ∧ t.sec = { s.sec with stagedW := [], nonce := none } ∧
      t.tallyAt (tlSec 1) = min tlyMax (s.tallyAt (tlSec 1) + 1) ∧ t.onlyChanges s (.vault :: mailParts)) ∧
    ((s.elapse dt).applyGood = true → s.sec.genUsed < 1024 → s.sec.recordBad = false →
      (fld s.sec.stagedW 6 2 = 2 → fld (wArg s.sec.stagedW) 0 1 = 3 → s.sec.life = 1 ∨ s.sec.life = 2 →
        ∃ t, exec (.warrantApply dt r) s = .next t ∧ t.answered 0x0D02 r stOk [] ∧ t.sec.life = 3 ∧
          t.sec.stagedW = [] ∧ t.sec.nonce = none ∧ t.sec.genUsed = s.sec.genUsed + 1) ∧
      (fld s.sec.stagedW 6 2 = 2 → s.sec.life = 0 ∨ fld (wArg s.sec.stagedW) 0 1 = s.sec.life ∨
          fld (wArg s.sec.stagedW) 0 1 < 2 → ∃ t, exec (.warrantApply dt r) s = .next t ∧
          t.answered 0x0D02 r stDenied [] ∧ t.sec = { s.sec with stagedW := [], nonce := none }) ∧
      (fld s.sec.stagedW 6 2 = 6 → ∃ t, exec (.warrantApply dt r) s = .next t ∧ t.answered 0x0D02 r stOk [] ∧
        (fld (wArg s.sec.stagedW) 0 1 = 0 →
          t.sec.fw = fld (wArg s.sec.stagedW) 4 4 ∧ t.sec.par = s.sec.par) ∧
        (fld (wArg s.sec.stagedW) 0 1 = 1 →
          t.sec.par = fld (wArg s.sec.stagedW) 4 4 ∧ t.sec.fw = s.sec.fw) ∧
        t.sec.life = s.sec.life ∧ t.sec.stagedW = [] ∧ t.sec.nonce = none)) := by
  have hbody : r.body ≠ [] := List.ne_nil_of_length_pos (by omega)
  let w := (s.elapse dt).writeReq 0x0D02 (withOp r 2)
  have hop := withOp_op 2 hbody
  have hgone : w.applyGone.sec = s.sec.warrantless := warrantGone_sec w _ _
  have honly : w.applyGone.onlyChanges w (.vault :: mailParts) := only_sub (warrantGone_only w _ _) (by decide)
  have hdone {st : Nat} {u : State} (hrun : cmdWarrant.run (withOp r 2).body w = ans st [] u)
      (hu : u.onlyChanges w (.vault :: mailParts)) : ∃ t, exec (.warrantApply dt r) s = .next t ∧
      t.answered 0x0D02 r st [] ∧ t.sec = u.sec ∧
      t.tallyAt (tlSec 1) = u.tallyAt (tlSec 1) ∧ t.onlyChanges s (.vault :: mailParts) := by
    obtain ⟨t, hexec, hans, hchange, ht⟩ := mailbox_change s dt cmdWarrant (withOp r 2) (.vault :: mailParts)
      (by decide) hf (withOp_plain 2 hbody hp) (warrant_shape (v := 2) hbody hzero hlen) _ _ _ hrun (by decide) hu
    refine ⟨t, hexec, hans, ?_, ?_, hchange⟩
    · rw [ht, State.pins_sec, State.respond_sec]
    · rw [ht, State.tallyAt, State.pins_tly]
      exact respond_live _ _ _ _ _ _ _ (by decide)
  have hgo {u : State} (h : u.onlyChanges w.applyGone (.vault :: eventParts)) : u.onlyChanges w (.vault :: mailParts) :=
    only_step honly h (by decide)
  refine ⟨fun hbad => ?_, fun hgood hgen hrec => ?_⟩
  · obtain ⟨t, hexec, hans, hsec, htally, hchange⟩ := hdone (cmdWarrant_bad (s := w) hop hbad) honly
    exact ⟨t, hexec, hans, hsec.trans hgone, htally.trans (warrantGone_bad w _ _ hbad), hchange⟩
  · have hrun := cmdWarrant_good (s := w) hop hgood hgen
    have hsound : w.applyGone.sec.recordBad = false := (congrArg Sec.recordBad hgone).trans hrec
    have hlife : w.applyGone.sec.life = s.sec.life := (congrArg Sec.life hgone).trans rfl
    refine ⟨fun hw hgoal hfrom => ?_, fun hw hbad => ?_, fun hw => ?_⟩
    · obtain ⟨u, hu, hto, hstaged, hnonce, hused, hchange⟩ :=
        lifeWarrant_retires (u := w.applyGone) (w := s.sec.stagedW) hsound hgoal (by rwa [hlife])
      obtain ⟨t, hexec, hans, hsec, -, -⟩ := hdone ((hrun.trans (if_neg (by
        show ¬fld s.sec.stagedW 6 2 = 6
        omega))).trans hu) (hgo hchange)
      rw [hgone] at hstaged hnonce hused
      exact ⟨t, hexec, hans, by rw [hsec, hto], by rw [hsec, hstaged]; rfl, by rw [hsec, hnonce]; rfl,
        by rw [hsec, hused]; rfl⟩
    · obtain ⟨t, hexec, hans, hsec, -, -⟩ := hdone ((hrun.trans (if_neg (by
        show ¬fld s.sec.stagedW 6 2 = 6
        omega))).trans (lifeWarrant_illegal (u := w.applyGone) (w := s.sec.stagedW) (by rwa [hlife]))) honly
      exact ⟨t, hexec, hans, hsec.trans hgone⟩
    · obtain ⟨u, hu, hchange, hfw, hpar, hto, hstaged, hnonce⟩ :=
        counterWarrant_sets (u := w.applyGone) (w := s.sec.stagedW) hsound
      obtain ⟨t, hexec, hans, hsec, -, -⟩ := hdone ((hrun.trans (if_pos hw)).trans hu) (hgo hchange)
      rw [hgone] at hstaged hnonce hto hfw hpar
      rw [← hsec] at hstaged hnonce hto hfw hpar
      exact ⟨t, hexec, hans, hfw, hpar, hto, hstaged, hnonce⟩

end

theorem warrantStage_answers (hlen : 8 < r.body.length) :
    (fld r.body 4 4 = 0 → (r.body.drop 8).length ≤ 7984 → ∃ t, exec (.warrantStage dt r) s = .next t ∧
      t.answered 0x0D02 r stOk [] ∧ t.sec = { s.sec with stagedW := r.body.drop 8 } ∧
      t.onlyChanges s (.vault :: answerParts)) ∧
    (fld r.body 4 4 ≠ 0 → fld r.body 4 4 = s.sec.stagedW.length → fld r.body 4 4 + (r.body.drop 8).length ≤ 7984 →
      ∃ t, exec (.warrantStage dt r) s = .next t ∧ t.answered 0x0D02 r stOk [] ∧
      t.sec = { s.sec with stagedW := s.sec.stagedW ++ r.body.drop 8 } ∧ t.onlyChanges s (.vault :: answerParts)) ∧
    (fld r.body 4 4 ≠ 0 → fld r.body 4 4 ≠ s.sec.stagedW.length ∨ 7984 < fld r.body 4 4 + (r.body.drop 8).length →
      ∃ t, exec (.warrantStage dt r) s = .next t ∧ t.answered 0x0D02 r stMalformed [] ∧
      t.onlyChanges s answerParts) := by
  have hbody : r.body ≠ [] := List.ne_nil_of_length_pos (by omega)
  have hplain := withOp_plain 1 hbody hp
  have hshape := warrant_shape (v := 1) hbody hzero hlen
  have hrun : cmdWarrant.run (withOp r 1).body ((s.elapse dt).writeReq 0x0D02 (withOp r 1)) = _ :=
    cmdWarrant_stage (withOp_op 1 hbody)
  rw [withOp_fld 1 hbody 3, withOp_drop 1 hbody 7] at hrun
  have htaken {all : List Byte}
      (hall : stageChunk s.sec.stagedW (fld r.body 4 4) 7984 (r.body.drop 8) = some all) :
      ∃ t, exec (.warrantStage dt r) s = .next t ∧ t.answered 0x0D02 r stOk [] ∧
        t.sec = { s.sec with stagedW := all } ∧ t.onlyChanges s (.vault :: answerParts) := by
    obtain ⟨t, hexec, hans, honly, ht⟩ := mailbox_change s dt cmdWarrant (withOp r 1) (.vault :: answerParts)
      (by decide) hf hplain hshape stOk [] (((s.elapse dt).writeReq 0x0D02 (withOp r 1)).warrantStaged all)
      (hrun.trans (by
        rw [show ((s.elapse dt).writeReq 0x0D02 (withOp r 1)).sec = s.sec from rfl, hall]))
      (by decide) (only_sub (warrantStaged_only _ _) (by decide))
    refine ⟨t, hexec, hans, ?_, honly⟩
    rw [ht, State.pins_sec, State.respond_sec]
    rfl
  refine ⟨fun ho hlen => htaken (stageChunk_first ho hlen), fun ho hs hlen => htaken (stageChunk_next ho hs hlen),
    fun ho hbad => ?_⟩
  refine mailbox_read s dt cmdWarrant (withOp r 1) (by decide) hf hplain hshape stMalformed [] (hrun.trans ?_)
  rw [show ((s.elapse dt).writeReq 0x0D02 (withOp r 1)).sec = s.sec from rfl, stageChunk_none ho hbad]
  rfl

end

end Sys2Proof.Machine

/-! SUPPORT. Chapter 15, continued: enrolment, the certificate, attestation, link policy, pin and randomness
(R473, R491, R492, R497, R499 to R504). -/

namespace Sys2Proof.Machine

/-! ### MB_ENROL: GENERATE (R491) -/

/-- The check of a warrant for GENERATE. -/
abbrev State.enrolGood (s : State) : Bool := s.warrantGood [1] fun a => allZero (a.drop 32)

/-- The state after it. -/
abbrev State.enrolGone (s : State) : State := s.warrantGone [1] fun a => allZero (a.drop 32)

/-- The vault can take a root key. -/
abbrev State.blankOk (s : State) : Prop :=
  s.sec.life = 0 ∧ s.sec.trngFailed = false ∧ s.sec.rootPk = none ∧ s.sec.genUsed < 1024 ∧ s.sec.recordBad = false

/-- What a device of public identity `d` answers to GENERATE. -/
abbrev enrolAnswer (d : List Byte) : List Byte :=
  uidBytes ++ macBytes Config.nodeMac ++ zeros 2 ++ padTo 0 32 (Config.idPublic d)

theorem blankOk_iff {s : State} : s.blankOk ↔ (decide (s.sec.life ≠ 0) || s.sec.trngFailed || s.sec.rootPk.isSome ||
    !s.canRecord || s.sec.recordBad) = false := by
  simp only [State.blankOk, State.canRecord, Bool.or_eq_false_iff, decide_eq_false_iff_not, Bool.not_eq_false',
    Option.isSome_eq_false_iff, Option.isNone_iff_eq_none, ne_eq, not_not, and_assoc, decide_eq_true_eq]

theorem blankOk_of_gone {s : State} : s.enrolGone.blankOk ↔ s.blankOk := by
  rw [State.blankOk, warrantGone_sec]
  rfl

section
variable {b : List Byte} {s : State} (hop : fld b 0 1 = 0)
include hop

theorem cmdEnrol_bad (h : s.enrolGood = false) : cmdEnrol.run b s = ans stWarrant [] s.enrolGone :=
  (if_pos hop).trans (if_pos (by
    show (!s.enrolGood) = true
    rw [h]
    rfl))

variable (hgood : s.enrolGood = true)
include hgood

theorem cmdEnrol_denied (h : ¬s.blankOk) : cmdEnrol.run b s = ans stDenied [] s.enrolGone := by
  refine (if_pos hop).trans ((if_neg ?_).trans (if_pos ?_))
  · show ¬(!s.enrolGood) = true
    rw [hgood]
    nofun
  · rw [← blankOk_of_gone, blankOk_iff, Bool.not_eq_false] at h
    exact h

theorem cmdEnrol_generates (h : s.blankOk) :
    ∃ t, cmdEnrol.run b s = ans stOk (enrolAnswer (Config.drbg s.sec.draws 48)) t ∧
      t.sec.rootPk = some ((wArg s.sec.stagedW).take 32) ∧ t.sec.idSeed = some (Config.drbg s.sec.draws 48) ∧
      t.sec.life = 1 ∧ t.sec.genUsed = s.sec.genUsed + 1 := by
  have hsec : s.enrolGone.sec = s.sec.warrantless := warrantGone_sec s _ _
  have hdraws : s.enrolGone.sec.draws = s.sec.draws := (congrArg Sec.draws hsec).trans rfl
  have hgen : s.enrolGone.sec.genUsed = s.sec.genUsed := (congrArg Sec.genUsed hsec).trans rfl
  rw [← hdraws, ← hgen]
  refine ⟨_, (if_pos hop).trans ((if_neg ?_).trans (if_neg ?_)), ?_⟩
  · show ¬(!s.enrolGood) = true
    rw [hgood]
    nofun
  · rw [← blankOk_of_gone, blankOk_iff] at h
    rw [Bool.not_eq_true]
    exact h
  · rw [State.note_sec]
    show (State.saveRecord _).sec.rootPk = _ ∧ (State.saveRecord _).sec.idSeed = _ ∧
      (State.saveRecord _).sec.life = _ ∧ (State.saveRecord _).sec.genUsed = _
    rw [saveRecord_sec]
    exact ⟨rfl, rfl, rfl, rfl⟩

end

/-! ### MB_ENROL: CERT and READ_CERT (R492) -/

section
variable {b : List Byte} {s : State}

/-- The staged certificate once a chunk is taken. -/
abbrev State.certAll (s : State) (b : List Byte) : List Byte :=
  if fld b 4 4 = 0 then b.drop 8 else s.sec.stagedC ++ b.drop 8

/-- A chunk that follows what is staged. -/
abbrev State.certFits (s : State) (b : List Byte) : Prop := fld b 4 4 = 0 ∨ fld b 4 4 = s.sec.stagedC.length

/-- The device's public identity. -/
abbrev State.idPk (s : State) : List Byte :=
  match s.sec.idSeed with | some d => padTo 0 32 (Config.idPublic d) | none => []

/-- A certificate of this device that the root key signed. -/
abbrev State.certSound (s : State) (c : List Byte) : Prop :=
  s.certOk c = true ∧ slice c 8 16 = uidBytes ∧ slice c 0x18 32 = s.idPk ∧ slice c 0x38 6 = macBytes Config.nodeMac

/-- The state in which the bytes of a certificate stand staged. -/
def State.certStaged (s : State) (c : List Byte) : State := { s with sec := { s.sec with stagedC := c } }

/-- The state in which a certificate is stored. -/
def State.certStored (s : State) (c : List Byte) : State :=
  { s with flash := { s.flash with cert := c }, sec := { s.sec with stagedC := [] } }

theorem certStaged_only (s : State) (c : List Byte) : (s.certStaged c).onlyChanges s [.vault] :=
  only_set_sec _ (only_refl ..) (by decide)

theorem certStored_only (s : State) (c : List Byte) : (s.certStored c).onlyChanges s [.vault, .flash] :=
  only_set_flash_sec _ _ (only_refl ..) (by decide) (by decide)

theorem stageChunk_fits (hfits : s.certFits b) (hlen : (s.certAll b).length ≤ 7936) :
    stageChunk s.sec.stagedC (fld b 4 4) 7936 (b.drop 8) = some (s.certAll b) := by
  by_cases ho : fld b 4 4 = 0
  · rw [State.certAll, if_pos ho] at hlen ⊢
    exact stageChunk_first ho hlen
  · have hnext := hfits.resolve_left ho
    rw [State.certAll, if_neg ho] at hlen ⊢
    rw [List.length_append] at hlen
    exact stageChunk_next ho hnext (by omega)

theorem stageChunk_misfits (h : ¬s.certFits b ∨ 7936 < (s.certAll b).length) :
    stageChunk s.sec.stagedC (fld b 4 4) 7936 (b.drop 8) = none := by
  by_cases ho : fld b 4 4 = 0
  · have hlen := h.resolve_left (not_not.mpr (.inl ho))
    rw [State.certAll, if_pos ho] at hlen
    exact (if_pos ho).trans (if_neg (by omega))
  · refine stageChunk_none ho ?_
    rw [State.certAll, if_neg ho, List.length_append] at h
    by_cases hnext : fld b 4 4 = s.sec.stagedC.length
    · exact .inr (by
        have hlen := h.resolve_left (not_not.mpr (.inr hnext))
        omega)
    · exact .inl hnext

theorem certSound_iff (c : List Byte) : s.certSound c ↔ (s.certOk c && slice c 8 16 = uidBytes &&
    slice c 0x18 32 = s.idPk && slice c 0x38 6 = macBytes Config.nodeMac) = true := by
  simp only [State.certSound, Bool.and_eq_true, decide_eq_true_eq, and_assoc]

section
variable (hop : fld b 0 1 = 1)
include hop

theorem cmdEnrol_busy (h : s.flashHeld = true) : cmdEnrol.run b s = ans stBusy [] s :=
  (if_neg (by omega)).trans ((if_pos hop).trans (if_pos h))

variable (hfree : s.flashHeld = false)
include hfree

theorem cmdEnrol_cert : cmdEnrol.run b s =
    match stageChunk s.sec.stagedC (fld b 4 4) 7936 (b.drop 8) with
    | none => refuse stMalformed s
    | some c => if c.length < 7936 then ans stOk [] (s.certStaged c)
      else if s.certOk c && slice c 8 16 = uidBytes && slice c 0x18 32 = s.idPk &&
        slice c 0x38 6 = macBytes Config.nodeMac then ans stOk [] (s.certStored c)
      else refuse stDenied (s.certStaged []) :=
  (if_neg (by omega)).trans ((if_pos hop).trans (if_neg (by rw [hfree]; nofun)))

theorem cmdEnrol_misfits (h : ¬s.certFits b ∨ 7936 < (s.certAll b).length) :
    cmdEnrol.run b s = ans stMalformed [] s := by
  rw [cmdEnrol_cert hop hfree, stageChunk_misfits h]
  rfl

variable (hfits : s.certFits b)
include hfits

theorem cmdEnrol_part (hlen : (s.certAll b).length < 7936) :
    cmdEnrol.run b s = ans stOk [] (s.certStaged (s.certAll b)) := by
  rw [cmdEnrol_cert hop hfree, stageChunk_fits hfits hlen.le]
  exact if_pos hlen

theorem cmdEnrol_stores (hlen : (s.certAll b).length = 7936) (hok : s.certSound (s.certAll b)) :
    cmdEnrol.run b s = ans stOk [] (s.certStored (s.certAll b)) := by
  rw [cmdEnrol_cert hop hfree, stageChunk_fits hfits hlen.le]
  exact (if_neg (by omega)).trans (if_pos ((certSound_iff _).mp hok))

theorem cmdEnrol_unsound (hlen : (s.certAll b).length = 7936) (hbad : ¬s.certSound (s.certAll b)) :
    cmdEnrol.run b s = ans stDenied [] (s.certStaged []) := by
  rw [cmdEnrol_cert hop hfree, stageChunk_fits hfits hlen.le]
  exact (if_neg (by omega)).trans (if_neg ((certSound_iff _).not.mp hbad))

end

theorem hasCert_iff : s.hasCert = true ↔ s.flash.cert ≠ [] := by
  simp [State.hasCert]

variable (hop : fld b 0 1 = 2)
include hop

theorem cmdEnrol_reads (h : s.flash.cert ≠ []) : cmdEnrol.run b s =
    ans stOk (le 4 s.flash.cert.length ++ slice s.flash.cert (fld b 4 4) 4000) s :=
  (if_neg (by omega)).trans ((if_neg (by omega)).trans ((if_pos hop).trans (if_neg (by
    rw [hasCert_iff.mpr h]
    nofun))))

theorem cmdEnrol_none (h : s.flash.cert = []) : cmdEnrol.run b s = ans stDenied [] s :=
  (if_neg (by omega)).trans ((if_neg (by omega)).trans ((if_pos hop).trans (if_pos (by simp [State.hasCert, h]))))

end

/-! ### The row's answers -/

section
variable {s : State} {dt : Nat} {r : Req} (hf : s.mbxFree) (hp : r.plain) (hzero : zeroAt r.body 1 3 = true)

theorem enrol_shape {v : Byte} (hbody : r.body ≠ []) (hzero : zeroAt r.body 1 3 = true)
    (hlen : if v.toNat = 1 then 8 < r.body.length else r.body.length = 8) :
    cmdEnrol.shape (withOp r v).body = true := warrant_shape hbody hzero hlen

include hf hp hzero

theorem enrolGenerate_answers (hlen : r.body.length = 8) :
    ((s.elapse dt).enrolGood = false → ∃ t, exec (.enrolGenerate dt r) s = .next t ∧
      t.answered 0x0D01 r stWarrant [] ∧ t.sec = { s.sec with stagedW := [], nonce := none }) ∧
    ((s.elapse dt).enrolGood = true → ¬s.blankOk → ∃ t, exec (.enrolGenerate dt r) s = .next t ∧
      t.answered 0x0D01 r stDenied [] ∧ t.sec = { s.sec with stagedW := [], nonce := none }) ∧
    ((s.elapse dt).enrolGood = true → s.blankOk → ∃ t, exec (.enrolGenerate dt r) s = .next t ∧
      t.answered 0x0D01 r stOk (enrolAnswer (Config.drbg s.sec.draws 48)) ∧
      t.sec.rootPk = some (slice s.sec.stagedW 0x30 32) ∧ t.sec.idSeed = some (Config.drbg s.sec.draws 48) ∧
      t.sec.life = 1 ∧ t.sec.genUsed = s.sec.genUsed + 1) := by
  have hbody : r.body ≠ [] := List.ne_nil_of_length_pos (by omega)
  let w := (s.elapse dt).writeReq 0x0D01 (withOp r 0)
  have hop := withOp_op 0 hbody
  have hgone : w.enrolGone.sec = s.sec.warrantless := warrantGone_sec w _ _
  have hdone {st : Nat} {bytes : List Byte} {u : State}
      (hrun : cmdEnrol.run (withOp r 0).body w = ans st bytes u) :
      ∃ t, exec (.enrolGenerate dt r) s = .next t ∧ t.answered 0x0D01 r st bytes ∧ t.sec = u.sec := by
    obtain ⟨t, hexec, hans, ht⟩ := mailbox_done (s.elapse dt) cmdEnrol (withOp r 0) (by decide) hf
      (withOp_plain 0 hbody hp) (enrol_shape (v := 0) hbody hzero hlen) _ _ _ hrun
    exact ⟨t, hexec, hans, by rw [ht, State.pins_sec, State.respond_sec]⟩
  refine ⟨fun hbad => ?_, fun hgood hno => ?_, fun hgood hok => ?_⟩
  · obtain ⟨t, hexec, hans, hsec⟩ := hdone (cmdEnrol_bad (s := w) hop hbad)
    exact ⟨t, hexec, hans, hsec.trans hgone⟩
  · obtain ⟨t, hexec, hans, hsec⟩ := hdone (cmdEnrol_denied (s := w) hop hgood hno)
    exact ⟨t, hexec, hans, hsec.trans hgone⟩
  · obtain ⟨u, hrun, hroot, hseed, hlife, hgen⟩ := cmdEnrol_generates (s := w) hop hgood hok
    obtain ⟨t, hexec, hans, hsec⟩ := hdone hrun
    rw [← hsec] at hroot hseed hlife hgen
    exact ⟨t, hexec, hans, hroot.trans (congrArg some (slice_slice (a := 0) _ (by decide))), hseed, hlife, hgen⟩

theorem enrolReadCert_answers (hlen : r.body.length = 8) :
    (s.flash.cert ≠ [] → ∃ t, exec (.enrolReadCert dt r) s = .next t ∧ t.answered 0x0D01 r stOk
      (le 4 s.flash.cert.length ++ slice s.flash.cert (fld r.body 4 4) 4000) ∧ t.onlyChanges s answerParts) ∧
    (s.flash.cert = [] → ∃ t, exec (.enrolReadCert dt r) s = .next t ∧
      t.answered 0x0D01 r stDenied [] ∧ t.onlyChanges s answerParts) := by
  have hbody : r.body ≠ [] := List.ne_nil_of_length_pos (by omega)
  have hread := mailbox_read s dt cmdEnrol (withOp r 2) (by decide) hf (withOp_plain 2 hbody hp)
    (enrol_shape (v := 2) hbody hzero hlen)
  have hop := withOp_op 2 hbody
  refine ⟨fun h => ?_, fun h => hread _ _ (cmdEnrol_none hop h)⟩
  rw [← withOp_fld 2 hbody 3]
  exact hread _ _ (cmdEnrol_reads hop h)

theorem enrolCert_answers (hlen : 8 < r.body.length) :
    (s.flashHeld = true → ∃ t, exec (.enrolCert dt r) s = .next t ∧ t.answered 0x0D01 r stBusy [] ∧
      t.onlyChanges s answerParts) ∧
    (s.flashHeld = false → ¬s.certFits r.body ∨ 7936 < (s.certAll r.body).length →
      ∃ t, exec (.enrolCert dt r) s = .next t ∧ t.answered 0x0D01 r stMalformed [] ∧
        t.onlyChanges s answerParts) ∧
    (s.flashHeld = false → s.certFits r.body → (s.certAll r.body).length < 7936 →
      ∃ t, exec (.enrolCert dt r) s = .next t ∧ t.answered 0x0D01 r stOk [] ∧
        t.sec = { s.sec with stagedC := s.certAll r.body } ∧ t.onlyChanges s (.vault :: answerParts)) ∧
    (s.flashHeld = false → s.certFits r.body → (s.certAll r.body).length = 7936 → s.certSound (s.certAll r.body) →
      ∃ t, exec (.enrolCert dt r) s = .next t ∧ t.answered 0x0D01 r stOk [] ∧
        t.flash = { s.flash with cert := s.certAll r.body } ∧ t.sec = { s.sec with stagedC := [] } ∧
        t.onlyChanges s (.vault :: .flash :: answerParts)) ∧
    (s.flashHeld = false → s.certFits r.body → (s.certAll r.body).length = 7936 → ¬s.certSound (s.certAll r.body) →
      ∃ t, exec (.enrolCert dt r) s = .next t ∧ t.answered 0x0D01 r stDenied [] ∧
        t.sec = { s.sec with stagedC := [] } ∧ t.onlyChanges s (.vault :: answerParts)) := by
  have hbody : r.body ≠ [] := List.ne_nil_of_length_pos (by omega)
  let q := (withOp r 1).body
  let w := (s.elapse dt).writeReq 0x0D01 (withOp r 1)
  have hplain := withOp_plain 1 hbody hp
  have hshape := enrol_shape (v := 1) hbody hzero hlen
  have hop : fld q 0 1 = 1 := withOp_op 1 hbody
  have hall : w.certAll q = s.certAll r.body := by
    simp only [State.certAll, q, withOp_fld 1 hbody 3, withOp_drop 1 hbody 7]
    rfl
  have hfits : w.certFits q ↔ s.certFits r.body := by
    simp only [State.certFits, q, withOp_fld 1 hbody 3]
    rfl
  have hread {st : Nat} := mailbox_read s dt cmdEnrol (withOp r 1) (by decide) hf hplain hshape st []
  have hdone {st : Nat} {u : State} {l : List Part} (hrun : cmdEnrol.run q w = ans st [] u)
      (hl : ∀ p ∈ answerParts, p ∈ l) (hu : u.onlyChanges w l) : ∃ t, exec (.enrolCert dt r) s = .next t ∧
        t.answered 0x0D01 r st [] ∧ t.flash = u.flash ∧ t.sec = u.sec ∧ t.onlyChanges s l := by
    obtain ⟨t, hexec, hans, honly, ht⟩ := mailbox_change s dt cmdEnrol (withOp r 1) l (by decide) hf hplain hshape
      _ _ _ hrun hl hu
    exact ⟨t, hexec, hans, by rw [ht, State.pins_flash, State.respond_flash],
      by rw [ht, State.pins_sec, State.respond_sec], honly⟩
  rw [← hfits, ← hall]
  refine ⟨fun hheld => hread (cmdEnrol_busy (s := w) hop hheld),
    fun hfree hbad => hread (cmdEnrol_misfits (s := w) hop hfree hbad), fun hfree hfit hsize => ?_,
    fun hfree hfit hsize hok => ?_, fun hfree hfit hsize hno => ?_⟩
  · obtain ⟨t, hexec, hans, -, hsec, honly⟩ := hdone (cmdEnrol_part (s := w) hop hfree hfit hsize)
      (l := .vault :: answerParts) (by decide) (only_sub (certStaged_only _ _) (by decide))
    exact ⟨t, hexec, hans, hsec, honly⟩
  · obtain ⟨t, hexec, hans, hflash, hsec, honly⟩ := hdone (cmdEnrol_stores (s := w) hop hfree hfit hsize hok)
      (l := .vault :: .flash :: answerParts) (by decide) (only_sub (certStored_only _ _) (by decide))
    exact ⟨t, hexec, hans, hflash, hsec, honly⟩
  · obtain ⟨t, hexec, hans, -, hsec, honly⟩ := hdone (cmdEnrol_unsound (s := w) hop hfree hfit hsize hno)
      (l := .vault :: answerParts) (by decide) (only_sub (certStaged_only _ _) (by decide))
    exact ⟨t, hexec, hans, hsec, honly⟩

end

end Sys2Proof.Machine

/-! SUPPORT. Chapter 15, continued: attestation, link policy, the pin, randomness and the vault's restart
(R473, R497, R499 to R504). -/

namespace Sys2Proof.Machine

/-! ### MB_ATTEST (R499) -/

section
variable {b : List Byte} {s : State} (hlife : s.sec.life ≠ 0) (hpend : s.sec.quotePend = none)
include hlife hpend

/-- The state in which a quote waits for its signature. -/
def State.quoting (s : State) (nonce : List Byte) : State :=
  { s with sec := { s.sec with
    quote := [], quotePend := some (s.quoteHead nonce), ops := s.sec.ops ++ [(⟨25, 5⟩ : VaultOp)] } }

omit hlife hpend in
theorem quoting_only (s : State) (nonce : List Byte) : (s.quoting nonce).onlyChanges s [.vault] :=
  only_set_sec _ (only_refl ..) (by decide)

theorem cmdAttest_run (hop : ¬(decide (fld b 0 1 > 1) || decide (fld b 0 1 = 1) && !zeroAt b 8 32) = true) :
    cmdAttest.run b s = if fld b 0 1 = 1 then (if s.sec.quote.isEmpty then refuse stDenied s
        else ans stOk (le 4 17312 ++ slice s.sec.quote (fld b 4 4) 4000) s)
      else if s.sec.trngFailed then refuse stDenied s
      else ans stOk [] (s.quoting (slice b 8 32)) :=
  (if_neg hop).trans ((if_neg hlife).trans (if_neg (by rw [hpend]; nofun)))

theorem cmdAttest_sign (hop : fld b 0 1 = 0) : cmdAttest.run b s =
    if s.sec.trngFailed then refuse stDenied s else ans stOk [] (s.quoting (slice b 8 32)) :=
  (cmdAttest_run hlife hpend (by simp [hop])).trans (if_neg (by omega))

theorem cmdAttest_read (hop : fld b 0 1 = 1) (hz : zeroAt b 8 32 = true) : cmdAttest.run b s =
    if s.sec.quote.isEmpty then refuse stDenied s
    else ans stOk (le 4 17312 ++ slice s.sec.quote (fld b 4 4) 4000) s :=
  (cmdAttest_run hlife hpend (by simp [hop, hz])).trans (if_pos hop)

end

theorem attest_answers {s : State} {dt : Nat} {r : Req} (hf : s.mbxFree) (hp : r.plain) (hlen : r.body.length = 40)
    (hzero : zeroAt r.body 1 3 = true) (hlife : s.sec.life ≠ 0) (hpend : s.sec.quotePend = none) :
    (s.sec.trngFailed = false → ∃ t, exec (.attestSign dt r) s = .next t ∧ t.answered 0x0D03 r stOk [] ∧
      t.sec = { s.sec with
        quote := [], quotePend := some ((s.elapse dt).quoteHead (slice r.body 8 32))
        ops := s.sec.ops ++ [(⟨25, 5⟩ : VaultOp)] } ∧ t.onlyChanges s (.vault :: answerParts)) ∧
    (s.sec.trngFailed = true → ∃ t, exec (.attestSign dt r) s = .next t ∧
      t.answered 0x0D03 r stDenied [] ∧ t.onlyChanges s answerParts) ∧
    (zeroAt r.body 8 32 = true → s.sec.quote ≠ [] → ∃ t, exec (.attestRead dt r) s = .next t ∧
      t.answered 0x0D03 r stOk (le 4 17312 ++ slice s.sec.quote (fld r.body 4 4) 4000) ∧
      t.onlyChanges s answerParts) ∧
    (zeroAt r.body 8 32 = true → s.sec.quote = [] → ∃ t, exec (.attestRead dt r) s = .next t ∧
      t.answered 0x0D03 r stDenied [] ∧ t.onlyChanges s answerParts) := by
  have hbody : r.body ≠ [] := List.ne_nil_of_length_pos (by omega)
  have hshape (v : Byte) : cmdAttest.shape (withOp r v).body = true := by
    show (decide ((withOp r v).body.length = 40) && zeroAt (withOp r v).body 1 3) = true
    rw [withOp_length v hbody, withOp_zeroAt v hbody, hzero, decide_eq_true hlen]
    rfl
  let w (v : Byte) := (s.elapse dt).writeReq 0x0D03 (withOp r v)
  have hread (v : Byte) := mailbox_read s dt cmdAttest (withOp r v) (by decide) hf (withOp_plain v hbody hp) (hshape v)
  have hsign := cmdAttest_sign (s := w 0) hlife hpend (withOp_op 0 hbody)
  have hreads (hz : zeroAt r.body 8 32 = true) := cmdAttest_read (s := w 1) hlife hpend (withOp_op 1 hbody)
    (by rwa [withOp_zeroAt 1 hbody 7])
  rw [withOp_slice 0 hbody 7] at hsign
  rw [withOp_fld 1 hbody 3] at hreads
  refine ⟨fun htrng => ?_, fun htrng => hread 0 _ _ (hsign.trans (if_pos htrng)),
    fun hz hq => hread 1 _ _ ((hreads hz).trans (if_neg ?_)), fun hz hq => hread 1 _ _ ((hreads hz).trans (if_pos ?_))⟩
  · obtain ⟨t, hexec, hans, honly, ht⟩ := mailbox_change s dt cmdAttest (withOp r 0) (.vault :: answerParts)
      (by decide) hf (withOp_plain 0 hbody hp) (hshape 0) _ _ _
      (hsign.trans (if_neg (by
        show ¬s.sec.trngFailed = true
        rw [htrng]
        nofun))) (by decide) (only_sub (quoting_only _ _) (by decide))
    refine ⟨t, hexec, hans, ?_, honly⟩
    rw [ht, State.pins_sec, State.respond_sec]
    rfl
  · rw [List.isEmpty_iff]
    exact hq
  · exact List.isEmpty_iff.mpr hq

/-! ### MB_LINK_POLICY (R497) -/

section
variable {b : List Byte} {s : State}

/-- A policy with links unsecured, in service. -/
abbrev State.policyRefused (s : State) (c : List Byte) : Prop := fld c 0 4 ≠ 0 ∧ s.sec.life = 2

/-- A policy within its ranges. -/
abbrev policyOk (c : List Byte) : Prop := fld c 0 4 < 2 ^ 25 ∧ 1 ≤ fld c 4 2 ∧ fld c 4 2 ≤ 168

theorem cmdLinkPolicy_reads (ho : fld b 0 4 = 2) : cmdLinkPolicy.run b s = ans stOk s.sec.policy s :=
  if_pos (by rw [ho]; rfl)

section
variable (ho : fld b 0 4 = 0)
include ho

theorem cmdLinkPolicy_run : cmdLinkPolicy.run b s =
    if (decide (fld (b.drop 4) 0 4 ≠ 0) && decide (s.sec.life = 2)) = true then refuse stDenied s
    else if (decide (fld (b.drop 4) 0 4 ≥ 2 ^ 25) || decide (fld (b.drop 4) 4 2 < 1) ||
      decide (fld (b.drop 4) 4 2 > 168)) = true then refuse stMalformed s
    else if s.flashHeld = true then refuse stBusy s
    else if (decide (b.drop 4 ≠ s.sec.policy) && (!s.canRecord || s.sec.recordBad)) = true then refuse stDenied s
    else ans stOk (b.drop 4) (s.recordUpd fun x => { x with policy := b.drop 4 }) :=
  if_neg (by rw [ho]; nofun)

theorem cmdLinkPolicy_denied (h : s.policyRefused (b.drop 4)) : cmdLinkPolicy.run b s = ans stDenied [] s :=
  (cmdLinkPolicy_run ho).trans (if_pos (by simpa using h))

variable (hpass : ¬s.policyRefused (b.drop 4))
include hpass

theorem cmdLinkPolicy_malformed (h : ¬policyOk (b.drop 4)) : cmdLinkPolicy.run b s = ans stMalformed [] s := by
  refine (cmdLinkPolicy_run ho).trans ((if_neg (by simpa using hpass)).trans (if_pos ?_))
  rw [Bool.or_eq_true, Bool.or_eq_true, decide_eq_true_eq, decide_eq_true_eq, decide_eq_true_eq]
  by_contra hno
  exact h ⟨by omega, by omega, by omega⟩

variable (hok : policyOk (b.drop 4))
include hok

theorem cmdLinkPolicy_ok : cmdLinkPolicy.run b s = if s.flashHeld = true then refuse stBusy s
    else if (decide (b.drop 4 ≠ s.sec.policy) && (!s.canRecord || s.sec.recordBad)) = true then refuse stDenied s
    else ans stOk (b.drop 4) (s.recordUpd fun x => { x with policy := b.drop 4 }) := by
  refine (cmdLinkPolicy_run ho).trans ((if_neg (by simpa using hpass)).trans (if_neg ?_))
  rw [Bool.or_eq_true, Bool.or_eq_true, decide_eq_true_eq, decide_eq_true_eq, decide_eq_true_eq]
  obtain ⟨hbits, hlow, hhigh⟩ := hok
  omega

theorem cmdLinkPolicy_sets (hfree : s.flashHeld = false) (hgen : s.sec.genUsed < 1024)
    (hrec : s.sec.recordBad = false) : cmdLinkPolicy.run b s =
      ans stOk (b.drop 4) (s.recordUpd fun x => { x with policy := b.drop 4 }) :=
  (cmdLinkPolicy_ok ho hpass hok).trans ((if_neg (by rw [hfree]; nofun)).trans
    (if_neg (by simp [State.canRecord, hgen, hrec])))

end

theorem mbLinkPolicy_sets_answers {dt : Nat} {r : Req} (hf : s.mbxFree) (hp : r.plain)
    (hlen : r.body.length = 20) (ho : fld r.body 0 4 = 0) (hzero : zeroAt r.body 10 10 = true) :
    (s.policyRefused (r.body.drop 4) → ∃ t, exec (.mbLinkPolicy dt r) s = .next t ∧ t.answered 0x0D04 r stDenied [] ∧
      t.onlyChanges s answerParts) ∧
    (¬s.policyRefused (r.body.drop 4) → ¬policyOk (r.body.drop 4) → ∃ t, exec (.mbLinkPolicy dt r) s = .next t ∧
      t.answered 0x0D04 r stMalformed [] ∧ t.onlyChanges s answerParts) ∧
    (¬s.policyRefused (r.body.drop 4) → policyOk (r.body.drop 4) → s.flashHeld = true →
      ∃ t, exec (.mbLinkPolicy dt r) s = .next t ∧ t.answered 0x0D04 r stBusy [] ∧ t.onlyChanges s answerParts) ∧
    (¬s.policyRefused (r.body.drop 4) → policyOk (r.body.drop 4) → s.flashHeld = false → s.sec.genUsed < 1024 →
      s.sec.recordBad = false → ∃ t, exec (.mbLinkPolicy dt r) s = .next t ∧
        t.answered 0x0D04 r stOk (r.body.drop 4) ∧ t.sec.policy = r.body.drop 4 ∧ t.sec.life = s.sec.life ∧
        t.sec.links = s.sec.links ∧ t.onlyChanges s (.vault :: mailParts)) := by
  have hshape : cmdLinkPolicy.shape r.body = true := by
    show (cfgOpts r.body false && cfgLen r.body 4 16 && (bit (fld r.body 0 4) 1 || zeroAt r.body 10 10)) = true
    simp [cfgOpts, cfgLen, ho, hlen, hzero, bit]
  let w := (s.elapse dt).writeReq 0x0D04 r
  have hread {st : Nat} := mailbox_read s dt cmdLinkPolicy r (by decide) hf hp hshape st []
  refine ⟨fun h => hread (cmdLinkPolicy_denied (s := w) ho h),
    fun h hno => hread (cmdLinkPolicy_malformed (s := w) ho h hno),
    fun h hok hheld => hread ((cmdLinkPolicy_ok (s := w) ho h hok).trans (if_pos hheld)),
    fun h hok hfree hgen hrec => ?_⟩
  obtain ⟨t, hexec, hans, honly, ht⟩ := mailbox_change s dt cmdLinkPolicy r (.vault :: mailParts) (by decide) hf hp
    hshape _ _ _ (cmdLinkPolicy_sets (s := w) ho h hok hfree hgen hrec) (by decide)
    (only_sub (State.recordUpd_touch w _) (by decide))
  obtain ⟨n, hn⟩ := recordUpd_sec w fun x => { x with policy := r.body.drop 4 }
  have hsec : t.sec = { s.sec with policy := r.body.drop 4, genUsed := n } := by
    rw [ht, State.pins_sec, State.respond_sec, hn]
    rfl
  exact ⟨t, hexec, hans, congrArg Sec.policy hsec, (congrArg Sec.life hsec).trans rfl,
    (congrArg Sec.links hsec).trans rfl, honly⟩

theorem mbLinkPolicy_reads_answers {dt : Nat} {r : Req} (hf : s.mbxFree) (hp : r.plain)
    (hlen : r.body.length = 4) (ho : fld r.body 0 4 = 2) : ∃ t, exec (.mbLinkPolicy dt r) s = .next t ∧
      t.answered 0x0D04 r stOk s.sec.policy ∧ t.onlyChanges s answerParts :=
  mailbox_read s dt cmdLinkPolicy r (by decide) hf hp (by
    show (cfgOpts r.body false && cfgLen r.body 4 16 && (bit (fld r.body 0 4) 1 || zeroAt r.body 10 10)) = true
    simp [cfgOpts, cfgLen, ho, hlen, bit]) _ _ (cmdLinkPolicy_reads ho)

end

/-! ### MB_PIN_BEHAVIOUR (R473) -/

section
variable {b : List Byte} {s : State}

/-- The check of a warrant for a pin. -/
abbrev State.pinGood (s : State) (b : List Byte) : Bool :=
  s.warrantGood [3] fun a => fld a 0 1 = fld b 0 1 && allZero (a.drop 1)

/-- The state after it. -/
abbrev State.pinGone (s : State) (b : List Byte) : State :=
  s.warrantGone [3] fun a => fld a 0 1 = fld b 0 1 && allZero (a.drop 1)

/-- A revision that the image lists and the parisons allow, or none. -/
abbrev State.pinListed (s : State) (rev : Nat) : Prop :=
  rev = 0 ∨ (fwLists (zeros 32 ++ s.sys.revisions) rev = true ∧ ∀ m ∈ s.minBehavs, m ≤ rev)

theorem fwLists_zeros (l : List Byte) (rev : Nat) :
    fwLists (zeros 32 ++ l) rev = bit (fld l (rev / 8) 1) (rev % 8) := by
  rw [fwLists, fld_append_right (by simp [zeros])]
  simp [zeros]

theorem pinListed_iff (rev : Nat) : s.pinListed rev ↔ ¬(decide (rev ≠ 0) &&
    (!bit (fld s.sys.revisions (rev / 8) 1) (rev % 8) || s.minBehavs.any fun m => decide (rev < m))) = true := by
  rw [State.pinListed, fwLists_zeros]
  simp only [Bool.and_eq_true, Bool.or_eq_true, decide_eq_true_eq, Bool.not_eq_true', List.any_eq_true, not_and_or,
    not_or, not_exists, not_lt, Bool.not_eq_false, ne_eq, not_not]
  exact or_congr Iff.rfl (and_congr Iff.rfl ⟨fun h m => or_iff_not_imp_left.mpr fun hm => h m (not_not.mp hm),
    fun h m hm => (h m).resolve_left (not_not.mpr hm)⟩)

theorem pinListed_of_gone (rev : Nat) : (s.pinGone b).pinListed rev ↔ s.pinListed rev := by
  have hsys : (s.pinGone b).sys = s.sys := (warrantGone_only s _ _).2 .system (by decide)
  rw [State.pinListed, State.pinListed, warrantGone_minBehavs, hsys]

theorem cmdPin_reserved (h : fld b 0 1 = 255) : cmdPin.run b s = ans stMalformed [] s := if_pos h

section
variable (hrev : fld b 0 1 ≠ 255)
include hrev

theorem cmdPin_bad (h : s.pinGood b = false) : cmdPin.run b s = ans stWarrant [] (s.pinGone b) :=
  (if_neg hrev).trans (if_pos (by
    show (!s.pinGood b) = true
    rw [h]
    rfl))

variable (hgood : s.pinGood b = true)
include hgood

theorem cmdPin_good : cmdPin.run b s =
    if (decide (fld b 0 1 ≠ 0) && (!bit (fld (s.pinGone b).sys.revisions (fld b 0 1 / 8) 1) (fld b 0 1 % 8) ||
      (s.pinGone b).minBehavs.any fun m => decide (fld b 0 1 < m))) = true then refuse stDenied (s.pinGone b)
    else if (s.pinGone b).flashHeld = true then refuse stBusy (s.pinGone b)
    else if (decide ({ raiseSeq s.sec.stagedW (s.pinGone b).sec with pin := fld b 0 1 } ≠ (s.pinGone b).sec) &&
      (!(s.pinGone b).canRecord || (s.pinGone b).sec.recordBad)) = true then refuse stDenied (s.pinGone b)
    else ans stOk [] ((s.pinGone b).recordUpd
      fun _ => { raiseSeq s.sec.stagedW (s.pinGone b).sec with pin := fld b 0 1 }) :=
  (if_neg hrev).trans (if_neg (by
    show ¬(!s.pinGood b) = true
    rw [hgood]
    nofun))

theorem cmdPin_unlisted (h : ¬s.pinListed (fld b 0 1)) : cmdPin.run b s = ans stDenied [] (s.pinGone b) := by
  rw [← pinListed_of_gone (b := b), pinListed_iff, not_not] at h
  exact (cmdPin_good hrev hgood).trans (if_pos h)

theorem cmdPin_pins (h : s.pinListed (fld b 0 1)) (hfree : s.flashHeld = false) (hgen : s.sec.genUsed < 1024)
    (hrec : s.sec.recordBad = false) : ∃ t, cmdPin.run b s = ans stOk [] t ∧ t.sec.pin = fld b 0 1 ∧
      t.sec.life = s.sec.life ∧ t.sec.stagedW = [] := by
  rw [← pinListed_of_gone (b := b), pinListed_iff] at h
  have hrun := (cmdPin_good hrev hgood).trans (if_neg h)
  have hsec : (s.pinGone b).sec = s.sec.warrantless := warrantGone_sec s _ _
  have honly := warrantGone_only s [3] fun a => fld a 0 1 = fld b 0 1 && allZero (a.drop 1)
  have hcalm : (s.pinGone b).flashHeld = false := by
    obtain ⟨hA, hB⟩ := honly.2 .feeds (by decide)
    rw [State.flashHeld, hA, hB]
    exact hfree
  refine ⟨_, hrun.trans ((if_neg (by rw [hcalm]; nofun)).trans (if_neg ?_)), ?_⟩
  · rw [State.canRecord, hsec, show s.sec.warrantless.genUsed = s.sec.genUsed from rfl, decide_eq_true hgen,
      show s.sec.warrantless.recordBad = s.sec.recordBad from rfl, hrec]
    simp
  · obtain ⟨n, hn⟩ := recordUpd_sec (s.pinGone b)
      fun _ => { raiseSeq s.sec.stagedW (s.pinGone b).sec with pin := fld b 0 1 }
    obtain ⟨m, hm⟩ := raiseSeq_sec s.sec.stagedW (s.pinGone b).sec
    rw [hn, hm, hsec]
    exact ⟨rfl, rfl, rfl⟩

end

theorem mbPinBehaviour_answers {dt : Nat} {r : Req} (hf : s.mbxFree) (hp : r.plain)
    (hlen : r.body.length = 4) (hzero : zeroAt r.body 1 3 = true) :
    (fld r.body 0 1 = 255 → ∃ t, exec (.mbPinBehaviour dt r) s = .next t ∧ t.answered 0x0C05 r stMalformed [] ∧
      t.onlyChanges s answerParts) ∧
    (fld r.body 0 1 ≠ 255 → (s.elapse dt).pinGood r.body = false → ∃ t, exec (.mbPinBehaviour dt r) s = .next t ∧
      t.answered 0x0C05 r stWarrant [] ∧ t.sec = { s.sec with stagedW := [], nonce := none }) ∧
    (fld r.body 0 1 ≠ 255 → (s.elapse dt).pinGood r.body = true → ¬s.pinListed (fld r.body 0 1) →
      ∃ t, exec (.mbPinBehaviour dt r) s = .next t ∧
        t.answered 0x0C05 r stDenied [] ∧ t.sec = { s.sec with stagedW := [], nonce := none }) ∧
    (fld r.body 0 1 ≠ 255 → (s.elapse dt).pinGood r.body = true → s.pinListed (fld r.body 0 1) →
      s.flashHeld = false → s.sec.genUsed < 1024 → s.sec.recordBad = false →
      ∃ t, exec (.mbPinBehaviour dt r) s = .next t ∧ t.answered 0x0C05 r stOk [] ∧
        t.sec.pin = fld r.body 0 1 ∧ t.sec.life = s.sec.life ∧ t.sec.stagedW = []) := by
  have hshape : cmdPin.shape r.body = true := by
    show (decide (r.body.length = 4) && zeroAt r.body 1 3) = true
    rw [hzero, decide_eq_true hlen]
    rfl
  let w := (s.elapse dt).writeReq 0x0C05 r
  have hgone : (w.pinGone r.body).sec = s.sec.warrantless := warrantGone_sec w _ _
  have hdone {st : Nat} {u : State} (hrun : cmdPin.run r.body w = ans st [] u) :
      ∃ t, exec (.mbPinBehaviour dt r) s = .next t ∧ t.answered 0x0C05 r st [] ∧ t.sec = u.sec := by
    obtain ⟨t, hexec, hans, ht⟩ := mailbox_done (s.elapse dt) cmdPin r (by decide) hf hp hshape _ _ _ hrun
    exact ⟨t, hexec, hans, by rw [ht, State.pins_sec, State.respond_sec]⟩
  refine ⟨fun h => mailbox_read s dt cmdPin r (by decide) hf hp hshape _ _ (cmdPin_reserved h), fun h hbad => ?_,
    fun h hgood hno => ?_, fun h hgood hlist hfree hgen hrec => ?_⟩
  · obtain ⟨t, hexec, hans, hsec⟩ := hdone (cmdPin_bad (s := w) h hbad)
    exact ⟨t, hexec, hans, hsec.trans hgone⟩
  · obtain ⟨t, hexec, hans, hsec⟩ := hdone (cmdPin_unlisted (s := w) h hgood hno)
    exact ⟨t, hexec, hans, hsec.trans hgone⟩
  · obtain ⟨u, hrun, hpin, hlife, hstaged⟩ := cmdPin_pins (s := w) h hgood hlist hfree hgen hrec
    obtain ⟨t, hexec, hans, hsec⟩ := hdone hrun
    rw [← hsec] at hpin hlife hstaged
    exact ⟨t, hexec, hans, hpin, hlife, hstaged⟩

end

/-! ### Randomness (R500, R502) -/

section
variable {s : State} {dt : Nat}

/-- The random source runs and has not failed. -/
abbrev State.trngOn (s : State) : Prop := s.awake = true ∧ s.sec.trngFailed = false

theorem trngOn_iff : s.trngOn ↔ ¬(!s.awake || s.sec.trngFailed) = true := by
  simp [State.trngOn]

/-- The state in which the random source has failed. -/
def State.trngDown (s : State) : State := { s with sec := { s.sec with trngFailed := true } }

theorem secTrng_fails (test : Fin 3) (h : s.trngOn) : ∃ t, exec (.secTrng dt test) s = .next t ∧
    t.sec = { s.sec with trngFailed := true } ∧
    t.tallyAt (tlSec 3) = min tlyMax (s.tallyAt (tlSec 3) + 1) ∧ t.onlyChanges s (.vault :: eventParts) := by
  refine ⟨_, congrArg go (if_neg (trngOn_iff.mp h)), ?_, ?_, go_only (dt := dt) ?_⟩
  · rw [State.pins_sec, State.note_sec]
    rfl
  · rw [State.tallyAt, State.pins_tly]
    refine (note_sec _ (secKey_of (by decide)) _ _).trans ?_
    exact count_self (s.elapse dt).trngDown (tlSec 3)
  · have hdown : (s.elapse dt).trngDown.onlyChanges (s.elapse dt) (.vault :: eventParts) :=
      only_set_sec _ (only_refl ..) (by decide)
    exact only_trans (only_step hdown (State.count_touch ..) (by decide)) (note_only _ _ _ _ (by decide))

theorem drbgReseed_draws (h : s.trngOn) : ∃ t, exec (.drbgReseed dt) s = .next t ∧
    t.sec = { s.sec with draws := s.sec.draws + 1, requests := 0, reseedAt := (s.elapse dt).now } ∧
    t.onlyChanges s [.vault] := by
  refine ⟨_, congrArg go (if_neg (trngOn_iff.mp h)), ?_, go_only (dt := dt) ?_⟩
  · rw [State.pins_sec]
    rfl
  · exact only_set_sec _ (only_refl ..) (by decide)

theorem secTrng_idle (test : Fin 3) (h : ¬s.trngOn) :
    ∃ t, exec (.secTrng dt test) s = .next t ∧ t.onlyChanges s [] :=
  exec_idle (dt := dt) (congrArg go (if_pos (not_not.mp (trngOn_iff.not.mp h))))

theorem drbgReseed_idle (h : ¬s.trngOn) : ∃ t, exec (.drbgReseed dt) s = .next t ∧ t.onlyChanges s [] :=
  exec_idle (dt := dt) (congrArg go (if_pos (not_not.mp (trngOn_iff.not.mp h))))

end

end Sys2Proof.Machine

/-! SUPPORT. Chapter 15, continued: the vault back after a restart (R504), and the vault's commands settled. -/

namespace Sys2Proof.Machine

/-! ### VAULT_RESTART (R504) -/

section
variable {s : State} {dt : Nat}

theorem keyAsk_restarting (s : State) (l ty : Nat) (stage : KeyStage) (body : List Byte) :
    (s.keyAsk l ty stage body).sec.restarting = s.sec.restarting := rfl

/-- Asking for keying leaves the vault in service. -/
theorem keyStart_restarting (s : State) (l : Nat) : (s.keyStart l).sec.restarting = s.sec.restarting := by
  have hfail (u : State) (cause : Nat) : (u.keyFail l cause).sec.restarting = u.sec.restarting :=
    (keyFail_vault u l cause).1
  unfold State.keyStart
  split
  · rfl
  · unfold State.keyBegin
    extract_lets x first t a b n u body _ v
    have ht : t.sec.restarting = s.sec.restarting := rfl
    clear_value t
    have ha : a.2.sec.restarting = t.sec.restarting := rfl
    clear_value a
    have hb : b.2.sec.restarting = a.2.sec.restarting := rfl
    clear_value b
    have hu : u.sec.restarting = b.2.sec.restarting := rfl
    clear_value u
    have hv : v.sec.restarting = u.sec.restarting := rfl
    clear_value v
    split
    · exact ht
    · split
      · exact (hfail t 5).trans ht
      · split
        · exact (hfail t 1).trans ht
        · rw [keyAsk_restarting, hv, hu, hb, ha, ht]

/-- A link that a restart of the vault keys anew. -/
abbrev State.rekeys (s : State) (l : Nat) : Prop := (s.sa l).secured = true ∨ (s.key l).stage = .backoff

/-- The vault in service again. -/
def State.vaultUp (s : State) : State := { s with sec := { s.sec with restarting := false } }

/-- What a restart does for each link. -/
def State.rekeyLink (s : State) (l : Nat) : State :=
  if ((s.sa l).secured || (s.key l).stage = .backoff) = true then s.keyStart l else s

theorem rekeyLink_idle {l : Nat} (h : ¬s.rekeys l) : s.rekeyLink l = s := by
  refine if_neg ?_
  rw [Bool.or_eq_true, decide_eq_true_eq]
  exact h

theorem rekeyLink_restarting (s : State) (l : Nat) : (s.rekeyLink l).sec.restarting = s.sec.restarting := by
  unfold State.rekeyLink
  split
  · exact keyStart_restarting s l
  · rfl

theorem foldl_rekeyLink_idle (links : List Nat) (h : ∀ l ∈ links, ¬s.rekeys l) :
    links.foldl State.rekeyLink s = s :=
  List.foldlRecOn (motive := (· = s)) links _ rfl fun x hx l hl => by
    rw [hx]
    exact rekeyLink_idle (h l hl)

theorem vaultBack_eq (h : s.sec.restarting = true) :
    s.vaultBack = (List.range 25).foldl State.rekeyLink s.vaultUp := if_neg (by simp [h])

theorem vaultRestart_idle (h : s.sec.restarting = false) :
    ∃ t, exec (.vaultRestart dt) s = .next t ∧ t.onlyChanges s [] :=
  exec_idle (dt := dt) (congrArg go (if_pos (by simp [h])))

theorem vaultRestart_serves (h : s.sec.restarting = true) :
    ∃ t, exec (.vaultRestart dt) s = .next t ∧ t.sec.restarting = false ∧
      ((∀ l, l < 25 → (s.sa l).secured = false ∧ (s.key l).stage ≠ .backoff) →
        t.sec = { s.sec with restarting := false } ∧ t.onlyChanges s [.vault]) := by
  refine ⟨_, congrArg go (vaultBack_eq (s := s.elapse dt) h), ?_, fun hno => ?_⟩
  · rw [State.pins_sec]
    exact (foldl_keeps (fun x : State => x.sec.restarting) _ rekeyLink_restarting _ _).trans rfl
  · rw [foldl_rekeyLink_idle (s := (s.elapse dt).vaultUp) _ fun l hl hre => by
      obtain ⟨hsec, hstage⟩ := hno l (List.mem_range.mp hl)
      exact hre.elim (fun h => nomatch hsec.symm.trans h) hstage]
    exact ⟨rfl, go_only (dt := dt) (only_set_sec _ (only_refl ..) (by decide))⟩

end

/-! ### O56 -/

/-- Settles O56, row by row of the vault's mailbox commands, with randomness and the vault's restart. -/
theorem vaultCommands : Obligations.VaultCommands := by
  unfold Obligations.VaultCommands
  refine ⟨fun s dt r hf hp hzero => ?_, fun s dt r hf hp hlen hzero hlife hpend => ?_, fun s dt r hf hp => ?_,
    fun s dt test => ?_⟩
  · intro e o data w arg good
    refine ⟨fun hlen => ?_, fun hlen => warrantStage_answers hf hp hzero hlen,
      fun hlen => warrantApply_answers hf hp hzero hlen, fun hlen => enrolGenerate_answers hf hp hzero hlen,
      fun hlen => enrolReadCert_answers hf hp hzero hlen, fun hlen => enrolCert_answers hf hp hzero hlen⟩
    obtain ⟨hdraws, hdenied⟩ := warrantChallenge_answers (dt := dt) hf hp hzero hlen
    exact ⟨hdraws, hdenied, warrantClear_answers hf hp hzero hlen⟩
  · exact attest_answers hf hp hlen hzero hlife hpend
  · exact ⟨fun hlen ho hzero => mbLinkPolicy_sets_answers hf hp hlen ho hzero,
      fun hlen ho => mbLinkPolicy_reads_answers hf hp hlen ho,
      fun hlen hzero => mbPinBehaviour_answers hf hp hlen hzero⟩
  · exact ⟨secTrng_fails test, drbgReseed_draws, fun hoff => ⟨secTrng_idle test hoff, drbgReseed_idle hoff⟩,
      vaultRestart_idle, vaultRestart_serves⟩

end Sys2Proof.Machine

/-! SUPPORT. Chapter 15, keying: what a link's session is after each operation on it, and the messages INIT, RESP,
CONFIRM and DONE (R493 to R495). -/

namespace Sys2Proof.Machine

/-! ### A link's session and its tallies -/

section
variable (s : State) (l : Nat)

theorem key_of_sec {s t : State} (h : t.sec = s.sec) (l : Nat) : t.key l = s.key l := by rw [State.key, h, State.key]

@[simp] theorem key_setKey_self (x : KeyLink) : (s.setKey l x).key l = x := Tab.get_set_self ..

theorem key_setKey_ne (x : KeyLink) {j : Nat} (h : j ≠ l) : (s.setKey l x).key j = s.key j := Tab.get_set_ne _ _ _ h

@[simp] theorem sa_setSa_self (x : Sa) : (s.setSa l x).sa l = x := Tab.get_set_self ..

theorem sa_of_fab {s t : State} (h : t.fab = s.fab) (l : Nat) : t.sa l = s.sa l := by rw [State.sa, h, State.sa]

theorem key_vaultOp (kind j : Nat) : (s.vaultOp l kind).key j = s.key j := rfl

/-- The tallies of a link's keys are those of no daybook entry. -/
theorem tlKey_ne_feed {j : Nat} (hj : 61 ≤ j ∧ j ≤ 63) {i : Nat} (hi : i = 5 ∨ i = 6) : tlKey l j ≠ tlFeed i := by
  simp only [tlKey, tlFeed, Machine.tly]
  split <;> omega

theorem note_key {j : Nat} (hj : 61 ≤ j ∧ j ≤ 63) (code : Nat) (args : List Byte) :
    (s.note code args).tallyAt (tlKey l j) = s.tallyAt (tlKey l j) :=
  note_tally s code args _ (tlKey_ne_feed l hj (.inl rfl)) (tlKey_ne_feed l hj (.inr rfl))

end

/-! ### A session fails, asks, installs -/

/-- How long a session that fails again waits (R498). -/
def KeyLink.nextWait (x : KeyLink) : Nat := if x.wait = 0 then 1000000000 else min (2 * x.wait) 64000000000

/-- A session that has failed. -/
def KeyLink.failed (x : KeyLink) (now : Nat) : KeyLink :=
  { x with
    stage := .backoff, wait := x.nextWait, due := some (now + x.nextWait), lastType := 0, lastBody := [] }

section
variable (s : State) (l : Nat)

theorem keyFail_eq (cause : Nat) : ∃ args, s.keyFail l cause =
    ((((s.keySend l 7 (s.key l).session (le 1 cause)).setKey l ((s.key l).failed s.now)).count
      (tlKey l mKeyFail)).note (ev 15 6) args) := ⟨_, rfl⟩

theorem keyFail_fails (cause : Nat) : (s.keyFail l cause).key l = (s.key l).failed s.now ∧
    (s.keyFail l cause).sec.ops = s.sec.ops ∧
    (s.keyFail l cause).tallyAt (tlKey l mKeyFail) = min tlyMax (s.tallyAt (tlKey l mKeyFail) + 1) := by
  obtain ⟨args, h⟩ := keyFail_eq s l cause
  rw [h, note_key _ l (by decide)]
  refine ⟨?_, ?_, ?_⟩
  · rw [key_of_sec (State.note_sec ..)]
    exact key_setKey_self ..
  · rw [State.note_sec]
    rfl
  · exact count_self _ _

/-- What asking leaves of a session. -/
def KeyLink.asks (x : KeyLink) (now ty : Nat) (stage : KeyStage) (body : List Byte) : KeyLink :=
  { x with stage := stage, lastType := ty, lastBody := body, repeats := 0, due := some (now + 200000000) }

theorem keyAsk_eq (ty : Nat) (stage : KeyStage) (body : List Byte) : s.keyAsk l ty stage body =
    (s.setKey l ((s.key l).asks s.now ty stage body)).keySend l ty (s.key l).session body := rfl

/-- A session installed. -/
def KeyLink.installed (x : KeyLink) (now : Nat) : KeyLink :=
  { x with stage := .idle, ikm := x.secret, salt := x.h2, nextK := 1, keyedAt := some now, wait := 0 }

theorem keyInstall_eq : ∃ (u : State) (args : List Byte),
    s.keyInstall l = (u.count (tlKey l mKeyOk)).note (ev 15 5) args ∧
    u.onlyChanges ((s.setSa l { sa0 with secured := true, rx := [(0, 0)] }).setKey l
      ((s.key l).installed s.now)) [.inaug] := by
  refine ⟨_, _, rfl, ?_⟩
  refine only_ite (only_refl ..) ?_
  unfold State.openSoon
  split
  · exact only_set_inaug _ (only_refl ..) (by decide)
  · exact only_refl ..

theorem keyInstall_installs : (s.keyInstall l).sa l = { sa0 with secured := true, rx := [(0, 0)] } ∧
    (s.keyInstall l).key l = (s.key l).installed s.now ∧
    (s.keyInstall l).tallyAt (tlKey l mKeyOk) = min tlyMax (s.tallyAt (tlKey l mKeyOk) + 1) := by
  obtain ⟨u, args, h, hu⟩ := keyInstall_eq s l
  rw [h, note_key _ l (by decide), sa_of_fab (State.note_fab ..), key_of_sec (State.note_sec ..)]
  refine ⟨?_, ?_, ?_⟩
  · exact (sa_of_fab (hu.2 .fabric (by decide)) l).trans (sa_setSa_self s l _)
  · exact (key_of_sec (hu.2 .vault (by decide)) l).trans (key_setKey_self ..)
  · refine (count_self u _).trans ?_
    rw [show Tab.get 0 u.tly.live (tlKey l mKeyOk) = s.tallyAt (tlKey l mKeyOk) from
      only_tallyAt hu (by decide) _]

theorem keySend_sent (ty : Nat) (session : U32) (body : List Byte) :
    (s.keySend l ty session body).sent = s.sent ++ [.msg l (ev 15 ty) (le 4 session.toNat ++ body)] := rfl

/-- A message sent again is all that happens. -/
theorem keySend_again {o : Out} {s : State} {dt l ty : Nat} {session : U32} {body : List Byte}
    (h : o = go ((s.elapse dt).keySend l ty session body)) : ∃ t, o = .next t ∧
      t.sent = s.sent ++ [.msg l (ev 15 ty) (le 4 session.toNat ++ body)] ∧ t.onlyChanges s [.outputs] := by
  refine ⟨_, h, ?_, go_only (dt := dt) (State.keySend_touch ..)⟩
  rw [State.pins_sent]
  rfl

end

/-! ### INIT (R493) -/

section
variable {s : State} {dt : Nat} {m : KeyMsg}

/-- An INIT that the responder takes. -/
abbrev State.initFits (s : State) (m : KeyMsg) : Prop :=
  s.linkUp m.link.val = true ∧ s.canKey = true ∧ (s.key m.link.val).isOpen = false ∧
    (s.key m.link.val).keyed = true ∧ m.body.length = 9152 ∧ m.src.toNat < Config.nodeMac.toNat

/-- The INIT of the session that runs. -/
abbrev State.initAgain (s : State) (m : KeyMsg) : Prop :=
  m.session = (s.key m.link.val).session ∧ (s.key m.link.val).initiator = false ∧
    (s.key m.link.val).initBody = m.body

/-- The session that an INIT begins. -/
def KeyLink.begun (x : KeyLink) (m : KeyMsg) : KeyLink :=
  { x with
    initiator := false, session := m.session, peer := m.src, initBody := m.body
    serial := slice m.body 104 8, stage := .verifyInit, due := none, lastType := 0, lastBody := [] }

/-- The vault drops what it does for a link. -/
def State.opsCut (s : State) (l : Nat) : State :=
  { s with sec := { s.sec with ops := s.sec.ops.filter fun o => o.link != l } }

theorem initFits_iff : ¬s.initFits m ↔ (!s.linkUp m.link.val || !s.canKey || (s.key m.link.val).isOpen ||
    !(s.key m.link.val).keyed || decide (m.body.length ≠ 9152) ||
    decide (Config.nodeMac.toNat ≤ m.src.toNat)) = true := by
  simp only [State.initFits, Bool.or_eq_true, Bool.not_eq_true', decide_eq_true_eq, not_and_or, Bool.not_eq_true,
    Bool.not_eq_false, not_lt, ne_eq, or_assoc]

theorem initAgain_iff : s.initAgain m ↔ (decide (m.session = (s.key m.link.val).session) &&
    !(s.key m.link.val).initiator && decide ((s.key m.link.val).initBody = m.body)) = true := by
  simp only [State.initAgain, Bool.and_eq_true, Bool.not_eq_true', decide_eq_true_eq, and_assoc]

theorem keyInit_misfits (h : ¬s.initFits m) : s.keyInit m = s := if_pos (initFits_iff.mp h)

section
variable (h : s.initFits m)
include h

theorem keyInit_again (hagain : s.initAgain m) : s.keyInit m = if (s.key m.link.val).lastType = 2 then
    s.keySend m.link.val 2 (s.key m.link.val).session (s.key m.link.val).lastBody else s :=
  (if_neg (initFits_iff.not.mp (not_not.mpr h))).trans (if_pos (initAgain_iff.mp hagain))

theorem keyInit_begins (hnew : ¬s.initAgain m) : s.keyInit m =
    ((s.opsCut m.link.val).setKey m.link.val ((s.key m.link.val).begun m)).vaultOp m.link.val 0 :=
  (if_neg (initFits_iff.not.mp (not_not.mpr h))).trans (if_neg (initAgain_iff.not.mp hnew))

end

theorem keyInitRx_begins (h : s.initFits m) (hnew : ¬s.initAgain m) : ∃ t, exec (.keyInitRx dt m) s = .next t ∧
    t.key m.link.val = (s.key m.link.val).begun m ∧
    t.sec.ops = (s.sec.ops.filter fun o => o.link != m.link.val) ++ [(⟨m.link.val, 0⟩ : VaultOp)] ∧
    (∀ j, j ≠ m.link.val → t.key j = s.key j) ∧ t.onlyChanges s [.vault] := by
  let u := (s.elapse dt).opsCut m.link.val
  refine ⟨_, congrArg go (keyInit_begins (s := s.elapse dt) h hnew), ?_, ?_, fun j hj => ?_, go_only (dt := dt) ?_⟩
  · rw [key_of_sec (State.pins_sec _), key_vaultOp]
    exact key_setKey_self ..
  · rw [State.pins_sec]
    rfl
  · rw [key_of_sec (State.pins_sec _), key_vaultOp]
    exact (key_setKey_ne _ _ _ hj).trans rfl
  · have hcut : u.onlyChanges (s.elapse dt) [.vault] := only_set_sec _ (only_refl ..) (by decide)
    exact only_step (only_step hcut (State.setKey_touch ..) (by decide)) (State.vaultOp_touch ..) (by decide)

theorem keyInitRx_again (h : s.initFits m) (hagain : s.initAgain m) (hlast : (s.key m.link.val).lastType = 2) :
    ∃ t, exec (.keyInitRx dt m) s = .next t ∧ t.sent = s.sent ++
      [.msg m.link.val (ev 15 2) (le 4 (s.key m.link.val).session.toNat ++ (s.key m.link.val).lastBody)] ∧
      t.onlyChanges s [.outputs] :=
  keySend_again (congrArg go ((keyInit_again (s := s.elapse dt) h hagain).trans (if_pos hlast)))

theorem keyInitRx_still (h : ¬s.initFits m ∨ (s.initAgain m ∧ (s.key m.link.val).lastType ≠ 2)) :
    ∃ t, exec (.keyInitRx dt m) s = .next t ∧ t.onlyChanges s [] := by
  refine exec_idle (dt := dt) (congrArg go ?_)
  by_cases hfits : s.initFits m
  · obtain ⟨hagain, hlast⟩ := h.resolve_left (not_not.mpr hfits)
    exact (keyInit_again (s := s.elapse dt) hfits hagain).trans (if_neg hlast)
  · exact keyInit_misfits (s := s.elapse dt) hfits

end

/-! ### RESP -/

section
variable {s : State} {dt : Nat} {m : KeyMsg}

/-- A RESP that the initiator takes. -/
abbrev State.respFits (s : State) (m : KeyMsg) : Prop :=
  s.linkUp m.link.val = true ∧ (s.key m.link.val).initiator = true ∧ m.session = (s.key m.link.val).session ∧
    m.body.length = 26144 ∧ Config.nodeMac.toNat < m.src.toNat

/-- The session once its RESP is there. -/
def KeyLink.responded (x : KeyLink) (m : KeyMsg) : KeyLink :=
  { x with
    respBody := m.body, peer := m.src, serial := slice m.body 104 8, stage := .verifyResp, due := none }

theorem respFits_iff : ¬s.respFits m ↔ (!s.linkUp m.link.val || !(s.key m.link.val).initiator ||
    decide (m.session ≠ (s.key m.link.val).session) || decide (m.body.length ≠ 26144) ||
    decide (m.src.toNat ≤ Config.nodeMac.toNat)) = true := by
  simp only [State.respFits, Bool.or_eq_true, Bool.not_eq_true', decide_eq_true_eq, not_and_or, Bool.not_eq_true,
    not_lt, ne_eq, or_assoc]

theorem keyResp_misfits (h : ¬s.respFits m) : s.keyResp m = s := if_pos (respFits_iff.mp h)

theorem keyResp_fits (h : s.respFits m) : s.keyResp m =
    if (decide ((s.key m.link.val).stage = .waitDone) && decide ((s.key m.link.val).lastType = 3)) = true then
      s.keySend m.link.val 3 (s.key m.link.val).session (s.key m.link.val).lastBody
    else if (s.key m.link.val).stage ≠ .waitResp then s
    else (s.setKey m.link.val ((s.key m.link.val).responded m)).vaultOp m.link.val 2 :=
  if_neg (respFits_iff.not.mp (not_not.mpr h))

theorem keyRespRx_takes (h : s.respFits m) (hstage : (s.key m.link.val).stage = .waitResp) :
    ∃ t, exec (.keyRespRx dt m) s = .next t ∧ t.key m.link.val = (s.key m.link.val).responded m ∧
      t.sec.ops = s.sec.ops ++ [(⟨m.link.val, 2⟩ : VaultOp)] ∧ t.onlyChanges s [.vault] := by
  refine ⟨_, congrArg go ((keyResp_fits (s := s.elapse dt) h).trans ((if_neg ?_).trans (if_neg ?_))), ?_, ?_,
    go_only (dt := dt) ?_⟩
  · show ¬(decide ((s.key m.link.val).stage = .waitDone) && _) = true
    rw [hstage]
    nofun
  · exact not_not.mpr hstage
  · rw [key_of_sec (State.pins_sec _), key_vaultOp]
    exact key_setKey_self ..
  · rw [State.pins_sec]
    rfl
  · exact only_step (State.setKey_touch ..) (State.vaultOp_touch ..) (by decide)

theorem keyRespRx_again (h : s.respFits m) (hstage : (s.key m.link.val).stage = .waitDone)
    (hlast : (s.key m.link.val).lastType = 3) : ∃ t, exec (.keyRespRx dt m) s = .next t ∧ t.sent = s.sent ++
      [.msg m.link.val (ev 15 3) (le 4 (s.key m.link.val).session.toNat ++ (s.key m.link.val).lastBody)] ∧
      t.onlyChanges s [.outputs] :=
  keySend_again (congrArg go ((keyResp_fits (s := s.elapse dt) h).trans (if_pos (by
    show (decide ((s.key m.link.val).stage = .waitDone) && decide ((s.key m.link.val).lastType = 3)) = true
    rw [hstage, hlast]
    rfl))))

theorem keyRespRx_still (h : ¬s.respFits m ∨
      ((s.key m.link.val).stage ≠ .waitResp ∧ (s.key m.link.val).stage ≠ .waitDone)) :
    ∃ t, exec (.keyRespRx dt m) s = .next t ∧ t.onlyChanges s [] := by
  refine exec_idle (dt := dt) (congrArg go ?_)
  by_cases hfits : s.respFits m
  · obtain ⟨hresp, hdone⟩ := h.resolve_left (not_not.mpr hfits)
    refine (keyResp_fits (s := s.elapse dt) hfits).trans ((if_neg ?_).trans (if_pos hresp))
    rw [Bool.and_eq_true, decide_eq_true_eq]
    exact fun ⟨h, _⟩ => hdone h
  · exact keyResp_misfits (s := s.elapse dt) hfits

end

/-! ### CONFIRM -/

section
variable {s : State} {dt : Nat} {m : KeyMsg}

/-- A CONFIRM that the responder takes. -/
abbrev State.confFits (s : State) (m : KeyMsg) : Prop :=
  s.linkUp m.link.val = true ∧ (s.key m.link.val).initiator = false ∧ m.session = (s.key m.link.val).session ∧
    m.src = (s.key m.link.val).peer ∧ m.body.length = 17088

/-- The session once its CONFIRM is there. -/
def KeyLink.confirming (x : KeyLink) (m : KeyMsg) : KeyLink :=
  { x with stage := .verifyConfirm, respBody := m.body, due := none }

theorem confFits_iff : ¬s.confFits m ↔ (!s.linkUp m.link.val || (s.key m.link.val).initiator ||
    decide (m.session ≠ (s.key m.link.val).session) || decide (m.src ≠ (s.key m.link.val).peer) ||
    decide (m.body.length ≠ 17088)) = true := by
  simp only [State.confFits, Bool.or_eq_true, Bool.not_eq_true', decide_eq_true_eq, not_and_or, Bool.not_eq_true,
    Bool.not_eq_false, ne_eq, or_assoc]

theorem keyConfirm_misfits (h : ¬s.confFits m) : s.keyConfirm m = s := if_pos (confFits_iff.mp h)

theorem keyConfirm_fits (h : s.confFits m) : s.keyConfirm m =
    if (decide ((s.key m.link.val).stage = .idle) && decide ((s.key m.link.val).lastType = 4)) = true then
      s.keySend m.link.val 4 (s.key m.link.val).session (s.key m.link.val).lastBody
    else if (s.key m.link.val).stage ≠ .waitConfirm then s
    else (s.setKey m.link.val ((s.key m.link.val).confirming m)).vaultOp m.link.val 4 :=
  if_neg (confFits_iff.not.mp (not_not.mpr h))

theorem keyConfirmRx_takes (h : s.confFits m) (hstage : (s.key m.link.val).stage = .waitConfirm) :
    ∃ t, exec (.keyConfirmRx dt m) s = .next t ∧ t.key m.link.val = (s.key m.link.val).confirming m ∧
      t.sec.ops = s.sec.ops ++ [(⟨m.link.val, 4⟩ : VaultOp)] ∧ t.onlyChanges s [.vault] := by
  refine ⟨_, congrArg go ((keyConfirm_fits (s := s.elapse dt) h).trans ((if_neg ?_).trans (if_neg ?_))), ?_, ?_,
    go_only (dt := dt) ?_⟩
  · show ¬(decide ((s.key m.link.val).stage = .idle) && _) = true
    rw [hstage]
    nofun
  · exact not_not.mpr hstage
  · rw [key_of_sec (State.pins_sec _), key_vaultOp]
    exact key_setKey_self ..
  · rw [State.pins_sec]
    rfl
  · exact only_step (State.setKey_touch ..) (State.vaultOp_touch ..) (by decide)

theorem keyConfirmRx_again (h : s.confFits m) (hstage : (s.key m.link.val).stage = .idle)
    (hlast : (s.key m.link.val).lastType = 4) : ∃ t, exec (.keyConfirmRx dt m) s = .next t ∧ t.sent = s.sent ++
      [.msg m.link.val (ev 15 4) (le 4 (s.key m.link.val).session.toNat ++ (s.key m.link.val).lastBody)] ∧
      t.onlyChanges s [.outputs] :=
  keySend_again (congrArg go ((keyConfirm_fits (s := s.elapse dt) h).trans (if_pos (by
    show (decide ((s.key m.link.val).stage = .idle) && decide ((s.key m.link.val).lastType = 4)) = true
    rw [hstage, hlast]
    rfl))))

theorem keyConfirmRx_still (h : ¬s.confFits m ∨
      ((s.key m.link.val).stage ≠ .waitConfirm ∧ (s.key m.link.val).stage ≠ .idle)) :
    ∃ t, exec (.keyConfirmRx dt m) s = .next t ∧ t.onlyChanges s [] := by
  refine exec_idle (dt := dt) (congrArg go ?_)
  by_cases hfits : s.confFits m
  · obtain ⟨hconf, hdone⟩ := h.resolve_left (not_not.mpr hfits)
    refine (keyConfirm_fits (s := s.elapse dt) hfits).trans ((if_neg ?_).trans (if_pos hconf))
    rw [Bool.and_eq_true, decide_eq_true_eq]
    exact fun ⟨h, _⟩ => hdone h
  · exact keyConfirm_misfits (s := s.elapse dt) hfits

end

/-! ### DONE -/

section
variable {s : State} {dt : Nat} {m : KeyMsg}

/-- A DONE that verifies. -/
abbrev State.doneFits (s : State) (m : KeyMsg) : Prop :=
  s.linkUp m.link.val = true ∧ (s.key m.link.val).stage = .waitDone ∧ m.session = (s.key m.link.val).session ∧
    m.src = (s.key m.link.val).peer ∧
    m.body = Config.hmac (Config.hkdf (s.key m.link.val).secret (s.key m.link.val).h2 (ascii "ZN CONFIRM"))
      (s.key m.link.val).h2

/-- The session once its DONE is there. -/
def KeyLink.quiet (x : KeyLink) : KeyLink := { x with due := none, lastType := 0, lastBody := [] }

theorem doneFits_iff : ¬s.doneFits m ↔ (!s.linkUp m.link.val || decide ((s.key m.link.val).stage ≠ .waitDone) ||
    decide (m.session ≠ (s.key m.link.val).session) || decide (m.src ≠ (s.key m.link.val).peer) ||
    decide (m.body ≠ Config.hmac (Config.hkdf (s.key m.link.val).secret (s.key m.link.val).h2 (ascii "ZN CONFIRM"))
      (s.key m.link.val).h2)) = true := by
  simp only [State.doneFits, Bool.or_eq_true, Bool.not_eq_true', decide_eq_true_eq, not_and_or, Bool.not_eq_true,
    ne_eq, or_assoc]

theorem keyDone_installs (h : s.doneFits m) : s.keyDone m =
    (s.setKey m.link.val (s.key m.link.val).quiet).keyInstall m.link.val :=
  if_neg (doneFits_iff.not.mp (not_not.mpr h))

theorem keyDoneRx_installs (h : s.doneFits m) : ∃ t, exec (.keyDoneRx dt m) s = .next t ∧
    t.sa m.link.val = { sa0 with secured := true, rx := [(0, 0)] } ∧ (t.key m.link.val).stage = .idle ∧
    (t.key m.link.val).keyedAt = some (s.elapse dt).now ∧ (t.key m.link.val).ikm = (s.key m.link.val).secret ∧
    (t.key m.link.val).salt = (s.key m.link.val).h2 ∧ (t.key m.link.val).wait = 0 ∧
    t.tallyAt (tlKey m.link.val mKeyOk) = min tlyMax (s.tallyAt (tlKey m.link.val mKeyOk) + 1) := by
  let u := (s.elapse dt).setKey m.link.val (s.key m.link.val).quiet
  obtain ⟨hsa, hkey, htally⟩ := keyInstall_installs u m.link.val
  refine ⟨_, congrArg go (keyDone_installs (s := s.elapse dt) h), ?_⟩
  rw [State.tallyAt, State.pins_tly, sa_of_fab (State.pins_fab _), key_of_sec (State.pins_sec _)]
  have hu : u.key m.link.val = (s.key m.link.val).quiet := key_setKey_self ..
  rw [hu] at hkey
  rw [show ((s.elapse dt).setKey m.link.val ((s.elapse dt).key m.link.val).quiet).keyInstall m.link.val =
    u.keyInstall m.link.val from rfl, hkey]
  exact ⟨hsa, rfl, rfl, rfl, rfl, rfl, htally⟩

theorem keyDoneRx_still (h : ¬s.doneFits m) : ∃ t, exec (.keyDoneRx dt m) s = .next t ∧ t.onlyChanges s [] :=
  exec_idle (dt := dt) (congrArg go (if_pos (doneFits_iff.mp h)))

end

end Sys2Proof.Machine

/-! SUPPORT. Chapter 15, keying continued: NEXT, NEXT_ACK and ABORT (R496, R498). -/

namespace Sys2Proof.Machine

/-! ### A port with nothing queued sends nothing -/

section
variable {s : State} (h : s.fab.copies = [])
include h

theorem queueOf_nil (p q : Nat) : s.queueOf p q = [] := by rw [State.queueOf, h, List.filter_nil]

theorem eligible_nil (p : Nat) : s.eligible p = none := by
  unfold State.eligible
  simp only [queueOf_nil h, List.head?_nil]
  rfl

theorem choose_nil (p n : Nat) : s.choose p n = s := by
  cases n with
  | zero => rfl
  | succ n =>
    unfold State.choose
    rw [eligible_nil h]
    exact ite_self _

theorem hrxPump_nil (q : Nat) (justRead : Bool) (n : Nat) : s.hrxPump q justRead n = s := by
  cases n with
  | zero => rfl
  | succ n =>
    unfold State.hrxPump
    rw [queueOf_nil h]
    rfl

theorem egress_nil (p : Nat) : s.egress p = s := by
  unfold State.egress State.hrxAll
  split
  · exact List.foldlRecOn (motive := (· = s)) _ _ rfl fun x hx q _ => by rw [hx, hrxPump_nil h]
  · exact choose_nil h ..

end

/-! ### NEXT (R496) -/

section
variable {s : State} {dt : Nat} {m : KeyMsg}

/-- A link that is up and secured. -/
abbrev State.linkKeyed (s : State) (l : Nat) : Prop := s.linkUp l = true ∧ (s.sa l).secured = true

theorem linkKeyed_iff {l : Nat} : ¬s.linkKeyed l ↔ (!s.linkUp l || !(s.sa l).secured) = true := by
  simp only [State.linkKeyed, Bool.or_eq_true, Bool.not_eq_true', not_and_or, Bool.not_eq_true]

/-- The association that a NEXT names. -/
abbrev nextAn (m : KeyMsg) : Nat := fld m.body 4 1 % 4

/-- The answer to a NEXT. -/
def State.nextAnswer (s : State) (m : KeyMsg) : State :=
  s.keySend m.link.val 6 (s.key m.link.val).session (nextBody (s.key m.link.val) (fld m.body 0 4) (nextAn m))

/-- The state with the next receive association. -/
def State.nextSa (s : State) (m : KeyMsg) : State :=
  s.setSa m.link.val { s.sa m.link.val with rx := pushKeep 2 (s.sa m.link.val).rx (nextAn m, 0) }

/-- A NEXT that does not authenticate, or for a link that is not keyed, counts or does nothing. -/
theorem keyNext_fails (h : s.linkKeyed m.link.val) (hbad : nextOk (s.key m.link.val) m = false) :
    s.keyNext m = s.count (tlKey m.link.val mKeyFail) :=
  (if_neg (linkKeyed_iff.not.mp (not_not.mpr h))).trans (if_pos (by rw [hbad]; rfl))

theorem keyNext_seen (h : s.linkKeyed m.link.val) (hok : nextOk (s.key m.link.val) m = true)
    (hseen : ∃ y ∈ (s.sa m.link.val).rx, y.1 = nextAn m) : s.keyNext m = s.nextAnswer m := by
  have hany : (s.sa m.link.val).rx.any (fun y => decide (y.1 = nextAn m)) = true := by simpa using hseen
  unfold State.keyNext
  extract_lets l x an a seen t u
  have ht : t = s := if_pos hany
  have hu : u = t := if_pos hany
  rw [hu, ht]
  exact (if_neg (linkKeyed_iff.not.mp (not_not.mpr h))).trans (if_neg (by
    show ¬(!nextOk (s.key m.link.val) m) = true
    rw [hok]
    nofun))

theorem keyNext_installs (h : s.linkKeyed m.link.val) (hok : nextOk (s.key m.link.val) m = true)
    (hnew : ∀ y ∈ (s.sa m.link.val).rx, y.1 ≠ nextAn m) :
    s.keyNext m = ((s.nextSa m).count (tlKey m.link.val mRekey)).nextAnswer m := by
  have hany : ¬(s.sa m.link.val).rx.any (fun y => decide (y.1 = nextAn m)) = true := by
    rw [List.any_eq_true]
    rintro ⟨y, hy, han⟩
    exact hnew y hy (of_decide_eq_true han)
  unfold State.keyNext
  extract_lets l x an a seen t u
  have ht : t = s.nextSa m := if_neg hany
  have hu : u = t.count (tlKey l mRekey) := if_neg hany
  rw [hu, ht]
  exact (if_neg (linkKeyed_iff.not.mp (not_not.mpr h))).trans (if_neg (by
    show ¬(!nextOk (s.key m.link.val) m) = true
    rw [hok]
    nofun))

/-- A tally counted is all that happens. -/
theorem count_answers {o : Out} {k : Nat} (h : o = go ((s.elapse dt).count k)) : ∃ t, o = .next t ∧
    t.tallyAt k = min tlyMax (s.tallyAt k + 1) ∧ t.onlyChanges s [.tallies] := by
  refine ⟨_, h, ?_, go_only (dt := dt) (State.count_touch ..)⟩
  rw [State.tallyAt, State.pins_tly]
  exact count_self (s.elapse dt) k

theorem keyNextRx_fails (h : s.linkKeyed m.link.val) (hbad : nextOk (s.key m.link.val) m = false) :
    ∃ t, exec (.keyNextRx dt m) s = .next t ∧
      t.tallyAt (tlKey m.link.val mKeyFail) = min tlyMax (s.tallyAt (tlKey m.link.val mKeyFail) + 1) ∧
      t.onlyChanges s [.tallies] :=
  count_answers (congrArg go (keyNext_fails (s := s.elapse dt) h hbad))

theorem keyNextRx_answers (h : s.linkKeyed m.link.val) (hok : nextOk (s.key m.link.val) m = true) :
    ∃ t, exec (.keyNextRx dt m) s = .next t ∧
      t.sent = s.sent ++ [.msg m.link.val (ev 15 6) (le 4 (s.key m.link.val).session.toNat ++
        nextBody (s.key m.link.val) (fld m.body 0 4) (nextAn m))] ∧
      ((∀ y ∈ (s.sa m.link.val).rx, y.1 ≠ nextAn m) →
        t.tallyAt (tlKey m.link.val mRekey) = min tlyMax (s.tallyAt (tlKey m.link.val mRekey) + 1) ∧
        t.sa m.link.val = { s.sa m.link.val with rx := pushKeep 2 (s.sa m.link.val).rx (nextAn m, 0) }) ∧
      ((∃ y ∈ (s.sa m.link.val).rx, y.1 = nextAn m) → t.sa m.link.val = s.sa m.link.val) := by
  by_cases hseen : ∃ y ∈ (s.sa m.link.val).rx, y.1 = nextAn m
  · refine ⟨_, congrArg go (keyNext_seen (s := s.elapse dt) h hok hseen), ?_, fun hnew => ?_, fun _ => ?_⟩
    · rw [State.pins_sent]
      rfl
    · obtain ⟨y, hy, han⟩ := hseen
      exact absurd han (hnew y hy)
    · rw [sa_of_fab (State.pins_fab _)]
      rfl
  · have hnew : ∀ y ∈ (s.sa m.link.val).rx, y.1 ≠ nextAn m := fun y hy han => hseen ⟨y, hy, han⟩
    refine ⟨_, congrArg go (keyNext_installs (s := s.elapse dt) h hok hnew), ?_, fun _ => ⟨?_, ?_⟩,
      fun hold => absurd hold hseen⟩
    · rw [State.pins_sent]
      rfl
    · rw [State.tallyAt, State.pins_tly]
      exact count_self ((s.elapse dt).nextSa m) _
    · rw [sa_of_fab (State.pins_fab _)]
      exact sa_setSa_self (s.elapse dt) m.link.val _

theorem keyNextRx_still (h : ¬s.linkKeyed m.link.val) :
    ∃ t, exec (.keyNextRx dt m) s = .next t ∧ t.onlyChanges s [] :=
  exec_idle (dt := dt) (congrArg go (if_pos (linkKeyed_iff.mp h)))

/-! ### NEXT_ACK -/

/-- The link whose NEXT waits for its answer. -/
abbrev State.nextAsked (s : State) (l : Nat) : Prop := s.linkKeyed l ∧ (s.key l).lastType = 5

theorem nextAsked_iff {l : Nat} : ¬s.nextAsked l ↔
    (!s.linkUp l || !(s.sa l).secured || decide ((s.key l).lastType ≠ 5)) = true := by
  rw [State.nextAsked, not_and_or, linkKeyed_iff, Bool.or_eq_true (_ || _), decide_eq_true_eq]

/-- The session with its next association in use. -/
def KeyLink.moved (x : KeyLink) : KeyLink :=
  { x with nextK := x.nextK + 1, lastType := 0, lastBody := [], due := none }

/-- Transmission under the association that NEXT_ACK names. -/
def State.ackSa (s : State) (m : KeyMsg) : State :=
  s.setSa m.link.val { s.sa m.link.val with txAn := nextAn m, txPn := 0, asked := false, held := false }

theorem keyNextAck_moves (h : s.nextAsked m.link.val) (hok : nextOk (s.key m.link.val) m = true)
    (hk : fld m.body 0 4 = (s.key m.link.val).nextK) : s.keyNextAck m =
      ((((s.ackSa m).setKey m.link.val (s.key m.link.val).moved).count (tlKey m.link.val mRekey)).egress
        m.link.val) :=
  (if_neg (nextAsked_iff.not.mp (not_not.mpr h))).trans ((if_neg (by
    show ¬(!nextOk (s.key m.link.val) m) = true
    rw [hok]
    nofun)).trans (if_neg (not_not.mpr hk)))

theorem keyNextAckRx_fails (h : s.linkKeyed m.link.val) (hlast : (s.key m.link.val).lastType = 5)
    (hbad : nextOk (s.key m.link.val) m = false) : ∃ t, exec (.keyNextAckRx dt m) s = .next t ∧
      t.tallyAt (tlKey m.link.val mKeyFail) = min tlyMax (s.tallyAt (tlKey m.link.val mKeyFail) + 1) ∧
      t.onlyChanges s [.tallies] :=
  count_answers (congrArg go ((if_neg (nextAsked_iff (s := s.elapse dt).not.mp (not_not.mpr ⟨h, hlast⟩))).trans
    (if_pos (by
      show (!nextOk (s.key m.link.val) m) = true
      rw [hbad]
      rfl))))

theorem keyNextAckRx_moves (h : s.linkKeyed m.link.val) (hlast : (s.key m.link.val).lastType = 5)
    (hok : nextOk (s.key m.link.val) m = true) (hk : fld m.body 0 4 = (s.key m.link.val).nextK)
    (hnil : s.fab.copies = []) : ∃ t, exec (.keyNextAckRx dt m) s = .next t ∧
      t.tallyAt (tlKey m.link.val mRekey) = min tlyMax (s.tallyAt (tlKey m.link.val mRekey) + 1) ∧
      t.sa m.link.val = { s.sa m.link.val with txAn := nextAn m, txPn := 0, asked := false, held := false } ∧
      (t.key m.link.val).nextK = (s.key m.link.val).nextK + 1 ∧ (t.key m.link.val).lastType = 0 ∧
      (t.key m.link.val).due = none := by
  let u := ((s.elapse dt).ackSa m).setKey m.link.val (s.key m.link.val).moved
  have hrun : (s.elapse dt).keyNextAck m = u.count (tlKey m.link.val mRekey) :=
    (keyNextAck_moves (s := s.elapse dt) ⟨h, hlast⟩ hok hk).trans
      (egress_nil (s := u.count (tlKey m.link.val mRekey)) hnil _)
  have hkey : u.key m.link.val = (s.key m.link.val).moved := key_setKey_self ..
  refine ⟨_, congrArg go hrun, ?_⟩
  rw [State.tallyAt, State.pins_tly, sa_of_fab (State.pins_fab _), key_of_sec (State.pins_sec _),
    show (u.count (tlKey m.link.val mRekey)).key m.link.val = u.key m.link.val from rfl, hkey]
  exact ⟨count_self u _, sa_setSa_self (s.elapse dt) m.link.val _, rfl, rfl, rfl⟩

theorem keyNextAckRx_still (h : ¬s.linkKeyed m.link.val ∨ (s.key m.link.val).lastType ≠ 5) :
    ∃ t, exec (.keyNextAckRx dt m) s = .next t ∧ t.onlyChanges s [] :=
  exec_idle (dt := dt) (congrArg go (if_pos (nextAsked_iff (s := s.elapse dt).mp fun hasked =>
    h.elim (fun hno => hno hasked.1) (fun hno => hno hasked.2))))

/-! ### ABORT (R498) -/

/-- An ABORT of the session that runs. -/
abbrev State.abortFits (s : State) (m : KeyMsg) : Prop :=
  s.linkUp m.link.val = true ∧ (s.key m.link.val).busy = true ∧ m.session = (s.key m.link.val).session

theorem abortFits_iff : s.abortFits m ↔ (s.linkUp m.link.val && (s.key m.link.val).busy &&
    decide (m.session = (s.key m.link.val).session)) = true := by
  simp only [State.abortFits, Bool.and_eq_true, decide_eq_true_eq, and_assoc]

theorem keyAbortRx_fails (h : s.abortFits m) : ∃ t, exec (.keyAbortRx dt m) s = .next t ∧
    (t.key m.link.val).stage = .backoff ∧
    t.sec.ops = (s.sec.ops.filter fun o => o.link != m.link.val) ∧
    t.tallyAt (tlKey m.link.val mKeyFail) = min tlyMax (s.tallyAt (tlKey m.link.val mKeyFail) + 1) ∧
    (t.key m.link.val).due = some ((s.elapse dt).now + (s.key m.link.val).nextWait) := by
  obtain ⟨hkey, hops, htally⟩ := keyFail_fails ((s.elapse dt).opsCut m.link.val) m.link.val 4
  refine ⟨_, congrArg go (if_pos (abortFits_iff (s := s.elapse dt).mp h)), ?_⟩
  rw [State.tallyAt, State.pins_tly, key_of_sec (State.pins_sec _), State.pins_sec]
  exact ⟨congrArg KeyLink.stage hkey, hops, htally, congrArg KeyLink.due hkey⟩

theorem keyAbortRx_still (h : s.linkUp m.link.val = false ∨ (s.key m.link.val).busy = false ∨
      m.session ≠ (s.key m.link.val).session) :
    ∃ t, exec (.keyAbortRx dt m) s = .next t ∧ t.onlyChanges s [] := by
  refine exec_idle (dt := dt) (congrArg go (if_neg (abortFits_iff (s := s.elapse dt).not.mp ?_)))
  rintro ⟨hup, hbusy, hours⟩
  obtain h | h | h := h
  · exact nomatch h.symm.trans hup
  · exact nomatch h.symm.trans hbusy
  · exact h hours

end

end Sys2Proof.Machine

/-! SUPPORT. Chapter 15, keying continued: what follows an operation of the vault (R494, R495, R498, R499). -/

namespace Sys2Proof.Machine

/-! ### An operation ends -/

section
variable {s : State} {dt ix : Nat} {o : VaultOp}

/-- The state without the operation that ended. -/
def State.opEnded (s : State) (ix : Nat) : State := { s with sec := { s.sec with ops := removeAt s.sec.ops ix } }

theorem vaultDone_idle (h : s.sec.ops[ix]? = none ∨ s.sec.restarting = true) : s.vaultDone ix = s := by
  unfold State.vaultDone
  split
  · rfl
  next o ho =>
    obtain h | h := h
    · exact nomatch ho.symm.trans h
    · exact if_pos h

variable (ho : s.sec.ops[ix]? = some o) (hrun : s.sec.restarting = false)
include ho hrun

theorem vaultDone_ends : s.vaultDone ix = if o.kind = 5 then (match (s.opEnded ix).sec.quotePend with
      | some h => ({ s.opEnded ix with sec := { (s.opEnded ix).sec with
          quotePend := none
          quote := h ++ padTo 0 17088 (Config.slhSign ((s.opEnded ix).sec.idSeed.getD []) h) } }).count (tlSec 4)
      | none => s.opEnded ix)
    else if (decide (o.kind = 0) && decide ((s.key o.link).stage = .verifyInit)) = true then
      (s.opEnded ix).keyVerified o.link
    else if (decide (o.kind = 1) && decide ((s.key o.link).stage = .signResp)) = true then
      (s.opEnded ix).keySigned o.link
    else if (decide (o.kind = 2) && decide ((s.key o.link).stage = .verifyResp)) = true then
      (s.opEnded ix).keyRespVerified o.link
    else if (decide (o.kind = 3) && decide ((s.key o.link).stage = .signConfirm)) = true then
      (s.opEnded ix).keyAsk o.link 3 .waitDone
        (padTo 0 17088 (Config.slhSign ((s.opEnded ix).sec.idSeed.getD []) ((s.opEnded ix).key o.link).h2))
    else if (decide (o.kind = 4) && decide ((s.key o.link).stage = .verifyConfirm)) = true then
      (s.opEnded ix).keyConfirmed o.link
    else s.opEnded ix := by
  unfold State.vaultDone
  rw [ho]
  exact if_neg (by rw [hrun]; nofun)

/-- The quote that stands once it is signed. -/
def State.quoted (s : State) (h : List Byte) : State :=
  { s with sec := { s.sec with
    quotePend := none, quote := h ++ padTo 0 17088 (Config.slhSign (s.sec.idSeed.getD []) h) } }

theorem vaultDone_quotes {h : List Byte} (hkind : o.kind = 5) (hpend : s.sec.quotePend = some h) :
    s.vaultDone ix = ((s.opEnded ix).quoted h).count (tlSec 4) := by
  rw [vaultDone_ends ho hrun, if_pos hkind, show (s.opEnded ix).sec.quotePend = some h from hpend]
  rfl

theorem vaultDone_verified (hkind : o.kind = 0) (hstage : (s.key o.link).stage = .verifyInit) :
    s.vaultDone ix = (s.opEnded ix).keyVerified o.link := by
  rw [vaultDone_ends ho hrun, hkind, hstage]
  rfl

theorem vaultDone_signed (hkind : o.kind = 1) (hstage : (s.key o.link).stage = .signResp) :
    s.vaultDone ix = (s.opEnded ix).keySigned o.link := by
  rw [vaultDone_ends ho hrun, hkind, hstage]
  rfl

theorem vaultDone_respVerified (hkind : o.kind = 2) (hstage : (s.key o.link).stage = .verifyResp) :
    s.vaultDone ix = (s.opEnded ix).keyRespVerified o.link := by
  rw [vaultDone_ends ho hrun, hkind, hstage]
  rfl

theorem vaultDone_confirms (hkind : o.kind = 3) (hstage : (s.key o.link).stage = .signConfirm) :
    s.vaultDone ix = (s.opEnded ix).keyAsk o.link 3 .waitDone
      (padTo 0 17088 (Config.slhSign ((s.opEnded ix).sec.idSeed.getD []) ((s.opEnded ix).key o.link).h2)) := by
  rw [vaultDone_ends ho hrun, hkind, hstage]
  rfl

theorem vaultDone_confirmed (hkind : o.kind = 4) (hstage : (s.key o.link).stage = .verifyConfirm) :
    s.vaultDone ix = (s.opEnded ix).keyConfirmed o.link := by
  rw [vaultDone_ends ho hrun, hkind, hstage]
  rfl

end

/-! ### What follows each operation -/

section
variable {s : State} {l : Nat}

/-- A certificate that names the peer, in a message of it. -/
abbrev State.certNames (s : State) (l : Nat) (body : List Byte) : Prop :=
  s.certOk (slice body 32 7936) = true ∧ macAt (slice body 32 7936) 0x38 = (s.key l).peer ∧
    (l = 24 → (s.key l).peer = s.peerMac)

theorem certNames_iff {body : List Byte} : ¬s.certNames l body ↔ (!s.certOk (slice body 32 7936) ||
    decide (macAt (slice body 32 7936) 0x38 ≠ (s.key l).peer) ||
    (decide (l = 24) && decide ((s.key l).peer ≠ s.peerMac))) = true := by
  simp only [State.certNames, Bool.or_eq_true, Bool.and_eq_true, Bool.not_eq_true', decide_eq_true_eq, not_and_or,
    Bool.not_eq_true, ne_eq, or_assoc, Classical.not_imp]

/-- The responder's session once it has encapsulated. -/
def KeyLink.signing (x : KeyLink) (body secret : List Byte) (n : Nat) : KeyLink :=
  { x with stage := .signResp, respBody := body, secret := secret, draw := n }

/-- The state after two draws. -/
def State.drawn (s : State) : State := ((s.draw 32).2.draw 32).2

theorem keyVerified_signs (hcert : s.certNames l (s.key l).initBody) (hown : s.flash.cert ≠ [])
    (htrng : s.sec.trngFailed = false) : ∃ body secret n, s.keyVerified l =
      (s.drawn.setKey l ((s.key l).signing body secret n)).vaultOp l 1 := by
  refine ⟨_, _, _, (if_neg ?_).trans (if_neg ?_)⟩
  · rw [Bool.or_eq_true, ← certNames_iff, hasCert_iff.mpr hown]
    exact fun h => h.elim (fun h => h hcert) nofun
  · rw [htrng]
    nofun

theorem keyVerified_fails (h : ¬s.certNames l (s.key l).initBody ∨ s.flash.cert = [] ∨ s.sec.trngFailed = true) :
    ∃ cause, s.keyVerified l = s.keyFail l cause := by
  by_cases hcert : s.certNames l (s.key l).initBody ∧ s.flash.cert ≠ []
  · obtain ⟨hnames, hown⟩ := hcert
    obtain h | h | h := h
    · exact absurd hnames h
    · exact absurd h hown
    · refine ⟨5, (if_neg ?_).trans (if_pos h)⟩
      rw [Bool.or_eq_true, ← certNames_iff, hasCert_iff.mpr hown]
      exact fun h => h.elim (fun h => h hnames) nofun
  · refine ⟨1, if_pos ?_⟩
    rw [Bool.or_eq_true, ← certNames_iff, Bool.not_eq_true', ← Bool.not_eq_true, hasCert_iff]
    exact not_and_or.mp hcert

/-- The responder's session once it has signed. -/
def KeyLink.hashed (x : KeyLink) (h2 : List Byte) : KeyLink := { x with h2 := h2 }

theorem keySigned_eq : ∃ h2 body, s.keySigned l =
    (s.setKey l ((s.key l).hashed h2)).keyAsk l 2 .waitConfirm body := ⟨_, _, rfl⟩

/-- The signature of a RESP verifies. -/
abbrev KeyLink.respSigned (x : KeyLink) : Prop :=
  Config.slhVerify (slice (slice x.respBody 32 7936) 0x18 32) x.h1 (x.respBody.drop 9056) = true

/-- The initiator's session once it has decapsulated. -/
def KeyLink.confirms (x : KeyLink) (h2 secret : List Byte) : KeyLink :=
  { x with stage := .signConfirm, h2 := h2, secret := secret }

theorem keyRespVerified_signs (hcert : s.certNames l (s.key l).respBody) (hsigned : (s.key l).respSigned) :
    ∃ h2 secret, s.keyRespVerified l = (s.setKey l ((s.key l).confirms h2 secret)).vaultOp l 3 :=
  ⟨_, _, (if_neg (certNames_iff.not.mp (not_not.mpr hcert))).trans (if_neg (by
    show ¬(!Config.slhVerify (slice (slice (s.key l).respBody 32 7936) 0x18 32) (s.key l).h1
      ((s.key l).respBody.drop 9056)) = true
    rw [hsigned]
    nofun))⟩

theorem keyRespVerified_fails (h : ¬s.certNames l (s.key l).respBody ∨ ¬(s.key l).respSigned) :
    ∃ cause, s.keyRespVerified l = s.keyFail l cause := by
  by_cases hcert : s.certNames l (s.key l).respBody
  · have hno := h.resolve_left (not_not.mpr hcert)
    refine ⟨2, (if_neg (certNames_iff.not.mp (not_not.mpr hcert))).trans (if_pos ?_)⟩
    rw [Bool.not_eq_true', ← Bool.not_eq_true]
    exact hno
  · exact ⟨1, if_pos (certNames_iff.mp hcert)⟩

/-- The signature of a CONFIRM verifies. -/
abbrev KeyLink.confSigned (x : KeyLink) : Prop :=
  Config.slhVerify (slice x.initBody 56 32) x.h2 x.respBody = true

/-- The responder's session once it has sent DONE. -/
def KeyLink.doneSent (x : KeyLink) (body : List Byte) : KeyLink :=
  { x with lastType := 4, lastBody := body, due := none }

theorem keyConfirmed_installs (hsigned : (s.key l).confSigned) : ∃ body, s.keyConfirmed l =
    ((s.keyInstall l).setKey l (((s.keyInstall l).key l).doneSent body)).keySend l 4
      ((s.keyInstall l).key l).session body :=
  ⟨_, if_neg (by
    show ¬(!Config.slhVerify (slice (s.key l).initBody 56 32) (s.key l).h2 (s.key l).respBody) = true
    rw [hsigned]
    nofun)⟩

theorem keyConfirmed_fails (h : ¬(s.key l).confSigned) : s.keyConfirmed l = s.keyFail l 2 :=
  if_pos (by
    show (!Config.slhVerify (slice (s.key l).initBody 56 32) (s.key l).h2 (s.key l).respBody) = true
    rw [Bool.not_eq_true', ← Bool.not_eq_true]
    exact h)

end

/-! ### VAULT_OPERATION_COMPLETE -/

section
variable {s : State} {dt : Nat} {ix : Fin 2} {o : VaultOp}

/-- The state in which an operation has ended. -/
abbrev State.opDone (s : State) (dt : Nat) (ix : Fin 2) : State := (s.elapse dt).opEnded ix.val

theorem opDone_only (s : State) (dt : Nat) (ix : Fin 2) : (s.opDone dt ix).onlyChanges (s.elapse dt) [.vault] :=
  only_set_sec _ (only_refl ..) (by decide)

theorem vaultOp_idle (h : s.sec.ops[ix.val]? = none ∨ s.sec.restarting = true) :
    ∃ t, exec (.vaultOperationComplete dt ix) s = .next t ∧ t.onlyChanges s [] :=
  exec_idle (dt := dt) (congrArg go (vaultDone_idle (s := s.elapse dt) h))

/-- A session that fails at the end of an operation. -/
theorem opFails {cause : Nat} (h : (s.elapse dt).vaultDone ix.val = (s.opDone dt ix).keyFail o.link cause) :
    ∃ t, exec (.vaultOperationComplete dt ix) s = .next t ∧ (t.key o.link).stage = .backoff ∧
      t.sec.ops = removeAt s.sec.ops ix.val ∧
      t.tallyAt (tlKey o.link mKeyFail) = min tlyMax (s.tallyAt (tlKey o.link mKeyFail) + 1) := by
  obtain ⟨hkey, hops, htally⟩ := keyFail_fails (s.opDone dt ix) o.link cause
  refine ⟨_, congrArg go h, ?_⟩
  rw [State.tallyAt, State.pins_tly, key_of_sec (State.pins_sec _), State.pins_sec]
  exact ⟨congrArg KeyLink.stage hkey, hops, htally⟩

/-- What a session that asks at the end of an operation leaves. -/
theorem opAsks {u : State} {ty : Nat} {stage : KeyStage} {body : List Byte} {x : KeyLink}
    (h : (s.elapse dt).vaultDone ix.val = u.keyAsk o.link ty stage body) (hu : u.onlyChanges (s.elapse dt) [.vault])
    (hnow : u.now = (s.elapse dt).now) (hx : u.key o.link = x) : ∃ t, exec (.vaultOperationComplete dt ix) s = .next t ∧
      t.key o.link = x.asks (s.elapse dt).now ty stage body ∧
      t.sent = s.sent ++ [.msg o.link (ev 15 ty) (le 4 x.session.toNat ++ (t.key o.link).lastBody)] ∧
      t.onlyChanges s [.vault, .outputs] := by
  have hkey : (u.keyAsk o.link ty stage body).pins.key o.link = x.asks (s.elapse dt).now ty stage body := by
    rw [key_of_sec (State.pins_sec _), keyAsk_eq, hx, hnow]
    exact key_setKey_self ..
  refine ⟨_, congrArg go h, hkey, ?_, go_only (dt := dt) ?_⟩
  · rw [hkey, State.pins_sent, keyAsk_eq, keySend_sent, hx]
    exact congrArg (· ++ _) (hu.2 .outputs (by decide))
  · exact only_step (only_sub hu (by decide)) (State.keyAsk_touch ..) (by decide)

variable (ho : s.sec.ops[ix.val]? = some o) (hrun : s.sec.restarting = false)
include ho hrun

theorem quote_completes {h : List Byte} (hkind : o.kind = 5) (hpend : s.sec.quotePend = some h) :
    ∃ t, exec (.vaultOperationComplete dt ix) s = .next t ∧ t.sec = { s.sec with
        ops := removeAt s.sec.ops ix.val, quotePend := none
        quote := h ++ padTo 0 17088 (Config.slhSign (s.sec.idSeed.getD []) h) } ∧
      t.tallyAt (tlSec 4) = min tlyMax (s.tallyAt (tlSec 4) + 1) ∧ t.onlyChanges s [.vault, .tallies] := by
  refine ⟨_, congrArg go (vaultDone_quotes (s := s.elapse dt) ho hrun hkind hpend), ?_, ?_, go_only (dt := dt) ?_⟩
  · rw [State.pins_sec]
    rfl
  · rw [State.tallyAt, State.pins_tly]
    exact count_self ((s.opDone dt ix).quoted h) _
  · have hquoted : ((s.opDone dt ix).quoted h).onlyChanges (s.elapse dt) [.vault, .tallies] :=
      only_set_sec _ (only_sub (opDone_only s dt ix) (by decide)) (by decide)
    exact only_step hquoted (State.count_touch ..) (by decide)

theorem init_verifies (hkind : o.kind = 0) (hstage : (s.key o.link).stage = .verifyInit)
    (hcert : s.certNames o.link (s.key o.link).initBody) (hown : s.flash.cert ≠ []) (htrng : s.sec.trngFailed = false) :
    ∃ t, exec (.vaultOperationComplete dt ix) s = .next t ∧ (t.key o.link).stage = .signResp ∧
      t.sec.ops = removeAt s.sec.ops ix.val ++ [(⟨o.link, 1⟩ : VaultOp)] ∧
      t.sec.draws = s.sec.draws + 2 ∧ t.onlyChanges s [.vault] := by
  obtain ⟨body, secret, n, hsigns⟩ := keyVerified_signs (s := s.opDone dt ix) hcert hown htrng
  refine ⟨_, congrArg go ((vaultDone_verified (s := s.elapse dt) ho hrun hkind hstage).trans hsigns), ?_, ?_, ?_,
    go_only (dt := dt) ?_⟩
  · rw [key_of_sec (State.pins_sec _), key_vaultOp, key_setKey_self]
    rfl
  · rw [State.pins_sec]
    rfl
  · rw [State.pins_sec]
    rfl
  · have hdrawn : (s.opDone dt ix).drawn.onlyChanges (s.elapse dt) [.vault] :=
      only_trans (only_trans (opDone_only s dt ix) (State.draw_touch _ 32)) (State.draw_touch _ 32)
    exact only_trans (only_trans hdrawn (State.setKey_touch ..)) (State.vaultOp_touch ..)

theorem init_fails (hkind : o.kind = 0) (hstage : (s.key o.link).stage = .verifyInit)
    (h : ¬s.certNames o.link (s.key o.link).initBody ∨ s.flash.cert = [] ∨ s.sec.trngFailed = true) :
    ∃ t, exec (.vaultOperationComplete dt ix) s = .next t ∧ (t.key o.link).stage = .backoff ∧
      t.sec.ops = removeAt s.sec.ops ix.val ∧
      t.tallyAt (tlKey o.link mKeyFail) = min tlyMax (s.tallyAt (tlKey o.link mKeyFail) + 1) := by
  obtain ⟨cause, hfail⟩ := keyVerified_fails (s := s.opDone dt ix) (l := o.link) h
  exact opFails ((vaultDone_verified (s := s.elapse dt) ho hrun hkind hstage).trans hfail)

theorem resp_signed (hkind : o.kind = 1) (hstage : (s.key o.link).stage = .signResp) :
    ∃ t, exec (.vaultOperationComplete dt ix) s = .next t ∧ (t.key o.link).stage = .waitConfirm ∧
      (t.key o.link).lastType = 2 ∧ (t.key o.link).due = some ((s.elapse dt).now + 200000000) ∧
      t.sent = s.sent ++
        [.msg o.link (ev 15 2) (le 4 (s.key o.link).session.toNat ++ (t.key o.link).lastBody)] ∧
      t.onlyChanges s [.vault, .outputs] := by
  obtain ⟨h2, body, hsigned⟩ := keySigned_eq (s := s.opDone dt ix) (l := o.link)
  obtain ⟨t, hexec, hkey, hsent, honly⟩ := opAsks
    ((vaultDone_signed (s := s.elapse dt) ho hrun hkind hstage).trans hsigned)
    (only_trans (opDone_only s dt ix) (State.setKey_touch ..)) rfl (key_setKey_self ..)
  exact ⟨t, hexec, congrArg KeyLink.stage hkey, congrArg KeyLink.lastType hkey, congrArg KeyLink.due hkey, hsent,
    honly⟩

theorem resp_verifies (hkind : o.kind = 2) (hstage : (s.key o.link).stage = .verifyResp)
    (hcert : s.certNames o.link (s.key o.link).respBody) (hsigned : (s.key o.link).respSigned) :
    ∃ t, exec (.vaultOperationComplete dt ix) s = .next t ∧ (t.key o.link).stage = .signConfirm ∧
      t.sec.ops = removeAt s.sec.ops ix.val ++ [(⟨o.link, 3⟩ : VaultOp)] ∧ t.onlyChanges s [.vault] := by
  obtain ⟨h2, secret, hsigns⟩ := keyRespVerified_signs (s := s.opDone dt ix) hcert hsigned
  refine ⟨_, congrArg go ((vaultDone_respVerified (s := s.elapse dt) ho hrun hkind hstage).trans hsigns), ?_, ?_,
    go_only (dt := dt) ?_⟩
  · rw [key_of_sec (State.pins_sec _), key_vaultOp, key_setKey_self]
    rfl
  · rw [State.pins_sec]
    rfl
  · exact only_trans (only_trans (opDone_only s dt ix) (State.setKey_touch ..)) (State.vaultOp_touch ..)

theorem resp_fails (hkind : o.kind = 2) (hstage : (s.key o.link).stage = .verifyResp)
    (h : ¬s.certNames o.link (s.key o.link).respBody ∨ ¬(s.key o.link).respSigned) :
    ∃ t, exec (.vaultOperationComplete dt ix) s = .next t ∧ (t.key o.link).stage = .backoff ∧
      t.sec.ops = removeAt s.sec.ops ix.val ∧
      t.tallyAt (tlKey o.link mKeyFail) = min tlyMax (s.tallyAt (tlKey o.link mKeyFail) + 1) := by
  obtain ⟨cause, hfail⟩ := keyRespVerified_fails (s := s.opDone dt ix) (l := o.link) h
  exact opFails ((vaultDone_respVerified (s := s.elapse dt) ho hrun hkind hstage).trans hfail)

theorem confirm_signed (hkind : o.kind = 3) (hstage : (s.key o.link).stage = .signConfirm) :
    ∃ t, exec (.vaultOperationComplete dt ix) s = .next t ∧ (t.key o.link).stage = .waitDone ∧
      (t.key o.link).lastType = 3 ∧
      t.sent = s.sent ++
        [.msg o.link (ev 15 3) (le 4 (s.key o.link).session.toNat ++ (t.key o.link).lastBody)] ∧
      t.onlyChanges s [.vault, .outputs] := by
  obtain ⟨t, hexec, hkey, hsent, honly⟩ := opAsks (vaultDone_confirms (s := s.elapse dt) ho hrun hkind hstage)
    (opDone_only s dt ix) rfl rfl
  exact ⟨t, hexec, congrArg KeyLink.stage hkey, congrArg KeyLink.lastType hkey, hsent, honly⟩

theorem confirm_verifies (hkind : o.kind = 4) (hstage : (s.key o.link).stage = .verifyConfirm)
    (hsigned : (s.key o.link).confSigned) : ∃ t, exec (.vaultOperationComplete dt ix) s = .next t ∧
      t.sa o.link = { sa0 with secured := true, rx := [(0, 0)] } ∧ (t.key o.link).stage = .idle ∧
      (t.key o.link).lastType = 4 ∧ (t.key o.link).keyedAt = some (s.elapse dt).now ∧
      t.tallyAt (tlKey o.link mKeyOk) = min tlyMax (s.tallyAt (tlKey o.link mKeyOk) + 1) := by
  obtain ⟨body, hdone⟩ := keyConfirmed_installs (s := s.opDone dt ix) hsigned
  obtain ⟨hsa, hkey, htally⟩ := keyInstall_installs (s.opDone dt ix) o.link
  refine ⟨_, congrArg go ((vaultDone_confirmed (s := s.elapse dt) ho hrun hkind hstage).trans hdone), ?_⟩
  generalize (s.opDone dt ix).keyInstall o.link = u at hsa hkey htally
  have hlast : ((u.setKey o.link ((u.key o.link).doneSent body)).keySend o.link 4 (u.key o.link).session
      body).key o.link = (u.key o.link).doneSent body := key_setKey_self ..
  rw [State.tallyAt, State.pins_tly, sa_of_fab (State.pins_fab _), key_of_sec (State.pins_sec _), hlast, hkey]
  exact ⟨hsa, rfl, rfl, rfl, htally⟩

theorem confirm_fails (hkind : o.kind = 4) (hstage : (s.key o.link).stage = .verifyConfirm)
    (h : ¬(s.key o.link).confSigned) : ∃ t, exec (.vaultOperationComplete dt ix) s = .next t ∧
      (t.key o.link).stage = .backoff ∧ t.sec.ops = removeAt s.sec.ops ix.val ∧
      t.tallyAt (tlKey o.link mKeyFail) = min tlyMax (s.tallyAt (tlKey o.link mKeyFail) + 1) :=
  opFails ((vaultDone_confirmed (s := s.elapse dt) ho hrun hkind hstage).trans
    (keyConfirmed_fails (s := s.opDone dt ix) h))

end

end Sys2Proof.Machine

/-! SUPPORT. Chapter 15, keying concluded: a session begins, repeats its message, tries again and is renewed
(R493, R495, R496, R498). -/

namespace Sys2Proof.Machine

/-! ### A session begins (R493) -/

section
variable {s : State} {l : Nat} {p : BitVec 48}

/-- A link's session at its start, in its role against `p`. -/
def KeyLink.opened (x : KeyLink) (first : Bool) (p : BitVec 48) : KeyLink :=
  { x with keyed := true, initiator := first, peer := p, stage := .idle, due := none }

/-- The link's session is at its start. -/
def State.keyOpened (s : State) (l : Nat) (first : Bool) (p : BitVec 48) : State :=
  s.setKey l ((s.key l).opened first p)

theorem keyBegin_waits (hpeer : s.knownPeer l = some p) (hrole : p.toNat ≤ Config.nodeMac.toNat) :
    s.keyBegin l = s.keyOpened l false p := by
  have hfirst : decide (Config.nodeMac.toNat < p.toNat) = false := decide_eq_false (by omega)
  unfold State.keyBegin
  rw [hpeer]
  dsimp only
  rw [hfirst]
  rfl

/-- The state after the three draws of a session's start. -/
def State.drawn3 (s : State) : State := (((s.draw 4).2.draw 32).2.draw 64).2

theorem drawn3_keeps (s : State) (l : Nat) : s.drawn3.key l = s.key l ∧ s.drawn3.sec.draws = s.sec.draws + 3 ∧
    s.drawn3.now = s.now ∧ s.drawn3.onlyChanges s [.vault] :=
  ⟨rfl, rfl, rfl, only_trans (only_trans (State.draw_touch _ 4) (State.draw_touch _ 32)) (State.draw_touch _ 64)⟩

/-- The session that an INIT opens. -/
def KeyLink.inits (x : KeyLink) (session : U32) (n : Nat) (body : List Byte) : KeyLink :=
  { x with session := session, draw := n, initBody := body }

theorem keyBegin_asks (hpeer : s.knownPeer l = some p) (hrole : Config.nodeMac.toNat < p.toNat)
    (htrng : s.sec.trngFailed = false) (hown : s.flash.cert ≠ []) : ∃ session n body, s.keyBegin l =
      ((s.keyOpened l true p).drawn3.setKey l
        (((s.keyOpened l true p).drawn3.key l).inits session n body)).keyAsk l 1 .waitResp body := by
  have hfirst : decide (Config.nodeMac.toNat < p.toNat) = true := decide_eq_true hrole
  unfold State.keyBegin
  rw [hpeer]
  dsimp only
  rw [hfirst]
  refine ⟨_, _, _, (if_neg nofun).trans ((if_neg ?_).trans (if_neg ?_))⟩
  · show ¬s.sec.trngFailed = true
    rw [htrng]
    nofun
  · show ¬(!s.hasCert) = true
    rw [hasCert_iff.mpr hown]
    nofun

/-- Keying of a link can start. -/
abbrev State.canStartKey (s : State) (l : Nat) : Prop :=
  s.canKey = true ∧ (s.key l).isOpen = false ∧ s.linkUp l = true

theorem canStartKey_iff : ¬s.canStartKey l ↔ (!s.canKey || (s.key l).isOpen || !s.linkUp l) = true := by
  simp only [State.canStartKey, Bool.or_eq_true, Bool.not_eq_true', not_and_or, Bool.not_eq_true, Bool.not_eq_false,
    or_assoc]

theorem keyStart_idle (h : ¬s.canStartKey l) : s.keyStart l = s := if_pos (canStartKey_iff.mp h)

theorem keyStart_begins (h : s.canStartKey l) : s.keyStart l = s.keyBegin l :=
  if_neg (canStartKey_iff.not.mp (not_not.mpr h))

end

/-! ### A command that starts keying -/

section
variable {o : Out} {s : State} {dt l : Nat} (ho : o = go ((s.elapse dt).keyStart l))
include ho

theorem start_idle (h : ¬s.canStartKey l) : ∃ t, o = .next t ∧ t.onlyChanges s [] :=
  exec_idle (dt := dt) (ho.trans (congrArg go (keyStart_idle (s := s.elapse dt) h)))

variable (h : s.canStartKey l) {p : BitVec 48} (hpeer : s.knownPeer l = some p)
include h hpeer

theorem start_waits (hrole : p.toNat ≤ Config.nodeMac.toNat) : ∃ t, o = .next t ∧
    t.key l = (s.key l).opened false p ∧ t.onlyChanges s [.vault] := by
  refine ⟨_, ho.trans (congrArg go ((keyStart_begins (s := s.elapse dt) h).trans
    (keyBegin_waits (s := s.elapse dt) hpeer hrole))), ?_, go_only (dt := dt) (State.setKey_touch ..)⟩
  rw [key_of_sec (State.pins_sec _)]
  exact key_setKey_self ..

theorem start_asks (hrole : Config.nodeMac.toNat < p.toNat) (htrng : s.sec.trngFailed = false)
    (hown : s.flash.cert ≠ []) : ∃ t, o = .next t ∧ (t.key l).stage = .waitResp ∧ (t.key l).initiator = true ∧
      (t.key l).peer = p ∧ (t.key l).lastType = 1 ∧ (t.key l).repeats = 0 ∧
      (t.key l).due = some ((s.elapse dt).now + 200000000) ∧ t.sec.draws = s.sec.draws + 3 ∧
      t.sent = s.sent ++ [.msg l (ev 15 1) (le 4 (t.key l).session.toNat ++ (t.key l).initBody)] ∧
      t.onlyChanges s [.vault, .outputs] := by
  obtain ⟨session, n, body, hbegin⟩ := keyBegin_asks (s := s.elapse dt) hpeer hrole htrng hown
  have hexec := ho.trans (congrArg go ((keyStart_begins (s := s.elapse dt) h).trans hbegin))
  obtain ⟨hu, hdraws, hnow, honly⟩ := drawn3_keeps ((s.elapse dt).keyOpened l true p) l
  have hopened : ((s.elapse dt).keyOpened l true p).onlyChanges (s.elapse dt) [.vault] := State.setKey_touch ..
  rw [show ((s.elapse dt).keyOpened l true p).key l = (s.key l).opened true p from key_setKey_self ..] at hu
  generalize ((s.elapse dt).keyOpened l true p).drawn3 = u at hexec hu hdraws hnow honly
  have hkey : ((u.setKey l ((u.key l).inits session n body)).keyAsk l 1 .waitResp body).pins.key l =
      (((s.key l).opened true p).inits session n body).asks (s.elapse dt).now 1 .waitResp body := by
    rw [key_of_sec (State.pins_sec _), keyAsk_eq, key_setKey_self, hu]
    exact (key_setKey_self ..).trans (congrArg (KeyLink.asks _ · _ _ _) hnow)
  have hasked := only_trans (only_trans hopened honly) (State.setKey_touch u l ((u.key l).inits session n body))
  refine ⟨_, hexec, ?_⟩
  rw [hkey]
  refine ⟨rfl, rfl, rfl, rfl, rfl, rfl, ?_, ?_, go_only (dt := dt) ?_⟩
  · rw [State.pins_sec]
    exact hdraws
  · rw [State.pins_sent, keyAsk_eq, keySend_sent, key_setKey_self, hu]
    exact congrArg (· ++ _) (hasked.2 .outputs (by decide))
  · exact only_step (only_sub hasked (by decide)) (State.keyAsk_touch ..) (by decide)

end

/-! ### KEYING_RETRANSMIT_TIMEOUT (R495) -/

section
variable {s : State} {dt n : Nat} {k : Fin 25}

/-- A session whose last message can be repeated. -/
abbrev State.keyLive (s : State) (l : Nat) : Prop :=
  s.linkUp l = true ∧ (s.key l).stage ≠ .backoff ∧ (s.key l).lastType ≠ 0

/-- A session after it repeated its message. -/
def KeyLink.repeated (x : KeyLink) (now : Nat) : KeyLink :=
  { x with repeats := x.repeats + 1, due := some (now + 200000000) }

theorem keyRepeat_due {l : Nat} (hdue : (s.key l).due = some n) : s.keyRepeat l =
    if (decide (s.now < n) || decide ((s.key l).stage = .backoff) || decide ((s.key l).lastType = 0) ||
      !s.linkUp l) = true then s
    else if (s.key l).repeats ≥ 3 then s.keyFail l 3
    else (s.setKey l ((s.key l).repeated s.now)).keySend l (s.key l).lastType (s.key l).session
      (s.key l).lastBody := by
  unfold State.keyRepeat
  dsimp only
  rw [hdue]
  rfl

theorem keyLive_iff {l : Nat} : ¬s.keyLive l ↔ (decide ((s.key l).stage = .backoff) ||
    decide ((s.key l).lastType = 0) || !s.linkUp l) = true := by
  simp only [State.keyLive, Bool.or_eq_true, Bool.not_eq_true', decide_eq_true_eq, not_and_or, Bool.not_eq_true,
    ne_eq, not_not]
  tauto

theorem keyRepeat_now {l : Nat} (hdue : (s.key l).due = some n) (hn : n ≤ s.now) (hlive : s.keyLive l) :
    s.keyRepeat l = if (s.key l).repeats ≥ 3 then s.keyFail l 3
      else (s.setKey l ((s.key l).repeated s.now)).keySend l (s.key l).lastType (s.key l).session
        (s.key l).lastBody := by
  refine (keyRepeat_due hdue).trans (if_neg ?_)
  rw [Bool.or_assoc, Bool.or_assoc, Bool.or_eq_true, decide_eq_true_eq, ← Bool.or_assoc, ← keyLive_iff, not_or,
    not_not]
  exact ⟨by omega, hlive⟩

theorem retransmit_repeats (hdue : (s.key k.val).due = some n) (hn : n ≤ (s.elapse dt).now) (hlive : s.keyLive k.val)
    (hrep : (s.key k.val).repeats < 3) : ∃ t, exec (.keyingRetransmitTimeout dt k) s = .next t ∧
      t.key k.val = (s.key k.val).repeated (s.elapse dt).now ∧
      t.sent = s.sent ++ [.msg k.val (ev 15 (s.key k.val).lastType)
        (le 4 (s.key k.val).session.toNat ++ (s.key k.val).lastBody)] ∧ t.onlyChanges s [.vault, .outputs] := by
  refine ⟨_, congrArg go ((keyRepeat_now (s := s.elapse dt) hdue hn hlive).trans (if_neg (by
    show ¬(s.key k.val).repeats ≥ 3
    omega))), ?_, ?_, go_only (dt := dt) ?_⟩
  · rw [key_of_sec (State.pins_sec _)]
    exact key_setKey_self (s.elapse dt) k.val _
  · rw [State.pins_sent]
    rfl
  · exact only_step (only_sub (State.setKey_touch ..) (by decide)) (State.keySend_touch ..) (by decide)

theorem retransmit_fails (hdue : (s.key k.val).due = some n) (hn : n ≤ (s.elapse dt).now) (hlive : s.keyLive k.val)
    (hrep : 3 ≤ (s.key k.val).repeats) : ∃ t, exec (.keyingRetransmitTimeout dt k) s = .next t ∧
      (t.key k.val).stage = .backoff ∧
      t.tallyAt (tlKey k.val mKeyFail) = min tlyMax (s.tallyAt (tlKey k.val mKeyFail) + 1) := by
  obtain ⟨hkey, -, htally⟩ := keyFail_fails (s.elapse dt) k.val 3
  refine ⟨_, congrArg go ((keyRepeat_now (s := s.elapse dt) hdue hn hlive).trans (if_pos hrep)), ?_⟩
  rw [State.tallyAt, State.pins_tly, key_of_sec (State.pins_sec _)]
  exact ⟨congrArg KeyLink.stage hkey, htally⟩

theorem retransmit_idle (h : (s.key k.val).due = none ∨ ¬s.keyLive k.val ∨
      ∃ n, (s.key k.val).due = some n ∧ (s.elapse dt).now < n) :
    ∃ t, exec (.keyingRetransmitTimeout dt k) s = .next t ∧ t.onlyChanges s [] := by
  refine exec_idle (dt := dt) (congrArg go ?_)
  match hdue : (s.key k.val).due with
  | none =>
    unfold State.keyRepeat
    dsimp only
    rw [show ((s.elapse dt).key k.val).due = none from hdue]
  | some n =>
    refine (keyRepeat_due (s := s.elapse dt) hdue).trans (if_pos ?_)
    rw [Bool.or_assoc, Bool.or_assoc, Bool.or_eq_true, decide_eq_true_eq, ← Bool.or_assoc, ← keyLive_iff]
    obtain h | h | ⟨j, hj, hlt⟩ := h
    · exact nomatch h.symm.trans hdue
    · exact .inr h
    · obtain rfl : j = n := Option.some.inj (hj.symm.trans hdue)
      exact .inl hlt

end

/-! ### KEYING_RETRY and REKEY_TIMER (R496, R498) -/

section
variable {s : State} {dt : Nat} {k : Fin 25}

/-- A failed session whose wait is over. -/
abbrev State.retryDue (s : State) (dt l : Nat) : Prop :=
  (s.key l).stage = .backoff ∧ ∃ n, (s.key l).due = some n ∧ n ≤ (s.elapse dt).now

/-- An initiator's session that is to be renewed. -/
abbrev State.rekeyDue (s : State) (dt l : Nat) : Prop :=
  (s.key l).initiator = true ∧ (s.key l).stage = .idle ∧
    ∃ n, (s.key l).keyedAt = some n ∧ n + fld s.sec.policy 4 2 * 3600000000000 ≤ (s.elapse dt).now

theorem keyingRetry_starts (h : s.retryDue dt k.val) :
    exec (.keyingRetry dt k) s = go ((s.elapse dt).keyStart k.val) := by
  obtain ⟨hstage, n, hdue, hn⟩ := h
  show execKeyingRetry dt k s = _
  unfold execKeyingRetry
  dsimp only
  rw [show ((s.elapse dt).key k.val).due = some n from hdue]
  refine if_pos ?_
  rw [Bool.and_eq_true, decide_eq_true_eq, decide_eq_true_eq]
  exact ⟨hstage, hn⟩

theorem keyingRetry_idle (h : ¬s.retryDue dt k.val) :
    ∃ t, exec (.keyingRetry dt k) s = .next t ∧ t.onlyChanges s [] := by
  refine exec_idle (dt := dt) ?_
  show execKeyingRetry dt k s = _
  unfold execKeyingRetry
  dsimp only
  split
  next n hdue =>
    refine if_neg ?_
    rw [Bool.and_eq_true, decide_eq_true_eq, decide_eq_true_eq]
    exact fun ⟨hstage, hn⟩ => h ⟨hstage, n, hdue, hn⟩
  · rfl

theorem rekeyTimer_starts (h : s.rekeyDue dt k.val) :
    exec (.rekeyTimer dt k) s = go ((s.elapse dt).keyStart k.val) := by
  obtain ⟨hfirst, hstage, n, hat, hn⟩ := h
  show execRekeyTimer dt k s = _
  unfold execRekeyTimer
  dsimp only
  rw [show ((s.elapse dt).key k.val).keyedAt = some n from hat]
  refine if_pos ?_
  rw [Bool.and_eq_true, Bool.and_eq_true, decide_eq_true_eq, decide_eq_true_eq]
  exact ⟨⟨hfirst, hstage⟩, hn⟩

theorem rekeyTimer_idle (h : ¬s.rekeyDue dt k.val) :
    ∃ t, exec (.rekeyTimer dt k) s = .next t ∧ t.onlyChanges s [] := by
  refine exec_idle (dt := dt) ?_
  show execRekeyTimer dt k s = _
  unfold execRekeyTimer
  dsimp only
  split
  next n hat =>
    refine if_neg ?_
    rw [Bool.and_eq_true, Bool.and_eq_true, decide_eq_true_eq, decide_eq_true_eq]
    exact fun ⟨⟨hfirst, hstage⟩, hn⟩ => h ⟨hfirst, hstage, n, hat, hn⟩
  · rfl

end

/-! ### O57 -/

/-- Settles O57, by what each message, each operation of the vault and each timer does with a link's session. -/
theorem linksAreKeyed : Obligations.LinksAreKeyed := by
  unfold Obligations.LinksAreKeyed
  refine ⟨fun s dt m => ?_, fun s dt ix => ?_, fun s dt k => ?_⟩
  · refine ⟨fun h hnew => keyInitRx_begins h hnew, fun h hagain hlast => keyInitRx_again h hagain hlast,
      keyInitRx_still, ⟨keyRespRx_takes, keyRespRx_again, keyRespRx_still⟩,
      ⟨keyConfirmRx_takes, keyConfirmRx_again, keyConfirmRx_still⟩, ⟨keyDoneRx_installs, keyDoneRx_still⟩,
      keyNextRx_fails, keyNextRx_answers, keyNextAckRx_fails, keyNextAckRx_moves,
      fun h => ⟨keyNextRx_still h, keyNextAckRx_still (.inl h)⟩, fun _ h => keyNextAckRx_still (.inr h),
      fun hup hbusy hours => keyAbortRx_fails ⟨hup, hbusy, hours⟩, fun h => keyAbortRx_still ?_⟩
    rwa [Bool.not_eq_true] at h
  · refine ⟨vaultOp_idle, fun o ho hrun => ⟨fun h hkind hpend => quote_completes ho hrun hkind hpend,
      fun hkind hstage => ⟨init_verifies ho hrun hkind hstage, init_fails ho hrun hkind hstage⟩,
      resp_signed ho hrun, fun hkind hstage => ⟨resp_verifies ho hrun hkind hstage, resp_fails ho hrun hkind hstage⟩,
      confirm_signed ho hrun,
      fun hkind hstage => ⟨confirm_verifies ho hrun hkind hstage, confirm_fails ho hrun hkind hstage⟩⟩⟩
  · have hbegun {c : Instr} (hc : exec c s = go ((s.elapse dt).keyStart k.val)) :=
      And.intro (start_idle (l := k.val) hc) (And.intro
        (fun p h hpeer hrole => start_waits (p := p) hc h hpeer hrole)
        (fun p h hpeer hrole htrng hown => start_asks (p := p) hc h hpeer hrole htrng hown))
    exact ⟨fun n hdue hn hlive hrep => retransmit_repeats hdue hn hlive hrep,
      fun n hdue hn hlive hrep => retransmit_fails hdue hn hlive hrep, retransmit_idle,
      fun h => hbegun (keyingRetry_starts h), keyingRetry_idle, fun h => hbegun (rekeyTimer_starts h),
      rekeyTimer_idle⟩

end Sys2Proof.Machine
